-- ==== Sys2Proof/Word.lean ====
section
/-! DEFINITION. The widths of the module's data: bytes, half-words, 32-bit registers and 64-bit values (R8, R10). -/

namespace Sys2Proof

/-- A byte; multi-byte values are little-endian (R8). -/
abbrev Byte := BitVec 8

/-- A half-word. -/
abbrev Half := BitVec 16

/-- A peripheral register or SRAM word is 32 bits wide (R10, R307). -/
abbrev Word := BitVec 32

/-- A bundle, an MRAM word or a 64-bit register value (R19, R248, R313). -/
abbrev DWord := BitVec 64

end Sys2Proof
end

