-- ==== Sys2Proof/Machine/Bits.lean ====
section
/-! DEFINITION. Bit fields, byte order, counters and check codes shared by every block. -/

namespace Sys2Proof.Machine

/-- The unsigned value of the field of `width` bits that starts at bit `lo` of a register. -/
def field (w : Word) (lo width : Nat) : Nat := (w.toNat >>> lo) % 2 ^ width

/-- One bit of a register. -/
def bit (w : Word) (i : Nat) : Bool := w.getLsbD i

/-- A flag as the number 0 or 1. -/
def b01 (b : Bool) : Nat := if b then 1 else 0

/-- A register assembled from fields, each given by its lowest bit and its value; the fields do not overlap. -/
def pack (fs : List (Nat × Nat)) : Word := BitVec.ofNat 32 (fs.foldr (fun f n => n + f.2 * 2 ^ f.1) 0)

/-- A 64-bit tally payload assembled in the same way. -/
def pack64 (fs : List (Nat × Nat)) : DWord := BitVec.ofNat 64 (fs.foldr (fun f n => n + f.2 * 2 ^ f.1) 0)

/-- A register that holds one bit per unit, the first unit in bit 0. -/
def bitmap (bs : List Bool) : Word := BitVec.ofNat 32 (bs.foldr (fun b n => b01 b + 2 * n) 0)

/-- A counter that saturates at its largest value. [log 19 DEDUCED] -/
def satInc {n : Nat} (c : BitVec n) : BitVec n := if c = BitVec.allOnes n then c else c + 1

/-- A counter that adds `k` and saturates. [log 19 DEDUCED] -/
def satAdd {n : Nat} (c : BitVec n) (k : Nat) : BitVec n :=
  if c.toNat + k < 2 ^ n then BitVec.ofNat n (c.toNat + k) else BitVec.allOnes n

/-- A write of 1 clears a bit and a write of 0 leaves it (Table 0.7, W1C). -/
def w1c {n : Nat} (cur v : BitVec n) : BitVec n := cur &&& ~~~v

/-- Set bit `i`. -/
def setBit {n : Nat} (w : BitVec n) (i : Nat) : BitVec n := w ||| (1#n <<< i)

/-- Clear bit `i`. -/
def clrBit {n : Nat} (w : BitVec n) (i : Nat) : BitVec n := w &&& ~~~(1#n <<< i)

/-- Give bit `i` the value `b`. -/
def putBit {n : Nat} (w : BitVec n) (i : Nat) (b : Bool) : BitVec n := if b then setBit w i else clrBit w i

/-- The `n` bytes of a number, lowest first (R8). -/
def leBytes : Nat → Nat → List Byte
  | 0, _ => []
  | n + 1, v => BitVec.ofNat 8 v :: leBytes n (v / 256)

/-- The number whose bytes are given lowest first (R8). -/
def ofLe : List Byte → Nat
  | [] => 0
  | b :: bs => b.toNat + 256 * ofLe bs

/-- The number whose bytes are given highest first (SEC 1, R62). -/
def ofBe (bs : List Byte) : Nat := bs.foldl (fun n b => 256 * n + b.toNat) 0

/-- The `n` bytes of a number, highest first. -/
def beBytes (n v : Nat) : List Byte := (leBytes n v).reverse

/-- Byte `i` of a list, 0 beyond its end. -/
def byteAt (bs : List Byte) (i : Nat) : Byte := bs.getD i 0

/-- `n` bytes of a list from offset `i`, little-endian; bytes beyond the end count as 0. -/
def leAt (bs : List Byte) (i n : Nat) : Nat := ofLe ((List.range n).map fun j => byteAt bs (i + j))

/-- `n` bytes of a list from offset `i`. -/
def slice (bs : List Byte) (i n : Nat) : List Byte := (List.range n).map fun j => byteAt bs (i + j)

/-- One bit of CRC-16 with polynomial 0x1021. -/
def crc16Step (c : Half) : Half := if c.msb then (c <<< 1) ^^^ 0x1021#16 else c <<< 1

/-- One byte of CRC-16. -/
def crc16Byte (c : Half) (b : Byte) : Half :=
  let c := c ^^^ (b.setWidth 16 <<< 8)
  crc16Step (crc16Step (crc16Step (crc16Step (crc16Step (crc16Step (crc16Step (crc16Step c)))))))

/-- CRC-16, polynomial 0x1021, initial value 0xFFFF (Table 13.4, Table 14.1, Table 20.3). -/
def crc16 (bs : List Byte) : Half := bs.foldl crc16Byte 0xFFFF#16

/-- One bit of CRC-32 with the IEEE 802.3 polynomial, least significant bit first. -/
def crc32Step (c : Word) : Word := if c.getLsbD 0 then (c >>> 1) ^^^ 0xEDB88320#32 else c >>> 1

/-- One byte of CRC-32. -/
def crc32Byte (c : Word) (b : Byte) : Word :=
  let c := c ^^^ b.setWidth 32
  crc32Step (crc32Step (crc32Step (crc32Step (crc32Step (crc32Step (crc32Step (crc32Step c)))))))

/-- CRC-32 with the IEEE 802.3 polynomial, the FCS of a frame (R358). -/
def crc32 (bs : List Byte) : Word := ~~~(bs.foldl crc32Byte 0xFFFFFFFF#32)

/-- One bit of the CRC-6 of the poll telegram, polynomial x^6 + x + 1 (Table 17.3). -/
def crc6Step (c : BitVec 6) (b : Bool) : BitVec 6 :=
  if (c.msb != b) then (c <<< 1) ^^^ 0x03#6 else c <<< 1

/-- CRC-6 over bits given most significant first, initial value 0. -/
def crc6 (bs : List Bool) : BitVec 6 := bs.foldl crc6Step 0

/-- Replace the entry of one unit. -/
def upd {α : Type} {n : Nat} (v : Vector α n) (i : Fin n) (f : α → α) : Vector α n := v.set i (f v[i])

/-- Replace the entry whose number is `i`, if there is one. -/
def updNat {α : Type} {n : Nat} (v : Vector α n) (i : Nat) (f : α → α) : Vector α n :=
  if h : i < n then v.set i (f v[i]) else v

/-- The entry whose number is `i`, or the first one's stand-in `d` when there is no such unit. -/
def getNat {α : Type} {n : Nat} (v : Vector α n) (i : Nat) (d : α) : α := v.toList.getD i d

/-- All entries rewritten, each with its own number. -/
def mapUnits {α β : Type} {n : Nat} (v : Vector α n) (f : Fin n → α → β) : Vector β n :=
  Vector.ofFn fun i => f i v[i]

/-- A signed 16-bit reading as an integer. -/
def s16 (w : Half) : Int := w.toInt

/-- `x` limited to the range `lo` to `hi`. -/
def clampInt (lo hi x : Int) : Int := if x < lo then lo else if hi < x then hi else x

/-- The smallest number of steps of `b` that reach `a`. -/
def ceilDiv (a b : Nat) : Nat := (a + (b - 1)) / b

/-- Division rounded toward zero, the trunc of R169. -/
def truncDiv (a b : Int) : Int := Int.tdiv a b

end Sys2Proof.Machine
end

