-- ==== Sys2Proof/Machine/Types.lean ====
section
/-! DEFINITION. Requesters, blocks, head registers, read latches and held writes: what every register block shares. -/

namespace Sys2Proof.Machine

/-- Who reads or writes a register (R15, R19): the shepherd core in keeper or task level, a tick core, the service
port, or the fabric. -/
inductive Requester where
  | keeper
  | task
  | tick (k : Fin 4)
  | service
  | fabric
  deriving DecidableEq, Repr, Inhabited

/-- The place of a requester's one read latch and one held write (R19, R20). -/
def Requester.slot : Requester → Fin 8
  | .tick k => ⟨k.val, by omega⟩
  | .service => 4
  | .fabric => 5
  | .keeper => 6
  | .task => 7

/-- The shepherd core at either level. -/
def Requester.isShepherd : Requester → Bool
  | .keeper => true
  | .task => true
  | _ => false

/-- The place of a requester in the order of R15: the shepherd core, the service port, the fabric. -/
def Requester.rank : Requester → Nat
  | .service => 1
  | .fabric => 2
  | _ => 0

/-- The place of a requester in the order of R560: that of R15, with tick cores after the service port. -/
def Requester.place : Requester → Nat
  | .service => 1
  | .tick _ => 2
  | .fabric => 3
  | _ => 0

/-- ERRSRC.REQ of Table 23.3. -/
def Requester.code : Requester → Nat
  | .keeper => 0
  | .task => 0
  | .tick _ => 1
  | .service => 2
  | .fabric => 3

/-- ERRSRC.TC of Table 23.3. -/
def Requester.core : Requester → Nat
  | .tick k => k.val
  | _ => 0

/-- The owner ID of a core: 0 for the shepherd core, 1 to 4 for the tick cores; the service port has 15. -/
def Requester.coreId : Requester → Option (Fin 5)
  | .keeper => some 0
  | .task => some 0
  | .tick k => some ⟨k.val + 1, by omega⟩
  | _ => none

/-- The peripheral blocks of Table 23.1, in the order of their index. -/
inductive Block where
  | sys | tick | strct | hsw | sol | led | din | hurdle | time | tally | fab | mbus | aud | acc | key | pwr | mem
  | que | dwin | upd | pert
  deriving DecidableEq, Repr, Inhabited

/-- The index of a block (Table 23.1), which is also its event line (Table 23.4). -/
def Block.idx : Block → Fin 21
  | .sys => 0 | .tick => 1 | .strct => 2 | .hsw => 3 | .sol => 4 | .led => 5 | .din => 6 | .hurdle => 7
  | .time => 8 | .tally => 9 | .fab => 10 | .mbus => 11 | .aud => 12 | .acc => 13 | .key => 14 | .pwr => 15
  | .mem => 16 | .que => 17 | .dwin => 18 | .upd => 19 | .pert => 20

/-- All blocks in the order of their index. -/
def Block.all : List Block :=
  [.sys, .tick, .strct, .hsw, .sol, .led, .din, .hurdle, .time, .tally, .fab, .mbus, .aud, .acc, .key, .pwr,
   .mem, .que, .dwin, .upd, .pert]

/-- The base address of a block (R553): 64 KiB apart from 0x2000_0000. -/
def Block.base (b : Block) : Nat := 0x20000000 + b.idx.val * 0x10000

/-- What has acted on the registers of a block in one cycle of the clocks (R15, R17, R18), each register given by its
offset in the block. -/
structure CycNote where
  /-- the cycle: TB0, the cycles of REST, the cycles of the shepherd core -/
  at_ : Nat × Nat × Nat
  /-- W1C bits that hardware has set: the register and the bits (R17) -/
  bits : List (Nat × Word)
  /-- counters that hardware has raised: the register, the lowest bit of the counter and by how much (R18) -/
  incs : List (Nat × Nat × Nat)
  /-- counter registers that a requester has written, and the value written (R18) -/
  wrote : List (Nat × Word)
  /-- what has been served, and the place in the fixed order of the last one served (R15, R293, R328, R332, R407) -/
  turn : List (Nat × Nat)
  deriving DecidableEq, Repr, Inhabited

/-- Nothing has acted. -/
def CycNote.start (at_ : Nat × Nat × Nat) : CycNote := ⟨at_, [], [], [], []⟩

/-- The head registers every block carries (R555): IRQ_STATUS, IRQ_ENABLE and ERR, and what has acted on the block's
registers in the cycle in progress. -/
structure Head where
  irq : Word
  en : Word
  err : Word
  cyc : CycNote
  deriving DecidableEq, Repr, Inhabited

/-- Head registers of zeros. -/
def Head.start : Head := ⟨0, 0, 0, CycNote.start (0, 0, 0)⟩

/-- A read latch (R19): the address of the register whose low word was read, and the words latched with it. -/
structure Latch where
  reg : Nat
  words : List Word
  deriving DecidableEq, Repr, Inhabited

/-- A held low word (R20): the address of the register it was written to, and the word. -/
structure Held where
  reg : Nat
  word : Word
  deriving DecidableEq, Repr, Inhabited

end Sys2Proof.Machine
end

