-- ==== Sys2Proof/Machine/TypesImage.lean ====
section
/-! DEFINITION. The structure image as the module holds it: the values of its sections (Tables 3.6 to 3.15 and the
section tables of the function chapters). -/

namespace Sys2Proof.Machine

/-- One HS channel: HSFN of the PINS section and its SWITCH record (Tables 3.7, 3.8). For HSFN 4, `octh` is the
filter limit. -/
structure HsCfg where
  fn : Nat
  octh : Nat
  inth : Nat
  ocflt : Nat
  intime : Nat
  n : Nat
  olOn : Bool
  olOff : Bool
  group : Nat
  deriving DecidableEq, Repr, Inhabited

/-- One solenoid driver: SOLFN and its driver record (Table 3.9). -/
structure SolCfg where
  fn : Nat
  feed : Nat
  chop : Nat
  minoff : Nat
  deriving DecidableEq, Repr, Inhabited

/-- A solenoid profile (Table 5.2). -/
structure Profile where
  ipeak : Nat
  tpeak : Nat
  ihold : Nat
  thold : Nat
  chains : Bool
  chain : Nat
  dip : Nat
  moveto : Nat
  late : Nat
  deriving DecidableEq, Repr, Inhabited

/-- One field input: DIFN and its filter limit (Tables 3.7, 3.10). -/
structure DiCfg where
  fn : Nat
  limit : Nat
  deriving DecidableEq, Repr, Inhabited

/-- One LED string (Table 3.11). -/
structure StrCfg where
  enable : Bool
  code : Nat
  posmask : Nat
  deriving DecidableEq, Repr, Inhabited

/-- One chain line: CLFN and its record (Tables 3.7, 3.11). -/
structure ChainCfg where
  fn : Nat
  devices : Nat
  span : Nat
  deriving DecidableEq, Repr, Inhabited

/-- An OUTPUTS record (Table 3.12); `sources` lists the source IDs with their priorities. -/
structure OutCfg where
  rest : Nat
  hold : Nat
  subst : Nat
  sources : List (Nat × Nat)
  deriving DecidableEq, Repr, Inhabited

/-- A HURDLE record (Table 8.6). -/
structure HurdleRec where
  kind : Nat
  esc : Bool
  out : Nat
  p1 : Nat
  p2 : Nat
  escTime : Nat
  deriving DecidableEq, Repr, Inhabited

/-- A queue binding (Table 3.14). -/
structure QueueCfg where
  bank : Nat
  depth : Nat
  esize : Nat
  base : Nat
  producer : Nat
  consumer : Nat
  deriving DecidableEq, Repr, Inhabited

/-- A PROOF core record (Table 3.15). -/
structure ProofCfg where
  worst : Nat
  budget : Nat
  entry : Nat
  digest : List Byte
  deriving DecidableEq, Repr, Inhabited

/-- A structure image. The FILTERS, SLOTPLAN, AUDIO and ACCESS sections are kept as their body bytes, empty when the
section is absent; the functions of their chapters read the fields. -/
structure Image where
  serial : Word
  digest : List Byte
  period : Nat
  commit : Nat
  hs : Vector HsCfg 96
  di : Vector DiCfg 128
  diClass : Vector Nat 8
  sol : Vector SolCfg 16
  profiles : List Profile
  str : Vector StrCfg 8
  chain : Vector ChainCfg 4
  outs : Vector (Option OutCfg) 256
  budget : Nat
  shedMin : Nat
  recs : List HurdleRec
  filterBody : List Byte
  slotBody : List Byte
  audioBody : List Byte
  accessBody : List Byte
  banks : Vector Nat 16
  queues : Vector (Option QueueCfg) 128
  minOp : Nat
  proof : Vector ProofCfg 4
  deriving DecidableEq, Repr

/-- An unused HS channel. -/
def HsCfg.unused : HsCfg := ⟨0, 0, 0, 0, 0, 0, false, false, 0⟩

/-- What the SI fields hold while no image is in force: every lane unused, the defaults of Table 3.5 for the tick and
the input classes (R200). [log 3 DESIGN CHOICE] -/
def Image.empty : Image where
  serial := 0
  digest := List.replicate 32 0
  period := 2
  commit := 48
  hs := Vector.replicate 96 HsCfg.unused
  di := Vector.replicate 128 ⟨0, 0⟩
  diClass := Vector.ofFn fun f => if f.val = 7 then 0x10 else 1
  sol := Vector.replicate 16 ⟨0, 0xFF, 0, 0⟩
  profiles := []
  str := Vector.replicate 8 ⟨false, 0, 0⟩
  chain := Vector.replicate 4 ⟨0, 0, 0⟩
  outs := Vector.replicate 256 none
  budget := 0
  shedMin := 0
  recs := []
  filterBody := []
  slotBody := []
  audioBody := []
  accessBody := []
  banks := Vector.replicate 16 0
  queues := Vector.replicate 128 none
  minOp := 0
  proof := Vector.replicate 4 ⟨0, 0, 0, List.replicate 32 0⟩

end Sys2Proof.Machine
end

