-- ==== Sys2Proof/Machine/TypesTime.lean ====
section
/-! DEFINITION. The records of the time bases, the tally and the frame tick. -/

namespace Sys2Proof.Machine

/-- A change of a time base: TB0 at that instant, and what the base read, its rate and its service before it (R346). -/
structure BaseChange where
  at_ : BitVec 96
  value : BitVec 96
  rate : Word
  oos : Bool
  deriving DecidableEq, Repr, Inhabited

/-- A time base (R335): 64 bits of nanoseconds above 32 bits of fraction, its RATE, its step permission and service
state, and the marks of Table 13.10. -/
structure TimeBase where
  value : BitVec 96
  rate : Word
  stepOk : Bool
  oos : Bool
  slew : Bool
  /-- TB_STEP as last written (R20) -/
  stepReg : DWord
  /-- the changes of value, rate and service of the last second, the newest first (R346) -/
  past : List BaseChange
  deriving DecidableEq, Repr, Inhabited

/-- The whole nanoseconds of a base. -/
def TimeBase.ns (b : TimeBase) : DWord := (b.value >>> 32).setWidth 64

/-- The fraction of a base in units of 2^-32 ns. -/
def TimeBase.frac (b : TimeBase) : Word := b.value.setWidth 32

/-- The TIME block: the four bases and the last capture (R337, R345). -/
structure TimeBlk where
  tb : Vector TimeBase 4
  cap : Vector DWord 4
  /-- ticks executed since the last TIME_MAP entry (R354) -/
  mapTicks : Nat
  deriving DecidableEq, Repr, Inhabited

/-- A tally entry (Table 13.4); its CRC is computed from the other fields when the entry is laid out in bytes. -/
structure Entry where
  time : DWord
  seq : Word
  loc : Word
  code : Half
  flags : Byte
  origin : Byte
  boot : Half
  payload : DWord
  deriving DecidableEq, Repr, Inhabited

/-- An entry in the journal with its archive mark (R351). -/
structure JEntry where
  e : Entry
  archived : Bool
  deriving DecidableEq, Repr, Inhabited

/-- The TALLY block. `journal` holds the newest entry first, at most one per journal index (R350). -/
structure TallyBlk where
  journal : List JEntry
  seq : Word
  /-- the cycle of the newest entries, and how many have been written in it (R348) -/
  sameAt : Nat × Nat × Nat
  sameN : Nat
  lost : Word
  dropped : Nat
  firstDropped : Word
  archSlot : BitVec 17
  archiving : Bool
  /-- SEQ of the newest archived entry (R349) -/
  archSeq : Option Word
  boot : Word
  thresh : BitVec 13
  irqSev : BitVec 3
  rdptr : BitVec 13
  fwCode : Half
  fwSev : BitVec 3
  fwBase : BitVec 2
  fwLoc : Word
  fwPayLo : Word
  fwPayHi : Word
  deriving DecidableEq, Repr, Inhabited

/-- Where the tick stands (Table 2.1): no tick has run since the start, the tick has begun and its sample mark is due,
or the phase in progress. -/
inductive Phase where
  | off | begun | engine | core | envelope | measure | guard
  deriving DecidableEq, Repr, Inhabited

/-- The state of one tick core's program in the tick (Table 2.15). -/
inductive TcState where
  | notLoaded | waiting | running | stopped
  deriving DecidableEq, Repr, Inhabited

/-- The code of Table 2.15. -/
def TcState.code : TcState → Nat
  | .notLoaded => 0 | .waiting => 1 | .running => 2 | .stopped => 3

/-- The TICK block and the tick generator. -/
structure TickBlk where
  /-- driving base: true when it is TB1 (R36) -/
  src : Bool
  /-- the tick number n (TICK_COUNT) -/
  count : DWord
  phase : Phase
  /-- TB0 and the driving base, in nanoseconds, at the start of the tick in progress -/
  startTb0 : DWord
  startDrv : DWord
  /-- the driving base stepped since the tick began (R38) -/
  stepped : Bool
  stretch : Half
  overrun : Vector Byte 4
  tc : Vector TcState 4
  held : Nat
  resting : Nat
  holdSel : BitVec 10
  /-- ticks executed since the start, the count of R39 -/
  executed : Nat
  /-- consecutive sample marks without a valid sample frame of each outer die (R31) -/
  staleRun : Vector Nat 5
  /-- consecutive ticks without a valid commit frame on each die (R30) -/
  missed : Vector Nat 5
  /-- the die holds the rest pattern until valid commit frames return (R30) -/
  dieRest : Vector Bool 5
  /-- the number of the tick before (R424), and the steps of the driving base in this one in ns (R422) -/
  lastCount : DWord
  stepSum : Int
  /-- TB0 in nanoseconds at the commit mark up to which each die has counted its ticks (R30) -/
  frameAt : Vector Nat 5
  deriving DecidableEq, Repr, Inhabited

end Sys2Proof.Machine
end

