-- ==== Sys2Proof/Machine/TypesMemory.lean ====
section
/-! DEFINITION. The records of the memories, the cores, the data windows, the queues and the perturbation tile. -/

namespace Sys2Proof.Machine

/-- The head, tail, count and counters of one queue (Table 12.6). -/
structure QueState where
  head : Nat
  tail : Nat
  count : Nat
  hiwat : Nat
  fulls : Half
  refused : Half
  pushes : Word
  deriving DecidableEq, Repr, Inhabited

/-- The QUE block: the bindings in force (R333) and the queues. -/
structure QueBlk where
  bind : Vector (Option QueueCfg) 128
  q : Vector QueState 128
  deriving DecidableEq, Repr, Inhabited

/-- A handover accepted in a cycle: the new owner, the core that wrote it, which is its place in the order of R302, the cycle,
and the bundle boundary at which that core stood. -/
structure Handover where
  owner : Nat
  core : Nat
  at_ : Nat × Nat × Nat
  bundle : Nat
  deriving DecidableEq, Repr, Inhabited

/-- A word of a dual-port bank that a port has written in a cycle, with what it held before (R306). -/
structure PortWrite where
  key : Nat
  portB : Bool
  old : List Byte
  flips : BitVec 39
  marked : Bool
  deriving DecidableEq, Repr, Inhabited

/-- One bank's owner, spares in use, rows remapped or marked, and counters (Table 11.12). Banks 16 and 17 are the
dual-port banks. `spared` lists the remapped rows with their spares, `worn` the rows marked for sparing (R307). -/
structure BankState where
  owner : Nat
  handover : Option Handover
  spared : List (Nat × Nat)
  worn : List Nat
  ce : Half
  ue : Half
  nown : Half
  lost : Half
  lasterr : Nat
  deriving DecidableEq, Repr, Inhabited

/-- State of the MRAM write engine (MW_STAT). -/
inductive MwState where
  | idle | busy | done | failed
  deriving DecidableEq, Repr, Inhabited

/-- MW_STAT.STATE. -/
def MwState.code : MwState → Nat
  | .idle => 0 | .busy => 1 | .done => 2 | .failed => 3

/-- The memories and the MEM block. `ram` holds the bytes of every on-die memory under one key: the general and
dual-port banks at their addresses, the local data memory of core c at 0x800000 + c × 0x10000, the keep bank at
0x900000, the program memory of core c at 0xA00000 + c × 0x20000. `mram` is keyed by offset. `flips` holds the
inverted bits of stored codewords by word key, `marked` the words marked uncorrectable (R308). -/
structure MemBlk where
  ram : List Host.Cell
  mram : List Host.Cell
  flips : List (Nat × BitVec 39)
  marked : List Nat
  bank : Vector BankState 18
  walk : Bool
  /-- the row under test lies in the save buffer (R310) -/
  testing : Bool
  next : Nat
  passes : Half
  cecount : Half
  uecount : Half
  keepWord : Nat
  keepInc : Bool
  keepLost : Bool
  mwDst : Nat
  mwSrc : Nat
  mwLen : Nat
  mw : MwState
  mwWords : Nat
  /-- the parameters of the write in progress -/
  mwJob : Nat × Nat × Nat
  /-- TB0 in nanoseconds at GO -/
  mwSince : Nat
  /-- the banks of the first image have been set since the start (R300), and the owners they got -/
  ownersSet : Bool
  startOwners : Vector Nat 16
  /-- the words of the dual-port banks written in one cycle, and that cycle (R306) -/
  wrote : List PortWrite
  wroteAt : Nat × Nat × Nat
  deriving DecidableEq, Repr, Inhabited

/-- The width and extension of a load (Table 10.8). -/
inductive LoadKind where
  | w | h | hu | b | bu
  deriving DecidableEq, Repr, Inhabited

/-- The bytes of a load. -/
def LoadKind.size : LoadKind → Nat
  | .w => 4 | .h => 2 | .hu => 2 | .b => 1 | .bu => 1

/-- What an operation in flight does when it completes: result ports by number from 0x40 with their values and the
sticky bits it sets, a load into an LSU port, or a store. -/
inductive OpAct where
  | res (ports : List (Fin 14 × Word)) (v dz : Bool)
  | load (port : Fin 14) (kind : LoadKind) (addr : Nat)
  | store (size addr : Nat) (data : Word)
  deriving DecidableEq, Repr, Inhabited

/-- An operation in flight: the bundle that triggered it and its unit, the bundle at whose end it completes (R253), and
the register set of its level (R247). -/
structure Flight where
  at_ : Nat
  unit : Nat
  due : Nat
  keeper : Bool
  act : OpAct
  deriving DecidableEq, Repr, Inhabited

/-- The state that each level has of its own (R246, R247): b registers, guards, operand latches, result ports and CST.
Latches in order: ALU0.o, ALU1.o, MUL.o, DIV.o, BIT.o, BIT.p, CMP.o, LSU0.o, LSU1.o, QUE.o, EVT.o. -/
structure LevelSet where
  b : Vector Word 32
  g : Vector Bool 3
  lat : Vector Word 11
  res : Vector Word 14
  cst : Word
  deriving DecidableEq, Repr, Inhabited

/-- Whether a core issues bundles: running, stopped by WAIT, halted for the debugger, or stopped. -/
inductive CoreRun where
  | running | waiting | halted | stopped
  deriving DecidableEq, Repr, Inhabited

/-- One shepherd or tick core. Level set 0 is the task set and a tick core's only set, set 1 the keeper set. -/
structure Cpu where
  a : Vector Word 32
  set : Vector LevelSet 2
  keeper : Bool
  run : CoreRun
  pc : Nat
  /-- a pending branch: target and delay bundles left (R256) -/
  branch : Option (Nat × Nat)
  /-- bundle boundaries passed since the core last started, at bundles issued and at operations that complete without one, and
  the bundle and branch state of the last one (R253, R268) -/
  cycle : Nat
  lastPc : Nat
  lastBranch : Option (Nat × Nat)
  /-- the level of the last bundle (R271, R273) -/
  lastKeeper : Bool
  flight : List Flight
  /-- the bundle count of the last DIV trigger (R285) -/
  divAt : Option Nat
  /-- return state and cause of the last entry (Tables 9.9, 10.13) -/
  ra : Nat
  retBranch : Nat × Nat
  cause : Nat
  line : Nat
  info : Word
  /-- g3 is 1 at the next start of the tick program (R259) -/
  fresh : Bool
  deriving DecidableEq, Repr, Inhabited

/-- Why the shepherd core is reloaded: a restart (R274), an activation (R517), or a wake (R494). -/
inductive Reload where
  | restart | activation | wake
  deriving DecidableEq, Repr, Inhabited

/-- The cores. Core 0 is the shepherd core, cores 1 to 4 are TC0 to TC3. `restarts` holds TB0 at each shepherd restart,
newest first; `restartAt` the TB0 of the restart or reload in progress, `reload` what it is for; `absentTick` the executed tick in which the last restart began (R50); `halted` is R275. -/
structure CoreBlk where
  cpu : Vector Cpu 5
  shepherdUp : Bool
  halted : Bool
  restartAt : Option Nat
  reload : Reload
  /-- a tamper has aborted the verification of the reload in progress (R476) -/
  spoiled : Bool
  absentTick : Nat
  restarts : List Nat
  deriving DecidableEq, Repr, Inhabited

/-- Pending, enabled and priority state of the 128 event lines (R294). -/
structure EvtBlk where
  pend : BitVec 128
  en : BitVec 128
  prio : Vector (BitVec 3) 128
  /-- the lines that hardware has made pending in one cycle, and that cycle (R295) -/
  raised : BitVec 128
  raisedAt : Nat × Nat × Nat
  deriving DecidableEq, Repr, Inhabited

/-- What the memory does to the word of an operation that completes: the bits of the stored codeword that a fault has
inverted, whether the error persists after write-back (R307), and whether port A wrote the word in the same cycle
(R306). -/
structure Upset where
  flips : BitVec 39
  stuck : Bool
  lost : Bool
  deriving DecidableEq, Repr, Inhabited

/-- Holder of a data window (W_STAT.HOLDER). -/
inductive Holder where
  | none | shepherd | service | peer (p : Nat)
  deriving DecidableEq, Repr, Inhabited

/-- W_STAT.STATE. -/
inductive WinState where
  | idle | waiting | active
  deriving DecidableEq, Repr, Inhabited

/-- The code of Table 12.4. -/
def WinState.code : WinState → Nat
  | .idle => 0 | .waiting => 1 | .active => 2

/-- A burst as latched at its issue (R325): address, increment code, direction, and words. -/
structure Burst where
  addr : Word
  inc : Nat
  write : Bool
  n : Nat
  deriving DecidableEq, Repr, Inhabited

/-- One data window (Table 12.4). `lostAt` is the executed tick of its last WIN_LOST entry. -/
structure WinState4 where
  holder : Holder
  state : WinState
  ready : Bool
  buf : List Word
  addr : Word
  inc : Nat
  write : Bool
  burst : Nat
  authFab : Bool
  authPeer : Nat
  words : Word
  lost : Half
  nown : Half
  job : Option Burst
  /-- TB0 in nanoseconds when the burst in progress began, and the words it has moved -/
  since : Nat
  moved : Nat
  lostAt : Option Nat
  deriving DecidableEq, Repr, Inhabited

/-- A transaction that waits for one of the 64 (R328): a window burst, a request channel, or a peer's access. -/
inductive Waiter where
  | win (n : Fin 4)
  | ra (c : Fin 4)
  | remote (i : Nat)
  deriving DecidableEq, Repr, Inhabited

/-- The DWIN block. -/
structure DwinBlk where
  w : Vector WinState4 4
  inuse : Nat
  peak : Nat
  waiters : List Waiter
  waits : Word
  deriving DecidableEq, Repr, Inhabited

/-- The PERT block (Table 21.4). `live` is what is in force since the last tick start, `jit` the J of the tick in
progress (R528), and `hit` the kinds whose first hit since their enable has been written (R532). -/
structure PertBlk where
  enable : BitVec 7
  live : BitVec 7
  mask : BitVec 7
  tj : Word
  hop : Word
  qfull : Word
  dwait : Word
  busbit : Word
  adc : Word
  memaddr : Word
  memctl : Word
  jit : Int
  ticket : Bool
  ticketMask : BitVec 7
  bistPass : BitVec 10
  bistFail : BitVec 10
  hits : Word
  hit : BitVec 7
  frames : Nat
  /-- the parameters in force since the last tick start: TJ, HOP, QFULL, DWAIT, BUSBIT, ADC -/
  par : Vector Word 6
  /-- the ADC parameter of the tick before, none where kind 5 was not active in it -/
  adcWas : Option Word
  /-- the last injection into a word, with its cycle (R529) -/
  injected : Option ((Nat × Nat × Nat) × Nat × BitVec 39)
  deriving DecidableEq, Repr, Inhabited

end Sys2Proof.Machine
end

