-- ==== Sys2Proof/Machine/TypesFabric.lean ====
section
/-! DEFINITION. The records of the drove link fabric and of the key core. -/

namespace Sys2Proof.Machine

/-- The fields of a ROLL payload (Table 14.2). -/
structure Roll where
  serial : DWord
  lineEnd : Bool
  cap : Bool
  closing : Bool
  streams : Word
  deriving DecidableEq, Repr, Inhabited

/-- The parameters a remote data-window request carries (Table 14.11): channel, OP, word offset, count and data. -/
structure RaReq where
  chan : Nat
  op : Nat
  reg : Nat
  count : Nat
  data : List Word
  deriving DecidableEq, Repr, Inhabited

/-- What a response carries: channel, result, words moved and data. -/
structure RaRsp where
  chan : Nat
  result : Nat
  words : Nat
  data : List Word
  deriving DecidableEq, Repr, Inhabited

/-- A frame that waits in a port's best-effort store. `txn` marks a response that holds a transaction (R391), `stomp` the
copy of a frame that was found bad (R364). -/
structure OutFrame where
  bytes : List Byte
  txn : Bool
  stomp : Bool
  deriving DecidableEq, Repr, Inhabited

/-- One drove link port (Table 14.10). `tx` is the last frame put on the wire, with
its FCS. -/
structure PortState where
  link : Bool
  up : Bool
  closing : Bool
  master : Bool
  rxframes : Word
  hdrerr : Half
  fcserr : Half
  reject : Half
  long : Half
  stomped : Half
  bedrop : Half
  store : List OutFrame
  tx : List Byte
  /-- the frame on the wire ends with the inverse of its FCS (R364) -/
  stomp : Bool
  /-- the last 16 link delays in 1/16 ns, newest first (R377) -/
  delays : List Nat
  /-- own last LINK departure, the neighbour's last LINK frame: its t1 and our arrival time, on TB0 in 1/16 ns -/
  ownT1 : Nat
  nbrT1 : Nat
  nbrT2 : Nat
  heard : Bool
  /-- a LINK frame has arrived since the last sample mark, and sample marks without one -/
  gotLink : Bool
  missed : Nat
  nbrSerial : DWord
  deriving DecidableEq, Repr, Inhabited

/-- FAB_STATUS.STATE. -/
inductive FabState where
  | alone | muster | member
  deriving DecidableEq, Repr, Inhabited

/-- The code of Table 14.9. -/
def FabState.code : FabState → Nat
  | .alone => 0 | .muster => 1 | .member => 2

/-- RA_STAT.STATE. -/
inductive RaState where
  | idle | waiting | sent | done
  deriving DecidableEq, Repr, Inhabited

/-- The code of Table 14.11. -/
def RaState.code : RaState → Nat
  | .idle => 0 | .waiting => 1 | .sent => 2 | .done => 3

/-- One request channel (Table 14.11). -/
structure RaChan where
  dst : Nat
  op : Nat
  reg : Nat
  count : Nat
  wdata : Word
  state : RaState
  result : Nat
  words : Nat
  rdata : Word
  sentAt : Nat
  deriving DecidableEq, Repr, Inhabited

/-- A peer's access that waits for a transaction (R328): its port, the position and the request. -/
structure RemoteReq where
  port : Fin 2
  src : Nat
  req : RaReq
  deriving DecidableEq, Repr, Inhabited

/-- The muster in progress (R369): its generation, its starter status, the tick of the CALL, the sample marks since, the ROLL frames
heard with the port each came in on, the position taken and the TOKEN's count, and the serials of DONE. -/
structure MusterRun where
  gen : Half
  self : Bool
  callTick : Nat
  marks : Nat
  rollSent : Bool
  rolls : List Roll
  pos : Nat
  up : Fin 2
  tokenSent : Bool
  done : Option (List DWord)
  /-- a sample mark has come since DONE -/
  ready : Bool
  /-- a TOKEN's count disagreed with N (R372) -/
  badToken : Bool
  /-- a port was a closing link when the ROLL frames became due (Tables 14.2, 14.7) -/
  closing : Bool
  deriving DecidableEq, Repr, Inhabited

/-- The FAB block. `mustered` is membership of a mustered fabric, which a succeeding muster does not end (R372). -/
structure FabBlk where
  state : FabState
  mustered : Bool
  pos : Nat
  n : Nat
  bw : Nat
  bwSerial : DWord
  ring : Bool
  upPort : Fin 2
  tstale : Bool
  overpos : Bool
  gen : Half
  newest : Half
  musters : Half
  serial : DWord
  port : Vector PortState 2
  run : Option MusterRun
  rolls : List Roll
  roll : List DWord
  /-- executed ticks since the module became ALONE by a failed muster, when it is to call again (R372) -/
  recallAt : Option Nat
  authBad : Bool
  txSeq : Half
  toffset : Word
  tmiss : Half
  msgref : Half
  sblate : Half
  ralate : Half
  freq : Int
  inRange : Nat
  ra : Vector RaChan 4
  remote : List RemoteReq
  /-- the executed ticks of the last TIME frame and state block sent -/
  timeSeq : Nat
  stateSeq : Nat
  /-- a muster has begun since the start -/
  called : Bool
  /-- what identifies the newest broadcast frames that arrived or left before positions were known (R363) -/
  seen : List (List Byte)
  /-- the session keys of the tag unit, each with its key store slot and generation, derived at the last muster (R460) -/
  session : List (Nat × Nat × List Byte)
  deriving DecidableEq, Repr, Inhabited

/-- A complete copy of a key store slot: its content, the state under which it was written, its sequence number and its mark
count (R461, R464, R477). -/
structure KeyCopy where
  valid : Bool
  flag : Nat
  key : BitVec 256
  root : Nat
  seq : Word
  marks : Nat
  deriving DecidableEq, Repr, Inhabited

/-- One slot of the key store: copy A and copy B, none where a copy is incomplete (R461), and its use count. -/
structure KeySlot where
  a : Option KeyCopy
  b : Option KeyCopy
  uses : Half
  deriving DecidableEq, Repr, Inhabited

/-- KEY_RESULT.STATE. -/
inductive KeyState where
  | idle | busy | done
  deriving DecidableEq, Repr, Inhabited

/-- The code of Table 18.9. -/
def KeyState.code : KeyState → Nat
  | .idle => 0 | .busy => 1 | .done => 2

/-- The command in progress: OP, slot, flag, argument, its key bits (R458), and the bytes it
answers with, taken when it began. -/
structure KeyJob where
  op : Nat
  slot : Nat
  flag : Nat
  arg : Word
  data : BitVec 256
  out : List Byte
  deriving DecidableEq, Repr, Inhabited

/-- The KEY block and the key core's stores. -/
structure KeyBlk where
  slot : Vector KeySlot 64
  lcs : Nat
  /-- the three fuse rows of the life-cycle state, each with the code it shows (R463) -/
  fuse : Vector Nat 3
  released : Bool
  withheld : Bool
  pendingFlag : Bool
  debug : Bool
  provision : Bool
  arg : Word
  state : KeyState
  code : Nat
  pendmap : BitVec 82
  tamper : BitVec 5
  tamptime : DWord
  nonce : DWord
  data : Vector Word 8
  sig : Vector Word 16
  buf : Vector Word 256
  job : Option KeyJob
  trngFailed : Bool
  /-- a command taken while the key core serves another block, its word and the tamper sources that hold (R469, R475) -/
  waiting : Option (Word × BitVec 5)
  /-- token slots, the token set and the lock-out whose copies differ, by their number in KEY_PENDMAP (R462) -/
  torn : List Nat
  fwDigest : List Byte
  deriving DecidableEq, Repr, Inhabited

end Sys2Proof.Machine
end

