-- ==== Sys2Proof/Machine/TypesOps.lean ====
section
/-! DEFINITION. What comes from outside with a command: readings of the outer dies, bus frames, start conditions. -/

namespace Sys2Proof.Machine

/-- What a switch tile reports of one HS channel in a sample frame (R95, R96, R112); the voltage of its output node is in
mV. -/
structure HsReading where
  current : Half
  temp : Half
  sat : Bool
  node : Int
  deriving DecidableEq, Repr, Inhabited

/-- What a switch tile reports of one fold (R96, R119, R120). -/
structure FoldReading where
  vf : Half
  isum : BitVec 20
  temp : Half
  deriving DecidableEq, Repr, Inhabited

/-- What the lighting engine reports of one string (Table 6.14); `span` is for how many nanoseconds of the tick its sink
conducted. -/
structure StrReading where
  current : Nat
  vn0 : Half
  vn16 : Half
  temp : Half
  span : Nat
  deriving DecidableEq, Repr, Inhabited

/-- What the solenoid engine reports of one driver (Table 5.12). -/
structure SolReading where
  current : Half
  imax : Half
  deriving DecidableEq, Repr, Inhabited

/-- The sample frames of one tick: which dies' frames are valid, and the readings they carry, and the levels
of the WAKE pins. -/
structure Sample where
  dieOk : Vector Bool 5
  hs : Vector HsReading 96
  fold : Vector FoldReading 12
  str : Vector StrReading 8
  sol : Vector SolReading 16
  tbase : Half
  logicMw : Nat
  solMw : Nat
  chainMw : Nat
  wakePins : BitVec 2
  deriving DecidableEq, Repr, Inhabited

/-- One sample of a field input (R202): its voltage in mV, the wire-break comparison, and the current in 10 µA. -/
structure DiReading where
  mv : Int
  below : Bool
  current : Nat
  deriving DecidableEq, Repr, Inhabited

/-- One sample of every field input, and the voltage of every HS node in mV. -/
structure InputReadings where
  di : Vector DiReading 128
  hs : Vector Int 96
  deriving DecidableEq, Repr, Inhabited

/-- What a lamp window saw (R186): the clamp acted, the mean voltage in 2 mV, the current of the sink in mA. -/
structure LampReading where
  clamp : Bool
  mv : Nat
  current : Nat
  deriving DecidableEq, Repr, Inhabited

/-- A frame on a message bus. `remote` marks a remote frame, `fd` an FD frame; `dlc` is its DLC field. -/
structure CanFrame where
  id : BitVec 29
  ext : Bool
  fd : Bool
  brs : Bool
  esi : Bool
  remote : Bool
  dlc : BitVec 4
  data : List Byte
  deriving DecidableEq, Repr, Inhabited

end Sys2Proof.Machine
end

