-- ==== Sys2Proof/Machine/TypesMbus.lean ====
section
/-! DEFINITION. The records of the message buses. -/

namespace Sys2Proof.Machine

/-- A frame taken from a transmit queue (R406): the frame and its LOG bit. -/
structure TxPend where
  f : CanFrame
  log : Bool
  deriving DecidableEq, Repr, Inhabited

/-- The reference sequence of a network time master (R411): nothing, a reference to send, a follow-up to send with the
stamp it carries. -/
inductive RefTx where
  | none | ref | follow (stamp : DWord)
  deriving DecidableEq, Repr, Inhabited

/-- One message-bus channel (Table 15.10): controller, transceiver, counters, and network time. -/
structure MbusChan where
  initReq : Bool
  inInit : Bool
  busoff : Bool
  restricted : Bool
  txerr : Nat
  rxerr : Nat
  recov : Nat
  lec : Nat
  pend : Option TxPend
  req : Fin 4
  trx : Fin 4
  wake : Bool
  decoded : Bool
  txdto : Bool
  armed : Bool
  rxframes : Word
  txframes : Word
  rxdrop : Half
  txref : Half
  reject : Half
  mapshort : Half
  pairs : Half
  tdcv : Nat
  refTx : RefTx
  refAt : Option Nat
  /-- the last reference received: executed tick and TB2 stamp (R412) -/
  lastRef : Option (Nat × DWord)
  pairAt : Option Nat
  freq : Int
  inRange : Nat
  /-- the last changes of initialisation and transceiver, newest first: TB0 in ns, and what stood before (R396, R414) -/
  past : List (Nat × Bool × Fin 4)
  /-- requests of initialisation and of a transceiver state that wait for the end of the frame in progress, and TB0 in ns at
  the first of them (R396, R414) -/
  initWait : Bool
  trxWait : Option (Fin 4)
  reqAt : Nat
  /-- a reference waits behind the follow-up of the last one (R411) -/
  refDue : Bool
  deriving DecidableEq, Repr, Inhabited

/-- The MBUS block. `mapped` holds, by FILTER index, the executed tick of the last frame each mapping record mapped
(R410); `started` is R403. -/
structure MbusBlk where
  ch : Vector MbusChan 6
  wakeaddr : Byte
  wakegrp : Word
  statCause : Nat
  statCh : Bool
  statAddr : Byte
  tb2lock : Bool
  mapped : List (Nat × Nat)
  started : Bool
  deriving DecidableEq, Repr, Inhabited

/-- An address train as seen by a decoder (R418), in ns: its start after the pattern, the reference pulse, and the nine
pulses after it, each with the gap before it. -/
structure Train where
  start : Nat
  ref : Nat
  pulses : List (Nat × Nat)
  deriving DecidableEq, Repr, Inhabited

end Sys2Proof.Machine
end

