-- ==== Sys2Proof/Syntax.lean ====
section
/-! DEFINITION. The commands: one constructor for each row of spec/opcode_table.json, in the order of the table. A
command is a register access by a requester, a frame received or sent, an event of a clock or an engine, or a physical
event with what was measured. -/

namespace Sys2Proof

open Sys2Proof.Machine

/-- The operations and events of the module. -/
inductive Instr where
  -- the frame tick
  | tickStart
  | tickStretch
  | sampleMark (m : Sample)
  | coreWindowOpen
  | tickProgramFinish (k : Fin 4)
  | overrun (k : Fin 4)
  | envelopePhase
  | holdExpire (src : Fin 16)
  | escEnd (o : Fin 256)
  | commitMark (dieOk : Vector Bool 5)
  | deckRestPattern (die : Fin 5)
  | guardBand (rowOk : Bool)
  | inputSample (x : InputReadings)
  -- the command path
  | outCmd (rq : Requester) (o : Fin 448) (v : Word)
  | wdraw (rq : Requester) (o : Fin 448)
  | escclr (rq : Requester) (o : Fin 448)
  | delayedCmdRelease (k : Fin 16) (src : Fin 16)
  -- the structure image
  | structLoadGo (rq : Requester) (slot : Bool)
  | shadowReady
  | shadowAckTimeout
  | swapatArm (rq : Requester) (hi : Word)
  | structCancel (rq : Requester)
  | swap
  -- the load switches
  | fastScTrip (k : Fin 96) (current : Half)
  | ocTrip (k : Fin 96) (current : Half)
  | thermalTrip (k : Fin 96) (temp : Half)
  | inrushEnd (k : Fin 96)
  | retry (k : Fin 96)
  | retryClear (k : Fin 96)
  | reenable (rq : Requester) (k : Fin 96)
  | hswClrcnt (rq : Requester) (k : Fin 96)
  | openLoadWindow (k : Fin 96) (current : Half) (node : Nat)
  | fwMissing (k : Fin 96) (current : Half)
  | distForced (k : Fin 96) (current : Half) (temp : Half)
  | foldUv (f : Fin 12) (vf : Half)
  -- the solenoid drivers
  | solEventStart (k : Fin 16)
  | peakEnd (k : Fin 16)
  | eventEnd (k : Fin 16)
  | minoffEnd (k : Fin 16)
  | lateDrop (k : Fin 16)
  | move (k : Fin 16) (tmax tmin : Word) (imax imin vfStart vfMin : Half)
  | noMove (k : Fin 16) (imax : Half)
  | coilOpen (k : Fin 16) (imax : Half)
  | drvShort (k : Fin 16) (current : Half)
  | feedLeak (hs : Fin 96) (current : Half)
  | solFwMissing (k : Fin 16) (current : Half)
  | solClrcnt (rq : Requester) (k : Fin 16)
  -- lighting
  | dimmingPeriodStart (s : Fin 8)
  | lampWindow (pos : Fin 128) (m : LampReading)
  | lampClamp (pos : Fin 128) (mv : Nat)
  | stringLow (s : Fin 8) (current : Nat) (vn16 : Half)
  | stringHot (s : Fin 8) (temp : Half)
  | stringReenable (rq : Requester) (s : Fin 8)
  | posClrcnt (rq : Requester) (pos : Fin 128)
  | peCtrlWrite (rq : Requester) (e : Fin 4) (reg : Fin 3) (v : Word)
  | chainSend (rq : Requester) (l : Fin 4)
  | chainFrameDone (l : Fin 4)
  | chainFault (l : Fin 4) (share : Byte)
  -- field inputs
  | dinClrcnt (rq : Requester) (k : Fin 128)
  -- the processors
  | move3 (core : Fin 5)
  | imm32 (core : Fin 5)
  | wait (core : Fin 5)
  | shepherdWaitResume
  | brk (core : Fin 5)
  | eventEntry
  | operationComplete (core : Fin 5) (u : Upset)
  | lockstep
  | shepherdRestart
  -- memory
  | bankOwnerWrite (rq : Requester) (bank : Fin 18) (v : Word)
  | keepdataAccess (rq : Requester) (w : Option Word)
  | mwGo (rq : Requester)
  | mwDone
  | mwFail (words : Nat) (readback : Bool)
  -- data windows and queues
  | wOpen (rq : Requester) (n : Fin 4)
  | wClose (rq : Requester) (n : Fin 4)
  | wGo (rq : Requester) (n : Fin 4)
  | wClrcnt (rq : Requester) (n : Fin 4)
  | wDataWrite (rq : Requester) (n : Fin 4) (v : Word)
  | wDataRead (rq : Requester) (n : Fin 4)
  | txnStart
  | burstDone (n : Fin 4) (lost : List Bool)
  | qFlush (rq : Requester) (q : Fin 128)
  | qClrcnt (rq : Requester) (q : Fin 128)
  -- time and the tally
  | tbStep (rq : Requester) (n : Fin 4) (hi : Word)
  | tbRateWrite (rq : Requester) (n : Fin 4) (v : Word)
  | tbOos (rq : Requester) (n : Fin 4) (v : Bool)
  | tbArm (rq : Requester) (n : Fin 4)
  | timeCapture (rq : Requester)
  | timeMap
  | tallyFwGo (rq : Requester)
  | tallyFlush (rq : Requester)
  | tallyEntryRead (rq : Requester)
  | archiveCopy (ok : Bool)
  -- the fabric
  | portLinkChange (p : Fin 2) (up phy master : Bool)
  | linkRx (p : Fin 2) (f : List Byte)
  | frameForward (p : Fin 2) (f : List Byte) (fcs : BitVec 32) (residence : Nat)
  | frameSend (p : Fin 2)
  | remuster (rq : Requester)
  | callRx (p : Fin 2) (f : List Byte)
  | rollTx
  | rollRx (p : Fin 2) (f : List Byte) (r : Roll)
  | tokenTx
  | tokenRx (p : Fin 2) (f : List Byte)
  | doneRx (p : Fin 2) (f : List Byte)
  | musterDone
  | musterFail
  | musterRecall
  | timeTx
  | timeRx (p : Fin 2) (f : List Byte)
  | timeLost
  | stateTx
  | stateRx (p : Fin 2) (f : List Byte)
  | audioTx (s : Fin 32) (ins : List (List (BitVec 24)))
  | audioRx (p : Fin 2) (f : List Byte)
  | msgTx
  | msgRx (p : Fin 2) (f : List Byte)
  | raGo (rq : Requester) (c : Fin 4)
  | raAbandon (rq : Requester) (c : Fin 4)
  | raReqRx (p : Fin 2) (f : List Byte) (q : RaReq)
  | raRspRx (p : Fin 2) (f : List Byte) (r : RaRsp)
  | raTimeout (c : Fin 4)
  -- message buses
  | canRxFrame (ch : Fin 6) (f : CanFrame) (age : Nat)
  | canTxTake (ch : Fin 6)
  | txFrame (ch : Fin 6) (age delay : Nat)
  | refSend
  | refLost
  | mapTimeout (o : Fin 256)
  | canBusError (ch : Fin 6) (tx special : Bool) (code : Fin 7) (age : Nat)
  | busOn (ch : Fin 6)
  | chInit (rq : Requester) (ch : Fin 6) (v : Bool)
  | mbusClrcnt (rq : Requester) (ch : Fin 6)
  | trxReq (rq : Requester) (ch : Fin 6) (v : Fin 4)
  | txdTimeout (ch : Fin 6)
  | wakePattern (ch : Fin 6)
  | wakeAddress (ct : Fin 2) (t : Train)
  -- audio
  | activeWrite (rq : Requester) (s : Fin 32) (v : Word)
  -- access
  | handleTouch (r : Fin 2) (a b : Half)
  | touchRepeat (r : Fin 2)
  | pollStart (r : Fin 2)
  | rdPoll (rq : Requester) (r : Fin 2)
  | depotPoll (r : Fin 2)
  | tokenRecord (bytes : List Byte) (age : Nat)
  | counterWriteDone
  | pollEnd
  | resyncLapsed (ts : Fin 16)
  | lockoutEnd
  | sessionEnd (r : Fin 2) (cause : Fin 4)
  | learnStart (rq : Requester) (v : Word)
  | learnEnd (cause : Fin 8)
  | learnPoll
  | parkStop
  -- the key core
  | keyWrite (rq : Requester) (arg : Word)
  | keyErase (rq : Requester) (arg : Word)
  | attest (rq : Requester) (arg : Word)
  | cmac (rq : Requester) (arg : Word)
  | encrypt (rq : Requester) (arg : Word)
  | decrypt (rq : Requester) (arg : Word)
  | sha256 (rq : Requester) (arg : Word)
  | random (rq : Requester) (arg : Word)
  | advance (rq : Requester) (arg : Word)
  | ticket (rq : Requester) (arg : Word)
  | tclear (rq : Requester) (arg : Word) (holding : BitVec 5)
  | keyCmdDone
  | tamper (sources : BitVec 5) (elapsed : Nat)
  | trngFail (failed : Bool)
  -- power
  | restReq (rq : Requester) (sched : Bool)
  | offReq (rq : Requester) (sched : Bool)
  | opReq (rq : Requester) (v : Fin 4)
  | opChange
  | reqCancelled (sources : Half) (pins : BitVec 4)
  | restEnter
  | restEntryComplete
  | wake (sources : Half) (pins : BitVec 4)
  | regRetry (ok : Bool)
  | clockDegraded
  | vblLow (vbl : Half)
  | vblOff
  | coldStart (por : Bool) (bistFail : Word) (pins : BitVec 4) (vbl : Half)
  | nsVoteTx
  | nsVoteRx (p : Fin 2) (f : List Byte)
  | nsVoteExpired (pos : Fin 65)
  | nsCommand
  | nsCommandRx (p : Fin 2) (f : List Byte)
  | nsAbort (p : Fin 2) (f : List Byte)
  | nsMissed
  | nsCtrlWrite (rq : Requester) (v : Word)
  | falseWake
  -- field update
  | begin (rq : Requester)
  | verify (rq : Requester)
  | verified
  | schedule (rq : Requester)
  | updCancel (rq : Requester)
  | confirm (rq : Requester)
  | migfail (rq : Requester)
  | actsend (rq : Requester)
  | bundleDataRx (p : Fin 2) (f : List Byte)
  | activateRx (p : Fin 2) (f : List Byte)
  | updStatusTx
  | bootRecordWrite
  | activated
  | fallback
  | tpload (rq : Requester) (core : Fin 4)
  | tploadDone (core : Fin 4)
  -- perturbation, reset and register access
  | pertEnable (rq : Requester) (v : Word)
  | pertMemctlGo (rq : Requester) (v : Word)
  | sysReset (rq : Requester) (v : Word)
  | moduleReset
  | svcTransaction (bytes : List Byte)
  | registerWrite (rq : Requester) (addr : Nat) (width : Nat) (v : Word)
  | touchRelease (r : Fin 2) (a b : Half)
  | trainDiscarded (ct : Fin 2)
  | resetThroughJtag
  deriving DecidableEq, Repr

end Sys2Proof
end

