-- ==== Sys2Proof/Decode.lean ====
section
/-! DEFINITION. The decoder over the table's bits. No row of spec/opcode_table.json gives any: the commands of this block are
register accesses, frames and events, none of which is a word of an instruction stream. (The bundles of its cores are
decoded where the cores issue them, in Machine/Units.lean.) -/

namespace Sys2Proof

/-- The command that a word spells by the bits of the table: none, since no row of the table has bits. -/
def decodeTableWord (_nbits _w : Nat) : Option Instr := none

end Sys2Proof
end

