-- ==== Sys2Proof/Config.lean ====
section
/-! DEFINITION. What the specification leaves open or fixes per module: factory constants and free values. Each is an
opaque constant: nothing can evaluate it, and a claim about it holds for every value. -/

namespace Sys2Proof.Config

/-- Whether a value that falls between two steps of a register's unit is shown as the higher one. The manual states no
rounding there. The operands are the exact value's numerator and denominator. Log entry 5. -/
opaque roundUp : Nat → Nat → Bool

/-- A fresh free value; the operand is the model's own counter. Log entry 1. -/
opaque freeValue : Nat → BitVec 64

/-- RON25 of each HS channel in 0.01 mΩ, calibrated at the factory (Table 4.11). -/
opaque ron25 : Fin 96 → BitVec 16

/-- Whether a current inside the tolerance band of the on-state open-load threshold reads as open (Table 4.1). The
operands are the channel and the current in class LSB. Log entry 6. -/
opaque openBand : Nat → Int → Bool

/-- The rising and the falling threshold of an input's comparator in mV (Table 7.1, R112), which the model limits to their
tolerance bands. The operands are the input, 0 to 127 for a field input and 128 + k for HS channel k, and its CLASS. Log
entry 127. -/
opaque inputRise : Nat → Nat → Int
opaque inputFall : Nat → Nat → Int

/-- Whether a current inside the tolerance band of a channel's class trip level exceeds it (Table 4.1). The operands are
the channel and the current in class LSB. Log entry 120. -/
opaque tripBand : Nat → Int → Bool

/-- The code, severity and payload of the deck-link event (R30, R31): the manual gives the event and its location code
but no row for it in a table. Log entry 7. -/
opaque deckCode : BitVec 16
opaque deckSev : BitVec 3
opaque deckPayload : BitVec 64

/-- The syndrome of a single inverted bit of a stored codeword (R307): the manual gives no check matrix. Log entry 8. -/
opaque syndrome : BitVec 39 → BitVec 7

/-- A byte of a copy of the MRAM repair table (Table 11.6), whose record layout the manual does not give. The operands are
the offset in the copy and the records: bank, row and spare row of every remapped row. Log entry 9. -/
opaque repairByte : Nat → List (Nat × Nat × Nat) → BitVec 8

/-- The payload bytes of RA_REQ and RA_RSP frames, whose layout the manual does not give, and those of a ROLL frame behind
the 48 bits of Table 14.2, which carry the upper bytes of a serial: the table gives it 8 bits. Log entry 10. -/
opaque raReqBytes : Sys2Proof.Machine.RaReq → List (BitVec 8)
opaque raRspBytes : Sys2Proof.Machine.RaRsp → List (BitVec 8)
opaque rollTail : BitVec 64 → List (BitVec 8)

/-- HOPS of a frame as its sender sends it, taken modulo 65 (Table 14.1): the manual states no initial value. Log entry
13. -/
opaque hops : BitVec 8

/-- A key by which the last module of a muster orders the serials of the others in DONE: the manual does not say how it
learns their order. Log entry 14. -/
opaque doneOrder : BitVec 64 → Nat

/-- Whether a sender, given by its serial, is a member of a multicast group: a receiver is not told. Log entry 15. -/
opaque groupMember : Nat → BitVec 64 → Bool

/-- PORT_TXLAT and PORT_RXLAT of a port, calibrated at the factory (Table 14.10). -/
opaque txLat : Fin 2 → BitVec 16
opaque rxLat : Fin 2 → BitVec 16

/-- Whether the key of a slot is used as an AES-256 key (Table 18.1): the manual states no selection. Log entry 11. -/
opaque aes256 : Nat → Bool

/-- A sample × 10^(−num / (40 × den)) as the mixer forms it (R431): the manual states no rounding. Log entry 12. -/
opaque attenuated : Int → Nat → Nat → Int

/-- A value shown in whole units: exact when it is whole, otherwise one of the two neighbours.
[log 5 DESIGN CHOICE] -/
def rounded (num den : Nat) : Nat :=
  num / den + (if num % den = 0 then 0 else if roundUp num den then 1 else 0)

end Sys2Proof.Config
end

