-- ==== Sys2Proof/Machine/TypesOutputs.lean ====
section
/-! DEFINITION. The records of the output side: load switches, solenoid drivers, lighting and chain lines, field
inputs, and the command path with the Hurdle. -/

namespace Sys2Proof.Machine

/-- Protection states of a channel (Table 4.3). -/
inductive Prot where
  | off | inrush | on | pause | latchOc | latchTh
  deriving DecidableEq, Repr, Inhabited

/-- CH_STATUS.STATE of Table 4.11. -/
def Prot.code : Prot → Nat
  | .off => 0 | .inrush => 1 | .on => 2 | .pause => 3 | .latchOc => 4 | .latchTh => 5

/-- A run of equal results, for a debounce: the result and how many times it came in a row. -/
structure Run where
  kind : Nat
  len : Nat
  deriving DecidableEq, Repr, Inhabited

/-- The counter filter of one input (R203, R208): the counter, the filtered state, the sample periods since the counter
left the opposite rail, and whether a first sample has been taken (R204). -/
structure Filter where
  c : Nat
  s : Bool
  dep : Nat
  started : Bool
  deriving DecidableEq, Repr, Inhabited

/-- What the module shows of one input from the last valid sample frame (R206). -/
structure DiSnap where
  state : Bool
  broken : Bool
  edge : Bool
  raw : Bool
  c : Nat
  w : Nat
  current : Nat
  lastRise : Bool
  stamp : DWord
  depart : Half
  /-- the edges since the previous sample mark, which alternate in direction -/
  edges : Nat
  deriving DecidableEq, Repr, Inhabited

/-- One field input, or an HS channel used as one (R118): filter, wire-break counter, the edges since the last valid
sample frame, the snapshot and CH_EDGES. -/
structure DiState where
  flt : Filter
  wb : Filter
  raw : Bool
  current : Nat
  edges : Nat
  tickEdges : Nat
  lastRise : Bool
  stamp : DWord
  depart : Half
  snap : DiSnap
  count : Half
  deriving DecidableEq, Repr, Inhabited

/-- One HS channel. -/
structure HsState where
  prot : Prot
  r : Nat
  cmd : Bool
  /-- commits left of the inrush phase or of the pause -/
  left : Nat
  /-- commits spent in INRUSH or ON since the last trip (R105) -/
  clean : Nat
  /-- commits spent in ON (R109) -/
  onFor : Nat
  /-- in its inrush phase at some time in the tick (R97) -/
  inrushed : Bool
  open_ : Bool
  openRun : Run
  /-- the open-load window of this tick has been judged -/
  windowed : Bool
  /-- the readback comparator of the node, and its state at the last sample mark (R112) -/
  node : Bool
  rb : Bool
  fwmiss : Bool
  /-- the channel has applied the commit mark of this tick, at which its pause or inrush phase ended -/
  done : Bool
  extv : Bool
  extvRun : Run
  /-- sample marks since the gate turned off -/
  offMarks : Nat
  dist : Bool
  distRun : Nat
  forced : Bool
  comp : Bool
  /-- the forced measurement of this tick, current and temperature, shown from the sample mark on (R43, R98) -/
  forcedRd : Option (Half × Half)
  sat : Bool
  current : Half
  temp : Half
  /-- the junction temperature as last sensed, at a sample mark or at a thermal trip (R107) -/
  sensed : Half
  trips : Half
  lastTrip : Nat
  pdiss : Nat
  deriving DecidableEq, Repr, Inhabited

/-- One HS fold (Table 4.10). `hist` holds the fold current of the last ticks, newest first (R120). -/
structure HsFold where
  vf : Half
  isum : BitVec 20
  temp : Half
  uv : Bool
  ovr : Bool
  hist : List Int
  deriving DecidableEq, Repr, Inhabited

/-- The HSW block. -/
structure HswBlk where
  ch : Vector HsState 96
  fold : Vector HsFold 12
  inp : Vector DiState 96
  tbase : Half
  /-- the measured logic power frozen at the sample mark, in mW -/
  logicMw : Nat
  /-- the estimate in mW, and EST and LIMIT of HSW_PDISS in 10 mW -/
  estMw : Nat
  est : Half
  limit : Half
  deriving DecidableEq, Repr, Inhabited

/-- The phase of a solenoid driver. -/
inductive SolPhase where
  | idle | peak | hold | minoff
  deriving DecidableEq, Repr, Inhabited

/-- A requested event of a driver: its profile, its due time on the driving base (R135), and the profiles of the image
in force at the request, under which it runs (Table 3.19). -/
structure SolEvent where
  profile : Nat
  due : DWord
  profs : List Profile
  deriving DecidableEq, Repr, Inhabited

/-- A delayed command (R136): the word, and the executed-tick count at whose tick it is to belong. -/
structure Delayed where
  word : Word
  tick : Nat
  deriving DecidableEq, Repr, Inhabited

/-- One solenoid driver. -/
structure SolState where
  phase : SolPhase
  profile : Nat
  profs : List Profile
  /-- actual start S of the last event, and the start of the profile in progress -/
  start : DWord
  profStart : DWord
  /-- the event requested and not yet started -/
  queued : Option SolEvent
  /-- a chained profile that waits for another peak of the feed (R132) -/
  chainWait : Option SolEvent
  /-- the profile commanded when the running event was requested, and whether that command stands (R134) -/
  cmdProfile : Nat
  cmdLive : Bool
  minoffEnd : DWord
  offAt : DWord
  detect : Bool
  moved : Bool
  noMove : Bool
  coilOpen : Bool
  feedLost : Bool
  drvShort : Bool
  current : Half
  imax : Half
  tmax : Half
  tmin : Half
  events : Half
  drops : Half
  delayed : Vector (Option Delayed) 16
  /-- the command word the driver's die applied at the last commit (CH_LASTCMD) -/
  applied : Word
  deriving DecidableEq, Repr, Inhabited

/-- The SOL block; `feedOnAt` is the instant on the driving base at which each feed's gate last turned on (R128). -/
structure SolBlk where
  ch : Vector SolState 16
  feedOnAt : Vector DWord 96
  /-- the drivers' share of the estimate, in mW -/
  mw : Nat
  deriving DecidableEq, Repr, Inhabited

/-- One lamp position. -/
structure LampState where
  /-- displayed level, and the fade in progress: start level, target, steps and steps taken (R169) -/
  disp : Nat
  from_ : Nat
  target : Nat
  steps : Nat
  step : Nat
  /-- the standing command word -/
  last : Word
  /-- the level in effect in the dimming in progress (R174, R175) -/
  eff : Nat
  acc : Nat
  rem : Nat
  pulse : Nat
  open_ : Bool
  short : Bool
  openRun : Run
  shortRun : Run
  held : Bool
  lastRes : Nat
  windowed : Bool
  vf : Nat
  /-- the result of this tick's window and its voltage, shown from the sample mark on (R43) -/
  result : Option (Nat × Nat)
  /-- the accumulator and the remainder start afresh at the next commit mark (R173, R177) -/
  renew : Bool
  faults : Half
  deriving DecidableEq, Repr, Inhabited

/-- One LED string. -/
structure StringState where
  hot : Bool
  low : Bool
  lowNow : Bool
  lowRun : Nat
  current : Nat
  vn0 : Half
  vn16 : Half
  temp : Half
  /-- the temperature of the sink as last sensed, at a sample mark or when it became HOT (R190) -/
  sensed : Half
  mw : Nat
  periodStart : DWord
  deriving DecidableEq, Repr, Inhabited

/-- One pattern engine (Table 6.16): the registers as written, the registers in use (R183), its tick count and the level
of each of its members. -/
structure PatternState where
  ctrl : Word
  level : Word
  time : Word
  useCtrl : Word
  useLevel : Word
  useTime : Word
  /-- executed ticks since the commit at which RUN became 1; `fresh` until the first engine phase with RUN 1 -/
  ran : Nat
  /-- the tick count t in use (R182) -/
  t : Nat
  fresh : Bool
  levels : List (Nat × Nat)
  deriving DecidableEq, Repr, Inhabited

/-- One chain line. `frame` holds the bytes of the frame taken or in progress. -/
structure ChainState where
  armed : Bool
  busy : Bool
  clip : Bool
  fault : Bool
  len : Nat
  frame : List Byte
  taken : Bool
  restDue : Bool
  /-- commit marks until the line is idle (R195) -/
  span : Nat
  frames : Half
  buf : Vector Word 192
  deriving DecidableEq, Repr, Inhabited

/-- The LED block. -/
structure LedBlk where
  pos : Vector LampState 128
  str : Vector StringState 8
  pe : Vector PatternState 4
  chain : Vector ChainState 4
  shift : Bool
  nstr : Nat
  /-- the period offsets of the strings in T/1,024, as computed at the last commit mark (R175, R177) -/
  offs : Vector Nat 8
  /-- a MODE entry is due at the next commit mark (R177) -/
  modeDue : Bool
  commitAt : DWord
  chainMw : Nat
  deriving DecidableEq, Repr, Inhabited

/-- An entry that waits for the next valid sample frame of its die (R213). -/
structure PendEntry where
  die : Nat
  time : DWord
  code : Nat
  sev : Nat
  loc : Word
  payload : DWord
  flags : Byte
  deriving DecidableEq, Repr, Inhabited

/-- The DIN block; `sampleIdx` counts the samples taken since the tick began (R42). -/
structure DinBlk where
  ch : Vector DiState 128
  pend : List PendEntry
  sampleIdx : Nat
  deriving DecidableEq, Repr, Inhabited

/-- Hold-over state of an output (Table 2.4). -/
inductive Hold where
  | live | hold | rest
  deriving DecidableEq, Repr, Inhabited

/-- TICK_HOLDSTAT.STATE. -/
def Hold.code : Hold → Nat
  | .live => 0 | .hold => 1 | .rest => 2

/-- What a source did to an output's command in the tick: nothing, a command, or a withdrawal (R45, R218). -/
inductive Fresh where
  | none | cmd (w : Word) | wdraw
  deriving DecidableEq, Repr, Inhabited

/-- The result of the envelope phase for one output, applied at the commit mark (R51, R58): the candidate, the word to
commit, the hold-over state, and what clipped it. -/
structure Pending where
  cand : Word
  word : Word
  hold : Hold
  c : Nat
  gov : Nat
  prio : Nat
  held : Word
  expired : Bool
  fell : Nat
  /-- the hold limit is reached: the output enters REST at this commit mark (R52) -/
  expiring : Bool
  /-- the source of a HOLD_ENTER or HOLD_EXIT transition (R57) -/
  enters : Option Nat
  exits : Option Nat
  srcs : Nat
  /-- the record and KIND that clipped the candidate -/
  clip : Option (Nat × Nat)
  /-- a record with ESC clipped the candidate in this tick (R235) -/
  escNew : Bool
  /-- the value is displayed without a fade (R171) -/
  noFade : Bool
  deriving DecidableEq, Repr, Inhabited

/-- One output. `cmds` and `fresh` are indexed by source ID (Table 8.2). -/
structure OutState where
  cmds : Vector (Option Word) 16
  fresh : Vector Fresh 16
  hold : Hold
  /-- the REST was entered by expiry from HOLD (R57), and the source that fell absent -/
  expired : Bool
  fell : Nat
  /-- c is at or above the new hold limit after a swap: REST at the next commit (Table 3.19) -/
  forceRest : Bool
  c : Nat
  gov : Nat
  prio : Nat
  /-- the winning command while the output is LIVE, held in HOLD -/
  held : Word
  commit : Word
  on : Bool
  nOn : Nat
  nOff : Nat
  /-- the last commits, newest first: committed on (DUTY), and a turn-on (RATE) -/
  histOn : List Bool
  histTurn : List Bool
  /-- the record and KIND that clipped the output at the last commit -/
  clip : Option (Nat × Nat)
  /-- the clip run in progress: record and commits (R237) -/
  run : Option (Nat × Nat)
  /-- a swap has replaced the record of the clip run: the run ends at the next commit -/
  runOver : Bool
  onLatched : Bool
  esc : Bool
  escLeft : Nat
  escUntil : Bool
  /-- in the shed set, with the remembered share in mW and the commits since -/
  shed : Bool
  shedShare : Nat
  shedFor : Nat
  conflict : Bool
  conflictSet : List (Nat × Word)
  srcs : Nat
  /-- the assignment changed at a swap: the rest value is committed in this tick (R83) -/
  changed : Bool
  /-- a state block of the tick maps the output, and the command of the last mapped field that carries one (R388) -/
  peer : Option (Option Word)
  next : Option Pending
  deriving DecidableEq, Repr, Inhabited

/-- The HURDLE block. -/
structure HurdleBlk where
  out : Vector OutState 256
  conflicts : Half
  ownErr : Half
  clipRuns : Half
  escs : Half
  overbudget : Bool
  stale : Bool
  /-- records whose INPUT_STALE run has been reported (R231) -/
  staleRecs : List Nat
  /-- executed ticks since the last readmission (R234) -/
  sinceReadmit : Nat
  /-- refusals reported, each with its source, output and the executed tick of its entry (R220) -/
  refused : List (Nat × Nat × Nat)
  /-- positions whose state block was received in this tick, and outputs whose mapping timeout runs (R49, R410) -/
  peerRx : Vector Bool 65
  mapLive : Vector Bool 256
  /-- dies that missed the swap flag and swap one tick later (R85) -/
  lag : Vector Bool 5
  deriving DecidableEq, Repr, Inhabited

/-- The state of the shadow configuration (Table 3.22). -/
inductive Shadow where
  | empty | loading | ready | scheduled | failed
  deriving DecidableEq, Repr, Inhabited

/-- STRUCT_STATUS.SHADOW. -/
def Shadow.code : Shadow → Nat
  | .empty => 0 | .loading => 1 | .ready => 2 | .scheduled => 3 | .failed => 4

/-- The STRUCT block. The previous image after a swap is in the shadow (R82). -/
structure StructBlk where
  shadow : Shadow
  inForce : Bool
  active : Bool
  reason : Nat
  slot : Bool
  loadSlot : Bool
  loadTicks : Nat
  shImage : Option Image
  shSlot : Bool
  target : DWord
  /-- SWAPAT as last written (R20) -/
  swapAt : DWord
  /-- the images before and after a swap that some dies have not made yet, and those dies (R85) -/
  late : Option (Image × Image)
  lateDies : Vector Bool 5
  gen : Half
  /-- the configuration that the outer dies keep after a module reset, until the first swap (R558) -/
  dies : Option Image
  deriving DecidableEq, Repr, Inhabited

end Sys2Proof.Machine
end

