-- ==== Sys2Proof/Machine/TypesRest.lean ====
section
/-! DEFINITION. The records of the SYS block, the audio engine, the access engine, power, and start-up and update. -/

namespace Sys2Proof.Machine

/-- The SYS block (Table 23.3). -/
structure SysBlk where
  cause : Word
  errstat : Word
  errAddr : Word
  errSrc : Word
  /-- a module reset has been accepted and waits for the next commit mark (R558) -/
  resetPending : Bool
  deriving DecidableEq, Repr, Inhabited

/-! ### Audio -/

/-- One stream (Table 16.9). `held` lists the PLAY words of the frames that the play-out region in DP0 holds, `sender` the
lower position that announces the same local stream, 0 for none (R428). -/
structure StreamState where
  active : Bool
  /-- ACTIVE as it stood at the last sample mark (R425) -/
  marked : Bool
  on : Bool
  sender : Nat
  held : List Word
  missRun : Bool
  peak : BitVec 24
  missing : Half
  late : Half
  early : Half
  deriving DecidableEq, Repr, Inhabited

/-- One zone (Table 16.10). `att` holds each stream's ducking attenuation in units of 0.5 dB / (4 × FADE) (R430),
`silent` the ticks of silence left after a swap, `out` the samples of the last tick played. -/
structure ZoneState where
  top : Option Nat
  peak : BitVec 24
  clips : Half
  clipRun : Bool
  silent : Nat
  att : Vector Nat 32
  out : List (BitVec 24)
  deriving DecidableEq, Repr, Inhabited

/-- The AUD block. -/
structure AudBlk where
  str : Vector StreamState 32
  zone : Vector ZoneState 16
  missing : Bool
  clip : Bool
  /-- the zones that a swap changed, until the commit of its tick -/
  changed : Option (BitVec 16)
  deriving DecidableEq, Repr, Inhabited

/-! ### Access -/

/-- One token slot (Table 17.12); `cand` is a pending resynchronisation with its deadline on TB0 (R443), `seq` the sequence
number of the copies in force (R444, R461). -/
structure TokenSlot where
  id : Word
  cnt : Word
  mask : Nat
  valid : Bool
  cand : Option (Word × Nat)
  uses : Half
  seq : Word
  deriving DecidableEq, Repr, Inhabited

/-- One reader (Table 17.11). Times are on TB0 in ns. -/
structure Reader where
  touch : Bool
  touchAt : Nat
  touchPolls : Nat
  /-- a poll waits (R439); it may start from the last commit mark on -/
  want : Bool
  armed : Bool
  collRun : Nat
  /-- commits left in the session -/
  sess : Option Nat
  /-- the session begins at the next commit mark (R448) -/
  fresh : Bool
  sessSlot : Nat
  sessCause : Nat
  polls : Half
  colls : Half
  depotAt : Nat
  deriving DecidableEq, Repr, Inhabited

/-- A poll: its reader, the start of its burst on TB0 in ns, whether it is a learn poll, the slots in which a record came,
the collision slots, whether a slot succeeded, and the reader's collision run before it (R438, R445). -/
structure Poll where
  reader : Fin 2
  start : Nat
  learn : Bool
  seen : BitVec 16
  coll : BitVec 16
  success : Bool
  run : Nat
  deriving DecidableEq, Repr, Inhabited

/-- A counter write in progress (R444): reader, token slot, the code, and whether it is a success, a resynchronisation or a
not-permitted outcome. -/
inductive CntKind where
  | success | resync | refused
  deriving DecidableEq, Repr, Inhabited

structure CntWrite where
  reader : Fin 2
  slot : Fin 16
  cnt : Word
  kind : CntKind
  takenAt : Nat
  deriving DecidableEq, Repr, Inhabited

/-- Learning (R452 to R454): the reader, the class mask, TB0 at the last enrolment or the start and at the next poll, and
whether that poll may start from the last commit mark on (R438). -/
structure LearnRun where
  reader : Fin 2
  mask : Nat
  since : Nat
  pollAt : Nat
  armed : Bool
  deriving DecidableEq, Repr, Inhabited

/-- What a write of the token store replaced: an enrolled slot, the token set with its sequence number, or the lock-out with
its length and sequence number (R452, R453, R462). -/
inductive StoreOld where
  | slot (k : Fin 16) (old : TokenSlot)
  | set (old : Vector TokenSlot 16) (seq : Word)
  | lock (old : Option Nat) (len : Nat) (seq : Word)
  deriving DecidableEq, Repr, Inhabited

/-- A two-copy write of the token store, with TB0 in ns at which it began (R444, R462). -/
structure StoreWrite where
  at_ : Nat
  old : StoreOld
  deriving DecidableEq, Repr, Inhabited

/-- The ACC block. `failAt` holds TB0 at the failed attempts that count toward a lock-out, newest first (R447). -/
structure AccBlk where
  tok : Vector TokenSlot 16
  rd : Vector Reader 2
  poll : Option Poll
  /-- the last poll that ended: a record of its last slot completes after its end (R440) -/
  ended : Option Poll
  write : Option CntWrite
  /-- the other writes of the token store in the last 1 ms (R444) -/
  writes : List StoreWrite
  /-- sequence numbers of the token set and of the lock-out (R462) -/
  setSeq : Word
  lockSeq : Word
  failAt : List Nat
  lockUntil : Option Nat
  /-- LOCKMIN of the lock-out (R447) -/
  lockLen : Nat
  learn : Option LearnRun
  rdr : Bool
  mask : Nat
  fails : Half
  stray : Half
  parkStop : Bool
  /-- the periodic bursts stopped in the REST in progress -/
  parked : Bool
  keyBad : Bool
  deriving DecidableEq, Repr, Inhabited

/-! ### Power -/

/-- Where the module stands between RUN, REST and OFF (Table 19.1, Tables 19.5 and 19.6). IDLE is per core and shows in
the state of each core. -/
inductive PwrMode where
  | run | entry | rest | wake | off
  deriving DecidableEq, Repr, Inhabited

/-- A power request in progress (R486): REST with its entry tick and whether it came from a network command, OFF with its
entry tick, or an operating point. -/
inductive PwrReq where
  | none
  | rest (sched : Option DWord) (net : Bool) (false_ : Bool)
  | off (sched : Option DWord)
  | op (target : Fin 4)
  deriving DecidableEq, Repr, Inhabited

/-- The PWR block (Tables 19.10 and 19.11). -/
structure PwrBlk where
  mode : PwrMode
  req : PwrReq
  refused : Bool
  cancelled : Bool
  degraded : Bool
  vblLow : Bool
  woke : Bool
  at_ : DWord
  opReq : Fin 4
  opCur : Fin 4
  wakeCfg : Word
  alarm : DWord
  wakeCause : Half
  aoCause : Nat
  regRetry : Bool
  nsEnable : Bool
  nsAwake : Bool
  nsKeyOn : Bool
  maxAwake : Nat
  falseWake : Nat
  lead : Nat
  nsState : Nat
  nsC : Word
  entryTime : Half
  rests : Half
  falseWakes : Half
  /-- TB0 at the entry commit, archived entries there, and wake bits pending since (R492, R493) -/
  entryAt : Nat
  unarch : Nat
  pendWake : Half
  offEntry : Bool
  /-- the executed tick at whose commit an unscheduled request enters (R492) -/
  entryTick : Nat
  /-- TB0 at the accepted operating-point request, and the point it leaves (R488) -/
  opAt : Nat
  opOld : Fin 4
  /-- a start from OFF or a module reset has begun and its ROM part has not run (R510) -/
  starting : Bool
  /-- TB0 as recorded at the end of the archive run of the entry (R339) -/
  restAt : Nat
  /-- 32.768 kHz cycles counted since (R339) -/
  restCycles : Nat
  /-- tampers latched in REST, oldest first: TB0 and the cause bits (R347, R474) -/
  restTampers : List (DWord × BitVec 5)
  wakeAt : Nat
  /-- TB0 at which VBL fell low, and whether the last reading found none (R540) -/
  vblAt : Nat
  noVbl : Bool
  /-- the levels of the WAKE pins at the last sample mark -/
  pins : BitVec 2
  /-- the latest vote of each position with the executed tick it came in (R499), and whether it has expired -/
  votes : Vector (Option (Bool × Nat)) 65
  expired : Vector Bool 65
  keyOffAt : Option Nat
  abortAt : Option Nat
  musterAt : Nat
  voteAt : Nat
  /-- the executed tick in which AWAKE changed, until the vote that reports it (R499) -/
  voteDue : Option Nat
  /-- the entry tick of the sleep the bellwether commands -/
  cmdC : Option DWord
  /-- a COMMAND was seen in this cycle and not taken -/
  sawC : Option Word
  /-- TB0 since which the conditions of R503 hold -/
  quietSince : Nat
  deriving DecidableEq, Repr, Inhabited

/-! ### Start-up and update -/

/-- UPD_STATE. -/
inductive UpdState where
  | idle | loading | verified | scheduled | trial | confirmed | fallback
  deriving DecidableEq, Repr, Inhabited

/-- The code of Table 20.12. -/
def UpdState.code : UpdState → Nat
  | .idle => 0 | .loading => 1 | .verified => 2 | .scheduled => 3 | .trial => 4 | .confirmed => 5 | .fallback => 6

/-- The fields of the boot record in force (Table 20.3). -/
structure BootRec where
  act : Bool
  trial : Bool
  setgen : Bool
  prev : Bool
  tstarts : Nat
  confwin : Nat
  fwDigest : List Byte
  stDigest : List Byte
  tick : DWord
  seq : Word
  deriving DecidableEq, Repr, Inhabited

/-- The reception of a bundle over the fabric (R515): its serial, the header bytes held, the offsets of the chunks held with
their lengths, and while the header is not whole the chunks themselves, newest first. -/
structure BundleRx where
  serial : Word
  chunks : List (Nat × Nat)
  header : List Byte
  early : List (Nat × List Byte)
  deriving DecidableEq, Repr, Inhabited

/-- The UPD block. `fAt` is the executed tick of the fallback (R522). -/
structure UpdBlk where
  state : UpdState
  reason : Nat
  fbCause : Nat
  restart : Bool
  migFail : Bool
  recovery : Bool
  rxen : Bool
  allowRst : Bool
  actAt : DWord
  boot : BootRec
  rx : Option BundleRx
  rxBytes : Word
  rxTotal : Word
  serial : Word
  rxRef : Half
  tpCore : Fin 4
  tpStat : Vector Nat 4
  /-- the SHA-256 of the program each tick core holds, empty when none was loaded (R75, R512) -/
  tpDigest : Vector (List Byte) 4
  /-- the reason that the verification in progress has found, 0 while the shadow is loaded (R506) -/
  verifying : Option Nat
  armed : DWord
  fromFrame : Bool
  sending : Bool
  fAt : Nat
  statusAt : Nat
  /-- the boot record of the activation or fallback in progress has been written -/
  written : Bool
  deriving DecidableEq, Repr, Inhabited

end Sys2Proof.Machine
end

