-- ==== Sys2Proof/Machine/Resets.lean ====
section
/-! DEFINITION. Each record as it stands right after a reset: the values the register tables give (Table 23.5), and those
that log entry 3 names where they give none. -/

namespace Sys2Proof.Machine

/-! ### Cores -/

/-- A level's registers, guards, latches, ports and CST, all 0. -/
def LevelSet.zero : LevelSet where
  b := Vector.replicate 32 0
  g := Vector.replicate 3 false
  lat := Vector.replicate 11 0
  res := Vector.replicate 14 0
  cst := 0

/-- A core whose registers are 0, at a bundle and in a run state. -/
def Cpu.start (keeper : Bool) (run : CoreRun) (pc : Nat) : Cpu where
  a := Vector.replicate 32 0
  set := Vector.replicate 2 LevelSet.zero
  keeper := keeper
  run := run
  pc := pc
  branch := none
  cycle := 0
  lastPc := pc
  lastBranch := none
  lastKeeper := keeper
  flight := []
  divAt := none
  ra := 0
  retBranch := (0, 0)
  cause := 0
  line := 0
  info := 0
  fresh := false

/-- The shepherd core as it enters its reset entry (R262, R270, R280). -/
def Cpu.resetEntry : Cpu := Cpu.start true .running 0

/-- A tick core after a program load: registers 0, and g3 is 1 at its next start (R259). -/
def Cpu.loaded : Cpu := { Cpu.start false .stopped 0 with fresh := true }

/-- The cores before the ROM has run: every core stopped, the shepherd core not up. [log 3 DESIGN CHOICE] -/
def CoreBlk.start : CoreBlk :=
  ⟨Vector.replicate 5 (Cpu.start false .stopped 0), false, false, none, .restart, false, 0, []⟩

/-! ### Outputs and inputs -/

/-- An output before its first commit: in REST with c = 0, n_off saturated, its windows empty (R228, R495). -/
def OutState.start : OutState where
  cmds := Vector.replicate 16 none
  fresh := Vector.replicate 16 .none
  hold := .rest
  expired := false
  fell := 0
  forceRest := false
  c := 0
  gov := 0
  prio := 0
  held := 0
  commit := 0
  on := false
  nOn := 0
  nOff := 16777215
  histOn := []
  histTurn := []
  clip := none
  run := none
  runOver := false
  onLatched := false
  esc := false
  escLeft := 0
  escUntil := false
  shed := false
  shedShare := 0
  shedFor := 0
  conflict := false
  conflictSet := []
  srcs := 0
  changed := false
  peer := none
  next := none

/-- The filter before its first sample (R204). -/
def Filter.fresh : Filter := ⟨0, false, 0, false⟩

/-- The snapshot of an input that reports nothing (R201). -/
def DiSnap.blank : DiSnap := ⟨false, false, false, false, 0, 0, 0, false, 0, 0, 0⟩

/-- An input without a function, or before its first sample (R201, R204). -/
def DiState.start : DiState := ⟨Filter.fresh, Filter.fresh, false, 0, 0, 0, false, 0, 0, DiSnap.blank, 0⟩

/-- An HS channel: off, nothing measured. -/
def HsState.start : HsState where
  prot := .off
  r := 0
  cmd := false
  left := 0
  clean := 0
  onFor := 0
  inrushed := false
  open_ := false
  openRun := ⟨0, 0⟩
  windowed := false
  node := false
  rb := false
  fwmiss := false
  done := false
  extv := false
  extvRun := ⟨0, 0⟩
  offMarks := 0
  dist := false
  distRun := 0
  forced := false
  comp := false
  forcedRd := none
  sat := false
  current := 0
  temp := 0
  sensed := 0
  trips := 0
  lastTrip := 0
  pdiss := 0

/-- The HSW block. -/
def HswBlk.start : HswBlk :=
  ⟨Vector.replicate 96 HsState.start, Vector.replicate 12 ⟨0, 0, 0, false, false, []⟩, Vector.replicate 96 DiState.start,
   0, 0, 0, 0, 0⟩

/-- A solenoid driver: idle, CH_MOVE 0xFFFF_FFFF. -/
def SolState.blank : SolState where
  phase := .idle
  profile := 0
  profs := []
  start := 0
  profStart := 0
  queued := none
  chainWait := none
  cmdProfile := 0
  cmdLive := false
  minoffEnd := 0
  offAt := 0
  detect := false
  moved := false
  noMove := false
  coilOpen := false
  feedLost := false
  drvShort := false
  current := 0
  imax := 0
  tmax := 0xFFFF
  tmin := 0xFFFF
  events := 0
  drops := 0
  delayed := Vector.replicate 16 none
  applied := 0

/-- A lamp position, its accumulator as R173 gives it. -/
def LampState.start (k : Nat) : LampState where
  disp := 0
  from_ := 0
  target := 0
  steps := 0
  step := 0
  last := 0
  eff := 0
  acc := (k % 16) * 4096
  rem := 0
  pulse := 0
  open_ := false
  short := false
  openRun := ⟨0, 0⟩
  shortRun := ⟨0, 0⟩
  held := false
  lastRes := 0
  windowed := false
  vf := 0
  result := none
  renew := false
  faults := 0

/-- A pattern engine at the reset values of Table 6.16. -/
def PatternState.start : PatternState :=
  ⟨0, 0x0FFF0000, 0x010103E8, 0, 0x0FFF0000, 0x010103E8, 0, 0, true, []⟩

/-- A chain line: low, LEN 1. -/
def ChainState.start : ChainState :=
  ⟨false, false, false, false, 1, [], false, false, 0, 0, Vector.replicate 192 0⟩

/-- The LED block. -/
def LedBlk.start : LedBlk :=
  ⟨Vector.ofFn fun k => LampState.start k.val, Vector.replicate 8 ⟨false, false, false, 0, 0, 0, 0, 0, 0, 0, 0⟩,
   Vector.replicate 4 PatternState.start, Vector.replicate 4 ChainState.start, false, 0, Vector.replicate 8 0, false, 0, 0⟩

/-- The HURDLE block. -/
def HurdleBlk.start : HurdleBlk where
  out := Vector.replicate 256 OutState.start
  conflicts := 0
  ownErr := 0
  clipRuns := 0
  escs := 0
  overbudget := false
  stale := false
  staleRecs := []
  sinceReadmit := 16
  refused := []
  peerRx := Vector.replicate 65 false
  mapLive := Vector.replicate 256 false
  lag := Vector.replicate 5 false

/-! ### Time -/

/-- A base at 0: TB0 is in service without a step, the others are out of service with their step armed (R340, R342). -/
def TimeBase.start (first : Bool) : TimeBase := ⟨0, 0, !first, !first, false, 0, []⟩

/-- The TIME block. -/
def TimeBlk.start : TimeBlk :=
  ⟨#v[TimeBase.start true, TimeBase.start false, TimeBase.start false, TimeBase.start false], Vector.replicate 4 0, 0⟩

/-- The TALLY block: an empty journal, THRESH 4,096, IRQSEV 5. -/
def TallyBlk.start : TallyBlk where
  journal := []
  seq := 0
  sameAt := (0, 0, 0)
  sameN := 0
  lost := 0
  dropped := 0
  firstDropped := 0
  archSlot := 0
  archiving := false
  archSeq := none
  boot := 0
  thresh := 4096
  irqSev := 5
  rdptr := 0
  fwCode := 0
  fwSev := 0
  fwBase := 0
  fwLoc := 0
  fwPayLo := 0
  fwPayHi := 0

/-- The TICK block: no tick has run. -/
def TickBlk.start : TickBlk where
  src := false
  count := 0
  phase := .off
  startTb0 := 0
  startDrv := 0
  stepped := false
  lastCount := 0
  stepSum := 0
  stretch := 0
  overrun := Vector.replicate 4 0
  tc := Vector.replicate 4 .notLoaded
  held := 0
  resting := 0
  holdSel := 0
  executed := 0
  staleRun := Vector.replicate 5 0
  missed := Vector.replicate 5 0
  frameAt := Vector.replicate 5 0
  dieRest := Vector.replicate 5 false

/-- The STRUCT block: no image in force, the shadow EMPTY. -/
def StructBlk.start : StructBlk := ⟨.empty, false, false, 0, false, false, 0, none, false, 0, 0, none, Vector.replicate 5 false, 0, none⟩

/-! ### Fabric, buses, audio and access -/

/-- A drove port without a link. -/
def PortState.start : PortState where
  link := false
  up := false
  closing := false
  master := false
  rxframes := 0
  hdrerr := 0
  fcserr := 0
  reject := 0
  long := 0
  stomped := 0
  bedrop := 0
  store := []
  tx := []
  stomp := false
  delays := []
  ownT1 := 0
  nbrT1 := 0
  nbrT2 := 0
  heard := false
  gotLink := false
  missed := 0
  nbrSerial := 0

/-- The FAB block: ALONE. -/
def FabBlk.start : FabBlk where
  state := .alone
  mustered := false
  pos := 0
  n := 0
  bw := 0
  bwSerial := 0
  ring := false
  upPort := 0
  tstale := false
  overpos := false
  gen := 0
  newest := 0
  musters := 0
  serial := 0
  port := Vector.replicate 2 PortState.start
  run := none
  rolls := []
  roll := []
  recallAt := none
  authBad := false
  txSeq := 0
  toffset := 0
  tmiss := 0
  msgref := 0
  sblate := 0
  ralate := 0
  freq := 0
  inRange := 0
  ra := Vector.replicate 4 ⟨1, 0, 0, 1, 0, .idle, 0, 0, 0, 0⟩
  remote := []
  timeSeq := 0
  stateSeq := 0
  called := false
  session := []
  seen := []

/-- A message-bus channel: in initialisation, its transceiver in STANDBY (R403). -/
def MbusChan.start : MbusChan where
  initReq := false
  inInit := true
  busoff := false
  restricted := false
  txerr := 0
  rxerr := 0
  recov := 0
  lec := 0
  pend := none
  req := 0
  trx := 2
  wake := false
  decoded := false
  txdto := false
  armed := false
  rxframes := 0
  txframes := 0
  rxdrop := 0
  txref := 0
  reject := 0
  mapshort := 0
  pairs := 0
  tdcv := 0
  refTx := .none
  refAt := none
  lastRef := none
  pairAt := none
  freq := 0
  inRange := 0
  past := []
  initWait := false
  trxWait := none
  reqAt := 0
  refDue := false

/-- The MBUS block. -/
def MbusBlk.start : MbusBlk := ⟨Vector.replicate 6 MbusChan.start, 0, 0, 0, false, 0, false, [], false⟩

/-- The AUD block after a reset or a wake: nothing buffered, nothing active. -/
def AudBlk.start : AudBlk :=
  ⟨Vector.replicate 32 ⟨false, false, false, 0, [], false, 0, 0, 0, 0⟩,
   Vector.replicate 16 ⟨none, 0, 0, false, 0, Vector.replicate 32 0, []⟩, false, false, none⟩


/-- A token slot that is empty. [log 3 DESIGN CHOICE] -/
def TokenSlot.empty : TokenSlot := ⟨0, 0, 0, false, none, 0, 0⟩

/-- A reader. -/
def Reader.start : Reader where
  touch := false
  touchAt := 0
  touchPolls := 0
  want := false
  armed := false
  collRun := 0
  sess := none
  fresh := false
  sessSlot := 0
  sessCause := 0
  polls := 0
  colls := 0
  depotAt := 0

/-- The ACC block: no token enrolled, MASK 0b01. -/
def AccBlk.start : AccBlk where
  tok := Vector.replicate 16 TokenSlot.empty
  rd := Vector.replicate 2 Reader.start
  poll := none
  ended := none
  write := none
  writes := []
  setSeq := 0
  lockSeq := 0
  failAt := []
  lockUntil := none
  lockLen := 0
  learn := none
  rdr := false
  mask := 1
  fails := 0
  stray := 0
  parkStop := false
  parked := false
  keyBad := false

/-! ### Keys, memory, queues and windows -/

/-- The copy of an empty slot. -/
def KeyCopy.empty : KeyCopy := ⟨false, 0, 0, 0, 0, 0⟩

/-- The KEY block: an empty store in BLANK. [log 3 DESIGN CHOICE] -/
def KeyBlk.start : KeyBlk where
  slot := Vector.replicate 64 ⟨some KeyCopy.empty, some KeyCopy.empty, 0⟩
  lcs := 1
  fuse := Vector.replicate 3 1
  released := false
  withheld := false
  pendingFlag := false
  debug := false
  provision := false
  arg := 0
  state := .idle
  code := 0
  pendmap := 0
  tamper := 0
  tamptime := 0
  nonce := 0
  data := Vector.replicate 8 0
  sig := Vector.replicate 16 0
  buf := Vector.replicate 256 0
  job := none
  trngFailed := false
  waiting := none
  torn := []
  fwDigest := List.replicate 32 0

/-- The MEM block: every memory zero, every bank owned by ID 0, 8 spares, LEN 1. [log 3 DESIGN CHOICE] -/
def MemBlk.start : MemBlk where
  ram := []
  mram := []
  flips := []
  marked := []
  bank := Vector.replicate 18 ⟨0, none, [], [], 0, 0, 0, 0, 0⟩
  walk := false
  testing := false
  next := 0
  passes := 0
  cecount := 0
  uecount := 0
  keepWord := 0
  keepInc := false
  keepLost := false
  mwDst := 0
  mwSrc := 0
  mwLen := 1
  mw := .idle
  mwWords := 0
  mwJob := (0, 0, 0)
  mwSince := 0
  ownersSet := false
  startOwners := Vector.replicate 16 0
  wrote := []
  wroteAt := (0, 0, 0)

/-- The QUE block: no queue bound. -/
def QueBlk.start : QueBlk := ⟨Vector.replicate 128 none, Vector.replicate 128 ⟨0, 0, 0, 0, 0, 0, 0⟩⟩

/-- The DWIN block: every window free. -/
def DwinBlk.start : DwinBlk :=
  ⟨Vector.replicate 4 ⟨.none, .idle, false, [], 0, 0, false, 0, false, 0, 0, 0, 0, none, 0, 0, none⟩, 0, 0, [], 0⟩

/-- The PERT block: LEVEL 1, FRAMES 1. -/
def PertBlk.start : PertBlk where
  enable := 0
  live := 0
  mask := 0
  tj := 0
  hop := 0
  qfull := 0x00010000
  dwait := 0
  busbit := 0x01000000
  adc := 0
  memaddr := 0
  memctl := 0
  jit := 0
  ticket := false
  ticketMask := 0
  bistPass := 0
  bistFail := 0
  hits := 0
  hit := 0
  frames := 0
  par := #v[0, 0, 0x00010000, 0, 0x01000000, 0]
  adcWas := none
  injected := none

/-! ### Power and update -/

/-- The PWR block: OP3, KEYON 1, MAXAWAKE 30, FALSEWAKE 2, LEAD 64. A start has begun. [log 3 DESIGN CHOICE] -/
def PwrBlk.start : PwrBlk where
  mode := .run
  req := .none
  refused := false
  cancelled := false
  degraded := false
  vblLow := false
  woke := false
  at_ := 0
  opReq := 3
  opCur := 3
  wakeCfg := 0
  alarm := 0
  wakeCause := 0
  aoCause := 0
  regRetry := false
  nsEnable := false
  nsAwake := false
  nsKeyOn := true
  maxAwake := 30
  falseWake := 2
  lead := 64
  nsState := 0
  nsC := 0
  entryTime := 0
  rests := 0
  falseWakes := 0
  entryAt := 0
  unarch := 0
  pendWake := 0
  offEntry := false
  entryTick := 0
  opAt := 0
  opOld := 3
  starting := true
  restAt := 0
  restCycles := 0
  restTampers := []
  wakeAt := 0
  vblAt := 0
  noVbl := false
  pins := 0
  votes := Vector.replicate 65 none
  expired := Vector.replicate 65 false
  keyOffAt := none
  abortAt := none
  musterAt := 0
  voteAt := 0
  voteDue := none
  cmdC := none
  sawC := none
  quietSince := 0

/-- A boot record of zeros. -/
def BootRec.zero : BootRec :=
  ⟨false, false, false, false, 0, 0, List.replicate 32 0, List.replicate 32 0, 0, 0⟩

/-- The UPD block: IDLE. [log 3 DESIGN CHOICE] -/
def UpdBlk.start : UpdBlk where
  state := .idle
  reason := 0
  fbCause := 0
  restart := false
  migFail := false
  recovery := false
  rxen := false
  allowRst := false
  actAt := 0
  boot := BootRec.zero
  rx := none
  rxBytes := 0
  rxTotal := 0
  serial := 0
  rxRef := 0
  tpCore := 0
  tpStat := Vector.replicate 4 0
  tpDigest := Vector.replicate 4 []
  verifying := none
  armed := 0
  fromFrame := false
  sending := false
  fAt := 0
  statusAt := 0
  written := false

end Sys2Proof.Machine
end

