-- ==== Sys2Proof/Machine/State.lean ====
section
/-! DEFINITION. The state of the module, the reasons a step can stop, and the module right after reset. -/

namespace Sys2Proof.Machine

/-- The state of one module. `pending` is the queue of commands that wait, `freeCount` and `reports` are the model's own
(log entries 1 and 16); every other field is the state the manual gives the module, block by block. -/
structure State where
  pending : List Instr
  /-- the number of free values drawn so far: the operand of Config.freeValue -/
  freeCount : Nat
  /-- reports limited to one in 1,000 ticks: a key and the executed tick of the last -/
  reports : List (Nat × Nat)
  /-- what the last register read returned to each requester -/
  rdata : Vector Word 8
  heads : Vector Head 21
  latches : Vector (Option Latch) 8
  held : Vector (Option Held) 8
  sys : SysBlk
  evt : EvtBlk
  tick : TickBlk
  strct : StructBlk
  /-- the configuration in force (the SI fields), Image.empty before the first swap -/
  cfg : Image
  hsw : HswBlk
  sol : SolBlk
  led : LedBlk
  din : DinBlk
  hurdle : HurdleBlk
  time : TimeBlk
  tally : TallyBlk
  fab : FabBlk
  core : CoreBlk
  mem : MemBlk
  que : QueBlk
  dwin : DwinBlk
  pert : PertBlk
  key : KeyBlk
  mbus : MbusBlk
  aud : AudBlk
  acc : AccBlk
  pwr : PwrBlk
  upd : UpdBlk
  deriving DecidableEq, Repr

/-- A fault of a step. No command of this module ends in one: the manual gives each its effect, and an access to an address
that does not exist is an exception, a reserved write or a read of 0 by its rules. The type has no constructor. -/
inductive Fault where
  deriving DecidableEq, Repr

/-- A refusal of a step. -/
inductive Refusal where
  /-- Raised by an arm of exec whose command has no meaning yet; safe, since the step then has no next state. -/
  | notModelled (mnemonic : String)
  deriving DecidableEq, Repr

/-- The module right after reset: the power domains have come up, no ROM step has run, no image is in force, the queue
of commands is empty. Values that the manual does not give are those of log entry 3.
[log 3 DESIGN CHOICE; 112 DESIGN CHOICE] -/
def State.reset : State where
  pending := []
  freeCount := 0
  reports := []
  rdata := Vector.replicate 8 0
  heads := Vector.replicate 21 Head.start
  latches := Vector.replicate 8 none
  held := Vector.replicate 8 none
  sys := ⟨0, 0, 0, 0, false⟩
  evt := ⟨0, 0, Vector.replicate 128 0, 0, (0, 0, 0)⟩
  tick := TickBlk.start
  strct := StructBlk.start
  cfg := Image.empty
  hsw := HswBlk.start
  sol := ⟨Vector.replicate 16 SolState.blank, Vector.replicate 96 0, 0⟩
  led := LedBlk.start
  din := ⟨Vector.replicate 128 DiState.start, [], 0⟩
  hurdle := HurdleBlk.start
  time := TimeBlk.start
  tally := TallyBlk.start
  fab := FabBlk.start
  core := CoreBlk.start
  mem := MemBlk.start
  que := QueBlk.start
  dwin := DwinBlk.start
  pert := PertBlk.start
  key := KeyBlk.start
  mbus := MbusBlk.start
  aud := AudBlk.start
  acc := AccBlk.start
  pwr := PwrBlk.start
  upd := UpdBlk.start

end Sys2Proof.Machine
end

