-- ==== Sys2Proof/Machine/Ops.lean ====
section
/-! DEFINITION. The operations every block uses: head registers and event lines, the reserved-write report, the time
bases, location codes, the tally, and read latches and held writes. -/

namespace Sys2Proof.Machine

/-! ### Head registers and event lines -/

/-- The head registers of a block. -/
def State.head (s : State) (b : Block) : Head := s.heads[b.idx]

/-- Rewrite a block's head registers. -/
def modHead (b : Block) (f : Head → Head) (s : State) : State := { s with heads := upd s.heads b.idx f }

/-- The cycle in progress: what TB0 counts, the cycles of REST, and those of the shepherd core. [log 113 DEDUCED] -/
def State.cycle (s : State) : Nat × Nat × Nat :=
  (s.time.tb[0].value.toNat, s.pwr.restCycles, s.core.cpu[0].cycle)

/-- Firmware makes an event line pending (R294). -/
def setLine (n : Nat) (s : State) : State := { s with evt := { s.evt with pend := setBit s.evt.pend n } }

/-- The event lines that hardware has made pending in the cycle in progress (R295). -/
def State.raisedNow (s : State) : BitVec 128 := if s.evt.raisedAt = s.cycle then s.evt.raised else 0

/-- Hardware makes an event line pending (R295, R561). -/
def raiseLine (n : Nat) (s : State) : State :=
  setLine n { s with evt := { s.evt with raised := setBit s.raisedNow n, raisedAt := s.cycle } }

/-- A block's line becomes pending while its IRQ_STATUS AND IRQ_ENABLE is not zero (R561). [log 58 DEDUCED] -/
def refreshLine (b : Block) (s : State) : State :=
  if (s.head b).irq &&& (s.head b).en = 0 then s else raiseLine b.idx.val s

/-- What has acted on a block's registers in the cycle in progress. -/
def State.cycNote (s : State) (b : Block) : CycNote :=
  if (s.head b).cyc.at_ = s.cycle then (s.head b).cyc else CycNote.start s.cycle

/-- Note something that acts in the cycle in progress. -/
def modNote (b : Block) (f : CycNote → CycNote) (s : State) : State :=
  modHead b (fun h => { h with cyc := f (s.cycNote b) }) s

/-- Hardware sets W1C bits of a register in this cycle (R17). -/
def hwBit (b : Block) (off : Nat) (m : Word) (s : State) : State :=
  modNote b (fun c => { c with bits := (off, m) :: c.bits }) s

/-- The W1C bits of a register that hardware has set in this cycle. -/
def State.hwBits (s : State) (b : Block) (off : Nat) : Word :=
  (s.cycNote b).bits.foldl (fun w x => if x.1 = off then w ||| x.2 else w) 0

/-- The bits that a write of W1C bits clears: those written 1 that hardware has not set in the same cycle (R17). -/
def State.clears (s : State) (b : Block) (off : Nat) (v : Word) : Word := v &&& ~~~(s.hwBits b off)

/-- Hardware raises a counter of a register, given by its lowest bit, by `n` in this cycle (R18). -/
def bump (b : Block) (off lo n : Nat) (s : State) : State :=
  modNote b (fun c => { c with incs := (off, lo, n) :: c.incs }) s

/-- By how much hardware has raised a counter in this cycle. -/
def State.bumps (s : State) (b : Block) (off lo : Nat) : Nat :=
  (s.cycNote b).incs.foldl (fun n x => if x.1 = off ∧ x.2.1 = lo then n + x.2.2 else n) 0

/-- Hardware sets an IRQ_STATUS bit. -/
def setIrq (b : Block) (i : Nat) (s : State) : State :=
  refreshLine b (modHead b (fun h => { h with irq := setBit h.irq i }) (hwBit b 0x00C (1#32 <<< i) s))

/-- Hardware sets an ERR bit; bit 0 is ACCESS in every block (R10). -/
def setErr (b : Block) (i : Nat) (s : State) : State :=
  modHead b (fun h => { h with err := setBit h.err i }) (hwBit b 0x014 (1#32 <<< i) s)

/-- Set a bit of SYS_ERRSTAT together with its IRQ_STATUS bit (Table 23.3): 0 RSVD_WR, 1 OWN_ERR, 2 CONFLICT. -/
def sysFlag (i : Nat) (s : State) : State :=
  setIrq .sys i (hwBit .sys 0x024 (1#32 <<< i) { s with sys := { s.sys with errstat := setBit s.sys.errstat i } })

/-! ### Free values and limited reports -/

/-- A fresh free value (log entry 1). [log 1 DESIGN CHOICE] -/
def State.freeVal (s : State) : DWord := Config.freeValue s.freeCount

/-- The model's counter of free values advances. [log 1 DESIGN CHOICE] -/
def tickFree (s : State) : State := { s with freeCount := s.freeCount + 1 }

/-- A read of a register returns a value to its requester. [log 18 DESIGN CHOICE] -/
def giveRead (rq : Requester) (v : Word) (s : State) : State := { s with rdata := s.rdata.set rq.slot v }

/-- An entry that is written at most once in any 1,000 ticks under its key; one before the first tick.
[log 16 DESIGN CHOICE] -/
def limited (key : Nat) (f : State → State) (s : State) : State :=
  let e := s.tick.executed
  if s.reports.any fun x => x.1 == key && (if e = 0 then x.2 == 0 else decide (x.2 ≠ 0 ∧ e - x.2 < 1000)) then s
  else f { s with reports := (key, e) :: s.reports.filter fun x => x.1 != key }

/-! ### Time bases -/

/-- The increment of a base per cycle of the timer clock, in units of 2^-32 ns (R335). -/
def TimeBase.inc (b : TimeBase) : Nat := (21474836480 + b.rate.toInt).toNat

/-- A base after `n` cycles of the timer clock. -/
def TimeBase.run (n : Nat) (b : TimeBase) : TimeBase :=
  { b with value := b.value + BitVec.ofNat 96 (n * b.inc) }

/-- `n` cycles of the 200 MHz timer clock pass. -/
def runCycles (n : Nat) (s : State) : State := { s with time := { s.time with tb := s.time.tb.map (TimeBase.run n) } }

/-- What acts in turn: accesses of one cycle to the same thing act in a fixed order, so one that stands behind a later
one of that order belongs to the next cycle of the clock (R15, R293, R328, R332, R407). [log 113 DEDUCED] -/
def inTurn (b : Block) (what rank : Nat) (s : State) : State :=
  let s := if (s.cycNote b).turn.any fun x => x.1 == what && decide (rank < x.2) then runCycles 1 s else s
  modNote b (fun c => { c with turn := (what, rank) :: c.turn.filter fun x => x.1 != what }) s

/-- A write of this cycle has cleared RSVD_WR. -/
def State.rsvdCleared (s : State) : Bool := (s.cycNote .sys).wrote.any fun x => x.1 == 0x024 && bit x.2 0

/-- A command that is a write of the register at `off` is applied among the writes of that register in its cycle in the
order shepherd core, service port, fabric (R15). [log 113 DEDUCED] -/
def written (b : Block) (off : Nat) (rq : Requester) (f : State → State) (s : State) : State := f (inTurn b off rq.rank s)

/-- A write refused under R13 or R14: RSVD_WR is set, and the write that sets it from 0 is recorded, the first of a cycle in
the order of R560; one in the cycle of a write that clears the bit leaves it as it stood (Table 23.3, R560). -/
def reservedWrite (rq : Requester) (addr : Nat) (s : State) : State :=
  let s := inTurn .sys 0x028 rq.place s
  sysFlag 0 (if bit s.sys.errstat 0 || s.rsvdCleared then s else
    { s with sys := { s.sys with
        errAddr := BitVec.ofNat 32 addr
        errSrc := pack [(0, rq.code), (2, rq.core)] } })

/-- The base that drives the tick (R36). -/
def State.drvIdx (s : State) : Fin 4 := if s.tick.src then 1 else 0

/-- The driving base. -/
def State.drv (s : State) : TimeBase := s.time.tb[s.drvIdx]

/-- The driving base in whole nanoseconds. -/
def State.now (s : State) : DWord := s.drv.ns

/-- TB0 in whole nanoseconds. -/
def State.tb0 (s : State) : Nat := s.time.tb[0].ns.toNat

/-- The timer cycles until a base reaches `raw`, in units of 2^-32 ns; none when it has reached it. -/
def TimeBase.cyclesTo (b : TimeBase) (raw : Nat) : Nat :=
  if b.value.toNat < raw then ceilDiv (raw - b.value.toNat) b.inc else 0

/-- Time passes until base `i` reads `raw` (in units of 2^-32 ns) or more; it never runs back.
[log 2 DESIGN CHOICE] -/
def passTo (i : Fin 4) (raw : Nat) (s : State) : State := runCycles (s.time.tb[i].cyclesTo raw) s

/-- Time passes until the driving base reads `ns` nanoseconds or more. -/
def passToNs (ns : Nat) (s : State) : State := passTo s.drvIdx (ns * 2 ^ 32) s

/-- The tick period of an image in nanoseconds (R35). -/
def Image.periodNs (g : Image) : Nat := 250000 * 2 ^ g.period

/-- The tick period in nanoseconds. -/
def State.T (s : State) : Nat := s.cfg.periodNs

/-- The module is a member of a mustered fabric whose time is in service: TB1 is to drive the tick (R36, R343). -/
def State.wantsTb1 (s : State) : Bool := s.fab.mustered && !s.time.tb[1].oos

/-- The driving base changed or stepped during the tick in progress (R38). -/
def State.jumping (s : State) : Bool := s.tick.stepped || (s.wantsTb1 != s.tick.src)

/-- Time passes until `num/den` of T after the start of the tick; a tick whose driving base jumped is timed on TB0
from its own start (R38). [log 2 DESIGN CHOICE] -/
def passInTick (num den : Nat) (s : State) : State :=
  let off := s.T * num * 2 ^ 32 / den
  if s.jumping then passTo 0 (s.tick.startTb0.toNat * 2 ^ 32 + off) s
  else passTo s.drvIdx (s.tick.startDrv.toNat * 2 ^ 32 + off) s

/-- Milliseconds as executed ticks, rounded up: the commits of R101 and the steps of R169. -/
def State.ticksOfMs (s : State) (ms : Nat) : Nat := ceilDiv (ms * 1000000) s.T

/-! ### REST and OFF -/

/-- An operation of the domains that REST and OFF leave unpowered (R481). [log 2 DESIGN CHOICE] -/
def whenOn (f : State → State) (s : State) : State :=
  match s.pwr.mode with
  | .rest => s
  | .off => s
  | _ => f s

/-- The advance of a base over `n` cycles of the 32.768 kHz clock, in units of 2^-32 ns: 30,517.578125 ns each (R339). -/
def restRaw (n : Nat) : Nat := n * 131072000000000

/-- TB0 in whole nanoseconds, in REST as its recorded value and the count give it (R339). -/
def State.tb0Rest (s : State) : Nat :=
  if s.pwr.mode = .rest then (s.time.tb[0].value.toNat + restRaw s.pwr.restCycles) / 2 ^ 32 else s.tb0

/-- In REST, cycles are counted until TB0 stands at `ns` or later. [log 89 DEDUCED] -/
def restTo (ns : Nat) (s : State) : State :=
  { s with pwr := { s.pwr with
      restCycles := max s.pwr.restCycles (ceilDiv (ns * 2 ^ 32 - s.time.tb[0].value.toNat) (restRaw 1)) } }

/-! ### Location codes -/

/-- A location code (Table 1.2). -/
def locCode (level die tile fold lane cell : Nat) : Word :=
  pack [(29, level), (26, die), (21, tile), (16, fold), (8, lane), (0, cell)]

/-- A tile of the control die or another die. -/
def locTile (die tile : Nat) : Word := locCode 4 die tile 0 0 0

/-- A die as a whole. -/
def locDie (die : Nat) : Word := locCode 5 die 0 0 0 0

/-- The die of an HS channel. -/
def hsDie (k : Nat) : Nat := if k < 64 then 1 else 2

/-- The lane of an HS channel. -/
def locHs (k : Nat) : Word := locCode 2 (hsDie k) 0 (k / 8) k 0

/-- An HS fold. -/
def locFold (f : Nat) : Word := locCode 3 (hsDie (8 * f)) 0 f 0 0

/-- The lane of a solenoid driver. -/
def locSol (k : Nat) : Word := locCode 2 3 1 0 k 0

/-- The lane of a lamp position; its fold is the string. -/
def locPos (k : Nat) : Word := locCode 2 3 2 (k / 16) k 0

/-- A string, the fold of the LED tile. -/
def locStr (k : Nat) : Word := locCode 3 3 2 k 0 0

/-- The lane of a chain line. -/
def locChain (l : Nat) : Word := locCode 2 3 3 0 l 0

/-- The lane of a field input. -/
def locDi (k : Nat) : Word := locCode 2 3 0 (k / 16) k 0

/-- The lane of an output (Table 8.1). -/
def locOut (o : Nat) : Word := if o < 96 then locHs o else if o < 112 then locSol (o - 96) else locPos (o - 128)

/-- The lanes of a fold, the lowest and the highest, and the number of cells of a lane, on a tile for which Table 1.5
assigns lanes: a lane belongs to the fold of which it is a part. [log 118 DEDUCED] -/
def laneRange (die tile fold : Nat) : Option (Nat × Nat × Nat) :=
  match die, tile with
  | 1, 0 => some (8 * fold, 8 * fold + 7, 19)
  | 2, 0 => some (8 * fold, 8 * fold + 7, 19)
  | 3, 0 => some (16 * fold, 16 * fold + 15, 2)
  | 3, 1 => some (0, 15, 2)
  | 3, 2 => some (16 * fold, 16 * fold + 15, 2)
  | 3, 3 => some (0, 3, 1)
  | 3, 4 => some (fold, fold, 1)
  | 3, 5 => some (0, 4, 1)
  | 4, 0 => some (0, 0, 1)
  | 4, 1 => some (0, 0, 1)
  | _, _ => none

/-- The folds of a tile (Table 1.4): the first and the last. -/
def foldRange (die tile : Nat) : Option (Nat × Nat) :=
  match die, tile with
  | 0, 6 => some (0, 15)
  | 0, 7 => some (0, 1)
  | 0, 12 => some (0, 5)
  | 0, t => if t ≤ 18 then some (0, 0) else none
  | 1, 0 => some (0, 7)
  | 2, 0 => some (8, 11)
  | 3, 0 => some (0, 7)
  | 3, 1 => some (0, 0)
  | 3, 2 => some (0, 7)
  | 3, 3 => some (0, 0)
  | 3, 4 => some (0, 5)
  | 3, t => if t ≤ 7 then some (0, 0) else none
  | 4, t => if t ≤ 1 then some (0, 0) else none
  | _, _ => none

/-- A location code is valid when no condition of R25 holds; a lane that lies in another fold than the one named is not
assigned to it. [log 118 DEDUCED] -/
def locValid (w : Word) : Bool :=
  let level := field w 29 3
  let die := field w 26 3
  let tile := field w 21 5
  let fold := field w 16 5
  let lane := field w 8 8
  let cell := field w 0 8
  let foldOk := match foldRange die tile with
    | some (a, b) => decide (a ≤ fold ∧ fold ≤ b)
    | none => false
  let laneOk := match laneRange die tile fold with
    | some (a, b, _) => decide (a ≤ lane ∧ lane ≤ b)
    | none => false
  let cellOk := match laneRange die tile fold with
    | some (_, _, c) => decide (cell < c)
    | none => false
  match level with
  | 7 => decide (w.toNat % 2 ^ 29 = 0)
  | 6 => decide (w.toNat % 2 ^ 29 = 0)
  | 5 => decide (die ≤ 4 ∧ w.toNat % 2 ^ 26 = 0)
  | 4 => (foldRange die tile).isSome && decide (w.toNat % 2 ^ 21 = 0)
  | 3 => foldOk && decide (w.toNat % 2 ^ 16 = 0)
  | 2 => foldOk && laneOk && decide (cell = 0)
  | 1 => foldOk && laneOk && cellOk
  | _ => false

/-! ### The tally -/

/-- The journal entry at an index (R350). -/
def TallyBlk.at_ (t : TallyBlk) (i : Nat) : Option JEntry := t.journal.find? fun x => x.e.seq.toNat % 8192 == i

/-- Rewrite one base. -/
def modTb (n : Fin 4) (f : TimeBase → TimeBase) (s : State) : State :=
  { s with time := { s.time with tb := upd s.time.tb n f } }

/-- A second in units of 2^-32 ns: for so long a base keeps what it was. [log 132 DEDUCED] -/
def keepSpan : Nat := 1000000000 * 2 ^ 32

/-- A base that is to change keeps what it was, for the stamps of frames that have begun (R346); `now` is TB0. -/
def TimeBase.keepPast (now : BitVec 96) (b : TimeBase) : TimeBase :=
  { b with past := ⟨now, b.value, b.rate, b.oos⟩ :: b.past.filter fun x => decide ((now - x.at_).toNat ≤ keepSpan) }

/-- The base as it was when TB0 read `then_`: before every change made since. -/
def TimeBase.changeAfter (then_ : BitVec 96) (b : TimeBase) : Option BaseChange :=
  (b.past.filter fun x => decide (then_ < x.at_)).getLast?

/-- What a base read `n` cycles of the timer clock ago, with TB0 at that instant. -/
def TimeBase.back (n : Nat) (then_ : BitVec 96) (b : TimeBase) : BitVec 96 :=
  match b.changeAfter then_ with
  | some x => x.value - BitVec.ofNat 96 ((x.at_ - then_).toNat / 21474836480 * { b with rate := x.rate }.inc)
  | none => b.value - BitVec.ofNat 96 (n * b.inc)

/-- TB0 `age` ns ago, in steps of 5 ns. -/
def State.tb0Ago (s : State) (age : Nat) : BitVec 96 := s.time.tb[0].value - BitVec.ofNat 96 (age / 5 * 21474836480)

/-- The stamp on a base of an instant `age` ns ago, in steps of 5 ns, at the rate the base had then and without the steps it
has made since (R346). [log 132 DEDUCED] -/
def stampAgo (n : Fin 4) (age : Nat) (s : State) : DWord :=
  (s.time.tb[n].back (age / 5) (s.tb0Ago age) >>> 32).setWidth 64

/-- The base was out of service `age` ns ago (R347). -/
def State.oosAgo (s : State) (n : Fin 4) (age : Nat) : Bool :=
  match s.time.tb[n].changeAfter (s.tb0Ago age) with
  | some x => x.oos
  | none => s.time.tb[n].oos

/-- The next entry finds its index free: nothing there, or an archived entry (R352). -/
def TallyBlk.free (t : TallyBlk) : Bool :=
  match t.at_ (t.seq.toNat % 8192) with
  | none => true
  | some x => x.archived

/-- The die and tile of the engine that writes an entry, as one number (R348): the shepherd core for a firmware entry,
the arbitration and Hurdle tile for the command path, the tick generator for the rest of its class, the fabric engine and
the message-bus engine for theirs (R393, R420), otherwise the tile of the location code. [log 117 DEDUCED] -/
def Entry.writer (e : Entry) : Nat :=
  let cls := e.code.toNat / 4096
  if bit (e.flags.setWidth 32) 6 then 0
  else if cls = 6 ∨ e.code = 0x1003 ∨ e.code = 0x1004 ∨ e.code = 0x1005 then 10
  else if cls = 1 ∨ cls = 7 then 9
  else if cls = 8 then 11
  else if cls = 9 then 12
  else field e.loc 26 3 * 32 + field e.loc 21 5

/-- Entries of one cycle stand in the order of the writing engine's die and then tile (R348): the newest entry changes
its place, and its number, with up to `n` entries that an engine of a higher tile wrote in the same cycle. -/
def inOrder : Nat → List JEntry → List JEntry
  | n + 1, a :: b :: js =>
    if !b.archived ∧ a.e.writer < b.e.writer then
      ⟨{ b.e with seq := a.e.seq }, false⟩ :: inOrder n (⟨{ a.e with seq := b.e.seq }, a.archived⟩ :: js)
    else a :: b :: js
  | _, js => js

/-- Write an entry of the cycle `at_` under the next sequence number (R348, R350). -/
def TallyBlk.put (at_ : Nat × Nat × Nat) (e : Entry) (t : TallyBlk) : TallyBlk :=
  let n := if t.sameAt = at_ then t.sameN else 0
  { t with
    journal := inOrder n (⟨{ e with seq := t.seq }, false⟩ ::
      t.journal.filter fun x => x.e.seq.toNat % 8192 != t.seq.toNat % 8192)
    seq := t.seq + 1, sameAt := at_, sameN := n + 1 }

/-- The entries that follow do not change places with those before them. -/
def TallyBlk.fence (t : TallyBlk) : TallyBlk := { t with sameN := 0 }

/-- Drop an entry: its sequence number is consumed and the drop counted (R352). -/
def TallyBlk.drop (t : TallyBlk) : TallyBlk :=
  { t with
    seq := t.seq + 1
    sameN := 0
    lost := satInc t.lost
    dropped := t.dropped + 1
    firstDropped := if t.dropped = 0 then t.seq else t.firstDropped }

/-- The entries of the journal not yet archived. -/
def TallyBlk.unarch (t : TallyBlk) : Nat := (t.journal.filter fun x => !x.archived).length

/-- The FLAGS byte of Table 13.4. -/
def entryFlags (base sev : Nat) (oos fw : Bool) : Byte := BitVec.ofNat 8 (base + 4 * sev + 32 * b01 oos + 64 * b01 fw)

/-- The fabric position an entry carries (Table 13.4): 0 without a mustered fabric. -/
def State.origin (s : State) : Byte := if s.fab.mustered then BitVec.ofNat 8 s.fab.pos else 0

/-- An entry as the tally engine lays it out; its sequence number is given when it is written. -/
def mkEntry (s : State) (time : DWord) (flags : Byte) (code : Nat) (loc : Word) (payload : DWord) : Entry :=
  { time := time, seq := 0, loc := loc, code := BitVec.ofNat 16 code, flags := flags
    origin := s.origin, boot := s.tally.boot.setWidth 16, payload := payload }

/-- The severity of an entry (Table 13.4). -/
def Entry.sev (e : Entry) : Nat := e.flags.toNat / 4 % 8

/-- Write one entry, or drop it when its index is not free (R352); the interrupts of Table 13.11 follow, and a run of
the archive starts at the threshold (R351). [log 107 DEDUCED] -/
def putOrDrop (e : Entry) (s : State) : State :=
  if s.tally.free then
    let s := { s with tally := s.tally.put s.cycle e }
    let s := if s.tally.irqSev.toNat ≤ e.sev then setIrq .tally 0 s else s
    if s.tally.thresh.toNat ≤ s.tally.unarch then { s with tally := { s.tally with archiving := true } } else s
  else setIrq .tally 2 (bump .tally 0x02C 0 1 { s with tally := s.tally.drop })

/-- The TALLY_LOST entry written before the first entry that finds its index free (R352). -/
def lostEntry (s : State) : Entry :=
  mkEntry s s.now (entryFlags s.drvIdx.val 5 s.drv.oos false) 0x0601 (locTile 0 14)
    (pack64 [(0, s.tally.dropped), (32, s.tally.firstDropped.toNat)])

/-- The tally engine takes an entry. -/
def tallyWrite (e : Entry) (s : State) : State :=
  if s.tally.dropped ≠ 0 ∧ s.tally.free then
    let s1 := putOrDrop (lostEntry s) { s with tally := s.tally.fence }
    putOrDrop e { s1 with tally := { s1.tally with dropped := 0, sameN := 0 } }
  else putOrDrop e s

/-- An engine's entry stamped on the driving base at a given instant, `age` ns ago, with the service of the base at the stamp
(R347). -/
def logAt (time : DWord) (age code sev : Nat) (loc : Word) (payload : DWord) (s : State) : State :=
  tallyWrite (mkEntry s time (entryFlags s.drvIdx.val sev (s.oosAgo s.drvIdx age) false) code loc payload) s

/-- An engine's entry for an instant `age` ns ago (R347). -/
def logAgo (age code sev : Nat) (loc : Word) (payload : DWord) (s : State) : State :=
  logAt (stampAgo s.drvIdx age s) age code sev loc payload s

/-- An entry stamped on TB0: of the ROM at a start, and of the always-on domain, which write one after the other (R347,
R527). -/
def logTb0 (time code sev : Nat) (loc : Word) (payload : DWord) (s : State) : State :=
  let s := tallyWrite (mkEntry s (BitVec.ofNat 64 time) (entryFlags 0 sev false false) code loc payload)
    { s with tally := s.tally.fence }
  { s with tally := s.tally.fence }

/-- An engine's entry stamped now. -/
def logEv (code sev : Nat) (loc : Word) (payload : DWord) (s : State) : State := logAt s.now 0 code sev loc payload s

/-- The bytes of an entry (Table 13.4), its CRC computed over the others. -/
def Entry.bytes (e : Entry) : List Byte :=
  let a := leBytes 8 e.time.toNat ++ leBytes 4 e.seq.toNat ++ leBytes 4 e.loc.toNat ++ leBytes 2 e.code.toNat ++
    [e.flags, e.origin] ++ leBytes 2 e.boot.toNat
  let p := leBytes 8 e.payload.toNat
  a ++ leBytes 2 (crc16 (a ++ p)).toNat ++ p

/-! ### Read latches and held writes -/

/-- A read of a low word: the words that go with it are latched for the requester under the register's address (R19).
[log 28 DEDUCED] -/
def latchRead (rq : Requester) (reg : Nat) (words : List Word) (s : State) : State :=
  { s with latches := s.latches.set rq.slot (some ⟨reg, words⟩) }

/-- A read of a later word of a latched value: the latched word when the requester's latch holds this register,
otherwise the live word (R19). [log 28 DEDUCED] -/
def latchedWord (rq : Requester) (reg : Nat) (i : Nat) (live : Word) (s : State) : Word :=
  match s.latches[rq.slot] with
  | some l => if l.reg = reg then l.words.getD i live else live
  | none => live

/-- A write of a low word is held (R20). [log 28 DEDUCED] -/
def holdWrite (rq : Requester) (reg : Nat) (w : Word) (s : State) : State :=
  { s with held := s.held.set rq.slot (some ⟨reg, w⟩) }

/-- The low word a requester holds for a register (R20). [log 28 DEDUCED] -/
def heldWord (rq : Requester) (reg : Nat) (s : State) : Option Word :=
  match s.held[rq.slot] with
  | some h => if h.reg = reg then some h.word else none
  | none => none

/-- The write of the high word consumes the held low word (R20). -/
def dropHeld (rq : Requester) (s : State) : State := { s with held := s.held.set rq.slot none }

/-- The 64-bit value of a low and a high word. -/
def join64 (lo hi : Word) : DWord := hi ++ lo

end Sys2Proof.Machine
end

