-- ==== Sys2Proof/Machine/Memory.lean ====
section
/-! DEFINITION. The on-die memories and the MRAM: bytes in canonical form, ECC, bank ownership, the keep bank, the
background walk and row sparing. -/

namespace Sys2Proof.Machine

/-! ### Bytes -/

/-- The byte at an address; an unlisted address reads 0 (R297). [log 4 DESIGN CHOICE] -/
def cellRead (l : List Host.Cell) (a : Nat) : Byte :=
  match l with
  | [] => 0
  | c :: l => if c.1 = a then c.2 else cellRead l a

/-- Write one byte, keeping addresses rising and listing no byte of value 0. -/
def cellWrite (a : Nat) (b : Byte) : List Host.Cell → List Host.Cell
  | [] => if b = 0 then [] else [(a, b)]
  | c :: l =>
    if a < c.1 then (if b = 0 then c :: l else (a, b) :: c :: l)
    else if a = c.1 then (if b = 0 then l else (a, b) :: l)
    else c :: cellWrite a b l

/-- The canonical form above a lower bound: addresses strictly rising, no byte of value 0. -/
def cellsFrom (lo : Nat) : List Host.Cell → Bool
  | [] => true
  | c :: l => decide (lo ≤ c.1) && c.2 != 0 && cellsFrom (c.1 + 1) l

/-- A memory is in canonical form. -/
def Memory.wf (l : List Host.Cell) : Bool := cellsFrom 0 l

/-- Write a run of bytes. -/
def cellsPut (a : Nat) : List Byte → List Host.Cell → List Host.Cell
  | [], l => l
  | b :: bs, l => cellsPut (a + 1) bs (cellWrite a b l)

/-- Read `n` bytes. -/
def cellsGet (l : List Host.Cell) (a n : Nat) : List Byte := (List.range n).map fun i => cellRead l (a + i)

/-- Every byte from `a` up to `b` becomes 0. -/
def cellsClear (a b : Nat) (l : List Host.Cell) : List Host.Cell := l.filter fun c => !(decide (a ≤ c.1) && decide (c.1 < b))

/-- Rewrite the MEM block. -/
def modMem (f : MemBlk → MemBlk) (s : State) : State := { s with mem := f s.mem }

/-- Bytes of an on-die memory, by key. [log 4 DESIGN CHOICE] -/
def ramGet (k n : Nat) (s : State) : List Byte := cellsGet s.mem.ram k n

/-- Store bytes in an on-die memory, by key. -/
def ramPut (k : Nat) (bs : List Byte) (s : State) : State := modMem (fun m => { m with ram := cellsPut k bs m.ram }) s

/-- The repair records: bank, row and spare row of every remapped row (R311). -/
def State.repairs (s : State) : List (Nat × Nat × Nat) :=
  (List.range 16).flatMap fun b => (getNat s.mem.bank b default).spared.map fun x => (b, x.1, x.2)

/-- A byte of the MRAM; the bytes of the repair table, in both copies alike, follow its records (R311).
[log 4 DESIGN CHOICE; 9 DESIGN CHOICE] -/
def mramByte (s : State) (off : Nat) : Byte :=
  if 0x2000 ≤ off ∧ off < 0x2800 then Config.repairByte (off % 0x400) s.repairs else cellRead s.mem.mram off

/-- Bytes of the MRAM. -/
def mramGet (off n : Nat) (s : State) : List Byte := (List.range n).map fun i => mramByte s (off + i)

/-- The key of the mark of an MRAM word (R313). -/
def mramKey (off : Nat) : Nat := 0x10000000 + off / 8 * 8

/-- Write bytes of the MRAM; words of 64 bits written whole lose their mark (R308, R313). -/
def mramPut (off : Nat) (bs : List Byte) (s : State) : State :=
  modMem (fun m => { m with
    mram := cellsPut off bs m.mram
    marked := m.marked.filter fun k => !(decide (0x10000000 + off ≤ k) && decide (k + 8 ≤ 0x10000000 + off + bs.length)) }) s

/-! ### Places -/

/-- The key of a core's local data memory address (R244). [log 63 DESIGN CHOICE] -/
def localKey (core addr : Nat) : Nat := 0x800000 + core * 0x10000 + (addr - 0x800000)

/-- The first key of the keep bank. -/
def keepBase : Nat := 0x900000

/-- The key of a bundle in a core's program memory (R244). -/
def progKey (core bundle : Nat) : Nat := 0xA00000 + core * 0x20000 + bundle * 8

/-- A bundle of a core's program memory. -/
def bundleAt (core n : Nat) (s : State) : DWord := BitVec.ofNat 64 (ofLe (ramGet (progKey core n) 8 s))

/-- The bank of an address below 0x0042_0000: 0 to 15 general, 16 and 17 dual-port. -/
def bankOf (addr : Nat) : Nat := if addr < 0x400000 then addr / 0x40000 else 16 + (addr - 0x400000) / 0x10000

/-- The address lies in a general or dual-port bank. -/
def inBanks (addr : Nat) : Bool := decide (addr < 0x420000)

/-- One bank's record. -/
def State.bank (s : State) (b : Nat) : BankState := getNat s.mem.bank b default

/-- Rewrite one bank's record. -/
def modBank (b : Nat) (f : BankState → BankState) (s : State) : State :=
  modMem (fun m => { m with bank := updNat m.bank b f }) s

/-- The location code of a bank (R317). -/
def locBank (b : Nat) : Word := if b < 16 then locCode 3 0 6 b 0 0 else locCode 3 0 7 (b - 16) 0 0

/-- The location code of a word by key, at fold level (R26): its bank, or the one fold of a core's tile or of the
always-on tile, whose memories have no fold of their own (R22). [log 63 DESIGN CHOICE] -/
def locKey (k : Nat) : Word :=
  if k < 0x420000 then locBank (bankOf k)
  else if k < 0x900000 then locCode 3 0 ((k - 0x800000) / 0x10000) 0 0 0
  else if k < 0xA00000 then locCode 3 3 7 0 0 0
  else if k < 0x10000000 then locCode 3 0 ((k - 0xA00000) / 0x20000) 0 0 0
  else locCode 3 0 8 0 0 0

/-- The offset of a key within its bank. -/
def bankOff (k : Nat) : Nat := if k < 0x400000 then k % 0x40000 else k % 0x10000

/-- The row of a key in a general bank. -/
def rowOf (k : Nat) : Nat := k % 0x40000 / 256

/-- The address of a word of a given key as an entry names it: the address software uses (Table 11.1), in the keep bank the
byte address of Table 11.11; the byte in its memory for program memory, which has no address. [log 63 DESIGN CHOICE] -/
def keyAddr (k : Nat) : Nat :=
  if k < 0x800000 then k
  else if k < 0x900000 then 0x800000 + (k - 0x800000) % 0x10000
  else if k < 0xA00000 then k - 0x900000
  else if k < 0x10000000 then (k - 0xA00000) % 0x20000
  else k

/-! ### ECC -/

/-- The inverted bits of the stored codeword of a word. [log 8 DESIGN CHOICE] -/
def State.flipsAt (s : State) (k : Nat) : BitVec 39 :=
  match s.mem.flips.find? fun x => x.1 == k with
  | some x => x.2
  | none => 0

/-- Set the inverted bits of a word. -/
def setFlips (k : Nat) (f : BitVec 39) (s : State) : State :=
  modMem (fun m =>
    let rest := m.flips.filter fun x => x.1 != k
    { m with flips := if f = 0 then rest else (k, f) :: rest }) s

/-- The number of 1 bits. -/
def popCount {n : Nat} (x : BitVec n) : Nat := ((List.range n).filter fun i => x.getLsbD i).length

/-- A word is marked uncorrectable (R308). -/
def State.isMarked (s : State) (k : Nat) : Bool := s.mem.marked.contains k

/-- The word loses its mark. -/
def unmark (k : Nat) (s : State) : State := modMem (fun m => { m with marked := m.marked.filter (· != k) }) s

/-- The address of a register of a bank, as an offset in the MEM block. -/
def bankCtr (b off : Nat) : Nat := 0x1000 + b * 0x40 + off

/-- UE_DETECTED (R308, Table 11.7), with its counters. -/
def logUe (req k : Nat) (s : State) : State :=
  let s := bump .mem 0x024 16 1 (modMem (fun m => { m with uecount := satInc m.uecount }) s)
  let s := if inBanks k then
      bump .mem (bankCtr (bankOf k) 8) 16 1
        (modBank (bankOf k) (fun b => { b with ue := satInc b.ue, lasterr := bankOff k }) s)
    else s
  setIrq .mem 1 (logEv 0x0402 5 (locKey k) (pack64 [(0, keyAddr k), (32, req)]) s)

/-- CE_CORRECTED (R307): counted, and the row marked when the error persists after write-back. -/
def logCe (k : Nat) (f : BitVec 39) (stuck : Bool) (s : State) : State :=
  let s := bump .mem 0x024 0 1 (modMem (fun m => { m with cecount := satInc m.cecount }) s)
  let s := if inBanks k then
      bump .mem (bankCtr (bankOf k) 8) 0 1
        (modBank (bankOf k) (fun b => { b with ce := satInc b.ce, lasterr := bankOff k }) s)
    else s
  let row := stuck && decide (k < 0x400000)
  let s := if row then modBank (bankOf k) (fun b => { b with worn := rowOf k :: b.worn.filter (· != rowOf k) }) s else s
  setIrq .mem 0 (logEv 0x0401 2 (locKey k)
    (pack64 [(0, keyAddr k), (32, (Config.syndrome f).toNat), (40, b01 row)]) s)

/-- The words of the dual-port banks that one port has written in the cycle in progress. -/
def State.wroteNow (s : State) (portB : Bool) : List PortWrite :=
  if s.mem.wroteAt = s.cycle then s.mem.wrote.filter fun x => x.portB == portB else []

/-- Port B is the port of an owner ID: port A serves the fabric engine alone (Table 11.3). -/
def onPortB (req : Nat) : Bool := req != 5

/-- The on-die memories as an owner ID reads them: of a word that the other port writes in the same cycle, the data from
before that write (R306). -/
def State.ramFor (s : State) (req : Nat) : List Host.Cell :=
  (s.wroteNow (!onPortB req)).foldl (fun l x => cellsPut x.key x.old l) s.mem.ram

/-- Bytes of an on-die memory as an owner ID reads them. -/
def portGet (req k n : Nat) (s : State) : List Byte := cellsGet (s.ramFor req) k n

/-- A word from before a write of the same cycle is read under ECC (R306 to R308). -/
def oldRead (req : Nat) (x : PortWrite) (u : Upset) (s : State) : Bool × State :=
  let f := x.flips ^^^ u.flips
  if x.marked then (false, logUe req x.key s)
  else if f = 0 then (true, s)
  else if popCount f = 1 then (true, logCe x.key f u.stuck s)
  else (false, logUe req x.key s)

/-- A word is read by a requester: good, or uncorrectable (R307, R308). A single error is corrected and written back.
[log 8 DESIGN CHOICE; 47 DEDUCED] -/
def eccRead (req k : Nat) (u : Upset) (s : State) : Bool × State :=
  let f := s.flipsAt k ^^^ u.flips
  if let some x := (s.wroteNow (!onPortB req)).find? fun x => x.key == k then oldRead req x u s
  else if s.isMarked k then (false, logUe req k s)
  else if f = 0 then (true, s)
  else if popCount f = 1 then (true, logCe k f u.stuck (setFlips k (if u.stuck then f else 0) s))
  else (false, logUe req k (modMem (fun m => { m with marked := k :: m.marked }) (setFlips k 0 s)))

/-- What has been injected into a word in this cycle (R529). -/
def State.injectedNow (s : State) (w : Nat) : BitVec 39 :=
  match s.pert.injected with
  | some (c, k, m) => if c = s.cycle ∧ k = w then m else 0
  | none => 0

/-- A store into a word: a whole word clears the mark and the check bits; a smaller store to a word that is or is
found uncorrectable is dropped (R308). An injection in the same cycle applies to the word as it stands after the store
(R529). [log 47 DEDUCED] -/
def eccStore (req k size : Nat) (bs : List Byte) (u : Upset) (s : State) : State :=
  let w := k / 4 * 4
  let m := s.injectedNow w
  if size = 4 then
    let s := if s.isMarked w then logUe req w (unmark w s) else s
    ramPut k bs (setFlips w m s)
  else if m = 0 then
    let (ok, s) := eccRead req w u s
    if ok then ramPut k bs s else s
  else
    let (ok, s) := eccRead req w u (setFlips w (s.flipsAt w ^^^ m) s)
    setFlips w (s.flipsAt w ^^^ m) (if ok then ramPut k bs s else s)

/-- The words of a span of an on-die memory are read by a requester: all good, or some uncorrectable (R307, R308). -/
def eccSpan (req k words : Nat) (s : State) : Bool × State :=
  (List.range words).foldl (fun (r : Bool × State) i =>
    let t := eccRead req (k + 4 * i) ⟨0, false, false⟩ r.2
    (r.1 && t.1, t.2)) (true, s)

/-! ### Ownership -/

/-- The bundle boundary at which a core stands. -/
def State.boundary (s : State) (id : Nat) : Nat := (getNat s.core.cpu id default).cycle

/-- A handover has been accepted in the cycle in progress. Tick cores share a clock, so that of two of them is judged by
the bundle too. [log 113 DEDUCED] -/
def State.handsNow (s : State) (id : Nat) (h : Handover) : Bool :=
  h.at_ == s.cycle && (!(decide (1 ≤ id ∧ id ≤ 4) && decide (1 ≤ h.core)) || h.bundle == s.boundary id)

/-- The owner of a bank as an owner ID finds it in the cycle in progress: an accepted handover takes effect in the cycle
after it (R302). -/
def State.ownerFor (s : State) (id b : Nat) : Nat :=
  let x := s.bank b
  match x.handover with
  | some h => if s.handsNow id h then x.owner else h.owner
  | none => x.owner

/-- The owner of a bank in the cycle in progress, by the clocks of TB0 and the shepherd core. -/
def State.ownerOf (s : State) (b : Nat) : Nat := s.ownerFor 0 b

/-- A non-owner access to a general bank (R303). [log 16 DESIGN CHOICE] -/
def nonOwner (req addr : Nat) (write : Bool) (s : State) : State :=
  let b := bankOf addr
  let o := s.ownerFor req b
  let s := bump .mem (bankCtr b 0xC) 0 1 (modBank b (fun x => { x with nown := satInc x.nown }) s)
  let s := setIrq .mem 4 (setErr .mem 2 s)
  limited (0x100000 + req * 32 + b)
    (logEv (if write then 0x0406 else 0x0405) 4 (locBank b) (pack64 [(0, addr), (32, req), (36, o)])) s

/-- The requester may access the bank of an address: the owner of a general bank, anyone in a dual-port bank (R300,
R305). -/
def State.owns (s : State) (req addr : Nat) : Bool := decide (16 ≤ bankOf addr) || s.ownerFor req (bankOf addr) == req

/-- The outcome of a read: a value, or an uncorrectable word. -/
inductive ReadRes where
  | value (v : Nat)
  | uncorrectable
  deriving DecidableEq, Repr

/-- A read of `size` bytes of a bank by an owner ID (R303, R307, R308). -/
def bankRead (req addr size : Nat) (u : Upset) (s : State) : ReadRes × State :=
  if s.owns req addr then
    let (ok, s) := eccRead req (addr / 4 * 4) u s
    (if ok then .value (ofLe (portGet req addr size s)) else .uncorrectable, s)
  else (.value 0, nonOwner req addr false s)

/-- A write that loses to port A (R306). -/
def dpLost (req addr : Nat) (s : State) : State :=
  let b := bankOf addr
  let s := bump .mem (bankCtr b 0xC) 16 1 (modBank b (fun x => { x with lost := satInc x.lost }) s)
  setIrq .mem 5 (logEv 0x0407 3 (locBank b) (pack64 [(0, addr / 4 * 4), (32, req)]) s)

/-- A word of a dual-port bank is written on port A or port B (Table 11.3): of one cycle port A's write comes first, so
that the other one finds it (R306); what stands behind a write of its cycle and is no loser belongs to the next cycle.
[log 113 DEDUCED] -/
def portTurn (portB : Bool) (addr : Nat) (s : State) : State :=
  let k := addr / 4 * 4
  let s := inTurn .mem k (b01 portB) s
  modMem (fun m => { m with
    wrote := ⟨k, portB, ramGet k 4 s, s.flipsAt k, s.isMarked k⟩ :: s.wroteNow portB ++ s.wroteNow (!portB)
    wroteAt := s.cycle }) s

/-- Port A has written the word in the cycle in progress. -/
def State.portAWrote (s : State) (addr : Nat) : Bool := (s.cycNote .mem).turn.any fun x => x == (addr / 4 * 4, 0)

/-- A write to a bank by an owner ID: dropped from a non-owner (R303), lost on a dual-port bank to port A (R306). -/
def bankWrite (req addr size : Nat) (bs : List Byte) (u : Upset) (s : State) : State :=
  if !s.owns req addr then nonOwner req addr true s
  else if 16 ≤ bankOf addr ∧ (u.lost ∨ s.portAWrote addr = true) then dpLost req addr s
  else eccStore req addr size bs u (if 16 ≤ bankOf addr then portTurn true addr s else s)

/-- No fault of the memory. -/
def Upset.clean : Upset := ⟨0, false, false⟩

/-- Whole words at rising addresses, each by its own write. -/
def putWords (write : Nat → List Byte → State → State) (a : Nat) (bs : List Byte) (s : State) : State :=
  (List.range (bs.length / 4)).foldl (fun s i => write (a + 4 * i) (slice bs (4 * i) 4) s) s

/-- The address of MEM_BANK_OWNER of a bank. -/
def bankAddr (b off : Nat) : Nat := 0x20101000 + b * 0x40 + off

/-- A requester may write the owner register of a bank (R301). [log 49 DEDUCED] -/
def ownerWriter (rq : Requester) (owner : Nat) : Bool :=
  match rq with
  | .keeper => true
  | .task => owner == 0
  | .tick k => owner == k.val + 1
  | _ => false

/-- The owner ID of a requester that is a core. -/
def Requester.owner : Requester → Nat
  | .tick k => k.val + 1
  | _ => 0

/-- An accepted handover: it takes effect in the next cycle; of several in one cycle that of the requester that is last
in the order shepherd core, TC0 to TC3 stands (R302). -/
def handOver (id b new : Nat) (s : State) : State :=
  let keep : Bool := match (s.bank b).handover with
    | some h => s.handsNow id h && decide (id < h.core)
    | none => false
  if keep then s
  else modBank b (fun x => { x with
    owner := s.ownerFor id b, handover := some ⟨new, id, s.cycle, s.boundary id⟩ }) s

/-- BANK_OWNER_WRITE: a handover of a general bank (R301, R302); a reserved ID or bit is a reserved write (R13), and
the dual-port banks have no owner register (R14). [log 49 DEDUCED] -/
def doBankOwnerWrite (rq : Requester) (b : Fin 18) (v : Word) (s : State) : State :=
  if 16 ≤ b.val then reservedWrite rq (bankAddr b.val 0) s
  else
    let old := s.ownerFor rq.owner b.val
    let bad := !decide (v.toNat < 10 ∨ v.toNat = 15)
    let t := if bad then reservedWrite rq (bankAddr b.val 0) s else s
    if !ownerWriter rq old then setErr .mem 1 t
    else if bad then t
    else
      logEv 0x0408 2 (locBank b.val) (pack64 [(0, old), (4, v.toNat), (8, rq.owner)]) (handOver rq.owner b.val v.toNat s)

/-! ### The keep bank -/

/-- WORD advances after an access when INC is set (Table 11.11). -/
def keepStep (s : State) : State :=
  modMem (fun m => if m.keepInc then { m with keepWord := (m.keepWord + 4) % 65536 } else m) s

/-- The ID by which an ECC entry names a requester of the keep bank; the service port has none in Table 11.2.
[log 48 DEDUCED] -/
def State.keepId (s : State) (rq : Requester) : Nat := if rq.isShepherd then 0 else s.freeVal.toNat % 16

/-- KEEPDATA_ACCESS: one word of the keep bank is read or written under ECC (R299, R307, R308, R312). The value that a
read of an uncorrectable word returns is free. [log 114 DEDUCED] -/
def doKeepdataAccess (rq : Requester) (w : Option Word) (s : State) : State :=
  let k := keepBase + s.mem.keepWord
  match w with
  | none =>
    if rq.isShepherd || rq == .service then
      let r := eccRead (s.keepId rq) k ⟨0, false, false⟩ s
      if r.1 then keepStep (giveRead rq (BitVec.ofNat 32 (ofLe (ramGet k 4 s))) r.2)
      else keepStep (tickFree (giveRead rq ((r.2.freeVal >>> 32).setWidth 32) r.2))
    else giveRead rq 0 (setErr .mem 1 s)
  | some v =>
    if rq == .keeper || rq == .service then
      keepStep (eccStore (s.keepId rq) k 4 (leBytes 4 v.toNat) ⟨0, false, false⟩ s)
    else setErr .mem 1 s

/-- KEEPDATA_ACCESS: a write takes its turn among the writes of its cycle (R15). -/
def doKeepdataRow (rq : Requester) (w : Option Word) (s : State) : State :=
  match w with
  | none => doKeepdataAccess rq none s
  | some v => written .mem 0x02C rq (doKeepdataAccess rq (some v)) s

/-! ### The background walk -/

/-- The word keys of the row under test. -/
def State.rowKey (s : State) : Nat := s.mem.next * 256

/-- The row under test is copied to the save buffer with ECC correction; a marked word keeps its mark (R310). The walk
has no requester ID in Table 11.2, so that field of its entries is a free value. [log 48 DEDUCED] -/
def rowTestStart (s : State) : State :=
  let k := s.rowKey
  let bad := (s.mem.flips.filter fun x => decide (k ≤ x.1 ∧ x.1 < k + 256) && !s.isMarked x.1).map (·.1)
  let s := bad.foldl (fun s w => tickFree (eccRead (s.freeVal.toNat % 16) w .clean s).2) s
  modMem (fun m => { m with walk := true, testing := true }) s

/-- A row is remapped to the next free spare of its bank, if there is one (R311). -/
def spareRow (b row : Nat) (s : State) : State :=
  let x := s.bank b
  if x.spared.length < 8 then
    let s := modBank b (fun x => { x with
      spared := x.spared ++ [(row, x.spared.length)], worn := x.worn.filter (· != row) }) s
    setIrq .mem 2 (logEv 0x0403 4 (locBank b) (pack64 [(0, row), (16, x.spared.length)]) s)
  else setIrq .mem 3 (logEv 0x0404 5 (locBank b) (pack64 [(0, row)]) s)

/-- The save buffer is written back to the row, or to the next free spare of its bank when the row failed its test or is
marked for sparing (R311). -/
def rowWriteBack (rowOk : Bool) (s : State) : State :=
  if !s.mem.testing then s
  else
    let b := s.mem.next / 1024
    let row := s.mem.next % 1024
    let x := s.bank b
    let s := if rowOk && !x.worn.contains row then s else spareRow b row s
    modMem (fun m => { m with
      testing := false, next := (m.next + 1) % 16384
      passes := if m.next = 16383 then satInc m.passes else m.passes }) s

/-! ### The MRAM write engine's copy -/

/-- The key of a source word the engine may read: a general bank owned by ID 0, or the shepherd's local data memory. -/
def State.mwKey (s : State) (a : Nat) : Option Nat :=
  if a < 0x400000 then (if s.owns 0 a then some a else none)
  else if 0x800000 ≤ a ∧ a + 8 ≤ 0x810000 then some (localKey 0 a)
  else none

/-- The next word of the job is copied. The owner of its source is judged as it is read, and a word that is no longer
owned stops the write (R316); one that cannot be corrected is discarded (R308). [log 62 DEDUCED; 114 DEDUCED] -/
def mwWord (s : State) : State :=
  let i := s.mem.mwWords
  let at_ := s.mem.mwJob.1 + 8 * i
  match s.mwKey (s.mem.mwJob.2.1 + 8 * i) with
  | none =>
    setIrq .mem 7 (logEv 0x0409 5 0x61000000 (pack64 [(0, at_)]) (modMem (fun m => { m with mw := .failed }) s))
  | some k =>
    let r := eccSpan 0 k 2 s
    let t := if r.1 then mramPut at_ (ramGet k 8 s) r.2 else r.2
    modMem (fun m => { m with mwWords := i + 1 }) t

/-- The job goes on until `n` of its words are written or it stops. -/
def mwTo (n : Nat) (s : State) : State :=
  (List.range (n - s.mem.mwWords)).foldl (fun s _ => if s.mem.mw = .busy then mwWord s else s) s

/-- The words of the write in progress that are written when TB0 reads `t`, 200 ns each, short of the last (R315, R316). -/
def mwAt (t : Nat) (s : State) : State :=
  if s.mem.mw = .busy then mwTo (min (s.mem.mwJob.2.2 - 1) ((t - s.mem.mwSince) / 200)) s else s

/-- The words of the write in progress that are written by now. -/
def mwNow (s : State) : State := mwAt s.tb0 s

/-- Free spare rows of a bank: BANK_STAT.SPARES. -/
def BankState.spares (x : BankState) : Nat := 8 - x.spared.length

end Sys2Proof.Machine
end

