-- ==== Sys2Proof/Machine/Regs.lean ====
section
/-! DEFINITION. What every register write passes, and the head registers of the blocks (R10 to R14, R555 to R557). -/

namespace Sys2Proof.Machine

/-- ERR.PRIV of a block, where its chapter gives one. [log 23 DEDUCED] -/
def Block.privBit : Block → Option Nat
  | .sys => none | .tick => none | .sol => none | .din => none
  | .hsw => some 2
  | .led => some 3
  | _ => some 1

/-- A write is refused for want of permission: the block's ERR.PRIV, or RSVD_WR in a block without that bit (R557).
[log 17 DEDUCED; 23 DEDUCED] -/
def refuseWrite (b : Block) (rq : Requester) (addr : Nat) (s : State) : State :=
  match b.privBit with
  | some i => setErr b i s
  | none => reservedWrite rq addr s

/-- A write that passes permission, reserved bits and reserved encodings has its effect; `bad` says that a bit or an
encoding is reserved, which sets RSVD_WR whoever writes (R13, R557). [log 17 DEDUCED] -/
def wrIf (b : Block) (ok bad : Bool) (rq : Requester) (addr : Nat) (f : State → State) (s : State) : State :=
  let t := if bad then reservedWrite rq addr s else s
  if !ok then refuseWrite b rq addr t
  else if bad then t
  else f s

/-- A write to a register without reserved encodings; `rsv` holds the reserved bits. -/
def wr (b : Block) (ok : Bool) (rsv : Word) (rq : Requester) (addr : Nat) (v : Word) (f : State → State)
    (s : State) : State := wrIf b ok (v &&& rsv != 0) rq addr f s

/-- The bits of a counter register: by how much hardware raised its counters in this cycle is added to what is written
(R18). -/
def State.raised (s : State) (b : Block) (off : Nat) (fields : List (Nat × Nat)) (v : Word) : Word :=
  BitVec.ofNat 32 (fields.foldr (fun f n => n + min (2 ^ f.2 - 1) (field v f.1 f.2 + s.bumps b off f.1) * 2 ^ f.1) 0)

/-- A counter register takes a value: the written value is stored first, and what hardware raises in the same cycle is
added to it in the next (R18). -/
def storeCount (b : Block) (off : Nat) (fields : List (Nat × Nat)) (v : Word) (put : Word → State → State) (s : State) :
    State :=
  modNote b (fun c => { c with wrote := (off, v) :: c.wrote }) (put (s.raised b off fields v) s)

/-- What a read of a counter register returns: in the cycle of a write the written value (R18). -/
def State.readCount (s : State) (b : Block) (off : Nat) (live : Word) : Word :=
  match (s.cycNote b).wrote.find? fun x => x.1 == off with
  | some x => x.2
  | none => live

/-- The shepherd core at either level and the service port (R557). [log 22 DEDUCED] -/
def Requester.std (rq : Requester) : Bool := rq.isShepherd || rq == .service

/-- The mask of the `n` lowest bits. -/
def lowBits (n : Nat) : Word := BitVec.ofNat 32 (2 ^ n - 1)

/-- The reserved bits of a register whose fields are given by lowest bit and width. -/
def rsvd (fields : List (Nat × Nat)) : Word :=
  ~~~(pack (fields.map fun f => (f.1, 2 ^ f.2 - 1)))

/-- The number of IRQ_STATUS bits of a block. -/
def Block.irqBits : Block → Nat
  | .sys => 4 | .tick => 5 | .strct => 4 | .hsw => 9 | .sol => 8 | .led => 7 | .din => 4 | .hurdle => 7
  | .time => 3 | .tally => 3 | .fab => 7 | .mbus => 8 | .aud => 5 | .acc => 5 | .key => 3 | .pwr => 7
  | .mem => 8 | .que => 2 | .dwin => 4 | .upd => 6 | .pert => 2

/-- The number of ERR bits of a block. -/
def Block.errBits : Block → Nat
  | .sys => 1 | .tick => 1 | .strct => 6 | .hsw => 3 | .sol => 2 | .led => 4 | .din => 1 | .hurdle => 2
  | .time => 3 | .tally => 2 | .fab => 3 | .mbus => 2 | .aud => 3 | .acc => 4 | .key => 6 | .pwr => 3
  | .mem => 4 | .que => 2 | .dwin => 8 | .upd => 5 | .pert => 3

/-- BLOCK_ID (Table 23.2). -/
def blockId (b : Block) : Word := pack [(0, 1), (8, b.idx.val), (16, 0x0480)]

/-- A read of one of the head registers common to all blocks; CTRL and STATUS belong to the block. -/
def headRead (b : Block) (off : Nat) (s : State) : Word :=
  match off with
  | 0x000 => blockId b
  | 0x00C => (s.head b).irq
  | 0x010 => (s.head b).en
  | 0x014 => (s.head b).err
  | _ => 0

/-- A write of a head register common to all blocks, by a permitted requester or not (Table 23.2). -/
def headWrite (b : Block) (ok : Bool) (rq : Requester) (off : Nat) (v : Word) (s : State) : State :=
  let addr := b.base + off
  match off with
  | 0x000 => if ok then s else refuseWrite b rq addr s
  | 0x00C => wr b ok (~~~(lowBits b.irqBits)) rq addr v 
      (fun s => modHead b (fun h => { h with irq := w1c h.irq (s.clears b off v) }) s) s
  | 0x010 => wr b ok (~~~(lowBits b.irqBits)) rq addr v
      (fun s => refreshLine b (modHead b (fun h => { h with en := v }) s)) s
  | 0x014 => wr b ok (~~~(lowBits b.errBits)) rq addr v 
      (fun s => modHead b (fun h => { h with err := w1c h.err (s.clears b off v) }) s) s
  | _ => s

end Sys2Proof.Machine
end

