-- ==== Sys2Proof/Machine/Perturb.lean ====
section
/-! DEFINITION. The perturbation tile: enables and parameters under the life cycle and the ticket, injected memory errors,
jitter, and the count of injected effects. -/

namespace Sys2Proof.Machine

/-- Rewrite the PERT block. -/
def modPert (f : PertBlk → PertBlk) (s : State) : State := { s with pert := f s.pert }

/-- The location code of the perturbation tile (R534). -/
def locPert : Word := locTile 0 17

/-! ### Hits -/

/-- Kind `k` is active in this tick (R528). -/
def State.pertOn (s : State) (k : Nat) : Bool := s.pert.live.getLsbD k

/-- `n` injected effects of a kind (R532): the first since its enable writes PERT_HIT. -/
def pertHit (k n : Nat) (s : State) : State :=
  if n = 0 then s
  else
    let first := !s.pert.hit.getLsbD k
    let s := bump .pert 0x04C 0 n (modPert (fun p => { p with hits := satAdd p.hits n, hit := setBit p.hit k }) s)
    if first then logEv 0xF003 3 locPert (pack64 [(0, k)]) s else s

/-! ### Configurations -/

/-- A signed field of a register. -/
def sfield (w : Word) (lo width : Nat) : Int :=
  let n := field w lo width
  if n < 2 ^ (width - 1) then n else (n : Int) - 2 ^ width

/-- J of TICKJIT in 100 ns, OFF of ADCOFF in class LSB. -/
def tjJ (w : Word) : Int := sfield w 0 10
def adcOff (w : Word) : Int := sfield w 16 9

/-- The parameters of a kind lie in its full range (Table 21.1). -/
def fullRange (s : State) (p : PertBlk) (k : Nat) : Bool :=
  match k with
  | 0 => decide ((tjJ p.tj).natAbs * 100 ≤ min 50000 (2 * s.T / 64))
  | 1 => decide (field p.hop 0 7 ≤ 100)
  | 2 => match getNat s.que.bind (field p.qfull 0 7) none with
    | some c => decide (1 ≤ field p.qfull 16 13 ∧ field p.qfull 16 13 ≤ 2 ^ c.depth)
    | none => false
  | 5 => decide ((adcOff p.adc).natAbs ≤ 255)
  | _ => true

/-- The parameters of a kind lie in its field-safe range (Table 21.1). -/
def safeRange (p : PertBlk) (k : Nat) : Bool :=
  match k with
  | 3 => decide (field p.dwait 8 8 ≤ 64)
  | 5 => decide ((adcOff p.adc).natAbs ≤ 10)
  | 6 => !bit p.memctl 8
  | _ => false

/-- The life-cycle state permits kind `k` of a configuration (R530). -/
def kindPermitted (s : State) (p : PertBlk) (k : Nat) : Bool :=
  match s.key.lcs with
  | 2 => fullRange s p k
  | 5 => fullRange s p k
  | 3 => safeRange p k && p.ticket && p.ticketMask.getLsbD k
  | 4 => safeRange p k && p.ticket && p.ticketMask.getLsbD k
  | _ => false

/-- The lowest enabled kind that the state does not permit. -/
def deniedKind (s : State) (p : PertBlk) : Option Nat :=
  (List.range 7).find? fun k => p.enable.getLsbD k && !kindPermitted s p k

/-- A refused configuration (R530). -/
def pertDenied (k : Nat) (s : State) : State :=
  setIrq .pert 0 (logEv 0xF002 7 locPert (pack64 [(0, k), (3, b01 (!s.pert.ticket))]) (setErr .pert 2 s))

/-- A configuration with kind `k` counted as enabled: a parameter of a kind is judged whether the kind is enabled or not
(R530 and the example after R532). [log 66 DEDUCED] -/
def PertBlk.counting (p : PertBlk) (k : Nat) : PertBlk := { p with enable := setBit p.enable k }

/-- A write of a parameter of kind `k`, 7 of none, by keeper level or the service port, accepted when the resulting
configuration is permitted (R530). -/
def pertWrite (rq : Requester) (k : Nat) (f : PertBlk → PertBlk) (s : State) : State :=
  if !(rq == .keeper || rq == .service) then setErr .pert 1 s
  else
    match deniedKind s ((f s.pert).counting k) with
    | some k => pertDenied k s
    | none => modPert f s

/-- The address of a PERT register. -/
def pertAddr (off : Nat) : Nat := 0x20140000 + off

/-- PERT_ENABLE: a write of ENABLE (R528, R530). -/
def doPertEnable (rq : Requester) (v : Word) (s : State) : State :=
  wrIf .pert (rq == .keeper || rq == .service) (decide (128 ≤ v.toNat)) rq (pertAddr 0x20)
    (fun s =>
      let e : BitVec 7 := v.setWidth 7
      match deniedKind s { s.pert with enable := e } with
      | some k => pertDenied k s
      | none =>
        logEv 0xF001 7 locPert (pack64 [(0, e.toNat)])
          (modPert (fun p => { p with enable := e, hit := p.hit &&& ~~~(e &&& ~~~p.enable) }) s)) s

/-- The bits that an injection inverts (R529). -/
def injectMask (v : Word) : BitVec 39 :=
  let b := field v 0 6
  if bit v 8 then (1#39 <<< b) ||| (1#39 <<< (b + 1)) else 1#39 <<< b

/-- PERT_MEMCTL_GO: a write of PERT_MEMCTL; GO inverts bits of the stored codeword at PERT_MEMADDR while kind 6 is
active (R529). [log 66 DEDUCED] -/
def doPertMemctlGo (rq : Requester) (v : Word) (s : State) : State :=
  let b := field v 0 6
  let a := s.pert.memaddr.toNat
  wrIf .pert (rq == .keeper || rq == .service) 
    (decide (1024 ≤ v.toNat ∨ bit v 6 ∨ bit v 7 ∨ 38 < b ∨ (bit v 8 ∧ 37 < b) ∨ (bit v 9 ∧ !inBanks a))) rq
    (pertAddr 0x44)
    (fun s =>
      let p := { s.pert with memctl := v &&& 0x1FF#32 }
      match deniedKind s (p.counting 6) with
      | some k => pertDenied k s
      | none =>
        let s := modPert (fun _ => p) s
        if bit v 9 ∧ s.pertOn 6 then
          pertHit 6 1 (modPert (fun p => { p with injected := some (s.cycle, a, injectMask v) })
            (setFlips a (s.flipsAt a ^^^ injectMask v) s))
        else s) s

/-- What ADCOFF added to the conversions of the tick before, of which the reports are the means (R95). -/
def State.adcShiftWas (s : State) (f : Nat) : Int :=
  match s.pert.adcWas with
  | some w => if field w 0 4 = f then adcOff w else 0
  | none => 0

/-- What ADCOFF adds to every conversion of an HS fold (Table 21.1), in class LSB. -/
def State.adcShift (s : State) (f : Nat) : Int :=
  let w := getNat s.pert.par 5 0
  if s.pertOn 5 && field w 0 4 == f then adcOff w else 0

/-- A current report of a channel of fold `f` with that offset. -/
def State.adc (s : State) (f : Nat) (i : Half) : Half := i + BitVec.ofInt 16 (s.adcShift f)

/-! ### The tick -/

/-- The parameters of the kinds with their own register, in the order of `PertBlk.par`. -/
def PertBlk.params (p : PertBlk) : Vector Word 6 := #v[p.tj, p.hop, p.qfull, p.dwait, p.busbit, p.adc]

/-- The jitter of a tick (R528): fixed, or drawn anew from −|J| to +|J|. -/
def drawJit (tj : Word) (free : Nat) : Int :=
  let j := (tjJ tj).natAbs
  if bit tj 12 then ((free % (2 * j + 1) : Nat) : Int) - j else tjJ tj

/-- What was written acts from this tick start (R528). -/
def pertTick (s : State) : State :=
  let p := s.pert
  let on := p.enable.getLsbD 0
  let newBus := p.enable.getLsbD 4 && (!p.live.getLsbD 4 || getNat p.par 4 0 != p.busbit)
  let j := if on then drawJit p.tj s.freeVal.toNat * 100 else 0
  let s := tickFree (modPert (fun p => { p with
    adcWas := if p.live.getLsbD 5 then some p.par[5] else none
    live := p.enable, par := p.params, jit := j, frames := if newBus then field p.busbit 24 8 else p.frames }) s)
  if on ∧ j ≠ 0 then pertHit 0 1 s else s

end Sys2Proof.Machine
end

