-- ==== Sys2Proof/Machine/Queues.lean ====
section
/-! DEFINITION. The hardware queues. -/

namespace Sys2Proof.Machine

/-! ### Queues -/

/-- Rewrite one queue. -/
def modQ (q : Nat) (f : QueState → QueState) (s : State) : State :=
  { s with que := { s.que with q := updNat s.que.q q f } }

/-- One queue. -/
def State.q (s : State) (q : Nat) : QueState := getNat s.que.q q default

/-- The binding in force of a queue (R333). -/
def State.qBind (s : State) (q : Nat) : Option QueueCfg := getNat s.que.bind q none

/-- The number of entries of a ring. -/
def QueueCfg.slots (c : QueueCfg) : Nat := 2 ^ c.depth

/-- The bytes of an entry. -/
def QueueCfg.bytes (c : QueueCfg) : Nat := 8 * 2 ^ c.esize

/-- The address of an entry of a ring (R330). -/
def QueueCfg.entryAt (c : QueueCfg) (e : Nat) : Nat := c.bank * 0x40000 + c.base * 256 + e * c.bytes

/-- The location code of the queue and data-window tile (R334). -/
def locQue : Word := locTile 0 15

/-- The offset of a register of a queue in the QUE block. -/
def qCtr (q off : Nat) : Nat := 0x1000 + q * 0x40 + off

/-- Operations on one queue in one cycle take effect in the order shepherd core, TC0 to TC3, engines by ascending ID, and
then a FLUSH (R293, R332). -/
def qTurn (q rank : Nat) (s : State) : State := inTurn .que (0x10000 + q) rank s

/-- An operation refused with status 2 (R331). -/
def qRefuse (id q : Nat) (pop : Nat) (s : State) : State :=
  let s := match s.qBind q with
    | some _ => bump .que (qCtr q 0x14) 16 1 (modQ q (fun x => { x with refused := satInc x.refused }) s)
    | none => s
  let s := setIrq .que 1 s
  limited (0x300000 + q) (logEv 0x0502 4 locQue (pack64 [(0, q), (8, id), (12, pop)])) s

/-- QFULL makes a queue of `n` entries full at LEVEL (Table 21.1). [log 66 DEDUCED] -/
def State.pertFullAt (s : State) (q n : Nat) : Bool :=
  s.pertOn 2 && field s.pert.par[2] 0 7 == q && decide (field s.pert.par[2] 16 13 ≤ n)

/-- QFULL makes a queue full as it stands. -/
def State.pertFull (s : State) (q : Nat) : Bool := s.pertFullAt q (s.q q).count

/-- The status of a queue operation (R291), or an entry that could not be read (R308). -/
inductive QRes where
  | done | full | refused | unread
  deriving DecidableEq, Repr

/-- A push refused because the queue is full (R331). [log 66 DEDUCED] -/
def qFull (id q : Nat) (s : State) : State :=
  let s := setIrq .que 0 (bump .que (qCtr q 0x14) 0 1 (modQ q (fun x => { x with fulls := satInc x.fulls }) s))
  limited (0x200000 + q) (logEv 0x0501 3 locQue (pack64 [(0, q), (8, id)])) s

/-- What a push by an owner ID comes to: done, or its refusal (R329 to R331). -/
def State.pushRes (s : State) (id q : Nat) : QRes :=
  match s.qBind q with
  | none => .refused
  | some c =>
    if c.producer ≠ id then .refused
    else if (s.q q).count = c.slots ∨ s.pertFull q = true then .full
    else .done

/-- A push by an owner ID (R329 to R331). The ring is exempt from ownership (R304). -/
def qPush (id q : Nat) (data : List Byte) (s : State) : QRes × State :=
  let s := qTurn q id s
  match s.qBind q with
  | none => (.refused, qRefuse id q 0 s)
  | some c =>
    let x := s.q q
    if c.producer ≠ id then (.refused, qRefuse id q 0 s)
    else if x.count = c.slots then (.full, qFull id q s)
    else if s.pertFull q then (.full, qFull id q (pertHit 2 1 s))
    else
      let a := c.entryAt x.tail
      let s := (List.range (c.bytes / 4)).foldl (fun s i =>
        eccStore id (a + 4 * i) 4 (slice data (4 * i) 4) .clean s) s
      (.done, bump .que (qCtr q 0x18) 0 1 (modQ q (fun x => { x with
        tail := (x.tail + 1) % c.slots, count := x.count + 1, hiwat := max x.hiwat (x.count + 1)
        pushes := satInc x.pushes }) s))

/-- A pop by an owner ID (R329, R330). An entry with an uncorrectable word is discarded (R308). [log 67 DEDUCED] -/
def qPop (id q : Nat) (s : State) : QRes × List Byte × State :=
  let s := qTurn q id s
  match s.qBind q with
  | none => (.refused, [], qRefuse id q 1 s)
  | some c =>
    let x := s.q q
    if c.consumer ≠ id then (.refused, [], qRefuse id q 1 s)
    else if x.count = 0 then (.full, [], s)
    else
      let a := c.entryAt x.head
      let (ok, s) := eccSpan id a (c.bytes / 4) s
      let data := ramGet a c.bytes s
      let s := modQ q (fun x => { x with head := (x.head + 1) % c.slots, count := x.count - 1 }) s
      if ok then (.done, data, s) else (.unread, [], s)

/-- The address of a register of a queue. -/
def qAddr (q off : Nat) : Nat := 0x20111000 + q * 0x40 + off

/-- FLUSH from keeper level empties the queue (R332). -/
def qFlush (rq : Requester) (q : Nat) (s : State) : State :=
  if rq = .keeper then modQ q (fun x => { x with head := x.tail, count := 0 }) (qTurn q 16 s) else setErr .que 1 s

/-- CLRCNT clears Q_FULLS, Q_REFUSED, Q_PUSHES and HIWAT. -/
def qClear (q : Nat) (s : State) : State :=
  modQ q (fun x => { x with fulls := 0, refused := 0, pushes := 0, hiwat := 0 }) s

/-- A write of Q_CTRL: CLRCNT under R557, FLUSH from keeper level (R332). -/
def qCtrlWrite (rq : Requester) (q : Nat) (v : Word) (s : State) : State :=
  wr .que rq.std (rsvd [(0, 2)]) rq (qAddr q 0) v (fun s =>
    let s := if bit v 0 then qClear q s else s
    if bit v 1 then qFlush rq q s else s) s

/-- Q_FLUSH. -/
def doQFlush (rq : Requester) (q : Fin 128) (s : State) : State := qCtrlWrite rq q.val 2 s

/-- Q_CLRCNT. -/
def doQClrcnt (rq : Requester) (q : Fin 128) (s : State) : State := qCtrlWrite rq q.val 1 s

/-- The queues of a start: empty, under the image's bindings (R333). -/
def queStart (g : Image) (s : State) : State :=
  { s with que := { bind := g.queues, q := Vector.replicate 128 ⟨0, 0, 0, 0, 0, 0, 0⟩ } }

end Sys2Proof.Machine
end

