-- ==== Sys2Proof/Machine/Windows.lean ====
section
/-! DEFINITION. Data windows and transactions: holders, bursts, the transaction limit. -/

namespace Sys2Proof.Machine

/-- Rewrite one window. -/
def modW (n : Fin 4) (f : WinState4 → WinState4) (s : State) : State :=
  { s with dwin := { s.dwin with w := upd s.dwin.w n f } }

/-- The holder a requester would be (R319); `peer` is the position of a fabric peer. -/
def holderOf (rq : Requester) (peer : Nat) : Option Holder :=
  match rq with
  | .keeper => some .shepherd
  | .task => some .shepherd
  | .service => some .service
  | .fabric => if peer = 0 then none else some (.peer peer)
  | .tick _ => none

/-- The requester holds the window. -/
def State.holds (s : State) (rq : Requester) (peer : Nat) (n : Fin 4) : Bool :=
  match holderOf rq peer with
  | some h => s.dwin.w[n].holder == h
  | none => false

/-- W_AUTH permits a peer (R320). -/
def WinState4.permits (w : WinState4) (peer : Nat) : Bool := w.authFab && (w.authPeer == 0 || w.authPeer == peer)

/-- The words of a full burst (W_CFG.BURST, 0 = 256). -/
def WinState4.burstLen (w : WinState4) : Nat := if w.burst = 0 then 256 else w.burst

/-- The increment of an INC code in bytes, modulo 2^32. -/
def incBytes (inc : Nat) : Word :=
  match inc with
  | 0 => 0
  | 1 => 4
  | 2 => 8
  | _ => 0xFFFFFFFC#32

/-- One more transaction is outstanding (R327). -/
def txnTake (s : State) : State :=
  { s with dwin := { s.dwin with inuse := s.dwin.inuse + 1, peak := max s.dwin.peak (s.dwin.inuse + 1) } }

/-- A transaction ends. -/
def txnFree (s : State) : State := { s with dwin := { s.dwin with inuse := s.dwin.inuse - 1 } }

/-- A transaction would be the 65th: it waits (R328). [log 66 DEDUCED] -/
def txnWait (w : Waiter) (s : State) : State :=
  { s with dwin := { s.dwin with waiters := s.dwin.waiters ++ [w], waits := satInc s.dwin.waits } } |> bump .dwin 0x024 0 1

/-- A transaction can start at once: fewer than 64 are outstanding and none waits before it. -/
def State.txnFits (s : State) : Bool := decide (s.dwin.inuse < 64) && s.dwin.waiters.isEmpty

/-- A window's burst begins: it becomes one of the outstanding transactions (R327). -/
def startBurst (n : Fin 4) (s : State) : State := txnTake (modW n (fun w => { w with state := .active, since := s.tb0 }) s)

/-- Transactions requested in one cycle start with windows W0 to W3, and then the remote accesses (R328). -/
def txnTurn (rank : Nat) (s : State) : State := inTurn .dwin 0x10000 rank s

/-- A burst of `k` words is issued with the address and configuration of this instant (R325). -/
def issueBurst (n : Fin 4) (k : Nat) (s : State) : State :=
  let s := txnTurn n.val s
  let w := s.dwin.w[n]
  let s := modW n (fun w => { w with job := some ⟨w.addr, w.inc, w.write, k⟩, moved := 0, ready := false }) s
  if s.txnFits then startBurst n s
  else txnWait (.win n) (modW n (fun x => { x with state := if w.state = .idle then .waiting else x.state }) s)

/-- A write burst is issued when BURST words are buffered and the window is idle (R323). -/
def autoBurst (n : Fin 4) (s : State) : State :=
  let w := s.dwin.w[n]
  if w.write ∧ w.state = .idle ∧ w.burstLen ≤ w.buf.length ∧ w.holder ≠ .none then issueBurst n w.burstLen s else s

/-! ### Bursts -/

/-- The window reaches an address in its direction (Table 12.1). -/
def winReach (write : Bool) (a : Nat) : Bool :=
  inBanks a || (!write && decide (0x10000000 ≤ a ∧ a < 0x11000000))

/-- The owner ID with which the windows reach the banks: 7, and in ROM recovery, where nothing hands a bank over, that of the
shepherd core, whose banks the write engine reads (R513). [log 141 DEDUCED] -/
def State.winId (s : State) : Nat := if s.upd.recovery then 0 else 7

/-- A non-owner word of a window (R326). -/
def winNown (n : Fin 4) (a : Nat) (s : State) : State :=
  if s.owns s.winId a then s
  else bump .dwin (0x101C + n.val * 0x40) 16 1 (modW n (fun w => { w with nown := satInc w.nown }) s)

/-- A lost word of a window (R326): WIN_LOST once per window and tick. -/
def winLost (n : Fin 4) (a : Nat) (s : State) : State :=
  let w := s.dwin.w[n]
  let s := setIrq .dwin 2
    (bump .dwin (0x101C + n.val * 0x40) 0 1 (modW n (fun w => { w with lost := satInc w.lost }) s))
  if w.lostAt = some s.tick.executed then s
  else
    logEv 0x0504 3 locQue (pack64 [(0, n.val), (32, a)])
      (modW n (fun w => { w with lostAt := some s.tick.executed }) s)

/-- A word of a read burst; one that cannot be corrected is discarded (R308). -/
def readWord (n : Fin 4) (a : Nat) (s : State) : List Word × State :=
  if !inBanks a ∧ s.isMarked (mramKey (a - 0x10000000)) then ([], logUe 7 a s)
  else if inBanks a then
    let (r, s') := bankRead s.winId a 4 .clean (winNown n a s)
    match r with
    | .value v => ([BitVec.ofNat 32 v], s')
    | .uncorrectable => ([], s')
  else ([BitVec.ofNat 32 (ofLe (mramGet (a - 0x10000000) 4 s))], s)

/-- A word of a write burst. -/
def writeWord (n : Fin 4) (a : Nat) (v : Word) (lost : Bool) (s : State) : State :=
  let s := winNown n a s
  let s := if 16 ≤ bankOf a ∧ (lost = true ∨ s.portAWrote a = true) then winLost n a s else s
  bankWrite s.winId a 4 (leBytes 4 v.toNat) ⟨0, false, lost⟩ s

/-- WIN_RANGE ends the burst at a word (R326). -/
def winRange (n : Fin 4) (a : Nat) (s : State) : State :=
  setIrq .dwin 1 (logEv 0x0503 4 locQue (pack64 [(0, n.val), (32, a)]) (setErr .dwin 6 s))

/-- A burst ends: behind its last word, or at a word out of reach, where a write burst discards its remaining words
(R322, R325, R326). -/
def endBurst (n : Fin 4) (s : State) : State :=
  match s.dwin.w[n].job with
  | none => s
  | some j =>
    let k := s.dwin.w[n].moved
    let s := if s.pertOn 3 ∧ field s.pert.par[3] 0 2 = n.val ∧ field s.pert.par[3] 8 8 ≠ 0 then pertHit 3 k s else s
    let s := modW n (fun w => { w with
      state := .idle, job := none, ready := !j.write
      addr := j.addr + BitVec.ofNat 32 k * incBytes j.inc
      buf := if j.write then w.buf.drop (j.n - k) else w.buf }) s
    setIrq .dwin 0 (txnFree s)

/-- The next word of a burst moves: from the buffer as the engine writes it, or into the buffer as it arrives (R322, R323);
a word out of reach ends the burst (R326). [log 64 DEDUCED] -/
def burstWord (n : Fin 4) (lost : Bool) (s : State) : State :=
  let w := s.dwin.w[n]
  match w.job with
  | none => s
  | some j =>
    let a := (j.addr + BitVec.ofNat 32 w.moved * incBytes j.inc).toNat
    if !winReach j.write a then endBurst n (winRange n a s)
    else
      let s := bump .dwin (0x1018 + n.val * 0x40) 0 1
        (modW n (fun w => { w with moved := w.moved + 1, words := satInc w.words }) s)
      if j.write then writeWord n a (w.buf.headD 0) lost (modW n (fun w => { w with buf := w.buf.drop 1 }) s)
      else
        let r := readWord n a s
        modW n (fun w => { w with buf := w.buf ++ r.1 }) r.2

/-- The time from the issue of a burst to its first word in nanoseconds (Table 12.1). -/
def Burst.first (j : Burst) : Nat := if inBanks j.addr.toNat then 40 else 120

/-- By how much DWWAIT delays every word of a window (Table 21.1). -/
def State.waitNs (s : State) (n : Fin 4) : Nat :=
  if s.pertOn 3 ∧ field s.pert.par[3] 0 2 = n.val then 5 * field s.pert.par[3] 8 8 else 0

/-- TB0 in nanoseconds when `k` words of a window's burst have reached their targets, 5 ns each (R318, Table 12.1). -/
def State.wordsAt (s : State) (n : Fin 4) (j : Burst) (k : Nat) : Nat :=
  s.dwin.w[n].since + j.first + s.waitNs n + 5 * k

/-- The burst of a window moves words until `k` have moved or it ends; `lost` are the words that lose to port A. Of the MRAM
each word finds what the write engine has written at its instant (R316). -/
def burstTo (n : Fin 4) (k : Nat) (lost : List Bool) (s : State) : State :=
  let k0 := s.dwin.w[n].moved
  (List.range (k - k0)).foldl (fun s i =>
    match s.dwin.w[n].job with
    | none => s
    | some j => burstWord n (lost.getD (k0 + i) false) (mwAt (s.wordsAt n j (k0 + i + 1)) s)) s

/-- The words of a window's burst that have arrived by now, short of the last, which ends it (R318, R322); a write burst that
ended out of reach leaves the window to the next one (R323, R326). -/
def burstNow (n : Fin 4) (s : State) : State :=
  let w := s.dwin.w[n]
  match w.job with
  | none => s
  | some j =>
    if w.state = .active then
      let s := burstTo n (min (j.n - 1) ((s.tb0 - s.wordsAt n j 0) / 5)) [] s
      if s.dwin.w[n].job.isSome then s else autoBurst n s
    else s

/-- The words of every burst that have arrived by now. -/
def burstsNow (s : State) : State := (List.finRange 4).foldl (fun s n => burstNow n s) s

/-- The fabric engine, ID 5, stores whole words through port A of a dual-port bank (R304, R305): its writes stand
(R306). The words of bursts that are due come first. -/
def fabricPut (a : Nat) (bs : List Byte) (s : State) : State :=
  putWords (fun k w s => eccStore 5 k 4 w .clean (portTurn false k s)) a bs (burstsNow s)

/-- The audio engine, ID 6, stores whole words through port B of DP0 (R304, R305): a write can lose to port A
(R306). -/
def audioPut (a : Nat) (bs : List Byte) (s : State) : State :=
  putWords (fun k w s => bankWrite 6 k 4 w .clean s) a bs (burstsNow s)

/-- The burst of a window runs to its end (R325, R326). -/
def finishBurst (n : Fin 4) (lost : List Bool) (s : State) : State :=
  match s.dwin.w[n].job with
  | none => s
  | some j =>
    let s := burstTo n j.n lost s
    if s.dwin.w[n].job.isSome then endBurst n s else s

/-- BURST_DONE: a window burst completes at the instant of its last word, and a further write burst is issued when enough
words wait (R318, R323, R325). [log 64 DEDUCED] -/
def doBurstDone (n : Fin 4) (lost : List Bool) (s : State) : State :=
  match s.dwin.w[n].job with
  | none => s
  | some j =>
    if s.dwin.w[n].state = .active then
      autoBurst n (burstsNow (finishBurst n lost (passTo 0 (s.wordsAt n j j.n * 2 ^ 32) s)))
    else s

/-! ### Holding a window -/

/-- A window loses its holder: a burst in progress completes, a waiting one is withdrawn, the buffer is emptied (R321). -/
def releaseWin (n : Fin 4) (s : State) : State :=
  let s := if s.dwin.w[n].state = .active then finishBurst n [] s else s
  let s := { s with dwin := { s.dwin with waiters := s.dwin.waiters.filter (· != .win n) } }
  modW n (fun w => { w with holder := .none, state := .idle, ready := false, buf := [], job := none }) s

/-- W_STAT.HOLDER. -/
def Holder.code : Holder → Nat
  | .none => 0 | .shepherd => 1 | .service => 2 | .peer _ => 3

/-- A loss of the holder other than CLOSE (R321). -/
def loseWin (n : Fin 4) (cause : Nat) (s : State) : State :=
  let h := s.dwin.w[n].holder
  setIrq .dwin 3 (logEv 0x0505 3 locQue (pack64 [(0, n.val), (2, h.code), (4, cause)]) (releaseWin n s))

/-- Every window of a kind of holder is lost. -/
def loseWins (cause : Nat) (p : WinState4 → Bool) (s : State) : State :=
  (List.finRange 4).foldl (fun s n => if p s.dwin.w[n] then loseWin n cause s else s) s

/-- The holder is a fabric peer. [log 15 DESIGN CHOICE] -/
def WinState4.byPeer (w : WinState4) : Bool :=
  match w.holder with
  | .peer _ => true
  | _ => false

/-- A write that R319 to R326 refuse sets a bit of DWIN_ERR; the Bool says whether the access was performed.
[log 65 DEDUCED] -/
def refuse (i : Nat) (s : State) : Bool × State := (false, setErr .dwin i s)

/-- OPEN (R319, R320). [log 65 DEDUCED] -/
def winOpen (rq : Requester) (peer : Nat) (n : Fin 4) (s : State) : Bool × State :=
  let w := s.dwin.w[n]
  match holderOf rq peer with
  | none => refuse 2 s
  | some h =>
    if w.holder ≠ .none then refuse 3 s
    else if rq = .fabric ∧ !w.permits peer then refuse 2 s
    else (true, modW n (fun w => { w with holder := h }) s)

/-- CLOSE (R321). -/
def winClose (rq : Requester) (peer : Nat) (n : Fin 4) (s : State) : Bool × State :=
  if s.holds rq peer n then (true, releaseWin n s) else refuse 2 s

/-- GO (R322, R323). [log 64 DEDUCED] -/
def winGo (rq : Requester) (peer : Nat) (n : Fin 4) (s : State) : Bool × State :=
  let w := s.dwin.w[n]
  if !s.holds rq peer n then refuse 2 s
  else if w.state ≠ .idle then refuse 3 s
  else if w.write then
    if w.buf = [] then (true, s) else (true, issueBurst n (min w.buf.length w.burstLen) s)
  else if w.buf ≠ [] then refuse 3 s
  else (true, issueBurst n w.burstLen s)

/-- CLRCNT clears W_WORDS, W_LOST and W_NOWN. -/
def winClear (rq : Requester) (peer : Nat) (n : Fin 4) (s : State) : Bool × State :=
  if s.holds rq peer n then (true, modW n (fun w => { w with words := 0, lost := 0, nown := 0 }) s) else refuse 2 s

/-- The address of a register of a window. -/
def winAddr (n off : Nat) : Nat := 0x20121000 + n * 0x40 + off

/-- Two accesses in a row; performed when both are. -/
def andThen (f : State → Bool × State) (r : Bool × State) : Bool × State :=
  let (ok, s) := f r.2
  (r.1 && ok, s)

/-- A write of W_CTRL, its bits in ascending order; OPEN with CLOSE is a reserved encoding. [log 26 DEDUCED] -/
def winCtrl (rq : Requester) (peer : Nat) (n : Fin 4) (v : Word) (s : State) : Bool × State :=
  if 16 ≤ v.toNat ∨ (bit v 0 ∧ bit v 1) then
    let t := reservedWrite rq (winAddr n.val 0) s
    (false, if !bit v 0 ∧ !s.holds rq peer n then setErr .dwin 2 t else t)
  else if v = 0 ∧ !s.holds rq peer n then refuse 2 s
  else
    let r := (true, s)
    let r := if bit v 0 then andThen (winOpen rq peer n) r else r
    let r := if bit v 1 then andThen (winClose rq peer n) r else r
    let r := if bit v 2 then andThen (winGo rq peer n) r else r
    if bit v 3 then andThen (winClear rq peer n) r else r

/-- A write of W_DATA (R323, R324). -/
def winDataWrite (rq : Requester) (peer : Nat) (n : Fin 4) (v : Word) (s : State) : Bool × State :=
  let w := s.dwin.w[n]
  if !s.holds rq peer n then refuse 2 s
  else if !w.write then refuse 7 s
  else if 256 ≤ w.buf.length then refuse 4 s
  else (true, autoBurst n (modW n (fun w => { w with buf := w.buf ++ [v] }) s))

/-- A read of W_DATA (R322, R324): the word, and whether the read was performed. -/
def winDataRead (rq : Requester) (peer : Nat) (n : Fin 4) (s : State) : Word × Bool × State :=
  let w := s.dwin.w[n]
  if !s.holds rq peer n then (0, refuse 2 s)
  else if w.write then (0, refuse 7 s)
  else
    match w.buf with
    | [] => (0, refuse 5 s)
    | v :: l => (v, true, modW n (fun w => { w with buf := l }) s)

/-- A write of W_ADDR (R325). -/
def winAddrWrite (rq : Requester) (peer : Nat) (n : Fin 4) (v : Word) (s : State) : Bool × State :=
  if !s.holds rq peer n then refuse 2 s
  else if s.dwin.w[n].state ≠ .idle then refuse 3 s
  else (true, modW n (fun w => { w with addr := v }) s)

/-- A write of W_CFG (R325). -/
def winCfgWrite (rq : Requester) (peer : Nat) (n : Fin 4) (v : Word) (s : State) : Bool × State :=
  let w := s.dwin.w[n]
  if !s.holds rq peer n then refuse 2 s
  else if w.state ≠ .idle ∨ w.buf ≠ [] then refuse 3 s
  else (true, modW n (fun w => { w with inc := field v 0 2, write := bit v 2, burst := field v 8 8 }) s)

/-- A write of W_AUTH (R320): a holding peer that it no longer permits loses the window (R321). -/
def winAuthWrite (rq : Requester) (n : Fin 4) (v : Word) (s : State) : Bool × State :=
  if rq ≠ .keeper then refuse 1 s
  else
    let s := modW n (fun w => { w with authFab := bit v 0, authPeer := field v 8 7 }) s
    match s.dwin.w[n].holder with
    | .peer p => (true, if s.dwin.w[n].permits p then s else loseWin n 3 s)
    | _ => (true, s)

/-- W_OPEN: a write of 1 to W_CTRL.OPEN. -/
def doWOpen (rq : Requester) (n : Fin 4) (s : State) : State := (winOpen rq 0 n (burstsNow s)).2

/-- W_CLOSE: a write of 1 to W_CTRL.CLOSE. -/
def doWClose (rq : Requester) (n : Fin 4) (s : State) : State := (winClose rq 0 n (burstsNow s)).2

/-- W_GO: a write of 1 to W_CTRL.GO. -/
def doWGo (rq : Requester) (n : Fin 4) (s : State) : State := (winGo rq 0 n (burstsNow s)).2

/-- W_CLRCNT: a write of 1 to W_CTRL.CLRCNT. -/
def doWClrcnt (rq : Requester) (n : Fin 4) (s : State) : State := (winClear rq 0 n (burstsNow s)).2

/-- W_DATA_WRITE. -/
def doWDataWrite (rq : Requester) (n : Fin 4) (v : Word) (s : State) : State := (winDataWrite rq 0 n v (burstsNow s)).2

/-- W_DATA_READ. -/
def doWDataRead (rq : Requester) (n : Fin 4) (s : State) : State :=
  let (v, _, s) := winDataRead rq 0 n (burstsNow s)
  giveRead rq v s

end Sys2Proof.Machine
end

