-- ==== Sys2Proof/Machine/DwinRegs.lean ====
section
/-! DEFINITION. The registers of the DWIN block, for the requesters of this module and for fabric peers (Tables 12.3 and
12.4, R319 to R326, R391). -/

namespace Sys2Proof.Machine

/-- DWIN_STATUS. -/
def dwinStatus (s : State) : Word :=
  let any := fun (t : WinState) => s.dwin.w.toList.any fun w => w.state == t
  pack [(0, b01 (any .active)), (1, b01 (any .waiting))]

/-- W_STAT. -/
def winStat (w : WinState4) : Word :=
  let peer := match w.holder with
    | .peer p => p
    | _ => 0
  pack [(0, w.state.code), (2, w.holder.code), (4, peer), (11, b01 w.ready), (16, w.buf.length)]

/-- A read of a DWIN register: the value, and whether the access was performed. -/
def dwinRead (rq : Requester) (peer : Nat) (off : Nat) (s : State) : Word × Bool × State :=
  let s := burstsNow s
  if off = 0x008 then (dwinStatus s, true, s)
  else if off = 0x020 then (pack [(0, s.dwin.inuse), (8, s.dwin.peak), (16, s.dwin.waiters.length)], true, s)
  else if off = 0x024 then (s.readCount .dwin 0x024 s.dwin.waits, true, s)
  else if off < 0x018 then (headRead .dwin off s, true, s)
  else if h : 0x1000 ≤ off ∧ off < 0x1100 then
    let n : Fin 4 := ⟨(off - 0x1000) / 0x40, by omega⟩
    let w := s.dwin.w[n]
    match off % 0x40 with
    | 0x04 => (winStat w, true, s)
    | 0x08 => (w.addr, true, s)
    | 0x0C => (pack [(0, w.inc), (2, b01 w.write), (8, w.burst)], true, s)
    | 0x10 => winDataRead rq peer n s
    | 0x14 => (pack [(0, b01 w.authFab), (8, w.authPeer)], true, s)
    | 0x18 => (s.readCount .dwin off w.words, true, s)
    | 0x1C => (s.readCount .dwin off (pack [(0, w.lost.toNat), (16, w.nown.toNat)]), true, s)
    | _ => (0, true, s)
  else (0, true, s)

/-- A write that is no permission matter of R319 to R326: whether it was performed, by R557 and R13. -/
def plainWrite (ok : Bool) (rsv : Word) (rq : Requester) (off : Nat) (v : Word) (f : State → State) (s : State) :
    Bool × State :=
  (ok && v &&& rsv == 0, wr .dwin ok rsv rq (Block.dwin.base + off) v f s)

/-- A write of a window register. -/
def winWrite (rq : Requester) (peer : Nat) (n : Fin 4) (off : Nat) (v : Word) (s : State) : Bool × State :=
  let addr := winAddr n.val off
  let holder := s.holds rq peer n
  let rw := fun (rsv : Word) (f : State → Bool × State) =>
    if v &&& rsv = 0 then f s
    else (false, let t := reservedWrite rq addr s; if holder then t else setErr .dwin 2 t)
  match off with
  | 0x00 => winCtrl rq peer n v s
  | 0x04 => if v &&& rsvd [(0, 12), (16, 9)] = 0 then (true, s) else (false, reservedWrite rq addr s)
  | 0x08 => rw 3 (winAddrWrite rq peer n v)
  | 0x0C => rw (rsvd [(0, 3), (8, 8)]) (winCfgWrite rq peer n v)
  | 0x10 => winDataWrite rq peer n v s
  | 0x14 =>
    if v &&& rsvd [(0, 1), (8, 7)] ≠ 0 ∨ 64 < field v 8 7 then
      (false, let t := reservedWrite rq addr s; if rq = .keeper then t else setErr .dwin 1 t)
    else winAuthWrite rq n v s
  | 0x18 => plainWrite rq.std 0 rq (0x1018 + n.val * 0x40) v (storeCount .dwin (0x1018 + n.val * 0x40) [(0, 32)] v fun v =>
      modW n fun w => { w with words := v }) s
  | 0x1C => plainWrite rq.std 0 rq (0x101C + n.val * 0x40) v
      (storeCount .dwin (0x101C + n.val * 0x40) [(0, 16), (16, 16)] v fun v =>
        modW n fun w => { w with lost := v.setWidth 16, nown := (v >>> 16).setWidth 16 }) s
  | _ => (false, reservedWrite rq addr s)

/-- A write of a DWIN register: whether the access was performed, and the state. -/
def dwinWrite (rq : Requester) (peer : Nat) (off : Nat) (v : Word) (s : State) : Bool × State :=
  let s := inTurn .dwin off rq.rank (burstsNow s)
  let ok := rq.std
  if h : 0x1000 ≤ off ∧ off < 0x1100 then winWrite rq peer ⟨(off - 0x1000) / 0x40, by omega⟩ (off % 0x40) v s
  else
    match off with
    | 0x004 => plainWrite ok (BitVec.allOnes 32) rq off v id s
    | 0x008 => plainWrite ok (rsvd [(0, 2)]) rq off v id s
    | 0x020 => plainWrite ok (rsvd [(0, 7), (8, 7), (16, 8)]) rq off v
        (fun s => { s with dwin := { s.dwin with peak := field v 8 7 } }) s
    | 0x024 => plainWrite ok 0 rq off v (storeCount .dwin off [(0, 32)] v fun v s =>
        { s with dwin := { s.dwin with waits := v } }) s
    | _ =>
      if off = 0x000 ∨ off = 0x00C ∨ off = 0x010 ∨ off = 0x014 then (ok, headWrite .dwin ok rq off v s)
      else (false, reservedWrite rq (Block.dwin.base + off) s)

end Sys2Proof.Machine
end

