-- ==== Sys2Proof/Machine/Solenoids.lean ====
section
/-! DEFINITION. Valve and solenoid drive: command words, events on a driver, shared feeds, armature detection and the
fault reports. -/

namespace Sys2Proof.Machine

/-! ### Command words -/

/-- OP of a solenoid command word: 0 release, 1 engage, 2 abort (Table 5.4). -/
def solOp (w : Word) : Nat := field w 0 2

/-- PROFILE of a solenoid command word. -/
def solProfile (w : Word) : Nat := field w 2 5

/-- OFFSET of a solenoid command word, in µs. -/
def solOffset (w : Word) : Nat := field w 8 11

/-- DELAY of a solenoid command word, in ticks. -/
def solDelay (w : Word) : Nat := field w 20 8

/-- The word with DELAY 0 (R136). -/
def solClearDelay (w : Word) : Word := w &&& 0xF00FFFFF#32

/-- A solenoid command word passes the check of R133 in an image with `n` profiles. -/
def solLayoutOk (n : Nat) (g : Image) (w : Word) : Bool :=
  decide (solOp w ≠ 3) && !bit w 7 && !bit w 19 && decide (field w 28 4 = 0) &&
  decide (solOffset w * 1000 < g.periodNs) &&
  (if solOp w = 1 then decide (solProfile w < n)
   else decide (solProfile w = 0 ∧ solOffset w = 0))

/-- A solenoid command word passes the check of R133. -/
def solWordOk (g : Image) (w : Word) : Bool := solLayoutOk g.profiles.length g w

/-- The committed value is engaged(p) (R134). -/
def solEngaged (w : Word) (p : Nat) : Bool := solOp w == 1 && solProfile w == p

/-! ### Drivers and feeds -/

/-- Rewrite one driver. -/
def modSol (k : Fin 16) (f : SolState → SolState) (s : State) : State :=
  { s with sol := { s.sol with ch := upd s.sol.ch k f } }

/-- A profile of the event a driver runs. -/
def SolState.prof (c : SolState) (p : Nat) : Profile := c.profs.getD p default

/-- The profile of a requested event. [log 33 DEDUCED] -/
def SolEvent.prof (e : SolEvent) : Profile := e.profs.getD e.profile default

/-- The feed channel of a driver; 0xFF when the driver is unused. -/
def State.feedOf (s : State) (k : Fin 16) : Nat := s.cfg.sol[k].feed

/-- The protection state and committed value of a feed. -/
def State.feedState (s : State) (feed : Nat) : HsState := getNat s.hsw.ch feed default

/-- The gate of a channel is on (R88). -/
def HsState.gate (h : HsState) : Bool := h.cmd && (h.prot == .inrush || h.prot == .on)

/-- A channel that protection holds off: PAUSE, LATCH_OC or LATCH_TH. -/
def HsState.tripped (h : HsState) : Bool := h.prot == .pause || h.prot == .latchOc || h.prot == .latchTh

/-- The driver conducts: its peak or hold phase. -/
def SolState.active (c : SolState) : Bool := c.phase == .peak || c.phase == .hold

/-- The committed value the solenoid engine gives a feed (R127). -/
def State.feedValue (s : State) (feed : Nat) : Bool :=
  (List.finRange 16).any fun k => s.feedOf k == feed &&
    (s.sol.ch[k].active || s.sol.ch[k].queued.isSome || s.sol.ch[k].chainWait.isSome)

/-- Another driver of the feed is in its peak phase (R142). -/
def State.otherPeak (s : State) (k : Fin 16) : Bool :=
  (List.finRange 16).any fun j => j != k && s.feedOf j == s.feedOf k && s.sol.ch[j].phase == .peak

/-- The due time of what a driver waits to start: a waiting chain, or its queued event while it is idle. -/
def SolState.waitDue (c : SolState) : Option Nat :=
  match c.chainWait with
  | some e => some e.due.toNat
  | none => if c.phase = .idle then c.queued.map fun e => e.due.toNat else none

/-- No other driver of the feed waits ahead of this one: earlier due time, then lower number (R143). -/
def State.firstInLine (s : State) (k : Fin 16) (due : Nat) : Bool :=
  (List.finRange 16).all fun j =>
    j == k || s.feedOf j != s.feedOf k ||
    (match s.sol.ch[j].waitDue with
     | some d => decide (s.now.toNat < d ∨ due < d ∨ (due = d ∧ k.val < j.val))
     | none => true)

/-- A fault flag of CH_STATUS that hardware sets in this cycle (R17). -/
def solFlag (k : Fin 16) (i : Nat) (s : State) : State := hwBit .sol (0x1004 + k.val * 0x40) (1#32 <<< i) s

/-- A drop is counted in CH_DROPS (R18). -/
def bumpDrop (k : Fin 16) (s : State) : State := bump .sol (0x1020 + k.val * 0x40) 16 1 s

/-- An entry of the solenoid engine on a driver's lane (R157). -/
def logSol (k : Fin 16) (code sev : Nat) (payload : DWord) (s : State) : State :=
  logEv code sev (locSol k.val) payload s

/-- The driver turns off and its minimum off-time starts (R131, R138). -/
def solTurnOff (k : Fin 16) (s : State) : State :=
  let m := s.cfg.sol[k].minoff * 10000
  modSol k (fun c => { c with
    phase := if m = 0 then .idle else .minoff
    minoffEnd := s.now + BitVec.ofNat 64 m
    offAt := BitVec.ofNat 64 s.tb0
    chainWait := none
    detect := false }) s

/-- A profile starts its peak phase on a driver (R131). -/
def solBeginPeak (k : Fin 16) (p : Nat) (s : State) : State :=
  modSol k (fun c => { c with
    phase := .peak, profile := p, profStart := s.now, chainWait := none
    detect := decide ((c.prof p).dip ≠ 0) }) s

/-- The end of a hold (Table 5.3): the driver turns off with EVENT_END, or the chained profile starts, waiting while
another driver of the feed is in its peak phase (R132). [log 34 DEDUCED] -/
def solEndHold (k : Fin 16) (s : State) : State :=
  let c := s.sol.ch[k]
  let p := c.prof c.profile
  if p.chains then
    if s.otherPeak k then modSol k (fun c => { c with chainWait := some ⟨p.chain, s.now, c.profs⟩ }) s
    else solBeginPeak k p.chain s
  else logSol k 0x3002 1 (pack64 [(0, c.profile)]) (solTurnOff k s)

/-- The hold with THOLD 0 ends when its command has ended (R131, R134). -/
def solHoldOver (k : Fin 16) (s : State) : State :=
  let c := s.sol.ch[k]
  if c.phase = .hold ∧ c.chainWait = none ∧ (c.prof c.profile).thold = 0 ∧ !c.cmdLive then solEndHold k s else s

/-- Protection took the feed of a driver, or had taken it at a due time: the running profile ends, the queued event is
dropped, and the driver counts one drop (R145). -/
def solFeedLost (k : Fin 16) (s : State) : State :=
  let c := s.sol.ch[k]
  if c.active || c.queued.isSome then
    let feed := s.feedOf k
    let s := bumpDrop k (solFlag k 12 (modSol k (fun c => { c with
      queued := none, feedLost := true, drops := satInc c.drops }) s))
    let s := if c.active then solTurnOff k s else s
    setIrq .sol 4 (logSol k 0x3009 4 (pack64 [(0, feed), (8, (s.feedState feed).prot.code)]) s)
  else s

/-- Protection turned off the gate of a feed: every driver on it (R145). -/
def loseFeed (feed : Nat) (s : State) : State :=
  (List.finRange 16).foldl (fun s k => if s.feedOf k = feed then solFeedLost k s else s) s

/-- The deferral of an event at this instant in µs, to the resolution of 1 µs (R141). [log 33 DEDUCED] -/
def State.deferral (s : State) (ev : SolEvent) : Nat := (s.now - ev.due).toNat / 1000

/-- A profile and a deferral as an entry carries them, the deferral in 24 bits (R157). -/
def deferPayload (p us : Nat) : DWord := pack64 [(0, p), (8, min us 16777215)]

/-- A waiting event whose deferral exceeds LATE is dropped (R141). -/
def solLateDrop (k : Fin 16) (ev : SolEvent) (s : State) : State :=
  let s := bumpDrop k (modSol k (fun c => { c with queued := none, drops := satInc c.drops }) s)
  setIrq .sol 3 (logSol k 0x3006 4 (deferPayload ev.profile (s.deferral ev)) s)

/-- The committed word of a driver's output, as its die applied it. -/
def State.solWord (s : State) (k : Fin 16) : Word := s.sol.ch[k].applied

/-- An event starts (R131, R138): EVENT_START, the start time, and the flags of the last event cleared. -/
def solStart (k : Fin 16) (ev : SolEvent) (s : State) : State :=
  let s1 := solBeginPeak k ev.profile (modSol k (fun c => { c with profs := ev.profs }) s)
  let s2 := modSol k (fun c => { c with
    queued := none, start := s.now, events := satInc c.events, moved := false, noMove := false
    tmax := 0xFFFF, tmin := 0xFFFF, cmdProfile := ev.profile
    cmdLive := solEngaged (s.solWord k) ev.profile }) s1
  logSol k 0x3001 1 (deferPayload ev.profile (s.deferral ev)) (bump .sol (0x1020 + k.val * 0x40) 0 1 s2)

/-! ### The commit of a solenoid output -/

/-- An abort at the commit mark (R139). [log 33 DEDUCED] -/
def solAbort (k : Fin 16) (s : State) : State :=
  let c := s.sol.ch[k]
  if c.active || c.queued.isSome then
    let phase := if c.phase = .peak then 1 else if c.phase = .hold then 2 else 3
    let p := if c.active then c.profile else match c.queued with | some e => e.profile | none => 0
    let s := solTurnOff k (modSol k (fun c => { c with queued := none, cmdLive := false }) s)
    logSol k 0x3008 3 (pack64 [(0, p), (5, phase)]) s
  else s

/-- A release drops a queued event whose profile holds until the end of the command (R139). -/
def solReleaseQueued (k : Fin 16) (s : State) : State :=
  match s.sol.ch[k].queued with
  | some e =>
    if e.prof.thold = 0 then
      logSol k 0x3008 3 (pack64 [(0, e.profile), (5, 3), (8, 1)]) (modSol k (fun c => { c with queued := none }) s)
    else s
  | none => s

/-- A newly engaged profile requests an event, due OFFSET µs after the commit mark (R134, R135); it replaces a queued
one (R138). [log 33 DEDUCED; 143 DESIGN CHOICE] -/
def solRequest (k : Fin 16) (w : Word) (s : State) : State :=
  let p := solProfile w
  let due := s.tick.startDrv.toNat + s.T * s.cfg.commit / 64 + solOffset w * 1000
  let s' := match s.sol.ch[k].queued with
    | some e => logSol k 0x3007 2 (pack64 [(0, e.profile), (8, p)]) s
    | none => s
  modSol k (fun c => { c with queued := some ⟨p, BitVec.ofNat 64 due, s.cfg.profiles⟩ }) s'

/-- The committed value of a driver's output becomes `new` (R134, R139). -/
def solCommit (k : Fin 16) (new : Word) (s : State) : State :=
  let old := s.solWord k
  let s := modSol k (fun c => { c with applied := new, cmdLive := c.cmdLive && solEngaged new c.cmdProfile }) s
  if solOp new = 2 then (if solOp old = 2 then s else solAbort k s)
  else
    let s := solHoldOver k s
    if solOp new = 0 then solReleaseQueued k s
    else if solEngaged old (solProfile new) then s
    else solRequest k new s

/-! ### Events -/

/-- SOL_EVENT_START: a requested event starts at its due time, or 20 µs after its feed turned on (R128), when the driver
is idle and its turn on the feed has come (R138, R142, R143); a chain that waits starts likewise (R132). A feed held off
by protection drops it (R145), lateness too (R141). -/
def doSolEventStart (k : Fin 16) (s : State) : State :=
  let c := s.sol.ch[k]
  match c.chainWait with
  | some ev => if s.otherPeak k || !s.firstInLine k ev.due.toNat then s else solBeginPeak k ev.profile s
  | none =>
    match c.queued with
    | none => s
    | some ev =>
      let feed := s.feedOf k
      let h := s.feedState feed
      if h.tripped then solFeedLost k (passToNs ev.due.toNat s)
      else if c.phase ≠ .idle then s
      else
        let t := passToNs ev.due.toNat s
        if !h.gate then s
        else
          let t := passToNs ((getNat s.sol.feedOnAt feed 0).toNat + 20000) t
          let late := ev.prof.late
          if t.otherPeak k || !t.firstInLine k ev.due.toNat then s
          else if late ≠ 0xFFFF ∧ late * 10000 + 5 < (t.now - ev.due).toNat then solLateDrop k ev t
          else solStart k ev t

/-- PEAK_END: at S + TPEAK the target becomes IHOLD; a hold until the end of a command that has ended is over at once
(R131, R132). [log 108 DESIGN CHOICE] -/
def doPeakEnd (k : Fin 16) (s : State) : State :=
  let c := s.sol.ch[k]
  if c.phase = .peak then
    let s := passToNs (c.profStart.toNat + (c.prof c.profile).tpeak * 10000) s
    solHoldOver k (modSol k (fun c => { c with phase := .hold }) s)
  else s

/-- EVENT_END: the hold ends at THOLD, or with its command when THOLD is 0 (R131). -/
def doEventEnd (k : Fin 16) (s : State) : State :=
  let c := s.sol.ch[k]
  let p := c.prof c.profile
  if c.phase = .hold ∧ c.chainWait = none then
    if p.thold = 0 then solHoldOver k s
    else solEndHold k (passToNs (c.profStart.toNat + p.tpeak * 10000 + p.thold * 1000000) s)
  else s

/-- MINOFF_END: the minimum off-time has run (R138). -/
def doMinoffEnd (k : Fin 16) (s : State) : State :=
  let c := s.sol.ch[k]
  if c.phase = .minoff then modSol k (fun c => { c with phase := .idle }) (passToNs c.minoffEnd.toNat s) else s

/-- LATE_DROP: a waiting event is dropped at the instant its deferral exceeds LATE (R141). [log 33 DEDUCED] -/
def doLateDrop (k : Fin 16) (s : State) : State :=
  match s.sol.ch[k].queued with
  | none => s
  | some ev =>
    let late := ev.prof.late
    if late = 0xFFFF then s else solLateDrop k ev (passToNs (ev.due.toNat + late * 10000) s)

/-! ### Armature detection and fault reports -/

/-- A time of Table 5.12 in µs: 0xFFFF beyond 65,534. -/
def moveTime (us : Word) : Half := if us.toNat ≤ 65534 then us.setWidth 16 else 0xFFFF

/-- MOVE: a dip of DIP or more below the running maximum, inside the window and before IPEAK, is armature movement
(R146); a dip during which VF falls by more than 10 % is discarded (R147). A chained profile has its own window.
[log 145 DESIGN CHOICE] -/
def doMove (k : Fin 16) (tmax tmin : Word) (imax imin vfStart vfMin : Half) (s : State) : State :=
  let c := s.sol.ch[k]
  let p := c.prof c.profile
  if c.phase = .peak ∧ c.detect ∧ imin.toNat + p.dip ≤ imax.toNat ∧ imax.toNat < p.ipeak ∧
      tmin.toNat ≤ p.moveto * 10 ∧ vfStart.toNat * 9 ≤ vfMin.toNat * 10 then
    let s := modSol k (fun c => { c with
      detect := false, moved := true, tmax := moveTime tmax, tmin := moveTime tmin }) s
    let at_ := c.profStart + BitVec.ofNat 64 (tmin.toNat * 1000)
    setIrq .sol 0 (logAt at_ (s.now - at_).toNat 0x3003 2 (locSol k.val) (pack64 [(0, tmax.toNat), (32, tmin.toNat)]) s)
  else s

/-- NO_MOVE: the detection window ends without movement, or the current reaches IPEAK first (R148). -/
def doNoMove (k : Fin 16) (imax : Half) (s : State) : State :=
  let c := s.sol.ch[k]
  let p := c.prof c.profile
  if c.active ∧ c.detect then
    let s := if imax.toNat < p.ipeak then passToNs (c.profStart.toNat + p.moveto * 10000) s else s
    let s := modSol k (fun c => { c with detect := false, noMove := true }) s
    setIrq .sol 1 (logSol k 0x3004 4 (pack64 [(0, c.profile), (16, imax.toNat)]) s)
  else s

/-- COIL_OPEN: IPEAK not reached by the end of the peak phase, or less than half of IHOLD for 1 ms in the hold phase
(R149). `imax` is the largest current reached, in the hold phase that of the 1 ms. [log 34 DEDUCED; 111 DESIGN CHOICE] -/
def doCoilOpen (k : Fin 16) (imax : Half) (s : State) : State :=
  let c := s.sol.ch[k]
  let p := c.prof c.profile
  if (c.phase = .peak ∧ imax.toNat < p.ipeak) ∨ (c.phase = .hold ∧ imax.toNat * 2 < p.ihold) then
    let s := if c.phase = .peak then passToNs (c.profStart.toNat + p.tpeak * 10000) s else s
    let s := solFlag k 11 (modSol k (fun c => { c with coilOpen := true }) s)
    setIrq .sol 2 (logSol k 0x3005 4 (pack64 [(0, b01 (c.phase == .hold)), (16, imax.toNat)]) s)
  else s

/-- DRV_SHORT: the feed is on, the driver has been off for 2 ms, and its sense reads 200 mA or more (R150). -/
def doDrvShort (k : Fin 16) (current : Half) (s : State) : State :=
  let c := s.sol.ch[k]
  if !c.active ∧ (s.feedState (s.feedOf k)).gate ∧ 20 ≤ current.toNat ∧ c.offAt.toNat + 2000000 ≤ s.tb0 then
    let s := solFlag k 13 (modSol k (fun c => { c with drvShort := true }) s)
    setIrq .sol 5 (logSol k 0x300A 5 (pack64 [(16, current.toNat)]) s)
  else s

/-- FEED_LEAK: a feed is on, its drivers have been off for 2 ms, and it carries more than 100 mA (R151). -/
def doFeedLeak (hs : Fin 96) (current : Half) (s : State) : State :=
  let current := s.adc (hs.val / 8) current
  let quiet := (List.finRange 16).all fun k => s.feedOf k != hs.val ||
    (!s.sol.ch[k].active && decide (s.sol.ch[k].offAt.toNat + 2000000 ≤ s.tb0))
  let limit := if hs.val < 64 then 100 else 25
  if s.cfg.hs[hs].fn = 3 ∧ s.hsw.ch[hs].gate ∧ quiet ∧ (limit : Int) < current.toInt then
    setIrq .sol 6 (logEv 0x300B 4 (locHs hs.val) (pack64 [(16, current.toNat)]) s)
  else s

/-- SOL_FW_MISSING: the contact rose more than 3 V above VF for longer than 2 µs after a driver turn-off, one of the
chopping too (R126, R152). -/
def doSolFwMissing (k : Fin 16) (current : Half) (s : State) : State :=
  setIrq .sol 7 (logSol k 0x300C 5 (pack64 [(16, current.toNat)]) s)

end Sys2Proof.Machine
end

