-- ==== Sys2Proof/Machine/Switches.lean ====
section
/-! DEFINITION. Protected load switches: protection states, parallel groups, measurements, open-load checks, the fold
entries and the dissipation estimate. -/

namespace Sys2Proof.Machine

/-! ### Channels and groups -/

/-- Rewrite one channel. -/
def modHs (k : Fin 96) (f : HsState → HsState) (s : State) : State :=
  { s with hsw := { s.hsw with ch := upd s.hsw.ch k f } }

/-- The channels of a parallel group, lowest first; a channel outside any group stands alone (R90). -/
def Image.members (g : Image) (k : Fin 96) : List (Fin 96) :=
  if g.hs[k].fn = 2 then (List.finRange 96).filter fun j => g.hs[j].fn == 2 && g.hs[j].group == g.hs[k].group
  else [k]

/-- The leader of a channel's group (R90). -/
def Image.leader (g : Image) (k : Fin 96) : Fin 96 := (g.members k).headD k

/-- Every member of a channel's group takes the same change (R92). -/
def modGroup (k : Fin 96) (f : HsState → HsState) (s : State) : State :=
  (s.cfg.members k).foldl (fun s j => modHs j f s) s

/-- An entry of a group's protection state machine names the leader (R124). -/
def logLead (k : Fin 96) (code sev : Nat) (payload : DWord) (s : State) : State :=
  logEv code sev (locHs (s.cfg.leader k).val) payload s

/-- The pause P(r) of Table 4.2 in ms. -/
def pauseMs (r : Nat) : Nat := if r ≤ 8 then 5 * 2 ^ r else 2560

/-- The commit mark of the tick in progress is still to come. -/
def Phase.beforeCommit : Phase → Bool
  | .begun => true | .engine => true | .core => true | .envelope => true
  | _ => false

/-- The commit marks of a channel until the pause that begins now ends, at the commit mark of tick t + P(r)/T (R104). -/
def State.pauseLeft (s : State) (h : HsState) (r : Nat) : Nat :=
  s.ticksOfMs (pauseMs r) + b01 (s.tick.phase.beforeCommit && !h.done)

/-- The feed whose gate protection turned off, if the channel is one: its drivers lose it (R145). -/
def feedOff (k : Fin 96) (s : State) : State := if s.cfg.hs[k].fn = 3 then loseFeed k.val s else s

/-- CH_TRIPS of a channel's group rises in this cycle (R18). -/
def bumpTrips (k : Fin 96) (s : State) : State :=
  (s.cfg.members k).foldl (fun s j => bump .hsw (0x1020 + j.val * 0x40) 0 1 s) s

/-- A trip for retry (R103): the pause of the next retry, or LATCH_OC after the last. `last` is the CH_LASTTRIP code. -/
def hsTrip (k : Fin 96) (code last : Nat) (extra : List (Nat × Nat)) (s : State) : State :=
  let l := s.cfg.leader k
  let h := s.hsw.ch[l]
  let n := s.cfg.hs[l].n
  let count := fun (h : HsState) => { h with trips := satInc h.trips, lastTrip := last, clean := 0, onFor := 0 }
  let s' :=
    if h.r < n then
      let left := s.pauseLeft h (h.r + 1)
      let t := modGroup k (fun h => { count h with prot := .pause, r := h.r + 1, left := left }) s
      logLead k code 4 (pack64 ([(0, h.r + 1)] ++ extra)) t
    else
      let t := modGroup k (fun h => { count h with prot := .latchOc, left := 0 }) s
      setIrq .hsw 1 (logLead k 0x2004 5 (pack64 [(0, n)]) t)
  feedOff k (setIrq .hsw 0 (bumpTrips k s'))

/-- The current lies above the class trip level of Table 4.1, 15 A or 45 A within ±15 %: certainly above the band,
certainly not below it, and inside as the channel's own level says. The current is in class LSB.
[log 120 DESIGN CHOICE] -/
def overTripLevel (k : Nat) (current : Int) : Bool :=
  let low : Int := if k < 64 then 12750 else 9562
  let high : Int := if k < 64 then 17250 else 12937
  if current ≤ low then false else if high < current then true else Config.tripBand k current

/-- FAST_SC_TRIP: current above the class trip level turns the gate off (R99). [log 111 DESIGN CHOICE] -/
def doFastScTrip (k : Fin 96) (current : Half) (s : State) : State :=
  if (s.hsw.ch[s.cfg.leader k]).gate ∧ overTripLevel k.val current.toInt then hsTrip k 0x2001 1 [(16, current.toNat)] s
  else s

/-- OC_TRIP: current above the active threshold for OCFLT × 10 µs turns the gate off (R100). The threshold of a
channel is its own INTH in the inrush phase and its own OCTH otherwise (R93). [log 111 DESIGN CHOICE] -/
def doOcTrip (k : Fin 96) (current : Half) (s : State) : State :=
  let h := s.hsw.ch[s.cfg.leader k]
  let inr := h.prot == .inrush
  let th := if inr then s.cfg.hs[k].inth else s.cfg.hs[k].octh
  if h.gate ∧ (th : Int) < current.toInt then
    hsTrip k 0x2002 (if inr then 3 else 2) [(8, b01 inr), (16, current.toNat)] s
  else s

/-- THERMAL_TRIP: a junction at 175 °C turns the gate off and latches the channel or group in LATCH_TH (R102). -/
def doThermalTrip (k : Fin 96) (temp : Half) (s : State) : State :=
  let h := s.hsw.ch[s.cfg.leader k]
  if 2800 ≤ temp.toInt ∧ h.prot ≠ .latchTh then
    let was := h.gate
    let t := modHs k (fun h => { h with sensed := temp }) (modGroup k (fun h => { h with
      prot := .latchTh, left := 0, clean := 0, onFor := 0, trips := satInc h.trips, lastTrip := 4 }) s)
    let t := setIrq .hsw 2 (logLead k 0x2005 5 (pack64 [(0, temp.toNat), (16, h.r)]) t)
    if was then feedOff k (bumpTrips k t) else bumpTrips k t
  else s

/-- The state a channel takes when its gate turns on at a commit mark (R101, R106). -/
def hsTurnOn (inrushTicks : Nat) (h : HsState) : HsState :=
  { h with
    prot := if inrushTicks = 0 then .on else .inrush
    left := inrushTicks, clean := 0, onFor := 0, offMarks := 0
    inrushed := h.inrushed || decide (inrushTicks ≠ 0) }

/-- The commits of a channel's inrush phase (R101). -/
def State.inrushTicks (s : State) (k : Fin 96) : Nat := s.ticksOfMs s.cfg.hs[s.cfg.leader k].intime

/-- The instant a feed's gate turned on (R128). -/
def stampFeed (k : Fin 96) (s : State) : State :=
  if s.cfg.hs[k].fn = 3 then { s with sol := { s.sol with feedOnAt := s.sol.feedOnAt.set k s.now } } else s

/-- The re-enable of R107 under Table 4.3. -/
def hsReenable (k : Fin 96) (s : State) : State :=
  let h := s.hsw.ch[s.cfg.leader k]
  let free := fun (t : State) => modGroup k (fun h => { h with prot := .off, r := 0, left := 0, clean := 0 }) t
  match h.prot with
  | .latchOc => logLead k 0x2006 3 (pack64 [(0, 4)]) (free s)
  | .latchTh =>
    if (s.cfg.members k).all fun j => decide (s.hsw.ch[j].sensed.toInt < 2480) then
      logLead k 0x2006 3 (pack64 [(0, 5)]) (free s)
    else setErr .hsw 1 (logLead k 0x2006 3 (pack64 [(0, 5), (3, 1)]) s)
  | _ => s

/-- CH_CTRL may be written by the shepherd core and the service port; another write sets HSW_ERR.PRIV (R108, R557). -/
def hsCtrlAllowed (rq : Requester) : Bool := rq.isShepherd || rq == .service

/-- REENABLE: a write of CH_CTRL.REENABLE (R107, R108). -/
def doReenable (rq : Requester) (k : Fin 96) (s : State) : State :=
  if hsCtrlAllowed rq then hsReenable k s else setErr .hsw 2 s

/-- HSW_CLRCNT: a write of CH_CTRL.CLRCNT clears CH_TRIPS of the channel written, a group member's too (Table 4.11).
[log 142 DESIGN CHOICE] -/
def doHswClrcnt (rq : Requester) (k : Fin 96) (s : State) : State :=
  if hsCtrlAllowed rq then modHs k (fun h => { h with trips := 0 }) s else setErr .hsw 2 s

/-! ### The commit mark -/

/-- The commit of a channel's or group's value under Table 4.3: `cmd` is the committed value. Inrush phases and pauses
count this commit mark, and one that it ends is over at it (R101, R104); `clear` commits in INRUSH or ON without a trip
clear the retry count (R105). -/
def hsCommitState (inrushTicks clear : Nat) (cmd : Bool) (h : HsState) : HsState :=
  let h := { h with cmd := cmd, windowed := false, left := h.left - 1 }
  let off := { h with prot := .off, left := 0, clean := 0, onFor := 0 }
  let good := fun (h : HsState) =>
    { h with clean := h.clean + 1, r := if clear ≤ h.clean + 1 then 0 else h.r }
  match h.prot with
  | .off => if cmd then hsTurnOn inrushTicks h else h
  | .inrush =>
    if !cmd then off else if h.left = 0 then good { h with prot := .on, onFor := 0 } else good h
  | .on => if cmd then good { h with onFor := h.onFor + 1 } else off
  | .pause =>
    if !cmd then { h with prot := .off, left := 0 } else if h.left = 0 then hsTurnOn inrushTicks h else h
  | .latchOc => h
  | .latchTh => h

/-- The entries of a commit: RETRY for a pause that has ended with the gate on, RETRY_CLEAR for a retry count that has
cleared, once for a group (R104, R105, R124). -/
def logHsCommit (k : Fin 96) (was now : HsState) (s : State) : State :=
  if s.cfg.leader k ≠ k then s
  else if was.prot = .pause ∧ now.gate then logLead k 0x2003 2 (pack64 [(0, was.r), (16, pauseMs was.r)]) s
  else if now.r < was.r then logLead k 0x200F 1 (pack64 [(0, was.r)]) s
  else s

/-- The commit of one channel, its value given; without VBL every gate stays off (R540). -/
def hsCommit (k : Fin 96) (cmd : Bool) (s : State) : State :=
  let was := s.hsw.ch[k]
  let cmd := cmd && !s.pwr.noVbl
  let t := modHs k (hsCommitState (s.inrushTicks k) (s.ticksOfMs 5000) cmd) s
  let t := logHsCommit k was t.hsw.ch[k] t
  if !was.gate && t.hsw.ch[k].gate then stampFeed k t else t

/-! ### Comparators -/

/-- The nominal rising and falling thresholds of an input class in mV, each with its tolerance (Table 7.1). -/
def classBands (cls : Nat) : (Int × Int) × (Int × Int) :=
  if cls = 3 then ((8000, 1000), (6500, 1000))
  else if cls = 0x10 then ((55000, 8000), (45000, 8000))
  else ((12000, 1500), (9000, 1500))

/-- A threshold kept in its tolerance band. -/
def inBand (b : Int × Int) (x : Int) : Int := max (b.1 - b.2) (min (b.1 + b.2) x)

/-- The rising threshold of an input in mV (Table 7.1). [log 127 DESIGN CHOICE] -/
def riseAt (unit cls : Nat) : Int := inBand (classBands cls).1 (Config.inputRise unit cls)

/-- The falling threshold of an input in mV, which leaves some hysteresis (R202, Table 7.1). [log 127 DESIGN CHOICE] -/
def fallAt (unit cls : Nat) : Int := min (inBand (classBands cls).2 (Config.inputFall unit cls)) (riseAt unit cls - 2)

/-- An input's comparator at a voltage in mV: on from its rising threshold, off down to its falling one, and between them as
it was (R112, R200, R202, Table 7.1). [log 127 DESIGN CHOICE] -/
def comparator (unit cls : Nat) (was : Bool) (mv : Int) : Bool :=
  if riseAt unit cls ≤ mv then true
  else if mv ≤ fallAt unit cls then false
  else was

/-- The comparator of an HS node: Type 3 thresholds (R112). -/
def nodeComparator (k : Nat) (was : Bool) (mv : Int) : Bool := comparator (128 + k) 3 was mv

/-! ### Measurements at the sample mark -/

/-- Another channel of the fold was in its inrush phase in the tick (R97). -/
def State.disturbed (s : State) (k : Fin 96) : Bool :=
  (List.finRange 96).any fun j => j != k && j.val / 8 == k.val / 8 && s.hsw.ch[j].inrushed

/-- One more equal result of a debounce, up to 4. -/
def Run.step (r : Run) (kind : Nat) : Run := if r.kind = kind then ⟨kind, min (r.len + 1) 4⟩ else ⟨kind, 1⟩

/-- The current and temperature of a channel frozen at the sample mark: a disturbed measurement keeps the last
undisturbed values, but for the forced measurement of the tick, if one was taken (R95 to R98). -/
def hsFreeze (k : Nat) (rd : HsReading) (dist : Bool) (h : HsState) : HsState :=
  let g := h.forcedRd
  let h := { h with
    dist := dist, comp := false, inrushed := h.prot == Prot.inrush, forcedRd := none
    node := nodeComparator k h.node rd.node, rb := nodeComparator k h.node rd.node }
  let show_ := fun (c t : Half) => { h with current := c, temp := t, sensed := t, sat := rd.sat }
  if dist then
    match g with
    | some (c, t) => { show_ c t with distRun := h.distRun + 1, comp := true }
    | none => { h with distRun := h.distRun + 1 }
  else { show_ rd.current rd.temp with distRun := 0, forced := false }

/-- The EXTV debounce of a channel at the sample mark (R113): the new flag. -/
def hsExtv (fn : Nat) (h : HsState) : HsState :=
  let h := { h with offMarks := if h.gate then 0 else h.offMarks + 1 }
  if fn = 4 then { h with extv := false, extvRun := ⟨0, 0⟩ }
  else if !h.rb then
    let r := h.extvRun.step 0
    { h with extvRun := r, extv := h.extv && decide (r.len < 4) }
  else if (h.prot == .off || h.tripped) && decide (2 < h.offMarks) then
    let r := h.extvRun.step 1
    { h with extvRun := r, extv := h.extv || decide (4 ≤ r.len) }
  else { h with extvRun := ⟨1, 0⟩ }

/-- The sample mark of one channel: frozen measurements, readback, EXTV and its entry (R95 to R98, R112, R113). -/
def hsSampleCh (rd : HsReading) (dist : Bool) (k : Fin 96) (s : State) : State :=
  let was := s.hsw.ch[k].extv
  let t := modHs k (fun h => hsExtv s.cfg.hs[k].fn (hsFreeze k.val rd dist h)) s
  let now := t.hsw.ch[k].extv
  if was = now then t
  else
    let t := logEv 0x200B 4 (locHs k.val) (pack64 [(0, b01 now)]) t
    if now then setIrq .hsw 5 t else t

/-- The entry rating of a fold in A (Table 4.1). -/
def foldRating (f : Nat) : Nat := if f < 8 then 30 else 60

/-- The class LSB of a fold in mA. -/
def foldLsb (f : Nat) : Nat := if f < 8 then 1 else 4

/-- The sum of the last 100 fold currents, in mA; ticks before the start count as 0, and a tick whose sample frame is missing
counts with the value kept (R31). [log 35 DEDUCED] -/
def HsFold.sum100 (x : HsFold) (f : Nat) : Int := (x.hist.take 100).sum * (foldLsb f : Int)

/-- The sample mark of one fold: FOLD_VF, FOLD_ISUM, FOLD_TEMP, and OVER over the last 100 ticks (R120).
[log 35 DEDUCED] -/
def hsSampleFold (rd : FoldReading) (f : Fin 12) (s : State) : State :=
  let x := s.hsw.fold[f]
  let y := { x with vf := rd.vf, isum := rd.isum, temp := rd.temp, hist := (rd.isum.toInt :: x.hist).take 100 }
  let sum := y.sum100 f.val
  let full : Int := foldRating f.val * 100000
  let ovr := if x.ovr then decide (full * 95 ≤ sum * 100) else decide (full < sum)
  let s := { s with hsw := { s.hsw with fold := s.hsw.fold.set f { y with ovr := ovr } } }
  if ovr = x.ovr then s
  else
    let s := logEv 0x200E 4 (locFold f.val) (pack64 [(0, b01 ovr), (16, Config.rounded sum.toNat 100000)]) s
    if ovr then setIrq .hsw 7 s else s

/-- The derating limit of R123 in 10 mW, from the baseplate temperature in 1/16 °C. -/
def derating (t16 : Int) : Nat :=
  if t16 ≤ 1120 then 6000 else if 1360 ≤ t16 then 4500 else Config.rounded (96000 - (t16.toNat - 1120) * 100) 16

/-- The limit in force (R123): the lesser of the image's budget and the derating limit. -/
def dissLimit (budget : Nat) (t16 : Int) : Nat := if budget = 0 then derating t16 else min budget (derating t16)

/-- DIST_FORCED: in the ninth consecutive disturbed tick and in each further one the measurement is forced with inrush
compensation; the entry is written once per run, and the registers take the result at the next sample mark (R43,
R98). -/
def doDistForced (k : Fin 96) (current temp : Half) (s : State) : State :=
  let h := s.hsw.ch[k]
  let current := s.adc (k.val / 8) current
  if s.disturbed k ∧ 8 ≤ h.distRun ∧ h.forcedRd = none then
    let t := setIrq .hsw 8 (modHs k (fun h => { h with forced := true, forcedRd := some (current, temp) }) s)
    if h.forced then t
    else logEv 0x200C 3 (locHs k.val) (pack64 [(0, min h.distRun 255)]) t
  else s

/-! ### Open load, free-wheel path, fold entries -/

/-- A window from 16 µs to 36 µs after the commit mark ends by 62/64 T (R44, R109, R184). -/
def State.windowFits (s : State) : Bool := decide (s.T * s.cfg.commit + 36000 * 64 ≤ s.T * 62)

/-- Time passes to the end of such a window. -/
def passWindow (s : State) : State := passInTick (s.T * s.cfg.commit + 36000 * 64) (s.T * 64) s

/-- The result of a channel's open-load check in the tick's window (R109, R110): open, present, or none.
[log 6 DESIGN CHOICE] -/
def olResult (c : HsCfg) (h : HsState) (k : Nat) (current : Half) (node : Nat) : Option Bool :=
  if h.prot = .on then
    if c.olOn ∧ 1 ≤ h.onFor then
      some (if current.toInt < 20 then true else if 40 ≤ current.toInt then false else Config.openBand k current.toInt)
    else none
  else if (h.prot = .off ∨ h.tripped) ∧ c.olOff ∧ 2 ≤ h.offMarks then
    if 3500 < node then some true else if node < 1500 then some false else none
  else none

/-- A result enters the OPEN debounce: four in a row set or clear OPEN (R111). -/
def olDebounce (res : Bool) (h : HsState) : HsState :=
  let r := h.openRun.step (b01 res)
  { h with openRun := r, open_ := if 4 ≤ r.len then res else h.open_ }

/-- OPEN_LOAD_WINDOW: the window of 20 µs, 16 µs after the commit mark, judges the check and debounces OPEN at its end
(R109 to R111); one that cannot end by 62/64 T is not started (R44). During UV of the fold no result is taken (R119); a
disturbed tick counts only when its measurement is forced (R97, R98). [log 111 DESIGN CHOICE] -/
def doOpenLoadWindow (k : Fin 96) (current : Half) (node : Nat) (s : State) : State :=
  let h := s.hsw.ch[k]
  let current := s.adc (k.val / 8) current
  let uv := (getNat s.hsw.fold (k.val / 8) default).uv
  if s.tick.phase ≠ .measure ∨ h.windowed ∨ !s.windowFits then s
  else
    let s := modHs k (fun h => { h with windowed := true, node := nodeComparator k.val h.node node }) (passWindow s)
    if uv ∨ (s.disturbed k ∧ h.distRun < 8) then s
    else
      match olResult s.cfg.hs[k] h k.val current node with
      | none => s
      | some res =>
        let s := modHs k (olDebounce res) s
        let now := s.hsw.ch[k].open_
        if now = h.open_ then s
        else if now then
          if h.prot = .on then
            setIrq .hsw 3 (logEv 0x2007 3 (locHs k.val) (pack64 [(16, current.toNat)]) s)
          else setIrq .hsw 3 (logEv 0x2008 3 (locHs k.val) 0 s)
        else logEv 0x2009 2 (locHs k.val) 0 s

/-- FW_MISSING: the output node stayed below -3 V for 20 µs after a turn-off (R116). -/
def doFwMissing (k : Fin 96) (current : Half) (s : State) : State :=
  if s.hsw.ch[k].gate then s
  else
    let s := hwBit .hsw (0x1004 + k.val * 0x40) 0x1000 (modHs k (fun h => { h with fwmiss := true }) s)
    setIrq .hsw 4 (logEv 0x200A 4 (locHs k.val) (pack64 [(16, current.toNat)]) s)

/-- FOLD_UV: VF crosses 12.0 V downward or 13.0 V upward (R119). -/
def doFoldUv (f : Fin 12) (vf : Half) (s : State) : State :=
  let x := s.hsw.fold[f]
  let uv := if x.uv then decide (vf.toNat ≤ 1300) else decide (vf.toNat < 1200)
  if uv = x.uv then s
  else
    let s := { s with hsw := { s.hsw with fold := s.hsw.fold.set f { x with uv := uv } } }
    let s := logEv 0x200D 4 (locFold f.val) (pack64 [(0, b01 uv), (16, vf.toNat)]) s
    if uv then setIrq .hsw 6 s else s

/-! ### The dissipation estimate -/

/-- A channel's share of the estimate in mW (R121): I² × RON25 × (1 + 0.0055 × (Tj − 25)), nothing while its committed
value is 0. [log 5 DESIGN CHOICE] -/
def chPdiss (k : Fin 96) (h : HsState) : Nat :=
  let lsb : Int := if k.val < 64 then 1 else 4
  let i := h.current.toInt * lsb
  if h.cmd then Config.rounded ((i * i).toNat * (Config.ron25 k).toNat * (138000 + 55 * h.temp.toInt).toNat) 16000000000000
  else 0

/-- The estimate for the next tick, computed in the measurement slots (R121, R122). -/
def estimate (s : State) : State :=
  let ch := mapUnits s.hsw.ch fun k h => { h with pdiss := chPdiss k h }
  let mw := (ch.toList.map (·.pdiss)).sum + s.sol.mw + (s.led.str.toList.map (·.mw)).sum + s.led.chainMw + s.hsw.logicMw
  { s with hsw := { s.hsw with
      ch := ch, estMw := mw, est := BitVec.ofNat 16 (min 65535 (Config.rounded mw 10)) } }

end Sys2Proof.Machine
end

