-- ==== Sys2Proof/Machine/Lighting.lean ====
section
/-! DEFINITION. Lighting: lamp commands, fades and dimming, pattern engines, lamp and string diagnostics, chain lines. -/

namespace Sys2Proof.Machine

/-! ### Levels and fades -/

/-- LEVEL of a lamp command word (Table 6.2). -/
def lampLevel (w : Word) : Nat := field w 0 12

/-- FADE of a lamp command word, in ms. -/
def lampFade (w : Word) : Nat := field w 16 16

/-- A lamp command word passes the check of R164. -/
def lampWordOk (w : Word) : Bool := decide (field w 12 4 = 0 ∧ lampFade w ≤ 65000)

/-- A quotient rounded to the nearest integer. -/
def nearest (num den : Nat) : Nat := (2 * num + den) / (2 * den)

/-- The duty D16 of a level (R166). -/
def d16 (level : Nat) : Nat :=
  if 100 * level ≤ 32760 then nearest (level * 65536000) 36990135
  else nearest (65536 * (100 * level + 65520) ^ 3) (475020 ^ 3)

/-- Rewrite one lamp position. -/
def modPos (k : Fin 128) (f : LampState → LampState) (s : State) : State :=
  { s with led := { s.led with pos := upd s.led.pos k f } }

/-- Rewrite one string. -/
def modStr (k : Fin 8) (f : StringState → StringState) (s : State) : State :=
  { s with led := { s.led with str := upd s.led.str k f } }

/-- Rewrite one chain line. -/
def modChain (l : Fin 4) (f : ChainState → ChainState) (s : State) : State :=
  { s with led := { s.led with chain := upd s.led.chain l f } }

/-- The level that step `k` of a fade displays (R169). -/
def fadeLevel (l0 lt k steps : Nat) : Nat :=
  ((l0 : Int) + truncDiv (((lt : Int) - l0) * k) steps).toNat

/-- A fade of `steps` steps starts from the displayed level; its first step is displayed at once (R169). -/
def fadeStart (lt steps : Nat) (w : Word) (h : LampState) : LampState :=
  if steps = 0 then { h with disp := lt, from_ := lt, target := lt, steps := 0, step := 0, last := w }
  else { h with
    from_ := h.disp, target := lt, steps := steps, step := 1, last := w
    disp := fadeLevel h.disp lt 1 steps }

/-- The next step of a fade in progress (R169, R170). -/
def fadeStep (h : LampState) : LampState :=
  if h.step < h.steps then { h with step := h.step + 1, disp := fadeLevel h.from_ h.target (h.step + 1) h.steps } else h

/-- The commit of a lamp command (R169 to R171): a value displayed without a fade, the standing command going on, or a
new fade of `steps` steps. -/
def lampCommit (w : Word) (noFade : Bool) (steps : Nat) (h : LampState) : LampState :=
  if noFade then fadeStart (lampLevel w) 0 w h
  else if lampLevel w = lampLevel h.last ∧ lampFade w = lampFade h.last then fadeStep h
  else fadeStart (lampLevel w) steps w h

/-! ### Dimming -/

/-- Positions of a string that hold a lamp in an image (R160). -/
def Image.lampAt (g : Image) (k : Fin 128) : Bool :=
  let c := getNat g.str (k.val / 16) default
  c.enable && c.posmask.testBit (k.val % 16)

/-- Positions that hold a lamp in the image in force. -/
def State.lampAt (s : State) (k : Fin 128) : Bool := s.cfg.lampAt k

/-- N, the enabled strings (R172). -/
def Image.nstr (g : Image) : Nat := (g.str.toList.filter (·.enable)).length

/-- Phase-shifted dimming is the mode (R172). -/
def Image.shiftMode (g : Image) : Bool := decide (5 ≤ g.nstr)

/-- The rank of a string among the enabled ones (R175); 0 in spread mode. -/
def Image.rank (g : Image) (k : Nat) : Nat :=
  if g.shiftMode then ((g.str.toList.take k).filter (·.enable)).length else 0

/-- The period offset of a string in T/1,024 (R175); 0 in spread mode. -/
def Image.offset (g : Image) (k : Nat) : Nat := if g.shiftMode then g.rank k * 1024 / g.nstr else 0

/-- The commit mark for the dimming of position `p` of its string: in spread dimming its accumulator has run through the
128 sub-slots since the last one, a new assignment starts from p × 4,096 and a remainder of 0, and in spread dimming the
level displayed now takes effect (R173, R174, R177). `was` and `now` say whether the mode up to this commit mark and
from it on is phase-shifted. -/
def dimCommit (p : Nat) (was now : Bool) (h : LampState) : LampState :=
  let acc := if was then h.acc else (h.acc + 128 * d16 h.eff) % 65536
  { h with
    windowed := false, held := h.held && h.open_, renew := false
    acc := if h.renew then p * 4096 else acc
    rem := if h.renew then 0 else h.rem
    eff := if now then h.eff else h.disp }

/-- A position's pulse of a phase-shifted period (R176). -/
def dimPeriod (h : LampState) : LampState :=
  let n := d16 h.disp * 1024 + h.rem
  { h with eff := h.disp, pulse := n / 65536, rem := n % 65536 }

/-- DIMMING_PERIOD_START: a string's period starts and its lamps take their pulses (R175, R176). -/
def doDimmingPeriodStart (k : Fin 8) (s : State) : State :=
  if s.led.shift ∧ (s.cfg.str[k]).enable then
    let s := passInTick ((s.cfg.commit * 16 + s.led.offs[k]) % 1024) 1024 s
    let s := modStr k (fun h => { h with periodStart := s.now }) s
    { s with led := { s.led with pos := mapUnits s.led.pos fun j h => if j.val / 16 = k.val then dimPeriod h else h } }
  else s

/-- The tick in progress is one with a lamp window for a position (R184). -/
def State.windowTick (s : State) (k : Fin 128) : Bool := s.lampAt k && s.tick.count.toNat % 32 == 2 * (k.val % 16)

/-- The lamp window of a position is open at this instant: from 16 µs to 36 µs after the commit mark (R184), in a tick
that has room for it (R44). -/
def State.lampWindow (s : State) (k : Fin 128) : Bool :=
  let d := (s.now - s.led.commitAt).toNat
  s.windowTick k && s.tick.phase == .measure && s.windowFits && decide (16000 ≤ d ∧ d < 36000)

/-- A position is un-bypassed at this instant: it holds a lamp, its string is not HOT, and it is in its window, or it is not
held and its dimming lights it (R160, R173, R175, R185, R188, R190). -/
def State.lit (s : State) (k : Fin 128) : Bool :=
  let h := s.led.pos[k]
  let t := getNat s.led.str (k.val / 16) default
  s.lampAt k && !t.hot && (s.lampWindow k || !h.held &&
  (if s.led.shift then decide ((s.now - t.periodStart).toNat * 1024 < h.pulse * s.T)
   else
     let j := (s.now - s.led.commitAt).toNat * 128 / s.T
     decide ((h.acc + j * d16 h.eff) / 65536 < (h.acc + (j + 1) * d16 h.eff) / 65536)))

/-- The dimming un-bypasses a position at some instant from `a` to `b` nanoseconds after the last commit mark; in
phase-shifted dimming the period that is running is asked. [log 121 DEDUCED] -/
def State.litWithin (s : State) (k : Fin 128) (a b : Nat) : Bool :=
  let h := s.led.pos[k]
  let t := getNat s.led.str (k.val / 16) default
  s.lampAt k && !h.held && !t.hot &&
  (if s.led.shift then
     let p : Int := t.periodStart.toNat - s.led.commitAt.toNat
     decide (p < b ∧ (a : Int) * 1024 < p * 1024 + h.pulse * s.T)
   else decide ((h.acc + a * 128 / s.T * d16 h.eff) / 65536 < (h.acc + ceilDiv (b * 128) s.T * d16 h.eff) / 65536))

/-- The length that two spans have in common. -/
def common (a b c d : Int) : Nat := (min b d - max a c).toNat

/-- For how long a position is un-bypassed in the dimming period that the last commit mark began, in 1/1,024 ns: as its dimming
lights it (R173, R176), and for the whole of its lamp window when that has run (R185). [log 121 DEDUCED] -/
def State.litTime (s : State) (k : Fin 128) : Nat :=
  let h := s.led.pos[k]
  let t := getNat s.led.str (k.val / 16) default
  let lo : Int := 16000 * 1024
  let hi : Int := 36000 * 1024
  if !s.lampAt k || t.hot then 0
  else if s.led.shift then
    let p : Int := (t.periodStart.toNat - s.led.commitAt.toNat : Int) * 1024
    let pulse := if h.held then 0 else h.pulse * s.T
    pulse + if h.windowed then 20000 * 1024 - common p (p + pulse) lo hi else 0
  else
    let duty := if h.held then 0 else d16 h.eff
    if h.windowed then
      ((List.range 128).map fun j =>
        if (h.acc + j * duty) / 65536 < (h.acc + (j + 1) * duty) / 65536 then 8 * s.T
        else common (8 * j * s.T) (8 * (j + 1) * s.T) lo hi).sum
    else (h.acc + 128 * duty) / 65536 * 8 * s.T

/-- Those times summed over a string's positions (R191). -/
def State.stringLit (s : State) (k : Fin 8) : Nat :=
  ((List.finRange 128).map fun j => if j.val / 16 = k.val then s.litTime j else 0).sum

/-- A string's current in half mA (R159). -/
def StrCfg.halfMa (c : StrCfg) : Nat := 100 + c.code * 25

/-- A string's sink conducts: one of its lamp positions is un-bypassed, or its lamp window runs (R161). -/
def State.conducting (s : State) (k : Fin 8) : Bool :=
  (List.finRange 128).any fun j => decide (j.val / 16 = k.val) && s.lit j

/-! ### Pattern engines -/

/-- The members of an engine (R179), in ascending output number. -/
def Image.members_ (g : Image) (e : Nat) : List Nat :=
  (List.range 256).filter fun o =>
    match getNat g.outs o none with
    | some r => r.sources.any (fun x => x.1 == 9 + e) || r.subst == e + 1
    | none => false

/-- The level of a member (Table 6.5). -/
def patternLevel (kind t lo hi period step width m i : Nat) : Nat :=
  match kind with
  | 0 => hi
  | 1 =>
    let u := t % period
    let h := period / 2
    if u < h then ((lo : Int) + truncDiv (((hi : Int) - lo) * u) h).toNat
    else ((hi : Int) - truncDiv (((hi : Int) - lo) * (u - h : Nat)) (period - h : Nat)).toNat
  | 2 => if (((t / step : Nat) : Int) - i) % (m : Int) < width then hi else lo
  | _ => if t % period < period / 2 then hi else lo

/-- The tick count t of an engine at the sample mark: the executed ticks since RUN became 1, or the tick number (R182).
[log 39 DEDUCED] -/
def patternTick (count : DWord) (p : PatternState) : PatternState :=
  let ran := if p.fresh then p.ran else p.ran + 1
  { p with ran := ran, fresh := false, t := if bit p.useCtrl 4 then count.toNat % 2 ^ 32 else ran }

/-- A running engine computes its members' levels in the engine phase (R178). -/
def patternStep (g : Image) (count : DWord) (e : Fin 4) (p : PatternState) : PatternState :=
  if bit p.useCtrl 0 then
    let p := patternTick count p
    let ms := g.members_ e.val
    { p with levels := ms.zipIdx.map fun x => (x.1, patternLevel (field p.useCtrl 1 3) p.t (field p.useLevel 0 12)
        (field p.useLevel 16 12) (field p.useTime 0 16) (field p.useTime 16 8) (field p.useTime 24 8) ms.length x.2) }
  else p

/-- The registers an engine uses from the next engine phase on (R183). -/
def patternLatch (p : PatternState) : PatternState :=
  let starts := bit p.ctrl 0 && !bit p.useCtrl 0
  { p with
    useCtrl := p.ctrl, useLevel := p.level, useTime := p.time
    ran := if starts then 0 else p.ran, t := if starts then 0 else p.t, fresh := p.fresh || starts
    levels := if bit p.ctrl 0 then p.levels else [] }

/-- The command of engine e for an output (R180, R181): none while RUN is 0. -/
def patternCmd (p : PatternState) (o : Nat) : Option Word :=
  if bit p.useCtrl 0 then
    match p.levels.find? (fun x => x.1 == o) with
    | some (_, l) =>
      some (if o < 96 then BitVec.ofNat 32 (b01 (decide (2048 ≤ l))) else if o < 112 then 0 else BitVec.ofNat 32 l)
    | none => none
  else none

/-- A value a pattern-engine register accepts (Table 6.16): no reserved bit or encoding. -/
def peValueOk (reg : Fin 3) (v : Word) : Bool :=
  match reg with
  | 0 => decide (field v 5 27 = 0 ∧ field v 1 3 < 4)
  | 1 => decide (field v 12 4 = 0 ∧ field v 28 4 = 0)
  | 2 => decide (2 ≤ field v 0 16 ∧ 1 ≤ field v 16 8 ∧ 1 ≤ field v 24 8)

/-- Address of a pattern-engine register. -/
def peAddr (e : Fin 4) (reg : Fin 3) : Nat := 0x20050C00 + e.val * 0x20 + reg.val * 4

/-- PE_CTRL_WRITE: a write to a pattern-engine register by the shepherd core or the service port (R183, R557). -/
def doPeCtrlWrite (rq : Requester) (e : Fin 4) (reg : Fin 3) (v : Word) (s : State) : State :=
  let f := fun (p : PatternState) =>
    match reg with
    | 0 => { p with ctrl := v }
    | 1 => { p with level := v }
    | 2 => { p with time := v }
  wrIf .led (hsCtrlAllowed rq) (!peValueOk reg v) rq (peAddr e reg)
    (fun s => { s with led := { s.led with pe := upd s.led.pe e f } }) s

/-! ### Lamp diagnostics -/

/-- A fault flag is counted in POS_FAULTS (R18). -/
def bumpFault (k : Fin 128) (s : State) : State :=
  bump .led (0x1018 + k.val * 0x40) 0 1 (modPos k (fun h => { h with faults := satInc h.faults }) s)

/-- The OPEN flag is set: the position is held bypassed outside its windows (R187, R188). Set by the clamp outside a window,
it clears after two present windows from then on; the run of SHORT goes on. [log 37 DEDUCED] -/
def setLampOpen (k : Fin 128) (window : Bool) (mv : Nat) (s : State) : State :=
  let s := bumpFault k (modPos k (fun h => { h with
    open_ := true, held := true, openRun := if window then h.openRun else ⟨0, 0⟩ }) s)
  setIrq .led 0 (logEv 0x4001 4 (locPos k.val) (pack64 [(0, b01 window), (16, min mv 4095)]) s)

/-- The SHORT flag is set (R187). -/
def setLampShort (k : Fin 128) (mv : Nat) (s : State) : State :=
  let s := bumpFault k (modPos k (fun h => { h with short := true }) s)
  setIrq .led 1 (logEv 0x4002 4 (locPos k.val) (pack64 [(16, min mv 4095)]) s)

/-- OPEN clears, and SHORT, each with an entry of its own (R187, Table 6.9). -/
def clearLamp (k : Fin 128) (opn shrt : Bool) (s : State) : State :=
  let t := modPos k (fun h => { h with open_ := h.open_ && !opn, short := h.short && !shrt }) s
  let t := if opn then logEv 0x4003 2 (locPos k.val) 1 t else t
  if shrt then logEv 0x4003 2 (locPos k.val) 2 t else t

/-- The sink's current in half mA during a position's window: the string current, or, when the sink would otherwise be idle
for the whole window, 50 mA or the string current, whichever is lower (R185). -/
def State.sinkCurrent (s : State) (k : Fin 128) : Nat :=
  let c := (getNat s.cfg.str (k.val / 16) default).halfMa
  if (List.finRange 128).any fun j => decide (j.val / 16 = k.val / 16) && s.litWithin j 16000 36000 then c else min 100 c

/-- The result of a window (Table 6.6): 0 none, 1 present, 2 open, 3 short; `target` is the sink's current in half mA. Where
several conditions of the table hold, the string's HOT comes first, then the clamp, the sink's current and the voltage.
[log 135 DEDUCED] -/
def lampResult (hot : Bool) (target : Nat) (m : LampReading) : Nat :=
  if hot then 0 else if m.clamp then 2 else if m.current * 20 < target * 9 then 0 else if m.mv < 500 then 3 else 1

/-- LAMP_WINDOW: in a tick with n mod 32 = 2p the position's window measures it and debounces OPEN and SHORT at its end
(R184 to R187); one that cannot end by 62/64 T is not started (R44). -/
def doLampWindow (k : Fin 128) (m : LampReading) (s : State) : State :=
  let h := s.led.pos[k]
  if s.tick.phase ≠ .measure ∨ h.windowed ∨ !s.windowTick k ∨ !s.windowFits then s
  else
    let s := passWindow s
    let res := lampResult (getNat s.led.str (k.val / 16) default).hot (s.sinkCurrent k) m
    let s := modPos k (fun h => { h with windowed := true, result := some (res, m.mv) }) s
    if res = 0 then s
    else
      let r := h.openRun.step res
      let q := h.shortRun.step res
      let s := modPos k (fun h => { h with openRun := r, shortRun := q }) s
      if res = 1 then clearLamp k (h.open_ && decide (2 ≤ r.len)) (h.short && decide (2 ≤ q.len)) s
      else if res = 2 then (if h.open_ ∨ r.len < 2 then s else setLampOpen k true m.mv s)
      else (if h.short ∨ q.len < 2 then s else setLampShort k m.mv s)

/-- LAMP_CLAMP: the clamp acts outside a window; OPEN is set at once (R163, R188). -/
def doLampClamp (k : Fin 128) (mv : Nat) (s : State) : State :=
  let h := s.led.pos[k]
  if s.lampAt k ∧ !h.open_ then setLampOpen k false mv s else s

/-! ### String faults -/

/-- STRING_LOW: the sink stayed below 90 % of the string current for 50 µs; the fourth tick in a row is reported
(R189). -/
def doStringLow (k : Fin 8) (current : Nat) (vn16 : Half) (s : State) : State :=
  let c := s.cfg.str[k]
  let h := s.led.str[k]
  if c.enable ∧ !h.lowNow ∧ current * 4 < 180 + 45 * c.code then
    let s := modStr k (fun h => { h with lowNow := true }) s
    if h.lowRun = 3 then
      setIrq .led 3 (logEv 0x4004 4 (locStr k.val) (pack64 [(0, current), (16, vn16.toNat)]) s)
    else s
  else s

/-- STRING_HOT: a sink junction at 165 °C latches the string HOT (R190). -/
def doStringHot (k : Fin 8) (temp : Half) (s : State) : State :=
  if 2640 ≤ temp.toInt ∧ !(s.led.str[k]).hot then
    let s := modStr k (fun h => { h with hot := true, sensed := temp }) s
    setIrq .led 2 (logEv 0x4005 5 (locStr k.val) (pack64 [(0, temp.toNat)]) s)
  else s

/-- STRING_REENABLE: a write of STR_CTRL.REENABLE clears HOT below 145 °C (R190); write access follows R108.
[log 146 DESIGN CHOICE] -/
def doStringReenable (rq : Requester) (k : Fin 8) (s : State) : State :=
  let h := s.led.str[k]
  if !hsCtrlAllowed rq then setErr .led 3 s
  else if !h.hot then s
  else if h.sensed.toInt < 2320 then
    logEv 0x4006 3 (locStr k.val) 0 (modStr k (fun h => { h with hot := false }) s)
  else setErr .led 2 (logEv 0x4006 3 (locStr k.val) 1 s)

/-- POS_CLRCNT: a write of POS_CTRL.CLRCNT clears POS_FAULTS (Table 6.15). -/
def doPosClrcnt (rq : Requester) (k : Fin 128) (s : State) : State :=
  if hsCtrlAllowed rq then modPos k (fun h => { h with faults := 0 }) s else setErr .led 3 s

/-! ### Chain lines -/

/-- The rest frame of a line: DEVICES shares of zero (R197). [log 38 DEDUCED] -/
def restFrame (c : ChainCfg) : List Byte := List.replicate (3 * c.devices) 0

/-- The bytes of a line's buffer (Table 6.18). -/
def chainBytes (buf : Vector Word 192) : List Byte := buf.toList.flatMap fun w => leBytes 4 w.toNat

/-- CHAIN_SEND: a write of CL_CTRL.SEND arms the line (R195). -/
def doChainSend (rq : Requester) (l : Fin 4) (s : State) : State :=
  if !hsCtrlAllowed rq then setErr .led 3 s
  else if (s.cfg.chain[l]).fn = 1 then modChain l (fun h => { h with armed := true }) s
  else s

/-- The opening of the envelope phase takes the buffer and LEN of an armed line that is idle at the commit mark that comes
(R195); a LEN above DEVICES is clipped (R196). -/
def chainTake (l : Fin 4) (s : State) : State :=
  let h := s.led.chain[l]
  let c := s.cfg.chain[l]
  if h.armed ∧ h.span ≤ 1 ∧ c.fn = 1 then
    let n := min h.len c.devices
    let s := modChain l (fun h => { h with taken := true, frame := (chainBytes h.buf).take (3 * n) }) s
    if c.devices < h.len then
      let s := hwBit .led (0x0D08 + l.val * 0x20) 4 (modChain l (fun h => { h with clip := true }) s)
      setIrq .led 5 (logEv 0x4007 3 (locChain l.val) (pack64 [(0, h.len), (16, c.devices)]) s)
    else s
  else s

/-- The rest frame of a line in use starts; it replaces an armed frame (R197). [log 38 DEDUCED] -/
def chainRest (c : ChainCfg) (h : ChainState) : ChainState :=
  if c.fn = 1 then
    { h with restDue := false, armed := false, taken := false, busy := true, frame := restFrame c, span := c.span }
  else h

/-- A commit mark at which a line starts no frame: the die has not received one, and an armed frame stays armed. -/
def chainPass (h : ChainState) : ChainState := { h with span := h.span - 1, taken := false }

/-- The commit mark of a line: the rest frame when it is due (R197), else the frame taken (R195). [log 38 DEDUCED] -/
def chainCommit (c : ChainCfg) (h : ChainState) : ChainState :=
  let h := { h with span := h.span - 1 }
  if c.fn ≠ 1 then { h with armed := false, taken := false, restDue := false, busy := false }
  else if h.restDue then chainRest c h
  else if h.taken then { h with armed := false, taken := false, busy := true, span := c.span }
  else h

/-- CHAIN_FRAME_DONE: the last bit and the latch of a frame (R193); FAULT clears (R198). -/
def doChainFrameDone (l : Fin 4) (s : State) : State :=
  if (s.led.chain[l]).busy then
    setIrq .led 4 (bump .led (0x0D10 + l.val * 0x20) 0 1
      (modChain l (fun h => { h with busy := false, fault := false, frames := satInc h.frames }) s))
  else s

/-- CHAIN_FAULT: four bits read back wrong abort the frame (R198). -/
def doChainFault (l : Fin 4) (share : Byte) (s : State) : State :=
  if (s.led.chain[l]).busy then
    let s := modChain l (fun h => { h with busy := false, fault := true }) s
    setIrq .led 6 (logEv 0x4008 4 (locChain l.val) (pack64 [(0, share.toNat)]) s)
  else s

end Sys2Proof.Machine
end

