-- ==== Sys2Proof/Machine/Inputs.lean ====
section
/-! DEFINITION. Field inputs: sampling, the counter filter, edge stamps, wire-break detection and the snapshot. -/

namespace Sys2Proof.Machine

/-! ### The counter filter -/

/-- A rising or falling edge at this sample, or none. -/
inductive EdgeAt where
  | none | rise | fall
  deriving DecidableEq, Repr, Inhabited

/-- One sample of the counter filter (R203), with D counted from the sample at which the counter left the opposite rail
(R208). The first sample only starts the filter (R204). -/
def filterStep (limit : Nat) (high : Bool) (f : Filter) : Filter × EdgeAt :=
  if !f.started then (⟨if high then limit else 0, high, 0, true⟩, .none)
  else
    let c := if high then min (f.c + 1) limit else f.c - 1
    let leaves := (f.c = 0 ∧ c ≠ 0 ∧ !f.s) ∨ (f.c = limit ∧ c ≠ limit ∧ f.s)
    let dep := if leaves then 0 else min (f.dep + 1) 65535
    if c = limit ∧ !f.s then (⟨c, true, dep, true⟩, .rise)
    else if c = 0 ∧ f.s then (⟨c, false, dep, true⟩, .fall)
    else (⟨c, f.s, dep, true⟩, .none)

/-- An input's live record takes an edge (R207, R208). -/
def diEdge (now : DWord) (rise : Bool) (dep : Nat) (d : DiState) : DiState :=
  { d with
    edges := d.edges + 1, tickEdges := d.tickEdges + 1, lastRise := rise, stamp := now
    depart := BitVec.ofNat 16 dep }

/-- The stamp base and service flag of an entry taken now. -/
def State.stampFlags (s : State) (sev : Nat) : Byte := entryFlags s.drvIdx.val sev s.drv.oos false

/-- An entry waits for the next valid sample frame of its die (R213). -/
def pendLog (die : Nat) (code sev : Nat) (loc : Word) (payload : DWord) (s : State) : State :=
  { s with din := { s.din with pend := s.din.pend ++ [⟨die, s.now, code, sev, loc, payload, s.stampFlags sev⟩] } }

/-- At most two EDGE entries are written per input per tick (R213). -/
def pendEdge (die : Nat) (loc : Word) (rise coincident : Bool) (dep : Nat) (tickEdges : Nat) (s : State) : State :=
  if tickEdges ≤ 2 then
    pendLog die 0x5001 1 loc (pack64 [(0, b01 rise), (1, b01 coincident), (16, dep)]) s
  else s

/-- Rewrite one field input. -/
def modDi (k : Fin 128) (f : DiState → DiState) (s : State) : State :=
  { s with din := { s.din with ch := upd s.din.ch k f } }

/-- Rewrite the input record of one HS channel. -/
def modHsIn (k : Fin 96) (f : DiState → DiState) (s : State) : State :=
  { s with hsw := { s.hsw with inp := upd s.hsw.inp k f } }

/-- The input current lies below the wire-break threshold (Table 7.4): certainly below 0.3 mA, certainly not from
0.5 mA on, and as the comparison says in between. -/
def wireBelow (x : DiReading) : Bool := if x.current < 30 then true else if 50 ≤ x.current then false else x.below

/-- The wire-break counter of an input at one sample (R209): BROKEN set or cleared, its entry written first (R210). -/
def wbSample (k : Fin 128) (x : DiReading) (s : State) : State × Bool :=
  let c := s.cfg.di[k]
  if c.fn = 2 then
    let (f, e) := filterStep c.limit (wireBelow x) (s.din.ch[k]).wb
    let s := modDi k (fun d => { d with wb := f }) s
    match e with
    | .rise => (pendLog 3 0x5003 4 (locDi k.val) (pack64 [(0, 1), (16, min x.current 4095)]) s, true)
    | .fall => (pendLog 3 0x5003 4 (locDi k.val) (pack64 [(0, 0), (16, min x.current 4095)]) s, false)
    | .none => (s, false)
  else (s, false)

/-- One sample of one field input (R202 to R210). -/
def diSample (k : Fin 128) (x : DiReading) (s : State) : State :=
  let c := s.cfg.di[k]
  if c.fn = 0 then s
  else
    let (s, broke) := wbSample k x s
    let high := comparator k.val (getNat s.cfg.diClass (k.val / 16) 1) (s.din.ch[k]).raw x.mv
    let (f, e) := filterStep c.limit high (s.din.ch[k]).flt
    let s := modDi k (fun d => { d with flt := f, raw := high, current := x.current }) s
    match e with
    | .none => s
    | .rise =>
      let s := modDi k (diEdge s.now true f.dep) s
      pendEdge 3 (locDi k.val) true broke f.dep (s.din.ch[k]).tickEdges s
    | .fall =>
      let s := modDi k (diEdge s.now false f.dep) s
      pendEdge 3 (locDi k.val) false broke f.dep (s.din.ch[k]).tickEdges s

/-- One sample of an HS channel used as an input (R118). -/
def hsInSample (k : Fin 96) (mv : Int) (s : State) : State :=
  let c := s.cfg.hs[k]
  if c.fn ≠ 4 then s
  else
    let high := nodeComparator k.val (s.hsw.ch[k]).node mv
    let (f, e) := filterStep c.octh high (s.hsw.inp[k]).flt
    let s := modHsIn k (fun d => { d with flt := f, raw := high }) s
    match e with
    | .none => s
    | .rise =>
      let s := modHsIn k (diEdge s.now true f.dep) s
      pendEdge (hsDie k.val) (locHs k.val) true false f.dep (s.hsw.inp[k]).tickEdges s
    | .fall =>
      let s := modHsIn k (diEdge s.now false f.dep) s
      pendEdge (hsDie k.val) (locHs k.val) false false f.dep (s.hsw.inp[k]).tickEdges s

/-- INPUT_SAMPLE: the next of the sixteen samples of a tick (R42, R202, R203); in a stretched tick sampling goes on
every T/16 (R202), and in another tick it ends with the sixteenth sample (R42). The comparators of the HS nodes follow
their voltages (R112). [log 109 DESIGN CHOICE] -/
def doInputSample (x : InputReadings) (s : State) : State :=
  if s.tick.phase = .off ∨ (16 ≤ s.din.sampleIdx ∧ !s.jumping) then s
  else
    let s := passInTick s.din.sampleIdx 16 s
    let s := { s with din := { s.din with sampleIdx := s.din.sampleIdx + 1 } }
    let s := (List.finRange 128).foldl (fun s k => diSample k x.di[k] s) s
    let s := (List.finRange 96).foldl (fun s k => hsInSample k x.hs[k] s) s
    { s with hsw := { s.hsw with
        ch := mapUnits s.hsw.ch fun k h => { h with node := nodeComparator k.val h.node x.hs[k] } } }

/-! ### The snapshot -/

/-- The snapshot of one input at a sample mark whose frame is valid (R206). [log 36 DEDUCED] -/
def diSnapshot (wire : Bool) (d : DiState) : DiState :=
  { d with
    snap := {
      state := d.flt.s, broken := wire && d.wb.s, edge := decide (d.edges ≠ 0), raw := d.raw, c := d.flt.c
      w := if wire then d.wb.c else 0, current := d.current, lastRise := d.lastRise, stamp := d.stamp
      depart := d.depart, edges := d.edges }
    count := satAdd d.count d.edges
    edges := 0 }

/-- EDGE_BURST at the end of a tick: the edges beyond two (R213). -/
def burstEntry (die : Nat) (loc : Word) (tickEdges : Nat) (s : State) : State :=
  if 2 < tickEdges then pendLog die 0x5002 3 loc (pack64 [(0, min (tickEdges - 2) 255)]) s else s

/-- The bursts of the tick that ends now (R213). -/
def burstAll (s : State) : State :=
  let s := (List.finRange 128).foldl (fun s k => burstEntry 3 (locDi k.val) (s.din.ch[k]).tickEdges s) s
  let s := (List.finRange 96).foldl (fun s k => burstEntry (hsDie k.val) (locHs k.val) (s.hsw.inp[k]).tickEdges s) s
  { s with
    din := { s.din with ch := s.din.ch.map fun d => { d with tickEdges := 0 } }
    hsw := { s.hsw with inp := s.hsw.inp.map fun d => { d with tickEdges := 0 } } }

/-- A waiting entry as it reaches the tally: EDGE and BROKEN at the time of their sample, EDGE_BURST, which has no time of its
own, now (R213, R347). -/
def PendEntry.now (p : PendEntry) (s : State) : Entry :=
  if p.code = 0x5002 then mkEntry s s.now (s.stampFlags p.sev) p.code p.loc p.payload
  else mkEntry s p.time p.flags p.code p.loc p.payload

/-- The entries of the dies whose sample frames are valid reach the tally, in the order they were taken, and raise their
interrupts (R213, R348, Table 7.7); a burst of an HS channel raises the same interrupt as one of a field input.
[log 134 DEDUCED] -/
def flushPend (dieOk : Nat → Bool) (s : State) : State :=
  let go := s.din.pend.filter fun p => dieOk p.die
  let stay := s.din.pend.filter fun p => !dieOk p.die
  let s := { s with din := { s.din with pend := stay } }
  let s := if go.any fun p => p.code == 0x5002 then setIrq .din 1 s else s
  let s := if go.any fun p => p.code == 0x5003 && p.payload.getLsbD 0 then setIrq .din 2 s else s
  let s := if go.any fun p => p.code == 0x5003 && !p.payload.getLsbD 0 then setIrq .din 3 s else s
  go.foldl (fun s p => tallyWrite (p.now s) s) s

/-- The interrupts of a snapshot: an edge, BROKEN set, BROKEN cleared (Table 7.7). -/
def snapIrqs (before after : Vector DiState 128) (s : State) : State :=
  let pairs := before.toList.zip after.toList
  let s := if pairs.any fun p => p.2.snap.edge then setIrq .din 0 s else s
  let s := if pairs.any fun p => p.2.snap.broken && !p.1.snap.broken then setIrq .din 2 s else s
  if pairs.any fun p => !p.2.snap.broken && p.1.snap.broken then setIrq .din 3 s else s

/-- The edges of an input are counted in CH_EDGES (R18). -/
def bumpEdges (s : State) : State :=
  (List.finRange 128).foldl (fun s k =>
    let n := (s.din.ch[k]).edges
    if n = 0 then s else bump .din (0x1020 + k.val * 0x40) 0 n s) s

/-- The input side of the sample mark: the snapshot of each die whose frame is valid, and its entries. An I/O die frame that
is missing leaves the previous snapshot, marked stale (R31, R206, R212). -/
def inputMark (dieOk : Nat → Bool) (s : State) : State :=
  let s :=
    if dieOk 3 then
      let before := s.din.ch
      let after := mapUnits s.din.ch fun k d => diSnapshot (decide (s.cfg.di[k].fn = 2)) d
      snapIrqs before after (let s := bumpEdges s; { s with din := { s.din with ch := after } })
    else s
  let s := { s with hsw := { s.hsw with
    inp := mapUnits s.hsw.inp fun k d => if dieOk (hsDie k.val) then diSnapshot false d else d } }
  flushPend dieOk s

/-- DIN_CLRCNT: a write of DIN CH_CTRL.CLRCNT clears CH_EDGES (Table 7.11). [log 23 DEDUCED] -/
def doDinClrcnt (rq : Requester) (k : Fin 128) (s : State) : State :=
  if hsCtrlAllowed rq then modDi k (fun d => { d with count := 0 }) s
  else reservedWrite rq (0x20061000 + k.val * 0x40) s

/-- SOL_CLRCNT: a write of SOL CH_CTRL.CLRCNT clears CH_EVENTS and CH_DROPS (Table 5.12). [log 23 DEDUCED] -/
def doSolClrcnt (rq : Requester) (k : Fin 16) (s : State) : State :=
  if hsCtrlAllowed rq then modSol k (fun c => { c with events := 0, drops := 0 }) s
  else reservedWrite rq (0x20041000 + k.val * 0x40) s

end Sys2Proof.Machine
end

