-- ==== Sys2Proof/Machine/CommandPath.lean ====
section
/-! DEFINITION. Commands and arbitration: the intake of source commands, refusals, liveness, arbitration and the
hold-over states. -/

namespace Sys2Proof.Machine

/-! ### Outputs -/

/-- The kind of an output (Table 8.1): 0 switch, 1 solenoid, 2 lamp. -/
def outKind (o : Nat) : Nat := if o < 96 then 0 else if o < 112 then 1 else 2

/-- A number that Table 8.1 gives an output. -/
def outNumber (o : Nat) : Bool := decide (o < 112) || (decide (128 ≤ o) && decide (o < 256))

/-- The OUTPUTS record of an output, if the image in force has one. -/
def State.outCfg (s : State) (o : Nat) : Option OutCfg := getNat s.cfg.outs o none

/-- The rest value of an output in an image, as a command word (R137, R165). -/
def Image.restWord (g : Image) (o : Nat) : Word :=
  match getNat g.outs o none with
  | some r => BitVec.ofNat 32 r.rest
  | none => 0

/-- The rest value of an output in the image in force. -/
def State.restWord (s : State) (o : Nat) : Word := s.cfg.restWord o

/-- The Hurdle's view of a word: on or off (R227). -/
def wordOn (o : Nat) (w : Word) : Bool :=
  if o < 96 then bit w 0 else if o < 112 then solOp w == 1 else decide (0 < lampLevel w)

/-- A clipped candidate (R227): a switch commits 0, a solenoid released, a lamp level 0 with its FADE. -/
def clipWord (o : Nat) (w : Word) : Word := if o < 112 then 0 else w &&& 0xFFFF0000#32

/-- Two words give an output the same value: a lamp is judged by LEVEL (R168). [log 30 DEDUCED] -/
def sameValue (o : Nat) (a b : Word) : Bool := if o < 112 then a == b else lampLevel a == lampLevel b

/-- The output that carries a command: the leader of a parallel group (R90). [log 24 DEDUCED] -/
def State.leadOut (s : State) (o : Nat) : Nat := if h : o < 96 then (s.cfg.leader ⟨o, h⟩).val else o

/-- The outputs governed together with an output: the members of its group. [log 24 DEDUCED] -/
def State.groupOut (s : State) (o : Nat) : List Nat :=
  if h : o < 96 then (s.cfg.members ⟨o, h⟩).map (·.val) else [o]

/-- Rewrite one output. -/
def modOut (o : Nat) (f : OutState → OutState) (s : State) : State :=
  { s with hurdle := { s.hurdle with out := updNat s.hurdle.out o f } }

/-- One output's record. -/
def State.out (s : State) (o : Nat) : OutState := getNat s.hurdle.out o default

/-- Every output rewritten. -/
def mapOuts (f : Nat → OutState → OutState) (s : State) : State :=
  { s with hurdle := { s.hurdle with out := mapUnits s.hurdle.out fun o x => f o.val x } }

/-- Outputs in ascending number that have a record in the image in force. -/
def State.outputs (s : State) : List Nat := (List.range 256).filter fun o => (s.outCfg o).isSome

/-! ### Intake -/

/-- The source of a requester's commands (R217): none for the service port and the fabric. -/
def sourceOf : Requester → Option (Fin 16)
  | .keeper => some 1
  | .task => some 1
  | .tick k => some ⟨2 + k.val, by omega⟩
  | .service => none
  | .fabric => none

/-- The executed tick to which a command written now belongs (R45). -/
def State.intakeTick (s : State) : Nat :=
  match s.tick.phase with
  | .begun => s.tick.executed
  | .engine => s.tick.executed
  | .core => s.tick.executed
  | _ => s.tick.executed + 1

/-- A command word passes the check of its kind (R217). -/
def State.wordOk (s : State) (o : Nat) (w : Word) : Bool :=
  if o < 96 then decide (w.toNat < 2) else if o < 112 then solWordOk s.cfg w else lampWordOk w

/-- A word written to OUT_CMD holds no reserved bit or encoding (R13, R217). For an output without a record, as every one is
before the first image, no image gives a PROFILE its range. [log 17 DEDUCED] -/
def State.writtenOk (s : State) (o : Nat) (w : Word) : Bool :=
  if (s.outCfg o).isNone && decide (96 ≤ o ∧ o < 112) then solLayoutOk 32 s.cfg w else s.wordOk o w

/-- The report of a refused solenoid or lamp word (R133, R164). -/
def refusedWord (o : Nat) (w : Word) (s : State) : State :=
  if o < 96 then s
  else if o < 112 then setErr .sol 1 (logEv 0x300D 3 (locOut o) (w.setWidth 64) s)
  else setErr .led 1 (logEv 0x4009 3 (locOut o) (w.setWidth 64) s)

/-- A refusal under R220: OWN_ERR, HURDLE_OWNERR, and at most one entry per source and output in any 1,000 ticks, one
before the first tick. A group is named by its leader (R241). -/
def refuseCmd (code src o : Nat) (w : Word) (s : State) : State :=
  let o := s.leadOut o
  let s := sysFlag 1 (bump .hurdle 0x020 16 1
    { s with hurdle := { s.hurdle with ownErr := satInc s.hurdle.ownErr } })
  let s := setIrq .hurdle 6 s
  let e := s.tick.executed
  let recent := s.hurdle.refused.any fun x =>
    x.1 == src && x.2.1 == o && (if e = 0 then x.2.2 == 0 else decide (x.2.2 ≠ 0 ∧ e - x.2.2 < 1000))
  if recent then s
  else
    let keep := s.hurdle.refused.filter fun x => !(x.1 == src && x.2.1 == o)
    logEv code 4 (locOut o) (pack64 [(0, src), (32, w.toNat)])
      { s with hurdle := { s.hurdle with refused := (src, o, e) :: keep } }

/-- The source is among the output's permitted sources. -/
def OutCfg.permits (r : OutCfg) (src : Nat) : Bool := r.sources.any fun x => x.1 == src

/-- A checked command of a source for an output: refused under R220, held when it is a delayed solenoid command
(R136), otherwise the source's command of the tick (R45). [log 17 DEDUCED] -/
def acceptCmd (src : Fin 16) (o : Nat) (w : Word) (s : State) : State :=
  match s.outCfg o with
  | none => refuseCmd 0x600A src.val o w s
  | some r =>
    if !r.permits src.val then refuseCmd 0x600B src.val o w s
    else if h : 96 ≤ o ∧ o < 112 ∧ 0 < solDelay w then
      modSol ⟨o - 96, by omega⟩ (fun c => { c with
        delayed := c.delayed.set src (some ⟨solClearDelay w, s.intakeTick + solDelay w⟩) }) s
    else modOut (s.leadOut o) (fun x => { x with fresh := x.fresh.set src (.cmd w) }) s

/-- A command that an engine delivers (R217): a refused word sets no SYS_ERRSTAT bit. -/
def deliverCmd (src : Fin 16) (o : Nat) (w : Word) (s : State) : State :=
  if s.wordOk o w then acceptCmd src o w s else refusedWord o w s

/-- Address of a register of an output's window (Table 8.16). -/
def outAddr (o off : Nat) : Nat := 0x20071000 + o * 0x40 + off

/-- OUT_CMD: a write to HURDLE_OUT_CMD (R217). The slots of reserved numbers are unassigned addresses (R220, R14). A word
with a reserved bit or encoding sets RSVD_WR whoever writes it (R13); one for an output without a record is refused under
R220 in either case, and another is reported as R133 and R164 say. [log 17 DEDUCED] -/
def doOutCmd (rq : Requester) (o : Fin 448) (w : Word) (s : State) : State :=
  if !outNumber o.val then reservedWrite rq (outAddr o.val 0) s
  else
    let t := if s.writtenOk o.val w then s else reservedWrite rq (outAddr o.val 0) s
    match sourceOf rq with
    | none => setErr .hurdle 1 t
    | some src =>
      if (s.outCfg o.val).isNone ∨ s.writtenOk o.val w then acceptCmd src o.val w t
      else refusedWord o.val w t

/-- A withdrawal of a source's command (R218), refused like a command (R220). -/
def withdraw (src : Fin 16) (o : Nat) (w : Word) (s : State) : State :=
  match s.outCfg o with
  | none => refuseCmd 0x600A src.val o w s
  | some r =>
    if !r.permits src.val then refuseCmd 0x600B src.val o w s
    else modOut (s.leadOut o) (fun x => { x with fresh := x.fresh.set src .wdraw }) s

/-- The escalation of an output, or of the group it leads, ends: the reason bits of ESC_END (Table 8.11). -/
def endEscalation (o : Nat) (bits : Nat) (s : State) : State :=
  if (s.out o).esc then
    logEv 0x6004 3 (locOut o) (BitVec.ofNat 64 bits)
      ((s.groupOut o).foldl (fun s j => modOut j (fun x => { x with esc := false, escLeft := 0, escUntil := false }) s) s)
  else s

/-- A write to HURDLE_OUT_CTRL: WDRAW and ESCCLR act each under its own permission (R217, R218, R235); in the slot of an
output without a record a source's write is a command that is refused (R220). [log 128 DEDUCED] -/
def outCtrlWrite (rq : Requester) (o : Nat) (v : Word) (s : State) : State :=
  if !outNumber o || decide (4 ≤ v.toNat) then reservedWrite rq (outAddr o 4) s
  else
    let s := match sourceOf rq with
      | none => if bit v 0 then setErr .hurdle 1 s else s
      | some src => if bit v 0 ∨ (s.outCfg o).isNone then withdraw src o v s else s
    if bit v 1 then
      if rq ≠ .keeper then setErr .hurdle 1 s
      else if (s.outCfg o).isNone then s
      else endEscalation (s.leadOut o) 1 s
    else s

/-- WDRAW: a write of 1 to OUT_CTRL.WDRAW (R218). -/
def doWdraw (rq : Requester) (o : Fin 448) (s : State) : State := outCtrlWrite rq o.val 1 s

/-- ESCCLR: a write of 1 to OUT_CTRL.ESCCLR (R235). -/
def doEscclr (rq : Requester) (o : Fin 448) (s : State) : State := outCtrlWrite rq o.val 2 s

/-- DELAYED_CMD_RELEASE: a held solenoid command enters arbitration as a command of its source for its tick; a direct
command of the source for that tick stands (R136). -/
def doDelayedCmdRelease (k src : Fin 16) (s : State) : State :=
  match (s.sol.ch[k]).delayed[src] with
  | none => s
  | some d =>
    if d.tick ≤ s.intakeTick then
      let s := modSol k (fun c => { c with delayed := c.delayed.set src none }) s
      modOut (96 + k.val) (fun x => if x.fresh[src] = .none then { x with fresh := x.fresh.set src (.cmd d.word) } else x) s
    else s

/-- All commands a source wrote that belong to the tick are discarded, delayed ones released for it too (R47, R48, R50).
[log 144 DESIGN CHOICE] -/
def discardFresh (src : Fin 16) (s : State) : State :=
  mapOuts (fun _ x => { x with fresh := x.fresh.set src .none }) s

/-- A source loses its commands: those that stand and those of the tick (R218, R274). -/
def voidSource (src : Fin 16) (s : State) : State :=
  mapOuts (fun _ x => { x with fresh := x.fresh.set src .none, cmds := x.cmds.set src none }) s

/-! ### Liveness -/

/-- A source is live for an output in this tick (Table 2.3). -/
def State.live (s : State) (src o : Nat) : Bool :=
  match src with
  | 1 => s.core.shepherdUp && s.core.absentTick != s.tick.executed
  | 2 => s.tick.tc[0] == .waiting
  | 3 => s.tick.tc[1] == .waiting
  | 4 => s.tick.tc[2] == .waiting
  | 5 => s.tick.tc[3] == .waiting
  | 6 => (s.out (s.leadOut o)).peer.isSome
  | 7 => getNat s.hurdle.mapLive o false
  | _ => true

/-- The source keeps its commands while it is absent: the tick cores (R218). -/
def keepsWhenAbsent (src : Nat) : Bool := decide (2 ≤ src ∧ src ≤ 5)

/-- The intake of the tick closes: commands and withdrawals take effect, and sources that are absent lose theirs (R45,
R218). -/
def intakeOut (s : State) (o : Nat) (x : OutState) : OutState :=
  { x with cmds := Vector.ofFn fun src : Fin 16 =>
      if !s.live src.val o && !keepsWhenAbsent src.val then none
      else match x.fresh[src] with
        | .cmd w => some w
        | .wdraw => none
        | .none => x.cmds[src] }

/-- An absent source loses the delayed commands it holds on a driver (R136). -/
def dropDelayed (s : State) (k : Fin 16) (c : SolState) : SolState :=
  { c with delayed := Vector.ofFn fun src : Fin 16 => if s.live src.val (96 + k.val) then c.delayed[src] else none }

/-- The command that the blocks of the tick map to an output reaches arbitration: the last field with a command gives it,
and blocks without one withdraw source 6 (R388). -/
def peerCmd (o : Nat) (s : State) : State :=
  match (s.out o).peer with
  | some (some w) => deliverCmd 6 o w s
  | some none => withdraw 6 o 0 s
  | none => s

/-- Intake of every output and driver. -/
def closeIntake (s : State) : State :=
  { s with
    hurdle := { s.hurdle with out := mapUnits s.hurdle.out fun o x => intakeOut s o.val x }
    sol := { s.sol with ch := mapUnits s.sol.ch fun k c => dropDelayed s k c } }

/-- The command a source holds for an output (R219): a pattern engine's computed level while it runs. -/
def State.cmdOf (s : State) (src o : Nat) : Option Word :=
  if s.live src o then
    if h : 9 ≤ src ∧ src ≤ 12 then patternCmd (s.led.pe[src - 9]) o
    else getNat (s.out o).cmds src none
  else none

/-- The governing source renews its command for the output (Table 2.3): a tick core by finishing its program, another
source by a new command, an always-live source by holding one. -/
def State.renews (s : State) (src o : Nat) : Bool :=
  (s.cmdOf src o).isSome &&
  (if src = 1 ∨ src = 6 ∨ src = 7 then
     match getNat (s.out o).fresh src .none with
     | .cmd _ => true
     | _ => false
   else true)

/-! ### Arbitration -/

/-- Nearness to rest as a number, the nearest least (Table 8.4, R167). -/
def nearKey (o : Nat) (rest w : Word) : Nat :=
  if o < 96 then b01 (w != rest)
  else if o < 112 then
    if w = rest then 0
    else if solOp w = 2 then 1
    else if solOp w = 0 then 2
    else 3 + w.toNat
  else
    let l := lampLevel w
    let d := ((l : Int) - lampLevel rest).natAbs
    (d * 2 ^ 12 + l) * 2 ^ 16 + (65535 - lampFade w)

/-- The commands at the top priority, in ascending source ID; the rest pattern alone at priority 0 (R221). -/
def State.topSet (s : State) (o : Nat) : Nat × List (Nat × Word) :=
  match s.outCfg o with
  | none => (0, [])
  | some r =>
    let have_ := (List.range 16).flatMap fun src =>
      (r.sources.filter fun x => x.1 == src).filterMap fun x => (s.cmdOf src o).map fun w => (x.2, src, w)
    let best := have_.foldl (fun m x => max m x.1) 0
    if best = 0 then (0, [(0, s.restWord o)])
    else (best, (have_.filter fun x => x.1 == best).map fun x => x.2)

/-- The command nearest to rest among those of a set, and the lowest source that holds it (R222). -/
def nearestOf (o : Nat) (rest : Word) (l : List (Nat × Word)) : Nat × Word :=
  l.tail.foldl (fun b x => if nearKey o rest x.2 < nearKey o rest b.2 then x else b) (l.headD (0, rest))

/-- The set holds two or more different commands. -/
def differs (l : List (Nat × Word)) : Bool := l.any fun x => x.2 != (l.headD (0, 0)).2

/-- The entries of a conflict, written when the set of disagreeing commands arises or changes (R223). -/
def logConflict (o : Nat) (l : List (Nat × Word)) (prio : Nat) (win : Nat × Word) (s : State) : State :=
  if (s.out o).conflict ∧ (s.out o).conflictSet = l then s
  else
    let s := logEv 0x6008 3 (locOut o)
      (pack64 [(0, win.1), (4, prio), (8, l.length % 16), (32, win.2.toNat)]) s
    let s := (l.filter fun x => x.2 != win.2).foldl
      (fun s x => logEv 0x6009 3 (locOut o) (pack64 [(0, x.1), (32, x.2.toNat)]) s) s
    let s := bump .hurdle 0x020 0 1 { s with hurdle := { s.hurdle with conflicts := satInc s.hurdle.conflicts } }
    setIrq .hurdle 5 (sysFlag 2 (modOut o (fun x => { x with conflict := true, conflictSet := l }) s))

/-- The sources that have a command for an output, one bit each; the rest pattern always has one (Table 8.16). -/
def State.srcMask (s : State) (o : Nat) : Nat :=
  match s.outCfg o with
  | none => 0
  | some r => (((List.range 16).filter fun src => src != 0 && r.permits src && (s.cmdOf src o).isSome).map (2 ^ ·)).sum + 1

/-- The command committed in HOLD: the substitute's, or the held one while there is none (R54, R181). -/
def State.holdWord (s : State) (o : Nat) (r : OutCfg) (held : Word) : Word × Bool :=
  if h : 1 ≤ r.subst ∧ r.subst ≤ 4 then
    match patternCmd (s.led.pe[r.subst - 1]) o with
    | some w => (w, true)
    | none => (held, false)
  else (held, false)

/-- The hold-over state of an output at the envelope phase (Table 2.4): the governing source, the priority and the command
that won arbitration are given. With H = 0 an output whose source falls absent enters HOLD and leaves it for REST at the
same commit, with both entries. [log 129 DEDUCED] -/
def holdover (s : State) (o : Nat) (r : OutCfg) (prio : Nat) (win : Nat × Word) : Pending :=
  let x := s.out o
  let base : Pending :=
    { cand := win.2, word := win.2, hold := .live, c := 0, gov := win.1, prio := prio, held := win.2
      expired := false, fell := 0, expiring := false, enters := none, exits := none, srcs := s.srcMask o
      clip := none, escNew := false, noFade := false }
  let rest := s.restWord o
  let inRest : Pending := { base with
    cand := rest, word := rest, hold := .rest, c := 0, gov := 0, prio := 0, held := x.held, noFade := true }
  let inHold := fun (c : Nat) (enters : Option Nat) =>
    if c < r.hold then
      let (w, sub) := s.holdWord o r x.held
      { base with cand := w, word := w, hold := .hold, c := c + 1, gov := x.gov, prio := x.prio, held := x.held
                  enters := enters, noFade := sub }
    else
      { base with cand := rest, word := rest, hold := .hold, c := c, gov := x.gov, prio := x.prio, held := x.held
                  fell := x.gov, expiring := true, enters := enters, noFade := true }
  if x.changed then inRest
  else if x.forceRest then { inHold r.hold none with c := x.c }
  else
    match x.hold with
    | .live => if s.live x.gov o || decide (x.prio < prio) then base else inHold 0 (some x.gov)
    | .hold =>
      if decide (x.prio < prio) || s.renews x.gov o then { base with exits := some x.gov } else inHold x.c none
    | .rest =>
      if win.1 ≠ 0 then { base with exits := if x.expired then some x.fell else none }
      else { inRest with expired := x.expired, fell := x.fell }

/-- Arbitration of one output (R221): its candidate, hold-over state and conflict report. -/
def arbitrate (o : Nat) (s : State) : State :=
  match s.outCfg o with
  | none => s
  | some r =>
    let (prio, l) := s.topSet o
    let win := nearestOf o (s.restWord o) l
    let p := holdover s o r prio win
    let s :=
      if differs l ∧ !(s.out o).changed then logConflict o l prio win s
      else modOut o (fun x => { x with conflict := false, conflictSet := [] }) s
    modOut o (fun x => { x with next := some p }) s

/-- The members of a group take the leader's record (R90, R92); what TICK_HOLDSTAT shows of them stands until the commit
mark (R58). [log 24 DEDUCED] -/
def copyGroups (s : State) : State :=
  mapOuts (fun o x => if s.leadOut o = o then x else
    { s.out (s.leadOut o) with hold := x.hold, c := x.c, gov := x.gov, run := x.run, runOver := x.runOver }) s

/-- The transitions of one kind, grouped by source: one entry each with the number of outputs and the lowest (R57). -/
def logHold (code sev irq : Nat) (f : Pending → Option Nat) (s : State) : State :=
  (List.range 16).foldl (fun s src =>
    let l := s.outputs.filter fun o => match (s.out o).next with
      | some p => f p == some src
      | none => false
    match l with
    | [] => s
    | o :: _ =>
      let s := logEv code sev (locTile 0 10) (pack64 [(0, src), (8, l.length), (32, o)]) s
      if irq < 32 then setIrq .tick irq s else s) s

/-- The source of an expiry that is still to be entered, among the sources chosen. -/
def Pending.expires (which : Nat → Bool) (p : Pending) : Option Nat :=
  if p.expiring && which p.fell then some p.fell else none

/-- The output enters REST by expiry at this commit mark (R52); its count c stays at H until the next commit in REST.
[log 129 DEDUCED] -/
def Pending.expire (which : Nat → Bool) (p : Pending) : Pending :=
  if (p.expires which).isSome then
    { p with hold := .rest, expired := true, expiring := false, gov := 0, prio := 0 }
  else p

/-- The outputs whose hold limit is reached leave HOLD for REST (R52), one entry per source (R57). -/
def expireHold (which : Nat → Bool) (s : State) : State :=
  let s := logHold 0x1005 5 3 (Pending.expires which) s
  mapOuts (fun _ x => { x with next := x.next.map (Pending.expire which) }) s

/-- HOLD_EXPIRE: the outputs that a source brought into HOLD and whose count has reached H enter REST at this commit
(R52, R57). -/
def doHoldExpire (src : Fin 16) (s : State) : State := expireHold (fun n => n == src.val) s

end Sys2Proof.Machine
end

