-- ==== Sys2Proof/Machine/Aes.lean ====
section
/-! DEFINITION. AES-128 and AES-256 (FIPS 197), CMAC and counter mode (SP 800-38A, SP 800-38B), and the counter-mode key
derivation of SP 800-108, as the key core and the fabric's tag unit use them (R366, R441, R469, R471). -/

namespace Sys2Proof.Machine

/-- Multiplication by x in GF(2^8). -/
def xtime (a : Byte) : Byte := (a <<< 1) ^^^ (if a.msb then 0x1B#8 else 0#8)

/-- Multiplication in GF(2^8), by the low `n` bits of `b`. -/
def gmul : Nat → Byte → Byte → Byte
  | 0, _, _ => 0
  | n + 1, a, b => (if b.getLsbD 0 then a else 0) ^^^ gmul n (xtime a) (b >>> 1)

/-- The inverse in GF(2^8), a^254; 0 for 0. -/
def ginv (a : Byte) : Byte :=
  let m := gmul 8
  let a2 := m a a
  let a3 := m a2 a
  let a6 := m a3 a3
  let a7 := m a6 a
  let a14 := m a7 a7
  let a15 := m a14 a
  let a30 := m a15 a15
  let a31 := m a30 a
  let a62 := m a31 a31
  let a63 := m a62 a
  let a126 := m a63 a63
  let a127 := m a126 a
  m a127 a127

/-- The S-box. -/
def sbox (a : Byte) : Byte :=
  let i := ginv a
  i ^^^ i.rotateLeft 1 ^^^ i.rotateLeft 2 ^^^ i.rotateLeft 3 ^^^ i.rotateLeft 4 ^^^ 0x63#8

/-- Bytes combined by exclusive or. -/
def xorBytes (a b : List Byte) : List Byte := (a.zip b).map fun x => x.1 ^^^ x.2

/-- The next word of the key schedule; `w` holds the words so far newest first, `nk` the words of the key. -/
def keyWord (nk i : Nat) (rcon : Byte) (w : List (List Byte)) : List Byte :=
  let prev := w.headD []
  let t :=
    if i % nk = 0 then
      match prev.map sbox with
      | [a, b, c, d] => [b ^^^ rcon, c, d, a]
      | l => l
    else if nk = 8 ∧ i % nk = 4 then prev.map sbox
    else prev
  xorBytes (w.getD (nk - 1) []) t

/-- The key schedule: `n` further words. -/
def keyExpand (nk : Nat) : Nat → Nat → Byte → List (List Byte) → List (List Byte)
  | 0, _, _, w => w.reverse
  | n + 1, i, rcon, w => keyExpand nk n (i + 1) (if i % nk = 0 then xtime rcon else rcon) (keyWord nk i rcon w :: w)

/-- The words of a key, four bytes each. -/
def wordsOf4 (bs : List Byte) : List (List Byte) := (List.range (bs.length / 4)).map fun i => slice bs (4 * i) 4

/-- The round keys of 16 bytes of a key of 16 or 32 bytes. -/
def roundKeys (key : List Byte) : List (List Byte) :=
  let nk := key.length / 4
  let rounds := nk + 6
  let w := keyExpand nk (4 * (rounds + 1) - nk) nk 1 (wordsOf4 key).reverse
  (List.range (rounds + 1)).map fun r => ((w.drop (4 * r)).take 4).flatten

/-- ShiftRows on a state of 16 bytes in column order. -/
def shiftRows (s : List Byte) : List Byte := (List.range 16).map fun i => byteAt s ((i + 4 * (i % 4)) % 16)

/-- MixColumns on one column. -/
def mixColumn (c : List Byte) : List Byte :=
  (List.range 4).map fun i =>
    let b := fun j => byteAt c ((i + j) % 4)
    xtime (b 0) ^^^ (xtime (b 1) ^^^ b 1) ^^^ b 2 ^^^ b 3

/-- MixColumns. -/
def mixColumns (s : List Byte) : List Byte := (wordsOf4 s).flatMap mixColumn

/-- One block encrypted. -/
def aesBlock (key block : List Byte) : List Byte :=
  let rk := roundKeys key
  let s := xorBytes block (rk.headD [])
  let s := ((rk.drop 1).dropLast).foldl (fun s k => xorBytes (mixColumns (shiftRows (s.map sbox))) k) s
  xorBytes (shiftRows (s.map sbox)) (rk.getLastD [])

/-- A block of 16 bytes shifted left by one bit in GF(2^128). -/
def dbl (b : List Byte) : List Byte :=
  let n := ofBe b
  beBytes 16 ((2 * n) % 2 ^ 128 ^^^ (if 2 ^ 127 ≤ n then 0x87 else 0))

/-- AES-CMAC, 16 bytes. -/
def cmac (key msg : List Byte) : List Byte :=
  let k1 := dbl (aesBlock key (List.replicate 16 0))
  let k2 := dbl k1
  let n := (msg.length + 15) / 16
  let full := decide (0 < msg.length ∧ msg.length % 16 = 0)
  let last := if full then xorBytes (msg.drop (16 * (n - 1))) k1
    else
      let r := msg.drop (16 * (msg.length / 16))
      xorBytes (r ++ 0x80#8 :: List.replicate (15 - r.length) 0#8) k2
  let head := (List.range ((if full then n else msg.length / 16 + 1) - 1)).map fun i => slice msg (16 * i) 16
  (head ++ [last]).foldl (fun c b => aesBlock key (xorBytes c b)) (List.replicate 16 0)

/-- Counter mode: the counter is a number of 128 bits, highest byte first, that rises by one per block.
[log 84 PRESUMED] -/
def aesCtr (key ctr data : List Byte) : List Byte :=
  (List.range ((data.length + 15) / 16)).flatMap fun i =>
    xorBytes ((data.drop (16 * i)).take 16) (aesBlock key (beBytes 16 ((ofBe ctr + i) % 2 ^ 128)))

/-- SP 800-108 in counter mode with CMAC, one block of 128 bits: a counter of 32 bits, the label, a zero byte, the
context, and the length in bits. [log 84 PRESUMED] -/
def kdf (key label context : List Byte) : List Byte :=
  cmac key (beBytes 4 1 ++ label ++ [0] ++ context ++ beBytes 4 128)

end Sys2Proof.Machine
end

