-- ==== Sys2Proof/Machine/Hurdle.lean ====
section
/-! DEFINITION. The Hurdle envelope: the checks of each output, interlocks, shedding, escalation and the clip reports. -/

namespace Sys2Proof.Machine

/-- The result in work for an output. -/
def State.nextOf (s : State) (o : Nat) : Pending := (s.out o).next.getD default

/-- Rewrite the result in work of an output. -/
def modNext (o : Nat) (f : Pending → Pending) (s : State) : State := modOut o (fun x => { x with next := x.next.map f }) s

/-- The records of one kind for an output, with their indices in the table. -/
def Image.recsOf (g : Image) (o kind : Nat) : List (HurdleRec × Nat) :=
  g.recs.zipIdx.filter fun x => x.1.out == o && x.1.kind == kind

/-- The candidate of an output is on. -/
def State.candOn (s : State) (o : Nat) : Bool := wordOn o (s.nextOf o).word

/-- The candidate is a turn-on (R228). -/
def State.turnOn (s : State) (o : Nat) : Bool := s.candOn o && !(s.out o).on

/-- A record clips an output: its candidate becomes off (R227). -/
def clipBy (o i : Nat) (r : HurdleRec) (s : State) : State :=
  modNext o (fun p => { p with word := clipWord o p.word, clip := some (i, r.kind), escNew := p.escNew || r.esc }) s

/-- The number of true entries among the last `n` commits. -/
def countLast (l : List Bool) (n : Nat) : Nat := ((l.take n).filter id).length

/-- The input an INPUT record names: its filtered state, BROKEN, and the die it lies on (Table 8.7). -/
def State.inputOf (s : State) (p1 : Nat) : Bool × Bool × Nat :=
  let n := p1 % 65536
  if n < 256 then
    let d := (getNat s.din.ch n default).snap
    (d.state, d.broken, 3)
  else ((getNat s.hsw.inp (n - 256) default).snap.state, false, hsDie (n - 256))

/-- Consecutive stale sample marks of a die. -/
def State.staleRun (s : State) (die : Nat) : Nat := getNat s.tick.staleRun die 0

/-- The condition of an INPUT record is met (R231). -/
def State.inputMet (s : State) (r : HurdleRec) : Bool :=
  let (st, broken, die) := s.inputOf r.p1
  decide (s.staleRun die < 2) && (st == r.p1.testBit 16) && !broken

/-- An output as the Hurdle counts it: after a changed assignment its timers and windows start afresh (Table 3.19). -/
def State.counted (s : State) (o : Nat) : OutState :=
  let x := s.out o
  if x.changed then { x with nOn := 0, nOff := 0, histOn := [], histTurn := [] } else x

/-- A record clips the on candidate of its output (Table 8.8). -/
def State.violates (s : State) (o : Nat) (r : HurdleRec) : Bool :=
  let x := s.counted o
  match r.kind with
  | 1 => decide (r.p1 ≤ x.nOn) || x.onLatched
  | 2 => s.turnOn o && decide (x.nOff < r.p1)
  | 3 => s.turnOn o && decide (r.p1 ≤ countLast x.histTurn (r.p2 - 1))
  | 4 => decide (r.p1 ≤ countLast x.histOn (r.p2 - 1))
  | 6 => !s.inputMet r
  | _ => false

/-- The condition of an INPUT record is not met for staleness (R231). -/
def State.staleRec (s : State) (r : HurdleRec) : Bool := r.kind == 6 && decide (2 ≤ s.staleRun (s.inputOf r.p1).2.2)

/-- An INPUT condition that is not met for staleness is reported once per run, whatever the candidate of its output
(R231). -/
def reportStale (x : HurdleRec × Nat) (s : State) : State :=
  if s.staleRec x.1 && !s.hurdle.staleRecs.contains x.2 then
    logEv 0x600C 4 (locOut (s.leadOut x.1.out)) (pack64 [(0, x.2), (16, x.1.p1 % 65536)])
      { s with hurdle := { s.hurdle with staleRecs := x.2 :: s.hurdle.staleRecs } }
  else s

/-- One record of step 1: the first clip ends the output's step (R232). An ONTIME clip is latched (R229). -/
def checkRec (o : Nat) (x : HurdleRec × Nat) (s : State) : State :=
  if (s.nextOf o).clip.isSome then s
  else
    if s.violates o x.1 then
      let s := if x.1.kind = 1 then modOut o (fun y => { y with onLatched := true }) s else s
      clipBy o x.2 x.1 s
    else s

/-- Step 1 of the Hurdle for one output: an escalated output's candidate is its rest value (R235); then INPUT, OFFTIME,
ONTIME, RATE and DUTY (R232). -/
def hurdleStep1 (o : Nat) (s : State) : State :=
  let rest := s.restWord o
  let s := if (s.out o).esc then modNext o (fun p => { p with cand := rest, word := rest, noFade := true }) s else s
  if s.candOn o then
    ([6, 2, 1, 3, 4].flatMap fun k => s.cfg.recsOf o k).foldl (fun s x => checkRec o x s) s
  else modOut o (fun y => { y with onLatched := false }) s

/-- Step 2, one INTERLOCK record (R230). [log 30 DEDUCED] -/
def interlock (x : HurdleRec × Nat) (s : State) : State :=
  let r := x.1
  let a := r.out
  let b := r.p1 % 65536
  let dead := r.p1 / 65536 % 256
  let turnA := s.turnOn a
  let turnB := s.turnOn b
  let both := s.candOn a && s.candOn b
  let restA := sameValue a (s.nextOf a).word (s.restWord a)
  let restB := sameValue b (s.nextOf b).word (s.restWord b)
  let onA := (s.out a).on
  let onB := (s.out b).on
  let clipA := both && !restA && (restB || !(onA && !onB))
  let clipB := both && !restB && (restA || !(onB && !onA))
  let deadA := turnA && decide ((s.counted b).nOff < dead)
  let deadB := turnB && decide ((s.counted a).nOff < dead)
  let s := if clipA || deadA then clipBy a x.2 r s else s
  if clipB || deadB then clipBy b x.2 r s else s

/-- Step 2 of the Hurdle: INTERLOCK records in record order (R232). -/
def hurdleStep2 (s : State) : State :=
  (s.cfg.recs.zipIdx.filter fun x => x.1.kind == 5).foldl (fun s x => interlock x s) s

/-! ### Shedding -/

/-- The SHED records in ascending rank. -/
def Image.shedRecs (g : Image) : List (HurdleRec × Nat) :=
  (List.range 256).flatMap fun r => g.recs.zipIdx.filter fun x => x.1.kind == 7 && x.1.p1 % 256 == r

/-- An output's share of the estimate in mW, summed over its group (R233). -/
def State.share (s : State) (o : Nat) : Nat := ((s.groupOut o).map fun j => (getNat s.hsw.ch j default).pdiss).sum

/-- An amount of mW shown in 10 mW, limited to 16 bits. [log 5 DESIGN CHOICE] -/
def tenMw (mw : Nat) : Nat := min 65535 (Config.rounded mw 10)

/-- One ranked output joins the shed set while the estimate exceeds the limit (R233). [log 29 DEDUCED] -/
def shedOne (x : HurdleRec × Nat) (se : State × Nat × Bool) : State × Nat × Bool :=
  let (s, e, _) := se
  let o := x.1.out
  let y := s.out o
  if s.hsw.limit.toNat * 10 < e ∧ y.on ∧ !y.shed ∧ s.candOn o then
    let sh := s.share o
    let s := modOut o (fun y => { y with shed := true, shedShare := sh, shedFor := 0 }) s
    let s := logEv 0x6005 4 (locOut o)
      (pack64 [(0, x.1.p1 % 256), (16, min sh 65535), (32, tenMw e), (48, s.hsw.limit.toNat)]) s
    (setIrq .hurdle 2 s, e - sh, true)
  else se

/-- OVERBUDGET is set while no output is left to shed, and clears when the estimate fits (R233). -/
def setOverbudget (e : Nat) (s : State) : State :=
  let over_ := decide (s.hsw.limit.toNat * 10 < e)
  if over_ = s.hurdle.overbudget then s
  else
    let s := logEv 0x6007 5 (locTile 0 10)
      (pack64 [(0, b01 over_), (32, tenMw e), (48, s.hsw.limit.toNat)])
      { s with hurdle := { s.hurdle with overbudget := over_ } }
    if over_ then setIrq .hurdle 4 s else s

/-- Readmission (R234): the shed output of the highest rank that has been shed for SHEDMIN commits returns when it fits
within 0.95 of the limit, at most one in 16 ticks. -/
def readmit (s : State) : State :=
  match s.cfg.shedRecs.reverse.find? fun x => (s.out x.1.out).shed && decide (s.cfg.shedMin ≤ (s.out x.1.out).shedFor) with
  | none => s
  | some x =>
    let o := x.1.out
    let sh := (s.out o).shedShare
    if (s.hsw.estMw + sh) * 100 ≤ s.hsw.limit.toNat * 950 ∧ 16 ≤ s.hurdle.sinceReadmit then
      let s := modOut o (fun y => { y with shed := false, shedShare := 0, shedFor := 0 }) s
      let s := logEv 0x6006 2 (locOut o)
        (pack64 [(0, x.1.p1 % 256), (16, min sh 65535), (32, tenMw s.hsw.estMw)]) s
      setIrq .hurdle 3 { s with hurdle := { s.hurdle with sinceReadmit := 0 } }
    else s

/-- Step 3 of the Hurdle: shedding, OVERBUDGET, readmission, and the clip of every shed output (R232 to R234). -/
def hurdleStep3 (s : State) : State :=
  let (s, e, joined) := s.cfg.shedRecs.foldl (fun se x => shedOne x se) (s, s.hsw.estMw, false)
  let s := setOverbudget e s
  let s := if joined then s else readmit s
  s.cfg.shedRecs.foldl (fun s x =>
    if (s.out x.1.out).shed && s.candOn x.1.out then clipBy x.1.out x.2 x.1 s else s) s

/-! ### Escalation and clip reports -/

/-- An output clipped by a record with ESC is escalated (R235). -/
def escalate (o : Nat) (s : State) : State :=
  let p := s.nextOf o
  match p.clip with
  | some (i, _) =>
    if p.escNew ∧ !(s.out o).esc then
      let t := (s.cfg.recs.getD i default).escTime
      let s := modOut o (fun x => { x with esc := true, escLeft := t, escUntil := decide (t = 0) }) s
      let s := bump .hurdle 0x024 16 1 { s with hurdle := { s.hurdle with escs := satInc s.hurdle.escs } }
      setIrq .hurdle 1 (logEv 0x6003 5 (locOut o) (pack64 [(0, i), (16, t)]) s)
    else s
  | none => s

/-- The clip run of an output at this commit (R237): a SHED clip starts none, and a run is one of the same record.
[log 136 DEDUCED] -/
def clipReport (o : Nat) (s : State) : State :=
  let x := s.out o
  let p := s.nextOf o
  let new : Option (Nat × Nat) := match p.clip with
    | some (i, k) => if k = 7 ∨ s.leadOut o ≠ o then none else some (i, k)
    | none => none
  let old := x.run.map (·.1)
  if old = new.map (·.1) ∧ !x.runOver then modOut o (fun x => { x with run := x.run.map fun r => (r.1, r.2 + 1) }) s
  else
    let s := modOut o (fun x => { x with runOver := false }) s
    let s := match x.run with
      | some (i, n) => logEv 0x6002 2 (locOut o) (pack64 [(0, i), (32, min n 16777215)]) s
      | none => s
    match new with
    | some (i, k) =>
      let s := logEv 0x6001 3 (locOut o) (pack64 [(0, i), (12, k), (32, p.cand.toNat)]) s
      let s := bump .hurdle 0x024 0 1 { s with hurdle := { s.hurdle with clipRuns := satInc s.hurdle.clipRuns } }
      setIrq .hurdle 0 (modOut o (fun x => { x with run := some (i, 1) }) s)
    | none => modOut o (fun x => { x with run := none }) s

/-- The die that carries an output (Table 1.3). -/
def outDie (o : Nat) : Nat := if o < 96 then hsDie o else 3

/-- The control die commands the outputs of a die that missed the swap flag to their rest values (R85). -/
def restLagging (o : Nat) (s : State) : State :=
  if getNat s.hurdle.lag (outDie o) false then
    let rest := s.restWord o
    modNext o (fun p => { p with cand := rest, word := rest, clip := none, escNew := false, noFade := true }) s
  else s

/-- The outputs that arbitration and the Hurdle treat: those with a record that lead their group. -/
def State.leaders (s : State) : List Nat := s.outputs.filter fun o => s.leadOut o == o

/-- The outputs of which a clip run is reported: those the Hurdle treats, and those with a run that a swap has ended. -/
def State.clipped (s : State) : List Nat :=
  (List.range 256).filter fun o => ((s.outCfg o).isSome && s.leadOut o == o) || ((s.out o).run.isSome && (s.out o).runOver)

/-- The Hurdle runs over the candidates of the tick; those of a die that missed the swap flag are rest values, which no record
clips (R85, R232, R235, R237). -/
def hurdle (s : State) : State :=
  let s := { s with hurdle := { s.hurdle with
    staleRecs := s.hurdle.staleRecs.filter fun i => decide (s.staleRun (s.inputOf (s.cfg.recs.getD i default).p1).2.2 ≠ 0) } }
  let s := s.cfg.recs.zipIdx.foldl (fun s x => reportStale x s) s
  let s := s.leaders.foldl (fun s o => hurdleStep1 o s) s
  let s := hurdleStep3 (hurdleStep2 s)
  let s := s.leaders.foldl (fun s o => restLagging o s) s
  let s := s.leaders.foldl (fun s o => escalate o s) s
  s.clipped.foldl (fun s o => clipReport o s) s

/-- ESC_END: a timed escalation has run for its commits (R235); a group's escalation is its leader's (R241). -/
def doEscEnd (o : Fin 256) (s : State) : State :=
  let l := s.leadOut o.val
  let x := s.out l
  if x.esc ∧ !x.escUntil ∧ x.escLeft = 0 then endEscalation l 0 s else s

/-! ### Commit of one output -/

/-- The result of the envelope phase takes effect on an output's registers, counts and windows, which start afresh at this
commit after a changed assignment (R58, R228, Table 3.19). -/
def outCommit (o : Nat) (x : OutState) : OutState :=
  match x.next with
  | none => x
  | some p =>
    let on := wordOn o p.word
    let x := if x.changed then { x with nOn := 0, nOff := 0, histOn := [], histTurn := [] } else x
    { x with
      hold := p.hold, c := p.c, gov := p.gov, prio := p.prio, held := p.held, expired := p.expired, fell := p.fell
      forceRest := false, changed := false, commit := p.word, on := on
      nOn := if on then min (x.nOn + 1) 16777215 else 0
      nOff := if on then 0 else min (x.nOff + 1) 16777215
      histOn := (on :: x.histOn).take 4096
      histTurn := ((on && !x.on) :: x.histTurn).take 4096
      clip := p.clip, srcs := p.srcs
      escLeft := if x.esc && !p.escNew then x.escLeft - 1 else x.escLeft
      shedFor := x.shedFor + 1
      next := none }

end Sys2Proof.Machine
end

