-- ==== Sys2Proof/Machine/FrameTick.lean ====
section
/-! DEFINITION. The frame tick: its start, its phases, the stretched tick, overruns, and the commit on the outer dies. -/

namespace Sys2Proof.Machine

/-! ### Starting a tick -/

/-- A TIME_MAP entry, stamped on TB1 with TB0 of the same cycle (R354). -/
def logTimeMap (s : State) : State :=
  tallyWrite (mkEntry s s.time.tb[1].ns (entryFlags 1 1 s.time.tb[1].oos false) 0x7005 (locTile 0 9) s.time.tb[0].ns)
    { s with time := { s.time with mapTicks := 0 } }

/-- The driving base becomes TB1 or TB0 (R36): TICK_SOURCE, and a time map (R354). -/
def takeSource (src : Bool) (s : State) : State :=
  if s.tick.src = src then s
  else
    let s := { s with tick := { s.tick with src := src } }
    logTimeMap (logEv 0x1007 3 (locTile 0 9) (pack64 [(0, b01 src)]) s)

/-- Tick number `n` begins at the instant that the driving base reads `start` (R36). -/
def beginTick (n start : Nat) (s : State) : State :=
  { s with
    tick := { s.tick with
      count := BitVec.ofNat 64 n, startDrv := BitVec.ofNat 64 start, startTb0 := BitVec.ofNat 64 s.tb0
      lastCount := s.tick.count, stepSum := 0
      phase := .begun, stepped := false, executed := s.tick.executed + 1 }
    din := { s.din with sampleIdx := 0 }
    time := { s.time with mapTicks := s.time.mapTicks + 1 }
    hurdle := { s.hurdle with
      peerRx := Vector.replicate 65 false, out := s.hurdle.out.map fun x => { x with peer := none } } }

/-- Tick number `n` begins when the driving base reads n × T, moved by the jitter of the perturbation tile (R36, R528). -/
def startTick (n : Nat) (s : State) : State :=
  let s := pertTick s
  let start := ((n * s.T : Int) + s.pert.jit).toNat
  beginTick n start (burstAll (passToNs start s))

/-- The next multiple of T of the driving base: the one that it reached in this cycle, otherwise the one after its
reading. -/
def State.nextTick (s : State) : Nat :=
  let q := s.T * 2 ^ 32
  if s.drv.value.toNat % q < s.drv.inc then s.drv.value.toNat / q else s.drv.value.toNat / q + 1

/-! ### What an update does at tick boundaries -/

/-- The update engine's tile (R527). -/
def locUpd : Word := locTile 0 18

/-- The boot record of an activation or a fallback is due and not yet written: in tick a − 1 or f − 1 (R517, R518,
R523). -/
def State.recordDue (s : State) : Bool :=
  let u := s.upd
  !u.written && ((u.state == .scheduled && u.armed.toNat == s.tick.count.toNat + 1) ||
    (u.state == .trial && decide (u.fAt ≤ s.tick.executed + 1)))

/-- The tick that begins is that of the activation or the fallback whose boot record has been written. -/
def State.activationDue (s : State) : Bool :=
  let u := s.upd
  u.written && s.tick.phase == .begun &&
    ((u.state == .scheduled && u.armed == s.tick.count) || (u.state == .trial && decide (u.fAt ≤ s.tick.executed)))

/-- A scheduled activation is aborted with a cause of Table 20.10. [log 90 DEDUCED] -/
def actAbort (cause : Nat) (s : State) : State :=
  if s.upd.state = .scheduled then
    logEv 0xE006 4 locUpd (pack64 [(0, cause)])
      { s with upd := { s.upd with state := .verified, restart := false, sending := false, written := false } }
  else s

/-- TICK_START: the tick generator starts the next tick when the driving base reads its multiple of T (R36). The first
tick of a start takes the next multiple of the base that is to drive. While the driving base has jumped, the tick is
stretched instead (R38). The boot record of an activation or a fallback comes before the tick it announces. -/
def doTickStart (s : State) : State :=
  if !s.strct.inForce then s
  else
    match s.tick.phase with
    | .off =>
      let s := takeSource s.wantsTb1 s
      let n := s.nextTick
      startTick n s
    | .guard =>
      if s.jumping ∨ s.recordDue then s
      else
        startTick (s.tick.count.toNat + 1) s
    | _ => s

/-- A scheduled swap, and a scheduled activation, is cancelled when the tick number jumps (R81, Table 20.5); an activation whose
boot record is written can no longer be stopped and takes place in the tick that begins (R517). [log 90 DEDUCED] -/
def swapJump (old new : Nat) (s : State) : State :=
  if s.upd.state = .scheduled ∧ s.upd.written then
    { s with upd := { s.upd with armed := BitVec.ofNat 64 new }, strct := { s.strct with target := BitVec.ofNat 64 new } }
  else
  let s := if new ≠ old + 1 then actAbort 2 s else s
  if s.strct.shadow = .scheduled ∧ new ≠ old + 1 then
    setIrq .strct 3 (logEv 0xE104 4 (locTile 0 0) (pack64 [(0, 2)])
      { s with strct := { s.strct with shadow := .ready } })
  else s

/-- TICK_STRETCH: the tick in progress ends on TB0; the generator waits for the next multiple of T of the base that is to
drive, and starts that tick (R38, R39). -/
def doTickStretch (s : State) : State :=
  if s.tick.phase = .guard ∧ s.jumping ∧ !s.recordDue then
    let old := s.tick.count.toNat
    let s := passTo 0 ((s.tick.startTb0.toNat + s.T) * 2 ^ 32) s
    let src := s.wantsTb1
    let n := ceilDiv (s.time.tb[if src then (1 : Fin 4) else 0]).value.toNat (s.T * 2 ^ 32)
    let s := passTo (if src then 1 else 0) (n * s.T * 2 ^ 32) s
    let s := bump .tick 0x02C 0 1 { s with tick := { s.tick with stretch := satInc s.tick.stretch } }
    let s := takeSource src s
    let s := logEv 0x1006 3 (locTile 0 9) (pack64 [(0, old % 2 ^ 32), (32, n % 2 ^ 32)]) s
    swapJump old n (startTick n (setIrq .tick 4 s))
  else s

/-! ### The core window and overruns -/

/-- The source of a tick core's commands. -/
def tcSource (k : Fin 4) : Fin 16 := ⟨2 + k.val, by omega⟩

/-- A tick core's state in the tick. -/
def setTc (k : Fin 4) (t : TcState) (s : State) : State :=
  { s with tick := { s.tick with tc := s.tick.tc.set k t } }

/-- The location code of a tick core's tile (R564). -/
def locTc (k : Nat) : Word := locTile 0 (1 + k)

/-! ### The outer dies at the commit mark -/

/-- The configuration of which a die holds its own copy: the image in force; the one before while the die has still to swap
(R85), and after a module reset until the first image takes effect (R558). [log 32 DEDUCED] -/
def State.dieImage (s : State) (die : Nat) : Image :=
  match s.strct.dies, s.strct.late with
  | some g, _ => g
  | none, some (old, _) => if getNat s.strct.lateDies die false then old else s.cfg
  | none, none => s.cfg

/-- The value a die applies to one of its outputs: the rest value of its own copy of the configuration while it holds the
rest pattern, the committed word of a valid frame, or the value it had (R30). -/
def State.dieValue (s : State) (die o : Nat) (ok : Bool) (old : Word) : Word :=
  if ok then (s.out o).commit
  else if getNat s.tick.dieRest die false then (s.dieImage die).restWord o
  else old

/-- The value of an HS channel at the commit mark: an output's word, or a feed's value (R88, R89). -/
def State.hsValue (s : State) (ok : Bool) (k : Fin 96) : Bool :=
  let h := s.hsw.ch[k]
  match s.cfg.hs[k].fn with
  | 1 => bit (s.dieValue (hsDie k.val) k.val ok (BitVec.ofNat 32 (b01 h.cmd))) 0
  | 2 => bit (s.dieValue (hsDie k.val) k.val ok (BitVec.ofNat 32 (b01 h.cmd))) 0
  | 3 => if ok then s.feedValue k.val else if getNat s.tick.dieRest (hsDie k.val) false then false else h.cmd
  | _ => false

/-- An HS channel at the commit mark, unless a row of its own has brought it there (log entry 133). -/
def hsApply (ok : Bool) (k : Fin 96) (s : State) : State :=
  if s.hsw.ch[k].done then modHs k (fun h => { h with done := false }) s
  else hsCommit k (s.hsValue ok k) s

/-- A solenoid driver at the commit mark. -/
def solApply (ok : Bool) (k : Fin 16) (s : State) : State :=
  if s.cfg.sol[k].fn = 1 then solCommit k (s.dieValue 3 (96 + k.val) ok (s.solWord k)) s else s

/-- A lamp position at the commit mark (R169 to R171); a position that is no output of the image in force is dark (R83,
R160). `was` is the dimming mode up to this commit mark. -/
def lampApply (ok noFade was : Bool) (k : Fin 128) (s : State) : State :=
  let h := s.led.pos[k]
  let w := s.dieValue 3 (128 + k.val) ok h.last
  let nf := if ok then noFade else getNat s.tick.dieRest 3 false
  let dim := dimCommit (k.val % 16) was s.led.shift
  if s.lampAt k then modPos k (fun h => dim (lampCommit w nf (s.ticksOfMs (lampFade w)) h)) s
  else modPos k (fun h => { dim (fadeStart 0 0 0 h) with eff := 0 }) s

/-- The deck-link event of a die (R30, R31). [log 7 DESIGN CHOICE] -/
def logDeck (die : Nat) (s : State) : State :=
  logEv (if Config.deckCode = 0 then 1 else Config.deckCode.toNat) Config.deckSev.toNat (locDie die) Config.deckPayload s

/-- A die receives its commit frame for the tick, or misses it; the second tick without one brings the rest pattern
(R30). [log 32 DEDUCED] -/
def dieFrame (ok : Bool) (die : Fin 5) (s : State) : State :=
  if ok then { s with tick := { s.tick with
    missed := s.tick.missed.set die 0, dieRest := s.tick.dieRest.set die false
    frameAt := s.tick.frameAt.set die s.tb0 } }
  else logDeck die.val { s with tick := { s.tick with
    missed := upd s.tick.missed die (· + 1)
    frameAt := s.tick.frameAt.set die s.tb0
    dieRest := s.tick.dieRest.set die (s.tick.dieRest[die] || decide (1 ≤ s.tick.missed[die])) } }

/-- The outputs in HOLD and in REST, and SYS_ERRSTAT.HOLDOVER (R57). -/
def holdSummary (s : State) : State :=
  let os := s.outputs
  let held := (os.filter fun o => (s.out o).hold == .hold).length
  let rest := (os.filter fun o => (s.out o).hold == .rest).length
  let flag := os.any fun o => (s.out o).hold == .hold || ((s.out o).hold == .rest && (s.out o).expired)
  let was := bit s.sys.errstat 3
  let s := { s with
    tick := { s.tick with held := held, resting := rest }
    sys := { s.sys with errstat := putBit s.sys.errstat 3 flag } }
  if flag && !was then setIrq .sys 3 s else s

/-- The dimming mode and the period offsets in force from this commit mark; a MODE entry at a start and when the mode or
N changes (R172, R177). [log 146 DESIGN CHOICE] -/
def modeCommit (s : State) : State :=
  let m := s.cfg.shiftMode
  let n := s.cfg.nstr
  let s := { s with led := { s.led with offs := Vector.ofFn fun k => s.cfg.offset k.val } }
  if s.led.modeDue ∨ m ≠ s.led.shift ∨ n ≠ s.led.nstr then
    logEv 0x400A 2 (locTile 3 2) (pack64 [(0, b01 m), (1, n)])
      { s with led := { s.led with shift := m, nstr := n, modeDue := false } }
  else s

/-- Every output commits its result (R29). -/
def commitOutputs (s : State) : State := mapOuts outCommit s

/-- The commit mark is the next instant of the tick: nothing that must come before it is due. -/
def State.commitNext (s : State) : Bool := s.tick.phase == .envelope && !(s.recordDue && s.upd.restart)

/-- The value that a channel takes at the commit mark from a valid commit frame (R88, R89, R127). -/
def State.commitValue (s : State) (j : Fin 96) : Bool :=
  ((List.finRange 16).foldl (fun s k => solApply true k s) (commitOutputs s)).hsValue true j

/-- A channel or group applies the commit mark of the tick in progress, at the same instant as all others but in a row of its
own: the value is that of a valid commit frame. [log 133 DEDUCED] -/
def hsGroupCommit (k : Fin 96) (s : State) : State :=
  let s := passInTick s.cfg.commit 64 s
  (s.cfg.members k).foldl (fun t j => modHs j (fun h => { h with done := true }) (hsCommit j (s.commitValue j) t)) s

/-- INRUSH_END: the commit mark at which the inrush phase ends and the threshold becomes OCTH (R101). COMMIT_MARK does the same
for a channel that has no row of its own. [log 133 DEDUCED] -/
def doInrushEnd (k : Fin 96) (s : State) : State :=
  let h := s.hsw.ch[s.cfg.leader k]
  if s.commitNext ∧ !h.done ∧ h.prot = .inrush ∧ h.left ≤ 1 then hsGroupCommit k s else s

/-- RETRY: the commit mark at which the pause ends; the gate turns on again, or the channel goes OFF (R104). COMMIT_MARK does
the same for a channel that has no row of its own. [log 133 DEDUCED] -/
def doRetry (k : Fin 96) (s : State) : State :=
  let h := s.hsw.ch[s.cfg.leader k]
  if s.commitNext ∧ !h.done ∧ h.prot = .pause ∧ h.left ≤ 1 then hsGroupCommit k s else s

/-- RETRY_CLEAR: the commit mark at which 5 s in INRUSH or ON without a trip clear the retry count (R105). COMMIT_MARK does
the same for a channel that has no row of its own. [log 133 DEDUCED] -/
def doRetryClear (k : Fin 96) (s : State) : State :=
  let h := s.hsw.ch[s.cfg.leader k]
  if s.commitNext ∧ !h.done ∧ (h.prot = .inrush ∨ h.prot = .on) ∧ 0 < h.r ∧ s.ticksOfMs 5000 ≤ h.clean + 1 then
    hsGroupCommit k s
  else s

/-- The valid commit frames are applied on the outer dies: drivers, feeds and channels, lamps, chain lines (R29, R88,
R127, R134, R169, R195). -/
def applyDies (ok : Vector Bool 5) (noFade : List Nat) (was : Bool) (s : State) : State :=
  let s := (List.finRange 16).foldl (fun s k => solApply ok[3] k s) s
  let s := (List.finRange 96).foldl (fun s k => hsApply (getNat ok (hsDie k.val) false) k s) s
  let s := (List.finRange 128).foldl (fun s k => lampApply ok[3] (noFade.contains (128 + k.val)) was k s) s
  { s with led := { s.led with
    commitAt := s.now
    chain := mapUnits s.led.chain fun l h =>
      if ok[3] then chainCommit s.cfg.chain[l] h
      else if s.tick.missed[3] = 2 then chainRest s.cfg.chain[l] (chainPass h)
      else chainPass h } }

/-- The outputs whose committed value is displayed without a fade. -/
def State.noFades (s : State) : List Nat := (List.range 256).filter fun o => (s.nextOf o).noFade

/-- COMMIT_MARK: the outputs of the tick take effect on the same strobe on all dies (R29, R40).
[log 108 DESIGN CHOICE] -/
def doCommitMark (ok : Vector Bool 5) (s : State) : State :=
  if s.tick.phase = .envelope then
    let s := passInTick s.cfg.commit 64 s
    let s := expireHold (fun _ => true) s
    let nf := s.noFades
    let s := commitOutputs s
    let s := [1, 2, 3, 4].foldl (fun s (d : Fin 5) => dieFrame ok[d] d s) s
    let s := applyDies ok nf s.led.shift (modeCommit s)
    let s := holdSummary s
    let s := estimate s
    let s := { s with
      tick := { s.tick with phase := .measure }
      hurdle := { s.hurdle with
        sinceReadmit := s.hurdle.sinceReadmit + 1
        stale := s.cfg.recs.any fun r => s.staleRec r
        lag := Vector.ofFn fun d => s.hurdle.lag[d] && !ok[d] } }
    raiseLine 26 s
  else s

/-- The rest pattern of its own copy of the configuration on one die (R30, R171, R197). -/
def restDie (die : Nat) (s : State) : State :=
  let g := s.dieImage die
  if die = 3 then
    let s := (List.finRange 16).foldl (fun s k => if g.sol[k].fn = 1 then solCommit k (g.restWord (96 + k.val)) s else s) s
    let s := (List.finRange 128).foldl (fun s k =>
      if g.lampAt k then
        modPos k (fun h => dimCommit (k.val % 16) s.led.shift s.led.shift (lampCommit (g.restWord (128 + k.val)) true 0 h)) s
      else s) s
    { s with led := { s.led with chain := mapUnits s.led.chain fun l h => chainRest g.chain[l] h } }
  else
    (List.finRange 96).foldl (fun s k =>
      if hsDie k.val = die then
        hsCommit k (if g.hs[k].fn = 1 ∨ g.hs[k].fn = 2 then bit (g.restWord k.val) 0 else false) s
      else s) s

/-- The ticks for which a die has had no valid commit frame: those it has counted at commit marks, and the whole ticks since
without one, as when the control die is lost (R30, R34). -/
def State.framesMissed (s : State) (die : Fin 5) : Nat :=
  s.tick.missed[die] + (s.tb0 - s.tick.frameAt[die]) / (s.dieImage die.val).periodNs

/-- A die takes part in the deck traffic: it has a configuration. -/
def State.dieServes (s : State) : Bool := s.strct.inForce || s.strct.dies.isSome

/-- The deck-link events of the ticks that a die has counted without a commit mark, up to the second (R30). -/
def logMissed (die : Nat) : Nat → State → State
  | 0, s => s
  | n + 1, s => logMissed die n (logDeck die s)

/-- DECK_REST_PATTERN: a die without a valid commit frame for two ticks applies the rest pattern and holds it until
valid frames return (R30). The commit mark of the second tick applies it by itself; when no commit mark comes, after a module
reset (R558) or with the control die lost (R34), the die counts the ticks. [log 32 DEDUCED] -/
def doDeckRestPattern (die : Fin 5) (s : State) : State :=
  if 1 ≤ die.val ∧ s.dieServes ∧ 2 ≤ s.framesMissed die ∧ !s.tick.dieRest[die] then
    let s := logMissed die.val (2 - s.tick.missed[die]) s
    let s := { s with tick := { s.tick with
      dieRest := s.tick.dieRest.set die true
      missed := s.tick.missed.set die (max 2 s.tick.missed[die])
      frameAt := s.tick.frameAt.set die s.tb0 } }
    match s.strct.dies with
    | some g => { restDie die.val { s with cfg := g } with cfg := s.cfg }
    | none => restDie die.val s
  else s

end Sys2Proof.Machine
end

