-- ==== Sys2Proof/Machine/ImageParse.lean ====
section
/-! DEFINITION. Reading a KORX image: header, directory and sections, as the values of the image (Tables 3.2 to 3.15). -/

namespace Sys2Proof.Machine

/-- A directory entry (Table 3.3). -/
structure DirEntry where
  ty : Nat
  ver : Nat
  off : Nat
  len : Nat
  rsv : Nat
  deriving DecidableEq, Repr, Inhabited

/-- LENGTH of the header. -/
def imgLength (b : List Byte) : Nat := leAt b 0x0C 4

/-- COUNT of the header, the number N of directory entries. -/
def imgCount (b : List Byte) : Nat := leAt b 0x14 1

/-- KEYSLOT of the header. -/
def imgKeySlot (b : List Byte) : Nat := leAt b 0x15 1

/-- The directory. -/
def imgDir (b : List Byte) : List DirEntry :=
  (List.range (imgCount b)).map fun i =>
    let a := 0x20 + 16 * i
    ⟨leAt b a 2, leAt b (a + 2) 2, leAt b (a + 4) 4, leAt b (a + 8) 4, leAt b (a + 12) 4⟩

/-- The offset of the signature (R60). -/
def imgSigAt (b : List Byte) : Nat := 0x20 + 16 * imgCount b

/-- The 64 signature bytes. -/
def imgSig (b : List Byte) : List Byte := (b.drop (imgSigAt b)).take 64

/-- The bytes the digest covers: all but the signature (R62). -/
def imgSigned (b : List Byte) : List Byte := b.take (imgSigAt b) ++ b.drop (imgSigAt b + 64)

/-- The body of a section, behind its 8-byte header; empty when the section is absent. -/
def secBody (b : List Byte) (ty : Nat) : List Byte :=
  match (imgDir b).find? fun e => e.ty == ty with
  | some e => ((b.drop e.off).take e.len).drop 8
  | none => []

/-- The section is present. -/
def hasSec (b : List Byte) (ty : Nat) : Bool := (imgDir b).any fun e => e.ty == ty

/-- Record `i` of `n` bytes behind a record section's 8-byte body header. -/
def recAt (body : List Byte) (n i : Nat) : List Byte := (body.drop (8 + n * i)).take n

/-- The channels: HSFN and the SWITCH records. -/
def parseHs (pins sw : List Byte) : Vector HsCfg 96 :=
  Vector.ofFn fun k =>
    let r := (sw.drop (8 * k.val)).take 8
    let rt := leAt r 6 1
    { fn := leAt pins k.val 1, octh := leAt r 0 2, inth := leAt r 2 2, ocflt := leAt r 4 1, intime := leAt r 5 1
      n := rt % 16, olOn := rt.testBit 4, olOff := rt.testBit 5, group := leAt r 7 1 }

/-- The solenoid drivers; an absent section leaves every feed unused. -/
def parseSol (pins body : List Byte) : Vector SolCfg 16 :=
  Vector.ofFn fun k =>
    let r := (body.drop (8 + 4 * k.val)).take 4
    { fn := leAt pins (0xE0 + k.val) 1, feed := if body.isEmpty then 0xFF else leAt r 0 1
      chop := leAt r 1 1, minoff := leAt r 2 2 }

/-- A profile record (Table 5.2). -/
def parseProfile (r : List Byte) : Profile :=
  { ipeak := leAt r 0 2, tpeak := leAt r 2 2, ihold := leAt r 4 2, thold := leAt r 6 2
    chains := decide (leAt r 8 1 % 4 = 1), chain := leAt r 8 1 / 4 % 32
    dip := leAt r 9 1, moveto := leAt r 10 2, late := leAt r 12 2 }

/-- The profiles up to COUNT. -/
def parseProfiles (body : List Byte) : List Profile :=
  (List.range (min 32 (leAt body 0 2))).map fun i => parseProfile ((body.drop (0x48 + 16 * i)).take 16)

/-- The field inputs. -/
def parseDi (pins body : List Byte) : Vector DiCfg 128 :=
  Vector.ofFn fun k => ⟨leAt pins (0x60 + k.val) 1, leAt body (0x20 + 2 * k.val) 2⟩

/-- The input classes; without an INPUT section Type 1, and the 110 V class on fold 7 (R200). -/
def parseClass (body : List Byte) : Vector Nat 8 :=
  Vector.ofFn fun f => if body.isEmpty then (if f.val = 7 then 0x10 else 1) else leAt body (4 * f.val) 1

/-- The LED strings. -/
def parseStr (body : List Byte) : Vector StrCfg 8 :=
  Vector.ofFn fun k => ⟨decide (leAt body (8 * k.val) 1 = 1), leAt body (8 * k.val + 1) 1, leAt body (8 * k.val + 2) 2⟩

/-- The chain lines. -/
def parseChain (pins body : List Byte) : Vector ChainCfg 4 :=
  Vector.ofFn fun k => ⟨leAt pins (0xF0 + k.val) 1, leAt body (0x40 + 4 * k.val) 2, leAt body (0x42 + 4 * k.val) 1⟩

/-- An OUTPUTS record (Table 3.12). -/
def parseOut (r : List Byte) : OutCfg :=
  { rest := leAt r 2 2, hold := leAt r 4 2, subst := leAt r 6 1
    sources := (List.range (min 8 (leAt r 7 1))).map fun i => (leAt r (8 + 2 * i) 1, leAt r (9 + 2 * i) 1) }

/-- The OUTPUTS records with their output numbers. -/
def outRecs (body : List Byte) : List (Nat × List Byte) :=
  (List.range (leAt body 0 2)).map fun i => (leAt (recAt body 24 i) 0 2, recAt body 24 i)

/-- The outputs of the image. -/
def parseOuts (body : List Byte) : Vector (Option OutCfg) 256 :=
  Vector.ofFn fun o => ((outRecs body).find? fun x => x.1 == o.val).map fun x => parseOut x.2

/-- A HURDLE record (Table 8.6). -/
def parseHurdle (r : List Byte) : HurdleRec :=
  { kind := leAt r 0 1, esc := (leAt r 1 1).testBit 0, out := leAt r 2 2, p1 := leAt r 4 4, p2 := leAt r 8 4
    escTime := leAt r 12 2 }

/-- A QUEUES record (Table 3.14). -/
def parseQueue (r : List Byte) : QueueCfg :=
  { bank := leAt r 1 1, depth := leAt r 2 1, esize := leAt r 3 1, base := leAt r 4 2
    producer := leAt r 6 1 % 16, consumer := leAt r 6 1 / 16 }

/-- The QUEUES records with their queue numbers. -/
def queueRecs (body : List Byte) : List (Nat × List Byte) :=
  (List.range (leAt body 0 2)).map fun i => (leAt (recAt body 8 i) 0 1, recAt body 8 i)

/-- The queue bindings. -/
def parseQueues (body : List Byte) : Vector (Option QueueCfg) 128 :=
  Vector.ofFn fun q => ((queueRecs body).find? fun x => x.1 == q.val).map fun x => parseQueue x.2

/-- The PROOF core records. -/
def parseProof (body : List Byte) : Vector ProofCfg 4 :=
  Vector.ofFn fun k =>
    let r := (body.drop (8 + 48 * k.val)).take 48
    ⟨leAt r 0 4, leAt r 4 4, leAt r 8 4, slice r 16 32⟩

/-- The values of an image, its digest given (R62). -/
def parseImage (b : List Byte) (digest : List Byte) : Image :=
  let pins := secBody b 2
  let hur := secBody b 8
  { serial := BitVec.ofNat 32 (leAt b 0x10 4)
    digest := digest
    period := if hasSec b 1 then leAt (secBody b 1) 0 1 else 2
    commit := if hasSec b 1 then leAt (secBody b 1) 1 1 else 48
    hs := parseHs pins (secBody b 3)
    di := parseDi pins (secBody b 5)
    diClass := parseClass (secBody b 5)
    sol := parseSol pins (secBody b 4)
    profiles := parseProfiles (secBody b 4)
    str := parseStr (secBody b 6)
    chain := parseChain pins (secBody b 6)
    outs := parseOuts (secBody b 7)
    budget := leAt hur 2 2
    shedMin := leAt hur 4 2
    recs := (List.range (leAt hur 0 2)).map fun i => parseHurdle (recAt hur 16 i)
    filterBody := secBody b 9
    slotBody := secBody b 10
    audioBody := secBody b 11
    accessBody := secBody b 12
    banks := Vector.ofFn fun k => leAt (secBody b 13) k.val 1
    queues := parseQueues (secBody b 14)
    minOp := leAt (secBody b 15) 0 1
    proof := parseProof (secBody b 15) }

end Sys2Proof.Machine
end

