-- ==== Sys2Proof/Machine/ImageBus.lean ====
section
/-! DEFINITION. The FILTERS and SLOTPLAN sections of the image: channel and filter records, the slot plan, and their checks
(Tables 14.4, 14.5, 15.3, 15.5; R385, R399 to R402). -/

namespace Sys2Proof.Machine

/-- A list of bytes holds only zeros. -/
def zeros (b : List Byte) : Bool := b.all (· == 0)

/-- `x` lies from `a` to `b`. -/
def within (a b x : Nat) : Bool := decide (a ≤ x ∧ x ≤ b)

/-- A list rises strictly. -/
def ascending : List Nat → Bool
  | a :: b :: l => decide (a < b) && ascending (b :: l)
  | _ => true

/-- A list never falls. [log 42 DEDUCED] -/
def nonFalling : List Nat → Bool
  | a :: b :: l => decide (a ≤ b) && nonFalling (b :: l)
  | _ => true

/-- A queue number or 0xFF. -/
def queueOrNone (q : Nat) : Bool := decide (q < 128) || q == 0xFF

/-! ### FILTERS -/

/-- The records of the FILTERS body, 16 bytes each. -/
def filterRecs (body : List Byte) : List (List Byte) := (List.range (leAt body 0 2)).map fun i => recAt body 16 i

/-- The CHANNEL record of a channel (Table 15.3). -/
def Image.chan (g : Image) (ch : Nat) : Option (List Byte) :=
  (filterRecs g.filterBody).find? fun r => leAt r 0 1 == 1 && leAt r 1 1 == ch

/-- The FILTER records in index order (Table 15.5). -/
def Image.filters (g : Image) : List (List Byte) := (filterRecs g.filterBody).filter fun r => leAt r 0 1 == 2

/-- RATE, FD, TB2ROLE and WAKEMODE of a CHANNEL record. -/
def chRate (r : List Byte) : Nat := leAt r 2 1 % 4
def chFd (r : List Byte) : Bool := (leAt r 2 1).testBit 2
def chRole (r : List Byte) : Nat := leAt r 2 1 / 8 % 4
def chWakeMode (r : List Byte) : Bool := (leAt r 2 1).testBit 5

/-- TXQ, REFID and REFPER of a CHANNEL record. -/
def chTxq (r : List Byte) : Nat := leAt r 0xD 1
def chRefId (r : List Byte) : Nat := leAt r 0xE 2 % 2048
def chRefPer (r : List Byte) : Nat := leAt r 0xE 2 / 2048

/-- The bit timing fields at an offset: prescaler, first and second segment, jump width. -/
def chTiming (r : List Byte) (o : Nat) : Nat × Nat × Nat × Nat :=
  (leAt r o 1 + 1, leAt r (o + 1) 1 + 1, leAt r (o + 2) 1 % 128 + 1, leAt r (o + 3) 1 % 128 + 1)

/-- Ranges of four timing bytes. -/
def timingRange (r : List Byte) (o : Nat) : Bool :=
  decide (1 ≤ leAt r (o + 1) 1) && decide (leAt r (o + 2) 1 < 128) && decide (leAt r (o + 3) 1 < 128)

/-- A CHANNEL record's ranges. -/
def chanRange (r : List Byte) : Bool :=
  let ch := leAt r 1 1
  let trunk := decide (4 ≤ ch)
  decide (ch ≤ 5) &&
  (if trunk then decide (chRate r = 0 ∧ chRole r ≠ 3 ∧ leAt r 2 1 < 64) else decide (leAt r 2 1 < 4)) &&
  decide (leAt r 3 1 < 4) &&
  (if trunk then timingRange r 4 else zeros (slice r 4 4)) &&
  (if chFd r then timingRange r 8 && decide (leAt r 0xC 1 < 128) else zeros (slice r 8 5)) &&
  queueOrNone (chTxq r) &&
  (if chRole r = 0 then leAt r 0xE 2 == 0 else decide (chRefId r ≤ 0x7FE ∧ 1 ≤ chRefPer r))

/-- IDE, FRAME, RTR, ACTION and LOG of a FILTER record. -/
def flIde (r : List Byte) : Bool := (leAt r 2 1).testBit 0
def flFrame (r : List Byte) : Nat := leAt r 2 1 / 2 % 4
def flRtr (r : List Byte) : Bool := (leAt r 2 1).testBit 3
def flAction (r : List Byte) : Nat := leAt r 2 1 / 16 % 4
def flLog (r : List Byte) : Bool := (leAt r 2 1).testBit 6

/-- A FILTER record maps, and the mapping's output, byte, form, bit pair and timeout. -/
def flMaps (r : List Byte) : Bool := decide (2 ≤ flAction r)
def flOut (r : List Byte) : Nat := leAt r 0xC 2
def flByte (r : List Byte) : Nat := leAt r 0xE 1 % 64
def flForm (r : List Byte) : Nat := leAt r 0xE 1 / 64
def flBitix (r : List Byte) : Nat := leAt r 0xF 1 % 4
def flTout (r : List Byte) : Nat := leAt r 0xF 1 / 4

/-- A number that Table 8.1 gives an output. -/
def outNumberOk (o : Nat) : Bool := decide (o < 112) || (decide (128 ≤ o) && decide (o < 256))

/-- A FILTER record's ranges (Table 15.5); FORM 2 and 3 are reserved in every record. -/
def filtRange (r : List Byte) : Bool :=
  let q := leAt r 3 1
  within 1 63 (leAt r 1 1) && decide (leAt r 2 1 < 128) && decide (flFrame r ≠ 3) &&
  (if flAction r = 1 ∨ flAction r = 3 then decide (q < 128) else q == 0xFF) &&
  decide (leAt r 4 4 < 2 ^ 29 ∧ leAt r 8 4 < 2 ^ 29) && (flIde r || decide (leAt r 8 4 < 2 ^ 11)) &&
  decide (flForm r ≤ 1) &&
  (if flMaps r then outNumberOk (flOut r) && decide (1 ≤ flTout r) else flOut r == 0xFFFF && flTout r == 0)

/-- FILTERS: counts, order and records (R401). -/
def filtersRange (_g : Image) (body : List Byte) : Bool :=
  let rs := filterRecs body
  let kinds := rs.map fun r => leAt r 0 1
  body.isEmpty ||
  (decide (leAt body 0 2 ≤ 2048) && zeros (slice body 2 6) && kinds.all (fun k => k == 1 || k == 2) && nonFalling kinds &&
   ascending ((rs.filter fun r => leAt r 0 1 == 1).map fun r => leAt r 1 1) &&
   rs.all (fun r => if leAt r 0 1 = 1 then chanRange r else filtRange r))

/-- R399 for a trunk. -/
def timingClaim (r : List Byte) : Bool :=
  let (np, n1, n2, nj) := chTiming r 4
  let (dp, d1, d2, dj) := chTiming r 8
  let nom := np * (1 + n1 + n2)
  let dat := dp * (1 + d1 + d2)
  decide (80 ≤ nom ∧ nj ≤ min n1 n2) && (!chFd r || decide (16 ≤ dat ∧ dat ≤ nom ∧ dj ≤ min d1 d2))

/-- The binding of a queue has an end and 32-byte entries. -/
def queueFor (g : Image) (q : Nat) (f : QueueCfg → Nat) (id : Nat) : Bool :=
  match getNat g.queues q none with
  | some c => f c == id && c.esize == 2
  | none => false

/-- The output of a mapping exists, lists the source, and suits the form (R388, R409). -/
def mapOutOk (g : Image) (o form off src : Nat) : Bool :=
  match getNat g.outs o none with
  | some r => r.sources.any (fun x => x.1 == src) && (if form = 0 then decide (o < 96) else decide (96 ≤ o ∧ off % 4 = 0))
  | none => false

/-- FILTERS against R399 and R402. -/
def filtersClaim (g : Image) : Bool :=
  let rs := filterRecs g.filterBody
  let chans := rs.filter fun r => leAt r 0 1 == 1
  let txqs := (chans.map chTxq).filter (· != 0xFF)
  chans.all (fun r => decide (leAt r 1 1 < 4) || timingClaim r) &&
  decide ((chans.filter fun r => chRole r != 0).length ≤ 1) &&
  txqs.all (fun q => queueFor g q QueueCfg.consumer 9) && txqs.Nodup &&
  g.filters.all (fun r => leAt r 3 1 == 0xFF || queueFor g (leAt r 3 1) QueueCfg.producer 9) &&
  g.filters.all (fun r => !flMaps r || mapOutOk g (flOut r) (flForm r) (flByte r) 7) &&
  (List.range 256).all fun o => decide ((g.filters.filter fun r => flMaps r && flOut r == o).length ≤ 4)

/-! ### SLOTPLAN -/

/-- The records of the SLOTPLAN body, 8 bytes each. -/
def slotRecs (body : List Byte) : List (List Byte) := (List.range (leAt body 0 2)).map fun i => recAt body 8 i

/-- CAP, AUTHSLOT, GROUPS, MSGRXQ and MSGTXQ of the SLOTPLAN header; an absent section reads as R384 says. -/
def Image.cap (g : Image) : Bool := (leAt g.slotBody 2 1).testBit 0
def Image.authSlot (g : Image) : Nat := if g.slotBody.isEmpty then 0xFF else leAt g.slotBody 3 1
def Image.groups (g : Image) : Nat := leAt g.slotBody 4 2
def Image.msgRxq (g : Image) : Nat := if g.slotBody.isEmpty then 0xFF else leAt g.slotBody 6 1
def Image.msgTxq (g : Image) : Nat := if g.slotBody.isEmpty then 0xFF else leAt g.slotBody 7 1

/-- The records of a KIND (Table 14.5). -/
def Image.slotKind (g : Image) (k : Nat) : List (List Byte) := (slotRecs g.slotBody).filter fun r => leAt r 0 1 == k

/-- MAXPOS, RSTART and RLEN of the SPAN record; all 0 without one. -/
def Image.maxPos (g : Image) : Nat := match g.slotKind 1 with
  | r :: _ => leAt r 1 1
  | [] => 0
def Image.rstart (g : Image) : Nat := match g.slotKind 1 with
  | r :: _ => leAt r 2 2
  | [] => 0
def Image.rlen (g : Image) : Nat := match g.slotKind 1 with
  | r :: _ => leAt r 4 2
  | [] => 0

/-- The MAP records: FROM, OUT, OFFSET, FORM and BIT. -/
structure MapRec where
  src : Nat
  out : Nat
  off : Nat
  form : Nat
  bit : Nat
  deriving DecidableEq, Repr, Inhabited

/-- The MAP records of an image. -/
def Image.maps (g : Image) : List MapRec :=
  (g.slotKind 2).map fun r => ⟨leAt r 1 1, leAt r 2 2, leAt r 4 1, leAt r 5 1, leAt r 6 1⟩

/-- The STREAM records: the stream and its payload bytes. -/
def Image.streams (g : Image) : List (Nat × Nat) := (g.slotKind 3).map fun r => (leAt r 1 1, leAt r 2 2)

/-- A SLOTPLAN record's ranges. -/
def slotRange (r : List Byte) : Bool :=
  match leAt r 0 1 with
  | 1 => within 1 64 (leAt r 1 1) && decide (leAt r 2 2 ≤ 1023) && within 1 409 (leAt r 4 2) && leAt r 6 2 == 0
  | 2 =>
    let f := leAt r 1 1
    (decide (f ≤ 64) || within 0x80 0x8F f || f == 0xFF) && outNumberOk (leAt r 2 2) && decide (0x20 ≤ leAt r 4 1) && decide (leAt r 5 1 ≤ 1) &&
    (if leAt r 5 1 = 0 then decide (leAt r 6 1 ≤ 6 ∧ leAt r 6 1 % 2 = 0) else leAt r 6 1 == 0) && leAt r 7 1 == 0
  | 3 => decide (leAt r 1 1 ≤ 31) && within 16 2047 (leAt r 2 2) && leAt r 4 4 == 0
  | _ => false

/-- The order of the records: KIND, then OUT or stream (R384). -/
def slotKey (r : List Byte) : Nat :=
  leAt r 0 1 * 65536 + (match leAt r 0 1 with
    | 2 => leAt r 2 2
    | 3 => leAt r 1 1
    | _ => 0)

/-- SLOTPLAN: header, order and records. -/
def slotsRange (_g : Image) (body : List Byte) : Bool :=
  body.isEmpty ||
  (decide (leAt body 0 2 ≤ 1024) && decide (leAt body 2 1 ≤ 1) && (decide (leAt body 3 1 ≤ 63) || leAt body 3 1 == 0xFF) &&
   queueOrNone (leAt body 6 1) && queueOrNone (leAt body 7 1) && nonFalling ((slotRecs body).map slotKey) &&
   (slotRecs body).all slotRange)

/-- The wire time of a tagged frame in ns (R385). -/
def wireNs (p : Nat) : Nat := (p + 48) * 8

/-- SLOTPLAN against R385. -/
def slotsClaim (g : Image) : Bool :=
  let spans := (g.slotKind 1).length
  decide (spans ≤ 1) && (spans == 1 || (g.maps.isEmpty && g.streams.isEmpty)) &&
  decide (g.rstart + g.rlen ≤ 16 * (g.commit - 4)) &&
  (spans == 0 || decide (1024 * (2000 * g.maxPos + wireNs 24 + g.maxPos * wireNs 256 +
    (g.streams.map fun x => wireNs x.2).sum) ≤ g.rlen * (250000 * 2 ^ g.period))) &&
  g.maps.all (fun m => mapOutOk g m.out m.form m.off 6) &&
  (List.range 256).all (fun o => decide ((g.maps.filter fun m => m.out == o).length ≤ 8)) &&
  (g.streams.map (·.1)).Nodup &&
  (g.msgRxq == 0xFF || queueFor g g.msgRxq QueueCfg.producer 5) &&
  (g.msgTxq == 0xFF || queueFor g g.msgTxq QueueCfg.consumer 5)

end Sys2Proof.Machine
end

