-- ==== Sys2Proof/Machine/TimeTally.lean ====
section
/-! DEFINITION. Time bases under their controllers, and the tally's firmware entries, reads and archive. -/

namespace Sys2Proof.Machine

/-! ### Time bases -/

/-- This module is the bellwether of its fabric (R375). [log 25 DEDUCED] -/
def State.bellwether (s : State) : Bool := s.fab.mustered && s.fab.bw != 0 && s.fab.bw == s.fab.pos

/-- A trunk receives network time (TB2ROLE = follower). -/
def Image.follows (g : Image) : Bool :=
  (List.range 6).any fun ch => match g.chan ch with
    | some r => chRole r == 1
    | none => false

/-- TB_STATUS.CTL, the controller of a base (Table 13.2): 0 none, 1 fabric engine, 2 message-bus engine, 3 firmware. -/
def State.tbCtl (s : State) (n : Fin 4) : Nat :=
  match n with
  | 0 => 0
  | 1 => if s.bellwether then 3 else 1
  | 2 => if s.cfg.follows then 2 else 3
  | 3 => 3

/-- The location code of the time tile (R356). -/
def locTime : Word := locTile 0 9

/-- A base changes into or out of service (R342, R343); no entry when it does not change. From its going out of service the
frames and pairs that return it are counted. [log 71 DEDUCED] -/
def setOos (n : Fin 4) (oos : Bool) (cause : Nat) (s : State) : State :=
  if s.time.tb[n].oos = oos then s
  else
    let s := modTb n (fun b => { b.keepPast s.time.tb[0].value with oos := oos }) s
    let s := if n = 1 ∧ oos then { s with fab := { s.fab with inRange := 0 } } else s
    let s := if n = 2 ∧ oos then
        { s with mbus := { s.mbus with ch := s.mbus.ch.map fun c => { c with inRange := 0 } } } else s
    setIrq .time 2 (logEv 0x7003 3 locTime (pack64 [(0, n.val), (2, b01 oos), (4, cause)]) s)

/-- The payload of a step: base, controller and the signed step in ns. -/
def stepPayload (n : Fin 4) (fw : Bool) (d : Int) : DWord :=
  pack64 [(0, n.val), (2, b01 fw)] ||| (BitVec.ofInt 64 d <<< 8)

/-- OOS, ARM and a step of one base in one cycle are applied in this order (R344). [log 113 DEDUCED] -/
def stepTurn (n : Fin 4) (rank : Nat) (s : State) : State := inTurn .time (0x20000 + n.val) rank s

/-- A step of a base by its controller (R340, R341): with the permission armed the base takes the value at the next cycle of
the timer clock, otherwise the step is refused. A step of TB1 writes a time map (R354); a step of the driving base acts on
the tick (R38). [log 137 DEDUCED] -/
def stepBase (n : Fin 4) (v : DWord) (fw : Bool) (s : State) : State :=
  let s := stepTurn n 2 s
  let ok := s.time.tb[n].stepOk
  let s := if ok then runCycles 1 s else s
  let d : Int := (v.toNat : Int) - s.time.tb[n].ns.toNat
  if ok then
    let s := modTb n (fun b => { b.keepPast s.time.tb[0].value with value := v.setWidth 96 <<< 32, stepOk := false }) s
    let s := if n = s.drvIdx then { s with tick := { s.tick with stepped := true, stepSum := s.tick.stepSum + d } } else s
    let s := setIrq .time 0 (logEv 0x7001 3 locTime (stepPayload n fw d) s)
    let s := setOos n false 5 s
    if n = 1 then logTimeMap s else s
  else setIrq .time 1 (logEv 0x7002 4 locTime (stepPayload n false d) s)

/-- The address of a register of a time base. -/
def tbAddr (n off : Nat) : Nat := 0x20081000 + n * 0x40 + off

/-- A requester is the firmware controller of a base (R337, R344). -/
def State.tbWriter (s : State) (rq : Requester) (n : Fin 4) : Bool := rq == .keeper && s.tbCtl n == 3

/-- TB_STEP: a write of TB_STEP_HI (R340); the low word is held (R20). [log 20 DEDUCED] -/
def doTbStep (rq : Requester) (n : Fin 4) (hi : Word) (s : State) : State :=
  if !s.tbWriter rq n then setErr .time 1 s
  else
    match heldWord rq (tbAddr n.val 0x18) s with
    | none => reservedWrite rq (tbAddr n.val 0x1C) s
    | some lo => stepBase n (join64 lo hi) true (modTb n (fun b => { b with stepReg := join64 lo hi }) (dropHeld rq s))

/-- The rate limit of 500 ppm in units of TB_RATE (R336). -/
def rateMax : Int := 10737418

/-- TB_RATE_WRITE: the controller sets the rate (R336). -/
def doTbRateWrite (rq : Requester) (n : Fin 4) (v : Word) (s : State) : State :=
  wrIf .time (s.tbWriter rq n) (decide (v.toInt < -rateMax ∨ rateMax < v.toInt)) rq (tbAddr n.val 0x14)
    (fun s => modTb n (fun b => { b.keepPast s.time.tb[0].value with rate := v }) s) s

/-- TB_OOS: a write of TB_CTRL.OOS (R342 to R344). -/
def doTbOos (rq : Requester) (n : Fin 4) (v : Bool) (s : State) : State :=
  let s := stepTurn n 0 s
  if n = 0 then setErr .time 1 s
  else if v then (if rq = .keeper then setOos n true 2 s else setErr .time 1 s)
  else if s.tbWriter rq n then setOos n false 2 s
  else setErr .time 1 s

/-- TB_ARM: a write of TB_CTRL.ARM re-arms the step permission of a base out of service (R342). -/
def doTbArm (rq : Requester) (n : Fin 4) (s : State) : State :=
  let s := stepTurn n 1 s
  if n = 0 ∨ rq ≠ .keeper then setErr .time 1 s
  else if s.time.tb[n].oos then
    logEv 0x7004 2 locTime (pack64 [(0, n.val)]) (modTb n (fun b => { b with stepOk := true }) s)
  else setErr .time 2 s

/-- TIME_CAPTURE: all four bases sampled in one cycle (R345). The service port and the fabric write no TIME register. -/
def doTimeCapture (rq : Requester) (s : State) : State :=
  if rq.isShepherd then { s with time := { s.time with cap := s.time.tb.map TimeBase.ns } } else setErr .time 1 s

/-- TIME_MAP: every 65,536 ticks while TB1 is in service (R354). -/
def doTimeMap (s : State) : State :=
  if 65536 ≤ s.time.mapTicks ∧ !s.time.tb[1].oos then logTimeMap s else s

/-- A signed quotient, rounded as `Config.rounded` says (log entry 5). -/
def ratioInt (num den : Int) : Int :=
  if 0 ≤ num then (Config.rounded num.toNat den.toNat : Int) else -(Config.rounded (-num).toNat den.toNat : Int)

/-- An offset in ns over `k` periods of `p` ns, as a rate in units of TB_RATE. [log 5 DESIGN CHOICE] -/
def rateOf (theta k p : Int) : Int := ratioInt (theta * 21474836480) (k * p)

/-- The steering of R380 and R412: the new frequency term and the rate, both limited to 500 ppm. -/
def steer (f theta p : Int) : Int × Int :=
  let f := clampInt (-rateMax) rateMax (f - rateOf theta 64 p)
  (f, clampInt (-rateMax) rateMax (f - rateOf theta 8 p))

/-- SLEW is set while an engine steers a base at the limit (R341). -/
def setSlew (n : Fin 4) (lim : Bool) (s : State) : State :=
  if s.time.tb[n].slew = lim then s
  else logEv 0x7006 3 locTime (pack64 [(0, n.val), (2, b01 lim)]) (modTb n (fun b => { b with slew := lim }) s)

/-- An engine steers a base (R341, R380, R412). -/
def steerBase (n : Fin 4) (rate : Int) (s : State) : State :=
  setSlew n (decide (rate = rateMax ∨ rate = -rateMax))
    (modTb n (fun b => { b.keepPast s.time.tb[0].value with rate := BitVec.ofInt 32 rate }) s)

/-! ### The tally -/

/-- TALLY_FW_GO: a firmware entry stamped on the chosen base (R353). [log 22 DEDUCED] -/
def doTallyFwGo (rq : Requester) (s : State) : State :=
  let t := s.tally
  if !rq.std then refuseWrite .tally rq 0x20090070 s
  else if t.fwCode = 0 ∨ !locValid t.fwLoc then reservedWrite rq 0x20090070 s
  else
    let b : Fin 4 := ⟨t.fwBase.toNat, by omega⟩
    let base := s.time.tb[b]
    tallyWrite (mkEntry s base.ns (entryFlags b.val t.fwSev.toNat base.oos true) t.fwCode.toNat t.fwLoc
      (join64 t.fwPayLo t.fwPayHi)) s

/-- Rewrite the TALLY block. -/
def modTally (f : TallyBlk → TallyBlk) (s : State) : State := { s with tally := f s.tally }

/-- The archive run ends when no entry is unarchived (R351). -/
def endRun (s : State) : State :=
  if s.tally.archiving ∧ s.tally.unarch = 0 then setIrq .tally 1 (modTally (fun t => { t with archiving := false }) s)
  else s

/-- TALLY_FLUSH: keeper firmware starts an archive run; with nothing unarchived it ends at once (R351). -/
def doTallyFlush (rq : Requester) (s : State) : State :=
  if rq = .keeper then endRun (modTally (fun t => { t with archiving := true }) s) else setErr .tally 1 s

/-- The eight words of the selected journal index; an index never written reads 0. -/
def State.entryWords (s : State) : List Word :=
  match s.tally.at_ s.tally.rdptr.toNat with
  | some x => (List.range 8).map fun i => BitVec.ofNat 32 (leAt x.e.bytes (4 * i) 4)
  | none => List.replicate 8 0

/-- TALLY_ENTRY_READ: a read of ENTRY0 latches all eight words of the index for the requester (R350, R19). -/
def doTallyEntryRead (rq : Requester) (s : State) : State :=
  let ws := s.entryWords
  giveRead rq (ws.headD 0) (latchRead rq 0x20090040 ws s)

/-- The oldest unarchived entry. -/
def TallyBlk.oldest (t : TallyBlk) : Option JEntry := t.journal.reverse.find? fun x => !x.archived

/-- The next archive slot; the slots rotate (R351). -/
def TallyBlk.nextSlot (t : TallyBlk) : TallyBlk := { t with archSlot := t.archSlot + 1 }

/-- ARCHIVE_COPY: the oldest unarchived entry is copied to the next archive slot; a slot whose read-back fails twice
is skipped (R351, Table 13.8). [log 107 DEDUCED] -/
def doArchiveCopy (ok : Bool) (s : State) : State :=
  if !s.tally.archiving then s
  else
    match s.tally.oldest with
    | none => endRun s
    | some x =>
      let slot := s.tally.archSlot.toNat
      if ok then
        let s := mramPut (0x900000 + slot * 32) x.e.bytes s
        endRun (modTally (fun t => { t.nextSlot with
          archSeq := some x.e.seq
          journal := t.journal.map fun y => if y.e.seq = x.e.seq then { y with archived := true } else y }) s)
      else logEv 0x0602 5 (locTile 0 14) (pack64 [(0, slot)]) (modTally TallyBlk.nextSlot s)

end Sys2Proof.Machine
end

