-- ==== Sys2Proof/Machine/Keys.lean ====
section
/-! DEFINITION. The key core: slots and their use, endorsements, the mailbox commands, and marks. -/

namespace Sys2Proof.Machine

/-! ### Slots -/

/-- Rewrite the KEY block. -/
def modKey (f : KeyBlk → KeyBlk) (s : State) : State := { s with key := f s.key }

/-- The complete copy with the higher sequence number, copy A at equal numbers; a slot with neither copy complete is empty
(R462). -/
def KeySlot.inForce (x : KeySlot) : KeyCopy :=
  match x.a, x.b with
  | some a, some b => if a.seq.toNat < b.seq.toNat then b else a
  | some a, none => a
  | none, some b => b
  | none, none => KeyCopy.empty

/-- The content in force of a slot. -/
def KeySlot.valid (x : KeySlot) : Bool := x.inForce.valid
def KeySlot.flag (x : KeySlot) : Nat := x.inForce.flag
def KeySlot.key (x : KeySlot) : BitVec 256 := x.inForce.key
def KeySlot.root (x : KeySlot) : Nat := x.inForce.root
def KeySlot.seq (x : KeySlot) : Word := x.inForce.seq
def KeySlot.marks (x : KeySlot) : Nat := x.inForce.marks

/-- The copies differ in their sequence, or one is incomplete (R462). -/
def KeySlot.differs (x : KeySlot) : Bool :=
  match x.a, x.b with
  | some a, some b => a.seq != b.seq
  | _, _ => true

/-- One slot. -/
def State.slot (s : State) (k : Nat) : KeySlot := getNat s.key.slot k default

/-- Rewrite one slot. -/
def modSlot (k : Nat) (f : KeySlot → KeySlot) (s : State) : State := modKey (fun b => { b with slot := updNat b.slot k f }) s

/-- The location code of the key core (R480). -/
def locKeyCore : Word := locTile 0 5

/-- The state that at least two fuse rows show: it comes into force at the next module reset (R463). -/
def KeyBlk.nextLcs (b : KeyBlk) : Nat := if b.fuse[0] = b.fuse[1] then b.fuse[0] else b.fuse[2]

/-- The first `n` fuse rows burnt with a state, in the order 0, 1, 2 (R463). -/
def KeyBlk.burn (b : KeyBlk) (n state : Nat) : KeyBlk :=
  { b with fuse := mapUnits b.fuse fun i x => if i.val < n then state else x }

/-- At a start the third row is burnt with what the first two show (R463). -/
def KeyBlk.settleFuses (b : KeyBlk) : Vector Nat 3 := if b.fuse[0] = b.fuse[1] then b.fuse.set 2 b.fuse[0] else b.fuse

/-- A slot is valid under the root of the state in force (R464). [log 27 DEDUCED] -/
def State.slotLive (s : State) (k : Nat) : Bool := (s.slot k).valid && (s.slot k).root == s.key.lcs

/-- A slot was written under an earlier state (R464). -/
def State.slotStale (s : State) (k : Nat) : Bool := (s.slot k).valid && (s.slot k).root != s.key.lcs

/-- A usage of the withheld set: ROLL, ATT, DATA (R466). -/
def inWithheld (flag : Nat) : Bool := flag == 2 || flag == 4 || flag == 16

/-- Why a slot cannot be used for a usage: 0 it can, 1 usage, 2 withheld, 4 disabled (Table 18.8). -/
def State.slotReason (s : State) (k flag : Nat) : Nat :=
  if !(s.slotLive k) ∨ (s.slot k).flag ≠ flag then 1
  else if s.key.withheld ∧ inWithheld flag then 2
  else if 3 ≤ (s.slot k).marks then 4
  else 0

/-- The key bytes of a slot for AES: 16 or 32, the lowest bits first (Table 18.1). [log 11 DESIGN CHOICE] -/
def State.aesKey (s : State) (k : Nat) : List Byte := leBytes (if Config.aes256 k then 32 else 16) (s.slot k).key.toNat

/-- A request that a slot does not serve (R457). -/
def keyRefused (k who reason : Nat) (s : State) : State :=
  logEv 0xC003 7 locKeyCore (pack64 [(0, k), (8, who), (16, reason)]) s

/-- The request of a block that a slot does not serve. Table 18.8 gives the requesters no codes: the field is a free value
(R457). [log 140 DEDUCED] -/
def refuseBlock (k flag : Nat) (s : State) : State :=
  if s.slotReason k flag = 0 then s else keyRefused k (s.freeVal.toNat % 16) (s.slotReason k flag) (tickFree s)

/-- An operation uses a slot. -/
def useSlot (k : Nat) (s : State) : State :=
  bump .key (0x1008 + k * 0x40) 0 1 (modSlot k (fun x => { x with uses := satInc x.uses }) s)

/-- The device serial as 8 bytes. -/
def State.serialBytes (s : State) : List Byte := leBytes 8 s.fab.serial.toNat

/-- The signature in KEY_SIG (R459). -/
def State.sigBytes (s : State) : List Byte := s.key.sig.toList.flatMap fun w => leBytes 4 w.toNat

/-- The slots k and k + 1 hold a valid IMG pair. -/
def State.imgPair (s : State) (k : Nat) : Bool :=
  decide (k % 2 = 0 ∧ k < 63) && s.slotReason k 1 == 0 && s.slotReason (k + 1) 1 == 0

/-- A signature over a digest verifies under the pair at slot k (R63). -/
def State.pairVerifies (s : State) (k : Nat) (digest sig : List Byte) : Bool :=
  s.imgPair k && ecdsaOk (s.slot k).key.toNat (s.slot (k + 1)).key.toNat digest sig

/-- The signature in KEY_SIG verifies over a message under a valid IMG pair other than the pair of slot `not_`. -/
def State.signedBy (s : State) (msg : List Byte) (not_ : Nat) : Bool :=
  let d := sha256 msg
  (List.range 32).any fun i => 2 * i != not_ / 2 * 2 && s.pairVerifies (2 * i) d s.sigBytes

/-- The image of a slot: the keys of its KEYSLOT and its signature verify (checks 8 and 9 of Table 3.16). -/
def State.imageKeys (s : State) (k : Nat) : Bool :=
  (s.slotLive k && (s.slot k).flag == 1) && (s.slotLive (k + 1) && (s.slot (k + 1)).flag == 1)

/-! ### Starting a command -/

/-- A command ends with a result code; KEY_IRQ_STATUS.DONE is set. -/
def keyEnd (code : Nat) (s : State) : State :=
  setIrq .key 0 (modKey (fun b => { b with state := .done, code := code, job := none }) s)

/-- A command is taken: it runs until KEY_CMD_DONE. -/
def keyTake (j : KeyJob) (s : State) : State := modKey (fun b => { b with state := .busy, code := 0, job := some j }) s

/-- A command that uses a slot, or its refusal (R457, R471). -/
def withSlot (op k flag : Nat) (f : State → State) (s : State) : State :=
  match s.slotReason k flag with
  | 0 => f (useSlot k s)
  | 2 => keyEnd 2 (keyRefused k op 2 s)
  | r => keyEnd 1 (keyRefused k op r s)

/-- The first `n` bytes of KEY_BUF. -/
def State.bufBytes (s : State) (n : Nat) : List Byte := (s.key.buf.toList.flatMap fun w => leBytes 4 w.toNat).take n

/-- Bytes placed at the start of KEY_BUF. -/
def putBuf (bs : List Byte) (s : State) : State :=
  let n := (bs.length + 3) / 4
  modKey (fun b => { b with buf := mapUnits b.buf fun i w => if i.val < n then BitVec.ofNat 32 (leAt bs (4 * i.val) 4) else w }) s

/-- A flag field that holds exactly one flag (R458). -/
def oneFlag (f : Nat) : Bool := f == 1 || f == 2 || f == 4 || f == 8 || f == 16

/-- The endorsement of R459 is needed for a change of a slot. [log 83 DEDUCED] -/
def State.needsEndorse (s : State) (k flag : Nat) : Bool :=
  (s.key.lcs == 4 || s.key.lcs == 5) && !s.key.provision && (((s.slot k).valid && (s.slot k).flag == 1) || flag == 1)

/-- The message of an endorsement (R459). [log 83 DEDUCED] -/
def State.endorseMsg (s : State) (k flag : Nat) (body : List Byte) : List Byte :=
  [BitVec.ofNat 8 k, BitVec.ofNat 8 flag] ++ body ++ s.serialBytes

/-- KEY_DATA as the key bits; it is cleared when the command is taken (R458). -/
def State.keyBits (s : State) : BitVec 256 :=
  BitVec.ofNat 256 (ofLe (s.key.data.toList.flatMap fun w => leBytes 4 w.toNat))

/-- WRITE and ERASE (R458, R459, R461). -/
def startWrite (op k flag : Nat) (s : State) : State :=
  let bits := s.keyBits
  let s := if op = 1 then modKey (fun b => { b with data := Vector.replicate 8 0 }) s else s
  if op = 1 ∧ !oneFlag flag then keyEnd 1 (keyRefused k op 1 (setErr .key 3 s))
  else
    let f := if op = 1 then flag else 0
    let msg := s.endorseMsg k f (leBytes 32 (if op = 1 then bits.toNat else 0))
    if s.needsEndorse k f ∧ !s.signedBy msg k then keyEnd 1 (keyRefused k op 3 (setErr .key 4 s))
    else keyTake ⟨op, k, f, s.key.arg, bits, []⟩ s

/-- Debug is open: by a ticket, or in a state that leaves it open (Table 18.3, R466). [log 59 DEDUCED] -/
def State.debugOpen (s : State) : Bool :=
  s.key.debug || s.key.lcs == 1 || s.key.lcs == 2 || s.key.lcs == 5 || s.key.lcs == 6

/-- The attestation message of Table 18.5. -/
def State.attestMsg (s : State) (k : Nat) : List Byte :=
  let b := s.key
  let flags := b01 s.debugOpen + 2 * b01 (b.tamper != 0) + 4 * b01 s.pert.ticket + 8 * b01 b.pendingFlag +
    16 * b01 (s.upd.state == .trial)
  s.bufBytes 16 ++ s.serialBytes ++ [BitVec.ofNat 8 b.lcs, BitVec.ofNat 8 flags] ++ leBytes 2 k ++
    slice b.fwDigest 0 32 ++ slice s.cfg.digest 0 32 ++ leBytes 8 s.tick.count.toNat

/-- ATTEST (R471): message and CMAC, taken as the command begins. -/
def startAttest (k : Nat) (s : State) : State :=
  withSlot 3 k 4 (fun s =>
    let m := s.attestMsg k
    keyTake ⟨3, k, 0, s.key.arg, 0, m ++ cmac (s.aesKey k) m⟩ s) s

/-- CMAC, ENCRYPT and DECRYPT over KEY_BUF (Table 18.4). -/
def startCipher (op k : Nat) (s : State) : State :=
  withSlot op k 16 (fun s =>
    let d := s.bufBytes (s.key.arg.toNat % 2048)
    let key := s.aesKey k
    keyTake ⟨op, k, 0, s.key.arg, 0, if op = 4 then cmac key d else aesCtr key (s.sigBytes.take 16) d⟩ s) s

/-- SHA256 over KEY_BUF. -/
def startSha (s : State) : State := keyTake ⟨7, 0, 0, s.key.arg, 0, sha256 (s.bufBytes (s.key.arg.toNat % 2048))⟩ s

/-- `n` fresh words from the TRNG: free values (R470). -/
def State.randomBytes (s : State) (n : Nat) : List Byte :=
  (List.range n).flatMap fun i => leBytes 4 (Config.freeValue (s.freeCount + i)).toNat

/-- RANDOM: refused with RESULT 3 while the TRNG fails (R470). -/
def startRandom (s : State) : State :=
  if s.key.trngFailed then keyEnd 3 s
  else
    let n := s.key.arg.toNat % 512
    keyTake ⟨8, 0, 0, s.key.arg, 0, s.randomBytes n⟩ { s with freeCount := s.freeCount + n }

/-- The next states of Table 18.3. -/
def nextStates (lcs : Nat) : List Nat :=
  match lcs with
  | 1 => [2, 3, 6] | 2 => [3, 6] | 3 => [4, 6] | 4 => [5, 6] | 5 => [6]
  | _ => []

/-- ADVANCE (R465). -/
def startAdvance (s : State) : State :=
  let t := s.key.arg.toNat % 16
  if !(nextStates s.key.lcs).contains t then keyEnd 1 (setErr .key 5 s)
  else if s.key.lcs = 4 ∧ !s.key.provision ∧ !s.signedBy (s.endorseMsg 0 0 [BitVec.ofNat 8 t]) 64 then
    keyEnd 1 (keyRefused 0 9 3 (setErr .key 4 s))
  else keyTake ⟨9, 0, 0, s.key.arg, 0, []⟩ s

/-- The message of a ticket (R466, R531). -/
def State.ticketMsg (s : State) (pert : Bool) : List Byte :=
  s.serialBytes ++ leBytes 8 s.key.nonce.toNat ++ (if pert then [s.pert.mask.setWidth 8] else [])

/-- A perturbation mask holds a kind outside the field-safe subset (R531). -/
def unsafeMask (m : BitVec 7) : Bool := m.getLsbD 0 || m.getLsbD 1 || m.getLsbD 2 || m.getLsbD 4

/-- TICKET (R466, R531): verified when taken. [log 83 DEDUCED] -/
def startTicket (s : State) : State :=
  let pert := bit s.key.arg 0
  let no := fun (s : State) => keyEnd 1 (logEv 0xC00B 7 locKeyCore (pack64 [(0, b01 pert), (1, 1)]) s)
  if s.key.trngFailed then keyEnd 3 s
  else if pert ∧ s.key.lcs = 4 ∧ unsafeMask s.pert.mask then no s
  else if s.signedBy (s.ticketMsg pert) 64 then
    keyTake ⟨10, 0, s.pert.mask.toNat, s.key.arg, 0, []⟩ s
  else no s

/-- TCLEAR (R475): refused with RESULT 2 while a source still holds its condition. -/
def startTclear (holding : BitVec 5) (s : State) : State :=
  if holding = 0 then keyTake ⟨11, 0, 0, s.key.arg, 0, []⟩ s else keyEnd 2 s

/-- A length or field of KEY_ARG is outside its range (Table 18.4), or a slot that the command does not use is not 0. -/
def argBad (op slot : Nat) (arg : Word) : Bool :=
  let n := arg.toNat
  match op with
  | 4 => decide (1024 < n)
  | 5 => decide (1024 < n ∨ n % 16 ≠ 0)
  | 6 => decide (1024 < n ∨ n % 16 ≠ 0)
  | 7 => decide (1024 < n) || slot != 0
  | 8 => decide (n = 0 ∨ 256 < n) || slot != 0
  | 9 => decide (15 < n) || slot != 0
  | 10 => decide (1 < n) || slot != 0
  | 11 => slot != 0
  | _ => false

/-- The commands accepted in provisioning (R468). -/
def provisionOp (op : Nat) : Bool := op == 1 || op == 2 || op == 8 || op == 9

/-- A requester may write the mailbox (R468, R469). [log 27 DEDUCED] -/
def State.keyWriter (s : State) (rq : Requester) : Bool := rq == .keeper || (s.key.provision && rq == .service)

/-- The key core begins a mailbox command (R469). -/
def keyRun (v : Word) (holding : BitVec 5) (s : State) : State :=
  let k := field v 8 6
  match field v 0 4 with
  | 1 => startWrite 1 k (field v 16 5) s
  | 2 => startWrite 2 k (field v 16 5) s
  | 3 => startAttest k s
  | 7 => startSha s
  | 8 => startRandom s
  | 9 => startAdvance s
  | 10 => startTicket s
  | 11 => startTclear holding s
  | op => startCipher op k s

/-- The key core is at the check of a code, or at the verification of an image that is being loaded, which is a free value;
mailbox commands wait for it (R469). [log 140 DEDUCED] -/
def State.keyServing (s : State) : Bool := s.acc.write.isSome || (s.strct.shadow == .loading && s.freeVal.getLsbD 0)

/-- A mailbox command that waited begins once no code is checked any more. -/
def keyBegin (s : State) : State :=
  match s.key.waiting with
  | some (v, h) => if s.acc.write.isSome then s else keyRun v h (modKey (fun b => { b with waiting := none }) s)
  | none => s

/-- A write of KEY_CMD (R469). `holding` are the tamper sources whose condition holds at this instant. -/
def keyCmdWrite (rq : Requester) (v : Word) (holding : BitVec 5) (s : State) : State :=
  let op := field v 0 4
  let k := field v 8 6
  let bad := decide (op = 0 ∨ 11 < op ∨ field v 4 4 ≠ 0 ∨ field v 14 2 ≠ 0 ∨ field v 21 11 ≠ 0 ∨ argBad op k s.key.arg)
  if bad || !s.keyWriter rq then wrIf .key (s.keyWriter rq) bad rq 0x200E0020 id s
  else if s.key.state = .busy then setErr .key 2 s
  else if s.key.lcs = 6 ∨ (s.key.provision ∧ !provisionOp op) then keyEnd 1 (setErr .key 5 s)
  else
    let t := if s.strct.shadow = .loading then tickFree s else s
    if s.keyServing then modKey (fun b => { b with state := .busy, code := 0, waiting := some (v, holding) }) t
    else keyRun v holding t

/-- A write of the register KEY_CMD. Which tamper sources hold is a free value (R475). [log 140 DEDUCED] -/
def keyCmdReg (rq : Requester) (v : Word) (s : State) : State := keyCmdWrite rq v (s.freeVal.setWidth 5) (tickFree s)

/-- The word a command's row writes: the operand with the row's OP. -/
def cmdWord (op : Nat) (arg : Word) : Word := (arg &&& 0xFFFFFFF0#32) ||| BitVec.ofNat 32 op

/-- KEY_WRITE: a WRITE command. -/
def doKeyWrite (rq : Requester) (arg : Word) (s : State) : State := keyCmdWrite rq (cmdWord 1 arg) 0 s

/-- KEY_ERASE: an ERASE command. -/
def doKeyErase (rq : Requester) (arg : Word) (s : State) : State := keyCmdWrite rq (cmdWord 2 arg) 0 s

/-- ATTEST. -/
def doAttest (rq : Requester) (arg : Word) (s : State) : State := keyCmdWrite rq (cmdWord 3 arg) 0 s

/-- CMAC. -/
def doCmac (rq : Requester) (arg : Word) (s : State) : State := keyCmdWrite rq (cmdWord 4 arg) 0 s

/-- ENCRYPT. -/
def doEncrypt (rq : Requester) (arg : Word) (s : State) : State := keyCmdWrite rq (cmdWord 5 arg) 0 s

/-- DECRYPT. -/
def doDecrypt (rq : Requester) (arg : Word) (s : State) : State := keyCmdWrite rq (cmdWord 6 arg) 0 s

/-- SHA256. -/
def doSha256 (rq : Requester) (arg : Word) (s : State) : State := keyCmdWrite rq (cmdWord 7 arg) 0 s

/-- RANDOM. -/
def doRandom (rq : Requester) (arg : Word) (s : State) : State := keyCmdWrite rq (cmdWord 8 arg) 0 s

/-- ADVANCE. -/
def doAdvance (rq : Requester) (arg : Word) (s : State) : State := keyCmdWrite rq (cmdWord 9 arg) 0 s

/-- TICKET. -/
def doTicket (rq : Requester) (arg : Word) (s : State) : State := keyCmdWrite rq (cmdWord 10 arg) 0 s

/-- TCLEAR, with the tamper sources whose condition still holds. -/
def doTclear (rq : Requester) (arg : Word) (holding : BitVec 5) (s : State) : State :=
  keyCmdWrite rq (cmdWord 11 arg) holding s

/-! ### Ending a command -/

/-- The copy that a WRITE or ERASE writes (R461, R464). -/
def newCopy (j : KeyJob) (lcs : Nat) (x : KeySlot) : KeyCopy :=
  if j.op = 1 then ⟨true, j.flag, j.data, lcs, x.seq + 1, 0⟩ else ⟨false, 0, 0, x.root, x.seq + 1, 0⟩

/-- A slot after a WRITE or ERASE that ended `elapsed` µs after it was taken: the body of copy A is written from 10 µs and
its commit word at 310 µs, those of copy B from 320 µs and at 630 µs (Table 18.2). -/
def writeSlot (j : KeyJob) (lcs elapsed : Nat) (x : KeySlot) : KeySlot :=
  let n := newCopy j lcs x
  { x with
    a := if 310 ≤ elapsed then some n else if 10 ≤ elapsed then none else x.a
    b := if 630 ≤ elapsed then some n else if 320 ≤ elapsed then none else x.b }

/-- The effect of a command that has run to its end. -/
def keyEffect (j : KeyJob) (s : State) : State :=
  match j.op with
  | 1 =>
    let s := modSlot j.slot (writeSlot j s.key.lcs 630) s
    logEv 0xC001 3 locKeyCore (pack64 [(0, j.slot), (8, j.flag), (32, (s.slot j.slot).seq.toNat)]) s
  | 2 =>
    let s := modSlot j.slot (writeSlot j s.key.lcs 630) s
    logEv 0xC002 3 locKeyCore (pack64 [(0, j.slot), (32, (s.slot j.slot).seq.toNat)]) s
  | 3 =>
    logEv 0xC00A 2 locKeyCore (pack64 [(0, j.slot), (32, leAt j.out 0 4)]) (putBuf j.out s)
  | 9 =>
    let t := j.arg.toNat % 16
    logEv 0xC009 7 locKeyCore (pack64 [(0, s.key.lcs), (4, t)]) (modKey (fun b => b.burn 3 t) s)
  | 10 =>
    let pert := bit j.arg 0
    let s :=
      if pert then modPert (fun p => { p with ticket := true, ticketMask := BitVec.ofNat 7 j.flag }) s
      else modKey (fun b => { b with debug := true, withheld := b.withheld || b.lcs == 3 || b.lcs == 4 }) s
    logEv 0xC00B 7 locKeyCore (pack64 [(0, b01 pert)]) s
  | 11 =>
    let c := s.key.tamper
    logEv 0xC006 7 (locTile 3 7) (pack64 [(0, c.toNat)])
      (modKey (fun b => { b with tamper := 0, withheld := b.debug && (b.lcs == 3 || b.lcs == 4) }) s)
  | _ => putBuf j.out s

/-- KEY_CMD_DONE: the command in progress ends, one that waited once it has been served (R461, R469). -/
def doKeyCmdDone (s : State) : State :=
  let s := keyBegin s
  match s.key.job with
  | none => s
  | some j => keyEnd 0 (keyEffect j s)

/-! ### Tamper on the key core -/

/-- A slot is marked; the third mark disables it (R477). -/
def markSlot (k : Nat) (s : State) : State :=
  let m := (s.slot k).marks
  let mark := fun (c : KeyCopy) => { c with marks := min 3 (m + 1) }
  let s := modSlot k (fun x => { x with a := x.a.map mark, b := x.b.map mark }) s
  if m = 2 then logEv 0xC008 7 locKeyCore (pack64 [(0, k)]) s else s

/-- A command that is broken off leaves its slot as a power failure `elapsed` µs after it was taken would (R461, R462,
Table 18.2). How many fuse rows an ADVANCE has burnt is a free value (R463).
[log 85 DEDUCED] -/
def breakWrite (j : KeyJob) (elapsed : Nat) (s : State) : State :=
  if j.op ≤ 2 then modSlot j.slot (writeSlot j s.key.lcs elapsed) s
  else if j.op = 9 then
    tickFree (modKey (fun b => b.burn (s.freeVal.toNat % 4) (j.arg.toNat % 16)) s)
  else s

/-- A tamper aborts the command in progress (R476), `elapsed` µs after it was taken. -/
def abortKey (elapsed : Nat) (s : State) : State :=
  match s.key.job with
  | none => s
  | some j =>
    let s := modKey (fun b => { b with buf := Vector.replicate 256 0 }) (breakWrite j elapsed s)
    let s := if j.op ≤ 6 then markSlot j.slot s else s
    keyEnd 4 (logEv 0xC007 7 locKeyCore (pack64 [(0, j.slot), (8, j.op)]) s)

/-- The key core's side of a tamper (R474, R476): latched, the withheld set withdrawn, an operation in progress aborted. In
REST it is only latched, and its entry is written at the wake (R347). -/
def keyTamper (sources : BitVec 5) (elapsed : Nat) (rest : Bool) (s : State) : State :=
  let now := BitVec.ofNat 64 s.tb0Rest
  let s := modKey (fun b => { b with
    tamptime := if b.tamper = 0 then now else b.tamptime
    tamper := b.tamper ||| sources, withheld := true }) s
  if rest then { s with pwr := { s.pwr with restTampers := s.pwr.restTampers ++ [(now, s.key.tamper)] } }
  else abortKey elapsed (setIrq .key 1 (logEv 0xC005 7 (locTile 3 7) (pack64 [(0, s.key.tamper.toNat)]) s))

/-- TRNG_FAIL: the health tests of the TRNG fail, or have passed again (R470). -/
def doTrngFail (failed : Bool) (s : State) : State :=
  if s.key.trngFailed = failed then s
  else logEv 0xC00C 6 locKeyCore (pack64 [(0, b01 failed)]) (modKey (fun b => { b with trngFailed := failed }) s)

end Sys2Proof.Machine
end

