-- ==== Sys2Proof/Machine/Access.lean ====
section
/-! DEFINITION. Cab access tokens: the ACCESS section, handles, polls, the judging of replies, lock-out, sessions and
enrolment (R435 to R456). -/

namespace Sys2Proof.Machine

/-! ### The ACCESS section -/

/-- The fields of Table 17.8. -/
def Image.tokKey (g : Image) : Nat := leAt g.accessBody 0 1
def Image.lockMin (g : Image) : Nat := leAt g.accessBody 1 1
def Image.sysId (g : Image) : Nat := leAt g.accessBody 2 2
def Image.tmo (g : Image) : Nat := leAt g.accessBody 4 1
def Image.parkDays (g : Image) : Nat := leAt g.accessBody 5 1
def Image.tkrLat (g : Image) : Nat := leAt g.accessBody 6 1

/-- A reader record (Table 17.9). -/
def Image.reader (g : Image) (r : Nat) : List Byte := slice g.accessBody (8 + 28 * r) 28

/-- The fields of a reader record. -/
def rdClass (x : List Byte) : Nat := leAt x 0 1
def rdHandle (x : List Byte) : Nat := leAt x 1 1
def rdThr (x : List Byte) : Nat := leAt x 3 1
def rdDoor (x : List Byte) : Nat := leAt x 4 2
def rdPol (x : List Byte) : Bool := (leAt x 6 1).testBit 0
def rdRel (x : List Byte) : List Nat := (List.range (min 8 (leAt x 7 1))).map fun i => leAt x (8 + 2 * i) 2

/-- Ranges of a reader record: the reserved bits and bytes of every class; the other fields of class 0 are checked by
R456. -/
def readerRange (x : List Byte) : Bool :=
  let d := rdDoor x
  (rdClass x == 0 && decide (leAt x 6 1 ≤ 1) && zeros (slice x 24 4)) ||
  (decide (1 ≤ rdClass x) && decide (rdClass x ≤ 2) && (if rdClass x = 1 then decide (rdHandle x ≤ 1 ∧ 1 ≤ rdThr x)
     else rdHandle x == 0xFF && rdThr x == 0) &&
   within 10 100 (leAt x 2 1) && (decide (d < 128) || within 0x100 0x15F d || d == 0xFFFF) &&
   decide (leAt x 6 1 ≤ 1 ∧ leAt x 7 1 ≤ 8) && (rdRel x).all outNumber &&
   (List.range 8).all (fun i => decide (i < leAt x 7 1) || leAt x (8 + 2 * i) 2 == 0xFFFF) && zeros (slice x 24 4))

/-- ACCESS: ranges of the body (Tables 17.8 and 17.9). -/
def accessRange (g : Image) (body : List Byte) : Bool :=
  body.isEmpty ||
  (decide (g.tokKey ≤ 63) && within 1 30 g.lockMin && within 5 120 g.tmo && within 1 63 g.parkDays &&
   decide (g.tkrLat ≤ 200) && leAt body 7 1 == 0 && readerRange (g.reader 0) && readerRange (g.reader 1))

/-- A released output is a switch output that lists source 8. -/
def releaseOk (g : Image) (o : Nat) : Bool :=
  match getNat g.outs o none with
  | some r => decide (o < 96) && r.sources.any fun x => x.1 == 8
  | none => false

/-- The door input of a reader is an input of the image. -/
def doorOk (g : Image) (d : Nat) : Bool := d < 256 || d == 0xFFFF || (getNat g.hs (d - 256) default).fn == 4

/-- ACCESS against R456. -/
def accessClaim (g : Image) : Bool :=
  g.accessBody.isEmpty ||
  ([0, 1].all (fun r => let x := g.reader r
     if rdClass x = 0 then zeros x else (rdRel x).all (releaseOk g) && doorOk g (rdDoor x)) &&
   !(rdClass (g.reader 0) == 1 && rdClass (g.reader 1) == 1 && rdHandle (g.reader 0) == rdHandle (g.reader 1)))

/-! ### State and enabling -/

/-- The numbers in KEY_PENDMAP of what a write of the token store writes (R462). -/
def StoreOld.index : StoreOld → List Nat
  | .slot k _ => [64 + k.val]
  | .set _ _ => (List.range 16).map (64 + ·) ++ [80]
  | .lock _ _ _ => [81]

/-- A two-copy write of the token store takes place; the copies that it writes agree again (R444, R462).
[log 85 DEDUCED] -/
def storeWrite (old : StoreOld) (s : State) : State :=
  let recent := s.acc.writes.filter fun w => decide (s.tb0 < w.at_ + 1000000)
  { s with
    acc := { s.acc with writes := ⟨s.tb0, old⟩ :: recent }
    key := { s.key with torn := s.key.torn.filter fun k => !old.index.contains k } }

/-- Rewrite the ACC block, a reader, a token slot. -/
def modAcc (f : AccBlk → AccBlk) (s : State) : State := { s with acc := f s.acc }
def modRd (r : Fin 2) (f : Reader → Reader) (s : State) : State := modAcc (fun a => { a with rd := upd a.rd r f }) s
def modTok (k : Fin 16) (f : TokenSlot → TokenSlot) (s : State) : State := modAcc (fun a => { a with tok := upd a.tok k f }) s

/-- The lane of a reader's LF driver, and the access front-end tile (R455). -/
def locReader (r : Nat) : Word := locCode 2 3 5 0 r 0
def locAccess : Word := locTile 3 5

/-- The reader's record in force. -/
def State.rdRec (s : State) (r : Fin 2) : List Byte := s.cfg.reader r.val

/-- The ACCESS section is in force. -/
def State.accIn (s : State) : Bool := s.strct.inForce && !s.cfg.accessBody.isEmpty

/-- The keys of TOKKEY are usable (R441). -/
def State.accKeys (s : State) : Bool := s.key.released && s.slotReason s.cfg.tokKey 2 == 0

/-- ACC_STATUS.ENABLED. -/
def State.accEnabled (s : State) : Bool := s.accIn && s.accKeys

/-- Access is locked out. -/
def State.accLocked (s : State) : Bool := s.acc.lockUntil.isSome

/-- Polls stop: the poll in progress and those that wait. [log 80 DEDUCED] -/
def stopPolls (s : State) : State :=
  modAcc (fun a => { a with
    poll := none, ended := none, rd := a.rd.map fun x => { x with want := false, armed := false }
    learn := a.learn.map fun l => { l with armed := false } }) s

/-- ACC_STATUS.KEYBAD with its entries (R441, R457); without usable keys access is disabled and no poll runs (R439). -/
def accCheck (s : State) : State :=
  let bad := s.accIn && !s.accKeys
  let was := s.acc.keyBad
  let s := modAcc (fun a => { a with keyBad := bad }) s
  if !bad then s
  else
    stopPolls (if was then s
      else refuseBlock s.cfg.tokKey 2 (logEv 0xB00D 6 locAccess (pack64 [(0, s.cfg.tokKey)]) s))

/-- A counter of RD_COUNT, given by its lowest bit, has risen by 1 (R18). -/
def bumpRd (r : Fin 2) (lo : Nat) (s : State) : State := bump .acc (0x0410 + r.val * 0x100) lo 1 s

/-! ### Learning and failed attempts -/

/-- The tokens enrolled (LEARNSTAT). -/
def AccBlk.enrolled (a : AccBlk) : Nat := (a.tok.toList.filter (·.valid)).length

/-- Learning ends (R454). The manual gives no codes for the causes; they are numbered in the order of R454.
[log 81 DEDUCED] -/
def endLearn (cause : Nat) (s : State) : State :=
  match s.acc.learn with
  | none => s
  | some l => setIrq .acc 4 (logEv 0xB00A 3 (locReader l.reader.val) (pack64 [(0, s.acc.enrolled), (5, cause)])
      (modAcc (fun a => { a with learn := none }) s))

/-- A failed attempt, and the lock-out at the fifth within 60 s (R447). -/
def failAttempt (r : Fin 2) (slot rule id : Nat) (s : State) : State :=
  let now := s.tb0
  let s := setIrq .acc 1 (logEv 0xB002 7 (locReader r.val) (pack64 [(0, slot), (4, rule), (32, id)]) s)
  let l := now :: s.acc.failAt.filter fun t => decide (now < t + 60000000000)
  let s := bump .acc 0x02C 0 1 (modAcc (fun a => { a with fails := satInc a.fails, failAt := l }) s)
  if l.length < 5 then s
  else
    let s := storeWrite (.lock s.acc.lockUntil s.acc.lockLen s.acc.lockSeq) s
    let s := modAcc (fun a => { a with
      failAt := [], lockUntil := some (now + s.cfg.lockMin * 60000000000), lockLen := s.cfg.lockMin
      lockSeq := a.lockSeq + 1 }) s
    let s := setIrq .acc 2 (logEv 0xB007 7 locAccess (pack64 [(0, 1), (8, s.cfg.lockMin)]) s)
    endLearn 4 (stopPolls s)

/-! ### Sessions -/

/-- The released outputs of a reader. -/
def State.released (s : State) (r : Fin 2) : List Nat := rdRel (s.rdRec r)

/-- A session ends: source 8 withdraws the outputs that no running session releases (R449). -/
def endSession (r : Fin 2) (cause : Nat) (s : State) : State :=
  if (s.acc.rd[r]).sess.isNone then s
  else
    let s := modRd r (fun x => { x with sess := none, fresh := false, sessCause := cause }) s
    let s := setIrq .acc 3 (logEv 0xB008 2 (locReader r.val) (pack64 [(0, cause)]) s)
    let other : Fin 2 := if r = 0 then 1 else 0
    let kept := if (s.acc.rd[other]).sess.isSome then s.released other else []
    ((s.released r).filter fun o => !kept.contains o).foldl (fun s o => withdraw 8 o 0 s) s

/-- Every session ends. -/
def endSessions (cause : Nat) (s : State) : State := endSession 1 cause (endSession 0 cause s)

/-- A session starts or restarts (R448). -/
def startSession (r : Fin 2) (slot : Nat) (s : State) : State :=
  let s := modRd r (fun x => { x with
    sess := some (ceilDiv (s.cfg.tmo * 1000000000) s.T), fresh := true, sessSlot := slot }) s
  (s.released r).foldl (fun s o => deliverCmd 8 o 1 s) s

/-- The snapshot of an input holds an edge in the direction of the door: its last one, or one of several (R206, R449). -/
def State.doorEdge (s : State) (r : Fin 2) : Bool :=
  let x := s.rdRec r
  let d := rdDoor x
  let n := if d < 128 then (getNat s.din.ch d default).snap else (getNat s.hsw.inp (d - 256) default).snap
  d != 0xFFFF && n.edge && (n.lastRise == rdPol x || decide (2 ≤ n.edges))

/-- A session has reached its last commit (R449). -/
def State.sessDue (s : State) (r : Fin 2) : Bool :=
  let x := s.acc.rd[r]
  x.sess == some 0 || (x.sess == some 1 && !x.fresh)

/-- Before the intake of a tick closes, the sessions with a door edge or at their timeout end. -/
def sessionTick (s : State) : State :=
  [0, 1].foldl (fun s (r : Fin 2) =>
    if s.doorEdge r then endSession r 1 s else if s.sessDue r then endSession r 2 s else s) s

/-- At the commit mark: the session timeouts count, and a poll that waits may start where none runs, a learn poll that is due
too (R438, R439, R453). -/
def accCommit (s : State) : State :=
  accCheck (modAcc (fun a => { a with
    rd := a.rd.map fun x => { x with
      armed := x.want && a.poll.isNone
      sess := x.sess.map fun n => if x.fresh then n else n - 1
      fresh := false }
    learn := a.learn.map fun l => { l with armed := decide (l.pollAt ≤ s.tb0) && a.poll.isNone } }) s)

/-- SESSION_END: a session ends on its door edge, its timeout, or another cause that holds (R449). -/
def doSessionEnd (r : Fin 2) (cause : Fin 4) (s : State) : State :=
  match cause.val with
  | 1 => if s.doorEdge r then endSession r 1 s else s
  | 2 => if s.sessDue r then endSession r 2 s else s
  | 3 => if s.acc.learn.isSome ∨ s.pwr.mode ≠ .run then endSession r 3 s else s
  | _ => s

/-- A swap whose ACCESS section differs ends the sessions (R449); the polls of the old section stop. -/
def accSwap (old new : Image) (s : State) : State :=
  if old.accessBody = new.accessBody then s
  else stopPolls (modAcc (fun a => { a with rd := a.rd.map fun x => { x with depotAt := s.tb0 + 30000000000 } })
    (endSessions 3 s))

/-- The access engine's part of a tamper in RUN: sessions end, polls stop, and the key core's operation for a code is
aborted (R474, R476). [log 82 DEDUCED] -/
def accTamper (s : State) : State :=
  let s := if s.acc.write.isSome then
      logEv 0xC007 7 locKeyCore (pack64 [(0, s.cfg.tokKey)]) (markSlot s.cfg.tokKey s)
    else s
  stopPolls (modAcc (fun a => { a with write := none }) (endSessions 3 s))

/-- The tamper sources that are checked in the state the module is in: the clock monitor only in RUN (Table 18.6). -/
def State.tamperChecked (s : State) (sources : BitVec 5) : BitVec 5 :=
  if s.pwr.mode = .run ∨ s.pwr.mode = .entry then sources else sources &&& 0x17

/-- The entry window of a REST entry is open (Table 19.5): the logic is off, and the always-on tile watches. -/
def State.entryWindow (s : State) : Bool :=
  s.pwr.mode == .entry && !s.pwr.offEntry && decide (s.pwr.entryAt + 800 * s.pwr.unarch + 300000 ≤ s.tb0)

/-- TAMPER: a tamper source latches (R472, R474). -/
def doTamper (sources : BitVec 5) (elapsed : Nat) (s : State) : State :=
  let sources := s.tamperChecked sources
  if sources = 0 then s
  else
    match (if s.entryWindow then .rest else s.pwr.mode) with
    | .off => s
    | .rest => keyTamper sources elapsed true s
    | _ => accCheck (accTamper (keyTamper sources elapsed false s))

/-! ### Handles and polls -/

/-- A poll is requested for a reader (R437, R439, R447). -/
def requestPoll (r : Fin 2) (s : State) : State :=
  if s.accEnabled ∧ !s.accLocked ∧ rdClass (s.rdRec r) ≠ 0 then modRd r (fun x => { x with want := true }) s else s

/-- HANDLE_TOUCH: the rise of the capacitance exceeds the threshold at two consecutive scans, `a` and `b`: a touch on the
handle of a driver reader is confirmed (R437). -/
def doHandleTouch (r : Fin 2) (a b : Half) (s : State) : State :=
  let x := s.rdRec r
  if rdClass x = 1 ∧ (rdThr x : Int) < s16 a ∧ (rdThr x : Int) < s16 b ∧ !(s.acc.rd[r]).touch then
    requestPoll r (modRd r (fun x => { x with touch := true, touchAt := s.tb0, touchPolls := 1 }) s)
  else s

/-- TOUCH_REPEAT: a touch still confirmed requests a further poll 250 ms after the last, up to 8 (R437). -/
def doTouchRepeat (r : Fin 2) (s : State) : State :=
  let x := s.acc.rd[r]
  if x.touch ∧ x.touchPolls < 8 then
    requestPoll r (modRd r (fun x => { x with touchPolls := x.touchPolls + 1 })
      (passTo 0 ((x.touchAt + 250000000 * x.touchPolls) * 2 ^ 32) s))
  else s

/-- TOUCH_RELEASE: the rise is below half the threshold at two consecutive scans (R437). -/
def doTouchRelease (r : Fin 2) (a b : Half) (s : State) : State :=
  if (s.acc.rd[r]).touch ∧ 2 * s16 a < rdThr (s.rdRec r) ∧ 2 * s16 b < rdThr (s.rdRec r) then
    modRd r (fun x => { x with touch := false, touchPolls := 0 }) s
  else s

/-- RD_POLL: RD_CTRL.POLL (R439). -/
def rdCtrlWrite (rq : Requester) (r : Fin 2) (v : Word) (s : State) : State :=
  wrIf .acc (rq == .keeper) (decide (v.toNat ≥ 2)) rq (0x200D0400 + r.val * 0x100)
    (fun s =>
      if bit v 0 then requestPoll r s
      else s) s

def doRdPoll (rq : Requester) (r : Fin 2) (s : State) : State := rdCtrlWrite rq r 1 s

/-- DEPOT_POLL: the 30 s timer of a depot reader (R450). -/
def doDepotPoll (r : Fin 2) (s : State) : State :=
  if rdClass (s.rdRec r) = 2 then
    let s := passTo 0 ((s.acc.rd[r]).depotAt * 2 ^ 32) s
    requestPoll r (modRd r (fun x => { x with depotAt := s.tb0 + 30000000000 }) s)
  else s

/-- A reader goes first when both wait: the driver, then the lower number (R439). -/
def State.pollFirst (s : State) (r : Fin 2) : Bool :=
  let o : Fin 2 := if r = 0 then 1 else 0
  let cr := rdClass (s.rdRec r)
  let co := rdClass (s.rdRec o)
  !(s.acc.rd[o]).armed || decide (cr < co ∨ (cr = co ∧ r < o))

/-- The instant of the commit mark of the tick in progress on TB0, in ns. -/
def State.commitTb0 (s : State) : Nat := s.tb0 - (s.now - s.led.commitAt).toNat

/-- Learning runs on the other reader. -/
def State.learnsOther (s : State) (r : Fin 2) : Bool :=
  match s.acc.learn with
  | some l => l.reader != r
  | none => false

/-- POLL_START: the burst starts at the commit mark (R438, R439). -/
def doPollStart (r : Fin 2) (s : State) : State :=
  if (s.acc.rd[r]).armed ∧ s.tick.phase = .measure ∧ s.accEnabled ∧ !s.accLocked ∧ s.acc.poll.isNone ∧ s.pollFirst r ∧
      !s.learnsOther r then
    modAcc (fun a => { a with poll := some ⟨r, s.commitTb0, false, 0, 0, false, (s.acc.rd[r]).collRun⟩ })
      (bumpRd r 0 (modRd r (fun x => { x with want := false, armed := false, polls := satInc x.polls }) s))
  else s

/-! ### Judging a reply -/

/-- The fields of a record (Table 17.4): its status, ID, counter, and command. -/
def recStatus (b : List Byte) : Nat := leAt b 19 1
def recId (b : List Byte) : Nat := leAt b 2 4
def recCnt (b : List Byte) : Word := BitVec.ofNat 32 (leAt b 6 4)
def recCmd (b : List Byte) : Nat := leAt b 10 1

/-- A record is malformed (R442). -/
def recBad (b : List Byte) : Bool := b.length != 20 || leAt b 0 1 != 0xA5 || leAt b 1 1 != 17 || decide (1 < recStatus b)

/-- The MAC of a telegram verifies under the token key of its ID (R441, Table 17.4). -/
def State.macOk (s : State) (b : List Byte) : Bool :=
  let key := kdf (s.aesKey s.cfg.tokKey) [0x74, 0x6F, 0x6B, 0x65, 0x6E] (slice b 2 4)
  (cmac key (slice b 2 9)).take 8 == slice b 11 8

/-- The counter rule of R443. -/
inductive CntRule where
  | success | resync | failure
  deriving DecidableEq, Repr

/-- Success from 1 to 256, resynchronisation to 65,536, otherwise failure; a pending candidate is followed by its
successor. -/
def cntRule (last cnt : Word) (cand : Option Word) : CntRule :=
  let d := (cnt - last).toNat
  if cand.any fun c => cnt == c + 1 then .success
  else if d = 0 ∨ 65536 < d then .failure
  else if d ≤ 256 then .success
  else .resync

/-- A resynchronisation candidate lapses (R443). [log 82 DEDUCED] -/
def lapse (k : Fin 16) (s : State) : State :=
  logEv 0xB006 3 locAccess (pack64 [(0, k.val)]) (modTok k (fun x => { x with cand := none }) s)

/-- A candidate whose deadline has passed lapses. -/
def lapseDue (k : Fin 16) (s : State) : State :=
  match (s.acc.tok[k]).cand with
  | some (_, t) => if t ≤ s.tb0 then lapse k s else s
  | none => s

/-- The counter write that a judged code asks for (R444). -/
def beginWrite (r : Fin 2) (k : Fin 16) (cnt : Word) (kind : CntKind) (s : State) : State :=
  modAcc (fun a => { a with write := some ⟨r, k, cnt, kind, s.tb0⟩ }) s

/-- The counter write brings its token slot to the next sequence number, with both copies equal (R444). -/
def writeToken (w : CntWrite) (f : TokenSlot → TokenSlot) (s : State) : State :=
  modKey (fun b => { b with torn := b.torn.filter (· != 64 + w.slot.val) })
    (modTok w.slot (fun x => { f x with seq := x.seq + 1 }) s)

/-- The counter write in progress completes: the token slot holds the new counter or the candidate, and a success starts
the session (R444, R448). -/
def finishWrite (s : State) : State :=
  match s.acc.write with
  | none => s
  | some w =>
    let s := keyBegin (modAcc (fun a => { a with write := none }) s)
    match w.kind with
    | .success =>
      let s := bump .acc (0x100C + w.slot.val * 0x40) 0 1
        (writeToken w (fun x => { x with cnt := w.cnt, cand := none, uses := satInc x.uses }) s)
      let s := setIrq .acc 0 (logEv 0xB001 2 (locReader w.reader.val) (pack64 [(0, w.slot.val), (32, w.cnt.toNat)]) s)
      startSession w.reader w.slot.val s
    | .resync =>
      logEv 0xB005 3 (locReader w.reader.val) (pack64 [(0, w.slot.val), (32, w.cnt.toNat)])
        (writeToken w (fun x => { x with cand := some (w.cnt, w.takenAt + 10000000000) }) s)
    | .refused =>
      logEv 0xB003 3 (locReader w.reader.val) (pack64 [(0, w.slot.val)])
        (writeToken w (fun x => { x with cnt := w.cnt, cand := none }) s)

/-- Rewrite the poll in progress. -/
def modPoll (f : Poll → Poll) (s : State) : State := modAcc (fun a => { a with poll := a.poll.map f }) s

/-- A well-formed record in reply slot `k` (rules 3 to 8 of Table 17.5). A pending candidate ends with the write of what
follows it, or with a code that fails (R443, R476). -/
def judge (r : Fin 2) (k : Fin 16) (b : List Byte) (s : State) : State :=
  let s := lapseDue k s
  let t := s.acc.tok[k]
  if !t.valid ∨ recId b ≠ t.id.toNat ∨ recCmd b ≠ 1 then failAttempt r k.val 3 (recId b) s
  else if !s.macOk b then failAttempt r k.val 4 (recId b) (useSlot s.cfg.tokKey s)
  else
    let s := useSlot s.cfg.tokKey s
    let rule := cntRule t.cnt (recCnt b) (t.cand.map (·.1))
    let c := rdClass (s.rdRec r)
    if rule = .failure then failAttempt r k.val 5 (recId b) (modTok k (fun x => { x with cand := none }) s)
    else if !t.mask.testBit (c - 1) then beginWrite r k (recCnt b) .refused s
    else if rule = .resync then beginWrite r k (recCnt b) .resync s
    else
      beginWrite r k (recCnt b) .success (modPoll (fun p => { p with success := true }) s)

/-- A stray record (R440). [log 80 DEDUCED] -/
def strayRecord (s : State) : State :=
  let (key, loc) := match s.acc.poll with
    | some p => (0xA00000 + p.reader.val, locReader p.reader.val)
    | none => (0xA00002, locAccess)
  limited key (logEv 0xB00C 1 loc (pack64 [(0, 1)]))
    (bump .acc 0x02C 16 1 (modAcc (fun a => { a with stray := satInc a.stray }) s))

/-! ### Replies -/

/-- The reply slot of a poll that holds an instant on TB0, from the arrival of the start byte less the receiver latency
(Table 17.3); a learn poll has slot 0 alone (R438). -/
def Poll.slotAt (p : Poll) (t : Int) : Option (Fin 16) :=
  let d := t - p.start
  if h : 3000000 ≤ d ∧ d < 43000000 then
    (if p.learn ∧ 5500000 ≤ d then none else some ⟨((d - 3000000) / 2500000).toNat, by omega⟩)
  else none

/-- A record counts as a collision of its slot. [log 80 DEDUCED] -/
def collide (r : Fin 2) (k : Fin 16) (s : State) : State :=
  bumpRd r 16 (modRd r (fun x => { x with colls := satInc x.colls }) (modPoll (fun p => { p with coll := setBit p.coll k.val }) s))

/-- A valid record is enrolled in the next free slot (R453). -/
def enrol (l : LearnRun) (b : List Byte) (s : State) : State :=
  let n := s.acc.enrolled
  if h : n < 16 then
    let s := storeWrite (.slot ⟨n, h⟩ s.acc.tok[n]) s
    let s := modTok ⟨n, h⟩ (fun t => ⟨BitVec.ofNat 32 (recId b), recCnt b, l.mask, true, none, t.uses, t.seq + 1⟩) s
    let s := modAcc (fun a => { a with learn := a.learn.map fun l => { l with since := s.tb0 } }) s
    let s := setIrq .acc 4 (logEv 0xB009 3 (locReader l.reader.val) (pack64 [(0, n), (32, recId b)]) s)
    if n = 15 then endLearn 2 s else s
  else s

/-- A record that answers a learn poll (R453). [log 81 DEDUCED] -/
def judgeLearn (l : LearnRun) (b : List Byte) (s : State) : State :=
  let id := recId b
  if recBad b ∨ recStatus b = 1 then s
  else if id = 0 ∨ id = 0xFFFFFFFF ∨ s.acc.tok.toList.any (fun t => t.valid && t.id.toNat == id) then s
  else if !s.macOk b then failAttempt l.reader 0 4 id (useSlot s.cfg.tokKey s)
  else enrol l b (useSlot s.cfg.tokKey s)

/-- A record in a reply slot of the poll in progress (R442, R446, R453): a second one in a slot, or one that is malformed, is
a collision, which a learn poll does not count. [log 80 DEDUCED] -/
def takeRecord (p : Poll) (k : Fin 16) (b : List Byte) (s : State) : State :=
  let again := p.seen.getLsbD k.val
  let s := modPoll (fun q => { q with seen := setBit q.seen k.val }) s
  match p.learn, s.acc.learn with
  | true, some l => if again then s else judgeLearn l b s
  | true, none => s
  | false, _ =>
    if again ∨ recBad b ∨ recStatus b = 1 then (if p.coll.getLsbD k.val then s else collide p.reader k s)
    else judge p.reader k b s

/-- The collision run at the end of a poll (R445). -/
def collisionRun (p : Poll) (s : State) : State :=
  let r := p.reader
  if p.coll ≠ 0 ∧ !p.success then
    if p.run + 1 < 3 then modRd r (fun x => { x with collRun := p.run + 1 }) s
    else failAttempt r 0 0 0 (modRd r (fun x => { x with collRun := 0 }) s)
  else modRd r (fun x => { x with collRun := 0 }) s

/-- What the end of a poll writes of its collisions (R445, R455). -/
def pollEntries (p : Poll) (s : State) : State :=
  if p.learn then s
  else
    collisionRun p (if p.coll = 0 then s else
      limited (0xA00010 + p.reader.val) (logEv 0xB004 3 (locReader p.reader.val) (pack64 [(0, p.coll.toNat)])) s)

/-- A record of the last slot that completes after its poll has ended is judged in that poll, and what the poll's end counts
is counted again where the record changes it (R440, R445). [log 80 DEDUCED] -/
def lateRecord (p : Poll) (k : Fin 16) (b : List Byte) (s : State) : State :=
  let now := s.acc.poll
  let s := takeRecord p k b (modAcc (fun a => { a with poll := some p }) s)
  let q := s.acc.poll
  let s := modAcc (fun a => { a with poll := if s.accLocked then none else now, ended := q }) s
  match q with
  | some q => if q.coll = p.coll ∧ q.success = p.success then s else pollEntries q s
  | none => s

/-- TOKEN_RECORD: a record whose start byte arrived `age` ns ago is judged in its reply slot (R440, R442, R446).
[log 80 DEDUCED; 108 DESIGN CHOICE] -/
def doTokenRecord (bytes : List Byte) (age : Nat) (s : State) : State :=
  let s := accCheck s
  let t : Int := (s.tb0 : Int) - age - s.cfg.tkrLat * 10000
  match s.acc.ended.bind (fun p => (p.slotAt t).map (p, ·)), s.acc.poll.bind (fun p => (p.slotAt t).map (p, ·)) with
  | some (p, k), _ => lateRecord p k bytes (finishWrite s)
  | none, some (p, k) => takeRecord p k bytes (finishWrite s)
  | none, none => strayRecord s

/-- COUNTER_WRITE_DONE (R444). -/
def doCounterWriteDone (s : State) : State := finishWrite s

/-- POLL_END: 43.0 ms after the start of the burst, 5.5 ms for a learn poll (Table 17.3, R438). -/
def doPollEnd (s : State) : State :=
  match s.acc.poll with
  | none => s
  | some p =>
    let s := passTo 0 ((p.start + if p.learn then 5500000 else 43000000) * 2 ^ 32) s
    pollEntries p (modAcc (fun a => { a with poll := none, ended := some p }) s)

/-- RESYNC_LAPSED: the deadline of a candidate passes (R443). -/
def doResyncLapsed (k : Fin 16) (s : State) : State :=
  match (s.acc.tok[k]).cand with
  | some (_, t) => lapse k (passTo 0 (t * 2 ^ 32) s)
  | none => s

/-- LOCKOUT_END: the lock-out has run its time, in RUN or in REST (R447). In REST its entry waits for the wake.
[log 95 DEDUCED] -/
def doLockoutEnd (s : State) : State :=
  match s.acc.lockUntil with
  | none => s
  | some t =>
    if s.pwr.mode = .off then s
    else if s.pwr.mode = .rest then restTo t s
    else
    let s := passTo 0 (t * 2 ^ 32) s
    let s := storeWrite (.lock s.acc.lockUntil s.acc.lockLen s.acc.lockSeq) s
    setIrq .acc 2 (logEv 0xB007 7 locAccess (pack64 [(8, s.acc.lockLen)])
      (modAcc (fun a => { a with lockUntil := none, lockSeq := a.lockSeq + 1 }) s))

/-! ### Enrolment -/

/-- Learning begins: sessions end, the 16 slots are erased, and the reader enters learning (R452). [log 81 DEDUCED] -/
def startLearn (r : Fin 2) (mask : Nat) (s : State) : State :=
  let s := stopPolls (endSessions 3 s)
  let s := storeWrite (.set s.acc.tok s.acc.setSeq) s
  modAcc (fun a => { a with
    tok := a.tok.map fun t => { TokenSlot.empty with uses := t.uses, seq := t.seq }, write := none, setSeq := a.setSeq + 1
    learn := some ⟨r, mask, s.tb0, s.tb0 + 500000000, false⟩ }) s

/-- A write to ACC_LEARN (R452, R454). -/
def accLearnWrite (rq : Requester) (v : Word) (s : State) : State :=
  wrIf .acc (rq == .keeper) (decide (bit v 3 ∨ 64 ≤ v.toNat ∨ field v 4 2 = 0 ∨ (bit v 0 ∧ bit v 1))) rq 0x200D0020
    (fun s =>
      if bit v 0 ∧ s.accLocked then setErr .acc 2 s
      else if bit v 0 ∧ s.acc.learn.isSome then setErr .acc 3 s
      else
        let s := modAcc (fun a => { a with rdr := bit v 2, mask := field v 4 2 }) s
        if bit v 0 ∧ s.accEnabled then startLearn (if bit v 2 then 1 else 0) (field v 4 2) s
        else if bit v 1 then endLearn 1 s
        else s) s

/-- LEARN_START: a write of ACC_LEARN with START. -/
def doLearnStart (rq : Requester) (v : Word) (s : State) : State := accLearnWrite rq (setBit (clrBit v 1) 0) s

/-- LEARN_END: learning ends on a cause that holds (R454): 1 END from keeper level, 2 the sixteenth token, 3 120 s without
one, 4 a lock-out, 5 REST. -/
def doLearnEnd (cause : Fin 8) (s : State) : State :=
  match s.acc.learn with
  | none => s
  | some l =>
    match cause.val with
    | 1 => endLearn 1 s
    | 2 => if s.acc.enrolled = 16 then endLearn 2 s else s
    | 3 => endLearn 3 (passTo 0 ((l.since + 120000000000) * 2 ^ 32) s)
    | 4 => if s.accLocked then endLearn 4 s else s
    | 5 => if s.pwr.mode ≠ .run then endLearn 5 s else s
    | _ => s

/-- LEARN_POLL: a learn poll that is due starts its burst at the commit mark (R438, R453). -/
def doLearnPoll (s : State) : State :=
  match s.acc.learn with
  | none => s
  | some l =>
    if l.since + 120000000000 ≤ s.tb0 then endLearn 3 s
    else if l.armed ∧ s.tick.phase = .measure ∧ s.accEnabled ∧ s.acc.poll.isNone ∧ rdClass (s.rdRec l.reader) ≠ 0 then
      let start := s.commitTb0
      let next := l.pollAt + 500000000 * ((start - l.pollAt) / 500000000 + 1)
      modAcc (fun a => { a with
          learn := some { l with pollAt := next, armed := false }
          poll := some ⟨l.reader, start, true, 0, 0, false, (s.acc.rd[l.reader]).collRun⟩ })
        (bumpRd l.reader 0 (modRd l.reader (fun x => { x with polls := satInc x.polls }) s))
    else s

/-! ### REST -/

/-- PARK_STOP: after PARKDAYS in REST without a wake the periodic bursts stop (R451). -/
def doParkStop (s : State) : State :=
  if s.pwr.mode = .rest ∧ s.accIn then
    modAcc (fun a => { a with parked := true }) (restTo (s.pwr.restAt + s.cfg.parkDays * 86400000000000) s)
  else s

/-- Entry into REST: sessions and learning end, polls stop (R449, R454). -/
def accRest (s : State) : State := stopPolls (endLearn 5 (endSessions 3 s))

/-- The wake: PARK_STOP is written, and the periodic timers resume (R451). -/
def accWake (s : State) : State :=
  let p := s.acc.parked
  let s := modAcc (fun a => { a with
    parked := false, parkStop := p
    rd := a.rd.map fun x => { x with depotAt := s.tb0 + 30000000000, touch := false } }) s
  if p then logEv 0xB00B 2 locAccess (pack64 [(0, s.cfg.parkDays)]) s else s

end Sys2Proof.Machine
end

