-- ==== Sys2Proof/Machine/Audio.lean ====
section
/-! DEFINITION. The announcement and intercom path: the AUDIO section, the play-out buffers, ducking and the mix of the
zones (R421 to R434). -/

namespace Sys2Proof.Machine

/-! ### The AUDIO section -/

/-- The records of the AUDIO body, 8 bytes each. -/
def audioRecs (body : List Byte) : List (List Byte) := (List.range (leAt body 0 2)).map fun i => recAt body 8 i

/-- L of the AUDIO header. -/
def Image.lat (g : Image) : Nat := leAt g.audioBody 2 1

/-- The slots of a port: 0, 2, 4, 8 or 16 (Table 16.4). -/
def audioSlots (code : Nat) : Nat := if code = 0 then 0 else 2 ^ code

/-- The record of a KIND and number. -/
def Image.audRec (g : Image) (kind n : Nat) : Option (List Byte) :=
  (audioRecs g.audioBody).find? fun r => leAt r 0 1 == kind && leAt r 1 1 == n

/-- The STREAM record of a stream. -/
def Image.stream (g : Image) (k : Nat) : Option (List Byte) := g.audRec 1 k

/-- The ZONE record of a zone. -/
def Image.zone (g : Image) (z : Nat) : Option (List Byte) := g.audRec 2 z

/-- SRC, PRIO, ZONES, GAIN and DST of a STREAM record. -/
def strSrc (r : List Byte) : Nat := leAt r 2 1
def strPrio (r : List Byte) : Nat := leAt r 3 1
def strZones (r : List Byte) : Nat := leAt r 4 2
def strGain (r : List Byte) : Nat := leAt r 6 1
def strDst (r : List Byte) : Nat := leAt r 7 1

/-- Output slot, DUCK and FADE of a ZONE record. -/
def zoneSlot (r : List Byte) : Nat := leAt r 2 1
def zoneDuck (r : List Byte) : Nat := leAt r 3 1
def zoneFade (r : List Byte) : Nat := leAt r 4 2

/-- NS, the sample frames of a tick (R422). -/
def Image.ns (g : Image) : Nat := 12 * 2 ^ g.period

/-- The payload bytes of a stream frame (Table 16.2). -/
def Image.frameLen (g : Image) : Nat := 16 + 3 * g.ns

/-- A stream is local: it names an input slot. -/
def Image.isLocal (g : Image) (k : Nat) : Bool :=
  match g.stream k with
  | some r => strSrc r != 0xFF
  | none => false

/-- The local streams as a mask, as ROLL announces them. -/
def Image.localMask (g : Image) : Word := bitmap ((List.range 32).map g.isLocal)

/-- Ranges of one record (Table 16.5). -/
def audRange (r : List Byte) : Bool :=
  match leAt r 0 1 with
  | 1 =>
    decide (leAt r 1 1 ≤ 31) && (decide (strSrc r ≤ 0x1F) || strSrc r == 0xFF) && decide (strPrio r ≤ 7) &&
    decide (strGain r ≤ 127) &&
    (if strSrc r = 0xFF then strDst r == 0 else strDst r == 0xFF || within 0x80 0x8F (strDst r))
  | 2 => decide (leAt r 1 1 ≤ 15 ∧ zoneSlot r ≤ 0x1F ∧ zoneDuck r ≤ 127 ∧ zoneFade r ≤ 5000) && leAt r 6 2 == 0
  | _ => false

/-- AUDIO: header, order and records (R432). -/
def audioRange (_g : Image) (body : List Byte) : Bool :=
  body.isEmpty ||
  (decide (leAt body 0 2 ≤ 48) && within 2 16 (leAt body 2 1) && decide (leAt body 3 1 ≤ 4 ∧ leAt body 4 1 ≤ 4) &&
   zeros (slice body 5 3) && ascending ((audioRecs body).map fun r => leAt r 0 1 * 256 + leAt r 1 1) &&
   (audioRecs body).all audRange)

/-- A slot lies below its port's slot count. -/
def slotOk (g : Image) (slot : Nat) : Bool :=
  decide (slot % 16 < audioSlots (leAt g.audioBody (if slot < 16 then 3 else 4) 1))

/-- AUDIO against R433. -/
def audioClaim (g : Image) : Bool :=
  let rs := audioRecs g.audioBody
  let strs := rs.filter fun r => leAt r 0 1 == 1
  let zs := rs.filter fun r => leAt r 0 1 == 2
  let slots := ((strs.map strSrc).filter (· != 0xFF)) ++ zs.map zoneSlot
  slots.all (slotOk g) && slots.Nodup &&
  strs.all (fun r => (List.range 16).all fun z => !(strZones r).testBit z || (g.zone z).isSome) &&
  strs.all (fun r => g.streams.any fun x => x.1 == leAt r 1 1 && x.2 == g.frameLen) &&
  decide (leAt g.audioBody 2 1 * (strs.length * g.frameLen) ≤ 65536)

/-! ### Play-out buffers in DP0 -/

/-- The location code of the audio engine (R434). -/
def locAudio : Word := 0x81A00000#32

/-- Rewrite the AUD block. -/
def modAud (f : AudBlk → AudBlk) (s : State) : State := { s with aud := f s.aud }

/-- Rewrite one stream. -/
def modStream (k : Nat) (f : StreamState → StreamState) (s : State) : State :=
  modAud (fun a => { a with str := updNat a.str k f }) s

/-- One stream. -/
def State.str (s : State) (k : Nat) : StreamState := getNat s.aud.str k default

/-- The signed distance of two low words of tick numbers. -/
def tickDiff (a b : Word) : Int := (a - b).toInt

/-- The low word of the tick number. -/
def State.tickLo (s : State) : Word := s.tick.count.setWidth 32

/-- The slot in a stream's region of the frame whose PLAY is the low word of a tick number: that number modulo L. -/
def State.frameSlot (s : State) (play : Word) : Nat :=
  (s.tick.count + BitVec.ofInt 64 (tickDiff play s.tickLo)).toNat % s.cfg.lat

/-- The key of the frame of a tick in a stream's region of DP0. -/
def State.frameKey (s : State) (k : Nat) (play : Word) : Nat :=
  let below := ((List.range k).filter fun j => (s.cfg.stream j).isSome).length
  0x400000 + (below * s.cfg.lat + s.frameSlot play) * s.cfg.frameLen

/-- The frame of a stream is buffered (R426) by the engine whose writes are given: the fabric engine's a received one, the
audio engine's one of a local stream; it takes the place of the frame that stood in its slot. -/
def bufferFrame (write : Nat → List Byte → State → State) (k : Nat) (play : Word) (payload : List Byte) (s : State) :
    State :=
  modStream k (fun x => { x with
    held := play :: x.held.filter fun p => s.frameSlot p != s.frameSlot play })
    (write (s.frameKey k play) (slice payload 0 s.cfg.frameLen) s)

/-- The offset of a register of a stream (Table 16.9). -/
def strOff (k off : Nat) : Nat := 0x1000 + k * 0x40 + off

/-- FRAME_DROP: a frame is dropped as late or early (R426). [log 79 DEDUCED] -/
def dropFrame (k : Nat) (early : Bool) (play : Word) (s : State) : State :=
  let s :=
    if early then bump .aud (strOff k 0x10) 0 1 (modStream k (fun x => { x with early := satInc x.early }) s)
    else bump .aud (strOff k 0xC) 16 1 (modStream k (fun x => { x with late := satInc x.late }) s)
  limited (0x920000 + k) (logEv 0xA002 3 locAudio (pack64 [(0, k), (5, b01 early), (32, play.toNat)])) (setIrq .aud 1 s)

/-- The lowest position that announces a stream in ROLL, 0 for none (R428). [log 25 DEDUCED] -/
def State.announcer (s : State) (k : Nat) : Nat :=
  if s.fab.mustered then
    match (s.fab.roll.zipIdx).find? fun x => s.fab.rolls.any fun r => r.serial == x.1 && bit r.streams k with
    | some x => x.2 + 1
    | none => 0
  else 0

/-- A frame received for a stream, from a position, under a drove header's TICK (R426, R428). -/
def audioAccept (from_ : Nat) (hdr : Word) (payload : List Byte) (s : State) : State :=
  let k := leAt payload 0 1
  let play := BitVec.ofNat 32 (leAt payload 4 4)
  let ahead := tickDiff play s.tickLo
  let step := tickDiff play (hdr + BitVec.ofNat 32 s.cfg.lat - 1)
  if k < 32 ∧ (s.cfg.stream k).isSome ∧ s.announcer k = from_ ∧ from_ ≠ 0 then
    if ahead ≤ 0 then dropFrame k false play s
    else if (s.cfg.lat : Int) < ahead then dropFrame k true play s
    else if step < 0 then dropFrame k false play s
    else if 0 < step then dropFrame k true play s
    else if leAt payload 2 2 ≠ s.cfg.ns then dropFrame k false play s
    else bufferFrame fabricPut k play payload s
  else s

/-- A tick number jump drops the frames it strands (R426). -/
def strandFrames (s : State) : State :=
  (List.range 32).foldl (fun s k =>
    let bad := (s.str k).held.filter fun p => decide (tickDiff p s.tickLo < 0 ∨ (s.cfg.lat : Int) < tickDiff p s.tickLo)
    bad.foldl (fun s p => dropFrame k (decide (0 < tickDiff p s.tickLo)) p
      (modStream k (fun x => { x with held := x.held.filter (· != p) }) s)) s) s

/-- The payload of the frame a module takes in (Table 16.2). -/
def audioPayload (k : Nat) (active : Bool) (ns : Nat) (play : Word) (samples : List (BitVec 24)) : List Byte :=
  [BitVec.ofNat 8 k, BitVec.ofNat 8 (b01 active)] ++ leBytes 2 ns ++ leBytes 4 play.toNat ++ List.replicate 8 0 ++
    ((List.range ns).flatMap fun j => leBytes 3 (samples.getD j 0).toNat)

/-- ACTIVE_WRITE: AUD_STR_CTRL (R425). [log 79 DEDUCED] -/
def doActiveWrite (rq : Requester) (k : Fin 32) (v : Word) (s : State) : State :=
  wrIf .aud rq.isShepherd (decide (v.toNat ≥ 2)) rq (0x200C1000 + k.val * 0x40)
    (fun s =>
      if !s.cfg.isLocal k.val then setErr .aud 2 s
      else
        let on := bit v 0
        let was := (s.str k.val).active
        let s := modStream k.val (fun x => { x with active := on }) s
        if on = was then s else logEv 0xA006 1 locAudio (pack64 [(0, k.val), (8, b01 on)]) s) s

/-! ### Playing a tick -/

/-- What a stream plays in a tick: nothing, or its ACTIVE and samples. -/
abbrev Played := Option (Bool × List Int)

/-- The audio engine, ID 6, reads the frame buffered for the tick being played; a frame with an uncorrectable word is
discarded (R307, R308). -/
def playFrame (k : Nat) (s : State) : Played × State :=
  let key := s.frameKey k s.tickLo
  if (s.cfg.stream k).isSome ∧ s.tickLo ∈ (s.str k).held then
    let (ok, s) := eccSpan 6 key (s.cfg.frameLen / 4) s
    if ok && ofLe (portGet 6 (key + 4) 4 s) == s.tickLo.toNat then
      (some ((cellRead (s.ramFor 6) (key + 1)).getLsbD 0,
        (List.range s.cfg.ns).map fun j => (BitVec.ofNat 24 (ofLe (portGet 6 (key + 16 + 3 * j) 3 s))).toInt), s)
    else (none, s)
  else (none, s)

/-- What the 32 streams play in the tick. -/
def playFrames (s : State) : List Played × State :=
  (List.range 32).foldl (fun r k => let (p, s) := playFrame k r.2; (r.1 ++ [p], s)) ([], s)

/-- The largest magnitude of a list of samples. -/
def peakOf (xs : List Int) : BitVec 24 := BitVec.ofNat 24 (xs.foldl (fun m x => max m x.natAbs) 0)

/-- A stream's part of the tick: its activity and peak, or a missing frame (R427). [log 79 DEDUCED] -/
def playStream (k : Nat) (p : Played) (s : State) : State :=
  if (s.cfg.stream k).isNone then s
  else
    match p with
    | some (on, xs) => modStream k (fun x => { x with
        on := on, missRun := false, peak := peakOf xs, held := x.held.filter (· != s.tickLo) }) s
    | none =>
      let first := !(s.str k).missRun
      let s := bump .aud (strOff k 0xC) 0 1 (modStream k (fun x => { x with
        on := false, missRun := true, peak := 0, missing := satInc x.missing
        held := x.held.filter (· != s.tickLo) }) s)
      let s := setIrq .aud 0 s
      if first then limited (0x900000 + k) (logEv 0xA001 3 locAudio (pack64 [(0, k)])) s else s

/-- A stream is routed to a zone. -/
def Image.routed (g : Image) (k z : Nat) : Bool :=
  match g.stream k with
  | some r => (strZones r).testBit z
  | none => false

/-- The top level of a zone (R429). -/
def State.topOf (s : State) (z : Nat) : Option Nat :=
  (((List.range 32).filter fun k => s.cfg.routed k z && (s.str k).on).map fun k =>
    strPrio ((s.cfg.stream k).getD [])).foldl (fun m p => match m with
      | some q => some (min q p)
      | none => some p) none

/-- The target attenuation of a stream, in units of 0.5 dB / (4 × FADE), a FADE of 0 counting as 1 (R429). -/
def duckTarget (duck fade prio : Nat) (top : Option Nat) : Nat :=
  match top with
  | none => 0
  | some t => if prio = t then 0 else duck * 4 * max 1 fade

/-- The change of the attenuation in a tick, at most DUCK × T / (2 × FADE) dB (R430). [log 78 DEDUCED] -/
def duckDelta (duck fade q cur target : Nat) : Int :=
  if fade = 0 then 0 else clampInt (-(duck * q : Int)) (duck * q) ((target : Int) - cur)

/-- 10^(−2^−i) for i = 0 to 47, rounded down, in units of 2^−64. -/
def tenRoots : List Nat :=
  [1844674407370955161, 5833372668713515884, 10373366507857047691, 13833106561912589466, 15974222249986187368,
   17166024281179726951, 17794866020231970093, 18117873476243550816, 18281569275533082467, 18363970967401100472,
   18405310989295467800, 18426015885604990307, 18436377066545962525, 18441559841645213226, 18444151775531150574,
   18445447879080593254, 18446095965009732965, 18446420016513257420, 18446582044399802050, 18446663058876775434,
   18446703566248688078, 18446723819968000973, 18446733946835996574, 18446739010272079165, 18446741541990641657,
   18446742807850053203, 18446743440779791551, 18446743757244668869, 18446743915477109563, 18446743994593330420,
   18446744034151440975, 18446744053930496285, 18446744063820023947, 18446744068764787781, 18446744071237169698,
   18446744072473360657, 18446744073091456136, 18446744073400503876, 18446744073555027746, 18446744073632289681,
   18446744073670920648, 18446744073690236132, 18446744073699893874, 18446744073704722745, 18446744073707137180,
   18446744073708344398, 18446744073708948007, 18446744073709249811]

/-- A product of two numbers in units of 2^−64, rounded down, or up. -/
def mul64 (up : Bool) (a b : Nat) : Nat := if up then ceilDiv (a * b) (2 ^ 64) else a * b / 2 ^ 64

/-- 10^(−r/d) for r < d in units of 2^−64, from below or from above, by the binary digits of r/d: `acc` is the product so
far. The digits beyond the roots of the list take away less than 3 × 2^−47. -/
def tenPart (up : Bool) (d : Nat) : List Nat → Nat → Nat → Nat
  | [], r, acc => if up ∨ r = 0 then acc else mul64 false acc (2 ^ 64 - 3 * 2 ^ 17)
  | c :: cs, r, acc =>
    if d ≤ 2 * r then tenPart up d cs (2 * r - d) (mul64 up acc (if up then c + 1 else c))
    else tenPart up d cs (2 * r) acc

/-- x × 10^(−n/d) from below or from above, for x at or above 0. -/
def tenTimes (up : Bool) (x n d : Nat) : Nat :=
  let p := tenPart up d (tenRoots.drop 1) (n % d) (2 ^ 64)
  if up then ceilDiv (x * p) (2 ^ 64 * 10 ^ (n / d)) else x * p / (2 ^ 64 * 10 ^ (n / d))

/-- A sample attenuated by num/den half decibels (R431): the product x × 10^(−num/(40 × den)), rounded to a neighbour; which
one is left open. [log 12 DESIGN CHOICE] -/
def attenuate (x : Int) (num den : Nat) : Int :=
  let lo : Int := tenTimes false x.natAbs num (40 * den)
  let hi : Int := tenTimes true x.natAbs num (40 * den)
  if 0 ≤ x then clampInt lo hi (Config.attenuated x num den) else clampInt (-hi) (-lo) (Config.attenuated x num den)

/-- One stream's contribution to sample `j` of a zone (R430, R431). [log 12 DESIGN CHOICE; 78 DEDUCED] -/
def mixSample (x : Int) (ns duck fade gain cur : Nat) (delta : Int) (j : Nat) : Int :=
  let f := max 1 fade
  let a := ((cur * ns : Int) + delta * j).toNat
  if duck = 127 ∧ 127 * 4 * f * ns ≤ a then 0
  else if a = 0 ∧ gain = 0 then x
  else attenuate x (a + gain * 4 * f * ns) (4 * f * ns)

/-- The largest and the smallest sample. -/
def satSample (x : Int) : Int := clampInt (-8388608) 8388607 x

/-- A zone's part of the tick: top level, ducking, mix and saturation (R429 to R431).
[log 12 DESIGN CHOICE; 78 DEDUCED] -/
def playZone (plays : List Played) (z : Nat) (s : State) : State :=
  match s.cfg.zone z with
  | none => s
  | some r =>
    let duck := zoneDuck r
    let fade := zoneFade r
    let ns := s.cfg.ns
    let x := getNat s.aud.zone z default
    let top := s.topOf z
    let ks := (List.range 32).filter fun k => s.cfg.routed k z
    let prioOf := fun k => strPrio ((s.cfg.stream k).getD [])
    let target := fun k => duckTarget duck fade (prioOf k) top
    let cur := fun k => if fade = 0 then target k else getNat x.att k 0
    let delta := fun k => duckDelta duck fade (2 ^ s.cfg.period) (cur k) (target k)
    let sum := (List.range ns).map fun j => (ks.map fun k =>
      match plays.getD k none with
      | some p => mixSample (p.2.getD j 0) ns duck fade (strGain ((s.cfg.stream k).getD [])) (cur k) (delta k) j
      | none => 0).sum
    let quiet := decide (0 < x.silent)
    let out := if quiet then List.replicate ns 0 else sum.map satSample
    let clips := if quiet then 0 else (sum.filter fun v => satSample v != v).length
    let y : ZoneState := { x with
      top := top
      peak := peakOf out
      clips := satAdd x.clips clips
      clipRun := decide (0 < clips)
      silent := x.silent - 1
      att := Vector.ofFn fun k => if s.cfg.routed k.val z then ((cur k.val : Int) + delta k.val).toNat else 0
      out := out.map fun v => BitVec.ofInt 24 v }
    let s := bump .aud (0x2000 + z * 0x40 + 8) 0 clips
      (modAud (fun a => { a with zone := updNat a.zone z fun _ => y, clip := a.clip || decide (0 < clips) }) s)
    let s := if 0 < clips then
        let s := setIrq .aud 3 s
        if x.clipRun then s else limited (0x910000 + z) (logEv 0xA004 3 locAudio (pack64 [(0, z)])) s
      else s
    if top = x.top then s
    else setIrq .aud 4 (logEv 0xA005 1 locAudio (pack64 [(0, z), (4, top.getD 0), (7, b01 top.isNone),
      (8, x.top.getD 0), (11, b01 x.top.isNone)]) s)

/-- At a sample mark the audio engine takes ACTIVE of each stream and plays the frames of the tick (R423, R425, R427). -/
def audioTick (s : State) : State :=
  let (plays, s) := playFrames s
  let s := modAud (fun a => { a with
    clip := false
    missing := (List.range 32).any fun k => (s.cfg.stream k).isSome && (plays.getD k none).isNone
    str := a.str.map fun x => { x with marked := x.active } }) s
  let s := (List.range 32).foldl (fun s k => playStream k (plays.getD k none) s) s
  (List.range 16).foldl (fun s z => playZone plays z s) s

/-- The sample frame in progress: its number from the start of the tick, and what of it has passed, in units of 1/T of a
frame. A step of the driving base is no time that passes: in a stretched tick the ports run on at the last rate (R422). -/
def State.sampleFrame (s : State) : Nat × Nat :=
  let x := ((s.now.toNat : Int) - s.tick.startDrv.toNat - s.tick.stepSum).toNat * s.cfg.ns
  (x / s.T, x % s.T)

/-- An output slot takes its samples from a zone, an input slot gives a stream its own (Table 16.1). -/
def State.zoneOf (s : State) (slot : Nat) : Option Nat :=
  (List.range 16).find? fun z => (s.cfg.zone z).any fun r => zoneSlot r == slot
def State.inputSlot (s : State) (slot : Nat) : Bool :=
  (List.range 32).any fun k => (s.cfg.stream k).any fun r => strSrc r == slot

/-- The sample that a slot carries in a sample frame of the tick: that of the zone on the slot, 0 in an unused slot and behind
the last frame of a stretched tick (R421, R422). -/
def State.slotOut (s : State) (slot j : Nat) : BitVec 24 :=
  match s.zoneOf slot with
  | some z => if s.tick.phase = .off then 0 else (getNat s.aud.zone z default).out.getD j 0
  | none => 0

/-- The pins of a TDM port: BCLK, FS and the data output, which is not driven in an input slot (Table 16.1). -/
structure TdmPins where
  bclk : Bool
  fs : Bool
  data : Option Bool
  deriving DecidableEq, Repr, Inhabited

/-- The pins of a TDM port at this instant (R421, R422): 32 BCLK periods a slot, FS, and the data one period behind it, the
sample first with its highest bit and 8 bits of 0 behind it. A port with slot count 0 drives all of them low.
[log 139 DEDUCED] -/
def State.tdmPins (s : State) (port : Fin 2) : TdmPins :=
  let n := audioSlots (leAt s.cfg.audioBody (3 + port.val) 1)
  if n = 0 ∨ s.tick.phase = .off then ⟨false, false, some false⟩
  else
    let f := s.sampleFrame
    let half := f.2 * 64 * n / s.T
    let b := half / 2
    let e := (b + 32 * n - 1) % (32 * n)
    let slot := 16 * port.val + e / 32
    let word : Word := s.slotOut slot f.1 ++ (0#8 : BitVec 8)
    { bclk := half % 2 == 1
      fs := if n = 2 then decide (32 ≤ b) else b == 0
      data := if s.inputSlot slot then none else some (word.getLsbD (31 - e % 32)) }

/-! ### Swap, start and end -/

/-- The zones that a swap changes: by their own record, a stream routed to them, or the header. -/
def changedZones (old new : Image) : BitVec 16 :=
  let all := slice old.audioBody 2 3 != slice new.audioBody 2 3
  let strs := (List.range 32).filter fun k => old.stream k != new.stream k
  BitVec.ofNat 16 (bitmap ((List.range 16).map fun z => all || old.zone z != new.zone z ||
    strs.any fun k => old.routed k z || new.routed k z)).toNat

/-- A swap whose AUDIO section differs: a zone's attenuations start at 0 dB where the stream joins or the zone
changed, and the change takes effect at the commit (R430, R433). [log 78 DEDUCED] -/
def audioSwap (old new : Image) (s : State) : State :=
  if old.audioBody = new.audioBody then s
  else modAud (fun a => { a with
    changed := some (changedZones old new)
    str := mapUnits a.str fun k x => { x with
      active := x.active && new.isLocal k.val, on := x.on && (new.stream k.val).isSome }
    zone := mapUnits a.zone fun z x => if (new.zone z.val).isNone then default else
      { x with att := Vector.ofFn fun k =>
        if old.routed k.val z.val && old.zone z.val == new.zone z.val then x.att[k] else 0 } }) s

/-- At the commit of the swap tick every changed zone falls silent for L ticks and the buffers are emptied (R433). -/
def audioCommit (s : State) : State :=
  match s.aud.changed with
  | none => s
  | some m => modAud (fun a => { a with
      changed := none
      str := a.str.map fun x => { x with held := [] }
      zone := mapUnits a.zone fun z x => if m.getLsbD z.val then { x with silent := s.cfg.lat, out := [] } else x }) s

end Sys2Proof.Machine
end

