-- ==== Sys2Proof/Machine/Buses.lean ====
section
/-! DEFINITION. Message buses: error confinement, frames in queues, filters and mapping, network time, transceivers and
wake. -/

namespace Sys2Proof.Machine

/-! ### Channels -/

/-- Rewrite one channel. -/
def modCh (k : Fin 6) (f : MbusChan → MbusChan) (s : State) : State := { s with mbus := { s.mbus with ch := upd s.mbus.ch k f } }

/-- The location code of a controller and of a transceiver (R420). -/
def locCtl (k : Nat) : Word := locCode 3 0 12 k 0 0
def locTrx (k : Nat) : Word := locCode 2 3 4 k k 0

/-- The channel has a CHANNEL record in the image in force (R403). -/
def State.configured (s : State) (k : Nat) : Bool := (s.cfg.chan k).isSome

/-- The channel's record; zeros without one. -/
def State.chRec (s : State) (k : Nat) : List Byte := (s.cfg.chan k).getD []

/-- Either error counter exceeds 127 (R395). -/
def MbusChan.passive (c : MbusChan) : Bool := decide (127 < c.txerr ∨ 127 < c.rxerr)

/-- The controller takes part in the bus: out of initialisation, not in bus-off, its transceiver on. -/
def MbusChan.up (c : MbusChan) : Bool := !c.inInit && !c.busoff && decide (c.trx.val < 2)

/-- A configured controller takes part in the bus. -/
def State.canUp (s : State) (k : Fin 6) : Bool := s.configured k.val && s.mbus.ch[k].up

/-- The controller sends: its transceiver is NORMAL, and it does not run restricted (R397, R414). -/
def MbusChan.sends (c : MbusChan) : Bool := c.up && c.trx == 0 && !c.restricted

/-- A configured controller may send. -/
def State.canSend (s : State) (k : Fin 6) : Bool := s.configured k.val && s.mbus.ch[k].sends

/-- A change of initialisation or transceiver keeps what stood before, with the instant. -/
def MbusChan.mark (now : Nat) (c : MbusChan) : MbusChan := { c with past := (now, c.inInit, c.trx) :: c.past.take 7 }

/-- The channel as it stood at an instant: a request takes effect at the end of the frame in progress, so a frame that began
before the request runs to its end as if there were none (R396, R414). [log 70 DEDUCED] -/
def MbusChan.before (t : Nat) (c : MbusChan) : MbusChan :=
  match (c.past.filter fun x => decide (t < x.1)).getLast? with
  | some x => { c with inInit := x.2.1, trx := x.2.2 }
  | none => c

/-- The channel as it stood at the start of a frame that began `age` ns ago. -/
def State.atStart (s : State) (k : Fin 6) (age : Nat) : MbusChan := s.mbus.ch[k].before (s.tb0 - age)

/-- The offset of a register of a channel (Table 15.10). -/
def chOff (k off : Nat) : Nat := 0x1000 + k * 0x1000 + off

/-- A counter of a channel rises. -/
def bumpCh (k : Fin 6) (off lo : Nat) (f : MbusChan → MbusChan) (s : State) : State :=
  bump .mbus (chOff k.val off) lo 1 (modCh k f s)

/-- CH_STATUS.STATE (Table 15.10). -/
def State.chState (s : State) (k : Fin 6) : Nat :=
  let c := s.mbus.ch[k]
  if !s.configured k.val then 0
  else if c.busoff then 4
  else if c.inInit then 1
  else if c.restricted then 5
  else if c.passive then 3
  else 2

/-! ### Error confinement -/

/-- ERR_PASSIVE when a change of the counters crosses the limit (R395, Table 15.8). -/
def notePassive (k : Fin 6) (was : Bool) (s : State) : State :=
  let now := s.mbus.ch[k].passive
  if now = was ∨ s.mbus.ch[k].busoff then s
  else
    let s := logEv 0x9003 3 (locCtl k.val) (pack64 [(0, b01 now)]) s
    if now then setIrq .mbus 1 s else s

/-- Bus-off once the transmit error counter exceeds 255 (R395). -/
def noteBusOff (k : Fin 6) (s : State) : State :=
  let c := s.mbus.ch[k]
  if 255 < c.txerr then
    setIrq .mbus 0 (logEv 0x9001 4 (locCtl k.val) (pack64 [(0, c.txerr), (16, c.lec)])
      (modCh k (fun c => { c with busoff := true, recov := 0 }) s))
  else s

/-- An error counted by a transmitter (8) or a receiver (1, or 8 in the cases ISO 11898-1 names); `special` marks the cases
in which ISO 11898-1 leaves the transmit counter or counts 8 for a receiver. -/
def busError (k : Fin 6) (tx special : Bool) (code : Nat) (s : State) : State :=
  let was := s.mbus.ch[k].passive
  let s := modCh k (fun c => { c with
    lec := code, txdto := false
    txerr := if tx && !special then c.txerr + 8 else c.txerr
    rxerr := if tx then c.rxerr else min 255 (c.rxerr + if special then 8 else 1) }) s
  noteBusOff k (notePassive k was s)

/-- A controller integrates and rejoins error active with both counters at 0 (R396). -/
def rejoin (k : Fin 6) (s : State) : State :=
  notePassive k s.mbus.ch[k].passive (modCh k (fun c => { c with txerr := 0, rxerr := 0 }) s)

/-- A transceiver takes a state (Table 15.6); TRX_STATE records a change. From STANDBY or SLEEP to NORMAL or LISTEN the
controller integrates (R414). `at_` is TB0 in ns at the request. [log 70 DEDUCED] -/
def setTrx (k : Fin 6) (v : Fin 4) (at_ : Nat) (s : State) : State :=
  let c := s.mbus.ch[k]
  if c.trx = v then s
  else
    let s := logEv 0x900C 2 (locTrx k.val) (pack64 [(0, v.val), (2, c.trx.val)])
      (modCh k (fun c => { c.mark at_ with trx := v, armed := false }) s)
    if 2 ≤ c.trx.val ∧ v.val < 2 ∧ !c.inInit ∧ !c.busoff then rejoin k s else s

/-- A request of the channel waits for the end of the frame in progress. -/
def MbusChan.waits (c : MbusChan) : Bool := c.initWait || c.trxWait.isSome

/-- The frame in progress has ended: the requests that wait for it take effect (R396, R414). -/
def endFrame (k : Fin 6) (s : State) : State :=
  let c := s.mbus.ch[k]
  let s := modCh k (fun c => { c with initWait := false, trxWait := none }) s
  let s := if c.initWait then
      modCh k (fun c => { c.mark c.reqAt with inInit := !c.busoff || c.inInit }) s else s
  match c.trxWait with
  | some v => setTrx k v c.reqAt s
  | none => s

/-- Whether the frame in progress has ended no command reports: a free value says so whenever the channel is looked at, and
at the request itself that the bus is idle (R396, R414). [log 70 DEDUCED] -/
def frameLook (k : Fin 6) (s : State) : State :=
  if s.mbus.ch[k].waits then (if s.freeVal.getLsbD 0 then endFrame k (tickFree s) else tickFree s) else s

/-- A frame that began `age` ns ago ends with this event: one that was in progress at a request is the one the request waits
for, a later one shows that it has ended (R396, R414). [log 70 DEDUCED] -/
def withFrame (k : Fin 6) (age : Nat) (f : State → State) (s : State) : State :=
  let s := if s.mbus.ch[k].waits && decide (s.mbus.ch[k].reqAt ≤ s.tb0 - age) then endFrame k s else s
  let s := f s
  if s.mbus.ch[k].waits then endFrame k s else s

/-- A request waits for the end of the frame in progress. -/
def MbusChan.request (now : Nat) (c : MbusChan) : MbusChan := { c with reqAt := if c.waits then c.reqAt else now }

/-- CAN_BUS_ERROR: a controller detects an error on its bus, in a frame that began `age` ns ago (R395). In LISTEN and in
restricted operation the counters do not change (R397, R414). -/
def doCanBusError (k : Fin 6) (tx special : Bool) (code : Fin 7) (age : Nat) (s : State) : State :=
  withFrame k age (fun s =>
    if s.configured k.val && (s.atStart k age).sends && code != 0 then busError k tx special code.val s else s) s

/-- BUS_ON: the return from bus-off after 128 sequences of 11 recessive bits (R395); with INIT set the controller then
enters initialisation (R396). -/
def doBusOn (k : Fin 6) (s : State) : State :=
  let c := s.mbus.ch[k]
  if c.busoff then
    logEv 0x9002 2 (locCtl k.val) 0
      (modCh k (fun c => { c with busoff := false, txerr := 0, rxerr := 0, recov := 128, inInit := c.initReq }) s)
  else s

/-- The sequences of 11 recessive bits counted so far in bus-off rise to a free number below 128 whenever they are looked
at; no command reports each of them (R395). [log 130 DEDUCED] -/
def recovNow (k : Fin 6) (s : State) : State :=
  let c := s.mbus.ch[k]
  if c.busoff then tickFree (modCh k (fun c => { c with recov := c.recov + s.freeVal.toNat % (128 - c.recov) }) s) else s

/-- Who may write CH_CTRL and CH_TRX: the shepherd core (Table 15.9's chapter, R557). -/
def mbusWriter (rq : Requester) : Bool := rq.isShepherd

/-- CH_CTRL.INIT (R396): 1 at the end of the frame in progress, or at once on an idle bus, a bus that the controller does not
take part in, or in bus-off. An unconfigured channel cannot leave initialisation, a configured one not before the first
commit of a start or a wake (R403). [log 70 DEDUCED] -/
def chInit (k : Fin 6) (v : Bool) (s : State) : State :=
  let c := s.mbus.ch[k]
  if v then
    if c.up && s.configured k.val then
      frameLook k (modCh k (fun c => { c.request s.tb0 with initReq := true, initWait := true }) s)
    else modCh k (fun c => { c.mark s.tb0 with initReq := true, inInit := !c.busoff || c.inInit }) s
  else if s.configured k.val ∧ c.inInit ∧ (c.initReq ∨ s.mbus.started) then
    rejoin k (modCh k (fun c => { c.mark s.tb0 with initReq := false, inInit := false }) s)
  else modCh k (fun c => { c with initReq := false, initWait := false }) s

/-- CH_INIT: a write of CH_CTRL.INIT. -/
def doChInit (rq : Requester) (k : Fin 6) (v : Bool) (s : State) : State :=
  if mbusWriter rq then chInit k v s else setErr .mbus 1 s

/-- CLRCNT clears the counters of a channel (Table 15.10). -/
def chClear (k : Fin 6) (s : State) : State :=
  modCh k (fun c => { c with rxframes := 0, txframes := 0, rxdrop := 0, txref := 0, reject := 0, mapshort := 0, pairs := 0 }) s

/-- MBUS_CLRCNT: a write of CH_CTRL.CLRCNT. -/
def doMbusClrcnt (rq : Requester) (k : Fin 6) (s : State) : State :=
  if mbusWriter rq then chClear k s else setErr .mbus 1 s

/-! ### Transceivers -/

/-- INH is driven, and the logic supply enabled, while a powered transceiver is in a state that holds it (Table 15.6, R415);
in REST only those of the trunks have power (R489). -/
def State.inh (s : State) : Bool :=
  match s.pwr.mode with
  | .off => false
  | .rest => s.mbus.ch[4].trx != 3 || s.mbus.ch[5].trx != 3
  | _ => s.mbus.ch.toList.any fun c => c.trx != 3

/-- The address of a register of a channel. -/
def chAddr (k off : Nat) : Nat := 0x200B1000 + k * 0x1000 + off

/-- A requested transceiver state: at the end of the frame in progress, or at once on an idle bus or with a controller that
takes no part in it (R414). [log 70 DEDUCED] -/
def reqTrx (k : Fin 6) (v : Fin 4) (s : State) : State :=
  let c := s.mbus.ch[k]
  if c.up && s.configured k.val && c.trx != v then
    frameLook k (modCh k (fun c => { c.request s.tb0 with trxWait := some v }) s)
  else setTrx k v s.tb0 (modCh k (fun c => { c with trxWait := none }) s)

/-- TRX_REQ: a write of CH_TRX.REQ (R414). An unconfigured channel takes STANDBY only. -/
def doTrxReq (rq : Requester) (k : Fin 6) (v : Fin 4) (s : State) : State :=
  wrIf .mbus (mbusWriter rq) (decide (!s.configured k.val ∧ v ≠ 2)) rq (chAddr k.val 0xC)
    (fun s => reqTrx k v (modCh k (fun c => { c with req := v }) s)) s

/-- TXD_TIMEOUT: a transmitter dominant for 4 ms releases the bus until TX returns recessive (R416). [log 70 DEDUCED] -/
def doTxdTimeout (k : Fin 6) (s : State) : State :=
  if s.mbus.ch[k].trx = 0 then
    setIrq .mbus 7 (logEv 0x900D 4 (locTrx k.val) 0 (modCh k (fun c => { c with txdto := true }) s))
  else s

/-- Whether TX has returned recessive no command reports: a free value says so whenever the flag is looked at (R416).
[log 70 DEDUCED] -/
def txdNow (k : Fin 6) (s : State) : State :=
  if s.mbus.ch[k].txdto then
    tickFree (modCh k (fun c => { c with txdto := !s.freeVal.getLsbD 0 }) s)
  else s

/-- Configured channels leave initialisation at the first commit after a start or a wake, and their transceivers enter
NORMAL (R403). -/
def mbusFirstCommit (s : State) : State :=
  if s.mbus.started then s
  else
    let s := (List.finRange 6).foldl (fun s k =>
      if s.configured k.val then setTrx k 0 s.tb0 (modCh k (fun c => { c.mark s.tb0 with inInit := c.initReq }) s) else s) s
    { s with mbus := { s.mbus with started := true } }

/-! ### Frames and entries -/

/-- Data bytes of an FD frame by DLC. -/
def fdLen (dlc : Nat) : Nat :=
  match dlc with
  | 9 => 12 | 10 => 16 | 11 => 20 | 12 => 24 | 13 => 32 | 14 => 48 | 15 => 64
  | n => n

/-- Data bytes of a frame. -/
def dataLen (fd remote : Bool) (dlc : Nat) : Nat := if remote then 0 else if fd then fdLen dlc else min dlc 8

/-- Data bytes of a frame on the bus. -/
def CanFrame.len (f : CanFrame) : Nat := dataLen f.fd f.remote f.dlc.toNat

/-- The data bytes that a frame's DLC gives it. -/
def CanFrame.bytes (f : CanFrame) : List Byte := slice f.data 0 f.len

/-- A channel can carry the frame (Table 15.1). -/
def State.carries (s : State) (k : Fin 6) (f : CanFrame) : Bool :=
  (f.ext || decide (f.id.toNat < 2048)) &&
  (if f.fd then decide (4 ≤ k.val) && chFd (s.chRec k.val) && !f.remote else !f.brs && !f.esi)

/-- The entries of a frame of `n` data bytes (R404). -/
def entryCount (n : Nat) : Nat := if n ≤ 16 then 1 else if n ≤ 48 then 2 else 3

/-- The flags byte of an entry. -/
def CanFrame.flags (f : CanFrame) : Nat := f.dlc.toNat + 16 * b01 f.fd + 32 * b01 f.brs + 64 * b01 f.esi

/-- The entries of a received frame (Table 15.4). -/
def rxEntries (k idx : Nat) (stamp : DWord) (f : CanFrame) : List (List Byte) :=
  let d := f.bytes
  let first := leBytes 4 (f.id.toNat + 2 ^ 29 * b01 f.ext + 2 ^ 30 * b01 f.remote) ++
    [BitVec.ofNat 8 f.flags, BitVec.ofNat 8 k] ++ leBytes 2 idx ++ leBytes 8 stamp.toNat ++ slice d 0 16
  ([first, slice d 16 32, slice d 48 16 ++ List.replicate 16 0]).take (entryCount d.length)

/-- The payload of RX_FRAME and TX_FRAME. -/
def framePayload (f : CanFrame) (idx : Nat) : DWord :=
  pack64 [(0, f.id.toNat), (29, b01 f.ext), (30, b01 f.fd), (31, b01 f.brs), (32, f.dlc.toNat), (48, idx)]

/-! ### Filters and mapping -/

/-- A frame on a channel matches a FILTER record (R408). -/
def flMatch (k : Nat) (f : CanFrame) (r : List Byte) : Bool :=
  (leAt r 1 1).testBit k && (flIde r == f.ext) &&
  (flFrame r == 0 || (flFrame r == 1 && !f.fd) || (flFrame r == 2 && f.fd)) && (flRtr r == f.remote) &&
  decide ((f.id.toNat ^^^ leAt r 4 4) &&& leAt r 8 4 = 0)

/-- A queue has `n` entries free (R405). -/
def State.qSpace (s : State) (q n : Nat) : Bool :=
  match s.qBind q with
  | some c => decide ((s.q q).count + n ≤ c.slots)
  | none => false

/-- Room for `n` entries in a queue, the last of them too (R405, Table 21.1). -/
def State.qRoom (s : State) (q n : Nat) : Bool := s.qSpace q n && !s.pertFullAt q ((s.q q).count + n - 1)

/-- The entries of an accepted frame go to its queue, all of them or none (R405). -/
def queueFrame (k : Fin 6) (r : List Byte) (idx : Nat) (stamp : DWord) (f : CanFrame) (s : State) : State :=
  let q := leAt r 3 1
  let es := rxEntries k.val idx stamp f
  if s.qRoom q es.length then es.foldl (fun s e => (qPush 9 q e s).2) s
  else
    let s := if s.pertFullAt q ((s.q q).count + es.length - 1) && s.qSpace q es.length then pertHit 2 1 s else s
    let s := setIrq .mbus 2 (bumpCh k 0x18 0 (fun c => { c with rxdrop := satInc c.rxdrop }) s)
    limited (0x500000 + k.val) (logEv 0x9006 3 (locCtl k.val) (pack64 [(0, q), (48, idx)])) s

/-- The command a frame carries for a mapping record (R409): too short, none, or a word. -/
def mappedWord (r : List Byte) (d : List Byte) : Option (Option Word) :=
  if flForm r = 0 then
    if d.length ≤ flByte r then none
    else
      let b := byteAt d (flByte r)
      some (if b.getLsbD (2 * flBitix r) then some (BitVec.ofNat 32 (b01 (b.getLsbD (2 * flBitix r + 1)))) else none)
  else if d.length < flByte r + 4 then none
  else
    let w := BitVec.ofNat 32 (leAt d (flByte r) 4)
    some (if w = 0xFFFFFFFF#32 then none else some w)

/-- Source 7 is live for an output (R410). -/
def setMapLive (o : Nat) (b : Bool) (s : State) : State :=
  { s with hurdle := { s.hurdle with mapLive := updNat s.hurdle.mapLive o (fun _ => b) } }

/-- A frame maps to its output as source 7 (R409, R410). -/
def mapFrame (k : Fin 6) (r : List Byte) (idx : Nat) (f : CanFrame) (s : State) : State :=
  match mappedWord r f.bytes with
  | none => bumpCh k 0x1C 16 (fun c => { c with mapshort := satInc c.mapshort }) s
  | some w =>
    let o := flOut r
    let s := { s with mbus := { s.mbus with
      mapped := (idx, s.tick.executed) :: s.mbus.mapped.filter fun x => x.1 != idx } }
    let s := setMapLive (s.leadOut o) true s
    match w with
    | some w => deliverCmd 7 o w s
    | none => withdraw 7 o 0 s

/-- The filters applied to a valid frame (R408); one that a trunk accepts renews the watch of R503. -/
def filterFrame (k : Fin 6) (f : CanFrame) (age : Nat) (s : State) : State :=
  match (s.cfg.filters.zipIdx).find? fun x => flMatch k.val f x.1 with
  | none => bumpCh k 0x1C 0 (fun c => { c with reject := satInc c.reject }) s
  | some (r, idx) =>
    if flAction r = 0 then bumpCh k 0x1C 0 (fun c => { c with reject := satInc c.reject }) s
    else
      let s := if 4 ≤ k.val then { s with pwr := { s.pwr with quietSince := s.tb0 } } else s
      let s := if flLog r then logAgo age 0x9004 1 (locCtl k.val) (framePayload f idx) s else s
      let b : Fin 4 := ⟨leAt (s.chRec k.val) 3 1 % 4, by omega⟩
      let s := if leAt r 3 1 ≠ 0xFF then queueFrame k r idx (stampAgo b age s) f s else s
      if flMaps r then mapFrame k r idx f s else s

/-! ### Network time -/

/-- The reference period in ticks (R411). -/
def State.refTicks (s : State) (k : Nat) : Nat := 8 * chRefPer (s.chRec k)

/-- A pair of reference and follow-up at a follower (R412, R413). -/
def refPair (k : Fin 6) (own master : DWord) (s : State) : State :=
  let theta : Int := (own - master).toInt
  let p : Int := s.refTicks k.val * s.T
  let b := s.time.tb[2]
  let s := bumpCh k 0x24 0 (fun c => { c with pairs := satInc c.pairs, pairAt := some s.tick.executed }) s
  let s := { s with mbus := { s.mbus with tb2lock := true } }
  if b.oos && b.stepOk then
    stepBase 2 (b.ns - (own - master)) false (setSlew 2 false (modCh k (fun c => { c with freq := 0, inRange := 0 }) s))
  else
    let (f, rate) := steer s.mbus.ch[k].freq theta p
    let near := if theta.natAbs ≤ 1000 then s.mbus.ch[k].inRange + 1 else 0
    let s := modCh k (fun c => { c with freq := f, inRange := near }) s
    let s := steerBase 2 rate s
    if b.oos ∧ 8 ≤ near then tickFree (setOos 2 false (s.freeVal.toNat % 16) s) else s

/-- References and follow-ups are taken before the filters (R411, R412). -/
def refFrame (k : Fin 6) (f : CanFrame) (age : Nat) (s : State) : State :=
  let r := s.chRec k.val
  let base := !f.ext && !f.fd && !f.remote
  let id := f.id.toNat
  if chRole r = 2 then
    if !f.ext ∧ id = chRefId r then
      setIrq .mbus 5 (logEv 0x900A 4 (locCtl k.val) (pack64 [(0, k.val)]) s)
    else s
  else if chRole r = 1 ∧ base then
    if id = chRefId r ∧ f.dlc = 0 then
      modCh k (fun c => { c with lastRef := some (s.tick.executed, stampAgo 2 age s) }) s
    else if id = chRefId r + 1 ∧ f.dlc = 8 then
      match s.mbus.ch[k].lastRef with
      | some (t, st) =>
        if s.tick.executed - t ≤ 4 then refPair k st (BitVec.ofNat 64 (ofLe f.bytes)) s else s
      | none => s
    else s
  else s

/-- A reference is queued, behind a follow-up that still waits to be sent (R411). -/
def MbusChan.queueRef (c : MbusChan) : MbusChan :=
  match c.refTx with
  | .follow _ => { c with refDue := true }
  | _ => { c with refTx := .ref }

/-- REF_SEND: the master queues a reference at the commit mark of a tick whose number is a multiple of 8 × REFPER
(R411). -/
def doRefSend (s : State) : State :=
  (List.finRange 6).foldl (fun s k =>
    let due := chRole (s.chRec k.val) == 2 && decide (s.tick.count.toNat % s.refTicks k.val = 0) &&
      (s.tick.phase == .measure || s.tick.phase == .guard) && s.mbus.ch[k].refAt != some s.tick.executed
    if due then modCh k (fun c => { c.queueRef with refAt := some s.tick.executed }) s else s) s

/-- REF_LOST: no pair within 4 × P takes TB2 out of service (R413); nothing steers it any more (R341). The pairs that return
it to service are counted from here. [log 71 DEDUCED] -/
def doRefLost (s : State) : State :=
  (List.finRange 6).foldl (fun s k =>
    match s.mbus.ch[k].pairAt with
    | some t =>
      if chRole (s.chRec k.val) = 1 ∧ s.mbus.tb2lock ∧ 4 * s.refTicks k.val < s.tick.executed - t then
        let s := setSlew 2 false (modCh k (fun c => { c with inRange := 0 })
          { s with mbus := { s.mbus with tb2lock := false } })
        setOos 2 true 4 (setIrq .mbus 5 (logEv 0x9009 4 (locCtl k.val) (pack64 [(0, k.val)]) s))
      else s
    | none => s) s

/-! ### Frames received and sent -/

/-- The perturbation BUSBIT is to invert a bit of the next frame on a channel (Table 21.1). [log 68 PRESUMED] -/
def State.bitHit (s : State) (k : Fin 6) : Bool :=
  s.pertOn 4 && field s.pert.par[4] 0 3 == k.val && decide (0 < s.pert.frames)

/-- One more of the FRAMES frames of BUSBIT has passed. [log 68 PRESUMED] -/
def useBit (s : State) : State := { s with pert := { s.pert with frames := s.pert.frames - 1 } }

/-- A number as `n` bits, the most significant first. -/
def msbBits (n v : Nat) : List Bool := (List.range n).map fun i => v.testBit (n - 1 - i)

/-- The bits of a frame from its start of frame to the end of its data, without stuff bits (ISO 11898-1).
[log 68 PRESUMED] -/
def CanFrame.headBits (f : CanFrame) : List Bool :=
  let id := f.id.toNat
  let ident := if f.ext then msbBits 11 (id / 262144) ++ [true, true] ++ msbBits 18 id else msbBits 11 id
  let ctl :=
    if !f.fd then [f.remote, false, false]
    else if f.ext then [false, true, false, f.brs, f.esi] else [false, false, true, false, f.brs, f.esi]
  [false] ++ ident ++ ctl ++ msbBits 4 f.dlc.toNat ++ f.bytes.flatMap fun b => msbBits 8 b.toNat

/-- The checksum of 15 bits of a classical frame (ISO 11898-1). [log 68 PRESUMED] -/
def crc15 (bs : List Bool) : Nat :=
  bs.foldl (fun c b => if c.testBit 14 != b then (2 * c % 32768) ^^^ 0x4599 else 2 * c % 32768) 0

/-- The stuff bits of a row of bits: one after every five equal bits, stuff bits included (ISO 11898-1).
[log 68 PRESUMED] -/
def stuffBits (bs : List Bool) : Nat :=
  (bs.foldl (fun (x : Bool × Nat × Nat) b =>
    let run := if b == x.1 then x.2.1 + 1 else 1
    if run = 5 then (!b, 1, x.2.2 + 1) else (b, run, x.2.2)) (true, 0, 0)).2.2

/-- The length of a frame from its start to the end of its end-of-frame field, stuff bits included (ISO 11898-1): an FD frame
has fixed stuff bits in its stuff count and checksum. [log 68 PRESUMED] -/
def CanFrame.frameBits (f : CanFrame) : Nat :=
  let h := f.headBits
  if f.fd then h.length + stuffBits h.dropLast + (if f.len ≤ 16 then 37 else 42)
  else h.length + 15 + stuffBits (h ++ msbBits 15 (crc15 h)) + 10

/-- The inverted bit lies within the frame; its last bit is none of a receiver's, for which the frame is valid before it
(R405). [log 68 PRESUMED] -/
def bitInside (tx : Bool) (p : Nat) (f : CanFrame) : Bool := decide (p + b01 (!tx) < f.frameBits)

/-- The counters after a frame received without error, as ISO 11898-1 lays down (R395): a counter above 127 takes a
value from 119 to 127 that the standard leaves open. In LISTEN the counters stand (R414). [log 69 DEDUCED] -/
def rxGood (k : Fin 6) (listen : Bool) (s : State) : State :=
  let c := s.mbus.ch[k]
  let was := c.passive
  if listen then s
  else
    let v := if c.rxerr ≤ 127 then c.rxerr - 1 else 119 + s.freeVal.toNat % 9
    notePassive k was (tickFree (modCh k (fun c => { c with rxerr := v }) s))

/-- A frame that the perturbation falsifies is an error on the bus instead of a frame; a controller that only listens or
runs restricted sends no error frame and counts none (R397, R414). [log 68 PRESUMED] -/
def falsified (k : Fin 6) (tx : Bool) (counts : Bool) (s : State) : State :=
  let s := pertHit 4 1 (useBit s)
  if counts then tickFree (busError k tx false (1 + s.freeVal.toNat % 6) s) else s

/-- CAN_RX_FRAME: a frame becomes valid on a channel (R405); `age` is the time since its start of frame in ns, which says how
the channel stood when the frame began. Frames of one cycle are taken in ascending channel order (R407). -/
def doCanRxFrame (k : Fin 6) (f : CanFrame) (age : Nat) : State → State := withFrame k age fun s =>
  let c := s.atStart k age
  if !(s.configured k.val && c.up && s.carries k f) then s
  else if s.bitHit k ∧ bitInside false (field s.pert.par[4] 8 13) f then falsified k false c.sends s
  else
    let s := inTurn .mbus 0x20000 k.val s
    let s := if s.bitHit k then useBit s else s
    let s := rxGood k (c.trx != 0) (bumpCh k 0x10 0 (fun c => { c with rxframes := satInc c.rxframes }) s)
    filterFrame k f age (refFrame k f age s)

/-- Entry `j` from the head of a queue. -/
def State.qPeek (s : State) (c : QueueCfg) (q j : Nat) : List Byte :=
  ramGet (c.entryAt (((s.q q).head + j) % c.slots)) c.bytes s

/-- The frame that a first entry and its followers spell. -/
def entryFrame (es : List (List Byte)) : CanFrame :=
  let e := es.headD []
  let w := leAt e 0 4
  let fl := leAt e 4 1
  let fd := fl.testBit 4
  let remote := w.testBit 30
  let n := dataLen fd remote (fl % 16)
  { id := BitVec.ofNat 29 (if w.testBit 29 then w else w % 2048), ext := w.testBit 29, fd := fd, brs := fl.testBit 5
    esi := false, remote := remote, dlc := BitVec.ofNat 4 fl
    data := slice (e.drop 16 ++ (es.drop 1).flatten) 0 n }

/-- A frame to send is refused (R406). -/
def txBad (s : State) (k : Fin 6) (e : List Byte) : Bool :=
  let w := leAt e 0 4
  let fl := leAt e 4 1
  let fd := fl.testBit 4
  leAt e 5 1 != k.val || w.testBit 31 || (w.testBit 30 && fd) || (fl.testBit 5 && !fd) ||
  (fd && !(decide (4 ≤ k.val) && chFd (s.chRec k.val)))

/-- CAN_TX_TAKE: the engine takes the next frame of a transmit queue once all of its entries stand there (R406). Nothing is
taken while a frame or a reference waits to be sent, in bus-off, in initialisation, or in restricted operation. -/
def doCanTxTake (k : Fin 6) (s : State) : State :=
  let s := frameLook k s
  let q := chTxq (s.chRec k.val)
  match s.qBind q with
  | none => s
  | some c =>
    let ch := s.mbus.ch[k]
    let x := s.q q
    let e := s.qPeek c q 0
    let n := entryCount (dataLen ((leAt e 4 1).testBit 4) ((leAt e 0 4).testBit 30) (leAt e 4 1 % 16))
    if !(s.canSend k && decide (q < 128) && ch.pend.isNone && ch.refTx == .none && decide (0 < x.count) && decide (n ≤ x.count)) then s
    else
      let es := (List.range n).map fun j => s.qPeek c q j
      let bad := txBad s k e
      let (ok, s) := (List.range n).foldl (fun (r : Bool × State) _ =>
        match qPop 9 q r.2 with
        | (.unread, _, s) => (false, s)
        | (_, _, s) => (r.1, s)) (true, s)
      if bad then
        let s := setIrq .mbus 3 (bumpCh k 0x18 16 (fun c => { c with txref := satInc c.txref }) s)
        limited (0x600000 + k.val)
          (logEv 0x9007 3 (locCtl k.val) (pack64 [(0, leAt e 0 4 % 2 ^ 29), (32, leAt e 4 1)])) s
      else if ok then
        modCh k (fun c => { c with pend := some ⟨entryFrame es, (leAt e 4 1).testBit 7⟩ }) s
      else s

/-- The counters after a frame sent. -/
def txGood (k : Fin 6) (s : State) : State :=
  let was := s.mbus.ch[k].passive
  notePassive k was
    (bumpCh k 0x14 0 (fun c => { c with txerr := c.txerr - 1, txframes := satInc c.txframes, txdto := false }) s)

/-- The frame that a channel sends next: a follow-up with the stamp of its reference, the frame taken from the queue, or a
reference (R406, R411). -/
def State.nextTx (s : State) (k : Fin 6) (c : MbusChan) : Option CanFrame :=
  let ref := chRefId (s.chRec k.val)
  match c.refTx, c.pend with
  | .follow st, _ => some ⟨BitVec.ofNat 29 (ref + 1), false, false, false, false, false, 8, leBytes 8 st.toNat⟩
  | _, some p => some p.f
  | .ref, none => some ⟨BitVec.ofNat 29 ref, false, false, false, false, false, 0, []⟩
  | .none, none => none

/-- TX_FRAME: the channel has sent its next frame (R406, R411): a follow-up first, then the frame taken from the queue, then
a reference. `age` is the time since its start of frame, `delay` the loop delay measured in an FD frame (R400). -/
def doTxFrame (k : Fin 6) (age delay : Nat) : State → State := withFrame k age fun s =>
  let c := s.atStart k age
  if !(s.configured k.val && c.sends) then s
  else if s.bitHit k ∧ (s.nextTx k c).any (bitInside true (field s.pert.par[4] 8 13)) then falsified k true true s
  else
    let s := if s.bitHit k ∧ (s.nextTx k c).isSome then useBit s else s
    match c.refTx, c.pend with
    | .follow _, _ => txGood k (modCh k (fun c => { c with
        refTx := if c.refDue then .ref else .none, refDue := false }) s)
    | _, some p =>
      let s := txGood k (modCh k (fun c => { c with
        pend := none
        tdcv := if p.f.fd && decide (0 < leAt (s.chRec k.val) 0xC 1) then min delay 127 else c.tdcv }) s)
      if p.log then logAgo age 0x9005 1 (locCtl k.val) (framePayload p.f 0) s else s
    | .ref, none => txGood k (modCh k (fun c => { c with refTx := .follow (stampAgo 2 age s) }) s)
    | .none, none => s

/-- The mapping records of an output with their indices; one that names another member of a group names its leader
(R90). -/
def State.mapsOf (s : State) (o : Nat) : List (List Byte × Nat) :=
  s.cfg.filters.zipIdx.filter fun x => flMaps x.1 && s.leadOut (flOut x.1) == s.leadOut o

/-- Every mapping record's timeout of an output has run out (R410). -/
def State.mapExpired (s : State) (o : Nat) : Bool :=
  (s.mapsOf o).all fun x =>
    match s.mbus.mapped.find? fun m => m.1 == x.2 with
    | some m => decide (16 * flTout x.1 ≤ s.tick.executed - m.2)
    | none => true

/-- The mapping record of an output that mapped last: its index, and the lowest channel it applies to. -/
def State.lastMap (s : State) (o : Nat) : Nat × Nat :=
  let idx := ((s.mbus.mapped.find? fun m => (s.mapsOf o).any fun x => x.2 == m.1).map (·.1)).getD 0
  (idx, ((List.range 6).find? fun k => (leAt (s.cfg.filters.getD idx []) 1 1).testBit k).getD 0)

/-- MAP_TIMEOUT: source 7 falls absent for an output when every mapping record's timeout has run out (R410). -/
def doMapTimeout (o : Fin 256) (s : State) : State :=
  if s.hurdle.mapLive[o] ∧ s.mapExpired o.val then
    let s := setMapLive o.val false s
    limited (0x700000 + o.val) (fun s =>
      setIrq .mbus 4 (logEv 0x9008 3 (locCtl (s.lastMap o.val).2) (pack64 [(0, o.val), (16, (s.lastMap o.val).1)]) s)) s
  else s

/-- Every timeout that has run out by the envelope phase. -/
def mapTimeouts (s : State) : State := (List.finRange 256).foldl (fun s o => doMapTimeout o s) s

/-! ### Restricted operation and wake -/

/-- A trunk whose data-phase bit rate exceeds 1 Mbit/s (R397). -/
def State.fastTrunk (s : State) (k : Nat) : Bool :=
  let r := s.chRec k
  let (dp, d1, d2, _) := chTiming r 8
  decide (4 ≤ k) && chFd r && decide (dp * (1 + d1 + d2) < 80)

/-- Restricted operation follows CLOCK_DEGRADED (R397). -/
def mbusDegraded (on : Bool) (s : State) : State :=
  (List.finRange 6).foldl (fun s k =>
    let want := on && s.fastTrunk k.val
    if s.mbus.ch[k].restricted = want then s
    else logEv 0x900B 3 (locCtl k.val) (pack64 [(0, b01 want)]) (modCh k (fun c => { c with restricted := want }) s)) s

/-- The mapped frames that a new image keeps: a mapping record that stands in it too keeps its last frame under its new index;
any other has mapped none (R410). [log 131 DEDUCED] -/
def keepMapped (old new : Image) (l : List (Nat × Nat)) : List (Nat × Nat) :=
  l.filterMap fun m => match old.filters[m.1]? with
    | some r => if new.filters.contains r then some (new.filters.idxOf r, m.2) else none
    | none => none

/-- A trunk that becomes the follower while a reference is held counts 4 × P from here; one that is no follower any more
forgets its references (R412, R413). [log 131 DEDUCED] -/
def followSwap (old new : Image) (k : Fin 6) (s : State) : State :=
  let was := chRole ((old.chan k.val).getD []) == 1
  let is := chRole ((new.chan k.val).getD []) == 1
  if is && !was then
    modCh k (fun c => { c with pairAt := if s.mbus.tb2lock then some s.tick.executed else none }) s
  else if was && !is then modCh k (fun c => { c with pairAt := none, lastRef := none, freq := 0, inRange := 0 }) s
  else s

/-- The channels at a swap: one that loses its record goes back to initialisation and STANDBY, one that gains a record waits
there for its INIT and REQ to be written (R403); a trunk's bit rates may change (R397), and a module that is no follower
any more steers TB2 no longer. [log 131 DEDUCED] -/
def mbusSwap (old new : Image) (s : State) : State :=
  let s := (List.finRange 6).foldl (fun s k =>
    let s := followSwap old new k s
    if (old.chan k.val).isSome ∧ (new.chan k.val).isNone then
      setTrx k 2 s.tb0 (modCh k (fun c => { c.mark s.tb0 with inInit := true, initWait := false, trxWait := none }) s)
    else s) s
  let s := mbusDegraded s.pwr.degraded { s with mbus := { s.mbus with mapped := keepMapped old new s.mbus.mapped } }
  if old.follows && !new.follows then setSlew 2 false { s with mbus := { s.mbus with tb2lock := false } } else s

/-- WAKE_PATTERN: a wake-up pattern on a bus sets the channel's wake latch, or arms the address decoder (R417). In
REST nothing but the latch is powered. [log 70 DEDUCED] -/
def doWakePattern (k : Fin 6) (s : State) : State :=
  if s.pwr.mode = .off ∨ (s.pwr.mode = .rest ∧ k.val < 4) then s else
  let s := frameLook k s
  if s.mbus.ch[k].trx.val < 2 then s
  else if chWakeMode (s.chRec k.val) ∧ 4 ≤ k.val then modCh k (fun c => { c with armed := true }) s
  else
    whenOn (fun s => setIrq .mbus 6 (logEv 0x900E 3 (locTrx k.val) (pack64 [(0, k.val), (4, 1)]) s))
      (hwBit .mbus (chOff k.val 0xC) 0x100 (modCh k (fun c => { c with wake := true }) s))

/-- A pulse of an address train: short (0), long (1), or neither (R418). `w` is the reference. -/
def pulseBit (w x : Nat) : Option Bool :=
  if 7 * w ≤ 10 * x ∧ 10 * x ≤ 13 * w then some false
  else if 21 * w ≤ 10 * x ∧ 10 * x ≤ 39 * w then some true
  else none

/-- The reference pulse is accepted (R418); `open_` decides where it may go either way. -/
def refOk (w : Nat) (open_ : Bool) : Bool :=
  if w < 10000 ∨ 400000 < w then false else if 20000 ≤ w ∧ w ≤ 200000 then true else open_

/-- The bits of the pulses after the reference, most significant first, when every pulse and gap is good. -/
def trainBits (w : Nat) : List (Nat × Nat) → Option (List Bool)
  | [] => some []
  | (gap, x) :: l =>
    if 10 * gap < 7 * w ∨ 4 * w < gap then none
    else
      match pulseBit w x, trainBits w l with
      | some b, some bs => some (b :: bs)
      | _, _ => none

/-- The address of a train that the decoder does not discard (R418). -/
def trainAddr (t : Train) (open_ : Bool) : Option Byte :=
  if 1000000 < t.start ∨ !refOk t.ref open_ ∨ t.pulses.length ≠ 9 then none
  else
    match trainBits t.ref t.pulses with
    | none => none
    | some bs =>
      if (bs.filter id).length % 2 = 1 then
        some (BitVec.ofNat 8 ((bs.take 8).foldl (fun n b => 2 * n + b01 b) 0))
      else none

/-- How an address matches (R419): 0 not, 1 own, 2 group, 3 broadcast. -/
def State.addrMatch (s : State) (a : Byte) : Nat :=
  if a = 0 then 0
  else if a = s.mbus.wakeaddr then 1
  else if (leBytes 4 s.mbus.wakegrp.toNat).contains a then 2
  else if a = 0xFF then 3
  else 0

/-- The channel of a trunk. -/
def trunk (ct : Fin 2) : Fin 6 := ⟨4 + ct.val, by omega⟩

/-- WAKE_ADDRESS: an address train at an armed decoder: a match sets the decoder latch (R419); a train that R418 discards, or that does
not match, leaves the decoder waiting for the next pattern. -/
def doWakeAddress (ct : Fin 2) (t : Train) (s : State) : State :=
  let k := trunk ct
  if !s.mbus.ch[k].armed ∨ s.pwr.mode = .off then s
  else
    let s0 := tickFree (modCh k (fun c => { c with armed := false }) s)
    match trainAddr t (s.freeVal.getLsbD 0) with
    | none => s0
    | some a =>
      let m := s.addrMatch a
      if m = 0 then s0
      else
        let s := modCh k (fun c => { c with decoded := true }) s0
        let s := { s with mbus := { s.mbus with statCause := m, statCh := decide (ct.val = 1), statAddr := a } }
        whenOn (fun s => setIrq .mbus 6 (logEv 0x900E 3 (locTile 3 7)
          (pack64 [(0, k.val), (4, if m = 1 then 2 else 3), (8, a.toNat)]) s)) s

/-- TRAIN_DISCARDED: an armed decoder discards a train and waits for the next pattern (R418). [log 95 DEDUCED] -/
def doTrainDiscarded (ct : Fin 2) (s : State) : State :=
  if s.pwr.mode = .off then s else modCh (trunk ct) (fun c => { c with armed := false }) s

end Sys2Proof.Machine
end

