-- ==== Sys2Proof/Machine/Fabric.lean ====
section
/-! DEFINITION. The drove link fabric: frames, authentication, forwarding, muster, fabric time, state blocks, messages and
remote data-window access (R357 to R393). -/

namespace Sys2Proof.Machine

/-! ### Records -/

/-- Rewrite the FAB block, a port, a request channel. -/
def modFab (f : FabBlk → FabBlk) (s : State) : State := { s with fab := f s.fab }
def modPort (p : Fin 2) (f : PortState → PortState) (s : State) : State := modFab (fun b => { b with port := upd b.port p f }) s
def modRa (c : Fin 4) (f : RaChan → RaChan) (s : State) : State := modFab (fun b => { b with ra := upd b.ra c f }) s

/-- The location codes of the fabric engine and of a port (R393). -/
def locFab : Word := locTile 0 11
def locPort (p : Nat) : Word := locTile 4 p

/-- The other port. -/
def otherPort (p : Fin 2) : Fin 2 := if p = 0 then 1 else 0

/-- An error entry of a port, at most once per port and code in 1,000 ticks (R393). [log 16 DESIGN CHOICE] -/
def portError (p : Fin 2) (code sev : Nat) (payload : DWord) (s : State) : State :=
  limited (0x800000 + p.val * 0x10000 + code) (logEv code sev (locPort p.val) payload) (setIrq .fab 4 s)

/-! ### The drove frame (Table 14.1) -/

/-- The fields of a header. -/
def frDst (f : List Byte) : Nat := leAt f 0 1
def frSrc (f : List Byte) : Nat := leAt f 1 1
def frKind (f : List Byte) : Nat := leAt f 2 1
def frHops (f : List Byte) : Nat := leAt f 3 1
def frGen (f : List Byte) : Half := BitVec.ofNat 16 (leAt f 4 2)
def frLen (f : List Byte) : Nat := leAt f 6 2 % 2048
def frTag (f : List Byte) : Bool := (leAt f 6 2).testBit 11
def frTick (f : List Byte) : Word := BitVec.ofNat 32 (leAt f 8 4)

/-- The carrier continues beyond the end that LEN and TAG give (R361). -/
def frLong (f : List Byte) : Bool := decide (16 + frLen f + (if frTag f then 8 else 0) < f.length)

/-- The payload of a frame, and the bytes that LEN and TAG give it. -/
def frPayload (f : List Byte) : List Byte := slice f 16 (frLen f)
def frSize (f : List Byte) : Nat := 16 + frLen f + (if frTag f then 8 else 0)

/-- R360: the header's CRC, its KIND, DST and reserved bits. -/
def headerOk (f : List Byte) : Bool :=
  decide (16 ≤ f.length) && crc16 (f.take 14) == BitVec.ofNat 16 (leAt f 14 2) && within 1 13 (frKind f) &&
  (decide (frDst f ≤ 64) || within 0x80 0x8F (frDst f) || frDst f == 0xFF) && decide (leAt f 6 2 < 4096)

/-- A frame's header bytes with their HCRC. -/
def header (dst src kind hops : Nat) (gen : Half) (len : Nat) (tag : Bool) (tick : Word) (seq : Half) : List Byte :=
  let h := [BitVec.ofNat 8 dst, BitVec.ofNat 8 src, BitVec.ofNat 8 kind, BitVec.ofNat 8 hops] ++ leBytes 2 gen.toNat ++
    leBytes 2 (len + (if tag then 2048 else 0)) ++ leBytes 4 tick.toNat ++ leBytes 2 seq.toNat
  h ++ leBytes 2 (crc16 h).toNat

/-! ### Authentication -/

/-- AUTHSLOT is set. -/
def State.authOn (s : State) : Bool := s.cfg.authSlot != 0xFF

/-- The slot carries the fabric-authentication flag and its key is released (R366, R467). -/
def State.authKey (s : State) : Bool := s.key.released && s.slotReason s.cfg.authSlot 8 == 0

/-- The session key of a generation, from the present content of AUTHSLOT (R366). -/
def State.deriveSession (s : State) (gen : Nat) : List Byte :=
  kdf (s.aesKey s.cfg.authSlot) [0x64, 0x72, 0x6F, 0x76, 0x65] (leBytes 2 gen)

/-- The session key of a generation: as loaded into the tag unit at the muster, or derived now for a generation that no
muster has loaded (R460). -/
def State.sessionKey (s : State) (gen : Nat) : List Byte :=
  match s.fab.session.find? fun x => x.1 == s.cfg.authSlot && x.2.1 == gen with
  | some x => x.2.2
  | none => s.deriveSession gen

/-- The tag of a frame: CMAC under the key of its generation over header and payload, without CORR of a TIME frame
(R366). -/
def State.frameTag (s : State) (f : List Byte) : List Byte :=
  let gen := if frKind f = 1 then 0 else (frGen f).toNat
  let key := s.sessionKey gen
  let body := f.take (16 + frLen f)
  let body := if frKind f = 6 then body.take 24 ++ body.drop 32 else body
  (cmac key body).take 8

/-- A tag verifies, or its absence is right (R367). -/
def State.tagOk (s : State) (f : List Byte) : Bool :=
  if s.authOn then s.authKey && frTag f && s.frameTag f == slice f (16 + frLen f) 8 else !frTag f

/-- The generation of the muster in progress, or the one in force. -/
def State.ownGen (s : State) : Half :=
  match s.fab.run with
  | some r => r.gen
  | none => s.fab.gen

/-- A generation is newer than the own one (R368). -/
def newerGen (gen own : Half) : Bool := let d := (gen - own).toNat; decide (1 ≤ d ∧ d ≤ 32767)

/-- R367: tag, generation, and for TIME, STATE and AUDIO the tick. -/
def State.accepts (s : State) (f : List Byte) : Bool :=
  let k := frKind f
  s.tagOk f &&
  (!s.authOn ||
   ((if k = 1 then true else if k = 2 then newerGen (frGen f) s.ownGen || frGen f == s.ownGen else frGen f == s.ownGen) &&
    (if k = 6 ∨ k = 7 ∨ k = 8 then frTick f == s.tickLo || frTick f == s.tickLo - 1 else true)))

/-- FAB_AUTH: AUTHSLOT names a slot without the flag (R366). -/
def fabAuthCheck (s : State) : State :=
  let bad := s.strct.inForce && s.authOn && !s.authKey
  let was := s.fab.authBad
  let s := modFab (fun b => { b with authBad := bad }) s
  if bad && !was then refuseBlock s.cfg.authSlot 8 (logEv 0x8010 6 locFab (pack64 [(0, s.cfg.authSlot)]) s) else s

/-! ### Sending -/

/-- A module with a bad AUTHSLOT sends no frame. -/
def State.maySend (s : State) : Bool := !(s.authOn && !s.authKey)

/-- A frame of this module, with its tag. [log 13 DESIGN CHOICE] -/
def mkFrame (s : State) (dst kind : Nat) (gen : Half) (payload : List Byte) : List Byte :=
  let f := header dst s.fab.pos kind (Config.hops.toNat % 65) gen payload.length s.authOn s.tickLo s.fab.txSeq ++ payload
  if s.authOn then f ++ s.frameTag f else f

/-- What HOPDLY delays each frame of a port by, in ns (Table 21.1). -/
def State.hopNs (s : State) (p : Fin 2) : Nat :=
  let w := s.pert.par[1]
  if s.pertOn 1 && bit w 8 == decide (p = 1) then 1000 * field w 0 7 else 0

/-- A frame is on the wire of a port, with its FCS (R358); a stomped one ends with the inverse of it (R364). A delay by
HOPDLY is an injected effect (R532). [log 66 DEDUCED] -/
def wire (p : Fin 2) (stomp : Bool) (f : List Byte) (s : State) : State :=
  let fcs := crc32 f
  let s := pertHit 1 (decide (s.hopNs p ≠ 0)).toNat s
  modPort p (fun x => { x with tx := f ++ leBytes 4 (if stomp then ~~~fcs else fcs).toNat, stomp := stomp }) s

/-- The offset of a register of a port (Table 14.10). -/
def portOff (p : Fin 2) (off : Nat) : Nat := 0x400 + p.val * 0x100 + off

/-- A counter of a port rises. -/
def bumpPort (p : Fin 2) (off lo : Nat) (f : PortState → PortState) (s : State) : State :=
  bump .fab (portOff p off) lo 1 (modPort p f s)

/-- The bytes in a port's best-effort store. -/
def PortState.fill (x : PortState) : Nat := (x.store.map fun o => o.bytes.length).sum

/-- A best-effort frame waits in the port's store of 16 KiB, or is dropped (R365). -/
def storeFrame (p : Fin 2) (o : OutFrame) (s : State) : State :=
  let x := s.fab.port[p]
  if x.fill + o.bytes.length ≤ 16384 then modPort p (fun x => { x with store := x.store ++ [o] }) s
  else
    let s := bumpPort p 0x1C 16 (fun x => { x with bedrop := satInc x.bedrop }) s
    let s := limited (0x800000 + p.val * 0x10000 + 0x800C)
      (logEv 0x800C 3 (locPort p.val) (BitVec.ofNat 64 (s.fab.port[p]).bedrop.toNat)) s
    if o.txn then txnFree s else s

/-- What identifies a broadcast frame: CALL by GEN, ROLL by serial in one muster, any other by what no forwarder changes
(R363). [log 138 DEDUCED] -/
def frameId (f : List Byte) : List Byte :=
  let k := frKind f
  let gen := leBytes 2 (frGen f).toNat
  if k = 2 then 2 :: gen
  else if k = 3 then 3 :: gen ++ (frPayload f).take 1 ++ (frPayload f).drop 6
  else
    let p := frPayload f
    f.take 3 ++ gen ++ slice f 8 6 ++ (if k = 6 then p.take 8 ++ p.drop 16 else p)

/-- Positions are not known: the module has none, or a muster runs (R363). -/
def State.unplaced (s : State) : Bool := s.fab.pos == 0 || s.fab.run.isSome

/-- A broadcast frame that arrives or leaves before positions are known is noted; the newest 256 are kept.
[log 138 DEDUCED] -/
def noteFrame (f : List Byte) (s : State) : State :=
  if s.unplaced && frDst f == 0xFF then
    modFab (fun b => { b with seen := (frameId f :: b.seen.filter (· != frameId f)).take 256 }) s
  else s

/-- The ports a frame of this module leaves by: a position through the port toward it, others through both.
[log 73 DEDUCED] -/
def State.outPorts (s : State) (dst : Nat) : List (Fin 2) :=
  let ps : List (Fin 2) :=
    if 1 ≤ dst ∧ dst ≤ 64 then [if dst < s.fab.pos then s.fab.upPort else otherPort s.fab.upPort] else [0, 1]
  ps.filter fun p => (s.fab.port[p]).up && !(s.fab.port[p]).closing

/-- The module sends a frame by a list of ports: a reserved frame at once, a best-effort frame through the stores. -/
def sendOn (ps : List (Fin 2)) (best txn : Bool) (dst kind : Nat) (gen : Half) (payload : List Byte) (s : State) : State :=
  if s.maySend then
    let f := mkFrame s dst kind gen payload
    let s := noteFrame f (modFab (fun b => { b with txSeq := b.txSeq + 1 }) s)
    ps.foldl (fun s p => if best then storeFrame p ⟨f, txn, false⟩ s else wire p false f s) s
  else s

/-- A frame of the module under the current generation. -/
def sendFrame (best txn : Bool) (dst kind : Nat) (payload : List Byte) (s : State) : State :=
  sendOn (s.outPorts dst) best txn dst kind s.ownGen payload s

/-- FRAME_SEND: the oldest best-effort frame of a port is sent when it ends 1 µs before the next tick start and the next
RSTART (R365); a closing link sends none (R371). -/
def doFrameSend (p : Fin 2) (s : State) : State :=
  match (s.fab.port[p]).store with
  | [] => s
  | o :: l =>
    let now : Int := s.now.toNat - s.tick.startDrv.toNat
    let wireNs : Int := (o.bytes.length + 24) * 8
    let T : Int := s.T
    let rs : Int := s.cfg.rstart * T / 1024
    let next := if now < rs then rs else T
    if (s.fab.port[p]).up ∧ !(s.fab.port[p]).closing ∧ now + wireNs + 1000 ≤ next ∧ s.tick.phase ≠ .off then
      let s := modPort p (fun x => { x with store := l }) (wire p o.stomp o.bytes s)
      if o.txn then txnFree s else s
    else s

/-! ### Muster -/

/-- The module's own ROLL: line end, CAP, the closing link it had until now, and its streams (Table 14.2). -/
def State.ownRoll (s : State) : Roll :=
  let ups := (s.fab.port.toList.filter (·.up)).length
  ⟨s.fab.serial, ups == 1, s.cfg.cap, (s.fab.run.map (·.closing)).getD false, s.cfg.localMask⟩

/-- The payload of a ROLL frame: the 48 bits of Table 14.2, and what else carries the serial. [log 10 DESIGN CHOICE] -/
def rollPayload (q : Roll) : List Byte :=
  [q.serial.setWidth 8, BitVec.ofNat 8 (b01 q.lineEnd + 2 * b01 q.cap + 4 * b01 q.closing)] ++
    leBytes 4 q.streams.toNat ++ Config.rollTail q.serial

/-- What a ROLL frame says: the bits of Table 14.2, with the upper bytes of the serial as its sender has it.
[log 10 DESIGN CHOICE] -/
def rollOf (f : List Byte) (q : Roll) : Roll :=
  let flags := leAt f 17 1
  { serial := (q.serial >>> 8 <<< 8) ||| BitVec.ofNat 64 (leAt f 16 1)
    lineEnd := flags.testBit 0, cap := flags.testBit 1, closing := flags.testBit 2
    streams := BitVec.ofNat 32 (leAt f 18 4) }

/-- A muster abandons every request in state SENT, and peers lose their windows (R392, R321). Votes are cleared
(R499). -/
def musterBegin (s : State) : State :=
  let s := (List.finRange 4).foldl (fun s c =>
    if (s.fab.ra[c]).state = .sent then
      setIrq .fab 5 (txnFree (modRa c (fun x => { x with state := .done, result := 2 }) s))
    else s) s
  let s := loseWins 2 WinState4.byPeer s
  { s with pwr := { s.pwr with votes := Vector.replicate 65 none, expired := Vector.replicate 65 false } }

/-- The module enters MUSTER under a generation (R368, R369). A closing link stays one until the ROLL frames (Table 14.7). -/
def enterMuster (gen : Half) (self : Bool) (cause : Nat) (s : State) : State :=
  let s := musterBegin s
  let s := modFab (fun b => { b with
    state := .muster
    newest := if newerGen gen b.newest then gen else b.newest
    recallAt := none
    called := true
    session := if s.authOn then [0, gen.toNat].map fun g => (s.cfg.authSlot, g, s.deriveSession g) else []
    run := some ⟨gen, self, s.tick.executed, 0, false, [], 0, 0, false, none, false, false, false⟩ }) s
  logEv 0x8001 3 locFab (pack64 [(0, gen.toNat), (16, cause)]) s

/-- The ports that are UP. -/
def State.upPorts (s : State) : List (Fin 2) := (List.finRange 2).filter fun p => (s.fab.port[p]).up

/-- The module starts a muster itself: it floods a CALL (R368). -/
def startMuster (cause : Nat) (s : State) : State :=
  let own := s.ownGen
  let gen := (if newerGen s.fab.newest own then s.fab.newest else own) + 1
  let s := enterMuster gen true cause s
  sendOn s.upPorts false false 0xFF 2 gen [] s

/-- The module leaves the mustered fabric: TB1 goes out of service (R342, R372) and is steered no more (R341), and its local
streams are its own again (R424). -/
def leaveFabric (s : State) : State :=
  let was := s.fab.mustered
  let s := modFab (fun b => { b with
    state := .alone, mustered := false, run := none, pos := 0, n := 0, bw := 0, bwSerial := 0, ring := false
    upPort := 0, tstale := false
    port := b.port.map fun x => { x with closing := false } }) s
  let s := modAud (fun a => { a with str := a.str.map fun x => { x with sender := 0 } }) s
  if was then setOos 1 true 3 (setSlew 1 false s) else s

/-- A port changes between UP and DOWN: LINK entry and muster, or the module stands alone (R368, R372). The first muster
since the start has the cause 4 of Table 14.8. [log 74 DEDUCED] -/
def portChange (p : Fin 2) (up phy : Bool) (s : State) : State :=
  if (s.fab.port[p]).up = up then s
  else
    let s := modPort p (fun x => { x with up := up, missed := 0, heard := x.heard && up, closing := false }) s
    let s := setIrq .fab 1 (logEv 0x8005 3 (locPort p.val) (pack64 [(0, b01 up), (1, b01 phy)]) s)
    if s.upPorts = [] then leaveFabric s else startMuster (if s.fab.called then 1 else 4) s

/-- PORT_LINK_CHANGE: the PHY reports link or its loss, or no LINK frame has arrived by 10 µs after two consecutive sample
marks (R368). -/
def doPortLinkChange (p : Fin 2) (up phy master : Bool) (s : State) : State :=
  if phy then
    let s := modPort p (fun x => { x with link := up, master := up && master }) s
    if up then s else portChange p false true s
  else if !up ∧ !(s.fab.port[p]).gotLink ∧ 1 ≤ (s.fab.port[p]).missed then
    portChange p false false (passInTick 10000 s.T s)
  else s

/-- REMUSTER: a write of FAB_CTRL (R368). -/
def fabCtrlWrite (rq : Requester) (v : Word) (s : State) : State :=
  wrIf .fab (rq == .keeper) (decide (2 ≤ v.toNat)) rq 0x200A0004
    (fun s =>
      if bit v 0 then startMuster 3 s
      else s) s

def doRemuster (rq : Requester) (s : State) : State := fabCtrlWrite rq 1 s

/-! ### Receiving -/

/-- The group bit of GROUPS. [log 15 DESIGN CHOICE] -/
def State.inGroup (s : State) (dst : Nat) : Bool := within 0x80 0x8F dst && s.cfg.groups.testBit (dst - 0x80)

/-- The module consumes a frame (R362). -/
def State.consumes (s : State) (f : List Byte) : Bool :=
  let k := frKind f
  (s.fab.pos == 0 || frSrc f != s.fab.pos) &&
  (if s.fab.pos = 0 then within 1 5 k else true) &&
  (frDst f == 0 || frDst f == 0xFF || (s.fab.pos != 0 && frDst f == s.fab.pos) || s.inGroup (frDst f))

/-- A frame with a bad header is dropped (R360). -/
def dropHeader (p : Fin 2) (s : State) : State :=
  let s := bumpPort p 0x14 0 (fun x => { x with hdrerr := satInc x.hdrerr }) s
  portError p 0x8008 3 (BitVec.ofNat 64 (s.fab.port[p]).hdrerr.toNat) s

/-- A frame longer than LEN and TAG give is dropped (R361). -/
def dropLong (p : Fin 2) (s : State) : State :=
  let s := bumpPort p 0x18 16 (fun x => { x with long := satInc x.long }) s
  portError p 0x800B 3 (BitVec.ofNat 64 (s.fab.port[p]).long.toNat) s

/-- A frame whose FCS fails is dropped (R364). -/
def dropFcs (p : Fin 2) (s : State) : State :=
  let s := bumpPort p 0x14 16 (fun x => { x with fcserr := satInc x.fcserr }) s
  portError p 0x8009 3 (BitVec.ofNat 64 (s.fab.port[p]).fcserr.toNat) s

/-- A frame that fails R367 is rejected. -/
def rejectFrame (p : Fin 2) (f : List Byte) (s : State) : State :=
  portError p 0x800A 4 (pack64 [(0, frSrc f % 128), (8, frKind f)])
    (bumpPort p 0x18 0 (fun x => { x with reject := satInc x.reject }) s)

/-- A received frame is counted. -/
def countRx (p : Fin 2) (s : State) : State := bumpPort p 0x10 0 (fun x => { x with rxframes := satInc x.rxframes }) s

/-- A frame of a kind, received whole and with a good FCS, is consumed: header, length, consumption and acceptance come
before its effect (R360 to R362, R367). One that ends before LEN and TAG let it cannot have a good FCS. -/
def consume (p : Fin 2) (kind : Nat) (f : List Byte) (eff : State → State) (s : State) : State :=
  if !headerOk f then dropHeader p s
  else if frLong f then dropLong p (countRx p s)
  else if f.length < frSize f then dropFcs p (countRx p s)
  else if frKind f ≠ kind ∨ !s.consumes f then s
  else
    let s := countRx p s
    if s.accepts f then eff s else rejectFrame p f s

/-- The copy of a frame that goes on: HOPS less 1, CORR of a TIME frame with the link's delay and the residence added,
the delay by HOPDLY with it (Table 21.1), HCRC and tag formed anew (R363, R366, R379). [log 13 DESIGN CHOICE; 72 DEDUCED] -/
def forwardCopy (p : Fin 2) (f : List Byte) (residence : Nat) (s : State) : List Byte :=
  let delays := (s.fab.port[p]).delays
  let mean := if delays = [] then 0 else delays.sum * 4096 / delays.length
  let corr := BitVec.ofNat 64 (leAt f 24 8 + mean + residence + s.hopNs (otherPort p) * 65536)
  let body := if frKind f = 6 then leBytes 8 (leAt f 16 8) ++ leBytes 8 corr.toNat ++ slice f 32 8 else frPayload f
  let h := header (frDst f) (frSrc f) (frKind f) (frHops f - 1) (frGen f) (frLen f) (frTag f) (frTick f)
    (BitVec.ofNat 16 (leAt f 12 2))
  let g := h ++ body
  if frTag f then g ++ (if s.authOn then s.frameTag g else slice f (16 + frLen f) 8) else g

/-- Before positions are known, at first and in every muster, a broadcast frame goes on only at its first arrival; a CALL must
bring a newer GEN (R363, R368). -/
def State.firstArrival (s : State) (f : List Byte) : Bool :=
  !s.unplaced || !s.fab.seen.contains (frameId f) && (frKind f != 2 || newerGen (frGen f) s.ownGen)

/-- The module's own muster has given it position 64. -/
def State.last64 (s : State) : Bool :=
  match s.fab.run with
  | some r => r.pos == 64
  | none => s.fab.pos == 64

/-- The module forwards a frame out of its other port (R363, R371, R373); a CALL of the own GEN is a duplicate, which is
dropped (R368). -/
def State.forwards (s : State) (p : Fin 2) (f : List Byte) : Bool :=
  let o := s.fab.port[otherPort p]
  frDst f != 0 && (s.fab.pos == 0 || (frDst f != s.fab.pos && frSrc f != s.fab.pos)) && decide (1 < frHops f) &&
  o.up && !(s.fab.port[p]).closing && (!o.closing || (frKind f == 5 && s.last64)) &&
  !(frKind f == 2 && frGen f == s.ownGen) && s.firstArrival f

/-- FRAME_FORWARD: a frame arrives at a port with the FCS it carries; errors are counted, and a frame to be forwarded goes
out of the other port. A copy that is bad is stomped: at once, or when it leaves the best-effort store (R360 to R365).
[log 72 DEDUCED] -/
def doFrameForward (p : Fin 2) (f : List Byte) (fcs : Word) (residence : Nat) (s : State) : State :=
  if !headerOk f then dropHeader p s
  else
    let fwd := s.forwards p f
    let copy := forwardCopy p f residence s
    let good := crc32 f
    let cut := decide (f.length < frSize f)
    let bad := frLong f || cut || fcs != good || !s.tagOk f
    let s :=
      if !fwd then s
      else if frKind f ≤ 8 then wire (otherPort p) bad copy s
      else storeFrame (otherPort p) ⟨copy, false, bad⟩ s
    let s := noteFrame f s
    if frLong f then dropLong p (countRx p s)
    else if fcs = ~~~good then
      setIrq .fab 4 (bumpPort p 0x1C 0 (fun x => { x with stomped := satInc x.stomped }) (countRx p s))
    else if cut ∨ fcs ≠ good then dropFcs p (countRx p s)
    else if s.consumes f then s
    else if !s.tagOk f then rejectFrame p f (countRx p s)
    else countRx p s

/-! ### LINK -/

/-- PORT_DELAY: the mean of the last 16 delays (R377). -/
def PortState.delay (x : PortState) : Nat :=
  if x.delays = [] then 0 else Config.rounded x.delays.sum x.delays.length

/-- Every port with link sends LINK at a sample mark, and the arrivals since the last mark are taken up (R368, R377).
[log 73 DEDUCED; 75 DEDUCED] -/
def linkMark (p : Fin 2) (s : State) : State :=
  let x := s.fab.port[p]
  if x.link then
    let t1 := s.tb0 + s.hopNs p
    let pay := leBytes 8 t1 ++ leBytes 8 x.nbrT2 ++ leBytes 8 x.nbrT1 ++ leBytes 8 s.fab.serial.toNat
    sendOn [p] false false 0 1 s.ownGen pay (modPort p (fun x => { x with
      ownT1 := t1, missed := if x.gotLink then 0 else x.missed + 1, gotLink := false }) s)
  else s

/-- The delay of a link from one exchange, in 1/16 ns, the neighbour's turnaround scaled by the measured ratio of the two
clocks (R377). -/
def linkDelay (t1 t2 t3 t4 prev3 prev4 : Nat) : Nat :=
  let turn := ratioInt (16 * ((t3 : Int) - t2) * ((t4 : Int) - prev4)) ((t3 : Int) - prev3)
  (ratioInt (16 * ((t4 : Int) - t1) - turn) 2).toNat % 2 ^ 20

/-- LINK_RX: the neighbour's LINK frame (R368, R377). -/
def doLinkRx (p : Fin 2) (f : List Byte) (s : State) : State :=
  consume p 1 f (fun s =>
    let pay := frPayload f
    let x := s.fab.port[p]
    let t4 := s.tb0
    let t3 := leAt pay 0 8
    let ok := x.heard && leAt pay 16 8 != 0 && decide (x.nbrT1 < t3)
    let d := linkDelay (leAt pay 16 8) (leAt pay 8 8) t3 t4 x.nbrT1 x.nbrT2
    let s := modPort p (fun x => { x with
      gotLink := true, heard := true, nbrT1 := t3, nbrT2 := t4, nbrSerial := BitVec.ofNat 64 (leAt pay 24 8)
      delays := if ok then (d :: x.delays).take 16 else x.delays }) s
    let s := modFab (fun b => { b with newest := if newerGen (frGen f) b.newest then frGen f else b.newest }) s
    if (s.fab.port[p]).link then portChange p true false s else s) s

/-! ### Muster frames -/

/-- Rewrite the muster in progress. -/
def modRun (f : MusterRun → MusterRun) (s : State) : State := modFab (fun b => { b with run := b.run.map f }) s

/-- CALL_RX: a CALL with a newer generation (R368). -/
def doCallRx (p : Fin 2) (f : List Byte) (s : State) : State :=
  consume p 2 f (fun s => if newerGen (frGen f) s.ownGen then enterMuster (frGen f) false 2 s else s) s

/-- ROLL_TX: at the first sample mark after the CALL every module floods ROLL (R369). -/
def doRollTx (s : State) : State :=
  match s.fab.run with
  | none => s
  | some r =>
    if 1 ≤ r.marks ∧ !r.rollSent then
      let own := s.ownRoll
      let s := modRun (fun r => { r with rollSent := true, rolls := own :: r.rolls.filter fun x => x.serial != own.serial }) s
      sendOn s.upPorts false false 0xFF 3 r.gen (rollPayload own) s
    else s

/-- ROLL_RX: a ROLL is counted once, by its serial (R369). -/
def doRollRx (p : Fin 2) (f : List Byte) (q : Roll) (s : State) : State :=
  consume p 3 f (modRun fun r =>
    let q := rollOf f q
    if r.rolls.any fun x => x.serial == q.serial then r else { r with rolls := r.rolls ++ [q] }) s

/-- The lowest serial of a list of ROLL frames. -/
def lowestSerial (l : List Roll) : Option Nat :=
  l.foldl (fun m r => match m with
    | some q => some (min q r.serial.toNat)
    | none => some r.serial.toNat) none

/-- The starter of a muster (R370): the line end with the lowest serial, in a ring the module with the lowest. -/
def MusterRun.starter (r : MusterRun) : Option Nat :=
  let ends := r.rolls.filter (·.lineEnd)
  lowestSerial (if ends = [] then r.rolls else ends)

/-- No module is a line end. -/
def MusterRun.isRing (r : MusterRun) : Bool := r.rolls.all fun x => !x.lineEnd

/-- The serials of DONE as the module at the last position lists them, 64 at most: the starter at position 1, its own
last, the others in an order the manual leaves open (R369, R373). [log 14 DESIGN CHOICE] -/
def doneSerials (own : DWord) (r : MusterRun) : List DWord :=
  let all := r.rolls.map (·.serial)
  let first := all.filter fun x => x != own && r.starter == some x.toNat
  let others := (all.filter fun x => x != own && !first.contains x).insertionSort
    (fun a b => decide (Config.doneOrder a ≤ Config.doneOrder b))
  first ++ others.take (63 - first.length) ++ [own]

/-- The module at the last position floods DONE (R369), in a ring not onto the closing link (R371), at position 64 onto it
too (R373). -/
def floodDone (s : State) : State :=
  match s.fab.run with
  | none => s
  | some r =>
    let l := doneSerials s.fab.serial r
    let s := modRun (fun r => { r with done := some l }) s
    sendOn (s.upPorts.filter fun p => !(s.fab.port[p]).closing || decide (64 < r.rolls.length)) false false 0xFF 5 r.gen (BitVec.ofNat 8 l.length :: l.flatMap fun x => leBytes 8 x.toNat) s

/-- A TOKEN on its way. -/
def sendToken (p : Fin 2) (next count : Nat) (gen : Half) (s : State) : State :=
  sendOn [p] false false 0 4 gen [BitVec.ofNat 8 next, BitVec.ofNat 8 count] s

/-- TOKEN_TX: the starter takes position 1 and sends TOKEN (R369 to R371, R374). -/
def doTokenTx (s : State) : State :=
  match s.fab.run with
  | none => s
  | some r =>
    let due := if s.tick.src then 2 else 3
    if due ≤ r.marks ∧ !r.tokenSent ∧ r.rollSent ∧ r.starter = some s.fab.serial.toNat ∧ r.pos = 0 then
      let s := modRun (fun r => { r with tokenSent := true, pos := 1 }) s
      if r.rolls.length = 1 then floodDone s
      else
        let out : Fin 2 := if r.isRing then 0 else s.upPorts.headD 0
        let s := if r.isRing then modPort 1 (fun x => { x with closing := true }) s else s
        sendToken out 2 r.rolls.length r.gen s
    else s

/-- TOKEN_RX: the module takes its position and passes TOKEN on, or floods DONE; the last one of a ring stands at the other
end of its closing link (R369, R371 to R373).
[log 74 DEDUCED] -/
def doTokenRx (p : Fin 2) (f : List Byte) (s : State) : State :=
  consume p 4 f (fun s =>
    match s.fab.run with
    | none => s
    | some r =>
      let k := leAt f 16 1 % 128
      let count := leAt f 17 1
      if r.pos ≠ 0 then s
      else if count ≠ r.rolls.length then modRun (fun r => { r with badToken := true }) s
      else
        let s := modRun (fun r => { r with pos := k, up := p, tokenSent := true }) s
        if k = min 64 count then
          floodDone (if 64 < count ∨ r.isRing = true then modPort (otherPort p) (fun x => { x with closing := true }) s
            else s)
        else sendToken (otherPort p) (k + 1) count r.gen s) s

/-- DONE_RX: the roll of serials (R369). -/
def doDoneRx (p : Fin 2) (f : List Byte) (s : State) : State :=
  consume p 5 f (fun s =>
    let n := leAt f 16 1 % 128
    modRun (fun r => if r.done.isSome then r else
      { r with done := some ((List.range n).map fun i => BitVec.ofNat 64 (leAt f (17 + 8 * i) 8)) }) s) s

/-- The bellwether of a muster: the lowest position whose ROLL carried CAP (R375). -/
def bellOf (l : List DWord) (rolls : List Roll) : Nat :=
  match (l.zipIdx).find? fun x => rolls.any fun r => r.serial == x.1 && r.cap with
  | some x => x.2 + 1
  | none => 0

/-- A local stream that a lower position announces too is no longer sent (R428). -/
def streamDup (k : Nat) (s : State) : State :=
  let a := s.announcer k
  if s.cfg.isLocal k ∧ a ≠ 0 ∧ a < s.fab.pos then
    setIrq .aud 2 (logEv 0xA003 4 locAudio (pack64 [(0, k), (8, a)]) (modStream k (fun x => { x with sender := a }) s))
  else modStream k (fun x => { x with sender := 0 }) s

/-- A muster succeeds: positions, bellwether and session key are in force (R369, R375). The position is the one of the TOKEN
taken; the bellwether's TB1 is steered by no engine, nor any without a bellwether (R337, R341). -/
def takePosition (r : MusterRun) (l : List DWord) (i : Nat) (s : State) : State :=
  let bw := bellOf l r.rolls
  let bwSerial := if bw = 0 then 0 else l.getD (bw - 1) 0
  let changed := bw = 0 ∨ bwSerial ≠ s.fab.bwSerial
  let pos := if r.pos = 0 then i + 1 else r.pos
  let up : Fin 2 := if pos = 1 then 0 else r.up
  let s := bump .fab 0x020 16 1 <| modFab (fun b => { b with
    state := .member, mustered := true, run := none, pos := pos, n := l.length, bw := bw, bwSerial := bwSerial
    ring := r.isRing, upPort := up, gen := r.gen, musters := satInc b.musters, rolls := r.rolls, roll := l
    overpos := false }) s
  let s := { s with pwr := { s.pwr with
    musterAt := s.tick.executed, votes := Vector.replicate 65 none, expired := Vector.replicate 65 false } }
  let s := setIrq .fab 0 (logEv 0x8002 2 locFab (pack64 [(0, pos), (8, l.length), (16, bw), (24, b01 r.isRing),
    (25, up.val)]) s)
  let s := if changed then
      setIrq .fab 2 (logEv 0x8006 3 locFab bwSerial
        (setOos 1 true 3 (modFab (fun b => { b with freq := 0, inRange := 0 }) s)))
    else s
  let s := if s.bellwether || s.fab.bw == 0 then setSlew 1 false s else s
  (List.range 32).foldl (fun s k => streamDup k s) s

/-- MUSTER_DONE: the first sample mark after DONE (R369, R373). -/
def doMusterDone (s : State) : State :=
  match s.fab.run with
  | none => s
  | some r =>
    match r.done with
    | none => s
    | some l =>
      if !r.ready ∨ r.badToken then s
      else
        let i := l.findIdx (· == s.fab.serial)
        if i < l.length then takePosition r l i s
        else
          logEv 0x8004 4 locFab s.fab.serial (setIrq .fab 0 (leaveFabric (modFab (fun b => { b with gen := r.gen }) s)))

/-- MUSTER_FAIL: no DONE by the fourth sample mark, or a TOKEN's count disagrees (R372). -/
def doMusterFail (s : State) : State :=
  match s.fab.run with
  | none => s
  | some r =>
    if r.badToken ∨ (4 ≤ r.marks ∧ r.done.isNone) then
      let s := logEv 0x8003 4 locFab (BitVec.ofNat 64 (if r.badToken then 2 else 1)) s
      let s := setIrq .fab 0 (leaveFabric (modFab (fun b => { b with gen := r.gen }) s))
      modFab (fun b => { b with recallAt := some (s.tick.executed + 64) }) s
    else s

/-- MUSTER_RECALL: 64 ticks after a failed muster the module calls again (R372). Which of the four
causes of Table 14.8 it has, the manual does not say. [log 74 DEDUCED] -/
def doMusterRecall (s : State) : State :=
  match s.fab.recallAt with
  | none => s
  | some t => if t ≤ s.tick.executed ∧ s.upPorts ≠ [] then tickFree (startMuster (1 + s.freeVal.toNat % 4) s) else s

/-! ### Time -/

/-- TB1 is in service and drives the tick of a member (R383). [log 25 DEDUCED] -/
def State.carries1 (s : State) : Bool := s.fab.state == .member && !s.time.tb[1].oos && s.tick.src

/-- Time passes to RSTART of the tick in progress and `ns` beyond. -/
def passToSpan (ns : Nat) (s : State) : State := runCycles (ns / 5) (passInTick s.cfg.rstart 1024 s)

/-- The TIME frame as it leaves by a port: ORIGIN is TB1 at its start there, which HOPDLY delays (R379, Table 21.1). -/
def timeFrame (p : Fin 2) (s : State) : List Byte :=
  mkFrame s 0xFF 6 s.ownGen (leBytes 8 (s.time.tb[1].ns.toNat + s.hopNs p) ++ List.replicate 16 0)

/-- TIME_TX: the bellwether's TIME frame at RSTART (R379). -/
def doTimeTx (s : State) : State :=
  if s.bellwether ∧ s.fab.state = .member ∧ !s.time.tb[1].oos ∧ s.fab.timeSeq ≠ s.tick.executed ∧ s.tick.phase ≠ .off then
    let s := passToSpan 0 s
    let s := modFab (fun b => { b with timeSeq := s.tick.executed }) s
    if s.maySend then
      (s.outPorts 0xFF).foldl (fun t p => wire p false (timeFrame p s) t) (modFab (fun b => { b with txSeq := b.txSeq + 1 }) s)
    else s
  else s

/-- The time of a TIME frame's reception as the bellwether has it, in 2^-16 ns: ORIGIN, CORR, and the delay of the
link (R380). [log 75 DEDUCED] -/
def masterTime (x : PortState) (pay : List Byte) : Int :=
  (leAt pay 0 8 : Int) * 65536 + (BitVec.ofNat 64 (leAt pay 8 8)).toInt + (x.delay : Int) * 4096

/-- TB1 in 2^-16 ns. -/
def tb1Scaled (s : State) : Int := s.time.tb[1].value.toNat / 65536

/-- A follower steps or steers TB1 (R380, R381). -/
def followTime (m : Int) (s : State) : State :=
  let theta := tb1Scaled s - m
  let b := s.time.tb[1]
  let s := modFab (fun f => { f with toffset := BitVec.ofInt 32 (ratioInt theta 65536) }) s
  if b.oos ∧ b.stepOk then
    stepBase 1 (BitVec.ofInt 64 (ratioInt m 65536)) false
      (setSlew 1 false (modFab (fun f => { f with freq := 0, inRange := 0 }) s))
  else
    let (fr, rate) := steer s.fab.freq theta ((s.T : Int) * 65536)
    let near := if -6553600 ≤ theta ∧ theta ≤ 6553600 then s.fab.inRange + 1 else 0
    let s := steerBase 1 rate (modFab (fun f => { f with freq := fr, inRange := near }) s)
    if b.oos ∧ 16 ≤ near then tickFree (setOos 1 false (s.freeVal.toNat % 16) s) else s

/-- TIME_RX: an accepted TIME frame of the bellwether; TSTALE clears (R380, R382). [log 75 DEDUCED] -/
def doTimeRx (p : Fin 2) (f : List Byte) (s : State) : State :=
  consume p 6 f (fun s =>
    if s.bellwether ∨ s.fab.bw ≠ frSrc f ∨ s.fab.bw = 0 then s
    else
      let stale := s.fab.tstale
      let s := followTime (masterTime s.fab.port[p] (frPayload f)) (modFab (fun b => { b with tmiss := 0, tstale := false }) s)
      if stale then logEv 0x8007 4 locFab 0 s else s) s

/-- TIME_LOST: no TIME frame in 4 consecutive ticks, which have all ended (R382). -/
def doTimeLost (s : State) : State :=
  if s.fab.mustered ∧ !s.bellwether ∧ 5 ≤ s.fab.tmiss.toNat ∧ !s.fab.tstale then
    setSlew 1 false (setIrq .fab 3 (logEv 0x8007 4 locFab 1 (modFab (fun b => { b with tstale := true }) s)))
  else s

/-- At the first sample mark of a muster, when ROLL is due, a closing link becomes an ordinary one, and ROLL tells that it was
one (Tables 14.2, 14.7). -/
def openClosing (s : State) : State :=
  match s.fab.run with
  | some r =>
    if r.marks = 1 then
      let was := s.fab.port.toList.any (·.closing)
      modRun (fun r => { r with closing := was }) (modFab (fun b => { b with
        port := b.port.map fun x => { x with closing := false } }) s)
    else s
  | none => s

/-- At a sample mark the fabric engine counts: marks of the muster, ticks without TIME, LINK frames. -/
def fabMark (s : State) : State :=
  let s := openClosing (modRun (fun r => { r with marks := r.marks + 1, ready := r.done.isSome }) s)
  let s := modFab (fun b => { b with tmiss := satInc b.tmiss }) s
  fabAuthCheck (linkMark 1 (linkMark 0 s))

/-! ### State blocks -/

/-- The state block header (Table 14.6). -/
def stateHeader (s : State) : List Byte :=
  let flags := b01 s.bellwether + 2 * b01 (!s.time.tb[1].oos) + 4 * b01 (bit s.sys.errstat 3) + 8 * b01 s.pwr.degraded
  leBytes 8 s.fab.serial.toNat ++ [BitVec.ofNat 8 s.fab.pos, BitVec.ofNat 8 flags] ++ leBytes 2 s.fab.gen.toNat ++
    leBytes 4 s.tickLo.toNat ++ leBytes 4 s.cfg.serial.toNat ++ leBytes 2 s.tick.held ++ leBytes 2 s.tick.resting ++
    List.replicate 8 0

/-- STATE_TX: the state block at RSTART + 2 µs, or OVERPOS once per muster (R383, R386); a block with an uncorrectable
word is discarded (R308). -/
def doStateTx (s : State) : State :=
  if s.fab.state ≠ .member ∨ s.tick.phase = .off then s
  else if s.fab.pos ≤ s.cfg.maxPos then
    if !s.carries1 ∨ s.fab.stateSeq = s.tick.executed then s
    else
      let s := passToSpan 2000 s
      let s := fabricPut 0x410000 (stateHeader s) (modFab (fun b => { b with stateSeq := s.tick.executed }) s)
      let (ok, s) := eccSpan 5 0x410020 56 s
      if ok then sendFrame false false 0xFF 7 (stateHeader s ++ portGet 5 0x410020 224 s) s else s
  else if s.fab.overpos then s
  else logEv 0x800E 3 locFab (pack64 [(0, s.fab.pos)]) (modFab (fun b => { b with overpos := true }) s)

/-- A MAP record names a sender (Table 14.5). -/
def State.names (s : State) (from_ p : Nat) : Bool :=
  if from_ = 0 then s.fab.bw == p
  else if from_ ≤ 64 then from_ == p
  else if from_ = 0xFF then true
  else Config.groupMember (from_ - 0x80) (s.fab.roll.getD (p - 1) 0)

/-- The command of a mapped field, if it carries one (R388). -/
def mapField (m : MapRec) (block : List Byte) : Option Word :=
  if m.form = 0 then
    let b := leAt block m.off 1
    if b.testBit m.bit then some (BitVec.ofNat 32 (b01 (b.testBit (m.bit + 1)))) else none
  else
    let w := leAt block m.off 4
    if w = 0xFFFFFFFF then none else some (BitVec.ofNat 32 w)

/-- What a sender's block maps to an output: source 6 is live for it in the tick, and the last field with a command gives
the command (R388). -/
def mapBlock (p : Nat) (block : List Byte) (o : Nat) (s : State) : State :=
  let ms := s.cfg.maps.filter fun m => s.leadOut m.out == o && s.names m.src p
  if ms = [] then s
  else
    match (ms.filterMap fun m => mapField m block).getLast? with
    | some w => modOut o (fun x => { x with peer := some (some w) }) s
    | none => modOut o (fun x => { x with peer := some x.peer.join }) s

/-- The envelope phase of the tick has not opened. -/
def State.beforeEnvelope (s : State) : Bool := s.tick.phase == .begun || s.tick.phase == .engine || s.tick.phase == .core

/-- STATE_RX: a block is written to DP1 and maps source 6, or is late (R387, R388). Only a position sends one. -/
def doStateRx (p : Fin 2) (f : List Byte) (s : State) : State :=
  consume p 7 f (fun s =>
    let k := frSrc f
    if !s.carries1 ∨ k = 0 ∨ 64 < k then s
    else if !s.beforeEnvelope then
      limited (0x800000 + p.val * 0x10000 + 0x800D) (logEv 0x800D 4 (locPort p.val) (pack64 [(0, k)]))
        (setIrq .fab 6 (bump .fab 0x048 0 1 (modFab (fun b => { b with sblate := satInc b.sblate }) s)))
    else
      let block := slice f 16 256
      let s := fabricPut (0x410000 + 0x100 * k) block s
      let s := { s with hurdle := { s.hurdle with peerRx := updNat s.hurdle.peerRx k fun _ => true } }
      (List.range 256).foldl (fun s o => mapBlock k block o s) s) s

/-! ### Audio frames -/

/-- AUDIO_TX: the frame that the last tick took from the input slot of a local stream is buffered for play-out, unless a jump
of the tick number has stranded it, and sent in the reserved span (R423 to R426, R428). `ins` gives what the 32 slots
carried in that tick. -/
def doAudioTx (k : Fin 32) (ins : List (List (BitVec 24))) (s : State) : State :=
  let x := s.str k.val
  let r := (s.cfg.stream k.val).getD []
  let play := s.tick.lastCount.setWidth 32 + BitVec.ofNat 32 s.cfg.lat
  if s.cfg.isLocal k.val ∧ x.sender = 0 ∧ s.tick.phase ≠ .off ∧ s.tick.phase ≠ .begun ∧ play ∉ x.held then
    let pay := audioPayload k.val x.marked s.cfg.ns play (ins.getD (strSrc r) [])
    let s := if s.carries1 then passToSpan 2000 s else s
    let ahead := tickDiff play s.tickLo
    let s := if ahead ≤ 0 ∨ (s.cfg.lat : Int) < ahead then dropFrame k.val (decide (0 < ahead)) play s
      else bufferFrame audioPut k.val play pay s
    if s.carries1 then sendFrame false false (strDst r) 8 pay s else s
  else s

/-- AUDIO_RX (R426). -/
def doAudioRx (p : Fin 2) (f : List Byte) (s : State) : State :=
  consume p 8 f (fun s => if s.carries1 then audioAccept (frSrc f) (frTick f) (frPayload f) s else s) s

/-! ### Messages -/

/-- An entry of MSGTXQ holds a reserved value (R389). -/
def msgBad (e : List Byte) : Bool :=
  let d := leAt e 0 1
  let n := leAt e 2 2
  !(within 1 64 d || within 0x80 0x8F d || d == 0xFF || d == 0) || leAt e 1 1 != 0 || !within 1 28 n || !zeros (e.drop (4 + n))

/-- MSG_TX: an entry popped from MSGTXQ is sent (R389). [log 76 DEDUCED] -/
def doMsgTx (s : State) : State :=
  let q := s.cfg.msgTxq
  if s.fab.pos = 0 ∨ q = 0xFF ∨ (s.q q).count = 0 then s
  else
    let (r, e, s) := qPop 5 q s
    if r ≠ .done then s
    else if msgBad e then bump .fab 0x044 16 1 (modFab (fun b => { b with msgref := satInc b.msgref }) s)
    else sendFrame true false (leAt e 0 1) 11 (slice e 4 (leAt e 2 2)) s

/-- MSG_RX: a consumed message is pushed to MSGRXQ (R389). -/
def doMsgRx (p : Fin 2) (f : List Byte) (s : State) : State :=
  consume p 11 f (fun s =>
    let n := frLen f
    if s.cfg.msgRxq = 0xFF ∨ !within 1 28 n then s
    else (qPush 5 s.cfg.msgRxq
      ([BitVec.ofNat 8 (frSrc f), 0] ++ leBytes 2 n ++ slice f 16 n ++ List.replicate (28 - n) 0) s).2) s

/-! ### Remote data-window access -/

/-- The request of a channel (R390). -/
def State.raReq (s : State) (c : Fin 4) : RaReq :=
  let x := s.fab.ra[c]
  let data := match x.op with
    | 1 => [x.wdata]
    | 3 => (List.range x.count).map fun i => BitVec.ofNat 32 (ofLe (portGet 5 (0x418000 + c.val * 0x400 + 4 * i) 4 s))
    | _ => []
  ⟨c.val, x.op, x.reg, x.count, data⟩

/-- The request goes out; one whose data has an uncorrectable word is discarded, and its channel waits for a response in
vain (R308). [log 10 DESIGN CHOICE; 114 DEDUCED] -/
def sendReq (c : Fin 4) (s : State) : State :=
  let x := s.fab.ra[c]
  let (ok, s) := if x.op = 3 then eccSpan 5 (0x418000 + c.val * 0x400) x.count (burstsNow s) else (true, s)
  let pay := Config.raReqBytes (s.raReq c)
  let s := modRa c (fun x => { x with state := .sent, sentAt := s.tick.executed }) s
  if ok then sendFrame true false x.dst 9 pay s else s

/-- A channel is done with a result. -/
def raEnd (c : Fin 4) (result : Nat) (s : State) : State :=
  setIrq .fab 5 (modRa c (fun x => { x with state := .done, result := result }) s)

/-- A write of RA_CTRL.GO (R390). -/
def raStart (c : Fin 4) (s : State) : State :=
  let x := s.fab.ra[c]
  if x.state = .waiting ∨ x.state = .sent then setErr .fab 2 s
  else
    let s := modRa c (fun x => { x with words := 0, result := 0 }) (txnTurn 4 s)
    if !s.authOn then raEnd c 4 s
    else if s.fab.pos = 0 ∨ s.fab.n < x.dst then raEnd c 5 s
    else if s.txnFits then sendReq c (txnTake s)
    else txnWait (.ra c) (modRa c (fun x => { x with state := .waiting }) s)

/-- A write of RA_CTRL.ABANDON (R392). -/
def raStop (c : Fin 4) (s : State) : State :=
  match (s.fab.ra[c]).state with
  | .waiting => raEnd c 3 { s with dwin := { s.dwin with waiters := s.dwin.waiters.filter (· != .ra c) } }
  | .sent => raEnd c 3 (txnFree s)
  | _ => s

/-- RA_CTRL: GO and ABANDON together are a reserved encoding. [log 26 DEDUCED] -/
def raCtrlWrite (rq : Requester) (c : Fin 4) (v : Word) (s : State) : State :=
  wrIf .fab (rq == .keeper) (decide (3 ≤ v.toNat)) rq (0x200A1000 + c.val * 0x40)
    (fun s =>
      if bit v 0 then raStart c s
      else if bit v 1 then raStop c s
      else s) s

def doRaGo (rq : Requester) (c : Fin 4) (s : State) : State := raCtrlWrite rq c 1 s

def doRaAbandon (rq : Requester) (c : Fin 4) (s : State) : State := raCtrlWrite rq c 2 s

/-- RA_TIMEOUT: no response 8 ticks after sending (R392). -/
def doRaTimeout (c : Fin 4) (s : State) : State :=
  let x := s.fab.ra[c]
  if x.state = .sent ∧ x.sentAt + 8 ≤ s.tick.executed then
    raEnd c 2 (txnFree (logEv 0x800F 3 locFab (pack64 [(0, c.val), (8, x.dst)]) s))
  else s

/-- RA_RSP_RX: a response completes its channel, or is discarded as late (R390, R392). -/
def doRaRspRx (p : Fin 2) (f : List Byte) (r : RaRsp) (s : State) : State :=
  consume p 10 f (fun s =>
    let c : Fin 4 := ⟨r.chan % 4, by omega⟩
    let x := s.fab.ra[c]
    if x.state = .sent ∧ x.dst = frSrc f then
      let s := if x.op = 2 then fabricPut (0x418000 + c.val * 0x400) (r.data.flatMap fun w => leBytes 4 w.toNat) s else s
      let s := modRa c (fun x => { x with words := r.words, rdata := if x.op = 0 then r.data.headD 0 else x.rdata }) s
      raEnd c r.result (txnFree s)
    else bump .fab 0x048 16 1 (modFab (fun b => { b with ralate := satInc b.ralate }) s)) s

/-- The window whose W_DATA a word offset names. -/
def dataWin (reg : Nat) : Option (Fin 4) :=
  if h : 0x400 ≤ reg ∧ reg < 0x440 then (if reg % 16 = 4 then some ⟨(reg - 0x400) / 16, by omega⟩ else none) else none

/-- W_DATA is read `k` times for a peer: the words moved, and whether all were. -/
def peerRead (peer : Nat) (n : Fin 4) : Nat → List Word → State → List Word × Bool × State
  | 0, l, s => (l, true, s)
  | k + 1, l, s =>
    let (v, ok, s) := winDataRead .fabric peer n s
    if ok then peerRead peer n k (l ++ [v]) s else (l, false, s)

/-- W_DATA is written with each word for a peer. -/
def peerWrite (peer : Nat) (n : Fin 4) : List Word → Nat → State → Nat × Bool × State
  | [], k, s => (k, true, s)
  | v :: l, k, s =>
    let (ok, s) := winDataWrite .fabric peer n v s
    if ok then peerWrite peer n l (k + 1) s else (k, false, s)

/-- The target performs a request as the fabric peer of a position (R391). [log 76 DEDUCED] -/
def performReq (peer : Nat) (q : RaReq) (s : State) : RaRsp × State :=
  let s := burstsNow s
  match q.op with
  | 0 =>
    let (v, ok, s) := dwinRead .fabric peer (4 * q.reg) s
    (⟨q.chan, b01 (!ok), b01 ok, if ok then [v] else []⟩, s)
  | 1 =>
    let (ok, s) := dwinWrite .fabric peer (4 * q.reg) (q.data.headD 0) s
    (⟨q.chan, b01 (!ok), b01 ok, []⟩, s)
  | 2 =>
    match dataWin q.reg with
    | none => (⟨q.chan, 1, 0, []⟩, s)
    | some n =>
      let (l, ok, s) := peerRead peer n q.count [] s
      (⟨q.chan, b01 (!ok), l.length, l⟩, s)
  | _ =>
    match dataWin q.reg with
    | none => (⟨q.chan, 1, 0, []⟩, s)
    | some n =>
      let (k, ok, s) := peerWrite peer n (q.data.take q.count) 0 s
      (⟨q.chan, b01 (!ok), k, []⟩, s)

/-- A peer's access that holds its transaction is performed and answered. [log 10 DESIGN CHOICE] -/
def serveReq (r : RemoteReq) (s : State) : State :=
  let (rsp, s) := performReq r.src r.req s
  if s.maySend ∧ s.outPorts r.src ≠ [] then sendFrame true true r.src 10 (Config.raRspBytes rsp) s else txnFree s

/-- RA_REQ_RX: a peer's request takes a transaction, or waits for one (R328, R391). Without an AUTHSLOT none is accepted
(R320). -/
def doRaReqRx (p : Fin 2) (f : List Byte) (q : RaReq) (s : State) : State :=
  consume p 9 f (fun s =>
    let r : RemoteReq := ⟨p, frSrc f, q⟩
    if !s.authOn then s
    else
      let s := txnTurn 4 s
      if s.txnFits then serveReq r (txnTake s)
      else txnWait (.remote s.fab.remote.length) (modFab (fun b => { b with remote := b.remote ++ [r] }) s)) s

/-- TXN_START: the transaction that has waited longest starts once fewer than 64 are outstanding (R328). Waiting remote
accesses keep their order, so the first in line is the first that waits. -/
def doTxnStart (s : State) : State :=
  match s.dwin.waiters with
  | [] => s
  | w :: l =>
    if 64 ≤ s.dwin.inuse then s
    else
      let s := { s with dwin := { s.dwin with waiters := l } }
      match w with
      | .win n => startBurst n s
      | .ra c => sendReq c (txnTake s)
      | .remote _ =>
        match s.fab.remote with
        | [] => s
        | r :: rs => serveReq r (modFab (fun b => { b with remote := rs }) (txnTake s))

end Sys2Proof.Machine
end

