-- ==== Sys2Proof/Machine/CoreCtl.lean ====
section
/-! DEFINITION. The cores as units: their state at a reset entry and at a program load, and the restart of the shepherd
core (R258 to R275, R512, R517). -/

namespace Sys2Proof.Machine

/-- Rewrite the core block. -/
def modCore (f : CoreBlk → CoreBlk) (s : State) : State := { s with core := f s.core }

/-- Rewrite one core. -/
def modCpu (c : Fin 5) (f : Cpu → Cpu) (s : State) : State := modCore (fun b => { b with cpu := upd b.cpu c f }) s

/-- The shepherd core's tile (R275). -/
def locShepherd : Word := locTile 0 0

/-- MRAM offset of a firmware slot (Table 11.6). -/
def fwSlot (pair : Bool) : Nat := 0x100000 + 0x300000 * b01 pair

/-- MRAM offset of a structure slot (Table 11.6). -/
def stSlot (pair : Bool) : Nat := 0x700000 + 0x80000 * b01 pair

/-- The words of a span of an on-die memory lose their inverted bits and their marks: the span is written whole. -/
def cleanSpan (a b : Nat) (s : State) : State :=
  modMem (fun m => { m with
    flips := m.flips.filter fun x => !(decide (a ≤ x.1) && decide (x.1 < b))
    marked := m.marked.filter fun x => !(decide (a ≤ x) && decide (x < b)) }) s

/-- A span of an on-die memory is cleared, and bytes are stored from its start. -/
def reloadSpan (a b : Nat) (bytes : List Byte) (s : State) : State :=
  modMem (fun m => { m with ram := cellsPut a bytes (cellsClear a b m.ram) }) (cleanSpan a b s)

/-- The program memory of a core is reloaded (R512, Table 9.11). -/
def loadProgram (core : Nat) (bytes : List Byte) (s : State) : State :=
  reloadSpan (progKey core 0) (progKey core 0 + 0x20000) (bytes.take 0x20000) s

/-- The local data memory of a core is cleared. -/
def clearLocal (core : Nat) (s : State) : State :=
  reloadSpan (localKey core 0x800000) (localKey core 0x800000 + 0x10000) [] s

/-- The shepherd program of a firmware slot (Table 20.1): SHLEN bytes from 0xA0. -/
def State.shepherdProgram (s : State) (pair : Bool) : List Byte :=
  mramGet (fwSlot pair + 0xA0) (ofLe (mramGet (fwSlot pair + 0x18) 4 s)) s

/-- The shepherd core is loaded from the active slot and its reset entry runs in keeper level: event lines are disabled
with priority 0, their pending states kept (R262, R294, Table 9.11). -/
def enterReset (s : State) : State :=
  let s := clearLocal 0 (loadProgram 0 (s.shepherdProgram s.upd.boot.act) s)
  let s := modCpu 0 (fun _ => Cpu.resetEntry) s
  { s with
    core := { s.core with shepherdUp := true, restartAt := none, reload := .restart, spoiled := false }
    evt := { s.evt with en := 0, prio := Vector.replicate 128 0 } }

/-- The shepherd pair stops: absent from this tick, its commands of the tick discarded (R50, R273), and the windows it
holds are lost (R321). -/
def stopShepherd (reload : Reload) (s : State) : State :=
  let s := discardFresh 1 s
  let s := modCpu 0 (fun c => { c with run := .stopped, flight := [] }) s
  let s := modCore (fun b => { b with
    shepherdUp := false, reload := reload, restartAt := some s.tb0, spoiled := false, absentTick := s.intakeTick }) s
  loseWins 1 (fun w => w.holder == .shepherd) s

/-- The restarts of the last 60 s, the one that begins now among them (R275). [log 60 DEDUCED; 100 DEDUCED] -/
def State.recentRestarts (s : State) : List Nat := s.core.restarts.filter fun t => decide (s.tb0 - t ≤ 60000000000)

/-- A shepherd restart begins (R274); the fifth within 60 s leaves the pair stopped (R275). [log 60 DEDUCED] -/
def beginRestart (s : State) : State :=
  let s := stopShepherd .restart s
  let s := modCore (fun b => { b with restarts := s.tb0 :: b.restarts }) s
  let n := s.recentRestarts.length
  if 5 ≤ n then
    logEv 0x0304 6 locShepherd (pack64 [(0, min n 255)])
      (modCore (fun b => { b with halted := true, restartAt := none }) s)
  else s

/-- A keeper-level exception (R271). -/
def keeperFault (cause addr : Nat) (s : State) : State :=
  beginRestart (logEv 0x0302 5 locShepherd (pack64 [(0, cause), (16, addr)]) s)

/-- The reload is complete and the reset entry runs, unless the key core finds that the firmware image in the active slot
does not verify (R4, Table 9.11), or the pair is halted (R275): then the pair stays stopped. Only a restart writes
SHEPHERD_RESTART (Table 9.11, R517). [log 60 DEDUCED; 106 DEDUCED] -/
def finishReload (t : Nat) (verified : Bool) (s : State) : State :=
  let re := s.core.reload
  if !verified || s.core.halted then modCore (fun b => { b with restartAt := none }) s
  else
    let s := enterReset s
    if re = .restart then
      logEv 0x0303 3 locShepherd (pack64 [(0, min s.recentRestarts.length 255), (32, (s.tb0 - t) / 1000)]) s
    else s

end Sys2Proof.Machine
end

