-- ==== Sys2Proof/Machine/ImageSections.lean ====
section
/-! DEFINITION. The claims of the sections whose checks their function chapters give, and the operating points. -/

namespace Sys2Proof.Machine

/-- The claims of the FILTERS, SLOTPLAN, AUDIO and ACCESS sections (R70, R359, R433, R456). -/
def sectionsClaim (g : Image) : Bool := filtersClaim g && slotsClaim g && audioClaim g && accessClaim g

/-- The clock of an operating point in MHz (Table 19.3). -/
def opMHz (op : Nat) : Nat := 100 * (op + 1)

end Sys2Proof.Machine
end

