-- ==== Sys2Proof/Machine/ImageCheck.lean ====
section
/-! DEFINITION. The checks of a structure image (Table 3.16): ranges and reserved bytes, missing sections, claims and the
tick budget. -/

namespace Sys2Proof.Machine

/-! ### Checks 1 to 8, 10 and 11 -/

/-- Check 4: LENGTH. -/
def lengthOk (b : List Byte) : Bool :=
  decide (imgLength b ≤ 524288 ∧ imgLength b % 8 = 0 ∧ 0x60 + 16 * imgCount b ≤ imgLength b)

/-- Check 5: the directory's count and order. -/
def directoryOk (b : List Byte) : Bool := within 1 15 (imgCount b) && ascending ((imgDir b).map (·.ty))

/-- The sections stand without gaps from `at_`, and the last ends at `stop` (R60). -/
def placed (stop : Nat) : Nat → List DirEntry → Bool
  | at_, [] => at_ == stop
  | at_, e :: l => e.off == at_ && decide (8 ≤ e.len ∧ e.len % 8 = 0 ∧ at_ + e.len ≤ stop) && placed stop (at_ + e.len) l

/-- Check 6: placement. -/
def placementOk (b : List Byte) : Bool := placed (imgLength b) (0x60 + 16 * imgCount b) (imgDir b)

/-- Check 7: known types. -/
def typesOk (b : List Byte) : Bool := (imgDir b).all fun e => within 1 15 e.ty

/-- Check 10: each section header agrees with its entry, and VERSION is 1 (R61). -/
def headersOk (b : List Byte) : Bool :=
  (imgDir b).all fun e =>
    e.ver == 1 && leAt b e.off 2 == e.ty && leAt b (e.off + 2) 2 == e.ver && leAt b (e.off + 4) 4 == e.len

/-- The section length of Table 3.5 for a type and the COUNT of its body. -/
def secLength (ty count : Nat) : Nat :=
  match ty with
  | 1 => 16 | 2 => 256 | 3 => 776 | 4 => 592 | 5 => 296 | 6 => 88 | 7 => 16 + 24 * count | 8 => 16 + 16 * count
  | 9 => 16 + 16 * count | 10 => 16 + 8 * count | 11 => 16 + 8 * count | 12 => 72 | 13 => 24 | 14 => 16 + 8 * count
  | _ => 208

/-- Check 11: section lengths (R64). -/
def sizesOk (b : List Byte) : Bool := (imgDir b).all fun e => e.len == secLength e.ty (leAt (secBody b e.ty) 0 2)

/-! ### Check 12: reserved bytes and ranges -/

/-- The largest commit mark that leaves 40 µs of measurement slots (R41). -/
def maxCommit (period : Nat) : Nat :=
  match period with
  | 0 => 51 | 1 => 56 | 2 => 59 | _ => 60

/-- The image uses an LED string or an on-state open-load check (R41). -/
def usesWindows (g : Image) : Bool := g.str.toList.any (·.enable) || g.hs.toList.any (·.olOn)

/-- TICK (Table 3.6). -/
def tickRange (g : Image) (body : List Byte) : Bool :=
  body.isEmpty || (within 0 3 g.period && within 32 60 g.commit &&
    (!usesWindows g || decide (g.commit ≤ maxCommit g.period)) && zeros (body.drop 2))

/-- PINS (Table 3.7); wire-break detection is not available on fold 7 (R211). -/
def pinsRange (body : List Byte) : Bool :=
  (slice body 0 96).all (fun x => decide (x.toNat ≤ 4)) &&
  (slice body 0x60 112).all (fun x => decide (x.toNat ≤ 2)) &&
  (slice body 0xD0 16).all (fun x => decide (x.toNat ≤ 1)) &&
  (slice body 0xE0 20).all (fun x => decide (x.toNat ≤ 1)) && zeros (slice body 0xF4 4)

/-- A SWITCH record (Table 3.8). -/
def switchRange (c : HsCfg) (raw : List Byte) : Bool :=
  match c.fn with
  | 0 => zeros raw
  | 4 => within 1 1023 c.octh && zeros (raw.drop 2)
  | _ => decide (c.octh ≤ c.inth) && within 1 255 c.ocflt && within 0 100 c.intime && within 1 15 c.n &&
    decide (leAt raw 6 1 < 64) && within 0 48 c.group

/-- A profile record (Table 5.2, R130). -/
def profileRange (count i : Nat) (raw : List Byte) : Bool :=
  let p := parseProfile raw
  if count ≤ i then zeros raw
  else
    within 20 800 p.ipeak && within 10 50000 p.tpeak && within 20 300 p.ihold && decide (p.ihold ≤ p.ipeak) &&
    decide (leAt raw 8 1 % 4 ≤ 1 ∧ leAt raw 8 1 < 128) &&
    (if p.chains then decide (i < p.chain ∧ p.chain < count) else p.chain == 0) &&
    (if p.dip = 0 then p.moveto == 0 else within 1 p.tpeak p.moveto) && zeros (raw.drop 14)

/-- SOLENOID (Table 3.9); the CHOP of an unused driver may be 0. [log 40 DEDUCED] -/
def solRange (g : Image) (body : List Byte) : Bool :=
  body.isEmpty ||
  (let n := leAt body 0 2
   within 0 32 n && zeros (slice body 2 6) &&
   g.sol.toList.all (fun c =>
     (within 0 95 c.feed || c.feed == 0xFF) && (within 20 50 c.chop || (c.fn == 0 && c.chop == 0))) &&
   (List.range 32).all fun i => profileRange n i ((body.drop (0x48 + 16 * i)).take 16))

/-- INPUT (Table 3.10). -/
def inputRange (g : Image) (body : List Byte) : Bool :=
  body.isEmpty ||
  (g.diClass.toList.all (fun c => c == 1 || c == 3 || c == 0x10) &&
   (List.range 8).all (fun f => zeros (slice body (4 * f + 1) 3)) &&
   g.di.toList.all fun d => if d.fn = 0 then d.limit == 0 else within 1 1023 d.limit)

/-- LIGHT (Table 3.11, R159); the record of an unused chain line may be zero. [log 43 DEDUCED] -/
def lightRange (g : Image) (body : List Byte) : Bool :=
  body.isEmpty ||
  ((List.range 8).all (fun s => decide (leAt body (8 * s) 1 ≤ 1 ∧ leAt body (8 * s + 1) 1 ≤ 116) &&
     zeros (slice body (8 * s + 4) 4)) &&
   g.chain.toList.all (fun c => (c.fn == 0 && c.devices == 0 && c.span == 0) ||
     (within 1 256 c.devices && within 1 8 c.span)) &&
   (List.range 4).all fun l => leAt body (0x43 + 4 * l) 1 == 0)

/-- The REST value of an output (R87, R137, R165). -/
def restRange (g : Image) (o rest : Nat) : Bool :=
  if o < 96 then decide (rest ≤ 1)
  else if o < 112 then rest == 0 || (rest % 4 == 1 && decide (rest / 4 < g.profiles.length))
  else decide (rest < 4096)

/-- An OUTPUTS record (Table 3.12, R65). -/
def outRange (g : Image) (o : Nat) (raw : List Byte) : Bool :=
  let r := parseOut raw
  let n := leAt raw 7 1
  outNumberOk o && restRange g o r.rest && within 0 2000 r.hold && within 0 4 r.subst && within 1 8 n &&
  r.sources.all (fun x => within 1 12 x.1 && within 1 15 x.2) && (r.sources.map (·.1)).Nodup &&
  zeros (raw.drop (8 + 2 * n))

/-- OUTPUTS: ranges and strictly ascending order (R65). -/
def outsRange (g : Image) (body : List Byte) : Bool :=
  zeros (slice body 2 6) && ascending ((outRecs body).map (·.1)) && (outRecs body).all fun x => outRange g x.1 x.2

/-- The parameters of a HURDLE record (Table 8.7). -/
def hurdleParams (r : HurdleRec) : Bool :=
  match r.kind with
  | 1 => within 1 16777215 r.p1 && r.p2 == 0
  | 2 => within 1 16777215 r.p1 && r.p2 == 0
  | 3 => within 2 4096 r.p2 && within 1 r.p2 r.p1
  | 4 => within 2 4096 r.p2 && within 1 (r.p2 - 1) r.p1
  | 5 => decide (r.p1 < 2 ^ 24) && outNumberOk (r.p1 % 65536) && r.p2 == 0
  | 6 => decide (r.p1 < 2 ^ 17) && (decide (r.p1 % 65536 < 128) || within 0x100 0x15F (r.p1 % 65536)) && r.p2 == 0
  | 7 => within 1 255 r.p1 && r.p2 == 0
  | _ => false

/-- A HURDLE record's ranges (R224, R225). -/
def hurdleRange (raw : List Byte) : Bool :=
  let r := parseHurdle raw
  hurdleParams r && outNumberOk r.out && decide (leAt raw 1 1 ≤ 1) && (r.esc || r.escTime == 0) &&
  !(r.kind == 7 && r.esc) && zeros (raw.drop 14)

/-- The sort key of a HURDLE record: KIND, then OUT, then P1 (R224). -/
def hurdleKey (r : HurdleRec) : Nat := (r.kind * 2 ^ 16 + r.out) * 2 ^ 32 + r.p1

/-- HURDLE (Table 8.5). [log 42 DEDUCED] -/
def hurdlesRange (g : Image) (body : List Byte) : Bool :=
  let n := leAt body 0 2
  within 0 512 n && (g.budget == 0 || within 100 6000 g.budget) && within 1 65535 g.shedMin &&
  zeros (slice body 6 2) && nonFalling (g.recs.map hurdleKey) &&
  (List.range n).all fun i => hurdleRange (recAt body 16 i)

/-- An owner ID of an image: 0 to 9 or 15 (Table 3.13). -/
def ownerId (x : Nat) : Bool := decide (x ≤ 9) || x == 15

/-- BANKS (Table 3.13). -/
def banksRange (g : Image) : Bool := g.banks.toList.all ownerId

/-- A QUEUES record (Table 3.14, R66); its ends are owner IDs from 0 to 9 (R329). -/
def queueRange (raw : List Byte) : Bool :=
  let q := parseQueue raw
  within 0 127 (leAt raw 0 1) && within 0 15 q.bank && within 4 12 q.depth && within 0 2 q.esize &&
  within 0 9 q.producer && within 0 9 q.consumer &&
  decide (q.base * 256 + 2 ^ q.depth * (8 * 2 ^ q.esize) ≤ 262144) && leAt raw 7 1 == 0

/-- QUEUES: COUNT, order and records. [log 42 DEDUCED] -/
def queuesRange (body : List Byte) : Bool :=
  body.isEmpty || (within 0 128 (leAt body 0 2) && zeros (slice body 2 6) &&
    ascending ((queueRecs body).map (·.1)) && (queueRecs body).all fun x => queueRange x.2)

/-- PROOF (Table 3.15); ENTRY is an address of program memory (R244). [log 41 DEDUCED] -/
def proofRange (g : Image) (body : List Byte) : Bool :=
  within 0 3 g.minOp && zeros (slice body 1 7) &&
  (List.range 4).all fun k =>
    let r := (body.drop (8 + 48 * k)).take 48
    zeros (slice r 12 4) && (if leAt r 0 4 = 0 then zeros r else decide (leAt r 8 4 ≤ 16383))

/-- Check 12: header, directory and every section. Where PINS is absent, HSFN and DIFN count as 0.
[log 124 DEDUCED] -/
def rangesOk (b : List Byte) (g : Image) : Bool :=
  leAt b 6 2 == 0 && within 0 62 (imgKeySlot b) && zeros (slice b 0x16 10) && (imgDir b).all (fun e => e.rsv == 0) &&
  tickRange g (secBody b 1) && (!hasSec b 2 || pinsRange (secBody b 2)) &&
  (!hasSec b 3 || (List.finRange 96).all fun k => switchRange g.hs[k] ((secBody b 3).drop (8 * k.val) |>.take 8)) &&
  solRange g (secBody b 4) && inputRange g (secBody b 5) && lightRange g (secBody b 6) &&
  (!hasSec b 7 || outsRange g (secBody b 7)) && (!hasSec b 8 || hurdlesRange g (secBody b 8)) &&
  filtersRange g (secBody b 9) && slotsRange g (secBody b 10) && audioRange g (secBody b 11) &&
  accessRange g (secBody b 12) &&
  (!hasSec b 13 || banksRange g) && queuesRange (secBody b 14) && (!hasSec b 15 || proofRange g (secBody b 15))

/-! ### Check 13: missing sections -/

/-- Check 13: required sections, and optional ones whose default is not allowed (Table 3.5). -/
def presentOk (b : List Byte) (g : Image) : Bool :=
  hasSec b 2 && hasSec b 7 && hasSec b 8 && hasSec b 13 && hasSec b 15 &&
  (hasSec b 3 || g.hs.toList.all (fun c => c.fn == 0)) && (hasSec b 4 || g.sol.toList.all (fun c => c.fn == 0)) &&
  (hasSec b 5 || g.di.toList.all (fun c => c.fn == 0)) && (hasSec b 6 || g.chain.toList.all (fun c => c.fn == 0))

/-! ### Check 14: claims -/

/-- The channels of one group number. -/
def groupOf (g : Image) (n : Nat) : List Nat := (List.range 96).filter fun k => (getNat g.hs k default).group == n

/-- Group membership (Table 3.17): HSFN 2 exactly with a group; 2 to 4 adjacent channels of one fold. -/
def groupsClaim (g : Image) : Bool :=
  g.hs.toList.all (fun c => (c.fn == 2) == (c.group != 0)) &&
  (List.range 48).all fun i =>
    let m := groupOf g (i + 1)
    m.isEmpty || (within 2 4 m.length && decide (m.getLastD 0 = m.headD 0 + m.length - 1) &&
      decide (m.getLastD 0 / 8 = m.headD 0 / 8))

/-- Members equal their leader in the OUTPUTS record, RETRY and INTIME (R91). -/
def groupsEqual (g : Image) : Bool :=
  (List.range 48).all fun i =>
    let m := groupOf g (i + 1)
    let l := m.headD 0
    let a := getNat g.hs l default
    m.all fun k =>
      let c := getNat g.hs k default
      getNat g.outs k none == getNat g.outs l none && c.n == a.n && c.olOn == a.olOn && c.olOff == a.olOff &&
      c.intime == a.intime

/-- The largest value of a list. -/
def maxOf (l : List Nat) : Nat := l.foldl max 0

/-- The feed rating of R144, in mA with a factor 10. -/
def feedRating (g : Image) (k : Nat) : Bool :=
  let c := getNat g.hs k default
  let lsb := if k < 64 then 1 else 4
  let n := (g.sol.toList.filter fun d => d.fn == 1 && d.feed == k).length
  let ip := maxOf (g.profiles.map (·.ipeak)) * 10
  let ih := maxOf (g.profiles.map (·.ihold)) * 10
  decide (11 * (ip + (n - 1) * ih) ≤ 10 * (c.octh * lsb))

/-- Solenoid feeds and unused drivers (Table 3.17). -/
def feedsClaim (g : Image) : Bool :=
  g.sol.toList.all (fun d =>
    if d.fn = 1 then decide (d.feed < 96) && (getNat g.hs d.feed default).fn == 3
    else d.feed == 0xFF && d.chop == 0 && d.minoff == 0) &&
  (List.range 96).all fun k => (getNat g.hs k default).fn != 3 ||
    (g.sol.toList.any (fun d => d.fn == 1 && d.feed == k) && feedRating g k)

/-- The output exists: its lane is an output of the image (Table 3.17). -/
def laneIsOutput (g : Image) (o : Nat) : Bool :=
  if o < 96 then let f := (getNat g.hs o default).fn; f == 1 || f == 2
  else if o < 112 then (getNat g.sol (o - 96) default).fn == 1
  else if o < 128 then false
  else
    let c := getNat g.str ((o - 128) / 16) default
    c.enable && c.posmask.testBit ((o - 128) % 16)

/-- Output records (Table 3.17): exactly the outputs have one. -/
def outputsClaim (g : Image) : Bool :=
  (List.range 256).all fun o => (getNat g.outs o none).isSome == laneIsOutput g o

/-- Fold classes (Table 3.17). -/
def classClaim (g : Image) : Bool :=
  (List.range 8).all fun f =>
    let c := getNat g.diClass f 0
    if f = 7 then c == 0x10 else c == 1 || c == 3

/-- The bytes of a queue's ring. -/
def ringSpan (q : QueueCfg) : Nat × Nat := (q.base * 256, q.base * 256 + 2 ^ q.depth * (8 * 2 ^ q.esize))

/-- Queue rings do not overlap (Table 3.17). -/
def ringsClaim (g : Image) : Bool :=
  let qs := g.queues.toList.filterMap id
  (qs.zipIdx).all fun a => (qs.zipIdx).all fun b =>
    a.2 == b.2 || a.1.bank != b.1.bank ||
    decide ((ringSpan a.1).2 ≤ (ringSpan b.1).1 ∨ (ringSpan b.1).2 ≤ (ringSpan a.1).1)

/-- The output kinds a record KIND permits (Table 8.7). -/
def kindPermits (kind o : Nat) : Bool :=
  match kind with
  | 5 => true
  | 6 => true
  | 7 => decide (o < 96)
  | _ => decide (o < 112)

/-- The leader of a channel's group in an image under check. -/
def leaderIn (g : Image) (o : Nat) : Bool :=
  o ≥ 96 || (getNat g.hs o default).fn != 2 || (groupOf g (getNat g.hs o default).group).headD o == o

/-- The rest value of an output is on (R226). -/
def restOn (g : Image) (o : Nat) : Bool :=
  match getNat g.outs o none with
  | some r => if o < 96 then r.rest == 1 else if o < 112 then r.rest % 4 == 1 else r.rest != 0
  | none => false

/-- One HURDLE record against R225 and R226. -/
def hurdleClaim (g : Image) (r : HurdleRec) : Bool :=
  (getNat g.outs r.out none).isSome && kindPermits r.kind r.out && leaderIn g r.out &&
  (match r.kind with
   | 5 =>
     let b := r.p1 % 65536
     decide (r.out < b) && (getNat g.outs b none).isSome && leaderIn g b &&
     !(restOn g r.out && restOn g b) && (r.p1 / 65536 % 256 == 0 || !(restOn g r.out || restOn g b))
   | 6 =>
     let n := r.p1 % 65536
     (if n < 256 then (getNat g.di n default).fn != 0 else (getNat g.hs (n - 256) default).fn == 4) && !restOn g r.out
   | _ => !restOn g r.out)

/-- Two records of one kind name one output. -/
def countOf (g : Image) (kind o : Nat) : Nat := (g.recs.filter fun r => r.kind == kind && r.out == o).length

/-- The HURDLE table against R225 and R226. [log 42 DEDUCED] -/
def hurdlesClaim (g : Image) : Bool :=
  g.recs.all (hurdleClaim g) &&
  ((g.recs.filter fun r => r.kind == 5).map fun r => (r.out, r.p1 % 65536)).Nodup &&
  decide ((g.recs.filter fun r => r.kind == 5).length ≤ 64) &&
  decide ((g.recs.filter fun r => r.kind == 3 || r.kind == 4).length ≤ 64) &&
  (List.range 256).all (fun o => [1, 2, 3, 4, 7].all (fun k => decide (countOf g k o ≤ 1)) && decide (countOf g 6 o ≤ 4)) &&
  ((g.recs.filter fun r => r.kind == 7).map fun r => r.p1 % 256).Nodup

/-- Check 14: the claim rules (R68, R69). -/
def claimsOk (g : Image) : Bool :=
  groupsClaim g && groupsEqual g && feedsClaim g && outputsClaim g && classClaim g && ringsClaim g && hurdlesClaim g &&
  sectionsClaim g

/-! ### Check 15: the tick budget -/

/-- The budget B of R72: the core window at the frequency of an operating point, less 0.05 % and 64 bundles. -/
def tickBudget (period commit op : Nat) : Nat :=
  (commit - 6) * (250 * 2 ^ period) * opMHz op * 9995 / 640000 - 64

/-- Check 15: each loaded core's BUDGET equals B and its WORST fits (R73). -/
def budgetOk (g : Image) : Bool :=
  g.proof.toList.all fun r =>
    r.worst == 0 || (r.budget == tickBudget g.period g.commit g.minOp && decide (r.worst ≤ r.budget))

/-- The reason code of the first failing check of Table 3.16, or 0. The usage flags of the two key slots and the
signature's verdict are given. -/
def imageReason (b : List Byte) (digest : List Byte) (keysOk sigOk : Bool) : Nat :=
  let g := parseImage b digest
  if slice b 0 4 ≠ [0x4B, 0x4F, 0x52, 0x58] then 1
  else if leAt b 4 2 ≠ 1 then 2
  else if leAt b 8 4 ≠ 0x04800024 then 3
  else if !lengthOk b then 4
  else if !directoryOk b then 5
  else if !placementOk b then 6
  else if !typesOk b then 7
  else if imgKeySlot b % 2 = 1 ∨ !keysOk then 8
  else if !sigOk then 9
  else if !headersOk b then 10
  else if !sizesOk b then 11
  else if !rangesOk b g then 12
  else if !presentOk b g then 13
  else if !claimsOk g then 14
  else if !budgetOk g then 15
  else 0

end Sys2Proof.Machine
end

