-- ==== Sys2Proof/Machine/SwapLanes.lean ====
section
/-! DEFINITION. What a swap of the structure image does to outputs, lanes and inputs: assignments and carry-over
(R83, R84, Table 3.19). -/

namespace Sys2Proof.Machine

/-- The lane function of an output (R83). -/
def laneFn (g : Image) (o : Nat) : Nat :=
  if o < 96 then (getNat g.hs o default).fn
  else if o < 112 then (getNat g.sol (o - 96) default).fn
  else
    let c := getNat g.str ((o - 128) / 16) default
    b01 c.enable * 2 + b01 (c.posmask.testBit ((o - 128) % 16))

/-- The members of an HS output's group, as numbers; its label does not matter (R83). -/
def memberSet (g : Image) (o : Nat) : List Nat := if h : o < 96 then (g.members ⟨o, h⟩).map (·.val) else [o]

/-- The feed pairing of a solenoid output. -/
def feedPairing (g : Image) (o : Nat) : Nat := if 96 ≤ o ∧ o < 112 then (getNat g.sol (o - 96) default).feed else 0

/-- The part of an OUTPUTS record that belongs to the assignment: SUBST, NSRC and the source entries. -/
def recordPart (g : Image) (o : Nat) : Option (Nat × List (Nat × Nat)) :=
  (getNat g.outs o none).map fun r => (r.subst, r.sources)

/-- The assignment of an output is the same in two images (R83). -/
def sameAssignment (old new : Image) (o : Nat) : Bool :=
  laneFn old o == laneFn new o && memberSet old o == memberSet new o && feedPairing old o == feedPairing new o &&
  recordPart old o == recordPart new o

/-- An image holds a record of a kind for an output. -/
def hasRec (g : Image) (o kind : Nat) : Bool := g.recs.any fun r => r.out == o && r.kind == kind

/-- An output with a changed assignment: standing commands discarded; from the commit of this tick on REST with c = 0,
and Hurdle timers and windows afresh; escalation cleared (R83, R236, Table 3.19). Until that commit its registers stand
(R58). The commands of this tick stand for the next. [log 31 DEDUCED] -/
def OutState.reassign (x : OutState) : OutState :=
  { x with
    cmds := Vector.replicate 16 none, forceRest := false, conflict := false, conflictSet := []
    esc := false, escLeft := 0, escUntil := false, shed := false, shedShare := 0, shedFor := 0
    onLatched := false, peer := none, changed := true }

/-- An output with an unchanged assignment: hold-over, escalation and counts are kept under the new limits; a RATE or
DUTY window whose record comes in starts empty (R228, Table 3.19). [log 31 DEDUCED] -/
def OutState.carry (old new : Image) (o : Nat) (x : OutState) : OutState :=
  let h := match getNat new.outs o none with
    | some r => r.hold
    | none => 0
  { x with
    forceRest := x.hold == .hold && decide (h ≤ x.c)
    histTurn := if hasRec new o 3 && !hasRec old o 3 then [] else x.histTurn
    histOn := if hasRec new o 4 && !hasRec old o 4 then [] else x.histOn
    onLatched := x.onLatched && hasRec new o 1
    shed := x.shed && hasRec new o 7 }

/-- An output leads the outputs that an image governs together with it (R90). -/
def leads (g : Image) (o : Nat) : Bool := if h : o < 96 then (g.leader ⟨o, h⟩).val == o else true

/-- The clip run of an output at a swap: a run is its leader's, and one whose record the new image does not hold at the same
place is over (R237). [log 136 DEDUCED] -/
def OutState.keepRun (old new : Image) (o : Nat) (x : OutState) : OutState :=
  let run := if leads old o then x.run else none
  { x with
    run := run
    runOver := run.any fun r => x.runOver || old.recs[r.1]? != new.recs[r.1]? || !leads new o }

/-- The command path at a swap. An output that the new image does not have starts afresh. An escalation ends once for the
outputs it held (R236). -/
def swapOutputs (old new : Image) (s : State) : State :=
  let s := (List.range 256).foldl (fun s o =>
    if sameAssignment old new o ∨ !leads old o then s else endEscalation o 2 s) s
  mapOuts (fun o x =>
    let x := x.keepRun old new o
    if (getNat new.outs o none).isNone then { OutState.start with fresh := x.fresh, run := x.run, runOver := x.run.isSome }
    else if sameAssignment old new o then x.carry old new o
    else x.reassign) s

/-- An HS channel at a swap: OPEN and EXTV with their debounces and the run of disturbed ticks are cleared when its
assignment changes, with the entry of a flag that was set (Table 3.19); protection states and latches are kept. -/
def swapHs (old new : Image) (k : Fin 96) (s : State) : State :=
  if sameAssignment old new k.val then s
  else
    let h := s.hsw.ch[k]
    let s := modHs k (fun h => { h with
      open_ := false, openRun := ⟨0, 0⟩, extv := false, extvRun := ⟨0, 0⟩, distRun := 0, forced := false
      forcedRd := none, dist := false, comp := false }) s
    let s := if h.open_ then logEv 0x2009 2 (locHs k.val) 0 s else s
    if h.extv then logEv 0x200B 4 (locHs k.val) 0 s else s

/-- A swap that forms a group from channels in different states gives it one state (R92); channels of one and the same state
keep it, with the largest retry count and the longest pause or inrush phase of them. [log 122 DEDUCED] -/
def formGroup (old new : Image) (k : Fin 96) (s : State) : State :=
  let ms := new.members k
  if new.leader k = k ∧ 2 ≤ ms.length ∧ memberSet old k.val ≠ memberSet new k.val then
    let any := fun (p : Prot) => ms.any fun j => s.hsw.ch[j].prot == p
    let st := if any .latchTh then Prot.latchTh else if any .latchOc then Prot.latchOc else Prot.off
    let r := (ms.map fun j => s.hsw.ch[j].r).foldl max 0
    let left := (ms.map fun j => s.hsw.ch[j].left).foldl max 0
    if ms.all fun j => s.hsw.ch[j].prot == s.hsw.ch[k].prot then
      ms.foldl (fun s j => modHs j (fun h => { h with
        r := r, left := left, clean := min h.clean s.hsw.ch[k].clean, onFor := min h.onFor s.hsw.ch[k].onFor }) s) s
    else ms.foldl (fun s j => modHs j (fun h => { h with prot := st, r := r, left := 0, clean := 0, onFor := 0 }) s) s
  else s

/-- A solenoid driver at a swap: with a changed assignment its profile is aborted and its queued event dropped (R140);
otherwise the profile runs to its end under the image it started with. Its applied word is then 0 until the commit, and the
minimum off-time is that of the new image. Delayed commands that it holds stand in either case. [log 31 DEDUCED] -/
def swapSol (old new : Image) (k : Fin 16) (s : State) : State :=
  if sameAssignment old new (96 + k.val) then s
  else modSol k (fun c => { c with applied := 0 }) (solAbort k s)

/-- A lamp position at a swap: when its assignment changes its fade is dropped, and from the commit on its accumulator and
remainder start from R173 (R177, Table 3.19). -/
def swapPos (old new : Image) (k : Nat) (h : LampState) : LampState :=
  if sameAssignment old new (128 + k) then h
  else { h with renew := true, steps := 0, step := 0, target := h.disp }

/-- A counter clipped to a new limit (R205). -/
def Filter.clip (limit : Nat) (f : Filter) : Filter := { f with c := min f.c limit }

/-- A field input at a swap (R201, R204, R205). -/
def swapDi (old new : DiCfg) (d : DiState) : DiState :=
  if new.fn = 0 then DiState.start
  else if old.fn = 0 then { DiState.start with count := 0 }
  else { d with
    flt := d.flt.clip new.limit
    wb := if new.fn = 2 then (if old.fn = 2 then d.wb.clip new.limit else Filter.fresh) else Filter.fresh }

/-- An HS channel used as an input at a swap (R204, R205). -/
def swapHsIn (old new : HsCfg) (d : DiState) : DiState :=
  if new.fn ≠ 4 then DiState.start
  else if old.fn ≠ 4 then DiState.start
  else { d with flt := d.flt.clip new.octh }

/-- What is done for each of the channels of the chosen dies. -/
def onHsDies (dies : Vector Bool 5) (f : Fin 96 → State → State) (s : State) : State :=
  (List.finRange 96).foldl (fun s k => if getNat dies (hsDie k.val) false then f k s else s) s

/-- The chosen outer dies take the new configuration (R32, R84, R85). -/
def swapDies (dies : Vector Bool 5) (old new : Image) (s : State) : State :=
  let s := onHsDies dies (formGroup old new) (onHsDies dies (swapHs old new) s)
  let inp := mapUnits s.hsw.inp fun k d =>
    if getNat dies (hsDie k.val) false then swapHsIn old.hs[k] new.hs[k] d else d
  let s := { s with hsw := { s.hsw with inp := inp } }
  if dies[3] then
    let s := (List.finRange 16).foldl (fun s k => swapSol old new k s) s
    { s with
      led := { s.led with pos := mapUnits s.led.pos fun k h => swapPos old new k.val h }
      din := { s.din with ch := mapUnits s.din.ch fun k d => swapDi old.di[k] new.di[k] d } }
  else s

/-- The configuration in which the chosen dies still have what an older image gives their lanes (R85). -/
def Image.withDies (new old : Image) (dies : Vector Bool 5) : Image :=
  let g := { new with
    hs := Vector.ofFn fun k : Fin 96 => if getNat dies (hsDie k.val) false then old.hs[k] else new.hs[k] }
  if dies[3] then { g with
    di := old.di, diClass := old.diClass, sol := old.sol, profiles := old.profiles, str := old.str, chain := old.chain }
  else g

/-- The dies that were to swap one tick later do so now, those of them that have received the flag (R85). [log 32 DEDUCED] -/
def lateSwap (s : State) : State :=
  match s.strct.late with
  | none => s
  | some (old, new) =>
    let lag := s.hurdle.lag
    let go := Vector.ofFn fun d : Fin 5 => s.strct.lateDies[d] && !lag[d]
    let stay := Vector.ofFn fun d : Fin 5 => s.strct.lateDies[d] && lag[d]
    swapDies go old new { s with
      cfg := new.withDies old stay
      strct := { s.strct with
        late := if stay.toList.any id then some (old, new) else none
        lateDies := stay } }

end Sys2Proof.Machine
end

