-- ==== Sys2Proof/Machine/Structure.lean ====
section
/-! DEFINITION. Loading the shadow configuration and swapping it in (R76 to R85, R511). -/

namespace Sys2Proof.Machine

/-- Rewrite the STRUCT block. -/
def modStruct (f : StructBlk → StructBlk) (s : State) : State := { s with strct := f s.strct }

/-- The location code of the structure entries: tile 0 of the control die. [log 119 DESIGN CHOICE] -/
def locStruct : Word := locTile 0 0

/-- The bytes of the image in a structure slot: LENGTH bytes of the slot (R60). A header byte beyond a LENGTH below 32 is
none of the image's and reads as 0. [log 125 DEDUCED] -/
def State.slotImage (s : State) (slot : Bool) : List Byte :=
  mramGet (stSlot slot) (min 0x80000 (ofLe (mramGet (stSlot slot + 0xC) 4 s))) s

/-- The image digest (R62). -/
def imgDigest (b : List Byte) : List Byte := sha256 (imgSigned b)

/-- The reason for which the image of a slot is refused, 0 when it passes the checks of Table 3.16. -/
def State.slotReasonOf (s : State) (slot : Bool) : Nat :=
  let b := s.slotImage slot
  let d := imgDigest b
  let k := imgKeySlot b
  imageReason b d (s.imageKeys k) (s.pairVerifies k d (imgSig b))

/-- An image names a key slot without the image-verification flag: the first such slot of its pair is reported (R63, R457).
[log 140 DEDUCED] -/
def refuseImage (k : Nat) (s : State) : State :=
  if k % 2 = 1 then s
  else if s.slotReason k 1 = 1 then refuseBlock k 1 s else if s.slotReason (k + 1) 1 = 1 then refuseBlock (k + 1) 1 s else s

/-- The entries of a structure image that is rejected (R67, R457). -/
def rejectEntries (slot : Bool) (reason : Nat) (s : State) : State :=
  let b := s.slotImage slot
  let s := if reason = 8 then refuseImage (imgKeySlot b) s else s
  setIrq .strct 1 (logEv 0xE101 5 locStruct (pack64 [(0, reason), (8, b01 slot), (32, leAt b 0x10 4)]) s)

/-- A load of a slot into the shadow starts (R77): the checks, then the shadow copies. An image that fails is rejected
with its reason, and none of it reaches the shadow (R67). [log 44 DEDUCED] -/
def loadShadow (slot : Bool) (s : State) : State :=
  let b := s.slotImage slot
  let reason := s.slotReasonOf slot
  let s := modStruct (fun x => { x with shImage := none, shSlot := slot, loadTicks := s.tick.executed }) s
  if reason = 0 then
    modStruct (fun x => { x with shadow := .loading, shImage := some (parseImage b (imgDigest b)) }) s
  else
    rejectEntries slot reason (modStruct (fun x => { x with shadow := .failed, reason := reason }) s)

/-- STRUCT_LOAD_GO's permission to replace the shadow: not while it loads or is scheduled (R77), nor while a pair is
staged for the update (Table 20.5). [log 45 DEDUCED] -/
def State.shadowBusy (s : State) : Bool :=
  s.strct.shadow == .loading || s.strct.shadow == .scheduled || s.upd.state == .verified ||
    s.upd.state == .scheduled || s.upd.state == .trial

/-- The scheduled swap is cancelled with a cause (R80, R81, R492). -/
def swapAbort (cause : Nat) (s : State) : State :=
  setIrq .strct 3 (logEv 0xE104 4 locStruct (pack64 [(0, cause)]) (modStruct (fun x => { x with shadow := .ready }) s))

/-- The envelope phase of tick `n` has opened. -/
def State.envOpened (s : State) (n : Nat) : Bool :=
  s.tick.phase != .off && (decide (n < s.tick.count.toNat) ||
    (decide (n = s.tick.count.toNat) && !(s.tick.phase == .begun || s.tick.phase == .engine || s.tick.phase == .core)))

/-- A write of STRUCT_LOAD that passes permission and reserved bits: SLOT takes its value, also beside a GO that is refused
with BUSY. [log 45 DEDUCED] -/
def structLoad (v : Word) (s : State) : State :=
  if s.upd.state = .verified ∨ s.upd.state = .scheduled ∨ s.upd.state = .trial then setErr .strct 2 s
  else
    let s := modStruct (fun x => { x with slot := bit v 0 }) s
    if bit v 1 then (if s.shadowBusy then setErr .strct 2 s else loadShadow (bit v 0) s)
    else if bit v 2 ∧ s.strct.shadow = .scheduled ∧ !s.envOpened (s.strct.target.toNat - 1) then swapAbort 1 s
    else s

/-- Rewrite the UPD block. -/
def modUpd (f : UpdBlk → UpdBlk) (s : State) : State := { s with upd := f s.upd }

/-- The KEYSLOT of the image being loaded into the shadow. -/
def State.shadowKey (s : State) : Nat := leAt (s.slotImage s.strct.shSlot) 0x14 1

/-- A tamper while a structure image is loaded: when the key core is still at its verification, which is a free value,
the verification is aborted and counts as one that failed (R476). [log 82 DEDUCED] -/
def tamperImage (s : State) : State :=
  if s.strct.shadow ≠ .loading then s
  else if s.freeVal.getLsbD 0 then
    let k := s.shadowKey
    let s := markSlot k (tickFree s)
    let s := logEv 0xC007 7 locKeyCore (pack64 [(0, k)]) s
    let s := modUpd (fun u => { u with verifying := u.verifying.map fun r => if r = 0 then 9 else r }) s
    rejectEntries s.strct.shSlot 9 (modStruct (fun x => { x with shadow := .failed, reason := 9, shImage := none }) s)
  else tickFree s

/-- A write of STRUCT_LOAD (Table 3.25); GO and CANCEL together are a reserved encoding. [log 45 DEDUCED] -/
def structLoadWrite (rq : Requester) (v : Word) (s : State) : State :=
  wrIf .strct (rq == .keeper) (decide (8 ≤ v.toNat ∨ (bit v 1 ∧ bit v 2))) rq 0x20020020 (structLoad v) s

/-- STRUCT_LOAD_GO. [log 44 DEDUCED] -/
def doStructLoadGo (rq : Requester) (slot : Bool) (s : State) : State :=
  structLoadWrite rq (BitVec.ofNat 32 (2 + b01 slot)) s

/-- STRUCT_CANCEL; SLOT is written as it stands. -/
def doStructCancel (rq : Requester) (s : State) : State :=
  structLoadWrite rq (BitVec.ofNat 32 (4 + b01 s.strct.slot)) s

/-- SHADOW_READY: every die has acknowledged its shadow copy (R77). -/
def doShadowReady (s : State) : State :=
  match s.strct.shadow, s.strct.shImage with
  | .loading, some g =>
    keyBegin (setIrq .strct 0 (logEv 0xE102 2 locStruct (pack64 [(8, b01 s.strct.shSlot), (32, g.serial.toNat)])
      (modStruct (fun x => { x with shadow := .ready }) s)))
  | _, _ => s

/-- SHADOW_ACK_TIMEOUT: a die has not acknowledged within 4 ticks (R32, R77). [log 44 DEDUCED] -/
def doShadowAckTimeout (s : State) : State :=
  if s.strct.shadow = .loading ∧ s.strct.loadTicks + 4 ≤ s.tick.executed then
    setIrq .strct 1 (logEv 0xE104 4 locStruct (pack64 [(0, 3)])
      (modStruct (fun x => { x with shadow := .failed, shImage := none }) s))
  else s

/-! ### Arming -/

/-- The tick named by a target, 0 for the earliest allowed (R78). -/
def State.swapTarget (s : State) (v : DWord) : Nat :=
  if v ≠ 0 then v.toNat
  else if s.envOpened s.tick.count.toNat then s.tick.count.toNat + 2 else s.tick.count.toNat + 1

/-- The tick period and commit mark in effect differ (R79). -/
def tickDiffers (a b : Image) : Bool := a.period != b.period || a.commit != b.commit

/-- Why arming at a target is refused: the bit of STRUCT_ERR (R78, R79). A write that both TICKCHG and LATE would refuse sets
TICKCHG; a scheduled swap that can no longer be stopped keeps its target (R80). [log 126 DEDUCED] -/
def State.armRefused (s : State) (target : Nat) : Option Nat :=
  match s.strct.shImage with
  | none => some 3
  | some g =>
    if s.strct.shadow ≠ .ready ∧ s.strct.shadow ≠ .scheduled then some 3
    else if tickDiffers s.cfg g then some 5
    else if s.envOpened (target - 1) ∨ (s.strct.shadow = .scheduled ∧ s.envOpened (s.strct.target.toNat - 1)) then some 4
    else none

/-- A swap is scheduled. -/
def schedule (target : Nat) (s : State) : State :=
  modStruct (fun x => { x with shadow := .scheduled, target := BitVec.ofNat 64 target }) s

/-- The swap of a start takes effect at the first multiple of T on TB0 at least 2 T after the arming write (R511).
[log 46 DEDUCED] -/
def armAtStart (s : State) : State :=
  match s.strct.shImage with
  | some g =>
    if s.strct.shadow = .ready ∨ s.strct.shadow = .scheduled then
      schedule (ceilDiv (s.time.tb[0].value.toNat + 2 * g.periodNs * 2 ^ 32) (g.periodNs * 2 ^ 32)) s
    else s
  | none => s

/-- A swap is armed with a target, or refused; at a start none is refused before the first tick (R511). [log 20 DEDUCED] -/
def armSwap (v : DWord) (s : State) : State :=
  if !s.strct.inForce ∨ (s.tick.phase = .off ∧ s.tick.executed = 0) then armAtStart s
  else
    let t := s.swapTarget v
    match s.armRefused t with
    | some i => setErr .strct i s
    | none => schedule t s

/-- SWAPAT_ARM: a write of STRUCT_SWAPAT_HI (R76, R78, R20). [log 20 DEDUCED] -/
def doSwapatArm (rq : Requester) (hi : Word) (s : State) : State :=
  if rq ≠ .keeper then setErr .strct 1 s
  else
    match heldWord rq 0x20020028 s with
    | none => reservedWrite rq 0x2002002C s
    | some lo => armSwap (join64 lo hi) (modStruct (fun x => { x with swapAt := join64 lo hi }) (dropHeld rq s))

/-! ### The swap -/

/-- R75: a tick core whose program's digest matches the image's PROOF record is loaded, another is not. -/
def State.programMatches (s : State) (k : Fin 4) : Bool :=
  !s.upd.tpDigest[k].isEmpty && s.upd.tpDigest[k] == s.cfg.proof[k].digest

/-- R75 at a start or a swap, for one tick core. -/
def matchProgram (s : State) (k : Fin 4) : State :=
  if s.upd.tpStat[k] = 1 ∨ s.upd.tpDigest[k].isEmpty then s
  else if s.programMatches k then modUpd (fun u => { u with tpStat := u.tpStat.set k 2 }) s
  else
    modCpu ⟨k.val + 1, by omega⟩ (fun c => { c with run := .stopped, flight := [] })
      (setTc k .notLoaded (modUpd (fun u => { u with tpStat := u.tpStat.set k 0 }) s))

/-- The swap is due: the tick that begins is its target. -/
def State.swapDue (s : State) : Bool :=
  s.strct.inForce && s.strct.shadow == .scheduled && s.tick.phase == .begun && s.tick.count == s.strct.target

/-- The first image of a start takes effect: its owners and queue bindings with it (R300, R333). [log 46 DEDUCED] -/
def startImage (g : Image) (s : State) : State :=
  let s := { s with
    cfg := g, strct := { s.strct with dies := none }
    tick := { s.tick with
      frameAt := if s.strct.dies.isSome then s.tick.frameAt else Vector.replicate 5 s.tb0 }
    led := { s.led with modeDue := true, pos := s.led.pos.map fun h => { h with renew := true } } }
  if s.mem.ownersSet then s
  else
    queStart g (modMem (fun m => { m with
      ownersSet := true, startOwners := g.banks, bank := mapUnits m.bank fun b x =>
        if b.val < 16 then { x with owner := getNat g.banks b.val 0, handover := none } else x }) s)

/-- A later swap (Table 3.18, Table 3.19): outputs, audio and access take the new configuration, and so do the lanes of
the dies that have received the flag; the sessions that it ends are those of the image before (R219). `lag` names the
other dies, which have the lanes of the image before for one more tick (R85). -/
def swapImage (lag : Vector Bool 5) (old new : Image) (s : State) : State :=
  let go := Vector.ofFn fun d : Fin 5 => !lag[d]
  let s := swapOutputs old new (accSwap old new s)
  mbusSwap old new <| audioSwap old new (swapDies go old new { s with
    cfg := new.withDies old lag
    strct := { s.strct with late := if lag.toList.any id then some (old, new) else none, lateDies := lag } })

/-- The dies that missed the commit frame of the tick before. -/
def State.missedFrame (s : State) : Vector Bool 5 := s.tick.missed.map fun n => n != 0

/-- The image of which the exchange makes the shadow: the one in force, also while a die has still to swap to it (R82, R85). -/
def State.inForceImage (s : State) : Image :=
  match s.strct.late with
  | some (_, new) => new
  | none => s.cfg

/-- The dies that missed the commit frame of the tick before (R85). -/
def lagging (missed : Vector Bool 5) (s : State) : State :=
  let s := [1, 2, 3, 4].foldl (fun s (d : Fin 5) =>
    if missed[d] then logEv 0xE105 4 locStruct (pack64 [(0, d.val)]) s else s) s
  { s with hurdle := { s.hurdle with lag := missed } }

/-- The exchange of configuration and shadow (R82). The module keeps its operating point, though the new image's MINOP
lie above it: R74 refuses requests. [log 123 DESIGN CHOICE] -/
def exchange (lag : Vector Bool 5) (new : Image) (s : State) : State :=
  let old := s.inForceImage
  let was := s.strct.inForce
  let oldSlot := s.strct.active
  let s := if was then swapImage lag s.cfg new s else startImage new s
  let s := modStruct (fun x => { x with
    shadow := if was then .ready else .empty
    shImage := if was then some old else none
    active := x.shSlot, shSlot := oldSlot, inForce := true, gen := satInc x.gen }) s
  let s := (List.finRange 4).foldl matchProgram s
  setIrq .strct 2 (logEv 0xE103 3 locStruct (pack64 [(0, s.strct.gen.toNat), (32, new.serial.toNat)]) s)

/-- SWAP: all dies exchange configuration and shadow at the target tick; at a start, before the first tick, at the target
on TB0 (R32, R78, R511); the dies that missed the commit frame before do not (R85). -/
def doSwap (s : State) : State :=
  match s.strct.shImage with
  | none => s
  | some g =>
    if s.swapDue then lagging s.missedFrame (exchange s.missedFrame g (lateSwap s))
    else if !s.strct.inForce ∧ s.strct.shadow = .scheduled then
      exchange (Vector.replicate 5 false) g (passTo 0 (s.strct.target.toNat * g.periodNs * 2 ^ 32) s)
    else s

end Sys2Proof.Machine
end

