-- ==== Sys2Proof/Machine/Phases.lean ====
section
/-! DEFINITION. The phases of a tick: sample mark, core window, envelope phase, commit mark and guard band (R40 to R47,
R258, R259). A phase command that comes out of order leaves the state unchanged. -/

namespace Sys2Proof.Machine

/-! ### Sample mark -/

/-- The sample frame of an outer die arrives, or is missing and logged (R31). -/
def sampleFrame (ok : Bool) (die : Fin 5) (s : State) : State :=
  if ok then { s with tick := { s.tick with staleRun := s.tick.staleRun.set die 0 } }
  else logDeck die.val { s with tick := { s.tick with staleRun := upd s.tick.staleRun die (· + 1) } }

/-- Without a frame a channel keeps its values; what its die counts by itself goes on, the run of disturbed ticks too (R31,
R98). [log 36 DEDUCED] -/
def hsKeep (dist : Bool) (h : HsState) : HsState :=
  { h with
    inrushed := h.prot == .inrush, offMarks := if h.gate then 0 else h.offMarks + 1, forcedRd := none
    distRun := if dist then h.distRun + 1 else 0, forced := dist && h.forced }

/-- A reading with the offset of ADCOFF in the tick it was taken in (Table 21.1, R95). -/
def State.adcReading (s : State) (f : Nat) (x : HsReading) : HsReading :=
  { x with current := x.current + BitVec.ofInt 16 (s.adcShiftWas f) }

/-- A fold reading with that offset in each of its eight channels. -/
def State.adcFold (s : State) (f : Nat) (x : FoldReading) : FoldReading :=
  { x with isum := x.isum + BitVec.ofInt 20 (8 * s.adcShiftWas f) }

/-- The measurements of the load switches are frozen; a fold's converter has made a conversion in every microsecond of the
tick, each shifted by ADCOFF (R95, R532) (R43, R95 to R98, R113, R120). [log 36 DEDUCED] -/
def hsMark (m : Sample) (s : State) : State :=
  let dist : Vector Bool 96 := Vector.ofFn fun k => s.disturbed k
  let s := (List.finRange 96).foldl (fun s k =>
    if getNat m.dieOk (hsDie k.val) false then hsSampleCh (s.adcReading (k.val / 8) m.hs[k]) dist[k] k s
    else modHs k (hsKeep dist[k]) s) s
  let s := (List.finRange 12).foldl (fun s f =>
    let x := s.hsw.fold[f]
    hsSampleFold (if getNat m.dieOk (hsDie (8 * f.val)) false then s.adcFold f.val m.fold[f]
      else ⟨x.vf, x.isum, x.temp⟩) f s) s
  match s.pert.adcWas with
  | some w => if adcOff w = 0 then s else pertHit 5 (s.T / 1000) s
  | none => s

/-- A string's share of the estimate in mW (R191): the tick's mean of VN16 × I, in which the sink conducts for `span`
nanoseconds of `t`, and 2 mW for each switch un-bypassed, together for `lit` of 1/1,024 ns. [log 5 DESIGN CHOICE] -/
def strMw (t lit : Nat) (r : StrReading) : Nat :=
  Config.rounded (r.current * r.vn16.toNat * min r.span t * 1024 + 200 * lit) (102400 * t)

/-- A string's readings are frozen; LOW is that of the tick that ended, as the last valid frame showed it (R31, R189,
Table 6.14). -/
def strMark (ok : Bool) (t lit : Nat) (r : StrReading) (h : StringState) : StringState :=
  let now := h.lowNow
  let h := { h with lowRun := if h.lowNow then h.lowRun + 1 else 0, lowNow := false }
  if ok then
    { h with
      low := now, current := r.current, vn0 := r.vn0, vn16 := r.vn16, temp := r.temp, sensed := r.temp
      mw := strMw t lit r }
  else h

/-- The result of a position's window is shown (R43). -/
def posMark (h : LampState) : LampState :=
  match h.result with
  | some (res, mv) => { h with result := none, lastRes := res, vf := if res = 1 then mv else h.vf }
  | none => h

/-- The readings of the I/O die and the module's own are frozen (R43, R123). [log 36 DEDUCED] -/
def ioMark (m : Sample) (s : State) : State :=
  let ok := m.dieOk[3]
  let s := { s with led := { s.led with
    str := mapUnits s.led.str fun k h => strMark ok s.T (s.stringLit k) m.str[k] h
    pos := if ok then s.led.pos.map posMark else s.led.pos
    chainMw := if ok then m.chainMw else s.led.chainMw } }
  let s := if ok then { s with sol := { s.sol with
    ch := mapUnits s.sol.ch fun k c => { c with current := m.sol[k].current, imax := m.sol[k].imax }
    mw := m.solMw } } else s
  { s with hsw := { s.hsw with
    tbase := m.tbase, logicMw := m.logicMw, limit := BitVec.ofNat 16 (dissLimit s.cfg.budget m.tbase.toInt) } }

/-- The running pattern engines take their next step in the engine phase (R178). -/
def patternMark (s : State) : State :=
  { s with led := { s.led with pe := mapUnits s.led.pe fun e p => patternStep s.cfg s.tick.count e p } }

/-- In every tick up to a − 2 a bellwether that was told to broadcasts ACTIVATE (R519). [log 77 DEDUCED] -/
def sendActivate (s : State) : State :=
  if s.upd.sending ∧ s.upd.state = .scheduled ∧ s.tick.count.toNat + 2 ≤ s.upd.armed.toNat then
    sendFrame true false 0xFF 0x0D
      ([2, 0, 0, 0, 0, 0, 0, 0] ++ leBytes 4 s.upd.serial.toNat ++ [0, 0, 0, 0] ++ leBytes 8 s.upd.armed.toNat) s
  else s

/-- SAMPLE_MARK: at 0/64 T the snapshots are taken and the measurements frozen, and the engine phase runs (R42, R43). A
swap, an activation or a fallback that is due comes first. -/
def doSampleMark (m : Sample) (s : State) : State :=
  if s.tick.phase ≠ .begun ∨ s.swapDue ∨ s.activationDue then s
  else
    let s := lateSwap s
    let s := [1, 2, 3, 4].foldl (fun s (d : Fin 5) => sampleFrame m.dieOk[d] d s) s
    let s := ioMark m (hsMark m s)
    let s := inputMark (fun d => getNat m.dieOk d false) s
    let s := patternMark s
    let s := sendActivate (fabMark (audioTick (rowTestStart s)))
    raiseLine 25 { s with tick := { s.tick with phase := .engine } }

/-! ### Core window -/

/-- A level's state at the start of a tick program (R259). -/
def LevelSet.begin_ (fresh : Bool) (l : LevelSet) : LevelSet :=
  { l with g := #v[false, false, fresh], lat := Vector.replicate 11 0, res := Vector.replicate 14 0 }

/-- A tick core at the start of its program (R258, R259, R280). -/
def Cpu.begin_ (entry : Nat) (c : Cpu) : Cpu :=
  { c with
    set := c.set.map (LevelSet.begin_ c.fresh), keeper := false, run := .running, pc := entry, branch := none, cycle := 0
    lastPc := entry, lastBranch := none, flight := [], divAt := none, fresh := false }

/-- A tick core starts when it is loaded (R46, R75). -/
def startTickCore (s : State) (k : Fin 4) : State :=
  if s.tick.tc[k] ≠ .notLoaded ∨ s.upd.tpStat[k] = 2 then
    modCpu ⟨k.val + 1, by omega⟩ (Cpu.begin_ s.cfg.proof[k].entry) (setTc k .running s)
  else s

/-- CORE_WINDOW_OPEN: the four tick programs start together (R46). -/
def doCoreWindowOpen (s : State) : State :=
  if s.tick.phase ≠ .engine then s
  else
    let s := passInTick 2 64 s
    (List.finRange 4).foldl startTickCore { s with tick := { s.tick with phase := .core } }

/-- A core's record. -/
def State.cpu (s : State) (c : Fin 5) : Cpu := s.core.cpu[c]

/-- TICK_PROGRAM_FINISH: the WAIT has issued and the last operation has completed; the core's clock stops (R258). -/
def doTickProgramFinish (k : Fin 4) (s : State) : State :=
  let c := s.cpu ⟨k.val + 1, by omega⟩
  if s.tick.tc[k] = .running ∧ c.run = .waiting ∧ c.flight = [] then setTc k .waiting s else s

/-- A tick core is stopped and its commands of the tick discarded (R47, R48, R259). -/
def stopTickCore (k : Fin 4) (s : State) : State :=
  let s := modCpu ⟨k.val + 1, by omega⟩ (fun c => { c with run := .stopped, flight := [], fresh := true }) s
  raiseLine (21 + k.val) (setTc k .stopped (discardFresh (tcSource k) s))

/-- An overrun (R47). -/
def overrun (k : Fin 4) (s : State) : State :=
  let n := (s.cpu ⟨k.val + 1, by omega⟩).cycle
  let s := stopTickCore k s
  let s := bump .tick 0x030 (8 * k.val) 1 { s with tick := { s.tick with overrun := upd s.tick.overrun k satInc } }
  setIrq .tick 0 (logEv 0x1001 4 (locTc k.val) (pack64 [(0, k.val), (8, n % 2 ^ 32)]) s)

/-- Time passes to the opening of the envelope phase. -/
def passToEnvelope (s : State) : State := passInTick (s.cfg.commit - 4) 64 s

/-- OVERRUN: a tick program has not finished when the envelope phase opens (R47). -/
def doOverrun (k : Fin 4) (s : State) : State :=
  if s.tick.phase = .core ∧ s.tick.tc[k] = .running then overrun k (passToEnvelope s) else s

/-! ### Envelope phase -/

/-- The delayed commands whose tick has come enter arbitration (R136). -/
def releaseDelayed (s : State) : State :=
  (List.finRange 16).foldl (fun s k => (List.finRange 16).foldl (fun s src => doDelayedCmdRelease k src s) s) s

/-- The timed escalations that have run out end (R235). -/
def endEscs (s : State) : State := (List.finRange 256).foldl (fun s o => doEscEnd o s) s

/-- ENVELOPE_PHASE: programs that have not finished overrun, the chain lines take their buffers, the intake closes, and
arbitration, hold-over and Hurdle run (R45, R47, R51, R195, R221 to R237); the delayed commands whose tick is the next
enter its intake, which opens now (R136). -/
def doEnvelopePhase (s : State) : State :=
  if s.tick.phase ≠ .core then s
  else
    let s := passToEnvelope s
    let s := (List.finRange 4).foldl (fun s k => if s.tick.tc[k] = .running then overrun k s else s) s
    let s := (List.finRange 4).foldl (fun s l => chainTake l s) s
    let s := (List.range 256).foldl (fun s o => peerCmd o s) s
    let s := closeIntake (sessionTick (mapTimeouts s))
    let s := endEscs s
    let s := s.leaders.foldl (fun s o => arbitrate o s) s
    let s := copyGroups s
    let s := logHold 0x1003 4 2 (·.enters) s
    let s := logHold 0x1004 2 32 (·.exits) s
    let s := copyGroups (hurdle s)
    let s := mapOuts (fun _ x => { x with fresh := Vector.replicate 16 .none }) s
    releaseDelayed { s with
      led := { s.led with pe := s.led.pe.map patternLatch }
      tick := { s.tick with phase := .envelope } }

/-! ### Commit mark and guard band -/

/-- The tick in progress is the one at whose commit a REST or OFF request enters (R492). [log 90 DEDUCED] -/
def State.entryDue (s : State) : Bool :=
  let at_ := fun (sched : Option DWord) => match sched with
    | some t => decide (t.toNat ≤ s.tick.count.toNat)
    | none => decide (s.pwr.entryTick ≤ s.tick.executed)
  match s.pwr.req with
  | .rest sched _ _ => at_ sched
  | .off sched => at_ sched
  | _ => false

/-- After a trial start, or a wake in a trial, the shadow is empty: the update engine loads the confirmed structure
into it (R523). [log 105 DEDUCED] -/
def trialShadow (s : State) : State :=
  if s.upd.state = .trial ∧ s.strct.shadow = .empty ∧ s.strct.inForce then loadShadow (!s.strct.active) s else s

/-- A module reset takes effect at the commit mark of the tick in progress: one that was requested, or that of a restart
activation whose boot record has been written (R518, R558). -/
def State.resetDue (s : State) : Bool :=
  s.sys.resetPending || (s.upd.state == .scheduled && s.upd.restart && s.upd.written)

/-- COMMIT_MARK, with what the message buses, the readers, the audio engine and the update engine do at it (R403,
R438, R433, R448, R523). The boot record of a restart activation comes before it (R518). [log 104 DEDUCED] -/
def doCommit (ok : Vector Bool 5) (s : State) : State :=
  if s.tick.phase = .envelope ∧ !(s.recordDue ∧ s.upd.restart) then
    trialShadow (audioCommit (accCommit (mbusFirstCommit (doCommitMark ok s))))
  else s

/-- Rewrite the PWR block. -/
def modPwr (f : PwrBlk → PwrBlk) (s : State) : State := { s with pwr := f s.pwr }

/-- The regulator tile and the always-on tile (R504). -/
def locReg : Word := locTile 3 6
def locAo : Word := locTile 3 7

/-- The power tile writes an entry of Table 19.9. -/
def logPwr (code sev : Nat) (payload : List (Nat × Nat)) (s : State) : State := logEv code sev locReg (pack64 payload) s

/-- REQ_REFUSED, and PWR_STATUS.REFUSED when a request in progress or a late target refuses (R486, R488). -/
def refuseReq (kind : Nat) (minop late : Bool) (s : State) : State :=
  let s := modPwr (fun p => { p with refused := p.refused || !minop }) s
  let s := if minop then s else hwBit .pwr 0x024 8 s
  setIrq .pwr 0 (logPwr 0xD003 3 [(0, kind), (2, b01 minop), (3, b01 late)] s)

/-- The core voltage of an operating point in mV (Table 19.4a). -/
def opVolts (p : Fin 4) : Nat := [650, 720, 800, 880].getD p.val 0

/-- The frequency of a requested operating point changes (R488): a rising point needs its voltage ramp of 10 mV/µs and
20 µs of settling first. A point below the MINOP of an image that has come into force since is not entered (R74): the
request is refused. [log 123 DESIGN CHOICE] -/
def opGuard (s : State) : State :=
  match s.pwr.req with
  | .op t =>
    let ready := s.pwr.opAt + (opVolts t - opVolts s.pwr.opCur) * 100 + 20000
    if t.val < s.cfg.minOp ∧ t ≠ s.pwr.opCur then
      setErr .pwr 2 (refuseReq 3 true false (modPwr (fun p => { p with req := .none }) s))
    else if t.val ≤ s.pwr.opCur.val ∨ ready ≤ s.tb0 then
      { s with pwr := { s.pwr with opOld := s.pwr.opCur, opCur := t, opAt := if t < s.pwr.opCur then s.tb0 else s.pwr.opAt } }
    else s
  | _ => s

/-- GUARD_BAND: at 62/64 T no new work starts; the row under test is written back and a queued frequency change takes
effect (R44, R311, R488). A module reset or a REST entry that is due at the commit comes first. -/
def doGuardBand (rowOk : Bool) (s : State) : State :=
  if s.tick.phase ≠ .measure ∨ s.resetDue ∨ s.entryDue then s
  else
    let s := opGuard (rowWriteBack rowOk (passInTick 62 64 s))
    { s with tick := { s.tick with phase := .guard } }

/-- TICK_STRETCH, with the audio frames that a jump of the tick number strands. -/
def doStretch (s : State) : State :=
  let t := doTickStretch s
  if t.tick.count = s.tick.count ∨ t.tick.count = s.tick.count + 1 then t else strandFrames t

end Sys2Proof.Machine
end

