-- ==== Sys2Proof/Machine/RegDef.lean ====
section
/-! DEFINITION. What a register is to a requester, and the shapes that registers share: plain fields, counters, latched and
held pairs (Table 0.7, R11 to R20). -/

namespace Sys2Proof.Machine

/-- Two counters of 16 bits in one register. -/
def pair16 (lo hi : Half) : Word := pack [(0, lo.toNat), (16, hi.toNat)]

/-- The low half of a register. -/
def loHalf (v : Word) : Half := v.setWidth 16

/-- The high half of a register. -/
def hiHalf (v : Word) : Half := (v >>> 16).setWidth 16

/-- A register: the value that a read returns, with what the read changes, and what a write does. -/
structure RegDef where
  read : Requester → State → Word × State
  write : Requester → Word → State → State

/-- Who may write the registers of a block that no rule names for itself (R557): in TIME and ACC the service port may not
(R344, Table 17.10), in PERT only keeper level and the service port (R530). -/
def Block.writer (b : Block) (rq : Requester) : Bool :=
  match b with
  | .time => rq.isShepherd
  | .acc => rq.isShepherd
  | .pert => rq == .keeper || rq == .service
  | _ => rq.std

/-- A register whose reads change nothing. -/
def regAt (get : State → Word) (write : Requester → Word → State → State) : RegDef := ⟨fun _ s => (get s, s), write⟩

/-- A register of RO or SI fields alone: a write is ignored, but for the permission and the reserved bits (R13, R557). -/
def regRo (b : Block) (off : Nat) (fields : List (Nat × Nat)) (get : State → Word) : RegDef :=
  regAt get fun rq v s => wr b (b.writer rq) (rsvd fields) rq (b.base + off) v id s

/-- A register with writable fields under the permission of R557. -/
def regRw (b : Block) (off : Nat) (fields : List (Nat × Nat)) (get : State → Word) (put : Word → State → State) : RegDef :=
  regAt get fun rq v s => wr b (b.writer rq) (rsvd fields) rq (b.base + off) v (put v) s

/-- A register that only the shepherd core in keeper level writes. -/
def regKeeper (b : Block) (off : Nat) (fields : List (Nat × Nat)) (get : State → Word) (put : Word → State → State) :
    RegDef :=
  regAt get fun rq v s => wr b (rq == .keeper) (rsvd fields) rq (b.base + off) v (put v) s

/-- A register whose fields hold reserved encodings, written by `may`: a write that places one is refused (R13). -/
def regCheck (b : Block) (off : Nat) (may : Requester → Bool) (fields : List (Nat × Nat)) (ok : Word → Bool)
    (get : State → Word) (put : Word → State → State) : RegDef :=
  regAt get fun rq v s => wrIf b (may rq) (v &&& rsvd fields != 0 || !ok v) rq (b.base + off) (put v) s

/-- A register of counters, written by `may` (R18). -/
def regCounter (b : Block) (off : Nat) (may : Requester → Bool) (fields : List (Nat × Nat)) (get : State → Word)
    (put : Word → State → State) : RegDef where
  read _ s := (s.readCount b off (get s), s)
  write rq v s := wr b (may rq) (rsvd fields) rq (b.base + off) v (storeCount b off fields v put) s

/-- Such a register under the permission of R557. -/
def regCount (b : Block) (off : Nat) (fields : List (Nat × Nat)) (get : State → Word) (put : Word → State → State) :
    RegDef := regCounter b off b.writer fields get put

/-- A register with a counter of 16 bits above 16 bits that are read-only (R18). -/
def regCountHi (b : Block) (off : Nat) (lo hi : State → Half) (put : Half → State → State) : RegDef where
  read _ s := (pair16 (lo s) (hiHalf (s.readCount b off (pair16 (lo s) (hi s)))), s)
  write rq v s := wr b (b.writer rq) 0 rq (b.base + off) v (storeCount b off [(16, 16)] v fun w => put (hiHalf w)) s

/-- Such a register under the permission of R557. -/
def regRange (b : Block) (off : Nat) (fields : List (Nat × Nat)) (ok : Word → Bool) (get : State → Word)
    (put : Word → State → State) : RegDef := regCheck b off b.writer fields ok get put

/-- A register of a unit that reads 0 without its record in the image in force. -/
def RegDef.ofUnit (here : State → Bool) (d : RegDef) : RegDef :=
  { d with read := fun rq s => if here s then d.read rq s else (0, s) }

/-- A register without fields (R556), with a reserved encoding in every bit. -/
def regEmpty (b : Block) (off : Nat) : RegDef := regRo b off [] fun _ => 0

/-- An address that no register has (R14): it reads 0, and every write is a reserved write. -/
def regNone (addr : Nat) : RegDef := regAt (fun _ => 0) fun rq _ s => reservedWrite rq addr s

/-- The low word of a 64-bit value that a read latches (R19). -/
def regLo (b : Block) (off : Nat) (get : State → DWord) : RegDef where
  read rq s := ((get s).setWidth 32, latchRead rq (b.base + off) [(get s).setWidth 32, (get s >>> 32).setWidth 32] s)
  write rq v s := wr b (b.writer rq) 0 rq (b.base + off) v id s

/-- The high word of such a value (R19); `off` is the offset of the low word. -/
def regHi (b : Block) (off : Nat) (get : State → DWord) : RegDef where
  read rq s := (latchedWord rq (b.base + off) 1 ((get s >>> 32).setWidth 32) s, s)
  write rq v s := wr b (b.writer rq) 0 rq (b.base + off + 4) v id s

/-- A word of a bitmap: the 32 units from 32 × `i` on. -/
def mapWord (i : Nat) (f : Nat → Bool) : Word := bitmap ((List.range 32).map fun j => f (32 * i + j))

/-- Word `i` of a string of bytes, byte 4i in bits [7:0]. -/
def wordOf (bs : List Byte) (i : Nat) : Word := BitVec.ofNat 32 (leAt bs (4 * i) 4)

/-- A register that belongs to the head common to every block (R555). -/
def regHead (b : Block) (off : Nat) : RegDef := regAt (headRead b off) fun rq v s => headWrite b (b.writer rq) rq off v s

/-- The offset of a register of the head common to every block. -/
def isHead (off : Nat) : Bool := off == 0x000 || off == 0x00C || off == 0x010 || off == 0x014

/-- A per-unit window: the unit's number and the offset in its slot. -/
def window (base size count off : Nat) : Option (Nat × Nat) :=
  if base ≤ off ∧ off < base + size * count then some ((off - base) / size, (off - base) % size) else none

end Sys2Proof.Machine
end

