-- ==== Sys2Proof/Machine/RegsBus.lean ====
section
/-! DEFINITION. The registers of the FAB, MBUS, AUD and ACC blocks (Tables 14.9 to 14.11, 15.9 to 15.11, 16.8 to 16.10,
17.10 to 17.12). -/

namespace Sys2Proof.Machine

/-! ### FAB -/

/-- FAB_STATUS (Table 14.9). -/
def State.fabStatus (s : State) : Word :=
  let f := s.fab
  pack [(0, f.state.code), (2, b01 s.bellwether), (3, b01 f.ring), (4, if f.pos ≤ 1 then 0 else f.upPort.val),
    (5, b01 f.tstale), (6, b01 f.overpos), (8, f.pos), (16, f.n), (24, f.bw)]

/-- SBRX: bit p − 1 for the state block of position p in this tick (R387). -/
def State.sbrx (s : State) : DWord :=
  bitmap ((List.range 32).map fun i => getNat s.hurdle.peerRx (i + 33) false) ++
    bitmap ((List.range 32).map fun i => getNat s.hurdle.peerRx (i + 1) false)

/-- A port's registers (Table 14.10). -/
def portReg (p : Fin 2) (off at_ : Nat) : Option RegDef :=
  let x := fun (s : State) => s.fab.port[p]
  match off with
  | 0x00 => some (regRo .fab at_ [(0, 4)] fun s =>
      pack [(0, b01 (x s).link), (1, b01 (x s).up), (2, b01 (x s).closing), (3, b01 (x s).master)])
  | 0x04 => some (regRo .fab at_ [(0, 20)] fun s => BitVec.ofNat 32 (min 1048575 (x s).delay))
  | 0x08 => some (regRo .fab at_ [(0, 16)] fun _ => (Config.txLat p).setWidth 32)
  | 0x0C => some (regRo .fab at_ [(0, 16)] fun _ => (Config.rxLat p).setWidth 32)
  | 0x10 => some (regCount .fab at_ [(0, 32)] (fun s => (x s).rxframes) fun v => modPort p fun k => { k with rxframes := v })
  | 0x14 => some (regCount .fab at_ [(0, 16), (16, 16)] (fun s => pair16 (x s).hdrerr (x s).fcserr) fun v =>
      modPort p fun k => { k with hdrerr := loHalf v, fcserr := hiHalf v })
  | 0x18 => some (regCount .fab at_ [(0, 16), (16, 16)] (fun s => pair16 (x s).reject (x s).long) fun v =>
      modPort p fun k => { k with reject := loHalf v, long := hiHalf v })
  | 0x1C => some (regCount .fab at_ [(0, 16), (16, 16)] (fun s => pair16 (x s).stomped (x s).bedrop) fun v =>
      modPort p fun k => { k with stomped := loHalf v, bedrop := hiHalf v })
  | 0x20 => some (regRo .fab at_ [(0, 15)] fun s => BitVec.ofNat 32 (x s).fill)
  | _ => none

/-- An RA register that keeper level writes (R390). -/
def regRa (off : Nat) (fields : List (Nat × Nat)) (ok : Word → Bool) (get : State → Word) (put : Word → State → State) :
    RegDef := regCheck .fab off (· == .keeper) fields ok get put

/-- RA_OP without a reserved encoding: COUNT from 1 to 256, and 1 for OP 0 and 1 (Table 14.11). -/
def raOpOk (v : Word) : Bool :=
  let n := field v 16 9
  decide (1 ≤ n ∧ n ≤ 256) && (decide (2 ≤ field v 0 2) || n == 1)

/-- A request channel's registers (Table 14.11). -/
def raReg (c : Fin 4) (off at_ : Nat) : Option RegDef :=
  let x := fun (s : State) => s.fab.ra[c]
  match off with
  | 0x00 => some (regAt (fun _ => 0) fun rq v => raCtrlWrite rq c v)
  | 0x04 => some (regRa at_ [(0, 7)] (fun v => decide (1 ≤ v.toNat ∧ v.toNat ≤ 64)) (fun s => BitVec.ofNat 32 (x s).dst)
      fun v => modRa c fun k => { k with dst := v.toNat })
  | 0x08 => some (regRa at_ [(0, 16), (16, 9)] raOpOk
      (fun s => pack [(0, (x s).op), (2, (x s).reg), (16, (x s).count)])
      fun v => modRa c fun k => { k with op := field v 0 2, reg := field v 2 14, count := field v 16 9 })
  | 0x0C => some (regRa at_ [(0, 32)] (fun _ => true) (fun s => (x s).wdata) fun v => modRa c fun k => { k with wdata := v })
  | 0x10 => some (regRa at_ [(0, 2), (4, 4), (16, 9)] (fun _ => true)
      (fun s => pack [(0, (x s).state.code), (4, (x s).result), (16, (x s).words)]) fun _ => id)
  | 0x14 => some (regRa at_ [(0, 32)] (fun _ => true) (fun s => (x s).rdata) fun _ => id)
  | _ => none

/-- A word of ROLL: the serial of a position, low word first, 0 beyond N. -/
def State.rollWord (s : State) (i : Nat) : Word :=
  let v := if i / 2 < s.fab.n then s.fab.roll.getD (i / 2) 0 else 0
  if i % 2 = 0 then v.setWidth 32 else (v >>> 32).setWidth 32

/-- The FAB block. -/
def fabReg (off : Nat) : Option RegDef :=
  match off with
  | 0x004 => some (regAt (fun _ => 0) fabCtrlWrite)
  | 0x008 => some (regRo .fab off [(0, 7), (8, 7), (16, 7), (24, 7)] (·.fabStatus))
  | 0x020 => some (regCountHi .fab off (·.fab.gen) (·.fab.musters) fun n => modFab fun f => { f with musters := n })
  | 0x024 => some (regRo .fab off [(0, 1), (8, 24)] fun s =>
      pack [(0, b01 s.cfg.cap), (8, s.cfg.authSlot), (16, s.cfg.groups)])
  | 0x028 => some (regLo .fab 0x028 (·.fab.serial))
  | 0x02C => some (regHi .fab 0x028 (·.fab.serial))
  | 0x030 => some (regRo .fab off [(0, 10), (16, 9)] fun s => pack [(0, s.cfg.rstart), (16, s.cfg.rlen)])
  | 0x034 => some (regRo .fab off [(0, 7), (8, 16)] fun s =>
      pack [(0, s.cfg.maxPos), (8, s.cfg.msgRxq), (16, s.cfg.msgTxq)])
  | 0x038 => some (regLo .fab 0x038 (·.sbrx))
  | 0x03C => some (regHi .fab 0x038 (·.sbrx))
  | 0x040 => some (regRo .fab off [(0, 32)] (·.fab.toffset))
  | 0x044 => some (regCountHi .fab off (·.fab.tmiss) (·.fab.msgref) fun n => modFab fun f => { f with msgref := n })
  | 0x048 => some (regCount .fab off [(0, 16), (16, 16)] (fun s => pair16 s.fab.sblate s.fab.ralate) fun v =>
      modFab fun f => { f with sblate := loHalf v, ralate := hiHalf v })
  | _ =>
    if 0x2000 ≤ off ∧ off < 0x2200 then some (regRo .fab off [(0, 32)] fun s => s.rollWord ((off - 0x2000) / 4))
    else match window 0x0400 0x100 2 off, window 0x1000 0x40 4 off with
      | some (p, o), _ => if h : p < 2 then portReg ⟨p, h⟩ o off else none
      | _, some (c, o) => if h : c < 4 then raReg ⟨c, h⟩ o off else none
      | _, _ => none

/-! ### MBUS -/

/-- A write of CH_CTRL: INIT and CLRCNT (R396, Table 15.10). -/
def chCtrlWrite (k : Fin 6) (rq : Requester) (v : Word) (s : State) : State :=
  wr .mbus (mbusWriter rq) (rsvd [(0, 2)]) rq (chAddr k.val 0) v
    (fun s =>
      let s := chInit k (bit v 0) s
      if bit v 1 then chClear k s else s) s

/-- A write of CH_TRX: REQ, and the wake latch cleared by a 1 (R414, R417). -/
def chTrxWrite (k : Fin 6) (rq : Requester) (v : Word) (s : State) : State :=
  wrIf .mbus (mbusWriter rq) (v &&& rsvd [(0, 2), (4, 2), (8, 2)] != 0 || !s.configured k.val && field v 0 2 != 2) rq
    (chAddr k.val 0xC)
    (fun s =>
      let s := if bit (s.clears .mbus (0x100C + k.val * 0x1000) v) 8 then
        modCh k (fun c => { c with wake := false, decoded := false }) s else s
      doTrxReq rq k ⟨field v 0 2, by unfold field; omega⟩ s) s

/-- The four words of a CHANNEL record as CH_CFG0 to CH_CFG3 show them (Table 15.10). -/
def State.chCfgWord (s : State) (k i : Nat) : Word :=
  match s.cfg.chan k with
  | some r => wordOf r ([1, 2, 0, 3].getD i 0)
  | none => 0

/-- A channel's registers (Table 15.10). -/
def chanReg (k : Fin 6) (off at_ : Nat) : Option RegDef :=
  let c := fun (s : State) => s.mbus.ch[k]
  match off with
  | 0x00 => some (regAt (fun s => pack [(0, b01 (c s).initReq)]) (chCtrlWrite k))
  | 0x04 => some { regRo .mbus at_ [(0, 4), (16, 9)] (fun _ => 0) with
      read := fun _ s => let s := frameLook k s
        (pack [(0, s.chState k), (3, b01 (c s).pend.isSome), (16, min 511 (c s).txerr)], s) }
  | 0x08 => some { regRo .mbus at_ [(0, 8), (16, 11)] (fun _ => 0) with
      read := fun _ s => let s := recovNow k s; (pack [(0, min 255 (c s).rxerr), (16, (c s).recov), (24, (c s).lec)], s) }
  | 0x0C => some { regAt (fun _ => 0) (chTrxWrite k) with
      read := fun _ s => let s := txdNow k (frameLook k s)
        (pack [(0, (c s).req.val), (4, (c s).trx.val), (8, b01 (c s).wake), (9, b01 (c s).txdto)], s) }
  | 0x10 => some (regCount .mbus at_ [(0, 32)] (fun s => (c s).rxframes) fun v => modCh k fun x => { x with rxframes := v })
  | 0x14 => some (regCount .mbus at_ [(0, 32)] (fun s => (c s).txframes) fun v => modCh k fun x => { x with txframes := v })
  | 0x18 => some (regCount .mbus at_ [(0, 16), (16, 16)] (fun s => pair16 (c s).rxdrop (c s).txref) fun v =>
      modCh k fun x => { x with rxdrop := loHalf v, txref := hiHalf v })
  | 0x1C => some (regCount .mbus at_ [(0, 16), (16, 16)] (fun s => pair16 (c s).reject (c s).mapshort) fun v =>
      modCh k fun x => { x with reject := loHalf v, mapshort := hiHalf v })
  | 0x20 => some (regRo .mbus at_ [(0, 7)] fun s => BitVec.ofNat 32 (min 127 (c s).tdcv))
  | 0x24 => some (regCount .mbus at_ [(0, 16)] (fun s => (c s).pairs.setWidth 32) fun v =>
      modCh k fun x => { x with pairs := loHalf v })
  | 0x28 => some (regRo .mbus at_ [(0, 32)] (·.chCfgWord k.val 0))
  | 0x2C => some (regRo .mbus at_ [(0, 32)] (·.chCfgWord k.val 1))
  | 0x30 => some (regRo .mbus at_ [(0, 32)] (·.chCfgWord k.val 2))
  | 0x34 => some (regRo .mbus at_ [(0, 32)] (·.chCfgWord k.val 3))
  | _ => none

/-- A flag of the six channels, one bit each. -/
def chMap (f : Fin 6 → Bool) : Nat := ((List.finRange 6).map fun k => b01 (f k) * 2 ^ k.val).sum

/-- A word of the filter window (Table 15.11). -/
def filterReg (i off at_ : Nat) : RegDef :=
  regRo .mbus at_ [(0, 32)] fun s => match s.cfg.filters[i]? with
    | some r => wordOf r (off / 4)
    | none => 0

/-- The MBUS block. -/
def mbusReg (off : Nat) : Option RegDef :=
  match off with
  | 0x004 => some (regEmpty .mbus off)
  | 0x008 => some (regRo .mbus off [(0, 6), (8, 6), (16, 1)] fun s =>
      pack [(0, chMap fun k => (s.mbus.ch[k]).busoff), (8, chMap fun k => s.chState k == 3),
        (16, b01 s.mbus.tb2lock)])
  | 0x020 => some (regKeeper .mbus off [(0, 8)] (·.mbus.wakeaddr.setWidth 32) fun v s =>
      { s with mbus := { s.mbus with wakeaddr := v.setWidth 8 } })
  | 0x024 => some (regKeeper .mbus off [(0, 32)] (·.mbus.wakegrp) fun v s => { s with mbus := { s.mbus with wakegrp := v } })
  | 0x028 => some (regRo .mbus off [(0, 3), (8, 8)] fun s =>
      pack [(0, s.mbus.statCause), (2, b01 s.mbus.statCh), (8, s.mbus.statAddr.toNat)])
  | 0x02C => some (regRo .mbus off [(0, 12)] fun s => BitVec.ofNat 32 s.cfg.filters.length)
  | _ =>
    match window 0x1000 0x1000 6 off, window 0x8000 0x10 2048 off with
    | some (k, o), _ => if h : k < 6 then chanReg ⟨k, h⟩ o off else none
    | _, some (i, o) => some (filterReg i o off)
    | _, _ => none

/-! ### AUD -/

/-- STR_STATUS of a stream (Table 16.9): ORIGIN, ON, SENDING and FROM. -/
def State.strStatus (s : State) (k : Nat) : Word :=
  let x := s.str k
  let mine := s.cfg.isLocal k
  let origin := if (s.cfg.stream k).isNone then 0 else if mine then 1 else 2
  let from_ := if origin = 0 ∨ s.announcer k = s.fab.pos then 0 else s.announcer k
  pack [(0, origin), (2, b01 x.on), (3, b01 (mine && x.sender == 0 && s.carries1)), (8, from_)]

/-- A word of a stream's or a zone's record. -/
def audWord (r : Option (List Byte)) (i : Nat) : Word :=
  match r with
  | some r => wordOf r i
  | none => 0

/-- A stream's registers (Table 16.9). -/
def streamReg (k : Fin 32) (off at_ : Nat) : Option RegDef :=
  let x := fun (s : State) => s.aud.str[k]
  let here := fun (s : State) => (s.cfg.stream k.val).isSome
  let mod := fun (f : StreamState → StreamState) (s : State) => if here s then modStream k.val f s else s
  match off with
  | 0x00 => some ((regAt (fun s => pack [(0, b01 (x s).active)]) fun rq v => doActiveWrite rq k v).ofUnit here)
  | 0x04 => some (regRo .aud at_ [(0, 4), (8, 7)] (·.strStatus k.val))
  | 0x08 => some ((regRo .aud at_ [(0, 24)] fun s => (x s).peak.setWidth 32).ofUnit here)
  | 0x0C => some ((regCount .aud at_ [(0, 16), (16, 16)] (fun s => pair16 (x s).missing (x s).late) fun v =>
      mod fun y => { y with missing := loHalf v, late := hiHalf v }).ofUnit here)
  | 0x10 => some ((regCount .aud at_ [(0, 16)] (fun s => (x s).early.setWidth 32) fun v =>
      mod fun y => { y with early := loHalf v }).ofUnit here)
  | 0x14 => some (regRo .aud at_ [(0, 32)] fun s => audWord (s.cfg.stream k.val) 0)
  | 0x18 => some (regRo .aud at_ [(0, 32)] fun s => audWord (s.cfg.stream k.val) 1)
  | _ => none

/-- A zone's registers (Table 16.10). -/
def zoneReg (z : Fin 16) (off at_ : Nat) : Option RegDef :=
  let x := fun (s : State) => s.aud.zone[z]
  let here := fun (s : State) => (s.cfg.zone z.val).isSome
  match off with
  | 0x00 => some ((regRo .aud at_ [(0, 4)] fun s =>
      pack [(0, (x s).top.getD 0), (3, b01 (x s).top.isSome)]).ofUnit here)
  | 0x04 => some ((regRo .aud at_ [(0, 24)] fun s => (x s).peak.setWidth 32).ofUnit here)
  | 0x08 => some ((regCount .aud at_ [(0, 16)] (fun s => (x s).clips.setWidth 32) fun v s =>
      if here s then modAud (fun a => { a with zone := upd a.zone z fun y => { y with clips := loHalf v } }) s
      else s).ofUnit here)
  | 0x0C => some (regRo .aud at_ [(0, 32)] fun s => audWord (s.cfg.zone z.val) 0)
  | 0x10 => some (regRo .aud at_ [(0, 32)] fun s => audWord (s.cfg.zone z.val) 1)
  | _ => none

/-- AUD_CFG: the fields of the AUDIO section, 0 without one. -/
def State.audCfg (s : State) : Word :=
  if s.cfg.audioBody.isEmpty then 0
  else pack [(0, s.cfg.lat), (8, leAt s.cfg.audioBody 3 1 % 8), (12, leAt s.cfg.audioBody 4 1 % 8), (16, s.cfg.ns)]

/-- The AUD block. -/
def audReg (off : Nat) : Option RegDef :=
  match off with
  | 0x004 => some (regEmpty .aud off)
  | 0x008 => some (regRo .aud off [(0, 3)] fun s =>
      pack [(0, b01 (s.aud.zone.toList.any (·.top.isSome))), (1, b01 s.aud.missing), (2, b01 s.aud.clip)])
  | 0x020 => some (regRo .aud off [(0, 5), (8, 3), (12, 3), (16, 7)] (·.audCfg))
  | _ =>
    match window 0x1000 0x40 32 off, window 0x2000 0x40 16 off with
    | some (k, o), _ => if h : k < 32 then streamReg ⟨k, h⟩ o off else none
    | _, some (z, o) => if h : z < 16 then zoneReg ⟨z, h⟩ o off else none
    | _, _ => none

/-! ### ACC -/

/-- ACC_LOCK: the seconds of lock-out that remain, and the failed attempts of the last 60 s (Table 17.10). -/
def State.lockWord (s : State) : Word :=
  let left := match s.acc.lockUntil with
    | some t => ceilDiv (t - s.tb0) 1000000000
    | none => 0
  let fails := (s.acc.failAt.filter fun t => decide (s.tb0 < t + 60000000000)).length
  pack [(0, min 1800 left), (16, min 4 fails)]

/-- RD_STATUS of a reader (Table 17.11). -/
def State.rdStatus (s : State) (r : Fin 2) : Word :=
  let x := s.acc.rd[r]
  let polling := x.want || (match s.acc.poll with | some p => p.reader == r | none => false)
  pack [(0, b01 x.touch), (1, b01 x.sess.isSome), (2, b01 polling), (3, min 2 x.collRun)]

/-- A reader's registers (Table 17.11). What the capacitance of a handle rises above its baseline is a free value (R437).
[log 80 DEDUCED] -/
def readerReg (r : Fin 2) (off at_ : Nat) : Option RegDef :=
  let x := fun (s : State) => s.acc.rd[r]
  match off with
  | 0x00 => some (regAt (fun _ => 0) fun rq v => rdCtrlWrite rq r v)
  | 0x04 => some (regRo .acc at_ [(0, 5)] (·.rdStatus r))
  | 0x08 => some (regRo .acc at_ [(0, 19), (20, 6)] fun s =>
      pack [(0, (x s).sess.getD 0), (20, (x s).sessSlot), (24, (x s).sessCause)])
  | 0x0C => some { regRo .acc at_ [(0, 16)] fun _ => 0 with
      read := fun _ s => if rdClass (s.rdRec r) = 1 then (s.freeVal.setWidth 16 |>.setWidth 32, tickFree s) else (0, s) }
  | 0x10 => some (regCount .acc at_ [(0, 16), (16, 16)] (fun s => pair16 (x s).polls (x s).colls) fun v =>
      modRd r fun k => { k with polls := loHalf v, colls := hiHalf v })
  | _ => if 0x14 ≤ off ∧ off < 0x30 then some (regRo .acc at_ [(0, 32)] fun s => wordOf (s.rdRec r) ((off - 0x14) / 4))
    else none

/-- A token slot's registers (Table 17.12). -/
def tokenReg (k : Fin 16) (off at_ : Nat) : Option RegDef :=
  let x := fun (s : State) => s.acc.tok[k]
  match off with
  | 0x00 => some (regRo .acc at_ [(0, 32)] fun s => if (x s).valid then (x s).id else 0)
  | 0x04 => some (regRo .acc at_ [(0, 32)] fun s => (x s).cnt)
  | 0x08 => some (regRo .acc at_ [(0, 4)] fun s =>
      pack [(0, (x s).mask), (2, b01 (x s).valid), (3, b01 (x s).cand.isSome)])
  | 0x0C => some (regCount .acc at_ [(0, 16)] (fun s => (x s).uses.setWidth 32) fun v =>
      modTok k fun y => { y with uses := loHalf v })
  | _ => none

/-- The ACC block. -/
def accReg (off : Nat) : Option RegDef :=
  match off with
  | 0x004 => some (regEmpty .acc off)
  | 0x008 => some (regRo .acc off [(0, 5)] fun s =>
      pack [(0, b01 s.accEnabled), (1, b01 s.accLocked), (2, b01 s.acc.learn.isSome), (3, b01 s.acc.parkStop),
        (4, b01 s.acc.keyBad)])
  | 0x020 => some (regAt (fun s => pack [(2, b01 s.acc.rdr), (4, s.acc.mask)]) accLearnWrite)
  | 0x024 => some (regRo .acc off [(0, 5)] fun s => BitVec.ofNat 32 s.acc.enrolled)
  | 0x028 => some (regRo .acc off [(0, 11), (16, 3)] (·.lockWord))
  | 0x02C => some (regCount .acc off [(0, 16), (16, 16)] (fun s => pair16 s.acc.fails s.acc.stray) fun v =>
      modAcc fun a => { a with fails := loHalf v, stray := hiHalf v })
  | 0x030 => some (regRo .acc off [(0, 32)] fun s => wordOf s.cfg.accessBody 0)
  | 0x034 => some (regRo .acc off [(0, 32)] fun s => wordOf s.cfg.accessBody 1)
  | _ =>
    match window 0x0400 0x100 2 off, window 0x1000 0x40 16 off with
    | some (r, o), _ => if h : r < 2 then readerReg ⟨r, h⟩ o off else none
    | _, some (k, o) => if h : k < 16 then tokenReg ⟨k, h⟩ o off else none
    | _, _ => none

end Sys2Proof.Machine
end

