-- ==== Sys2Proof/Machine/Update.lean ====
section
/-! DEFINITION. Firmware images, the boot record, the update states, bundles, activation, trial, confirmation and fallback
(R505 to R527). -/

namespace Sys2Proof.Machine

/-! ### Firmware images and pairs -/

/-- The bytes of the firmware image in a slot: LENGTH bytes of the slot (Table 20.1). -/
def State.fwImage (s : State) (pair : Bool) : List Byte :=
  mramGet (fwSlot pair) (min 0x300000 (ofLe (mramGet (fwSlot pair + 0xC) 4 s))) s

/-- The image digest: SHA-256 of every byte but the signature's (R505). [log 106 DEDUCED] -/
def fwDigest (b : List Byte) : List Byte := sha256 (b.take 0x60 ++ b.drop 0xA0)

/-- A span of a firmware image: a multiple of 8 bytes long, in the image. -/
def fwSpan (len off n : Nat) : Bool := decide (n % 8 = 0 ∧ n ≤ 131072 ∧ off + n ≤ len)

/-- A tick program record: both fields 0, or a span of the image (Table 20.1). -/
def fwRecord (b : List Byte) (len k : Nat) : Bool :=
  let off := leAt b (0x40 + 8 * k) 4
  let n := leAt b (0x44 + 8 * k) 4
  if n = 0 then off == 0 else fwSpan len off n

/-- The reserved fields are 0, every field is in range and every span in the image (check 7 of Table 20.2). -/
def fwFields (b : List Byte) (len : Nat) : Bool :=
  let sh := leAt b 0x18 4
  within 10 3600 (leAt b 6 2) && leAt b 0x15 1 == 0 && leAt b 0x16 2 != 0 && leAt b 0x1C 4 == 0 &&
    decide (8 ≤ sh) && fwSpan len 0xA0 sh && (List.range 4).all (fwRecord b len)

/-- The reason of the first firmware check that fails, 0 when checks 1 to 7 pass (Table 20.2). -/
def State.fwReason (s : State) (pair : Bool) : Nat :=
  let h := mramGet (fwSlot pair) 0xA0 s
  let len := leAt h 0xC 4
  let key := leAt h 0x14 1
  if h.take 4 ≠ [0x46, 0x57, 0x49, 0x4D] then 0x21
  else if leAt h 4 2 ≠ 1 then 0x22
  else if leAt h 8 4 ≠ 0x04800024 then 0x23
  else if len < 0xA0 ∨ 3145728 < len ∨ len % 8 ≠ 0 then 0x24
  else if key % 2 = 1 ∨ !s.imageKeys key then 0x25
  else if !s.pairVerifies key (fwDigest (s.fwImage pair)) (slice h 0x60 64) then 0x26
  else if !fwFields h len then 0x27
  else 0

/-- STRUCTDIG equals the digest of the structure image of the pair (R506). -/
def State.pairMatches (s : State) (pair : Bool) : Bool :=
  mramGet (fwSlot pair + 0x20) 32 s == imgDigest (s.slotImage pair)

/-- The reason for which a pair is not valid, 0 when it is (R506). -/
def State.pairReason (s : State) (pair : Bool) : Nat :=
  let f := s.fwReason pair
  let q := s.slotReasonOf pair
  if f ≠ 0 then f else if q ≠ 0 then q else if s.pairMatches pair then 0 else 0x28

/-- A field of the firmware header of a slot. -/
def State.fwField (s : State) (pair : Bool) (off n : Nat) : Nat := ofLe (mramGet (fwSlot pair + off) n s)

/-! ### The boot record -/

/-- The twelve words of a copy (Table 20.3), as bytes. -/
def BootRec.bytes (r : BootRec) : List Byte :=
  let ctl := b01 r.act + 2 * b01 r.trial + 4 * b01 r.setgen + 8 * b01 r.prev + 0x100 * r.tstarts + 0x10000 * r.confwin
  let a := [0x42, 0x52, 0x45, 0x43, 1, 0, 0, 0] ++ leBytes 8 ctl ++ slice r.fwDigest 0 32 ++ slice r.stDigest 0 32 ++
    leBytes 8 r.tick.toNat
  a ++ leBytes 4 r.seq.toNat ++ leBytes 2 (crc16 a).toNat ++ [0x5A, 0xA5]

/-- The copy at an offset, when it is complete (R508). -/
def readCopy (b : List Byte) : Option BootRec :=
  let ctl := BitVec.ofNat 32 (leAt b 8 4)
  if leAt b 94 2 = 0xA55A ∧ leAt b 92 2 = (crc16 (b.take 88)).toNat then
    some { act := bit ctl 0, trial := bit ctl 1, setgen := bit ctl 2, prev := bit ctl 3, tstarts := field ctl 8 4
           confwin := field ctl 16 16, fwDigest := slice b 16 32, stDigest := slice b 48 32
           tick := BitVec.ofNat 64 (leAt b 80 8), seq := BitVec.ofNat 32 (leAt b 88 4) }
  else none

/-- Copy 0 or 1 of the boot record. [log 104 DEDUCED] -/
def State.bootCopy (s : State) (i : Nat) : Option BootRec := readCopy (mramGet (0x1000 * i) 96 s)

/-- The record in force at a start: the complete copy with the higher SEQ, copy 0 at equal SEQ (R508). -/
def State.bootChoice (s : State) : Option BootRec :=
  match s.bootCopy 0, s.bootCopy 1 with
  | some a, some b => some (if a.seq.toNat < b.seq.toNat then b else a)
  | some a, none => some a
  | none, b => b

/-- Both copies hold a record. -/
def putCopies (r : BootRec) (s : State) : State := mramPut 0x1000 r.bytes (mramPut 0 r.bytes s)

/-- A boot record write (R508): copy 0, then copy 1, with the next SEQ. -/
def writeBoot (r : BootRec) (s : State) : State :=
  let r := { r with seq := s.upd.boot.seq + 1 }
  putCopies r (modUpd (fun u => { u with boot := r }) s)

/-- The digests and the confirmation window of a pair, for the record that makes it active. -/
def State.recordOf (s : State) (pair : Bool) (r : BootRec) : BootRec :=
  { r with act := pair, confwin := s.fwField pair 6 2, fwDigest := fwDigest (s.fwImage pair)
           stDigest := imgDigest (s.slotImage pair) }

/-- The record of a trial's first start: the inactive pair in trial (Table 20.8). -/
def State.trialRecord (s : State) : BootRec :=
  let r := s.recordOf (!s.upd.boot.act) s.upd.boot
  { r with trial := true, prev := true, tstarts := 0, tick := s.upd.armed }

/-- The record that makes the other pair the confirmed one (R521, R523). -/
def State.fallbackRecord (s : State) : BootRec :=
  let r := s.recordOf (!s.upd.boot.act) s.upd.boot
  { r with trial := false, prev := false }

/-! ### Update states -/

/-- The update engine writes an entry of Table 20.10. -/
def logUpd (code sev : Nat) (payload : List (Nat × Nat)) (s : State) : State := logEv code sev locUpd (pack64 payload) s

/-- UPD_IRQ_STATUS and UPD_ERR bits. -/
def updIrq (i : Nat) (s : State) : State := setIrq .upd i s
def updErr (i : Nat) (s : State) : State := setErr .upd i s

/-- BEGIN (Table 20.5). -/
def updBegin (s : State) : State :=
  let u := s.upd.state
  if u = .idle ∨ u = .confirmed ∨ u = .fallback ∨ u = .verified then
    let s := if s.strct.shadow = .ready then modStruct (fun x => { x with shadow := .empty, shImage := none }) s else s
    logUpd 0xE001 2 [(0, b01 !s.upd.boot.act)] (modUpd (fun u => { u with
      state := .loading, rx := none, rxBytes := 0, rxTotal := 0, serial := 0, verifying := none
      statusAt := s.tick.executed }) s)
  else updErr 2 s

/-- The header of the bundle received, and its agreement with the images (check 9 of Table 20.2). [log 102 DEDUCED] -/
def State.bundleOk (s : State) (pair : Bool) : Bool :=
  match s.upd.rx with
  | none => true
  | some r =>
    let h := r.header
    r.chunks.isEmpty || h.take 4 == [0x42, 0x4E, 0x44, 0x4C] && leAt h 4 2 == 1 && leAt h 6 2 == 0 && leAt h 8 4 == 0x04800024 &&
      leAt h 0xC 4 != 0 && leAt h 0x18 8 == 0 && leAt h 0x10 4 == s.fwField pair 0xC 4 &&
      leAt h 0x14 4 == ofLe (mramGet (stSlot pair + 0xC) 4 s)

/-- A firmware image whose KEYSLOT lacks the flag is reported (R457). -/
def refuseFirmware (pair : Bool) (s : State) : State :=
  if s.fwReason pair = 0x25 then refuseImage (s.fwField pair 0x14 1) s else s

/-- A tamper while the shepherd core is reloaded: when the key core is at the verification of its image, which is a free
value, the verification is aborted and counts as one that failed (R476). [log 82 DEDUCED] -/
def tamperReload (s : State) : State :=
  if s.core.restartAt.isNone then s
  else if s.freeVal.getLsbD 0 then
    let k := s.fwField s.upd.boot.act 0x14 1
    modCore (fun c => { c with spoiled := true }) (logEv 0xC007 7 locKeyCore (pack64 [(0, k)]) (markSlot k (tickFree s)))
  else tickFree s

/-- VERIFY: the inactive pair is checked, and its structure image loaded into the shadow (R506, R77).
[log 102 DEDUCED] -/
def updVerify (s : State) : State :=
  if s.upd.state ≠ .loading then updErr 2 s
  else
    let pair := !s.upd.boot.act
    let reason := if s.pairReason pair ≠ 0 then s.pairReason pair else if s.bundleOk pair then 0 else 0x29
    let s := refuseFirmware pair (modUpd (fun u => { u with verifying := some reason }) s)
    if reason = 0 ∨ reason < 0x20 then loadShadow pair s else s

/-- Verification ends in failure with a reason (Table 20.5). [log 102 DEDUCED] -/
def verifyFailed (reason : Nat) (s : State) : State :=
  updIrq 2 (logUpd 0xE004 5 [(0, reason)] (modUpd (fun u => { u with
    state := .idle, reason := reason, verifying := none, rx := none }) s))

/-- VERIFIED: verification completes. When a die does not acknowledge its copy no check has failed, and the reason is
a free value. [log 102 DEDUCED] -/
def doVerified (s : State) : State :=
  match s.upd.verifying with
  | none => s
  | some 0 =>
    match s.strct.shadow with
    | .ready =>
      let pair := !s.upd.boot.act
      updIrq 1 (logUpd 0xE003 2
        [(0, s.fwField pair 0x10 4), (32, ofLe (mramGet (stSlot pair + 0x10) 4 s))]
        (modUpd (fun u => { u with state := .verified, verifying := none }) s))
    | .failed => tickFree (verifyFailed (s.freeVal.toNat % 256) s)
    | _ => s
  | some r => verifyFailed r s

/-- An image whose TICK, BANKS or QUEUES values differ needs a restart (R516). -/
def needsRestart (a b : Image) : Bool := tickDiffers a b || a.banks != b.banks || a.queues != b.queues

/-- Activation is armed at a tick, or refused, and STRUCT_SWAPAT with it (R516). The module reset of a restart activation comes
before its tick. [log 104 DEDUCED] -/
def armUpdate (v : DWord) (fromFrame : Bool) (s : State) : State :=
  match s.strct.shImage with
  | none => updErr 3 s
  | some g =>
    let t := s.swapTarget v
    let re := needsRestart s.cfg g
    if s.strct.shadow ≠ .ready ∨ s.envOpened (t - 1) then updErr 3 s
    else if re ∧ !s.upd.allowRst then updErr 4 s
    else
      let s := modUpd (fun u => { u with
        state := .scheduled, restart := re, armed := BitVec.ofNat 64 t, fromFrame := fromFrame, written := false
        sending := false }) s
      logUpd 0xE005 3 [(0, t % 2 ^ 32), (32, b01 re), (33, b01 fromFrame)] 
        (schedule t (modStruct (fun x => { x with swapAt := v }) s))

/-- SCHEDULE (R516). -/
def updSchedule (s : State) : State :=
  if s.upd.state = .verified then armUpdate s.upd.actAt false s else updErr 2 s

/-- CANCEL: until the envelope phase of tick a − 1 opens (R80, R517). [log 101 DEDUCED] -/
def updCancel (s : State) : State :=
  if s.upd.state ≠ .scheduled then updErr 2 s
  else if s.envOpened (s.upd.armed.toNat - 1) then s
  else
    let s := if s.strct.shadow = .scheduled then modStruct (fun x => { x with shadow := .ready }) s else s
    actAbort 1 s

/-- The envelope phase of the executed tick `n` has opened. -/
def State.envOpenedExec (s : State) (n : Nat) : Bool :=
  decide (n < s.tick.executed) || (decide (n = s.tick.executed) && s.envOpened s.tick.count.toNat)

/-- CONFIRM (R520). -/
def updConfirm (s : State) : State :=
  if s.upd.state ≠ .trial ∨ s.upd.migFail then updErr 2 s
  else if s.envOpenedExec (s.upd.fAt - 1) then updErr 3 s
  else
    let s := writeBoot { s.upd.boot with trial := false, prev := false, setgen := !s.upd.boot.setgen } s
    updIrq 4 (logUpd 0xE008 3 [(32, s.upd.boot.seq.toNat)] (modUpd (fun u => { u with state := .confirmed }) s))

/-- MIGFAIL: the fallback comes in the first tick whose tick before has not reached its envelope phase (R522).
[log 104 DEDUCED] -/
def updMigfail (s : State) : State :=
  if s.upd.state ≠ .trial then updErr 2 s
  else
    let e := s.tick.executed
    let f := if s.envOpenedExec e then e + 2 else e + 1
    let gen := 0x800000 + 0x80000 * b01 s.upd.boot.setgen
    logUpd 0xE009 5 [(0, ofLe (mramGet (gen + 4) 2 s)), (16, s.fwField s.upd.boot.act 0x16 2)]
      (modUpd (fun u => { u with migFail := true, fAt := min u.fAt f }) s)

/-- ACTSEND: the bellwether schedules its own activation and broadcasts ACTIVATE from this tick on (R519).
[log 77 DEDUCED] -/
def updActsend (s : State) : State :=
  if s.upd.state ≠ .verified ∨ !s.bellwether then updErr 2 s
  else
    let s := armUpdate s.upd.actAt false s
    if s.upd.state = .scheduled then sendActivate (modUpd (fun u => { u with sending := true }) s) else s

/-- The command of a write of UPD_CTRL by its bit. -/
def updCommand (i : Nat) (s : State) : State :=
  match i with
  | 0 => updBegin s
  | 1 => updVerify s
  | 2 => updSchedule s
  | 3 => updCancel s
  | 4 => updConfirm s
  | 5 => updMigfail s
  | _ => updActsend s

/-- A write of UPD_CTRL (Table 20.11). [log 101 DEDUCED] -/
def updCtrlWrite (rq : Requester) (v : Word) (s : State) : State :=
  let cmds := (List.range 7).filter fun i => bit v i
  wrIf .upd (rq == .keeper) (decide (v &&& 0xFFFFFC80#32 ≠ 0 ∨ 2 ≤ cmds.length)) rq 0x20130004
    (fun s =>
      let s := modUpd (fun u => { u with rxen := bit v 8, allowRst := bit v 9 }) s
      cmds.foldl (fun s i => updCommand i s) s) s

/-- The write that a command's row stands for: its bit, with RXEN and ALLOWRST as they stand. [log 101 DEDUCED] -/
def updRow (i : Nat) (rq : Requester) (s : State) : State :=
  updCtrlWrite rq (pack [(i, 1), (8, b01 s.upd.rxen), (9, b01 s.upd.allowRst)]) s

/-- The rows BEGIN, VERIFY, SCHEDULE, UPD_CANCEL, CONFIRM, MIGFAIL and ACTSEND. -/
def doBegin (rq : Requester) (s : State) : State := updRow 0 rq s
def doVerify (rq : Requester) (s : State) : State := updRow 1 rq s
def doSchedule (rq : Requester) (s : State) : State := updRow 2 rq s
def doUpdCancel (rq : Requester) (s : State) : State := updRow 3 rq s
def doConfirm (rq : Requester) (s : State) : State := updRow 4 rq s
def doMigfail (rq : Requester) (s : State) : State := updRow 5 rq s
def doActsend (rq : Requester) (s : State) : State := updRow 6 rq s

/-! ### Bundles -/

/-- Byte `o` of the bundle is held. -/
def BundleRx.holds (r : BundleRx) (o : Nat) : Bool := r.chunks.any fun c => decide (c.1 ≤ o ∧ o < c.1 + c.2)

/-- The header with the bytes of a chunk in it. -/
def BundleRx.merge (r : BundleRx) (off : Nat) (data : List Byte) : List Byte :=
  (List.range 32).map fun i => if off ≤ i ∧ i < off + data.length then byteAt data (i - off) else byteAt r.header i

/-- A DATA payload holds a reserved value (Table 20.7). [log 103 DEDUCED] -/
def dataBad (pay : List Byte) : Bool :=
  let c := leAt pay 2 2
  leAt pay 1 1 != 0 || leAt pay 12 4 != 0 || c % 8 != 0 || !within 8 2024 c || leAt pay 4 4 % 8 != 0 ||
    pay.length != 16 + c

/-- A DATA frame is discarded and counted. [log 103 DEDUCED] -/
def rxRefuse (s : State) : State := bump .upd 0x050 0 1 (modUpd (fun u => { u with rxRef := satInc u.rxRef }) s)

/-- The bytes of a chunk that lie in the span from `a`, `n` bytes long, are written to MRAM at `dst`.
[log 103 DEDUCED] -/
def placeChunk (off : Nat) (data : List Byte) (a n dst : Nat) (s : State) : State :=
  let lo := max off a
  let hi := min (off + data.length) (a + n)
  if lo < hi then mramPut (dst + (lo - a)) ((data.drop (lo - off)).take (hi - lo)) s else s

/-- Every byte is held (R515). -/
def bundleDone (before : Word) (s : State) : State :=
  if s.upd.rxBytes = s.upd.rxTotal ∧ before ≠ s.upd.rxBytes then
    updIrq 0 (logUpd 0xE002 2 [(0, s.upd.serial.toNat), (32, s.upd.rxTotal.toNat)] s)
  else s

/-- A chunk whose place is known is written into the slots and counted. -/
def storeChunk (r : BundleRx) (off : Nat) (data header : List Byte) (s : State) : State :=
  let pair := !s.upd.boot.act
  let fw := leAt header 0x10 4
  let st := leAt header 0x14 4
  if 32 + fw + st < off + data.length ∨ 0x300000 < fw ∨ 0x80000 < st then rxRefuse s
  else
    let new := ((List.range data.length).filter fun i => !r.holds (off + i)).length
    let s := placeChunk off data 32 fw (fwSlot pair) (placeChunk off data (32 + fw) st (stSlot pair) s)
    let before := s.upd.rxBytes
    bundleDone before (modUpd (fun u => { u with
      rx := some ⟨r.serial, (off, data.length) :: r.chunks, header, []⟩, rxBytes := BitVec.ofNat 32 (before.toNat + new)
      rxTotal := BitVec.ofNat 32 (32 + fw + st), serial := BitVec.ofNat 32 (leAt header 0xC 4) }) s)

/-- The chunks that came before the header was whole take their places, oldest first. -/
def placeEarly (header : List Byte) (cs : List (Nat × List Byte)) (s : State) : State :=
  cs.reverse.foldl (fun s c =>
    match s.upd.rx with
    | some r => storeChunk r c.1 c.2 header s
    | none => s) s

/-- A chunk of the bundle being received (R515). While the header is not whole the engine holds it and counts its bytes; its
place is known with the header. [log 103 DEDUCED] -/
def takeChunk (r : BundleRx) (off : Nat) (data : List Byte) (s : State) : State :=
  if (List.range data.length).all fun i => r.holds (off + i) then s
  else
    let header := r.merge off data
    let q : BundleRx := ⟨r.serial, (off, data.length) :: r.chunks, header, (off, data) :: r.early⟩
    if !(List.range 32).all q.holds then
      let new := ((List.range data.length).filter fun i => !r.holds (off + i)).length
      modUpd (fun u => { u with rx := some q, rxBytes := satAdd u.rxBytes new }) s
    else if r.early.isEmpty then storeChunk r off data header s
    else placeEarly header q.early (modUpd (fun u => { u with rx := some ⟨r.serial, [], header, []⟩, rxBytes := 0 }) s)

/-- A DATA frame; the first one after BEGIN gives the serial, also one that is discarded (R515). -/
def bundleData (pay : List Byte) (s : State) : State :=
  let serial := BitVec.ofNat 32 (leAt pay 8 4)
  let r : BundleRx := match s.upd.rx with
    | some r => r
    | none => ⟨serial, [], List.replicate 32 0, []⟩
  let s := if s.upd.rx.isNone then modUpd (fun u => { u with rx := some r, serial := serial }) s else s
  if r.serial ≠ serial then s
  else if dataBad pay then rxRefuse s
  else takeChunk r (leAt pay 4 4) (pay.drop 16) s

/-- BUNDLE_DATA_RX: in LOADING with RXEN, from the bellwether (R515). -/
def doBundleDataRx (p : Fin 2) (f : List Byte) (s : State) : State :=
  consume p 0x0D f (fun s =>
    if leAt f 16 1 = 1 ∧ s.upd.state = .loading ∧ s.upd.rxen ∧ s.fab.bw ≠ 0 ∧ frSrc f = s.fab.bw then
      bundleData (frPayload f) s
    else s) s

/-- An ACTIVATE payload holds no reserved value (Table 20.7). -/
def activateOk (pay : List Byte) : Bool :=
  pay.length == 24 && leAt pay 0 1 == 2 && leAt pay 1 7 == 0 && leAt pay 12 4 == 0

/-- ACTIVATE_RX: it acts as SCHEDULE with UPD_ACTAT = a (R519). -/
def doActivateRx (p : Fin 2) (f : List Byte) (s : State) : State :=
  consume p 0x0D f (fun s =>
    let pay := frPayload f
    if activateOk pay ∧ s.fab.bw ≠ 0 ∧ frSrc f = s.fab.bw ∧ s.authOn ∧ s.upd.state = .verified ∧
        leAt pay 8 4 = s.upd.serial.toNat then
      let a := BitVec.ofNat 64 (leAt pay 16 8)
      armUpdate a true (modUpd (fun u => { u with actAt := a }) s)
    else s) s

/-- UPD_STATUS_TX: every 64 ticks in LOADING and VERIFIED (R515). -/
def doUpdStatusTx (s : State) : State :=
  if (s.upd.state = .loading ∨ s.upd.state = .verified) ∧ s.fab.state = .member ∧
      s.upd.statusAt + 64 ≤ s.tick.executed then
    let left := s.upd.rxTotal.toNat - s.upd.rxBytes.toNat
    sendFrame true false 0xFF 0x0D
      ([3, BitVec.ofNat 8 s.upd.state.code, 0, 0] ++ leBytes 4 left ++ leBytes 4 s.upd.serial.toNat ++ [0, 0, 0, 0])
      (modUpd (fun u => { u with statusAt := s.tick.executed }) s)
  else s

/-! ### Activation and fallback -/

/-- BOOT_RECORD_WRITE: in the guard band of tick a − 1 the record names the new pair in trial, in that of tick f − 1 the
confirmed pair. A restart activation writes it before the commit mark of tick a − 1, at which the module resets (R517,
R518, R523). -/
def doBootRecordWrite (s : State) : State :=
  if !s.recordDue then s
  else if s.upd.state = .scheduled then
    if s.upd.restart then
      if s.tick.phase = .envelope then
        modUpd (fun u => { u with written := true }) (writeBoot s.trialRecord s)
      else s
    else if s.tick.phase = .guard then modUpd (fun u => { u with written := true }) (writeBoot s.trialRecord s)
    else s
  else if s.tick.phase = .guard then modUpd (fun u => { u with written := true }) (writeBoot s.fallbackRecord s)
  else s

/-- The structure image of the active pair is brought in from the shadow when it is not in force, a die that missed the
last commit frame one tick later (R85). [log 104 DEDUCED] -/
def bringPair (s : State) : State :=
  match s.strct.shImage with
  | some g =>
    if s.strct.active ≠ s.upd.boot.act ∧ (s.strct.shadow = .ready ∨ s.strct.shadow = .scheduled) then
      lagging s.missedFrame (exchange s.missedFrame g (lateSwap s))
    else s
  | none => s

/-- The shepherd core stops and reloads from the slot now active, unless it is halted (R275, R517).
[log 59 DEDUCED; 106 DEDUCED] -/
def reloadShepherd (s : State) : State := if s.core.halted then s else stopShepherd .activation s

/-- The confirmation window in executed ticks (R522). -/
def State.windowTicks (s : State) : Nat := s.upd.boot.confwin * 1000000000 / s.T

/-- ACTIVATED: at tick a the structure swaps, the shepherd core reloads, and the trial begins (R517). -/
def doActivated (s : State) : State :=
  if s.activationDue ∧ s.upd.state = .scheduled then
    let s := reloadShepherd (bringPair s)
    let s := modUpd (fun u => { u with
      state := .trial, migFail := false, restart := false, sending := false, written := false
      fAt := s.tick.executed + s.windowTicks }) s
    let s := { s with key := { s.key with fwDigest := s.upd.boot.fwDigest } }
    updIrq 3 (logUpd 0xE007 3 [(0, s.upd.armed.toNat % 2 ^ 32), (32, s.upd.boot.seq.toNat)] s)
  else s

/-- FALLBACK: at tick f the confirmed pair is restored (R523). -/
def doFallback (s : State) : State :=
  if s.activationDue ∧ s.upd.state = .trial then
    let s := reloadShepherd (bringPair s)
    let cause := if s.upd.migFail then 3 else 1
    let s := modUpd (fun u => { u with state := .fallback, fbCause := cause, written := false }) s
    let s := { s with key := { s.key with fwDigest := s.upd.boot.fwDigest } }
    updIrq 5 (logUpd 0xE00A 5 [(0, cause)] s)
  else s

/-! ### Tick programs -/

/-- Offset and length of a tick program record of the active firmware (Table 20.1). -/
def State.tickProgram (s : State) (k : Nat) : List Byte :=
  let a := s.upd.boot.act
  mramGet (fwSlot a + s.fwField a (0x40 + 8 * k) 4) (s.fwField a (0x44 + 8 * k) 4) s

/-- The copy of a tick program begins: the core is not live (R512). A core that failed the self-test loads nothing
(Table 21.2). [log 61 DEDUCED] -/
def startLoad (k : Fin 4) (s : State) : State :=
  if s.pert.bistFail.getLsbD (k.val + 1) then s
  else
    let s := voidSource (tcSource k) (loadProgram (k.val + 1) (s.tickProgram k.val) s)
    let s := modCpu ⟨k.val + 1, by omega⟩ (fun c => { c with run := .stopped, flight := [] }) (setTc k .notLoaded s)
    modUpd (fun u => { u with tpStat := u.tpStat.set k 1, tpDigest := u.tpDigest.set k [] }) s

/-- A write of UPD_TPLOAD. -/
def tploadWrite (rq : Requester) (v : Word) (s : State) : State :=
  wrIf .upd (rq == .keeper) (decide (8 ≤ v.toNat)) rq 0x20130048
    (fun s =>
      let k : Fin 4 := ⟨v.toNat % 4, by omega⟩
      let s := modUpd (fun u => { u with tpCore := k }) s
      if bit v 2 then startLoad k s else s) s

/-- TPLOAD. -/
def doTpload (rq : Requester) (core : Fin 4) (s : State) : State :=
  tploadWrite rq (BitVec.ofNat 32 (4 + core.val)) s

/-- The image whose PROOF section judges a load: the one in force, before the first swap the shadow (R512). -/
def State.proofImage (s : State) : Option Image := if s.strct.inForce then some s.cfg else s.strct.shImage

/-- A tick program is held with its digest: the core is loaded (R512, R259). [log 61 DEDUCED] -/
def loadedProgram (k : Fin 4) (d : List Byte) (s : State) : State :=
  modCpu ⟨k.val + 1, by omega⟩ (fun _ => Cpu.loaded)
    (modUpd (fun u => { u with tpStat := u.tpStat.set k 2, tpDigest := u.tpDigest.set k d }) (clearLocal (k.val + 1) s))

/-- TPLOAD_DONE: the key core compares the digest of the program (R512). [log 61 DEDUCED] -/
def doTploadDone (k : Fin 4) (s : State) : State :=
  if s.upd.tpStat[k] ≠ 1 then s
  else
    let n := min 0x20000 (s.tickProgram k.val).length
    let d := sha256 (ramGet (progKey (k.val + 1) 0) n s)
    let want : List Byte := match s.proofImage with
      | some g => g.proof[k].digest
      | none => []
    if d = want then loadedProgram k d s
    else logUpd 0xE00C 5 [(0, k.val)] (modUpd (fun u => { u with tpStat := u.tpStat.set k 3 }) s)

end Sys2Proof.Machine
end

