-- ==== Sys2Proof/Machine/Power.lean ====
section
/-! DEFINITION. Power requests, operating points, entry into REST and OFF, the supply monitor and network sleep (R481 to
R493, R498 to R504). -/

namespace Sys2Proof.Machine

/-! ### Requests -/

/-- The core frequency of an operating point in MHz (Table 19.4a). -/
def opMhz (p : Fin 4) : Nat := 100 * (p.val + 1)

/-- The instant of bundle boundary `n` after the start of the tick, in units of 2^-32 ns: the clock starts over 64
bundles (R72). [log 56 DEDUCED] -/
def State.bundleAt_ (s : State) (n : Nat) : Nat :=
  s.T * 2 * 2 ^ 32 / 64 + (64 + n) * 1000 * 2 ^ 32 / opMhz s.pwr.opCur

/-- A REST or OFF request (R486, R492): refused while another is in progress or when its target is too late. -/
def powerReq (kind : Nat) (sched : Option DWord) (net falseWake : Bool) (s : State) : State :=
  if s.pwr.req ≠ .none then refuseReq kind false false s
  else
    let late : Bool := match sched with
      | some t => s.envOpened t.toNat
      | none => false
    if late then refuseReq kind false true s
    else modPwr (fun p => { p with
      req := if kind = 1 then .rest sched net falseWake else .off sched, entryTick := s.intakeTick }) s

/-- A write of PWR_REQ. -/
def reqWrite (rq : Requester) (v : Word) (s : State) : State :=
  wrIf .pwr (rq == .keeper) (decide (8 ≤ v.toNat ∨ field v 0 2 = 0 ∨ field v 0 2 = 3)) rq 0x200F0020
    (fun s =>
      powerReq (field v 0 2) (if bit v 2 then some s.pwr.at_ else none) false false s) s

/-- REST_REQ and OFF_REQ. -/
def doRestReq (rq : Requester) (sched : Bool) (s : State) : State := reqWrite rq (pack [(0, 1), (2, b01 sched)]) s
def doOffReq (rq : Requester) (sched : Bool) (s : State) : State := reqWrite rq (pack [(0, 2), (2, b01 sched)]) s

/-- A write of PWR_OP (R488). [log 86 DEDUCED] -/
def opWrite (rq : Requester) (v : Word) (s : State) : State :=
  wrIf .pwr (rq == .keeper) (decide (v &&& 0xFFFFFCCC#32 ≠ 0)) rq 0x200F0030
    (fun s =>
      let t : Fin 4 := ⟨v.toNat % 4, by omega⟩
      if s.pwr.req ≠ .none then refuseReq 3 false false s
      else if t.val < s.cfg.minOp then refuseReq 3 true false (setErr .pwr 2 s)
      else modPwr (fun p => { p with opReq := t, req := .op t, opAt := s.tb0, opOld := p.opCur }) s) s

/-- OP_REQ. -/
def doOpReq (rq : Requester) (v : Fin 4) (s : State) : State := opWrite rq (BitVec.ofNat 32 v.val) s

/-- OP_CHANGE: frequency and voltage have both reached the target; a falling voltage ramps after the change of frequency
(R488). -/
def doOpChange (s : State) : State :=
  match s.pwr.req with
  | .op t =>
    if t = s.pwr.opCur then
      let s := if t < s.pwr.opOld then
          passTo 0 ((s.pwr.opAt + (opVolts s.pwr.opOld - opVolts t) * 100) * 2 ^ 32) s else s
      logPwr 0xD005 1 [(0, s.pwr.opOld.val), (2, t.val)] (modPwr (fun p => { p with req := .none }) s)
    else s
  | _ => s

/-! ### Wake requests before the entry -/

/-- The class of a reader: 1 driver, 2 depot. -/
def State.readerClass (s : State) (r : Nat) : Nat := if s.accIn then rdClass (s.cfg.reader r) else 0

/-- A driver reader with a handle (Table 17.9). -/
def State.handleReader (s : State) (h : Nat) (r : Nat) : Bool := s.readerClass r == 1 && rdHandle (s.cfg.reader r) == h

/-- The periodic bursts run in REST: a depot reader, access enabled and not locked out, and not parked (R447, R450, R451). -/
def State.burstsRun (s : State) : Bool :=
  (s.readerClass 0 == 2 || s.readerClass 1 == 2) && s.accKeys && !s.acc.parked &&
    s.acc.lockUntil.all fun t => decide (t ≤ s.tb0Rest)

/-- WAKE pin `i` fires (R490): `pins` holds the levels of the two pins in [1:0] and before the event in [3:2]. A pin of edge
type fires on its active edge, one of level type while it is at its active level; `any` admits a disabled pin too. -/
def pinFires (c : Word) (i : Nat) (pins : BitVec 4) (any : Bool) : Bool :=
  let pol := bit c (4 * i + 2)
  (any || bit c (4 * i)) && pins.getLsbD i == pol && (bit c (4 * i + 1) || pins.getLsbD (2 + i) != pol)

/-- An enabled WAKE pin of level type is at its active level (R503). -/
def State.pinHeld (s : State) (i : Nat) : Bool :=
  let c := s.pwr.wakeCfg
  bit c (4 * i) && bit c (4 * i + 1) && s.pwr.pins.getLsbD i == bit c (4 * i + 2)

/-- The wake sources that can fire, as bits of PWR_WAKECAUSE (R489, R490): the WAKE pins that fire, the wake and decoder
latches that are set, driver handles, depot answers, the tamper latch, and in REST the alarm. `any` admits every WAKE pin, as
during an entry (R493). -/
def State.wakeMask (s : State) (pins : BitVec 4) (any alarm : Bool) : Half :=
  let c := s.pwr.wakeCfg
  let hnd := fun h => s.handleReader h 0 || s.handleReader h 1
  let ch := fun k => getNat s.mbus.ch k MbusChan.start
  BitVec.ofNat 16 (pack [(0, b01 (pinFires c 0 pins any)), (1, b01 (pinFires c 1 pins any)), (2, b01 (ch 4).wake), (3, b01 (ch 5).wake),
    (4, b01 ((ch 4).decoded || (ch 5).decoded)), (5, b01 (hnd 0)), (6, b01 (hnd 1)),
    (7, b01 s.burstsRun), (8, b01 (s.key.tamper != 0)), (9, b01 (alarm && bit c 8))]).toNat

/-- The request is for REST. -/
def PwrReq.isRest : PwrReq → Bool
  | .rest _ _ _ => true
  | _ => false

/-- The request was taken from a network COMMAND. -/
def PwrReq.isNet : PwrReq → Bool
  | .rest _ net _ => net
  | _ => false

/-- The span in which a wake request cancels a REST request has ended (R493): the envelope phase of the entry tick,
and for a network sleep that of the tick before, has opened. [log 86 DEDUCED] -/
def State.cancelLate (s : State) : Bool :=
  match s.pwr.req with
  | .rest (some t) net _ => s.envOpened (t.toNat - b01 net)
  | _ => s.envOpenedExec s.pwr.entryTick

/-- A SLEEP frame of this module (Table 19.7). -/
def sleepFrame (sub b1 : Nat) (c : Word) : List Byte := [BitVec.ofNat 8 sub, BitVec.ofNat 8 b1, 0, 0] ++ leBytes 4 c.toNat

/-- ABORT is broadcast ahead of any best-effort frame that waits (R501). -/
def sendAbort (s : State) : State :=
  if !s.maySend then s
  else
    let f := mkFrame s 0xFF 0x0C s.ownGen (sleepFrame 3 0 s.pwr.nsC)
    (s.outPorts 0xFF).foldl (fun s p => modPort p (fun x => { x with store := ⟨f, false, false⟩ :: x.store }) s)
      (modFab (fun b => { b with txSeq := b.txSeq + 1 }) s)

/-- The REST request in progress is cancelled (R487, R493, R501): bits of PWR_WAKECAUSE, AWAKE written, ABORT received. A
member that leaves a network sleep by itself before the sleep point says so to the others. -/
def cancelRest (causes : Half) (awake abort : Bool) (s : State) : State :=
  let net := s.pwr.req.isNet
  let late := s.cancelLate
  let s := modPwr (fun p => { p with
    req := .none, cancelled := true, mode := .run, pendWake := 0, nsState := if net then 2 else p.nsState
    cmdC := if net then none else p.cmdC, abortAt := if net then some s.tb0 else p.abortAt }) s
  let s := setIrq .pwr 1 (logPwr 0xD004 3 [(0, causes.toNat), (11, b01 awake), (12, b01 abort)] (hwBit .pwr 0x024 0x10 s))
  if net && !abort && !late then sendAbort s else s

/-- A tamper cancels a REST entry until its entry window opens (R487). [log 86 DEDUCED] -/
def tamperCancel (s : State) : State :=
  if s.pwr.req.isRest ∧ (s.pwr.mode = .run ∨ s.pwr.mode = .entry) ∧ !s.entryWindow then cancelRest 0x100 false false s else s

/-- The wake requests among the sources named: the WAKE pins by their levels, every pin during the entry (R493). -/
def State.wakeRequests (s : State) (sources : Half) (pins : BitVec 4) : Half :=
  let m := s.wakeMask pins (s.pwr.mode == .entry) false
  (sources &&& m &&& 0x7FC) ||| (m &&& 3)

/-- REQ_CANCELLED: wake requests arrive while a REST request is in progress (R487, R493): before the entry tick they
cancel it, later they are pending, and in the entry window an event is lost; a level that still holds there wakes the module
when the entry is complete. Tamper cancels the entry until the window opens. [log 86 DEDUCED] -/
def doReqCancelled (sources : Half) (pins : BitVec 4) (s : State) : State :=
  let w := s.wakeRequests sources pins
  if !s.pwr.req.isRest ∨ w = 0 ∨ !(s.pwr.mode == .run || s.pwr.mode == .entry) ∨ s.entryWindow then s
  else if w.getLsbD 8 ∨ (s.pwr.mode = .run ∧ !s.cancelLate) then cancelRest w false false s
  else modPwr (fun p => { p with pendWake := p.pendWake ||| w }) s

/-- TAMPER, with its effect on a REST entry (R474, R476, R487). -/
def doTamperRow (sources : BitVec 5) (elapsed : Nat) (s : State) : State :=
  if sources = 0 then s
  else
    let t := doTamper sources elapsed s
    tamperCancel (if t.pwr.mode = .rest ∨ t.pwr.mode = .off ∨ t.entryWindow then t else tamperReload (tamperImage t))

/-! ### Entry -/

/-- Every output lane goes off at the entry commit (R483, Table 19.5): gates and drivers off, sinks idle with their switches
closed, chain lines low. -/
def lanesOff (s : State) : State :=
  let s := (List.finRange 16).foldl (fun s k => modSol k (fun c => { c with applied := 0 }) (solAbort k s)) s
  let s := (List.finRange 96).foldl (fun s k => hsCommit k false s) s
  { s with led := { s.led with
      pos := s.led.pos.map fun h => { h with disp := 0, target := 0, steps := 0, step := 0, eff := 0, pulse := 0, last := 0 }
      chain := s.led.chain.map fun h => { h with armed := false, busy := false, taken := false } } }

/-- The trunk transceivers are to enter SLEEP, forced by REST (R414): the entries come before the archive run, after which
none is written. [log 89 DEDUCED] -/
def logTrxRest (s : State) : State :=
  [4, 5].foldl (fun s (k : Fin 6) =>
    let old := s.mbus.ch[k].trx
    if old = 3 then s else logEv 0x900C 2 (locTrx k.val) (pack64 [(0, 3), (2, old.val), (4, 1)]) s) s

/-- REST_ENTER: the entry commit of a REST or OFF request (R492). [log 89 DEDUCED] -/
def doRestEnter (s : State) : State :=
  if s.pwr.mode ≠ .run ∨ s.tick.phase ≠ .measure ∨ !s.entryDue then s
  else
    let kind := match s.pwr.req with
      | .rest _ net fw => if net then 2 else if fw then 3 else 1
      | _ => 1
    let off := !s.pwr.req.isRest
    let n := s.tally.unarch
    let s := logPwr 0xD001 2 [(0, kind), (16, n)] s
    let s := accRest (lanesOff (if off then s else logTrxRest s))
    let s := if s.strct.shadow = .scheduled then swapAbort 1 s else s
    let s := actAbort 3 s
    let s := rowWriteBack true s
    let s := modPert (fun p => { p with enable := 0, live := 0 }) s
    { s with
      aud := { s.aud with zone := s.aud.zone.map fun z => { z with out := [] } }
      tick := { s.tick with phase := .off, tc := s.tick.tc.map fun t => if t = .notLoaded then t else .waiting }
      tally := { s.tally with archiving := decide (s.tally.unarch ≠ 0) }
      mem := { s.mem with walk := false }
      pwr := { s.pwr with mode := .entry, entryAt := s.tb0, unarch := s.tally.unarch, offEntry := off,
                             restTampers := [] } }

/-- Without power every output is off (Table 19.1). [log 95 DEDUCED] -/
def dark (s : State) : State :=
  { s with
    hsw := { s.hsw with ch := s.hsw.ch.map fun h => if h.gate then { h with prot := .off } else h }
    sol := { s.sol with ch := s.sol.ch.map fun _ => SolState.blank }
    led := { s.led with
      pos := s.led.pos.map fun h => { h with disp := 0, target := 0, steps := 0, step := 0, eff := 0, pulse := 0, last := 0 }
      chain := s.led.chain.map fun h => { h with armed := false, busy := false, taken := false } } }

/-- The module falls to OFF with a cause (R496, R498). Nothing but the OFF cell is powered. [log 95 DEDUCED] -/
def goOff (cause : Nat) (s : State) : State :=
  modPwr (fun p => { p with mode := .off, aoCause := cause, req := .none })
    (dark { s with tick := { s.tick with phase := .off } })

/-- REST_ENTRY_COMPLETE: the archive run is over; the domains power down, and the module is in REST or OFF (R492,
R339, R414). [log 89 DEDUCED] -/
def doRestEntryComplete (s : State) : State :=
  if s.pwr.mode ≠ .entry ∨ s.tally.unarch ≠ 0 then s
  else
    let a := 800 * s.pwr.unarch
    let s := passTo 0 ((s.pwr.entryAt + a) * 2 ^ 32) s
    if s.pwr.offEntry then goOff 1 s
    else
      bump .pwr 0x060 0 1 { s with
        mbus := { s.mbus with ch := mapUnits s.mbus.ch fun k c => if 4 ≤ k.val then { c with trx := 3 } else { c with trx := 2 } }
        pwr := { s.pwr with
          mode := .rest, restAt := s.tb0, restCycles := 12
          entryTime := BitVec.ofNat 16 (min 65535 (Config.rounded (a + 391550) 1000)), rests := satInc s.pwr.rests } }

/-! ### Supply -/

/-- VBL_OFF: VBL has been low for 10 ms; the module falls to OFF, whatever request is in progress (R487, R498). -/
def doVblOff (s : State) : State :=
  let t := s.pwr.vblAt + 10000000
  if s.pwr.vblLow ∧ s.pwr.mode ≠ .off then
    goOff 2 (if s.pwr.mode = .rest then restTo t s else passTo 0 (t * 2 ^ 32) s)
  else s

/-- Without VBL every gate goes off, and none comes on while there is none (R540). [log 87 DEDUCED] -/
def noteVbl (vbl : Half) (s : State) : State :=
  let none_ := vbl == 0
  let s := if none_ && !s.pwr.noVbl then (List.finRange 96).foldl (fun s k => hsCommit k false s) s else s
  modPwr (fun p => { p with noVbl := none_ }) s

/-- VBL_LOW: VBL falls below 13.0 V, or rises above 14.0 V again within 10 ms (R498, R542). In OFF the supply monitor of the
OFF cell notes that it fell. `vbl` is in 10 mV. [log 87 DEDUCED] -/
def doVblLow (vbl : Half) (s : State) : State :=
  let p := s.pwr
  if p.mode = .off then (if vbl.toNat ≤ 1330 then modPwr (fun p => { p with vblLow := true }) s else s)
  else if vbl.toNat ≤ 1330 ∧ !p.vblLow then
    let s := noteVbl vbl (modPwr (fun p => { p with vblLow := true, vblAt := s.tb0Rest }) s)
    whenOn (fun s =>
      let s := setIrq .pwr 4 (logPwr 0xD008 4 [(0, 1), (16, vbl.toNat)] s)
      modTally (fun t => { t with archiving := decide (t.unarch ≠ 0) }) s) s
  else if p.vblLow ∧ p.vblAt + 10000000 ≤ s.tb0Rest then doVblOff s
  else if 1400 < vbl.toNat ∧ p.vblLow then
    whenOn (logPwr 0xD008 4 [(16, vbl.toNat)]) (noteVbl vbl (modPwr (fun p => { p with vblLow := false }) s))
  else noteVbl vbl s

/-! ### Network sleep -/

/-- A vote counts (R499, R500): AWAKE, not lapsed, and not past MAXAWAKE minutes after the last key-off. -/
def State.pastAwake (s : State) : Bool :=
  match s.pwr.keyOffAt with
  | some t => decide (t + s.pwr.maxAwake * 60000000000 ≤ s.tb0)
  | none => false

/-- The vote of a position counts; the bellwether's own AWAKE is its vote. -/
def State.voteCounts (s : State) (p : Nat) : Bool :=
  !s.pastAwake &&
  (if p = s.fab.pos then s.pwr.nsAwake
   else match getNat s.pwr.votes p none with
     | some (a, t) => a && decide (s.tick.executed - t < 256)
     | none => false)

/-- The positions whose vote counts. [log 25 DEDUCED] -/
def State.votesCounted (s : State) : Nat := ((List.range 65).filter fun p => decide (1 ≤ p) && s.voteCounts p).length

/-- NS_VOTE_TX: every 64 ticks, and in the tick after AWAKE changes (R499). -/
def doNsVoteTx (s : State) : State :=
  let changed : Bool := match s.pwr.voteDue with
    | some t => decide (t < s.tick.executed)
    | none => false
  if s.fab.state = .member ∧ s.pwr.nsEnable ∧ (changed ∨ s.pwr.voteAt + 64 ≤ s.tick.executed) then
    sendFrame true false 0xFF 0x0C (sleepFrame 1 (b01 s.pwr.nsAwake) 0)
      (modPwr (fun p => { p with voteAt := s.tick.executed, voteDue := none }) s)
  else s

/-- A SLEEP payload with no reserved value, for a SUB (Table 19.7). -/
def sleepOk (sub : Nat) (pay : List Byte) : Bool :=
  pay.length == 8 && leAt pay 0 1 == sub &&
    (if sub = 1 then decide (leAt pay 1 1 ≤ 1) && leAt pay 2 6 == 0 else leAt pay 1 3 == 0)

/-- NS_VOTE_RX: the bellwether holds the latest vote of each position (R499). -/
def doNsVoteRx (p : Fin 2) (f : List Byte) (s : State) : State :=
  consume p 0x0C f (fun s =>
    let src := frSrc f
    if sleepOk 1 (frPayload f) ∧ s.bellwether then
      let awake := leAt (frPayload f) 1 1 == 1
      modPwr (fun p => { p with
        votes := updNat p.votes src fun _ => some (awake, s.tick.executed)
        expired := if awake then p.expired else updNat p.expired src fun _ => false }) s
    else s) s

/-- NS_VOTE_EXPIRED: a vote lapses after 256 ticks, or an AWAKE vote stops counting MAXAWAKE minutes after the
key-off, which is reported once (R499, R500). [log 88 DEDUCED] -/
def doNsVoteExpired (pos : Fin 65) (s : State) : State :=
  let own := decide (pos.val = s.fab.pos)
  let old : Bool := match s.pwr.votes[pos] with
    | some (_, t) => decide (t + 256 ≤ s.tick.executed)
    | none => false
  let awake : Bool := if own then s.pwr.nsAwake else match s.pwr.votes[pos] with
    | some (a, _) => a
    | none => false
  if !s.bellwether ∨ pos.val = 0 then s
  else if old && !own then modPwr (fun p => { p with votes := p.votes.set pos none, expired := p.expired.set pos false }) s
  else
    match s.pwr.keyOffAt with
    | some t =>
      if awake ∧ !s.pwr.expired[pos] then
        logPwr 0xD00D 2 [(0, pos.val)] (modPwr (fun p => { p with expired := p.expired.set pos true })
          (passTo 0 ((t + s.pwr.maxAwake * 60000000000) * 2 ^ 32) s))
      else s
    | none => s

/-- A COMMAND is taken as a scheduled REST request before its sleep point (R501), or refused (R486). [log 88 DEDUCED] -/
def takeCommand (c : DWord) (s : State) : State :=
  let busy := s.pwr.req ≠ .none
  if s.envOpened (c.toNat - 1) then modPwr (fun p => { p with sawC := some (c.setWidth 32) }) s
  else
  let s := powerReq 1 (some c) true false s
  let lo : Word := c.setWidth 32
  if !busy ∧ s.pwr.req ≠ .none then
    setIrq .pwr 5 (logPwr 0xD00A 2 [(0, lo.toNat), (32, s.fab.bw)]
      (modPwr (fun p => { p with nsState := 1, nsC := lo, sawC := none }) s))
  else modPwr (fun p => { p with sawC := some lo }) s

/-- The bellwether broadcasts COMMAND in every tick up to c − 1 (R500). -/
def sendCommand (s : State) : State :=
  match s.pwr.cmdC with
  | some c =>
    if s.tick.count.toNat < c.toNat then sendFrame true false 0xFF 0x0C (sleepFrame 2 0 (c.setWidth 32)) s
    else modPwr (fun p => { p with cmdC := none }) s
  | none => s

/-- The conditions under which the bellwether commands sleep (R500). -/
def State.mayCommand (s : State) : Bool :=
  s.bellwether && s.pwr.nsEnable && !s.pwr.nsKeyOn && s.votesCounted == 0 &&
    decide (s.pwr.musterAt + 256 ≤ s.tick.executed) && s.pwr.req == .none && s.tick.phase != .off &&
    (match s.pwr.abortAt with
     | some t => decide (t + 10000000000 ≤ s.tb0)
     | none => true)

/-- NS_COMMAND: sleep at tick c = current tick + LEAD (R500, R501). -/
def doNsCommand (s : State) : State :=
  if s.mayCommand then
    let c := s.tick.count + BitVec.ofNat 64 s.pwr.lead
    sendCommand (modPwr (fun p => { p with cmdC := some c }) (takeCommand c s))
  else s

/-- The tick number whose low word a frame carries, nearest to the current one. -/
def State.tickNear (s : State) (c : Word) : DWord := s.tick.count + (c - s.tickLo).signExtend 64

/-- NS_COMMAND_RX: a member takes the first COMMAND it accepts (R501). [log 88 DEDUCED] -/
def doNsCommandRx (p : Fin 2) (f : List Byte) (s : State) : State :=
  consume p 0x0C f (fun s =>
    let c : Word := BitVec.ofNat 32 (leAt (frPayload f) 4 4)
    let known := s.pwr.nsC == c && s.pwr.nsState != 0
    if sleepOk 2 (frPayload f) ∧ s.fab.state = .member ∧ s.pwr.nsEnable ∧ s.fab.bw ≠ 0 ∧ frSrc f = s.fab.bw ∧ !known ∧
        s.pwr.sawC ≠ some c then
      takeCommand (s.tickNear c) s
    else s) s

/-- NS_ABORT: an ABORT before the envelope phase of tick c cancels the sleep (R501). [log 88 DEDUCED] -/
def doNsAbort (p : Fin 2) (f : List Byte) (s : State) : State :=
  consume p 0x0C f (fun s =>
    let c : Word := BitVec.ofNat 32 (leAt (frPayload f) 4 4)
    if !sleepOk 3 (frPayload f) then s
    else
      let s := modPwr (fun p => { p with abortAt := some s.tb0 }) s
      if s.pwr.req.isNet ∧ s.pwr.mode = .run ∧ s.pwr.nsC = c ∧ !s.envOpened (s.tickNear c).toNat then
        setIrq .pwr 6 (logPwr 0xD00B 3 [(0, c.toNat), (32, frSrc f % 128)] (cancelRest 0 false true s))
      else s) s

/-- NS_MISSED: at the sleep point a member that was commanded has taken no COMMAND (R501). [log 88 DEDUCED] -/
def doNsMissed (s : State) : State :=
  match s.pwr.sawC with
  | some c =>
    if s.envOpened ((s.tickNear c).toNat - 1) then
      logPwr 0xD00C 4 [(0, c.toNat)] (modPwr (fun p => { p with sawC := none }) s)
    else s
  | none => s

/-- A write of PWR_NS_CTRL (R499 to R501). -/
def nsCtrlWrite (rq : Requester) (v : Word) (s : State) : State :=
  wrIf .pwr (rq == .keeper) (decide (8 ≤ v.toNat)) rq 0x200F0048
    (fun s =>
      let p := s.pwr
      let keyOff := p.nsKeyOn && !bit v 2
      let s := modPwr (fun p => { p with
        nsEnable := bit v 0, nsAwake := bit v 1, nsKeyOn := bit v 2
        voteDue := if p.nsAwake != bit v 1 then some s.tick.executed else p.voteDue
        keyOffAt := if keyOff then some s.tb0 else p.keyOffAt
        expired := if keyOff then Vector.replicate 65 false else p.expired
        quietSince := if bit v 1 then s.tb0 else p.quietSince }) s
      if bit v 1 ∧ s.pwr.req.isNet ∧ s.pwr.mode = .run ∧ !s.cancelLate then cancelRest 0 true false s else s) s

/-- NS_CTRL_WRITE. -/
def doNsCtrlWrite (rq : Requester) (v : Word) (s : State) : State := nsCtrlWrite rq v s

/-! ### False wake -/

/-- Nothing keeps the module awake at this instant (R503). -/
def State.quiet (s : State) : Bool :=
  !(s.fab.port[0]).up && !(s.fab.port[1]).up && !s.pwr.nsAwake && s.key.tamper == 0 &&
    [4, 5].all (fun (k : Fin 6) => !(s.mbus.ch[k]).wake && !(s.mbus.ch[k]).decoded) && !s.pinHeld 0 && !s.pinHeld 1 &&
    s.acc.poll.isNone && (s.acc.rd[0]).sess.isNone && (s.acc.rd[1]).sess.isNone && s.pwr.req == .none

/-- The watch of R503, renewed at each sample mark, where the levels of the WAKE pins are read; frames on a trunk renew it
where they are accepted. The bellwether's COMMAND goes out in each tick. [log 91 DEDUCED] -/
def powerMark (pins : BitVec 2) (s : State) : State :=
  let s := modPwr (fun p => { p with pins := pins }) s
  sendCommand (if s.quiet then s else modPwr (fun p => { p with quietSince := s.tb0 }) s)

/-- FALSE_WAKE: a module that has woken returns to REST after FALSEWAKE quiet seconds (R503). -/
def doFalseWake (s : State) : State :=
  if s.pwr.woke ∧ s.pwr.mode = .run ∧ s.quiet ∧ s.tick.phase ≠ .off then
    let s := passTo 0 ((s.pwr.quietSince + s.pwr.falseWake * 1000000000) * 2 ^ 32) s
    let s := bump .pwr 0x060 16 1 (modPwr (fun p => { p with falseWakes := satInc p.falseWakes }) s)
    let s := logPwr 0xD00E 3 [(0, s.pwr.wakeCause.toNat)] s
    powerReq 1 none false true s
  else s

end Sys2Proof.Machine
end

