-- ==== Sys2Proof/Machine/RegsCtl.lean ====
section
/-! DEFINITION. The registers of the KEY, PWR, UPD and PERT blocks (Tables 18.9, 18.10, 19.10, 19.11, 20.11, 20.12,
21.4). -/

namespace Sys2Proof.Machine

/-! ### Held pairs -/

/-- The low word of a 64-bit register written in two parts by `may` (R20). -/
def regHeldLo (b : Block) (off : Nat) (may : Requester → Bool) (get : State → DWord) : RegDef :=
  regAt (fun s => (get s).setWidth 32) fun rq v s =>
    if may rq then holdWrite rq (b.base + off) v s else refuseWrite b rq (b.base + off) s

/-- The high word of such a register (R20); `off` is the offset of the low word. -/
def regHeldHi (b : Block) (off : Nat) (may : Requester → Bool) (get : State → DWord) (put : DWord → State → State) :
    RegDef :=
  regAt (fun s => (get s >>> 32).setWidth 32) fun rq v s =>
    if !may rq then refuseWrite b rq (b.base + off + 4) s
    else
      match heldWord rq (b.base + off) s with
      | some lo => put (join64 lo v) (dropHeld rq s)
      | none => reservedWrite rq (b.base + off + 4) s

/-- Keeper level alone. -/
def onlyKeeper (rq : Requester) : Bool := rq == .keeper

/-! ### KEY -/

/-- KEY_STATUS (Table 18.9). -/
def State.keyStatus (s : State) : Word :=
  pack [(0, b01 s.key.released), (1, b01 s.key.withheld), (2, b01 s.key.pendingFlag), (3, b01 s.debugOpen),
    (4, b01 s.key.provision), (5, b01 ((List.range 64).any fun k => s.slotStale k)), (6, b01 (s.key.tamper != 0)),
    (8, s.key.lcs)]

/-- A register of the mailbox: only those of R469 and R468 write it. -/
def regMail (get : State → Word) (put : Word → State → State) : RegDef :=
  regAt get fun rq v s => if s.keyWriter rq then put v s else setErr .key 1 s

/-- Word `i` of KEY_BUF: keeper level, and the service port in provisioning, read and write it. -/
def bufReg (i : Fin 256) : RegDef where
  read rq s := if s.keyWriter rq then (s.key.buf[i], s) else (0, setErr .key 1 s)
  write rq v s :=
    if s.keyWriter rq then modKey (fun b => { b with buf := b.buf.set i v }) s else setErr .key 1 s

/-- SLOT_STAT (Table 18.10). -/
def State.slotStat (s : State) (k : Nat) : Word :=
  let x := s.slot k
  let live := s.slotLive k
  pack [(0, b01 live), (1, if live then x.flag else 0), (6, min 3 x.marks), (8, b01 (decide (3 ≤ x.marks))),
    (9, b01 (live && inWithheld x.flag && s.key.withheld)), (10, b01 (s.slotStale k))]

/-- A slot's registers (Table 18.10). -/
def slotReg (k off at_ : Nat) : Option RegDef :=
  match off with
  | 0x00 => some (regRo .key at_ [(0, 6), (6, 5)] (·.slotStat k))
  | 0x04 => some (regRo .key at_ [(0, 32)] fun s => (s.slot k).seq)
  | 0x08 => some (regCount .key at_ [(0, 16)] (fun s => (s.slot k).uses.setWidth 32) fun v =>
      modSlot k fun x => { x with uses := loHalf v })
  | _ => none

/-- The bits of word `i` of KEY_PENDMAP that a write of 1 clears (R17). -/
def pendClear (i : Nat) (v : Word) (s : State) : State :=
  let c := s.clears .key (0x030 + 4 * i) v
  modKey (fun b => { b with pendmap := w1c b.pendmap (c.setWidth 82 <<< (32 * i)) }) s

/-- The 64 slots of KEY_PENDMAP. -/
def State.pendLow (s : State) : DWord := s.key.pendmap.setWidth 64

/-- The KEY block. -/
def keyReg (off : Nat) : Option RegDef :=
  match off with
  | 0x004 => some (regEmpty .key off)
  | 0x008 => some (regKeeper .key off [(0, 7), (8, 3)] (·.keyStatus) fun v s =>
      modKey (fun b => { b with pendingFlag := b.pendingFlag && !bit (s.clears .key off v) 2 }) s)
  | 0x020 => some (regAt (fun _ => 0) keyCmdReg)
  | 0x024 => some (regMail (·.key.arg) fun v => modKey fun b => { b with arg := v })
  | 0x028 => some (regRo .key off [(0, 2), (4, 3)] fun s => pack [(0, s.key.state.code), (4, s.key.code)])
  | 0x030 => some { regLo .key 0x030 (·.pendLow) with
      write := fun rq v s => wr .key rq.std 0 rq (Block.key.base + 0x030) v (pendClear 0 v) s }
  | 0x034 => some { regHi .key 0x030 (·.pendLow) with
      write := fun rq v s => wr .key rq.std 0 rq (Block.key.base + 0x034) v (pendClear 1 v) s }
  | 0x038 => some (regRw .key off [(0, 18)] (fun s => (s.key.pendmap >>> 64).setWidth 32) (pendClear 2))
  | 0x03C => some (regRo .key off [(0, 5)] (·.key.tamper.setWidth 32))
  | 0x040 => some (regLo .key 0x040 (·.key.tamptime))
  | 0x044 => some (regHi .key 0x040 (·.key.tamptime))
  | 0x048 => some (regLo .key 0x048 (·.key.nonce))
  | 0x04C => some (regHi .key 0x048 (·.key.nonce))
  | _ =>
    match window 0x080 4 8 off, window 0x0A0 4 16 off, window 0x4000 4 256 off, window 0x1000 0x40 64 off with
    | some (i, _), _, _, _ => some (regMail (fun _ => 0) fun v =>
        modKey fun b => { b with data := updNat b.data i fun _ => v })
    | _, some (i, _), _, _ => some (regMail (fun _ => 0) fun v =>
        modKey fun b => { b with sig := updNat b.sig i fun _ => v })
    | _, _, some (i, _), _ => if h : i < 256 then some (bufReg ⟨i, h⟩) else none
    | _, _, _, some (k, o) => slotReg k o off
    | _, _, _, _ => none

/-! ### PWR -/

/-- PWR_STATUS.PEND (Table 19.10). -/
def State.pwrPend (s : State) : Nat :=
  match s.pwr.req with
  | .none => 0
  | .rest .. => if s.pwr.mode = .entry then 2 else 1
  | .off .. => 3
  | .op _ => 4

/-- A core is IDLE: WAIT holds its clock stopped, which it is once the last operation in flight has completed (R46, R482). -/
def State.idle (s : State) (c : Fin 5) : Bool :=
  let x := s.core.cpu[c]
  x.run == .waiting && x.flight.all fun f =>
    c.val != 0 && decide (s.tick.startDrv.toNat * 2 ^ 32 + s.bundleAt_ (f.due + 1) ≤ s.time.tb[s.drvIdx].value.toNat)

/-- PWR_STATUS. -/
def State.pwrStatus (s : State) : Word :=
  let p := s.pwr
  pack [(0, s.pwrPend), (3, b01 p.refused), (4, b01 p.cancelled), (5, b01 p.degraded), (6, b01 p.vblLow), (7, b01 p.woke),
    (8, (bitmap ((List.finRange 5).map s.idle)).toNat)]

/-- NS_STATUS (Table 19.11). -/
def State.nsStatus (s : State) : Word :=
  let n := if s.bellwether then s.votesCounted else 0
  pack [(0, s.pwr.nsState), (2, b01 (s.bellwether && s.pwr.nsEnable)), (3, b01 (n != 0)), (4, n)]

/-- NS_CFG without a reserved encoding. -/
def nsCfgOk (v : Word) : Bool :=
  let m := field v 0 11
  let f := field v 16 6
  decide (1 ≤ m ∧ m ≤ 1440 ∧ 1 ≤ f ∧ f ≤ 60)

/-- NS_LEAD without a reserved encoding. -/
def nsLeadOk (v : Word) : Bool := decide (16 ≤ field v 0 11 ∧ field v 0 11 ≤ 1024)

/-- The PWR block. -/
def pwrReg (off : Nat) : Option RegDef :=
  match off with
  | 0x004 => some (regEmpty .pwr off)
  | 0x008 => some (regEmpty .pwr off)
  | 0x020 => some (regAt (fun _ => 0) reqWrite)
  | 0x024 => some (regRw .pwr off [(0, 13)] (·.pwrStatus) fun v s =>
      let c := s.clears .pwr off v
      modPwr (fun p => { p with refused := p.refused && !bit c 3, cancelled := p.cancelled && !bit c 4 }) s)
  | 0x028 => some (regHeldLo .pwr 0x028 (·.std) (·.pwr.at_))
  | 0x02C => some (regHeldHi .pwr 0x028 (·.std) (·.pwr.at_) fun v => modPwr fun p => { p with at_ := v })
  | 0x030 => some (regAt (fun s => pack [(0, s.pwr.opReq.val), (4, s.pwr.opCur.val), (8, s.cfg.minOp)]) opWrite)
  | 0x034 => some (regKeeper .pwr off [(0, 3), (4, 3), (8, 1)] (·.pwr.wakeCfg) fun v =>
      modPwr fun p => { p with wakeCfg := v })
  | 0x038 => some (regHeldLo .pwr 0x038 onlyKeeper (·.pwr.alarm))
  | 0x03C => some (regHeldHi .pwr 0x038 onlyKeeper (·.pwr.alarm) fun v => modPwr fun p => { p with alarm := v })
  | 0x040 => some (regRo .pwr off [(0, 11)] (·.pwr.wakeCause.setWidth 32))
  | 0x044 => some (regRo .pwr off [(0, 4), (8, 1)] fun s => pack [(0, s.pwr.aoCause), (8, b01 s.pwr.regRetry)])
  | 0x048 => some (regAt (fun s => pack [(0, b01 s.pwr.nsEnable), (1, b01 s.pwr.nsAwake), (2, b01 s.pwr.nsKeyOn)])
      nsCtrlWrite)
  | 0x04C => some (regCheck .pwr off onlyKeeper [(0, 11), (16, 6)] nsCfgOk
      (fun s => pack [(0, s.pwr.maxAwake), (16, s.pwr.falseWake)])
      fun v => modPwr fun p => { p with maxAwake := field v 0 11, falseWake := field v 16 6 })
  | 0x050 => some (regCheck .pwr off onlyKeeper [(0, 11)] nsLeadOk (fun s => BitVec.ofNat 32 s.pwr.lead)
      fun v => modPwr fun p => { p with lead := field v 0 11 })
  | 0x054 => some (regRo .pwr off [(0, 11)] (·.nsStatus))
  | 0x058 => some (regRo .pwr off [(0, 32)] (·.pwr.nsC))
  | 0x05C => some (regRo .pwr off [(0, 16)] (·.pwr.entryTime.setWidth 32))
  | 0x060 => some (regCount .pwr off [(0, 16), (16, 16)] (fun s => pair16 s.pwr.rests s.pwr.falseWakes) fun v =>
      modPwr fun p => { p with rests := loHalf v, falseWakes := hiHalf v })
  | _ => none

/-! ### UPD -/

/-- CONFLEFT: the ticks until f, 0 outside TRIAL (R522). -/
def State.confLeft (s : State) : Word :=
  if s.upd.state = .trial then BitVec.ofNat 32 (s.upd.fAt - s.tick.executed) else 0

/-- TPSTAT: two bits per tick core. -/
def State.tpStatWord (s : State) : Word :=
  pack ((List.range 4).map fun k => (2 * k, getNat s.upd.tpStat k 0 % 4))

/-- The UPD block. -/
def updReg (off : Nat) : Option RegDef :=
  match off with
  | 0x004 => some (regAt (fun s => pack [(8, b01 s.upd.rxen), (9, b01 s.upd.allowRst)]) updCtrlWrite)
  | 0x008 => some (regRo .upd off [(0, 3)] fun s =>
      pack [(0, b01 s.upd.restart), (1, b01 s.upd.migFail), (2, b01 s.upd.recovery)])
  | 0x020 => some (regRo .upd off [(0, 3), (8, 12)] fun s =>
      pack [(0, s.upd.state.code), (8, s.upd.reason), (16, s.upd.fbCause)])
  | 0x028 => some (regHeldLo .upd 0x028 onlyKeeper (·.upd.actAt))
  | 0x02C => some (regHeldHi .upd 0x028 onlyKeeper (·.upd.actAt) fun v => modUpd fun u => { u with actAt := v })
  | 0x030 => some (regRo .upd off [(0, 3), (8, 4)] fun s =>
      pack [(0, b01 s.upd.boot.act), (1, b01 s.upd.boot.trial), (2, b01 s.upd.boot.setgen),
        (8, min 15 s.upd.boot.tstarts)])
  | 0x034 => some (regRo .upd off [(0, 32)] (·.confLeft))
  | 0x038 => some (regRo .upd off [(0, 32)] (·.upd.boot.seq))
  | 0x03C => some (regRo .upd off [(0, 32)] (·.upd.rxBytes))
  | 0x040 => some (regRo .upd off [(0, 32)] (·.upd.rxTotal))
  | 0x044 => some (regRo .upd off [(0, 32)] (·.upd.serial))
  | 0x048 => some (regAt (fun s => pack [(0, s.upd.tpCore.val)]) tploadWrite)
  | 0x04C => some (regRo .upd off [(0, 8)] (·.tpStatWord))
  | 0x050 => some (regCount .upd off [(0, 16)] (·.upd.rxRef.setWidth 32) fun v =>
      modUpd fun u => { u with rxRef := loHalf v })
  | _ => none

/-! ### PERT -/

/-- A register of PERT with a parameter of kind `k`, 7 of none: permission, reserved bits and encodings, then the permission
of R530. -/
def regPert (off k : Nat) (fields : List (Nat × Nat)) (ok : Word → Bool) (get : State → Word)
    (put : Word → PertBlk → PertBlk) : RegDef :=
  regAt get fun rq v s => wrIf .pert (Block.pert.writer rq) (v &&& rsvd fields != 0 || !ok v) rq (pertAddr off)
    (pertWrite rq k (put v)) s

/-- The PERT block. -/
def pertReg (off : Nat) : Option RegDef :=
  match off with
  | 0x004 => some (regEmpty .pert off)
  | 0x008 => some (regRo .pert off [(0, 7), (8, 2)] fun s =>
      pack [(0, s.pert.live.toNat), (8, b01 s.pert.ticket), (9, b01 (s.key.lcs == 3 || s.key.lcs == 4))])
  | 0x020 => some (regAt (·.pert.enable.setWidth 32) doPertEnable)
  | 0x024 => some (regPert off 7 [(0, 7)] (fun _ => true) (·.pert.mask.setWidth 32)
      fun v p => { p with mask := v.setWidth 7 })
  | 0x028 => some (regPert off 0 [(0, 10), (12, 1)] (fun _ => true) (·.pert.tj) fun v p => { p with tj := v })
  | 0x02C => some (regPert off 1 [(0, 7), (8, 1)] (fun _ => true) (·.pert.hop)
      fun v p => { p with hop := v })
  | 0x030 => some (regPert off 2 [(0, 7), (16, 13)] (fun v => decide (1 ≤ field v 16 13))
      (·.pert.qfull) fun v p => { p with qfull := v })
  | 0x034 => some (regPert off 3 [(0, 2), (8, 8)] (fun _ => true) (·.pert.dwait) fun v p => { p with dwait := v })
  | 0x038 => some (regPert off 4 [(0, 3), (8, 13), (24, 8)] (fun v => decide (field v 0 3 < 6 ∧ field v 24 8 ≠ 0))
      (·.pert.busbit) fun v p => { p with busbit := v })
  | 0x03C => some (regPert off 5 [(0, 4), (16, 9)] (fun v => decide (field v 0 4 < 12)) (·.pert.adc)
      fun v p => { p with adc := v })
  | 0x040 => some (regPert off 6 [(2, 30)] (fun v => inBanks v.toNat) (·.pert.memaddr) fun v p => { p with memaddr := v })
  | 0x044 => some (regAt (fun s => s.pert.memctl &&& 0x13F#32) doPertMemctlGo)
  | 0x048 => some (regRo .pert off [(0, 10), (16, 10)] fun s =>
      pack [(0, s.pert.bistPass.toNat), (16, s.pert.bistFail.toNat)])
  | 0x04C => some (regCount .pert off [(0, 32)] (·.pert.hits) fun v => modPert fun p => { p with hits := v })
  | _ => none

end Sys2Proof.Machine
end

