-- ==== Sys2Proof/Machine/RegsLanes.lean ====
section
/-! DEFINITION. The registers of the LED, DIN and HURDLE blocks (Tables 6.10 to 6.18, 7.6 to 7.11, 8.12 to 8.17). -/

namespace Sys2Proof.Machine

/-! ### LED -/

/-- LED_STATUS (Table 6.10). -/
def State.ledStatus (s : State) : Word :=
  let strs := s.led.str.toList
  pack [(0, b01 s.led.shift), (1, s.led.nstr), (5, b01 (s.led.pos.toList.any fun h => h.open_ || h.short)),
    (6, b01 (strs.any (·.hot))), (7, b01 (strs.any (·.low))),
    (8, ((List.finRange 4).map fun l => b01 (s.led.chain[l]).busy * 2 ^ l.val).sum)]

/-- The lighting share of the estimate in mW (R191). -/
def State.ledMw (s : State) : Nat := (s.led.str.toList.map (·.mw)).sum + s.led.chainMw

/-- STR_STATUS.STATE. -/
def State.stringCode (s : State) (k : Fin 8) : Nat :=
  if !(s.cfg.str[k]).enable then 0 else if (s.led.str[k]).hot then 3 else if s.conducting k then 2 else 1

/-- The flags of a string's positions, one bit each. -/
def State.stringFlags (s : State) (k : Fin 8) (f : LampState → Bool) : Half :=
  (bitmap (((s.led.pos.toList.drop (16 * k.val)).take 16).map f)).setWidth 16

/-- A string's registers (Table 6.14). -/
def stringReg (k : Fin 8) (off at_ : Nat) : Option RegDef :=
  let h := fun (s : State) => s.led.str[k]
  let c := fun (s : State) => s.cfg.str[k]
  match off with
  | 0x00 => some (regAt (fun _ => 0) fun rq v s =>
      wr .led (hsCtrlAllowed rq) (rsvd [(0, 1)]) rq (Block.led.base + at_) v
        (fun s => if bit v 0 then doStringReenable rq k s else s) s)
  | 0x04 => some (regRo .led at_ [(0, 3)] fun s => pack [(0, s.stringCode k), (2, b01 (h s).low)])
  | 0x08 => some (regRo .led at_ [(0, 11)] fun s => BitVec.ofNat 32 (min 2047 (h s).current))
  | 0x0C => some (regRo .led at_ [(0, 32)] fun s => pair16 (h s).vn0 (h s).vn16)
  | 0x10 => some (regRo .led at_ [(0, 16)] fun s => (h s).temp.setWidth 32)
  | 0x14 => some (regRo .led at_ [(0, 1), (8, 7), (16, 16)] fun s =>
      pack [(0, b01 (c s).enable), (8, (c s).code), (16, (c s).posmask)])
  | 0x18 => some (regRo .led at_ [(0, 4), (16, 10)] fun s =>
      pack [(0, if s.cfg.shiftMode then s.cfg.rank k.val else 0), (16, s.cfg.offset k.val)])
  | 0x1C => some (regRo .led at_ [(0, 16)] fun s => BitVec.ofNat 32 (min 65535 (h s).mw))
  | 0x20 => some (regRo .led at_ [(0, 32)] fun s => pair16 (s.stringFlags k (·.open_)) (s.stringFlags k (·.short)))
  | _ => none

/-- A lamp position's registers (Table 6.15). -/
def posReg (k : Fin 128) (off at_ : Nat) : Option RegDef :=
  let h := fun (s : State) => s.led.pos[k]
  match off with
  | 0x00 => some (regRw .led at_ [(0, 1)] (fun _ => 0) fun v s => if bit v 0 then doPosClrcnt .keeper k s else s)
  | 0x04 => some (regRo .led at_ [(0, 7)] fun s =>
      pack [(0, b01 ((getNat s.cfg.str (k.val / 16) default).posmask.testBit (k.val % 16))), (1, b01 (h s).open_),
        (2, b01 (h s).short), (3, b01 (decide ((h s).step < (h s).steps))), (4, b01 (h s).held), (5, (h s).lastRes)])
  | 0x08 => some (regRo .led at_ [(0, 12), (16, 12)] fun s => pack [(0, (h s).disp), (16, lampLevel (h s).last)])
  | 0x0C => some (regRo .led at_ [(0, 16)] fun s => BitVec.ofNat 32 ((h s).steps - (h s).step))
  | 0x10 => some (regRo .led at_ [(0, 17)] fun s => BitVec.ofNat 32 (d16 (h s).disp))
  | 0x14 => some (regRo .led at_ [(0, 12)] fun s => BitVec.ofNat 32 (min 4095 (h s).vf))
  | 0x18 => some (regCount .led at_ [(0, 16)] (fun s => (h s).faults.setWidth 32) fun v =>
      modPos k fun h => { h with faults := loHalf v })
  | 0x1C => some (regRo .led at_ [(0, 32)] fun s => (h s).last)
  | _ => none

/-- A pattern engine's registers (Table 6.16). -/
def patternReg (e : Fin 4) (off at_ : Nat) : Option RegDef :=
  let p := fun (s : State) => s.led.pe[e]
  match off with
  | 0x00 => some (regAt (fun s => (p s).ctrl) fun rq v => doPeCtrlWrite rq e 0 v)
  | 0x04 => some (regAt (fun s => (p s).level) fun rq v => doPeCtrlWrite rq e 1 v)
  | 0x08 => some (regAt (fun s => (p s).time) fun rq v => doPeCtrlWrite rq e 2 v)
  | 0x0C => some (regRo .led at_ [(0, 32)] fun s =>
      pack [(0, (p s).t % field (p s).useTime 0 16), (16, (s.cfg.members_ e.val).length)])
  | _ => none

/-- A chain line's registers (Table 6.17). -/
def chainReg (l : Fin 4) (off at_ : Nat) : Option RegDef :=
  let h := fun (s : State) => s.led.chain[l]
  match off with
  | 0x00 => some (regRw .led at_ [(0, 1)] (fun _ => 0) fun v s => if bit v 0 then doChainSend .keeper l s else s)
  | 0x04 => some (regRange .led at_ [(0, 9)] (fun v => decide (field v 0 9 ≠ 0)) (fun s => BitVec.ofNat 32 (h s).len)
      fun v => modChain l fun h => { h with len := field v 0 9 })
  | 0x08 => some (regRw .led at_ [(0, 4)]
      (fun s => pack [(0, b01 (h s).busy), (1, b01 (h s).armed), (2, b01 (h s).clip), (3, b01 (h s).fault)])
      fun v s => modChain l (fun h => { h with clip := h.clip && !bit (s.clears .led at_ v) 2 }) s)
  | 0x0C => some (regRo .led at_ [(0, 9), (16, 4)] fun s =>
      pack [(0, (s.cfg.chain[l]).devices), (16, (s.cfg.chain[l]).span)])
  | 0x10 => some (regCount .led at_ [(0, 16)] (fun s => (h s).frames.setWidth 32) fun v =>
      modChain l fun h => { h with frames := loHalf v })
  | _ => none

/-- A word of a chain line's buffer (Table 6.18). -/
def chainBufReg (l : Fin 4) (off at_ : Nat) : Option RegDef :=
  if off < 0x300 then
    some (regRw .led at_ [(0, 32)] (fun s => getNat (s.led.chain[l]).buf (off / 4) 0) fun v =>
      modChain l fun h => { h with buf := updNat h.buf (off / 4) fun _ => v })
  else none

/-- The windows of the LED block. -/
def ledWindow (off : Nat) : Option RegDef :=
  match window 0x0400 0x100 8 off, window 0x0C00 0x20 4 off, window 0x0D00 0x20 4 off, window 0x1000 0x40 128 off,
      window 0x4000 0x400 4 off with
  | some (k, o), _, _, _, _ => if h : k < 8 then stringReg ⟨k, h⟩ o off else none
  | _, some (k, o), _, _, _ => if h : k < 4 then patternReg ⟨k, h⟩ o off else none
  | _, _, some (k, o), _, _ => if h : k < 4 then chainReg ⟨k, h⟩ o off else none
  | _, _, _, some (k, o), _ => if h : k < 128 then posReg ⟨k, h⟩ o off else none
  | _, _, _, _, some (k, o) => if h : k < 4 then chainBufReg ⟨k, h⟩ o off else none
  | _, _, _, _, _ => none

/-- The LED block. -/
def ledReg (off : Nat) : Option RegDef :=
  match off with
  | 0x004 => some (regEmpty .led off)
  | 0x008 => some (regRo .led off [(0, 12)] (·.ledStatus))
  | 0x020 => some (regRo .led off [(0, 16)] fun s => BitVec.ofNat 32 (min 65535 (Config.rounded s.ledMw 10)))
  | _ => ledWindow off

/-! ### DIN -/

/-- The snapshot of an input. -/
def State.snapOf (s : State) (k : Nat) : DiSnap := (getNat s.din.ch k default).snap

/-- The flags of a fold's inputs, one bit each. -/
def State.foldFlags (s : State) (f : Nat) (g : DiSnap → Bool) : Half :=
  (bitmap ((List.range 16).map fun j => g (s.snapOf (16 * f + j)))).setWidth 16

/-- A fold's registers (Table 7.10). -/
def diFoldReg (f : Nat) (off at_ : Nat) : Option RegDef :=
  match off with
  | 0x00 => some (regRo .din at_ [(0, 8)] fun s => BitVec.ofNat 32 (getNat s.cfg.diClass f 0))
  | 0x04 => some (regRo .din at_ [(0, 32)] fun s => pair16 (s.foldFlags f (·.state)) (s.foldFlags f (·.broken)))
  | 0x08 => some (regRo .din at_ [(0, 16)] fun s => (s.foldFlags f (·.raw)).setWidth 32)
  | _ => none

/-- An input's registers (Table 7.11). -/
def diChanReg (k : Fin 128) (off at_ : Nat) : Option RegDef :=
  let x := fun (s : State) => (s.din.ch[k]).snap
  match off with
  | 0x00 => some (regRw .din at_ [(0, 1)] (fun _ => 0) fun v s => if bit v 0 then doDinClrcnt .keeper k s else s)
  | 0x04 => some (regRo .din at_ [(0, 5)] fun s =>
      pack [(0, b01 (x s).state), (1, b01 (x s).raw), (2, b01 (x s).broken), (3, b01 (x s).edge), (4, b01 (x s).lastRise)])
  | 0x08 => some (regRo .din at_ [(0, 10), (16, 10)] fun s => pack [(0, (x s).c), (16, (x s).w)])
  | 0x0C => some (regRo .din at_ [(0, 12)] fun s => BitVec.ofNat 32 (min 4095 (x s).current))
  | 0x10 => some (regLo .din at_ fun s => (x s).stamp)
  | 0x14 => some (regHi .din (at_ - 4) fun s => (x s).stamp)
  | 0x18 => some (regRo .din at_ [(0, 16)] fun s => (x s).depart.setWidth 32)
  | 0x1C => some (regRo .din at_ [(0, 2), (16, 10)] fun s => pack [(0, (s.cfg.di[k]).fn), (16, (s.cfg.di[k]).limit)])
  | 0x20 => some ((regCount .din at_ [(0, 16)] (fun s => (s.din.ch[k]).count.setWidth 32) fun v s =>
      if (s.cfg.di[k]).fn = 0 then s else modDi k (fun d => { d with count := loHalf v }) s).ofUnit
        fun s => (s.cfg.di[k]).fn != 0)
  | _ => none

/-- The DIN block. -/
def dinReg (off : Nat) : Option RegDef :=
  let map := fun (i : Nat) (g : DiSnap → Bool) =>
    some (regRo .din off [(0, 32)] fun s => mapWord i fun k => g (s.snapOf k))
  match off with
  | 0x004 => some (regEmpty .din off)
  | 0x008 => some (regRo .din off [(0, 2)] fun s =>
      pack [(0, b01 (s.din.ch.toList.any fun d => d.snap.broken)), (1, b01 (decide (s.staleRun 3 ≠ 0)))])
  | _ =>
    if off < 0x020 then none
    else if off < 0x030 then map ((off - 0x020) / 4) (·.state)
    else if off < 0x040 then map ((off - 0x030) / 4) (·.broken)
    else if off < 0x050 then map ((off - 0x040) / 4) (·.edge)
    else if off < 0x060 then map ((off - 0x050) / 4) (·.raw)
    else match window 0x0400 0x100 8 off, window 0x1000 0x40 128 off with
      | some (f, o), _ => diFoldReg f o off
      | _, some (k, o) => if h : k < 128 then diChanReg ⟨k, h⟩ o off else none
      | _, _ => none

/-! ### HURDLE -/

/-- Rewrite the HURDLE block. -/
def modHurdle (f : HurdleBlk → HurdleBlk) (s : State) : State := { s with hurdle := f s.hurdle }

/-- The record that an output's registers show: its group leader's (R90). -/
def State.outView (s : State) (o : Nat) : OutState := s.out (if (s.outCfg o).isSome then s.leadOut o else o)

/-- HURDLE_STATUS (Table 8.12). -/
def State.hurdleStatus (s : State) : Word :=
  let any := fun (f : OutState → Bool) => s.hurdle.out.toList.any f
  pack [(0, b01 (any (·.clip.isSome))), (1, b01 (any (·.esc))), (2, b01 (any (·.shed))),
    (3, b01 s.hurdle.overbudget), (4, b01 s.hurdle.stale)]

/-- OUT_STATUS (Table 8.16). -/
def OutState.status (x : OutState) : Word :=
  let clip := x.clip.getD (0, 0)
  pack [(0, x.gov), (4, x.prio), (8, b01 x.clip.isSome), (9, clip.2), (12, b01 x.esc), (13, b01 x.shed),
    (14, b01 x.conflict), (16, clip.1)]

/-- OUT_CFG: the fields of the OUTPUTS record. -/
def State.outCfgWord (s : State) (o : Nat) : Word :=
  match s.outCfg o with
  | some r => pack [(0, r.rest), (16, outKind o), (18, r.sources.length)]
  | none => 0

/-- The slot number of an output as the commands carry it. -/
def slotOf (o : Nat) (h : o < 256) : Fin 448 := ⟨o, by omega⟩

/-- An output's registers (Table 8.16); those of an output without a record read 0 (R220). -/
def outReg (o : Nat) (ho : o < 256) (off at_ : Nat) : Option RegDef :=
  let x := fun (s : State) => if (s.outCfg o).isSome then s.outView o else { OutState.start with nOff := 0 }
  match off with
  | 0x00 => some (regAt (fun _ => 0) fun rq v => doOutCmd rq (slotOf o ho) v)
  | 0x04 => some (regAt (fun _ => 0) fun rq v => outCtrlWrite rq o v)
  | 0x08 => some (regRo .hurdle at_ [(0, 32)] fun s => (x s).commit)
  | 0x0C => some (regRo .hurdle at_ [(0, 15), (16, 9)] fun s => (x s).status)
  | 0x10 => some (regRo .hurdle at_ [(0, 16)] fun s => BitVec.ofNat 32 (x s).srcs)
  | 0x14 => some (regRo .hurdle at_ [(0, 24)] fun s => BitVec.ofNat 32 (x s).nOn)
  | 0x18 => some (regRo .hurdle at_ [(0, 24)] fun s => BitVec.ofNat 32 (x s).nOff)
  | 0x1C => some (regRo .hurdle at_ [(0, 17)] fun s =>
      if (x s).esc then pack [(0, (x s).escLeft), (16, b01 (x s).escUntil)] else 0)
  | 0x20 => some (regRo .hurdle at_ [(0, 22)] (·.outCfgWord o))
  | _ => none

/-- The bytes of a HURDLE record (Table 8.6). -/
def HurdleRec.bytes (r : HurdleRec) : List Byte :=
  [BitVec.ofNat 8 r.kind, BitVec.ofNat 8 (b01 r.esc)] ++ leBytes 2 r.out ++ leBytes 4 r.p1 ++ leBytes 4 r.p2 ++
    leBytes 2 r.escTime ++ [0, 0]

/-- A word of the record window (Table 8.17). -/
def recReg (i off at_ : Nat) : RegDef :=
  regRo .hurdle at_ [(0, 32)] fun s => match s.cfg.recs[i]? with
    | some r => wordOf r.bytes (off / 4)
    | none => 0

/-- The HURDLE block. The slots of the reserved output numbers are unassigned (R554). -/
def hurdleReg (off : Nat) : Option RegDef :=
  let map := fun (i : Nat) (g : OutState → Bool) =>
    some (regRo .hurdle off [(0, 32)] fun s => mapWord i fun o => g (s.outView o))
  match off with
  | 0x004 => some (regEmpty .hurdle off)
  | 0x008 => some (regRo .hurdle off [(0, 5)] (·.hurdleStatus))
  | 0x020 => some (regCount .hurdle off [(0, 16), (16, 16)] (fun s => pair16 s.hurdle.conflicts s.hurdle.ownErr) fun v =>
      modHurdle fun h => { h with conflicts := loHalf v, ownErr := hiHalf v })
  | 0x024 => some (regCount .hurdle off [(0, 16), (16, 16)] (fun s => pair16 s.hurdle.clipRuns s.hurdle.escs) fun v =>
      modHurdle fun h => { h with clipRuns := loHalf v, escs := hiHalf v })
  | 0x028 => some (regRo .hurdle off [(0, 32)] fun s => pack [(0, s.cfg.budget), (16, s.cfg.shedMin)])
  | 0x02C => some (regRo .hurdle off [(0, 10)] fun s => BitVec.ofNat 32 s.cfg.recs.length)
  | _ =>
    if off < 0x030 then none
    else if off < 0x03C then map ((off - 0x030) / 4) (·.shed)
    else if off < 0x040 then none
    else if off < 0x060 then map ((off - 0x040) / 4) (·.clip.isSome)
    else if off < 0x080 then map ((off - 0x060) / 4) (·.esc)
    else match window 0x1000 0x40 256 off, window 0x8000 0x10 512 off with
      | some (o, r), _ => if h : o < 256 then (if outNumber o then outReg o h r off else none) else none
      | _, some (i, r) => some (recReg i r off)
      | _, _ => none

end Sys2Proof.Machine
end

