-- ==== Sys2Proof/Machine/RegsSwitch.lean ====
section
/-! DEFINITION. The registers of the SYS, TICK, STRUCT, HSW and SOL blocks (Tables 23.3, 2.8 to 2.18, 3.22 to 3.26, 4.6 to
4.11, 5.8 to 5.12). -/

namespace Sys2Proof.Machine

/-! ### SYS -/

/-- A write of SYS_CTRL (R558): only keeper level and the service port; RESET with CONFIRM 0x5A, or 0 throughout. -/
def sysCtrlWrite (rq : Requester) (v : Word) (s : State) : State :=
  if (rq = .keeper ∨ rq = .service) ∧ v = 0x5A01 then { s with sys := { s.sys with resetPending := true } }
  else if (rq = .keeper ∨ rq = .service) ∧ v = 0 then s
  else reservedWrite rq 0x20000004 s

/-- SYS_RESET: a write of SYS_CTRL. -/
def doSysReset (rq : Requester) (v : Word) (s : State) : State := sysCtrlWrite rq v s

/-- The SYS block. -/
def sysReg (off : Nat) : Option RegDef :=
  match off with
  | 0x004 => some (regAt (fun _ => 0) sysCtrlWrite)
  | 0x008 => some (regEmpty .sys off)
  | 0x020 => some (regRo .sys off [(0, 5)] (·.sys.cause))
  | 0x024 => some (regRw .sys off [(0, 4)] (·.sys.errstat) fun v s =>
      let c := s.clears .sys 0x024 v &&& 7
      modNote .sys (fun n => { n with wrote := (0x024, c) :: n.wrote })
        { s with sys := { s.sys with errstat := w1c s.sys.errstat c } })
  | 0x028 => some (regRo .sys off [(0, 32)] (·.sys.errAddr))
  | 0x02C => some (regRo .sys off [(0, 4)] (·.sys.errSrc))
  | _ => none

/-! ### TICK -/

/-- The nanoseconds since the tick began, on the base that times it (R36, R38). -/
def State.inTick (s : State) : Nat :=
  if s.jumping then s.tb0 - s.tick.startTb0.toNat else s.now.toNat - s.tick.startDrv.toNat

/-- TICK_PHASE.PHASE. -/
def Phase.code : Phase → Nat
  | .off => 0 | .begun => 0 | .engine => 0 | .core => 1 | .envelope => 2 | .measure => 3 | .guard => 4

/-- TICK_PHASE: the position in sixty-fourths of T and the phase (Table 2.12). -/
def State.phaseWord (s : State) : Word :=
  pack [(0, if s.tick.phase = .off then 0 else min 63 (s.inTick * 64 / s.T)), (8, s.tick.phase.code)]

/-- TICK_HOLDSTAT of the selected output; 0 when it has no record (R58). -/
def State.holdStat (s : State) : Word :=
  let o := s.tick.holdSel.toNat
  match s.outCfg o with
  | none => 0
  | some r =>
    let x := s.out o
    pack [(0, x.c), (11, x.hold.code), (16, x.gov), (20, b01 (decide (1 ≤ r.subst ∧ r.subst ≤ 4))), (21, r.hold)]

/-- Rewrite the TICK block. -/
def modTick (f : TickBlk → TickBlk) (s : State) : State := { s with tick := f s.tick }

/-- The TICK block. -/
def tickReg (off : Nat) : Option RegDef :=
  match off with
  | 0x004 => some (regEmpty .tick off)
  | 0x008 => some (regEmpty .tick off)
  | 0x018 => some (regRo .tick off [(0, 2), (8, 6)] fun s => pack [(0, s.cfg.period), (8, s.cfg.commit)])
  | 0x01C => some (regRo .tick off [(0, 2)] fun s =>
      pack [(0, b01 s.tick.src), (1, b01 (s.tick.phase != .off && s.jumping))])
  | 0x020 => some (regLo .tick 0x020 (·.tick.count))
  | 0x024 => some (regHi .tick 0x020 (·.tick.count))
  | 0x028 => some (regRo .tick off [(0, 6), (8, 3)] (·.phaseWord))
  | 0x02C => some (regCount .tick off [(0, 16)] (·.tick.stretch.setWidth 32) fun v =>
      modTick fun t => { t with stretch := loHalf v })
  | 0x030 => some (regCount .tick off [(0, 8), (8, 8), (16, 8), (24, 8)]
      (fun s => BitVec.ofNat 32 (ofLe s.tick.overrun.toList)) fun v =>
      modTick fun t => { t with overrun := Vector.ofFn fun k => BitVec.ofNat 8 (field v (8 * k.val) 8) })
  | 0x034 => some (regRo .tick off [(0, 8)] fun s =>
      pack ((List.finRange 4).map fun k => (2 * k.val, (s.tick.tc[k]).code)))
  | 0x038 => some (regRo .tick off [(0, 12), (16, 12)] fun s => pack [(0, s.tick.held), (16, s.tick.resting)])
  | 0x040 => some (regRange .tick off [(0, 10)] (fun v => outNumber (field v 0 10)) (·.tick.holdSel.setWidth 32) fun v =>
      modTick fun t => { t with holdSel := v.setWidth 10 })
  | 0x044 => some (regRo .tick off [(0, 13), (16, 16)] (·.holdStat))
  | _ => none

/-! ### STRUCT -/

/-- The digest of the image in force. -/
def State.digestInForce (s : State) : List Byte := if s.strct.inForce then s.cfg.digest else []

/-- The digest of the shadow, while it is READY or SCHEDULED (Table 3.26). -/
def State.shadowDigest (s : State) : List Byte :=
  match s.strct.shImage with
  | some g => if s.strct.shadow = .ready ∨ s.strct.shadow = .scheduled then g.digest else []
  | none => []

/-- A write of SWAPAT_LO is held (R20, R76). -/
def swapatLoWrite (rq : Requester) (v : Word) (s : State) : State :=
  if rq = .keeper then holdWrite rq 0x20020028 v s else setErr .strct 1 s

/-- The STRUCT block. -/
def strctReg (off : Nat) : Option RegDef :=
  match off with
  | 0x004 => some (regEmpty .strct off)
  | 0x008 => some (regRo .strct off [(0, 4), (8, 8)] fun s =>
      pack [(0, s.strct.shadow.code), (3, b01 s.strct.active), (8, s.strct.reason)])
  | 0x020 => some (regAt (fun s => pack [(0, b01 s.strct.slot)]) structLoadWrite)
  | 0x028 => some (regAt (·.strct.swapAt.setWidth 32) swapatLoWrite)
  | 0x02C => some (regAt (fun s => (s.strct.swapAt >>> 32).setWidth 32) doSwapatArm)
  | 0x030 => some (regRo .strct off [(0, 32)] fun s => if s.strct.inForce then s.cfg.serial else 0)
  | 0x034 => some (regRo .strct off [(0, 16)] (·.strct.gen.setWidth 32))
  | _ =>
    if 0x040 ≤ off ∧ off < 0x060 then some (regRo .strct off [(0, 32)] fun s => wordOf s.digestInForce ((off - 0x040) / 4))
    else if 0x060 ≤ off ∧ off < 0x080 then
      some (regRo .strct off [(0, 32)] fun s => wordOf s.shadowDigest ((off - 0x060) / 4))
    else none

/-! ### HSW -/

/-- The channel is latched. -/
def HsState.latched (h : HsState) : Bool := h.prot == .latchOc || h.prot == .latchTh

/-- The filtered state of a channel used as an input, 0 for others. -/
def State.hsIn (s : State) (k : Nat) : Bool :=
  (getNat s.cfg.hs k default).fn == 4 && (getNat s.hsw.inp k default).snap.state

/-- HSW_STATUS. -/
def State.hswStatus (s : State) : Word :=
  let any := fun (f : HsState → Bool) => s.hsw.ch.toList.any f
  pack [(0, b01 (any (·.latched))), (1, b01 (any (·.prot == .pause))), (2, b01 (any (·.open_))),
    (3, b01 (s.hsw.fold.toList.any (·.uv))), (4, b01 (s.hsw.fold.toList.any (·.ovr)))]

/-- A fold's registers (Table 4.10). -/
def hsFoldReg (f : Nat) (off at_ : Nat) : Option RegDef :=
  let x := fun (s : State) => getNat s.hsw.fold f default
  let chans := fun (s : State) => (s.hsw.ch.toList.drop (8 * f)).take 8
  match off with
  | 0x00 => some (regRo .hsw at_ [(0, 16)] fun s => (x s).vf.setWidth 32)
  | 0x04 => some (regRo .hsw at_ [(0, 20)] fun s => (x s).isum.setWidth 32)
  | 0x08 => some (regRo .hsw at_ [(0, 16)] fun s => (x s).temp.setWidth 32)
  | 0x0C => some (regRo .hsw at_ [(0, 4)] fun s =>
      pack [(0, b01 (x s).uv), (1, b01 (x s).ovr), (2, b01 ((chans s).any (·.prot == .inrush))),
        (3, b01 ((chans s).any (·.dist)))])
  | 0x10 => some (regRo .hsw at_ [(0, 8)] fun _ => BitVec.ofNat 32 (foldRating f))
  | _ => none

/-- CH_STATUS of a channel (Table 4.11). -/
def State.hsStatus (s : State) (k : Fin 96) : Word :=
  let h := s.hsw.ch[k]
  pack [(0, h.prot.code), (3, h.r), (7, b01 h.gate), (8, b01 h.cmd), (9, b01 h.open_), (10, b01 h.rb),
    (11, b01 (s.hsIn k.val)), (12, b01 h.fwmiss), (13, b01 h.extv), (14, b01 h.dist), (15, b01 h.comp), (16, b01 h.sat)]

/-- CH_GSUM: the sum of a group's currents, for the channel that leads it. -/
def State.groupSum (s : State) (k : Fin 96) : Word :=
  if s.cfg.hs[k].fn = 2 ∧ s.cfg.leader k = k then
    BitVec.ofNat 32 (BitVec.ofInt 20 ((s.cfg.members k).map fun j => (s.hsw.ch[j]).current.toInt).sum).toNat
  else 0

/-- A write of CH_CTRL: REENABLE and CLRCNT (R107, R108, Table 4.11). -/
def hsCtrlWrite (k : Fin 96) (rq : Requester) (v : Word) (s : State) : State :=
  wr .hsw (hsCtrlAllowed rq) (rsvd [(0, 2)]) rq (0x20031000 + k.val * 0x40) v
    (fun s =>
      let s := if bit v 0 then doReenable rq k s else s
      if bit v 1 then doHswClrcnt rq k s else s) s

/-- A channel's registers (Table 4.11). -/
def hsChanReg (k : Fin 96) (off at_ : Nat) : Option RegDef :=
  let h := fun (s : State) => s.hsw.ch[k]
  let c := fun (s : State) => s.cfg.hs[k]
  match off with
  | 0x00 => some (regAt (fun _ => 0) (hsCtrlWrite k))
  | 0x04 => some (regRw .hsw at_ [(0, 17)] (·.hsStatus k) fun v =>
      fun s => modHs k (fun h => { h with fwmiss := h.fwmiss && !bit (s.clears .hsw at_ v) 12 }) s)
  | 0x08 => some (regRo .hsw at_ [(0, 16)] fun s => (h s).current.setWidth 32)
  | 0x0C => some (regRo .hsw at_ [(0, 20)] (·.groupSum k))
  | 0x10 => some (regRo .hsw at_ [(0, 16)] fun s => (h s).temp.setWidth 32)
  | 0x14 => some (regRo .hsw at_ [(0, 32)] fun s => pack [(0, (c s).octh), (16, (c s).inth)])
  | 0x18 => some (regRo .hsw at_ [(0, 15), (16, 6), (24, 6)] fun s =>
      pack [(0, (c s).ocflt), (8, (c s).intime), (16, (c s).n), (20, b01 (c s).olOn), (21, b01 (c s).olOff),
        (24, (c s).group)])
  | 0x1C => some (regRo .hsw at_ [(0, 3), (8, 7)] fun s => pack [(0, (c s).fn), (8, (s.cfg.leader k).val)])
  | 0x20 => some (regCount .hsw at_ [(0, 16)] (fun s => (h s).trips.setWidth 32) fun v =>
      modHs k fun h => { h with trips := loHalf v })
  | 0x24 => some (regRo .hsw at_ [(0, 16)] fun _ => (Config.ron25 k).setWidth 32)
  | 0x28 => some (regRo .hsw at_ [(0, 16)] fun s => BitVec.ofNat 32 (min 65535 (h s).pdiss))
  | 0x2C => some (regRo .hsw at_ [(0, 3)] fun s => BitVec.ofNat 32 (h s).lastTrip)
  | _ => none

/-- The bitmaps of the HSW block (Table 4.9): word `i` of one flag. -/
def hswMap (off at_ : Nat) (f : State → Nat → Bool) : Option RegDef :=
  if off < 12 then some (regRo .hsw at_ [(0, 32)] fun s => mapWord (off / 4) (f s)) else none

/-- The HSW block. -/
def hswReg (off : Nat) : Option RegDef :=
  let chan := fun (s : State) (k : Nat) => getNat s.hsw.ch k default
  match off with
  | 0x004 => some (regEmpty .hsw off)
  | 0x008 => some (regRo .hsw off [(0, 5)] (·.hswStatus))
  | 0x020 => some (regRo .hsw off [(0, 32)] fun s => pair16 s.hsw.est s.hsw.limit)
  | 0x024 => some (regRo .hsw off [(0, 16)] (·.hsw.tbase.setWidth 32))
  | _ =>
    if off < 0x030 then none
    else if off < 0x040 then hswMap (off - 0x030) off fun s k => (chan s k).latched
    else if off < 0x050 then hswMap (off - 0x040) off fun s k => (chan s k).rb
    else if off < 0x060 then hswMap (off - 0x050) off fun s k => (chan s k).open_
    else if off < 0x070 then hswMap (off - 0x060) off fun s k => s.hsIn k
    else match window 0x0400 0x100 12 off with
      | some (f, o) => hsFoldReg f o off
      | none => match window 0x1000 0x40 96 off with
        | some (k, o) => if h : k < 96 then hsChanReg ⟨k, h⟩ o off else none
        | none => none

/-! ### SOL -/

/-- CH_STATUS.STATE of a driver: idle, waiting for its start, peak, hold or minimum off-time. -/
def SolState.stateCode (c : SolState) : Nat :=
  match c.phase with
  | .idle => if c.queued.isSome then 1 else 0
  | .peak => 2
  | .hold => 3
  | .minoff => 4

/-- CH_STATUS of a driver (Table 5.12). -/
def SolState.status (c : SolState) : Word :=
  pack [(0, c.stateCode), (3, c.profile), (8, b01 c.queued.isSome), (9, b01 c.moved), (10, b01 c.noMove),
    (11, b01 c.coilOpen), (12, b01 c.feedLost), (13, b01 c.drvShort)]

/-- SOL_STATUS (Table 5.8). -/
def State.solStatus (s : State) : Word :=
  let any := fun (f : SolState → Bool) => s.sol.ch.toList.any f
  pack [(0, b01 (any (·.active))), (1, b01 (any (·.queued.isSome))),
    (2, b01 (any fun c => c.coilOpen || c.feedLost || c.drvShort))]

/-- A driver's registers (Table 5.12). -/
def solChanReg (k : Fin 16) (off at_ : Nat) : Option RegDef :=
  let c := fun (s : State) => s.sol.ch[k]
  let g := fun (s : State) => s.cfg.sol[k]
  match off with
  | 0x00 => some (regRw .sol at_ [(0, 1)] (fun _ => 0) fun v s => if bit v 0 then doSolClrcnt .keeper k s else s)
  | 0x04 => some (regRw .sol at_ [(0, 14)] (fun s => (c s).status) fun v =>
      fun s =>
        let w := s.clears .sol at_ v
        modSol k (fun c => { c with
          coilOpen := c.coilOpen && !bit w 11, feedLost := c.feedLost && !bit w 12, drvShort := c.drvShort && !bit w 13 }) s)
  | 0x08 => some (regRo .sol at_ [(0, 16)] fun s => (c s).current.setWidth 32)
  | 0x0C => some (regRo .sol at_ [(0, 16)] fun s => (c s).imax.setWidth 32)
  | 0x10 => some (regLo .sol at_ fun s => (c s).start)
  | 0x14 => some (regHi .sol (at_ - 4) fun s => (c s).start)
  | 0x18 => some (regRo .sol at_ [(0, 32)] fun s => pair16 (c s).tmax (c s).tmin)
  | 0x1C => some (regRo .sol at_ [(0, 32)] fun s => pack [(0, (g s).feed), (8, (g s).chop), (16, (g s).minoff)])
  | 0x20 => some (regCount .sol at_ [(0, 16), (16, 16)] (fun s => pair16 (c s).events (c s).drops) fun v =>
      modSol k fun c => { c with events := loHalf v, drops := hiHalf v })
  | 0x24 => some (regRo .sol at_ [(0, 32)] fun s => (c s).applied)
  | _ => none

/-- The SOL block. -/
def solReg (off : Nat) : Option RegDef :=
  match off with
  | 0x004 => some (regEmpty .sol off)
  | 0x008 => some (regRo .sol off [(0, 3)] (·.solStatus))
  | 0x020 => some (regRo .sol off [(0, 16)] fun s => BitVec.ofNat 32 (min 65535 (Config.rounded s.sol.mw 10)))
  | 0x024 => some (regRo .sol off [(0, 6)] fun s => BitVec.ofNat 32 s.cfg.profiles.length)
  | _ =>
    match window 0x1000 0x40 16 off with
    | some (k, o) => if h : k < 16 then solChanReg ⟨k, h⟩ o off else none
    | none => none

end Sys2Proof.Machine
end

