-- ==== Sys2Proof/Machine/MemoryEngine.lean ====
section
/-! DEFINITION. The MRAM write engine (R315, R316). -/

namespace Sys2Proof.Machine

/-- Two spans, each given by its start and its end, share a byte. -/
def meets (a b c d : Nat) : Bool := decide (a < d ∧ c < b)

/-- The span meets a firmware slot. -/
def meetsFw (a b : Nat) (pair : Bool) : Bool := meets a b (fwSlot pair) (fwSlot pair + 0x300000)

/-- The span meets a structure slot. -/
def meetsSt (a b : Nat) (pair : Bool) : Bool := meets a b (stSlot pair) (stSlot pair + 0x80000)

/-- The structure slot in force: that of the image in force, before the first swap that of the active pair. -/
def State.structSlot (s : State) : Bool := if s.strct.inForce then s.strct.active else s.upd.boot.act

/-- The span reaches what the write engine may not write now (R315, R509). In ROM recovery no slot is in force (R513). -/
def State.mwBarred (s : State) (a b : Nat) : Bool :=
  let trial := s.upd.state == .trial
  let slots := !s.upd.recovery &&
    (meetsFw a b s.upd.boot.act || meetsSt a b s.structSlot ||
      (trial && (meetsFw a b (!s.upd.boot.act) || meetsSt a b (!s.structSlot))))
  let gen := 0x800000 + 0x80000 * b01 s.upd.boot.setgen
  slots || (trial && meets a b gen (gen + 0x80000))

/-- The span lies in the regions of the write engine (Table 11.6). -/
def mwRange (dst len : Nat) : Bool := decide (dst % 8 = 0 ∧ 0x100000 ≤ dst ∧ dst + 8 * len ≤ 0x900000)

/-- GO (R315): from keeper level, and in ROM recovery from the service port (R513), while no write runs.
[log 62 DEDUCED] -/
def mwStart (rq : Requester) (s : State) : State :=
  let m := s.mem
  let ok := rq == .keeper || (s.upd.recovery && rq == .service)
  if !ok || m.mw == .busy then setErr .mem 1 s
  else if !mwRange m.mwDst m.mwLen || s.mwBarred m.mwDst (m.mwDst + 8 * m.mwLen) then setErr .mem 3 s
  else modMem (fun m => { m with
      mw := .busy, mwWords := 0, mwJob := (m.mwDst, m.mwSrc, m.mwLen), mwSince := s.tb0 }) s

/-- A write of MEM_MW_CTRL. -/
def mwCtrlWrite (rq : Requester) (v : Word) (s : State) : State :=
  if bit v 0 ∧ (rq ≠ .keeper ∧ !s.upd.recovery) then
    setErr .mem 1 (if 2 ≤ v.toNat then reservedWrite rq 0x2010004C s else s)
  else wr .mem rq.std 0xFFFFFFFE#32 rq 0x2010004C v (fun s => if bit v 0 then mwStart rq s else s) s

/-- MW_GO. -/
def doMwGo (rq : Requester) (s : State) : State := mwCtrlWrite rq 1 s

/-- The engines that move memory word by word, window bursts and the MRAM write, have moved what is due by now. -/
def enginesNow (s : State) : State := mwNow (burstsNow s)

/-- MW_DONE: the last word is written (R315); every word had to be owned when it was read (R316). -/
def doMwDone (s : State) : State :=
  if s.mem.mw = .busy then
    let n := s.mem.mwJob.2.2
    let s := mwTo n (enginesNow (passTo 0 ((s.mem.mwSince + 200 * n) * 2 ^ 32) s))
    if s.mem.mw = .busy then setIrq .mem 6 (modMem (fun m => { m with mw := .done }) s) else s
  else s

/-- MW_FAIL: behind `words` words the engine finds a word not owned by ID 0, which stops it by itself, or a second read-back
mismatch (R316). The word whose read-back differed holds a free value. [log 62 DEDUCED] -/
def doMwFail (words : Nat) (readback : Bool) (s : State) : State :=
  if s.mem.mw = .busy then
    let n := min words (s.mem.mwJob.2.2 - 1)
    let s := mwTo n (enginesNow (passTo 0 ((s.mem.mwSince + 200 * n) * 2 ^ 32) s))
    let own := (s.mwKey (s.mem.mwJob.2.1 + 8 * s.mem.mwWords)).isSome
    if s.mem.mw ≠ .busy then s
    else if !own then mwWord s
    else if readback then
      let at_ := s.mem.mwJob.1 + 8 * s.mem.mwWords
      let s := tickFree (mramPut at_ (leBytes 8 s.freeVal.toNat) s)
      setIrq .mem 7 (logEv 0x0409 5 0x61000000 (pack64 [(0, at_), (24, 1)]) (modMem (fun m => { m with mw := .failed }) s))
    else s
  else s

/-- A write of a bank's owner register, judged after the words that engines moved before it (R302). -/
def bankOwnerWrite (rq : Requester) (b : Fin 18) (v : Word) (s : State) : State := doBankOwnerWrite rq b v (enginesNow s)

end Sys2Proof.Machine
end

