-- ==== Sys2Proof/Machine/RegsTime.lean ====
section
/-! DEFINITION. The registers of the TIME, TALLY, MEM and QUE blocks (Tables 13.9 to 13.11, 11.8 to 11.12, 12.5 and
12.6). -/

namespace Sys2Proof.Machine

/-! ### TIME -/

/-- A word of a captured base: register `i` of CAP0 to CAP3 (Table 13.9). -/
def State.capWord (s : State) (i : Nat) : Word :=
  let v := getNat s.time.cap (i / 2) 0
  if i % 2 = 0 then v.setWidth 32 else (v >>> 32).setWidth 32

/-- TB_STATUS of a base. -/
def State.tbStatus (s : State) (n : Fin 4) : Word :=
  let b := s.time.tb[n]
  pack [(0, b01 (!b.oos)), (1, b01 b.stepOk), (2, b01 b.slew), (4, s.tbCtl n)]

/-- The words of a base that a read of TB_NOW_LO latches: the nanoseconds and the fraction of one sample (Table 13.10). -/
def TimeBase.words (b : TimeBase) : List Word := [b.ns.setWidth 32, (b.ns >>> 32).setWidth 32, b.frac]

/-- A write of TB_CTRL: OOS, then ARM (R342 to R344). TB0 has neither (R338). -/
def tbCtrlWrite (n : Fin 4) (rq : Requester) (v : Word) (s : State) : State :=
  wrIf .time (n != 0 && rq == .keeper) (decide (4 ≤ v.toNat)) rq (tbAddr n.val 0x00)
    (fun s =>
      let s := doTbOos rq n (bit v 0) s
      if bit v 1 then doTbArm rq n s else s) s

/-- A write of TB_STEP_LO is held for the controller of the base (R20, R340, R344). -/
def tbStepLoWrite (n : Fin 4) (rq : Requester) (v : Word) (s : State) : State :=
  if s.tbWriter rq n then holdWrite rq (tbAddr n.val 0x18) v s else setErr .time 1 s

/-- A base's registers (Table 13.10). -/
def tbReg (n : Fin 4) (off at_ : Nat) : Option RegDef :=
  let b := fun (s : State) => s.time.tb[n]
  let now := tbAddr n.val 0x08
  match off with
  | 0x00 => some (regAt (fun s => pack [(0, b01 (b s).oos)]) (tbCtrlWrite n))
  | 0x04 => some (regRo .time at_ [(0, 3), (4, 2)] (·.tbStatus n))
  | 0x08 => some ⟨fun rq s => ((b s).ns.setWidth 32, latchRead rq now (b s).words s),
      fun rq v s => wr .time rq.isShepherd 0 rq now v id s⟩
  | 0x0C => some ⟨fun rq s => (latchedWord rq now 1 ((b s).ns >>> 32 |>.setWidth 32) s, s),
      fun rq v s => wr .time rq.isShepherd 0 rq (now + 4) v id s⟩
  | 0x10 => some ⟨fun rq s => (latchedWord rq now 2 (b s).frac s, s),
      fun rq v s => wr .time rq.isShepherd 0 rq (now + 8) v id s⟩
  | 0x14 => some (regAt (fun s => (b s).rate) fun rq v => doTbRateWrite rq n v)
  | 0x18 => some (regAt (fun s => (b s).stepReg.setWidth 32) (tbStepLoWrite n))
  | 0x1C => some (regAt (fun s => ((b s).stepReg >>> 32).setWidth 32) fun rq v => doTbStep rq n v)
  | _ => none

/-- The TIME block. -/
def timeReg (off : Nat) : Option RegDef :=
  match off with
  | 0x004 => some (regEmpty .time off)
  | 0x008 => some (regRo .time off [(0, 5)] fun s =>
      pack ((0, b01 s.pwr.degraded) :: (List.finRange 4).map fun n => (1 + n.val, b01 (s.time.tb[n]).oos)))
  | 0x020 => some (regRw .time off [(0, 1)] (fun _ => 0) fun v s => if bit v 0 then doTimeCapture .keeper s else s)
  | _ =>
    if 0x040 ≤ off ∧ off < 0x060 then some (regRo .time off [(0, 32)] fun s => s.capWord ((off - 0x040) / 4))
    else match window 0x1000 0x40 4 off with
      | some (n, o) => if h : n < 4 then tbReg ⟨n, h⟩ o off else none
      | none => none

/-! ### TALLY -/

/-- An archive run starts when the unarchived entries reach THRESH (R351). -/
def threshReached (s : State) : State :=
  if s.tally.thresh.toNat ≤ s.tally.unarch then modTally (fun t => { t with archiving := true }) s else s

/-- A register of the words of the selected journal entry: word `j` (R350). -/
def entryReg (j : Nat) : RegDef where
  read rq s :=
    if j = 0 then
      let t := doTallyEntryRead rq s
      (t.rdata[rq.slot], t)
    else (latchedWord rq 0x20090040 j (s.entryWords.getD j 0) s, s)
  write rq v s := wr .tally rq.std 0 rq (0x20090040 + 4 * j) v id s

/-- The TALLY block. -/
def tallyReg (off : Nat) : Option RegDef :=
  match off with
  | 0x004 => some (regKeeper .tally off [(0, 1)] (fun _ => 0) fun v s => if bit v 0 then doTallyFlush .keeper s else s)
  | 0x008 => some (regRo .tally off [(0, 2)] fun s =>
      pack [(0, b01 s.tally.archiving), (1, b01 (s.tally.lost != 0))])
  | 0x020 => some (regCheck .tally off (· == .keeper) [(0, 13), (16, 3)] (fun v => decide (field v 0 13 ≠ 0))
      (fun s => pack [(0, s.tally.thresh.toNat), (16, s.tally.irqSev.toNat)]) fun v s =>
      threshReached (modTally (fun t => { t with
        thresh := BitVec.ofNat 13 (field v 0 13), irqSev := BitVec.ofNat 3 (field v 16 3) }) s))
  | 0x024 => some (regRo .tally off [(0, 32)] (·.tally.seq))
  | 0x028 => some (regRo .tally off [(0, 14), (16, 14)] fun s =>
      pack [(0, s.tally.journal.length), (16, s.tally.unarch)])
  | 0x02C => some (regCount .tally off [(0, 32)] (·.tally.lost) fun v => modTally fun t => { t with lost := v })
  | 0x030 => some (regRo .tally off [(0, 17)] (·.tally.archSlot.setWidth 32))
  | 0x034 => some (regRo .tally off [(0, 16)] fun s => s.tally.boot &&& 0xFFFF)
  | 0x038 => some (regRw .tally off [(0, 13)] (·.tally.rdptr.setWidth 32) fun v =>
      modTally fun t => { t with rdptr := v.setWidth 13 })
  | 0x060 => some (regRange .tally off [(0, 16), (16, 3), (20, 2)] (fun v => decide (field v 0 16 ≠ 0))
      (fun s => pack [(0, s.tally.fwCode.toNat), (16, s.tally.fwSev.toNat), (20, s.tally.fwBase.toNat)]) fun v =>
      modTally fun t => { t with
        fwCode := loHalf v, fwSev := BitVec.ofNat 3 (field v 16 3), fwBase := BitVec.ofNat 2 (field v 20 2) })
  | 0x064 => some (regRange .tally off [(0, 32)] locValid (·.tally.fwLoc) fun v => modTally fun t => { t with fwLoc := v })
  | 0x068 => some (regRw .tally off [(0, 32)] (·.tally.fwPayLo) fun v => modTally fun t => { t with fwPayLo := v })
  | 0x06C => some (regRw .tally off [(0, 32)] (·.tally.fwPayHi) fun v => modTally fun t => { t with fwPayHi := v })
  | 0x070 => some (regAt (fun _ => 0) fun rq v s =>
      wr .tally rq.std (rsvd [(0, 1)]) rq (Block.tally.base + off) v
        (fun s => if bit v 0 then doTallyFwGo rq s else s) s)
  | _ => if 0x040 ≤ off ∧ off < 0x060 then some (entryReg ((off - 0x040) / 4)) else none

/-! ### MEM -/

/-- A marked word lies in the bank. -/
def State.bankMarked (s : State) (b : Nat) : Bool := s.mem.marked.any fun k => inBanks k && bankOf k == b

/-- A bank's registers (Table 11.12). The dual-port banks have no owner register and no spares (R14, R554). -/
def bankReg (b : Fin 18) (off at_ : Nat) : Option RegDef :=
  let x := fun (s : State) => s.mem.bank[b]
  let dual : Bool := decide (16 ≤ b.val)
  match off with
  | 0x00 => if dual then none
      else some (regAt (fun s => BitVec.ofNat 32 (s.ownerOf b.val)) fun rq v => bankOwnerWrite rq b v)
  | 0x04 => some (regRo .mem at_ [(0, 5)] fun s =>
      pack [(0, if dual then 0 else (x s).spares), (4, b01 (s.bankMarked b.val))])
  | 0x08 => some (regCount .mem at_ [(0, 16), (16, 16)] (fun s => pair16 (x s).ce (x s).ue) fun v =>
      modBank b.val fun k => { k with ce := loHalf v, ue := hiHalf v })
  | 0x0C => some (regCount .mem at_ [(0, 16), (16, 16)] (fun s => pair16 (x s).nown (x s).lost) fun v =>
      modBank b.val fun k => { k with
        nown := if dual then 0 else loHalf v, lost := if dual then hiHalf v else 0 })
  | 0x10 => some (regRo .mem at_ [(0, 18)] fun s => BitVec.ofNat 32 (x s).lasterr)
  | _ => none

/-- KEEPDATA: each access reads or writes the word of the keep bank at KEEPADDR (R299). -/
def keepdataReg : RegDef where
  read rq s :=
    let t := doKeepdataAccess rq none s
    (t.rdata[rq.slot], t)
  write rq v s := doKeepdataAccess rq (some v) s

/-- The MEM block. -/
def memReg (off : Nat) : Option RegDef :=
  match off with
  | 0x004 => some (regEmpty .mem off)
  | 0x008 => some (regRo .mem off [(0, 4)] fun s =>
      pack [(0, b01 s.mem.walk), (1, b01 ((s.mem.bank.toList.take 16).any fun b => decide (b.spares ≤ 2))),
        (2, b01 (!s.mem.marked.isEmpty)), (3, b01 (s.mem.mw == .busy))])
  | 0x020 => some (regRo .mem off [(0, 14), (16, 16)] fun s => pack [(0, s.mem.next), (16, s.mem.passes.toNat)])
  | 0x024 => some (regCount .mem off [(0, 16), (16, 16)] (fun s => pair16 s.mem.cecount s.mem.uecount) fun v =>
      modMem fun m => { m with cecount := loHalf v, uecount := hiHalf v })
  | 0x028 => some (regRw .mem off [(2, 14), (16, 1)] (fun s => pack [(0, s.mem.keepWord), (16, b01 s.mem.keepInc)])
      fun v => modMem fun m => { m with keepWord := field v 0 16, keepInc := bit v 16 })
  | 0x02C => some keepdataReg
  | 0x030 => some (regRw .mem off [(0, 1)] (fun s => pack [(0, b01 s.mem.keepLost)]) fun v s =>
      modMem (fun m => { m with keepLost := m.keepLost && !bit (s.clears .mem off v) 0 }) s)
  | 0x040 => some (regRw .mem off [(0, 24)] (fun s => BitVec.ofNat 32 s.mem.mwDst) fun v =>
      modMem fun m => { m with mwDst := v.toNat })
  | 0x044 => some (regRw .mem off [(0, 32)] (fun s => BitVec.ofNat 32 s.mem.mwSrc) fun v =>
      modMem fun m => { m with mwSrc := v.toNat })
  | 0x048 => some (regRange .mem off [(0, 16)] (fun v => decide (v ≠ 0)) (fun s => BitVec.ofNat 32 s.mem.mwLen) fun v =>
      modMem fun m => { m with mwLen := v.toNat })
  | 0x04C => some (regAt (fun _ => 0) mwCtrlWrite)
  | 0x050 => some { regRo .mem off [(0, 2), (8, 24)] (fun _ => 0) with
      read := fun _ s => let t := enginesNow s; (pack [(0, t.mem.mw.code), (8, t.mem.mwWords)], t) }
  | _ =>
    match window 0x1000 0x40 18 off with
    | some (b, o) => if h : b < 18 then bankReg ⟨b, h⟩ o off else none
    | none => none

/-! ### QUE -/

/-- The queue is full. -/
def State.qIsFull (s : State) (q : Nat) : Bool :=
  match s.qBind q with
  | some c => (s.q q).count == c.slots
  | none => false

/-- Q_CFG of a queue, in the image in force. -/
def queueCfgWord (c : Option QueueCfg) : Word :=
  match c with
  | some c => pack [(0, c.bank), (4, c.depth), (8, c.esize), (10, 1), (16, c.base), (28, c.producer)]
  | none => 0

/-- A queue's registers (Table 12.6). -/
def queueReg (q : Nat) (off at_ : Nat) : Option RegDef :=
  let x := fun (s : State) => s.q q
  match off with
  | 0x00 => some (regAt (fun _ => 0) fun rq v => qCtrlWrite rq q v)
  | 0x04 => some (regRo .que at_ [(0, 11), (16, 10), (28, 4)] fun s => queueCfgWord (s.qBind q))
  | 0x08 => some (regRo .que at_ [(0, 4)] fun s =>
      BitVec.ofNat 32 (match s.qBind q with | some c => c.consumer | none => 0))
  | 0x0C => some (regRo .que at_ [(0, 12), (16, 12)] fun s => pack [(0, (x s).head), (16, (x s).tail)])
  | 0x10 => some (regRo .que at_ [(0, 13), (16, 13)] fun s => pack [(0, (x s).count), (16, (x s).hiwat)])
  | 0x14 => some (regCount .que at_ [(0, 16), (16, 16)] (fun s => pair16 (x s).fulls (x s).refused) fun v =>
      modQ q fun k => { k with fulls := loHalf v, refused := hiHalf v })
  | 0x18 => some (regCount .que at_ [(0, 32)] (fun s => (x s).pushes) fun v => modQ q fun k => { k with pushes := v })
  | _ => none

/-- The QUE block. -/
def queReg (off : Nat) : Option RegDef :=
  match off with
  | 0x004 => some (regEmpty .que off)
  | 0x008 => some (regRo .que off [(0, 1)] fun s => pack [(0, b01 ((List.range 128).any s.qIsFull))])
  | _ =>
    if 0x020 ≤ off ∧ off < 0x030 then
      some (regRo .que off [(0, 32)] fun s => mapWord ((off - 0x020) / 4) fun q => decide (0 < (s.q q).count))
    else if 0x030 ≤ off ∧ off < 0x040 then
      some (regRo .que off [(0, 32)] fun s => mapWord ((off - 0x030) / 4) s.qIsFull)
    else match window 0x1000 0x40 128 off with
      | some (q, o) => queueReg q o off
      | none => none

end Sys2Proof.Machine
end

