-- ==== Sys2Proof/Machine/RegisterMap.lean ====
section
/-! DEFINITION. The register address map: every register of every block by its address, and the register accesses of the
cores and of the service port (R10 to R16, R546, R553 to R562). -/

namespace Sys2Proof.Machine

/-- The DWIN block: its registers answer to a requester through the window rules (Tables 12.3 and 12.4). -/
def dwinReg (off : Nat) : RegDef where
  read rq s := let r := dwinRead rq 0 off s; (r.1, r.2.2)
  write rq v s := (dwinWrite rq 0 off v s).2

/-- The registers of a block beyond the head that all blocks share. [log 26 DEDUCED; 27 DEDUCED] -/
def blockReg (b : Block) (off : Nat) : Option RegDef :=
  match b with
  | .sys => sysReg off
  | .tick => tickReg off
  | .strct => strctReg off
  | .hsw => hswReg off
  | .sol => solReg off
  | .led => ledReg off
  | .din => dinReg off
  | .hurdle => hurdleReg off
  | .time => timeReg off
  | .tally => tallyReg off
  | .fab => fabReg off
  | .mbus => mbusReg off
  | .aud => audReg off
  | .acc => accReg off
  | .key => keyReg off
  | .pwr => pwrReg off
  | .mem => memReg off
  | .que => queReg off
  | .dwin => some (dwinReg off)
  | .upd => updReg off
  | .pert => pertReg off

/-- A register whose writes of one cycle are applied in the order shepherd core, service port, fabric (R15). -/
def turned (b : Block) (off : Nat) (d : RegDef) : RegDef :=
  { d with write := fun rq v s => d.write rq v (inTurn b off rq.rank s) }

/-- The register at an offset of a block; an unassigned one reads 0 and refuses writes (R14). -/
def regDef (b : Block) (off : Nat) : RegDef :=
  if isHead off then turned b off (regHead b off)
  else match blockReg b off with
    | some d => if b = .dwin then d else turned b off d
    | none => regNone (b.base + off)

/-- The block whose 64 KiB hold an address (R553). -/
def blockOf (addr : Nat) : Option Block :=
  if addr < 0x20000000 then none else Block.all[(addr - 0x20000000) / 0x10000]?

/-- A read of a whole register by a requester of this module. [log 17 DEDUCED] -/
def regRead (rq : Requester) (addr : Nat) (s : State) : Word × State :=
  match blockOf addr with
  | some b => (regDef b (addr % 0x10000)).read rq s
  | none => (0, s)

/-- A write of a whole register by a requester of this module; beyond the blocks it is a reserved write (R546).
[log 17 DEDUCED] -/
def regWrite (rq : Requester) (addr : Nat) (v : Word) (s : State) : State :=
  match blockOf addr with
  | some b => (regDef b (addr % 0x10000)).write rq v s
  | none => reservedWrite rq addr s

/-- The access is a whole aligned word (R10). -/
def wholeWord (addr width : Nat) : Bool := width == 4 && addr % 4 == 0

/-- ERR.ACCESS of the block that holds an address (R10). -/
def accessErr (addr : Nat) (s : State) : State :=
  match blockOf addr with
  | some b => setErr b 0 s
  | none => s

/-- A read of `width` bytes: 0 and ERR.ACCESS unless it is a whole aligned word (R10). [log 18 DESIGN CHOICE] -/
def accessRead (rq : Requester) (addr width : Nat) (s : State) : Word × State :=
  if wholeWord addr width then regRead rq addr s else (0, accessErr addr s)

/-- A write of `width` bytes. [log 21 DEDUCED] -/
def accessWrite (rq : Requester) (addr width : Nat) (v : Word) (s : State) : State :=
  if wholeWord addr width then regWrite rq addr v s else accessErr addr s

/-- REGISTER_WRITE: a write by a core or the service port. The fabric writes registers through RA_REQ_RX alone (R16).
[log 18 DESIGN CHOICE; 21 DEDUCED] -/
def doRegisterWrite (rq : Requester) (addr width : Nat) (v : Word) (s : State) : State :=
  if rq = .fabric then s else accessWrite rq addr width v s

/-! ### The service port -/

/-- The words of a transaction, most significant byte first; one that is not complete is discarded (R546). -/
def svcWords (bs : List Byte) : List Word :=
  (List.range (bs.length / 4)).map fun i => BitVec.ofNat 32 (ofBe (slice bs (4 * i) 4))

/-- Word `i` of a write transaction. -/
def svcPut (addr : Nat) (ws : List Word) (s : State) : State :=
  (ws.zipIdx).foldl (fun s x =>
    let a := addr + 4 * x.2
    if a % 4 = 0 then regWrite .service a x.1 s
    else if (blockOf a).isSome then accessErr a s else reservedWrite .service a s) s

/-- Word `i` of a read transaction; the last word read stands in the requester's slot. -/
def svcGet (addr n : Nat) (s : State) : State :=
  (List.range n).foldl (fun s i =>
    let r := accessRead .service (addr + 4 * i) 4 s
    giveRead .service r.1 r.2) s

/-- SVC_TRANSACTION: the bytes between the edges of CS: a command, an address, and for a read four bytes of
turn-around before the words (Table 22.9, R546). [log 21 DEDUCED] -/
def doSvcTransaction (bs : List Byte) (s : State) : State :=
  let addr := ofBe (slice bs 1 4)
  if bs.length < 9 then s
  else
    match (byteAt bs 0).toNat with
    | 0x02 => svcPut addr (svcWords (bs.drop 5)) s
    | 0x0B => svcGet addr ((bs.length - 9) / 4) s
    | _ => s

end Sys2Proof.Machine
end

