-- ==== Sys2Proof/Machine/Units.lean ====
section
/-! DEFINITION. The encoding of a bundle and the results of the arithmetic units (Tables 9.2 to 9.6, 10.2 to 10.8). -/

namespace Sys2Proof.Machine

/-! ### Bundles -/

/-- FORM (Table 9.3). -/
def formOf (w : DWord) : Nat := w.toNat / 2 ^ 60

/-- A move slot (Table 9.4). -/
structure MoveSlot where
  guard : Nat
  src : Nat
  dst : Nat
  x : Bool
  deriving DecidableEq, Repr

/-- MoveSlot `k` of a bundle (Table 9.2). -/
def moveSlot (w : DWord) (k : Nat) : MoveSlot :=
  let v := w.toNat >>> (40 - 20 * k)
  ⟨v / 2 ^ 17 % 8, v / 2 ^ 9 % 256, v / 2 % 256, v % 2 == 1⟩

/-- The immediate of an IMM32 bundle. -/
def immOf (w : DWord) : Word := (w >>> 8).setWidth 32

/-- A guard field under the guards g1, g2 and g3 (Table 9.4). -/
def guardHolds (g : Vector Bool 3) (f : Nat) : Bool :=
  match f with
  | 0 => true
  | 1 => g[0] | 2 => g[1] | 3 => g[2]
  | 5 => !g[0] | 6 => !g[1] | 7 => !g[2]
  | _ => false

/-- A short immediate: the low 7 bits, sign-extended (Table 9.5). -/
def shortImm (src : Nat) : Word := (BitVec.ofNat 7 src).signExtend 32

/-- The unit of a trigger port, by a number of its own (Tables 10.3 to 10.13). -/
def unitOf (dst : Nat) : Option Nat :=
  if 0x41 ≤ dst ∧ dst ≤ 0x4E then some 0
  else if 0x51 ≤ dst ∧ dst ≤ 0x5E then some 1
  else if 0x61 ≤ dst ∧ dst ≤ 0x63 then some 2
  else if 0x69 ≤ dst ∧ dst ≤ 0x6A then some 3
  else if 0x72 ≤ dst ∧ dst ≤ 0x7D then some 4
  else if 0x81 ≤ dst ∧ dst ≤ 0x8B then some 5
  else if 0x91 ≤ dst ∧ dst ≤ 0x98 then some 6
  else if 0xA1 ≤ dst ∧ dst ≤ 0xA8 then some 7
  else if 0xB0 ≤ dst ∧ dst ≤ 0xB2 then some 8
  else if 0xB8 ≤ dst ∧ dst ≤ 0xBA then some 9
  else if 0xC1 ≤ dst ∧ dst ≤ 0xC3 then some 10
  else if 0xC9 ≤ dst ∧ dst ≤ 0xD5 then some 11
  else none

/-- The operand latch that a destination writes, by its place in `LevelSet.lat`. -/
def latchOf (dst : Nat) : Option (Fin 11) :=
  match dst with
  | 0x40 => some 0 | 0x50 => some 1 | 0x60 => some 2 | 0x68 => some 3 | 0x70 => some 4 | 0x71 => some 5
  | 0x80 => some 6 | 0x90 => some 7 | 0xA0 => some 8 | 0xC0 => some 9 | 0xC8 => some 10
  | _ => none

/-- A destination exists for a core and level (R249, R282, Table 10.13). -/
def destOk (shepherd keeper : Bool) (dst : Nat) : Bool :=
  decide (dst < 0x40) || (unitOf dst).isSome && (decide (dst < 0xC9) || dst == 0xD5 || shepherd && keeper) ||
    (latchOf dst).isSome && (dst != 0xC8 || shepherd && keeper) ||
    decide (0xF0 ≤ dst ∧ dst ≤ 0xF3) || shepherd && (dst == 0xF4 || dst == 0xF5)

/-- A source exists for a core (R281, Table 10.2). -/
def srcOk (shepherd : Bool) (src : Nat) : Bool :=
  decide (src < 0x4D) || src == 0x4D && shepherd || src == 0x4E || decide (0x80 ≤ src)

/-! ### ALU -/

/-- The most negative word. -/
def minWord : Word := 0x80000000#32

/-- A sum limited to the signed range, and whether it was limited. -/
def satSum (x : Int) : Word × Bool :=
  if x < -2147483648 then (minWord, true) else if 2147483647 < x then (0x7FFFFFFF#32, true) else (BitVec.ofInt 32 x, false)

/-- An ALU operation by its place above the operand latch: the result, and whether it sets V (Table 10.3). -/
def alu (op : Nat) (a b : Word) : Word × Bool :=
  match op with
  | 1 => (a + b, false)
  | 2 => (a - b, false)
  | 3 => (-b, b == minWord)
  | 4 => (if b.slt 0 then -b else b, b == minWord)
  | 5 => (a &&& b, false)
  | 6 => (a ||| b, false)
  | 7 => (a ^^^ b, false)
  | 8 => (a &&& ~~~b, false)
  | 9 => (if a.slt b then a else b, false)
  | 10 => (if a.slt b then b else a, false)
  | 11 => (if a.ult b then a else b, false)
  | 12 => (if a.ult b then b else a, false)
  | 13 => satSum (a.toInt + b.toInt)
  | _ => satSum (a.toInt - b.toInt)

/-! ### MUL and DIV -/

/-- A MUL operation by its port (Table 10.4). -/
def mulOp (dst : Nat) (a b : Word) : Word :=
  match dst with
  | 0x61 => a * b
  | 0x62 => BitVec.ofInt 32 ((a.toInt * b.toInt) / 4294967296)
  | _ => BitVec.ofNat 32 (a.toNat * b.toNat / 4294967296)

/-- The outcome of a division: quotient, remainder, V and DZ. -/
structure DivRes where
  q : Word
  r : Word
  v : Bool
  dz : Bool
  deriving DecidableEq, Repr

/-- A DIV operation by its port (Tables 10.4 and 10.5). -/
def divOp (dst : Nat) (a b : Word) : DivRes :=
  if dst = 0x69 then
    if b = 0 then ⟨if a.slt 0 then minWord else 0x7FFFFFFF#32, a, false, true⟩
    else if a = minWord ∧ b = BitVec.allOnes 32 then ⟨minWord, 0, true, false⟩
    else ⟨BitVec.ofInt 32 (Int.tdiv a.toInt b.toInt), BitVec.ofInt 32 (Int.tmod a.toInt b.toInt), false, false⟩
  else if b = 0 then ⟨BitVec.allOnes 32, a, false, true⟩
  else ⟨BitVec.ofNat 32 (a.toNat / b.toNat), BitVec.ofNat 32 (a.toNat % b.toNat), false, false⟩

/-! ### BIT -/

/-- The field position of a field control word (R286). -/
def fieldPos (p : Word) : Nat := field p 0 5

/-- The effective width (R286). -/
def fieldWidth (p : Word) : Nat := min (field p 8 6) (32 - fieldPos p)

/-- Byte `i` of a permute result (R287). -/
def permByte (a b : Word) (i : Nat) : Nat :=
  match field b (3 * i) 3 with
  | 0 => field a 0 8 | 1 => field a 8 8 | 2 => field a 16 8 | 3 => field a 24 8
  | 5 => 0xFF
  | _ => 0

/-- A selector of a permute is reserved (R287). -/
def permBad (b : Word) : Bool := (List.range 4).any fun i => decide (6 ≤ field b (3 * i) 3)

/-- The number of 0 bits above the highest 1 bit, of 32. -/
def leadingZeros (b : Word) : Nat := ((List.range 32).takeWhile fun i => !b.getLsbD (31 - i)).length

/-- The number of 0 bits below the lowest 1 bit, of 32. -/
def trailingZeros (b : Word) : Nat := ((List.range 32).takeWhile fun i => !b.getLsbD i).length

/-- The mask of a field of width `w`. -/
def maskOf (w : Nat) : Word := BitVec.ofNat 32 (2 ^ w - 1)

/-- A BIT operation by its port, with operand latch A and field control P (Table 10.6). -/
def bitOp (dst : Nat) (a p b : Word) : Word :=
  let s := field b 0 8
  let w := fieldWidth p
  let f := (b >>> fieldPos p) &&& maskOf w
  match dst with
  | 0x72 => a <<< s
  | 0x73 => a >>> s
  | 0x74 => a.sshiftRight s
  | 0x75 => a.rotateLeft (b.toNat % 32)
  | 0x76 => a.rotateRight (b.toNat % 32)
  | 0x77 => f
  | 0x78 => if w = 0 then 0 else if f.getLsbD (w - 1) then f ||| ~~~(maskOf w) else f
  | 0x79 => (a &&& ~~~(maskOf w <<< fieldPos p)) ||| ((b &&& maskOf w) <<< fieldPos p)
  | 0x7A => BitVec.ofNat 32 (leadingZeros b)
  | 0x7B => BitVec.ofNat 32 (trailingZeros b)
  | 0x7C => BitVec.ofNat 32 ((List.range 32).filter fun i => b.getLsbD i).length
  | _ => pack [(0, permByte a b 0), (8, permByte a b 1), (16, permByte a b 2), (24, permByte a b 3)]

/-! ### CMP -/

/-- A CMP relation by its port (Table 10.7). -/
def cmpOp (dst : Nat) (a b : Word) : Bool :=
  match dst with
  | 0x81 => a == b
  | 0x82 => a != b
  | 0x83 => a.slt b
  | 0x84 => a.sle b
  | 0x85 => b.slt a
  | 0x86 => b.sle a
  | 0x87 => a.ult b
  | 0x88 => a.ule b
  | 0x89 => b.ult a
  | 0x8A => b.ule a
  | _ => a &&& b != 0

/-! ### LSU -/

/-- An access of a load and store unit: a load of a kind, or a store of a number of bytes (Table 10.8). -/
inductive LsuOp where
  | load (kind : LoadKind)
  | store (size : Nat)
  deriving DecidableEq, Repr

/-- The bytes that an access moves. -/
def LsuOp.size : LsuOp → Nat
  | .load k => k.size
  | .store n => n

/-- An LSU operation by its place above the store data latch. -/
def lsuOp (op : Nat) : LsuOp :=
  match op with
  | 1 => .load .w
  | 2 => .load .h
  | 3 => .load .hu
  | 4 => .load .b
  | 5 => .load .bu
  | 6 => .store 4
  | 7 => .store 2
  | _ => .store 1

/-- The value of a load's bytes (Table 10.8). -/
def LoadKind.extend (k : LoadKind) (v : Nat) : Word :=
  match k with
  | .w => BitVec.ofNat 32 v
  | .h => (BitVec.ofNat 16 v).signExtend 32
  | .hu => BitVec.ofNat 32 (v % 65536)
  | .b => (BitVec.ofNat 8 v).signExtend 32
  | .bu => BitVec.ofNat 32 (v % 256)

/-- A range of Table 10.9. -/
inductive MemRange where
  | bank | local_ | mram | periph
  deriving DecidableEq, Repr

/-- The range that an address falls in (Table 10.9). -/
def rangeOf (a : Nat) : Option MemRange :=
  if a < 0x420000 then some .bank
  else if 0x800000 ≤ a ∧ a < 0x810000 then some .local_
  else if 0x10000000 ≤ a ∧ a < 0x11000000 then some .mram
  else if 0x20000000 ≤ a ∧ a < 0x20150000 then some .periph
  else none

/-- The latency of a range in bundles (Table 10.9). -/
def MemRange.latency : MemRange → Nat
  | .bank => 5 | .local_ => 3 | .mram => 24 | .periph => 8

end Sys2Proof.Machine
end

