-- ==== Sys2Proof/Machine/Cores.lean ====
section
/-! DEFINITION. The shepherd core and the tick cores: completing operations, exceptions and events, and the issue of a
bundle (R243 to R272, R276 to R296). -/

namespace Sys2Proof.Machine

/-! ### Cores and levels -/

/-- The register set of a core's level (R246, R247): a tick core has the task set alone. -/
def lvl (keeper : Bool) : Fin 2 := if keeper then 1 else 0

/-- A core's level as a requester of registers. -/
def coreReq (c : Fin 5) (keeper : Bool) : Requester :=
  match c with
  | 0 => if keeper then .keeper else .task
  | 1 => .tick 0
  | 2 => .tick 1
  | 3 => .tick 2
  | 4 => .tick 3

/-- Rewrite the register set of a level. -/
def modSet (c : Fin 5) (keeper : Bool) (f : LevelSet → LevelSet) (s : State) : State :=
  modCpu c (fun x => { x with set := upd x.set (lvl keeper) f }) s

/-- The register set of the level that runs. -/
def State.lset (s : State) (c : Fin 5) : LevelSet := (s.cpu c).set[lvl (s.cpu c).keeper]

/-- The tick core of a core number, if it is one. -/
def tickOf (c : Fin 5) : Option (Fin 4) := if h : c.val = 0 then none else some ⟨c.val - 1, by omega⟩

/-! ### Completing operations -/

/-- A read of the MRAM window: one inverted bit is corrected and counted (Table 11.11), a word with two or more cannot be
corrected and is marked (R308, R313). [log 50 DEDUCED] -/
def mramLoad (req a size : Nat) (u : Upset) (s : State) : ReadRes × State :=
  let k := mramKey (a - 0x10000000)
  if !s.isMarked k ∧ popCount u.flips ≤ 1 then
    let t := if u.flips = 0 then s else
      bump .mem 0x024 0 1 (modMem (fun m => { m with cecount := satInc m.cecount }) s)
    (.value (ofLe (mramGet (a - 0x10000000) size s)), t)
  else
    let s := if s.isMarked k then s else modMem (fun m => { m with marked := k :: m.marked }) s
    (.uncorrectable, logUe req (a / 4 * 4) s)

/-- A load at its completion (Table 10.9). -/
def coreLoad (c : Fin 5) (keeper : Bool) (kind : LoadKind) (a : Nat) (u : Upset) (s : State) : ReadRes × State :=
  match rangeOf a with
  | some .bank => bankRead c.val a kind.size u s
  | some .local_ =>
    let r := eccRead c.val (localKey c.val a / 4 * 4) u s
    (if r.1 then .value (ofLe (ramGet (localKey c.val a) kind.size r.2)) else .uncorrectable, r.2)
  | some .mram => mramLoad c.val a kind.size u s
  | some .periph =>
    let r := accessRead (coreReq c keeper) a kind.size s
    (.value r.1.toNat, giveRead (coreReq c keeper) r.1 r.2)
  | none => (.value 0, s)

/-- A store at its completion (R288). -/
def coreStore (c : Fin 5) (keeper : Bool) (size a : Nat) (v : Word) (u : Upset) (s : State) : State :=
  match rangeOf a with
  | some .bank => bankWrite c.val a size (leBytes size v.toNat) u s
  | some .local_ => eccStore c.val (localKey c.val a) size (leBytes size v.toNat) u s
  | some .periph => accessWrite (coreReq c keeper) a size v s
  | _ => s

/-- A load or a store. -/
def OpAct.isMemory : OpAct → Bool
  | .res .. => false
  | _ => true

/-- Place values in result ports and set sticky bits of CST (R277, R279). -/
def putPorts (ports : List (Fin 14 × Word)) (v dz : Bool) (l : LevelSet) : LevelSet :=
  { l with
    res := ports.foldl (fun r p => r.set p.1 p.2) l.res
    cst := (if v then setBit l.cst 0 else l.cst) ||| (if dz then 2 else 0) }

/-- One operation completes; the address of a load that cannot be corrected (R253, R268). -/
def completeOp (c : Fin 5) (f : Flight) (u : Upset) (s : State) : Option Nat × State :=
  let s := if f.act.isMemory then enginesNow s else s
  match f.act with
  | .res ports v dz => (none, modSet c f.keeper (putPorts ports v dz) s)
  | .store size a v => (none, coreStore c f.keeper size a v u s)
  | .load port kind a =>
    let r := coreLoad c f.keeper kind a u s
    match r.1 with
    | .value v => (none, modSet c f.keeper (putPorts [(port, kind.extend v)] false false) r.2)
    | .uncorrectable => (some a, r.2)

/-- The operations due at the end of bundle `d` or earlier complete in the order of their triggers; the first load
that cannot be corrected is remembered. [log 52 DEDUCED] -/
def completeDue (c : Fin 5) (d : Nat) (s : State) : Option Nat × State :=
  let fs := (s.cpu c).flight
  let s := modCpu c (fun x => { x with flight := fs.filter fun f => decide (d < f.due) }) s
  (fs.filter fun f => decide (f.due ≤ d)).foldl (fun (r : Option Nat × State) f =>
    let t := completeOp c f .clean r.2
    (r.1 <|> t.1, t.2)) (none, s)

/-- That instant lies in the core window. -/
def State.inWindow (s : State) (n : Nat) : Bool := decide (s.bundleAt_ n ≤ s.T * (s.cfg.commit - 4) * 2 ^ 32 / 64)

/-- Time passes to bundle boundary `n` of a tick program; the shepherd core's clock is not tied to the tick.
[log 56 DEDUCED] -/
def coreTime (c : Fin 5) (n : Nat) (s : State) : State :=
  if c = 0 then s
  else if s.jumping then passTo 0 (s.tick.startTb0.toNat * 2 ^ 32 + s.bundleAt_ n) s
  else passTo s.drvIdx (s.tick.startDrv.toNat * 2 ^ 32 + s.bundleAt_ n) s

/-- The core's clock stands at bundle boundary `n` or beyond. -/
def coreAt (c : Fin 5) (n : Nat) (s : State) : State :=
  modCpu c (fun x => { x with cycle := max x.cycle n }) (coreTime c n s)

/-- Every operation in flight completes, in the order of the bundles at whose end it is due, each at its own bundle boundary
(R263, R302). [log 51 DEDUCED] -/
def settle (c : Fin 5) (s : State) : Option Nat × State :=
  let n := (s.cpu c).cycle
  let r := (List.range 25).foldl (fun (r : Option Nat × State) i =>
    if (r.2.cpu c).flight.any fun f => decide (f.due + 1 ≤ n + i) then
      let t := completeDue c (n + i - 1) (coreAt c (n + i) r.2)
      (r.1 <|> t.1, t.2)
    else r) (none, s)
  (r.1, modCpu c (fun x => { x with flight := [], divAt := none }) r.2)

/-! ### Exceptions and events -/

/-- A pending branch as Table 9.9 saves it. -/
def saveBranch : Option (Nat × Nat) → Nat × Nat
  | some b => b
  | none => (0, 0)

/-- Keeper level is entered at a vector entry, with the return state of Table 9.9 saved (R263, R271). -/
def enterKeeper (cause line : Nat) (info : Word) (addr : Nat) (br : Option (Nat × Nat)) (vector : Nat) (s : State) :
    State :=
  modCpu 0 (fun x => { x with
    keeper := true, run := .running, pc := 4 * vector, branch := none
    ra := addr, retBranch := saveBranch br, cause := cause, line := line, info := info }) s

/-- An exception in a tick program: what earlier bundles triggered completes (R267, R285), and the core stops (R48,
R272). [log 115 DEDUCED] -/
def tickException (k : Fin 4) (cause addr : Nat) (s : State) : State :=
  let s := stopTickCore k (settle ⟨k.val + 1, by omega⟩ s).2
  setIrq .tick 1 (logEv 0x1002 5 (locTc k.val) (pack64 [(0, k.val), (8, cause), (16, addr)]) s)

/-- An exception at a bundle of a level: a tick program stops, a keeper fault restarts the shepherd core, and task level
enters keeper level once its operations in flight have completed (R267, R271, R272). -/
def raise (c : Fin 5) (keeper : Bool) (cause addr : Nat) (info : Word) (br : Option (Nat × Nat)) (s : State) : State :=
  match tickOf c with
  | some k => tickException k cause addr s
  | none =>
    if keeper then keeperFault cause addr (settle 0 s).2
    else enterKeeper cause 0 info addr br cause (settle 0 s).2

/-- ECC_UNCORRECTABLE: the bundle last issued is the one in which the load completes, and its level decides (R268, R271).
[log 51 DEDUCED] -/
def raiseEcc (c : Fin 5) (a : Nat) (s : State) : State :=
  let x := s.cpu c
  raise c x.lastKeeper 0x0B x.lastPc (BitVec.ofNat 32 a) x.lastBranch s

/-- The lines that are pending and enabled. -/
def State.lines (s : State) : List (Fin 128) :=
  (List.finRange 128).filter fun n => s.evt.pend.getLsbD n.val && s.evt.en.getLsbD n.val

/-- The line that is taken: of the highest priority the lowest number (R263). -/
def State.topLine (s : State) : Option (Fin 128) :=
  s.lines.foldl (fun (b : Option (Fin 128)) n =>
    match b with
    | none => some n
    | some m => if (s.evt.prio[m]).toNat < (s.evt.prio[n]).toNat then some n else some m) none

/-- The shepherd core is at a point where it takes an event line (R263). -/
def State.takesEvent (s : State) : Bool :=
  let c := s.cpu 0
  !c.keeper && (c.run == .running || c.run == .waiting) && c.branch.isNone && s.topLine.isSome

/-- EVENT_ENTRY: operations in flight complete into the task set, then the line's vector entry runs (R263, R266). A load
that cannot be corrected comes first, and the line stays pending (R264): one due at the end of the bundle last issued is
raised in that bundle, a later one in the bundle that waits to be issued (R268). [log 51 DEDUCED; 58 DEDUCED] -/
def doEventEntry (s : State) : State :=
  match s.topLine with
  | none => s
  | some n =>
    if !s.takesEvent then s
    else
      let pc := (s.cpu 0).pc
      let r := completeDue 0 ((s.cpu 0).cycle - 1) s
      match r.1 with
      | some a => raiseEcc 0 a r.2
      | none =>
        let r := settle 0 r.2
        match r.1 with
        | some a => enterKeeper 0x0B 0 (BitVec.ofNat 32 a) pc none 0x0B r.2
        | none => enterKeeper 0 n.val 0 pc none (16 + (s.evt.prio[n]).toNat) r.2

/-- SHEPHERD_WAIT_RESUME: in task level the event is taken, in keeper level the core goes on behind the WAIT and the
event stays pending (R260). -/
def doShepherdWaitResume (s : State) : State :=
  if (s.cpu 0).run ≠ .waiting ∨ s.topLine.isNone then s
  else if (s.cpu 0).keeper then modCpu 0 (fun x => { x with run := .running }) s
  else doEventEntry s

/-! ### Reading sources -/

/-- The value of a source that exists, from before the bundle (R245, R250, Table 9.5). -/
def State.srcVal (s : State) (c : Fin 5) (src : Nat) : Word :=
  let x := s.cpu c
  let l := s.lset c
  if src = 0 then 0
  else if src < 0x20 then getNat x.a src 0
  else if src < 0x40 then getNat l.b (src - 0x20) 0
  else if src = 0x4E then l.cst
  else if src < 0x80 then getNat l.res (src - 0x40) 0
  else shortImm src

/-- A move that has passed its guard: its destination and its value. -/
structure Move where
  dst : Nat
  v : Word
  deriving DecidableEq, Repr

/-- The operand latch of a level as written in the bundle. -/
def latAfter (lat : Vector Word 11) (ms : List Move) : Vector Word 11 :=
  ms.foldl (fun l m =>
    match latchOf m.dst with
    | some i => l.set i m.v
    | none => l) lat

/-! ### Exceptions of a bundle -/

/-- An exception: its cause and what EVT.t.info tells. -/
structure Exc where
  cause : Nat
  info : Word
  deriving DecidableEq, Repr

/-- An exception when a condition holds. -/
def excIf (b : Bool) (cause : Nat) (info : Word) : Option Exc := if b then some ⟨cause, info⟩ else none

/-- Two moves that may not stand in one bundle (R251). -/
def clash (m n : Move) : Bool :=
  m.dst == n.dst && m.dst != 0 || (unitOf m.dst).isSome && unitOf m.dst == unitOf n.dst

/-- Some two of the moves clash. -/
def anyClash : List Move → Bool
  | [] => false
  | m :: ms => ms.any (clash m) || anyClash ms

/-- The branch target of a BR trigger (Table 10.10). -/
def branchTarget (dst pc : Nat) (v : Word) : Int := if dst = 0xB1 then pc + v.toInt else v.toNat

/-- The check of an LSU trigger (R289). [log 53 DEDUCED] -/
def lsuExc (op : LsuOp) (v : Word) : Option Exc :=
  let a := v.toNat
  match rangeOf a with
  | none => some ⟨0x0A, v⟩
  | some .periph => none
  | some r =>
    if a % op.size ≠ 0 then some ⟨0x09, v⟩
    else
      match r, op with
      | .mram, .store _ => some ⟨0x0A, v⟩
      | _, _ => none

/-- The bytes of an entry of a queue, 8 for one without a binding. -/
def State.qBytes (s : State) (q : Nat) : Nat :=
  match s.qBind q with
  | some b => b.bytes
  | none => 8

/-- The check of a QUE trigger (R292). [log 53 DEDUCED] -/
def queExc (s : State) (dst : Nat) (q v : Word) : Option Exc :=
  let a := v.toNat
  if 127 < q.toNat then some ⟨0x04, 0⟩
  else if dst = 0xC3 then none
  else if a < 0x800000 ∨ 0x810000 < a + s.qBytes q.toNat then some ⟨0x0A, 0⟩
  else excIf (a % 8 != 0) 0x09 0

/-- The reserved operands of an EVT trigger (Table 10.14). -/
def evtExc (dst : Nat) (lat v : Word) : Option Exc :=
  let b := v.toNat
  match dst with
  | 0xCB => excIf (decide (127 < b ∨ 7 < lat.toNat)) 4 0
  | 0xCE => excIf (decide (3 < b)) 4 0
  | 0xCF => none
  | 0xD0 => none
  | 0xD1 => none
  | 0xD2 => excIf (decide (16383 < b)) 4 0
  | 0xD3 => none
  | 0xD4 => excIf (v &&& 0xFFFCC000#32 != 0 || field v 16 2 == 3) 4 0
  | 0xD5 => excIf (v &&& 0xFFFFFEFC#32 != 0) 4 0
  | _ => excIf (decide (127 < b)) 4 0

/-- The exception a unit detects at the trigger, if any (R254, R256, R257, R261, R265, R284, R285, R296).
[log 53 DEDUCED] -/
def unitExc (c : Fin 5) (s : State) (lat : Vector Word 11) (m : Move) : Option Exc :=
  let x := s.cpu c
  match unitOf m.dst with
  | some 3 =>
    let busy : Bool := match x.divAt with
      | some i => decide (x.cycle < i + 18)
      | none => false
    if busy then some ⟨6, 0⟩ else excIf (m.v == 0 && bit (s.lset c).cst 8) 5 lat[3]
  | some 4 => excIf (m.dst == 0x7D && permBad m.v) 4 0
  | some 6 => lsuExc (lsuOp (m.dst - 0x90)) m.v
  | some 7 => lsuExc (lsuOp (m.dst - 0xA0)) m.v
  | some 8 =>
    if x.branch.isSome then some ⟨7, 0⟩
    else
      let t := branchTarget m.dst x.pc m.v
      excIf (decide (t < 0 ∨ 16383 < t)) 8 0
  | some 9 => excIf (m.dst == 0xB8 && decide (3 < m.v.toNat)) 4 0
  | some 10 => queExc s m.dst lat[9] m.v
  | some 11 => evtExc m.dst lat[10] m.v
  | _ =>
    if m.dst = 0xF4 then excIf (!x.keeper) 0x0E m.v
    else if m.dst = 0xF5 then excIf (!x.keeper) 0x0C 0
    else none

/-- The illegal source or destination of a slot (R252). -/
def portExc (c : Fin 5) (keeper : Bool) (sl : MoveSlot) : Option Exc :=
  if !srcOk (c == 0) sl.src then some ⟨3, 0⟩ else excIf (!destOk (c == 0) keeper sl.dst) 2 0

/-! ### Taking effect -/

/-- The word that a load or store acts on. -/
def OpAct.word : OpAct → Option Nat
  | .res .. => none
  | .load _ _ a => some (a / 4)
  | .store _ a _ => some (a / 4)

/-- A store to a peripheral register. -/
def OpAct.toBlock : OpAct → Bool
  | .store _ a _ => rangeOf a == some .periph
  | _ => false

/-- An operation holds back a later one: both are of one unit (R254), both are on one word, or both are stores to peripheral
registers, which reach their blocks in the order of their triggers (R255). -/
def Flight.before (f : Flight) (unit : Nat) (act : OpAct) : Bool :=
  f.unit == unit || (f.act.word.isSome && f.act.word == act.word) || (f.act.toBlock && act.toBlock)

/-- An operation begins: due `lat` − 1 bundles on (R253), but not before an earlier one that it may not pass (R254, R255).
[log 52 DEDUCED] -/
def launch (c : Fin 5) (unit lat : Nat) (act : OpAct) (s : State) : State :=
  modCpu c (fun x =>
    let due := (x.flight.filter fun f => f.before unit act).foldl (fun d f => max d f.due) (x.cycle + lat - 1)
    { x with flight := x.flight ++ [⟨x.cycle, unit, due, x.keeper, act⟩] }) s

/-- An operation with one result. -/
def launchRes (c : Fin 5) (unit lat : Nat) (port : Fin 14) (v : Word) (s : State) : State :=
  launch c unit lat (.res [(port, v)] false false) s

/-- An LSU trigger. -/
def lsuTrigger (c : Fin 5) (port : Fin 14) (op : LsuOp) (data v : Word) (s : State) : State :=
  let a := v.toNat
  let lat := ((rangeOf a).map MemRange.latency).getD 1
  match op with
  | .load k => launch c (port.val - 1) lat (.load port k a) s
  | .store n => launch c (port.val - 1) lat (.store n a data) s

/-- A TIME trigger: the sample of R290. -/
def timeTrigger (c : Fin 5) (dst : Nat) (v : Word) (s : State) : State :=
  let r : DWord := match dst with
    | 0xB8 => (getNat s.time.tb v.toNat default).ns
    | 0xB9 => s.tick.count
    | _ => (BitVec.ofNat 32 s.inTick).setWidth 64
  launch c 9 2 (.res [(10, r.setWidth 32), (11, (r >>> 32).setWidth 32)] false false) s

/-- The status that QUE.q gets (R291); an entry that could not be read leaves none, so it is a free value (R308).
[log 57 DEDUCED; 67 DEDUCED] -/
def queStatus (r : QRes) (s : State) : Word × State :=
  match r with
  | .done => (0, s)
  | .full => (1, s)
  | .refused => (2, s)
  | .unread => (s.freeVal.setWidth 32, tickFree s)

/-- A pushed entry as local data memory holds it at the trigger (R293). -/
def State.localEntry (s : State) (c : Fin 5) (q a : Nat) : List Byte := ramGet (localKey c.val a) (s.qBytes q) s

/-- The words of an entry in local data memory are read under ECC: all good, or some uncorrectable.
[log 57 DEDUCED] -/
def readEntry (c : Fin 5) (q a : Nat) (s : State) : Bool × State :=
  eccSpan c.val (localKey c.val a) (s.qBytes q / 4) s

/-- A push by a core. An entry that the queue takes is discarded when a word of it cannot be corrected (R292, R308).
[log 57 DEDUCED] -/
def corePush (c : Fin 5) (q a : Nat) (s : State) : QRes × State :=
  let r := if s.pushRes c.val q = .done then readEntry c q a s else (true, s)
  if r.1 then qPush c.val q (r.2.localEntry c q a) r.2 else (.unread, r.2)

/-- A popped entry is stored in local data memory, word by word, when the operation completes (R291).
[log 57 DEDUCED] -/
def storeEntry (c : Fin 5) (a : Nat) (data : List Byte) (s : State) : State :=
  (List.range (data.length / 4)).foldl (fun s i =>
    launch c (16 + i) 12 (.store 4 (a + 4 * i) (BitVec.ofNat 32 (leAt data (4 * i) 4))) s) s

/-- A QUE trigger: it acts on the queue at once, and its status is due 12 bundles on (R291 to R293).
[log 57 DEDUCED] -/
def queTrigger (c : Fin 5) (dst : Nat) (q v : Word) (s : State) : State :=
  let n := q.toNat
  let s := qTurn n c.val s
  match dst with
  | 0xC1 =>
    let r := corePush c n v.toNat s
    let t := queStatus r.1 r.2
    launchRes c 10 12 12 t.1 t.2
  | 0xC2 =>
    let r := qPop c.val n s
    let t := queStatus r.1 r.2.2
    launchRes c 10 12 12 t.1 (storeEntry c v.toNat r.2.1 t.2)
  | _ =>
    match s.qBind n with
    | some _ => launchRes c 10 12 12 (BitVec.ofNat 32 (s.q n).count) s
    | none => launchRes c 10 12 12 2 (qRefuse c.val n 0 s)

/-- Firmware clears a line, unless hardware makes it pending in the same cycle (R294, R295). A block's line that its status
still asks for is pending at once (R561). [log 58 DEDUCED; 113 DEDUCED] -/
def clearLine (n : Nat) (s : State) : State :=
  let s := if s.raisedNow.getLsbD n then s else { s with evt := { s.evt with pend := clrBit s.evt.pend n } }
  match Block.all[n]? with
  | some b => refreshLine b s
  | none => s

/-- The value that an EVT trigger places in EVT.q, if it places one (Table 10.13). -/
def State.evtRead (s : State) (dst : Nat) (v : Word) : Option Word :=
  let x := s.cpu 0
  match dst with
  | 0xCE => some ((s.evt.pend >>> (32 * v.toNat)).setWidth 32)
  | 0xCF => some (pack [(0, x.cause), (8, x.line)])
  | 0xD0 => some x.info
  | 0xD1 => some (BitVec.ofNat 32 (x.ra % 16384))
  | 0xD3 => some (pack [(0, x.retBranch.1), (16, x.retBranch.2)])
  | _ => none

/-- An EVT trigger (Table 10.13). -/
def evtTrigger (c : Fin 5) (dst : Nat) (lat v : Word) (s : State) : State :=
  match s.evtRead dst v with
  | some r => launchRes c 11 1 13 r s
  | none =>
    let n := v.toNat
    match dst with
    | 0xC9 => { s with evt := { s.evt with en := setBit s.evt.en n } }
    | 0xCA => { s with evt := { s.evt with en := clrBit s.evt.en n } }
    | 0xCB => { s with evt := { s.evt with prio := updNat s.evt.prio n fun _ => lat.setWidth 3 } }
    | 0xCC => setLine n s
    | 0xCD => clearLine n s
    | 0xD2 => modCpu c (fun x => { x with ra := n }) s
    | 0xD4 => modCpu c (fun x => { x with retBranch := (field v 0 14, field v 16 2) }) s
    | _ => modSet c (s.cpu c).keeper (fun l => { l with cst := v }) s

/-- A BR trigger: the branch is pending over two delay bundles (R256). -/
def brTrigger (c : Fin 5) (dst : Nat) (v : Word) (s : State) : State :=
  let pc := (s.cpu c).pc
  let s := modCpu c (fun x => { x with branch := some ((branchTarget dst pc v).toNat, 3) }) s
  if dst = 0xB2 then launchRes c 8 1 9 (BitVec.ofNat 32 (pc + 3)) s else s

/-- A trigger starts its unit's operation. -/
def trigger (c : Fin 5) (lat : Vector Word 11) (u : Nat) (m : Move) (s : State) : State :=
  match u with
  | 0 => let r := alu (m.dst - 0x40) lat[0] m.v; launch c 0 1 (.res [(0, r.1)] r.2 false) s
  | 1 => let r := alu (m.dst - 0x50) lat[1] m.v; launch c 1 1 (.res [(1, r.1)] r.2 false) s
  | 2 => launchRes c 2 2 2 (mulOp m.dst lat[2] m.v) s
  | 3 =>
    let r := divOp m.dst lat[3] m.v
    launch c 3 18 (.res [(3, r.q), (4, r.r)] r.v r.dz) (modCpu c (fun x => { x with divAt := some x.cycle }) s)
  | 4 => launchRes c 4 1 5 (bitOp m.dst lat[4] lat[5] m.v) s
  | 5 => launchRes c 5 1 6 (BitVec.ofNat 32 (b01 (cmpOp m.dst lat[6] m.v))) s
  | 6 => lsuTrigger c 7 (lsuOp (m.dst - 0x90)) lat[7] m.v s
  | 7 => lsuTrigger c 8 (lsuOp (m.dst - 0xA0)) lat[8] m.v s
  | 8 => brTrigger c m.dst m.v s
  | 9 => timeTrigger c m.dst m.v s
  | 10 => queTrigger c m.dst lat[9] m.v s
  | _ => evtTrigger c m.dst lat[10] m.v s

/-- A move into a guard port (Table 9.7). -/
def guardMove (m : Move) (g : Vector Bool 3) : Vector Bool 3 :=
  match m.dst with
  | 0xF0 => g.set 0 (m.v != 0)
  | 0xF1 => g.set 1 (m.v != 0)
  | 0xF2 => g.set 2 (m.v != 0)
  | 0xF3 => #v[bit m.v 0, bit m.v 1, bit m.v 2]
  | _ => g

/-- A guard that GALL and its own port write in one bundle: the manual gives it no value. [log 54 DEDUCED] -/
def guardFree (ms : List Move) (i : Nat) : Bool :=
  ms.any (fun m => m.dst == 0xF3) && ms.any (fun m => m.dst == 0xF0 + i)

/-- The guards after a bundle. -/
def guardsAfter (free : Word) (ms : List Move) (g : Vector Bool 3) : Vector Bool 3 :=
  mapUnits (ms.foldl (fun g m => guardMove m g) g) fun i b => if guardFree ms i.val then bit free i.val else b

/-- Registers, latches and guards take the values moved into them (R245, R250). -/
def writeRegs (c : Fin 5) (ms : List Move) (s : State) : State :=
  let free := s.freeVal.setWidth 32
  let s := modSet c (s.cpu c).keeper (fun l => { l with
    b := ms.foldl (fun b m => if 0x20 ≤ m.dst ∧ m.dst < 0x40 then updNat b (m.dst - 0x20) fun _ => m.v else b) l.b
    lat := latAfter l.lat ms
    g := guardsAfter free ms l.g }) s
  let s := modCpu c (fun x => { x with
    a := ms.foldl (fun a m => if 0 < m.dst ∧ m.dst < 0x20 then updNat a m.dst fun _ => m.v else a) x.a }) s
  if (List.range 3).any (guardFree ms) then tickFree s else s

/-- The triggers of a bundle; LSU0 acts before LSU1 (R255). -/
def runTriggers (c : Fin 5) (lat : Vector Word 11) (ms : List Move) (s : State) : State :=
  let go := fun (s : State) (m : Move) =>
    match unitOf m.dst with
    | some u => trigger c lat u m s
    | none => s
  (ms.filter fun m => unitOf m.dst == some 7).foldl go ((ms.filter fun m => unitOf m.dst != some 7).foldl go s)

/-- RETE: task level goes on at the saved address with the saved branch state (R265, Table 9.9). [log 54 DEDUCED] -/
def returnEntry (s : State) : State :=
  modCpu 0 (fun x => { x with
    keeper := false, pc := x.ra, branch := if x.retBranch.2 = 0 then none else some x.retBranch }) s

/-- The program counter passes a bundle: to the next, or to the target behind the last delay bundle (R256). -/
def advancePc (x : Cpu) : Cpu :=
  let y := { x with cycle := x.cycle + 1 }
  match x.branch with
  | some (t, n) => if n ≤ 1 then { y with pc := t, branch := none } else { y with pc := x.pc + 1, branch := some (t, n - 1) }
  | none => { y with pc := x.pc + 1 }

/-- The moves of a bundle take effect together, and the core passes to the next bundle. [log 54 DEDUCED] -/
def runMoves (c : Fin 5) (ms : List Move) (s : State) : State :=
  let lat := latAfter (s.lset c).lat ms
  let s := runTriggers c lat ms (writeRegs c ms s)
  let s := modCpu c advancePc s
  if c = 0 ∧ ms.any (fun m => m.dst == 0xF5) then returnEntry s else s

/-! ### Issue -/

/-- The slots of a bundle whose guards hold. -/
def State.enabled (s : State) (c : Fin 5) (w : DWord) : List MoveSlot :=
  let sl := if formOf w = 1 then [moveSlot w 0] else [moveSlot w 0, moveSlot w 1, moveSlot w 2]
  sl.filter fun x => guardHolds (s.lset c).g x.guard

/-- The value a slot moves. -/
def State.slotVal (s : State) (c : Fin 5) (w : DWord) (sl : MoveSlot) : Word :=
  if formOf w = 1 then immOf w else s.srcVal c sl.src

/-- An illegal encoding, whatever the guards (R251). [log 55 DEDUCED] -/
def badForm (w : DWord) : Bool :=
  match formOf w with
  | 0 => (moveSlot w 0).x || (moveSlot w 1).x || (moveSlot w 2).x
  | 1 => (moveSlot w 0).x || (moveSlot w 0).src != 0 || w.toNat % 256 != 0
  | 0xE => w.toNat % 2 ^ 60 != 0
  | 0xF => w.toNat % 2 ^ 60 != 0
  | _ => true

/-- The exception that a bundle reports, in the order of R267. [log 53 DEDUCED] -/
def bundleExc (c : Fin 5) (w : DWord) (sl : List MoveSlot) (ms : List Move) (s : State) : Option Exc :=
  if badForm w ∨ anyClash ms then some ⟨1, 0⟩
  else
    (sl.findSome? (portExc c (s.cpu c).keeper)) <|> (ms.findSome? (unitExc c s (latAfter (s.lset c).lat ms)))

/-- A bundle of moves: its exception, or its effect (R250, R267). -/
def runBundle (c : Fin 5) (w : DWord) (s : State) : State :=
  let x := s.cpu c
  let sl := s.enabled c w
  let ms := sl.map fun a => Move.mk a.dst (s.slotVal c w a)
  match bundleExc c w sl ms s with
  | some e => raise c x.keeper e.cause x.pc e.info x.branch s
  | none => runMoves c ms s

/-- WAIT: issue stops behind it (R258, R260); in a delay bundle it raises BRANCH_DELAY (R256). -/
def runWait (c : Fin 5) (w : DWord) (s : State) : State :=
  let x := s.cpu c
  if badForm w then raise c x.keeper 1 x.pc 0 x.branch s
  else if x.branch.isSome then raise c x.keeper 7 x.pc 0 x.branch s
  else modCpu c (fun x => { x with run := .waiting, pc := x.pc + 1, cycle := x.cycle + 1 }) s

/-- BREAK: the core halts while debug is open, or raises BREAK (R261, R272). [log 59 DEDUCED] -/
def runBreak (c : Fin 5) (w : DWord) (s : State) : State :=
  let x := s.cpu c
  if badForm w then raise c x.keeper 1 x.pc 0 x.branch s
  else if x.branch.isSome then raise c x.keeper 7 x.pc 0 x.branch s
  else if s.debugOpen then modCpu c (fun x => { x with run := .halted }) s
  else raise c x.keeper 0x0D x.pc 0 x.branch s

/-- A core can issue: it runs, the shepherd core takes no event, and a tick core stands in its window (R46, R47).
[log 56 DEDUCED] -/
def State.mayIssue (s : State) (c : Fin 5) : Bool :=
  (s.cpu c).run == .running &&
    (match tickOf c with
     | none => !s.takesEvent
     | some k => s.tick.phase == .core && s.tick.tc[k] == .running && s.inWindow (s.cpu c).cycle)

/-- The bundle at a core's program counter (R244). -/
def State.fetch (s : State) (c : Fin 5) : DWord := bundleAt c.val (s.cpu c).pc s

/-- One bundle of a form: what is due completes first, then the bundle issues unless that raised ECC_UNCORRECTABLE or
made an event line take the core. The words of the bundle are read under ECC; one that cannot be corrected raises
ECC_UNCORRECTABLE (R307, R308, R312). [log 52 DEDUCED; 114 DEDUCED] -/
def issue (c : Fin 5) (form : Nat → Bool) (run : DWord → State → State) (s : State) : State :=
  let x := s.cpu c
  let w := s.fetch c
  if !s.mayIssue c ∨ !form (if 16383 < x.pc then 2 else formOf w) then s
  else
    let r := completeDue c (x.cycle - 1) (coreTime c x.cycle s)
    match r.1 with
    | some a => raiseEcc c a r.2
    | none =>
      if !r.2.mayIssue c then r.2
      else if 16383 < x.pc then raise c x.keeper 8 16383 0 x.branch r.2
      else
        let r := eccSpan c.val (progKey c.val x.pc) 2 (modCpu c (fun y => { y with
          lastPc := x.pc, lastBranch := x.branch, lastKeeper := x.keeper }) r.2)
        if r.1 then run w r.2 else raise c x.keeper 0x0B x.pc (r.2.freeVal.setWidth 32) x.branch (tickFree r.2)

/-- MOVE3: a bundle of three moves, or of a reserved FORM (R248, R251), or beyond the last bundle (R257).
[log 55 DEDUCED] -/
def doMove3 (c : Fin 5) (s : State) : State := issue c (fun f => f != 1 && f != 0xE && f != 0xF) (runBundle c) s

/-- IMM32. -/
def doImm32 (c : Fin 5) (s : State) : State := issue c (· == 1) (runBundle c) s

/-- WAIT. -/
def doWait (c : Fin 5) (s : State) : State := issue c (· == 0xE) (runWait c) s

/-- BREAK. -/
def doBreak (c : Fin 5) (s : State) : State := issue c (· == 0xF) (runBreak c) s

/-! ### Operations that complete -/

/-- The operation that is due first, in the order of the triggers. -/
def nextDue : List Flight → Option Flight
  | [] => none
  | f :: fs =>
    match nextDue fs with
    | none => some f
    | some g => if g.due < f.due then some g else some f

/-- OPERATION_COMPLETE: the core's next operation completes, with what the memory does to its word. While the core
issues, none completes before its last bundle (R253). [log 52 DEDUCED] -/
def doOperationComplete (c : Fin 5) (u : Upset) (s : State) : State :=
  let x := s.cpu c
  match nextDue x.flight with
  | none => s
  | some f =>
    if x.run = .running ∧ x.cycle ≤ f.due then s
    else if c ≠ 0 ∧ !s.inWindow (f.due + 1) then s
    else
      let s := coreAt c (f.due + 1) s
      let r := completeOp c f u (modCpu c (fun x => { x with flight := x.flight.erase f }) s)
      match r.1 with
      | some a => raiseEcc c a r.2
      | none => r.2

/-! ### Lockstep -/

/-- The bundle that the comparator checks now, and its level: the one the pair issues, or the WAIT or BREAK behind which it
stands (R273). -/
def State.compared (s : State) : Option (Nat × Bool) :=
  let x := s.cpu 0
  if s.mayIssue 0 then some (x.pc, x.keeper)
  else if x.run = .waiting ∨ x.run = .halted then some (x.lastPc, x.lastKeeper)
  else none

/-- LOCKSTEP: the comparator finds a difference in the bundle that the pair issues. None of its accesses leaves the pair,
what earlier bundles triggered completes, and a restart begins (R267, R273). [log 115 DEDUCED] -/
def doLockstep (s : State) : State :=
  match s.compared with
  | some b => beginRestart (logEv 0x0301 5 locShepherd (pack64 [(0, b.1), (15, b01 b.2)]) (settle 0 s).2)
  | none => s

end Sys2Proof.Machine
end

