-- ==== Sys2Proof/Machine/Start.lean ====
section
/-! DEFINITION. Module resets, cold starts, and wakes from REST: what each keeps, what it loses, and what the ROM, the key
core and the update engine do before firmware runs (Tables 19.2, 19.6, 20.4). -/

namespace Sys2Proof.Machine

/-! ### Writes that are broken off -/

/-- A counter write that has not completed leaves the old counter; whether the copies of its slot then differ is a
free value (R444, R462). [log 82 DEDUCED; 85 DEDUCED] -/
def breakCounter (s : State) : State :=
  match s.acc.write with
  | none => s
  | some w =>
    let torn := s.freeVal.getLsbD 0
    tickFree (if torn then modKey (fun b => { b with torn := (64 + w.slot.val) :: b.torn.filter (· != 64 + w.slot.val) }) s
      else s)

/-- A write of the token store that began within the last 1 ms is broken off at a free instant of Table 18.2 (R444, R462).
[log 85 DEDUCED] -/
def breakStore (s : State) (w : StoreWrite) : State :=
  if w.at_ + 1000000 ≤ s.tb0Rest then s
  else
    let e := s.freeVal.toNat % 1000
    let s := tickFree s
    let s := if 10 ≤ e ∧ e < 630 then modKey (fun b => { b with torn := w.old.index.getLast?.toList ++ b.torn }) s else s
    if 310 ≤ e then s
    else modAcc (fun a =>
      match w.old with
      | .slot k t => { a with tok := a.tok.set k t }
      | .set ts q => { a with tok := ts, setSeq := q }
      | .lock l n q => { a with lockUntil := l, lockLen := n, lockSeq := q }) s

/-- A write of the write engine stops after a free number of its words (R314, R315). [log 85 DEDUCED] -/
def breakMw (s : State) : State :=
  if s.mem.mw = .busy then
    let n := s.freeVal.toNat % (s.mem.mwJob.2.2 + 1)
    tickFree ((List.range (n - s.mem.mwWords)).foldl (fun s _ =>
      if (s.mwKey (s.mem.mwJob.2.1 + 8 * s.mem.mwWords)).isSome then mwWord s else s) s)
  else s

/-- What runs in a non-volatile store when the logic loses power or is reset is broken off at a free instant.
[log 85 DEDUCED] -/
def breakOff (s : State) : State :=
  let s := match s.key.job with
    | none => s
    | some j => tickFree (breakWrite j (s.freeVal.toNat % 1000) s)
  breakMw (s.acc.writes.foldl breakStore (breakCounter s))

/-! ### What is kept -/

/-- A key lies in the keep bank. -/
def inKeep (k : Nat) : Bool := decide (keepBase ≤ k) && decide (k < 0xA00000)

/-- The memories with everything cleared but the keep bank, the MRAM with the marks of its words, and the repairs (R297, R298,
R311, R313). -/
def keepMem (keep : Bool) (m r : MemBlk) : MemBlk :=
  { r with
    ram := if keep then m.ram.filter fun c => inKeep c.1 else []
    flips := if keep then m.flips.filter fun x => inKeep x.1 else []
    marked := m.marked.filter fun k => keep && inKeep k || decide (0x10000000 ≤ k)
    mram := m.mram
    bank := mapUnits r.bank fun b x => { x with spared := m.bank[b].spared } }

/-- The non-volatile stores and the model's own fields, on a record of a start (R349, R463, R464).
[log 100 DEDUCED] -/
def keepStores (s r : State) : State :=
  { r with
    pending := s.pending
    freeCount := s.freeCount
    mem := keepMem false s.mem r.mem
    key := { r.key with
      slot := s.key.slot.map fun x => { x with uses := 0 }
      lcs := s.key.nextLcs, fuse := s.key.settleFuses, torn := s.key.torn }
    acc := { r.acc with
      tok := s.acc.tok.map fun t => { t with uses := 0, cand := none }, lockUntil := s.acc.lockUntil, lockLen := s.acc.lockLen
      setSeq := s.acc.setSeq, lockSeq := s.acc.lockSeq }
    fab := { r.fab with serial := s.fab.serial }
    tally := { r.tally with
      seq := s.tally.seq, archSeq := s.tally.archSeq, archSlot := s.tally.archSlot, boot := s.tally.boot } }

/-- The always-on domain: TB0 with the other bases set to it, the keep bank, the tamper latch, wake addresses and wake
settings (R298, R338, R419, R474, R563). -/
def keepAlwaysOn (s r : State) : State :=
  let tb0 := s.time.tb[0]
  let other : TimeBase := { TimeBase.start false with value := tb0.value }
  { r with
    time := { r.time with tb := #v[{ TimeBase.start true with value := tb0.value }, other, other, other] }
    mem := keepMem true s.mem r.mem
    key := { r.key with tamper := s.key.tamper, tamptime := s.key.tamptime }
    mbus := { r.mbus with wakeaddr := s.mbus.wakeaddr, wakegrp := s.mbus.wakegrp }
    pwr := { r.pwr with
      wakeCfg := s.pwr.wakeCfg, alarm := s.pwr.alarm, aoCause := s.pwr.aoCause } }

/-- The outer dies hold their outputs and configuration through a module reset; their counters restart (R30, R558).
[log 97 DEDUCED] -/
def keepLanes (s r : State) : State :=
  { r with
    hsw := { r.hsw with ch := s.hsw.ch.map fun h => { h with trips := 0, lastTrip := 0 }, fold := s.hsw.fold }
    sol := { s.sol with ch := s.sol.ch.map fun c => { c with events := 0, drops := 0, delayed := Vector.replicate 16 none } }
    led := { r.led with
      pos := s.led.pos.map fun h => { h with faults := 0 }
      str := s.led.str, shift := s.led.shift, nstr := s.led.nstr, offs := s.led.offs
      chain := s.led.chain.map fun h => { ChainState.start with busy := h.busy, span := h.span, frame := h.frame } }
    strct := { r.strct with dies := if s.strct.inForce then some s.cfg else s.strct.dies }
    tick := { r.tick with missed := s.tick.missed, dieRest := s.tick.dieRest, frameAt := s.tick.frameAt } }

/-- The start count rises, and SEQ resumes past every number used (R349). [log 96 DEDUCED] -/
def countStart (s : State) : State :=
  modTally (fun t => { t with
    boot := t.boot + 1
    seq := match t.archSeq with
      | some a => a + 8193
      | none => t.seq }) s

/-! ### Module reset -/

/-- The windows lose their holders at a module reset, their bursts in progress complete, and WIN_CLOSED is written (R321).
Table 12.2 lists no cause for it: the cause field is a free value. [log 116 DEDUCED] -/
def closeWins (s : State) : State := loseWins (s.freeVal.toNat % 8) (fun w => w.holder != .none) (tickFree s)

/-- A module reset with its cause bits of SYS_RESETCAUSE (R12, R297, R338, R340, R349, R558, R559, R563).
Pending event lines are kept (R294). [log 32 DEDUCED; 91 DEDUCED; 96 DEDUCED; 97 DEDUCED] -/
def resetModule (cause : Nat) (s : State) : State :=
  let s := breakOff (closeWins s)
  let was := s.time.tb
  let r := keepLanes s (keepAlwaysOn s (keepStores s State.reset))
  let r := { r with
    sys := { r.sys with cause := s.sys.cause &&& (if s.pwr.starting then 0xFFFFFFFF else 0) ||| BitVec.ofNat 32 cause }
    evt := { r.evt with pend := s.evt.pend }
    pwr := { r.pwr with wakeAt := s.tb0 } }
  let r := countStart { r with time := { r.time with tb := mapUnits r.time.tb fun n b => { b with oos := was[n].oos } } }
  [1, 2, 3].foldl (fun s (n : Fin 4) => setOos n true 1 s) r

/-- MODULE_RESET: an accepted reset request, or a restart activation, takes effect at the commit mark (R518, R558). -/
def doModuleReset (s : State) : State :=
  if s.tick.phase = .measure ∧ s.resetDue then
    let soft := s.sys.resetPending
    let upd := s.upd.state == .scheduled && s.upd.restart && s.upd.written
    resetModule (4 * b01 soft + 8 * b01 upd) s
  else s

/-- What the instruction IDCODE of JTAG shifts out, at all times (Table 22.8, R545). -/
def jtagIdcode : Word := 0x04800A1B#32

/-- RESET_THROUGH_JTAG: while debug is open (Tables 18.3 and 23.3); otherwise the instruction acts as BYPASS (R545). -/
def doResetThroughJtag (s : State) : State := if s.debugOpen then resetModule 16 s else s

/-! ### Self-test and key core at a start -/

/-- The tile of a self-test item (Table 21.2, Table 1.4); of the tiles that an item with several covers, `n` picks one: the
fabric, message-bus, audio and tally engines, the keep bank in the always-on tile, and the tiles of the outer dies.
[log 98 DEDUCED] -/
def bistTile (i n : Nat) : Word :=
  match i with
  | 5 => locTile 0 10
  | 6 => locTile 0 (11 + n % 4)
  | 7 => if n % 6 = 5 then locTile 3 7 else locTile 0 (if n % 6 = 0 then 7 else n % 6 - 1)
  | 8 => locTile 0 6
  | 9 => [locTile 1 0, locTile 2 0, locTile 3 0, locTile 3 1, locTile 3 2, locTile 3 3, locTile 3 4, locTile 3 5,
      locTile 4 0, locTile 4 1].getD (n % 10) 0
  | _ => locTile 0 i

/-- The rows that the march test finds failing are spared; which they are is a free value (R311, R533). [log 98 DEDUCED] -/
def spareFailing (s : State) : State :=
  (List.range (1 + s.freeVal.toNat % 16384)).foldl
    (fun s _ => tickFree (spareRow (s.freeVal.toNat % 16) (s.freeVal.toNat / 16 % 1024) s)) (tickFree s)

/-- One self-test item; the signature read and the tile of an item with several are free values (R533, Table 21.2).
[log 98 DEDUCED] -/
def bistItem (fail : Word) (s : State) (i : Nat) : State :=
  let tile := bistTile i s.freeVal.toNat
  let s := tickFree s
  if bit fail i then
    let s := setIrq .pert 1 (logEv 0xF011 6 tile (pack64 [(0, i)] ||| (s.freeVal <<< 32)) (tickFree s))
    let s := modPert (fun p => { p with bistFail := setBit p.bistFail i }) s
    if i = 8 then spareFailing s else s
  else logEv 0xF010 1 tile (pack64 [(0, i)]) (modPert (fun p => { p with bistPass := setBit p.bistPass i }) s)

/-- The built-in self-test. [log 98 DEDUCED] -/
def bist (fail : Word) (s : State) : State := (List.range 10).foldl (bistItem fail) s

/-- The sequence number in force of a slot by its number in KEY_PENDMAP (R462). -/
def State.pendSeq (s : State) (k : Nat) : Nat :=
  if k < 64 then (s.slot k).seq.toNat
  else if k < 80 then (getNat s.acc.tok (k - 64) TokenSlot.empty).seq.toNat
  else if k = 80 then s.acc.setSeq.toNat else s.acc.lockSeq.toNat

/-- The copies of a slot by its number in KEY_PENDMAP differ (R462). -/
def State.pendDiffers (s : State) (k : Nat) : Bool := if k < 64 then (s.slot k).differs else s.key.torn.contains k

/-- One slot whose copies differ is repaired from the copy in force and reported (R462). [log 85 DEDUCED] -/
def settleSlot (s : State) (k : Nat) : State :=
  if s.pendDiffers k then
    let n := s.pendSeq k
    let s := modSlot k (fun x => { x with a := some x.inForce, b := some x.inForce }) s
    let s := hwBit .key 0x008 4 (hwBit .key (0x030 + k / 32 * 4) (1#32 <<< (k % 32)) s)
    setIrq .key 2 (logEv 0xC004 4 locKeyCore (pack64 [(0, k), (32, n)])
      (modKey (fun b => { b with pendmap := setBit b.pendmap k, pendingFlag := true }) s))
  else s

/-- The key core settles its store (R462). -/
def settleKeys (s : State) : State := modKey (fun b => { b with torn := [] }) ((List.range 82).foldl settleSlot s)

/-- No slot holds a valid IMG pair (R468). -/
def State.noImgPair (s : State) : Bool := (List.range 32).all fun i => !s.imgPair (2 * i)

/-- Slots written under an earlier state (R464). -/
def State.staleKeys (s : State) : Bool := (List.range 64).any fun k => s.slotStale k

/-- Keys are released or withheld (R467). [log 99 DEDUCED] -/
def releaseKeys (s : State) : State :=
  let held := s.key.tamper ≠ 0 || (s.key.debug && (s.key.lcs == 3 || s.key.lcs == 4))
  logEv 0xC00D 3 locKeyCore (pack64 [(0, b01 held), (1, b01 s.key.provision), (2, b01 s.staleKeys)])
    (modKey (fun b => { b with released := b.lcs != 6, withheld := held }) s)

/-! ### Choosing the pair -/

/-- The pair of the boot record is exchanged for the other one at a start, without a trial (R513, R521).
[log 99 DEDUCED] -/
def startFallback (cause : Nat) (st : UpdState) (s : State) : State :=
  updIrq 5 (logUpd 0xE00A 5 [(0, cause)]
    (modUpd (fun u => { u with state := st, fbCause := cause }) (writeBoot s.fallbackRecord s)))

/-- A start in a trial is counted (R521). Word 10, the first tick of the start, is a free value until that tick begins.
[log 104 DEDUCED] -/
def trialStart (s : State) : State :=
  let n := s.upd.boot.tstarts + 1
  let s := tickFree (writeBoot { s.upd.boot with tstarts := n, tick := s.freeVal } s)
  logUpd 0xE00D 3 [(0, n)] (modUpd (fun u => { u with state := .trial }) s)

/-- A structure image that fails its checks at a start is reported (R67). -/
def startReject (pair : Bool) (s : State) : State :=
  let reason := s.slotReasonOf pair
  if s.fwReason pair = 0 ∧ reason ≠ 0 then
    rejectEntries pair reason (modStruct (fun x => { x with reason := reason }) s)
  else s

/-- A pair is verified at a start (R506). -/
def startVerifies (pair : Bool) (s : State) : Bool × State :=
  (s.pairReason pair == 0, modUpd (fun u => { u with reason := if s.pairReason pair = 0 then u.reason else s.pairReason pair })
    (refuseFirmware pair (startReject pair s)))

/-- The confirmed pair runs, the other one when it is not valid, or the module stays in ROM recovery (R513). -/
def startConfirmed (s : State) : State :=
  let act := s.upd.boot.act
  let (ok, s) := startVerifies act s
  if ok then s
  else
    let (other, s) := startVerifies (!act) s
    if other then startFallback 4 .idle s
    else
      let ra := s.pairReason false
      let rb := s.pairReason true
      logUpd 0xE00B 6 [(0, ra), (8, rb)] (modUpd (fun u => { u with recovery := true }) s)

/-- The pair that runs is chosen (R513, R521). [log 99 DEDUCED] -/
def choosePair (s : State) : State :=
  let b := s.upd.boot
  if !b.trial then startConfirmed s
  else if b.tstarts = 3 then startConfirmed (startFallback 2 .fallback s)
  else
    let (ok, s) := startVerifies b.act s
    if ok then trialStart s else startConfirmed (startFallback 4 .fallback s)

/-- The boot record in force is taken, and a lagging or torn copy rewritten from it (R508). -/
def takeBoot (s : State) : State :=
  match s.bootChoice with
  | some r => putCopies r (modUpd (fun u => { u with boot := r }) s)
  | none => s

/-- The structure image is loaded into the shadow and the shepherd core reaches its reset entry; the fallback tick of a
trial counts from the first tick of the start (Table 20.4, R521, R522). -/
def runPair (s : State) : State :=
  let s := doShadowReady (loadShadow s.upd.boot.act s)
  let t : Nat := match s.strct.shImage with
    | some g => g.periodNs
    | none => s.T
  let s := modUpd (fun u => { u with fAt := 1 + u.boot.confwin * 1000000000 / t }) s
  let s := modKey (fun b => { b with fwDigest := fwDigest (s.fwImage s.upd.boot.act) }) s
  enterReset (passTo 0 ((s.pwr.wakeAt + 90000000) * 2 ^ 32) s)

/-! ### Cold start -/

/-- The module as it powers up: the OFF cell keeps WAKECFG[6:0] and AOCAUSE, a lock-out starts again with its full
length (R298, R338, R447, R484). -/
def powerUp (s : State) : State :=
  let s := breakOff s
  let r := keepStores s State.reset
  countStart { r with
    sys := { r.sys with cause := 3 }
    mem := { r.mem with keepLost := true }
    acc := { r.acc with
      lockUntil := r.acc.lockUntil.map fun _ => r.acc.lockLen * 60000000000 }
    pwr := { r.pwr with wakeCfg := s.pwr.wakeCfg &&& 0x7F, aoCause := s.pwr.aoCause, regRetry := s.pwr.regRetry } }

/-- Everything from the built-in self-test to the release of keys (Table 20.4). [log 96 DEDUCED] -/
def startKeys (fail : Word) (s : State) : State :=
  let t := s.pwr.wakeAt
  let s := bist fail (passTo 0 ((t + 60000000) * 2 ^ 32) s)
  let s := takeBoot (settleKeys s)
  let s := tickFree (modKey (fun b => { b with nonce := s.freeVal, provision := b.lcs != 6 && s.noImgPair }) s)
  let s := if s.key.lcs = 6 ∨ s.key.provision then s else choosePair s
  releaseKeys (passTo 0 ((t + 85000000) * 2 ^ 32) s)

/-- The module runs no firmware (R464, R468, R513). -/
def State.noFirmware (s : State) : Bool := s.key.lcs == 6 || s.key.provision || s.upd.recovery

/-- OFF is left by an enabled WAKE pin, or by VBL returning after under-voltage: it has stayed above 14.4 V for 10 ms. `vbl`
is its lowest value of the last 10 ms in 10 mV (R498, Table 19.1). -/
def State.leavesOff (s : State) (pins : BitVec 4) (vbl : Half) : Bool :=
  pinFires s.pwr.wakeCfg 0 pins false || pinFires s.pwr.wakeCfg 1 pins false || (s.pwr.vblLow && decide (1440 < vbl.toNat))

/-- COLD_START: a start from OFF, or the start after a module reset, up to the reset entry (R510). `por` says that the
always-on domain gained power, as it does at every start from OFF. In provisioning every output lane is off (R468).
[log 2 DESIGN CHOICE; 96 DEDUCED; 109 DESIGN CHOICE] -/
def doColdStart (por : Bool) (bistFail : Word) (pins : BitVec 4) (vbl : Half) (s : State) : State :=
  if (if s.pwr.mode = .off then !s.leavesOff pins vbl else !s.pwr.starting) then s
  else
    let off := s.pwr.mode == .off
    let cause := s.sys.cause
    let s := if off || por || cause == 0 then powerUp s else s
    let s := if off then s else { s with sys := { s.sys with cause := s.sys.cause ||| cause } }
    let s := if off && s.pwr.aoCause != 0 then logPwr 0xD009 5 [(0, s.pwr.aoCause)] s else s
    let s := startKeys bistFail s
    let s := if s.key.provision then dark { s with strct := { s.strct with dies := none } } else s
    let s := if s.noFirmware then s else runPair s
    { s with
      pwr := { s.pwr with starting := false }
      led := { s.led with chain := s.led.chain.map fun h => { h with restDue := true } } }

/-! ### Wake -/

/-- A base at the end of REST: advanced by the cycles counted, at the rate it had (R339); no engine steers it
(R341). -/
def TimeBase.afterRest (n : Nat) (b : TimeBase) : TimeBase :=
  { b with value := b.value + BitVec.ofNat 96 (restRaw n * b.inc / 21474836480), slew := false, past := [] }

/-- A channel keeps only a latch through REST, a string only HOT (Table 19.2). -/
def hsAfterRest (h : HsState) : HsState :=
  { HsState.start with prot := if h.prot = .latchOc ∨ h.prot = .latchTh then h.prot else .off, sensed := h.sensed }

/-- A pattern engine keeps its registers (R183); its count restarts. [log 39 DEDUCED] -/
def patternAfterRest (p : PatternState) : PatternState := { p with ran := 0, t := 0, fresh := true, levels := [] }

/-- An output keeps only its escalation (R236, R495). -/
def outAfterRest (x : OutState) : OutState :=
  { OutState.start with esc := x.esc, escLeft := x.escLeft, escUntil := x.escUntil }

/-- The blocks of the outputs and inputs after REST. -/
def lanesAfterRest (s r : State) : State :=
  { r with
    cfg := s.cfg
    strct := { r.strct with inForce := s.strct.inForce, active := s.strct.active }
    hsw := { r.hsw with ch := s.hsw.ch.map hsAfterRest }
    led := { r.led with
      str := mapUnits r.led.str fun k h => { h with hot := s.led.str[k].hot }
      pe := s.led.pe.map patternAfterRest, shift := s.led.shift, nstr := s.led.nstr }
    hurdle := { r.hurdle with out := s.hurdle.out.map outAfterRest } }

/-- Keys, tokens, memories, queues, the update and the self-test results after REST. [log 94 DEDUCED; 100 DEDUCED] -/
def storesAfterRest (s r : State) : State :=
  let u := s.upd
  let staged := u.state == .loading || u.state == .verified || u.state == .scheduled
  { r with
    key := { r.key with
      lcs := s.key.lcs, fuse := s.key.fuse, torn := s.key.torn, debug := s.key.debug
      provision := s.key.provision, tamper := s.key.tamper, tamptime := s.key.tamptime, nonce := s.key.nonce
      pendmap := s.key.pendmap, pendingFlag := s.key.pendingFlag, fwDigest := s.key.fwDigest }
    acc := { r.acc with
      parked := s.acc.parked, tok := mapUnits r.acc.tok fun k t => { t with cand := s.acc.tok[k].cand } }
    mem := { r.mem with
      ownersSet := s.mem.ownersSet, startOwners := s.mem.startOwners
      bank := mapUnits r.mem.bank fun b x => if b.val < 16 then { x with owner := getNat s.mem.startOwners b.val 0 } else x }
    que := { r.que with bind := s.que.bind }
    core := { r.core with halted := s.core.halted }
    pert := { r.pert with
      ticket := s.pert.ticket, ticketMask := s.pert.ticketMask, bistPass := s.pert.bistPass, bistFail := s.pert.bistFail }
    upd := { r.upd with
      state := if staged then .idle else u.state, boot := u.boot, recovery := u.recovery, fAt := u.fAt
      migFail := u.migFail, fbCause := u.fbCause, reason := u.reason } }

/-- Clocks, tick count, power and bus settings after REST; the bases are advanced and TB1 to TB3 have their step
armed. [log 89 DEDUCED; 91 DEDUCED] -/
def clocksAfterRest (n : Nat) (s r : State) : State :=
  let p := s.pwr
  { r with
    reports := s.reports
    sys := { r.sys with cause := s.sys.cause }
    tick := { r.tick with src := s.tick.src, count := s.tick.count, executed := s.tick.executed }
    time := { r.time with
      tb := mapUnits s.time.tb fun k b => { b.afterRest n with stepOk := k.val != 0 }, mapTicks := s.time.mapTicks }
    mbus := { r.mbus with
      statCause := s.mbus.statCause, statCh := s.mbus.statCh, statAddr := s.mbus.statAddr
      ch := mapUnits r.mbus.ch fun k c => { c with wake := decide (4 ≤ k.val) && s.mbus.ch[k].wake, decoded := s.mbus.ch[k].decoded } }
    pwr := { r.pwr with
      starting := false, mode := .wake, opCur := p.opCur, opReq := p.opReq, maxAwake := p.maxAwake
      falseWake := p.falseWake, rests := p.rests, falseWakes := p.falseWakes, entryTime := p.entryTime
      regRetry := false, woke := true, vblLow := p.vblLow, vblAt := p.vblAt, noVbl := p.noVbl } }

/-- What the module holds at a wake (Table 19.2, R483), the bases advanced by `n` cycles of 32.768 kHz (R339).
[log 38 DEDUCED] -/
def wakeState (n : Nat) (s : State) : State :=
  let r := keepAlwaysOn s (keepStores s State.reset)
  clocksAfterRest n s (storesAfterRest s (lanesAfterRest s r))

/-- TB0 at entry complete. -/
def State.restBegan (s : State) : Nat := (s.time.tb[0].value.toNat + restRaw 12) / 2 ^ 32

/-- The time alarm can fire: it is set, enabled, and was not passed at entry complete (R491). [log 93 DEDUCED] -/
def State.alarmSet (s : State) : Bool :=
  s.pwr.alarm != 0 && decide (s.restBegan < s.pwr.alarm.toNat)

/-- The bits of PWR_WAKECAUSE of the sources that have fired (R489, R493): the events named, the WAKE pins by their levels, and
every latch that is set; a request pending at entry complete is bit 10. [log 93 DEDUCED] -/
def State.wakeCauses (s : State) (sources : Half) (pins : BitVec 4) : Half :=
  let m := s.wakeMask pins false s.alarmSet
  let w := (sources &&& m &&& 0x2E0) ||| (m &&& 0x11F)
  let p := s.pwr.pendWake
  if p = 0 then w else w ||| p ||| 0x400

/-- The entries of the always-on domain are written: tampers latched in REST and the end of a lock-out (R347, R447). -/
def alwaysOnEntries (rest : List (DWord × BitVec 5)) (s : State) : State :=
  let s := rest.foldl (fun s x => setIrq .key 1
    (logTb0 x.1.toNat 0xC005 7 locAo (pack64 [(0, x.2.toNat), (8, 1)]) s)) s
  match s.acc.lockUntil with
  | some t => if t ≤ s.tb0 then doLockoutEnd s else s
  | none => s

/-- Readers whose wake source fired request a poll (R451, R495); a touch that woke the module is confirmed, and repeats its
requests while it lasts (R437). Of two depot readers the one that a token answered is a free value. [log 93 DEDUCED] -/
def wakePolls (w : Half) (s : State) : State :=
  let two := s.readerClass 0 == 2 && s.readerClass 1 == 2
  let pick := s.freeVal.getLsbD 0
  let s := if two then tickFree s else s
  (List.finRange 2).foldl (fun s r =>
    if [0, 1].any fun h => w.getLsbD (5 + h) && s.handleReader h r.val then
      requestPoll r (modRd r (fun x => { x with touch := true, touchAt := s.tb0, touchPolls := 1 }) s)
    else if w.getLsbD 7 && s.readerClass r.val == 2 && (!two || pick == (r.val == 1)) then requestPoll r s
    else s) s

/-- WAKE: the module leaves REST at W (Table 19.6). The shepherd core's reload follows with SHEPHERD_RESTART, the
first tick with TICK_START. [log 92 DEDUCED] -/
def doWake (sources : Half) (pins : BitVec 4) (s : State) : State :=
  let w := s.wakeCauses sources pins
  if s.pwr.mode ≠ .rest ∨ w = 0 then s
  else
    let s := if w.getLsbD 9 ∧ s.pwr.pendWake = 0 then restTo s.pwr.alarm.toNat s else s
    let n := if s.pwr.pendWake = 0 then s.pwr.restCycles else 12
    let rest := s.pwr.restTampers
    let s := wakeState n (breakOff s)
    let s := logTb0 s.tb0 0x7007 2 locTime (pack64 [(0, n % 2 ^ 48)]) s
    let s := takeSource false ([1, 2, 3].foldl (fun s (n : Fin 4) => setOos n true 1 s) s)
    let s := modPwr (fun p => { p with wakeAt := s.tb0, wakeCause := w }) s
    let s := alwaysOnEntries rest s
    let secs := Config.rounded (restRaw (n - 12)) (1000000000 * 2 ^ 32)
    let s := logTb0 s.pwr.wakeAt 0xD002 2 locAo (pack64 [(0, w.toNat), (32, secs % 2 ^ 32)]) s
    let s := wakePolls w (releaseKeys (settleKeys (accWake s)))
    if s.noFirmware then s
    else modCore (fun c => { c with reload := .wake, restartAt := some s.tb0 }) s

/-- REG_RETRY: the regulators were not ready within 2 ms; they are at the second try, or the module falls to OFF
(R496). [log 92 DEDUCED] -/
def doRegRetry (ok : Bool) (s : State) : State :=
  if s.pwr.mode ≠ .wake ∨ s.pwr.regRetry then s
  else if ok then
    logTb0 (s.pwr.wakeAt + 2000000) 0xD007 4 locReg 0 (modPwr (fun p => { p with regRetry := true }) s)
  else goOff 3 (modPwr (fun p => { p with regRetry := true }) s)

/-- The delay of a wake by the regulators' second try (R496). -/
def State.wakeDelay (s : State) : Nat := 3000000 * b01 s.pwr.regRetry

/-- CLOCK_DEGRADED: the crystal has not started 5 ms after W (R497). [log 92 DEDUCED] -/
def doClockDegraded (s : State) : State :=
  if s.pwr.mode ≠ .wake ∨ s.pwr.degraded then s
  else
    let s := modPwr (fun p => { p with degraded := true }) s
    mbusDegraded true (setIrq .pwr 3 (logTb0 (s.pwr.wakeAt + 5000000 + s.wakeDelay) 0xD006 4 locReg 0 s))

/-- The wake tick: it starts 2.25 ms after W, 5.25 ms without the crystal, and when that is no multiple of T it is
numbered as the next one and ends as a stretched tick (R494). [log 92 DEDUCED] -/
def wakeTick (s : State) : State :=
  let start := s.pwr.wakeAt + s.wakeDelay + (if s.pwr.degraded then 5250000 else 2250000)
  let s := passTo 0 (start * 2 ^ 32) (modPwr (fun p => { p with mode := .run }) (pertTick s))
  let s := beginTick (ceilDiv start s.T) start s
  let s := { s with tick := { s.tick with stepped := decide (start % s.T ≠ 0) } }
  setIrq .pwr 2 (modPwr (fun p => { p with quietSince := s.tb0 }) s)

/-- The first tick of a trial start is the number that its boot record holds in word 10 (R521). [log 104 DEDUCED] -/
def noteFirstTick (s : State) : State :=
  let r := { s.upd.boot with tick := s.tick.count }
  if s.upd.state = .trial ∧ s.upd.boot.trial then putCopies r (modUpd (fun u => { u with boot := r }) s) else s

/-- TICK_START, with the wake tick (R36, R494). -/
def doTickStartRow (s : State) : State :=
  match s.pwr.mode with
  | .run =>
    let t := doTickStart s
    if s.tick.executed = 0 ∧ t.tick.executed = 1 then noteFirstTick t else t
  | .wake => if s.strct.inForce then wakeTick s else s
  | _ => s

/-- SAMPLE_MARK, with what the power tile does in each tick (R500, R503). -/
def doSampleMarkRow (m : Sample) (s : State) : State :=
  let t := doSampleMark m s
  if s.tick.phase = .begun ∧ t.tick.phase = .engine then powerMark m.wakePins t else t

/-- SHEPHERD_RESTART: the reload of the shepherd core is complete and its reset entry runs (Table 9.11, R517). After a
wake the tick programs of the image in force are loaded too (Table 19.6). [log 94 DEDUCED] -/
def doShepherdRestart (s : State) : State :=
  match s.core.restartAt with
  | none => s
  | some t =>
    let ok := s.fwReason s.upd.boot.act == 0 && !s.core.spoiled
    if s.core.reload = .wake then
      let s := finishReload t ok s
      (List.finRange 4).foldl (fun s k => if s.cfg.proof[k].worst = 0 then s else doTploadDone k (startLoad k s)) s
    else finishReload t ok s

end Sys2Proof.Machine
end

