-- ==== Sys2Proof/Machine/CmdAccess.lean ====
section
/-! DEFINITION. The meanings of the commands of access: one for each row of the table, over the operations of the block it acts on.
In REST and OFF an unpowered domain takes no command (R481). -/

namespace Sys2Proof.Machine

/-- HANDLE_TOUCH (R437): A confirmed touch on a handle requests a poll. -/
def execHandleTouch (r : Fin 2) (a b : Half) (s : State) : Host.Outcome State Fault Refusal :=
  .next (whenOn (doHandleTouch r a b) s)

/-- TOUCH_REPEAT (R437): A touch still confirmed requests a further poll every 250 ms, up to 8. -/
def execTouchRepeat (r : Fin 2) (s : State) : Host.Outcome State Fault Refusal := .next (whenOn (doTouchRepeat r) s)

/-- POLL_START (R438): A requested poll starts its LF burst at the first commit mark once no other poll runs. -/
def execPollStart (r : Fin 2) (s : State) : Host.Outcome State Fault Refusal := .next (whenOn (doPollStart r) s)

/-- RD_POLL (R439): RD_CTRL.POLL from keeper level requests a poll. -/
def execRdPoll (rq : Requester) (r : Fin 2) (s : State) : Host.Outcome State Fault Refusal :=
  .next (whenOn (doRdPoll rq r) s)

/-- DEPOT_POLL (R450): A depot reader's 30 s timer requests a poll. -/
def execDepotPoll (r : Fin 2) (s : State) : Host.Outcome State Fault Refusal := .next (whenOn (doDepotPoll r) s)

/-- TOKEN_RECORD (R442): A TKR record in a reply slot is judged by slot outcome and counter rule. -/
def execTokenRecord (bytes : List Byte) (age : Nat) (s : State) : Host.Outcome State Fault Refusal :=
  .next (whenOn (doTokenRecord bytes age) s)

/-- COUNTER_WRITE_DONE (R444): The new last counter is written to the token slot, and a success starts the reader's
session. -/
def execCounterWriteDone (s : State) : Host.Outcome State Fault Refusal := .next (whenOn doCounterWriteDone s)

/-- POLL_END (R445): A poll ends, and its collision run is updated. -/
def execPollEnd (s : State) : Host.Outcome State Fault Refusal := .next (whenOn doPollEnd s)

/-- RESYNC_LAPSED (R443): A resynchronisation candidate lapses after 10 s without a code. -/
def execResyncLapsed (ts : Fin 16) (s : State) : Host.Outcome State Fault Refusal := .next (whenOn (doResyncLapsed ts) s)

/-- LOCKOUT_END (R447): A lock-out's time runs out. -/
def execLockoutEnd (s : State) : Host.Outcome State Fault Refusal := .next (doLockoutEnd s)

/-- SESSION_END (R449): A session ends on its door edge, its timeout or another cause, and source 8 withdraws. -/
def execSessionEnd (r : Fin 2) (cause : Fin 4) (s : State) : Host.Outcome State Fault Refusal :=
  .next (whenOn (doSessionEnd r cause) s)

/-- LEARN_START (R452): ACC_LEARN.START ends sessions, erases the token slots and enters learning. -/
def execLearnStart (rq : Requester) (v : Word) (s : State) : Host.Outcome State Fault Refusal :=
  .next (whenOn (doLearnStart rq v) s)

/-- LEARN_END (R454): Learning ends on END, the sixteenth token, a 120 s timeout, a lock-out or REST. -/
def execLearnEnd (cause : Fin 8) (s : State) : Host.Outcome State Fault Refusal := .next (whenOn (doLearnEnd cause) s)

/-- LEARN_POLL (R453): Every 500 ms during learning a learn poll is sent; TOKEN_RECORD brings its reply, and a valid one is
enrolled. -/
def execLearnPoll (s : State) : Host.Outcome State Fault Refusal := .next (whenOn doLearnPoll s)

/-- PARK_STOP (R451): After PARKDAYS in REST without a wake, the periodic bursts stop. -/
def execParkStop (s : State) : Host.Outcome State Fault Refusal := .next (doParkStop s)

end Sys2Proof.Machine
end

