-- ==== Sys2Proof/Machine/CmdAudio.lean ====
section
/-! DEFINITION. The meanings of the commands of audio: one for each row of the table, over the operations of the block it acts on.
In REST and OFF an unpowered domain takes no command (R481). -/

namespace Sys2Proof.Machine

/-- ACTIVE_WRITE (R425): A write of AUD_STR_CTRL.ACTIVE marks a local stream's frames active. -/
def execActiveWrite (rq : Requester) (k : Fin 32) (v : Word) (s : State) : Host.Outcome State Fault Refusal :=
  .next (whenOn (doActiveWrite rq k v) s)

end Sys2Proof.Machine
end

