-- ==== Sys2Proof/Machine/CmdBuses.lean ====
section
/-! DEFINITION. The meanings of the commands of message buses: one for each row of the table, over the operations of the block it acts on.
In REST and OFF an unpowered domain takes no command (R481). -/

namespace Sys2Proof.Machine

/-- CAN_RX_FRAME (R405): A valid received frame is filtered, queued and mapped. -/
def execCanRxFrame (ch : Fin 6) (f : CanFrame) (age : Nat) (s : State) : Host.Outcome State Fault Refusal :=
  .next (whenOn (doCanRxFrame ch f age) s)

/-- CAN_TX_TAKE (R406): The engine takes a complete frame from the channel's TXQ, or refuses it. -/
def execCanTxTake (ch : Fin 6) (s : State) : Host.Outcome State Fault Refusal := .next (whenOn (doCanTxTake ch) s)

/-- TX_FRAME (R406): A frame has been sent on the bus. -/
def execTxFrame (ch : Fin 6) (age : Nat) (delay : Nat) (s : State) : Host.Outcome State Fault Refusal :=
  .next (whenOn (doTxFrame ch age delay) s)

/-- REF_SEND (R411): At a commit mark of a multiple of 8 × REFPER ticks, the master queues a reference frame. -/
def execRefSend (s : State) : Host.Outcome State Fault Refusal := .next (whenOn doRefSend s)

/-- REF_LOST (R413): No reference pair within 4 × P takes TB2 out of service. -/
def execRefLost (s : State) : Host.Outcome State Fault Refusal := .next (whenOn doRefLost s)

/-- MAP_TIMEOUT (R410): Every mapping timeout of an output runs out, and source 7 falls absent. -/
def execMapTimeout (o : Fin 256) (s : State) : Host.Outcome State Fault Refusal := .next (whenOn (doMapTimeout o) s)

/-- CAN_BUS_ERROR (R395): A bus error updates the error counters and can make the controller error passive or bus-off.
-/
def execCanBusError (ch : Fin 6) (tx special : Bool) (code : Fin 7) (age : Nat) (s : State) :
    Host.Outcome State Fault Refusal :=
  .next (whenOn (doCanBusError ch tx special code age) s)

/-- BUS_ON (R395): After 128 sequences of 11 recessive bits the controller returns from bus-off. -/
def execBusOn (ch : Fin 6) (s : State) : Host.Outcome State Fault Refusal := .next (whenOn (doBusOn ch) s)

/-- CH_INIT (R396): A write of CH_CTRL.INIT enters or leaves initialisation. -/
def execChInit (rq : Requester) (ch : Fin 6) (v : Bool) (s : State) : Host.Outcome State Fault Refusal :=
  .next (whenOn (doChInit rq ch v) s)

/-- MBUS_CLRCNT (R11): CH_CTRL.CLRCNT clears the channel counters. -/
def execMbusClrcnt (rq : Requester) (ch : Fin 6) (s : State) : Host.Outcome State Fault Refusal :=
  .next (whenOn (doMbusClrcnt rq ch) s)

/-- TRX_REQ (R414): A write of CH_TRX.REQ requests a transceiver state. -/
def execTrxReq (rq : Requester) (ch : Fin 6) (v : Fin 4) (s : State) : Host.Outcome State Fault Refusal :=
  .next (whenOn (doTrxReq rq ch v) s)

/-- TXD_TIMEOUT (R416): A transmitter dominant for 4 ms releases the bus. -/
def execTxdTimeout (ch : Fin 6) (s : State) : Host.Outcome State Fault Refusal := .next (whenOn (doTxdTimeout ch) s)

/-- WAKE_PATTERN (R417): A wake-up pattern sets a channel's wake latch or arms the address decoder. -/
def execWakePattern (ch : Fin 6) (s : State) : Host.Outcome State Fault Refusal := .next (doWakePattern ch s)

/-- WAKE_ADDRESS (R419): A decoded address train that matches sets the decoder latch. -/
def execWakeAddress (ct : Fin 2) (t : Train) (s : State) : Host.Outcome State Fault Refusal :=
  .next (doWakeAddress ct t s)

end Sys2Proof.Machine
end

