-- ==== Sys2Proof/Machine/CmdCores.lean ====
section
/-! DEFINITION. The meanings of the commands of the processors: one for each row of the table, over the operations of the block it acts on.
In REST and OFF an unpowered domain takes no command (R481). -/

namespace Sys2Proof.Machine

/-- MOVE3 (R250): A bundle of three guarded moves reads its sources and writes its destinations together. -/
def execMove3 (core : Fin 5) (s : State) : Host.Outcome State Fault Refusal := .next (whenOn (doMove3 core) s)

/-- IMM32 (R248): A bundle with one move whose source is a 32-bit immediate. -/
def execImm32 (core : Fin 5) (s : State) : Host.Outcome State Fault Refusal := .next (whenOn (doImm32 core) s)

/-- WAIT (R258): WAIT ends a tick program's issue, or stops the shepherd clock until an enabled event line is pending.
-/
def execWait (core : Fin 5) (s : State) : Host.Outcome State Fault Refusal := .next (whenOn (doWait core) s)

/-- SHEPHERD_WAIT_RESUME (R260): The shepherd core leaves WAIT when an enabled event line becomes pending. -/
def execShepherdWaitResume (s : State) : Host.Outcome State Fault Refusal := .next (whenOn doShepherdWaitResume s)

/-- BREAK (R261): BREAK halts the core for the debugger or raises a BREAK exception. -/
def execBrk (core : Fin 5) (s : State) : Host.Outcome State Fault Refusal := .next (whenOn (doBreak core) s)

/-- EVENT_ENTRY (R263): A pending enabled event line is taken in task level, and the core saves its return state and
enters keeper level. -/
def execEventEntry (s : State) : Host.Outcome State Fault Refusal := .next (whenOn doEventEntry s)

/-- OPERATION_COMPLETE (R253): A triggered operation completes after its latency, writing its result port or its store
target. -/
def execOperationComplete (core : Fin 5) (u : Upset) (s : State) : Host.Outcome State Fault Refusal :=
  .next (whenOn (doOperationComplete core u) s)

/-- LOCKSTEP (R273): A comparison mismatch of the shepherd pair stops both cores and begins a shepherd restart. -/
def execLockstep (s : State) : Host.Outcome State Fault Refusal := .next (whenOn doLockstep s)

/-- SHEPHERD_RESTART (R274): The reload and verification of the shepherd core complete, and its reset entry runs in
keeper level. -/
def execShepherdRestart (s : State) : Host.Outcome State Fault Refusal := .next (whenOn doShepherdRestart s)

end Sys2Proof.Machine
end

