-- ==== Sys2Proof/Machine/CmdFabric.lean ====
section
/-! DEFINITION. The meanings of the commands of the fabric: one for each row of the table, over the operations of the block it acts on.
In REST and OFF an unpowered domain takes no command (R481). -/

namespace Sys2Proof.Machine

/-- PORT_LINK_CHANGE (R368): A drove port goes UP or DOWN on PHY link or the arrival or absence of LINK frames, starting
a muster. -/
def execPortLinkChange (p : Fin 2) (up : Bool) (phy : Bool) (master : Bool) (s : State) : Host.Outcome State Fault Refusal :=
  .next (whenOn (doPortLinkChange p up phy master) s)

/-- LINK_RX (R377): A received LINK frame updates the link delay measurement. -/
def execLinkRx (p : Fin 2) (f : List Byte) (s : State) : Host.Outcome State Fault Refusal :=
  .next (whenOn (doLinkRx p f) s)

/-- FRAME_FORWARD (R363): A received frame is forwarded cut-through out of the other port once that port is free. -/
def execFrameForward (p : Fin 2) (f : List Byte) (fcs : Word) (residence : Nat) (s : State) : Host.Outcome State Fault Refusal :=
  .next (whenOn (doFrameForward p f fcs residence) s)

/-- FRAME_SEND (R365): A waiting best-effort frame is sent when it fits before the next tick start and RSTART. -/
def execFrameSend (p : Fin 2) (s : State) : Host.Outcome State Fault Refusal := .next (whenOn (doFrameSend p) s)

/-- REMUSTER (R368): FAB_CTRL.REMUSTER from keeper level starts a muster. -/
def execRemuster (rq : Requester) (s : State) : Host.Outcome State Fault Refusal := .next (whenOn (doRemuster rq) s)

/-- CALL_RX (R368): A CALL with a newer GEN puts the module in MUSTER. -/
def execCallRx (p : Fin 2) (f : List Byte) (s : State) : Host.Outcome State Fault Refusal :=
  .next (whenOn (doCallRx p f) s)

/-- ROLL_TX (R369): At the first sample mark after the CALL, every module floods ROLL. -/
def execRollTx (s : State) : Host.Outcome State Fault Refusal := .next (whenOn doRollTx s)

/-- ROLL_RX (R369): A ROLL frame is counted, and its serial, line end and CAP are learned. -/
def execRollRx (p : Fin 2) (f : List Byte) (r : Roll) (s : State) : Host.Outcome State Fault Refusal :=
  .next (whenOn (doRollRx p f r) s)

/-- TOKEN_TX (R370): The starter sends TOKEN and takes position 1. -/
def execTokenTx (s : State) : Host.Outcome State Fault Refusal := .next (whenOn doTokenTx s)

/-- TOKEN_RX (R369): A TOKEN gives the module its position and is passed on, or makes the last module flood DONE. -/
def execTokenRx (p : Fin 2) (f : List Byte) (s : State) : Host.Outcome State Fault Refusal :=
  .next (whenOn (doTokenRx p f) s)

/-- DONE_RX (R369): A DONE frame completes the roll of serials. -/
def execDoneRx (p : Fin 2) (f : List Byte) (s : State) : Host.Outcome State Fault Refusal :=
  .next (whenOn (doDoneRx p f) s)

/-- MUSTER_DONE (R369): At the first sample mark after DONE, positions, bellwether and session key take force. -/
def execMusterDone (s : State) : Host.Outcome State Fault Refusal := .next (whenOn doMusterDone s)

/-- MUSTER_FAIL (R372): No DONE by the fourth sample mark, or a bad token count, makes the module ALONE. -/
def execMusterFail (s : State) : Host.Outcome State Fault Refusal := .next (whenOn doMusterFail s)

/-- MUSTER_RECALL (R372): An ALONE module calls again 64 ticks after a failed muster. -/
def execMusterRecall (s : State) : Host.Outcome State Fault Refusal := .next (whenOn doMusterRecall s)

/-- TIME_TX (R379): The bellwether sends a TIME frame at RSTART of every tick. -/
def execTimeTx (s : State) : Host.Outcome State Fault Refusal := .next (whenOn doTimeTx s)

/-- TIME_RX (R380): A follower steps or steers TB1 from an accepted TIME frame. -/
def execTimeRx (p : Fin 2) (f : List Byte) (s : State) : Host.Outcome State Fault Refusal :=
  .next (whenOn (doTimeRx p f) s)

/-- TIME_LOST (R382): No TIME frame accepted in 4 ticks sets TSTALE. -/
def execTimeLost (s : State) : Host.Outcome State Fault Refusal := .next (whenOn doTimeLost s)

/-- STATE_TX (R386): A member broadcasts its 256-byte state block at RSTART + 2 µs. -/
def execStateTx (s : State) : Host.Outcome State Fault Refusal := .next (whenOn doStateTx s)

/-- STATE_RX (R387): A state block arriving before the envelope phase is written to DP1 and maps source 6 commands. -/
def execStateRx (p : Fin 2) (f : List Byte) (s : State) : Host.Outcome State Fault Refusal :=
  .next (whenOn (doStateRx p f) s)

/-- AUDIO_TX (R424): The origin module sends a local stream frame in the reserved span of the next tick. -/
def execAudioTx (k : Fin 32) (ins : List (List (BitVec 24))) (s : State) : Host.Outcome State Fault Refusal :=
  .next (whenOn (doAudioTx k ins) s)

/-- AUDIO_RX (R426): A received AUDIO frame is buffered, or dropped as late or early. -/
def execAudioRx (p : Fin 2) (f : List Byte) (s : State) : Host.Outcome State Fault Refusal :=
  .next (whenOn (doAudioRx p f) s)

/-- MSG_TX (R389): An entry popped from MSGTXQ is sent as a MSG frame. -/
def execMsgTx (s : State) : Host.Outcome State Fault Refusal := .next (whenOn doMsgTx s)

/-- MSG_RX (R389): A consumed MSG frame is pushed to MSGRXQ. -/
def execMsgRx (p : Fin 2) (f : List Byte) (s : State) : Host.Outcome State Fault Refusal := .next (whenOn (doMsgRx p f) s)

/-- RA_GO (R390): RA_CTRL.GO sends a remote data-window request, taking one transaction. -/
def execRaGo (rq : Requester) (c : Fin 4) (s : State) : Host.Outcome State Fault Refusal := .next (whenOn (doRaGo rq c) s)

/-- RA_ABANDON (R392): RA_CTRL.ABANDON ends a waiting or sent request. -/
def execRaAbandon (rq : Requester) (c : Fin 4) (s : State) : Host.Outcome State Fault Refusal :=
  .next (whenOn (doRaAbandon rq c) s)

/-- RA_REQ_RX (R391): A target performs a remote request on its DWIN block and sends RA_RSP. -/
def execRaReqRx (p : Fin 2) (f : List Byte) (q : RaReq) (s : State) : Host.Outcome State Fault Refusal :=
  .next (whenOn (doRaReqRx p f q) s)

/-- RA_RSP_RX (R390): A response completes a request channel, or is discarded as late. -/
def execRaRspRx (p : Fin 2) (f : List Byte) (r : RaRsp) (s : State) : Host.Outcome State Fault Refusal :=
  .next (whenOn (doRaRspRx p f r) s)

/-- RA_TIMEOUT (R392): A request with no response 8 ticks after sending is abandoned. -/
def execRaTimeout (c : Fin 4) (s : State) : Host.Outcome State Fault Refusal := .next (whenOn (doRaTimeout c) s)

end Sys2Proof.Machine
end

