-- ==== Sys2Proof/Machine/CmdInputs.lean ====
section
/-! DEFINITION. The meanings of the commands of field inputs: one for each row of the table, over the operations of the block it acts on.
In REST and OFF an unpowered domain takes no command (R481). -/

namespace Sys2Proof.Machine

/-- DIN_CLRCNT (R11): A write of DIN CH_CTRL.CLRCNT clears CH_EDGES. -/
def execDinClrcnt (rq : Requester) (k : Fin 128) (s : State) : Host.Outcome State Fault Refusal :=
  .next (whenOn (doDinClrcnt rq k) s)

end Sys2Proof.Machine
end

