-- ==== Sys2Proof/Machine/CmdKeys.lean ====
section
/-! DEFINITION. The meanings of the commands of the key core: one for each row of the table, over the operations of the block it acts on.
In REST and OFF an unpowered domain takes no command (R481). -/

namespace Sys2Proof.Machine

/-- KEY_WRITE (R461): The WRITE command writes a key slot by a two-copy sequence. -/
def execKeyWrite (rq : Requester) (arg : Word) (s : State) : Host.Outcome State Fault Refusal :=
  .next (whenOn (written .key 0x020 rq (doKeyWrite rq arg)) s)

/-- KEY_ERASE (R461): The ERASE command empties a slot. -/
def execKeyErase (rq : Requester) (arg : Word) (s : State) : Host.Outcome State Fault Refusal :=
  .next (whenOn (written .key 0x020 rq (doKeyErase rq arg)) s)

/-- ATTEST (R471): The ATTEST command answers a challenge with the attestation message and CMAC. -/
def execAttest (rq : Requester) (arg : Word) (s : State) : Host.Outcome State Fault Refusal :=
  .next (whenOn (written .key 0x020 rq (doAttest rq arg)) s)

/-- CMAC (R469): The CMAC command computes a CMAC over the buffer under a DATA slot. -/
def execCmac (rq : Requester) (arg : Word) (s : State) : Host.Outcome State Fault Refusal :=
  .next (whenOn (written .key 0x020 rq (doCmac rq arg)) s)

/-- ENCRYPT (R469): The ENCRYPT command encrypts the buffer in AES-CTR. -/
def execEncrypt (rq : Requester) (arg : Word) (s : State) : Host.Outcome State Fault Refusal :=
  .next (whenOn (written .key 0x020 rq (doEncrypt rq arg)) s)

/-- DECRYPT (R469): The DECRYPT command decrypts the buffer in AES-CTR. -/
def execDecrypt (rq : Requester) (arg : Word) (s : State) : Host.Outcome State Fault Refusal :=
  .next (whenOn (written .key 0x020 rq (doDecrypt rq arg)) s)

/-- SHA256 (R469): The SHA256 command hashes the buffer. -/
def execSha256 (rq : Requester) (arg : Word) (s : State) : Host.Outcome State Fault Refusal :=
  .next (whenOn (written .key 0x020 rq (doSha256 rq arg)) s)

/-- RANDOM (R470): The RANDOM command draws words from the TRNG. -/
def execRandom (rq : Requester) (arg : Word) (s : State) : Host.Outcome State Fault Refusal :=
  .next (whenOn (written .key 0x020 rq (doRandom rq arg)) s)

/-- ADVANCE (R465): The ADVANCE command burns the fuse rows of a permitted next life-cycle state. -/
def execAdvance (rq : Requester) (arg : Word) (s : State) : Host.Outcome State Fault Refusal :=
  .next (whenOn (written .key 0x020 rq (doAdvance rq arg)) s)

/-- TICKET (R466): The TICKET command verifies a debug or perturbation ticket. -/
def execTicket (rq : Requester) (arg : Word) (s : State) : Host.Outcome State Fault Refusal :=
  .next (whenOn (written .key 0x020 rq (doTicket rq arg)) s)

/-- TCLEAR (R475): The TCLEAR command clears the tamper latch when no source holds. -/
def execTclear (rq : Requester) (arg : Word) (holding : BitVec 5) (s : State) : Host.Outcome State Fault Refusal :=
  .next (whenOn (written .key 0x020 rq (doTclear rq arg holding)) s)

/-- KEY_CMD_DONE (R469): A mailbox command ends, and KEY_RESULT shows DONE with its code. -/
def execKeyCmdDone (s : State) : Host.Outcome State Fault Refusal := .next (whenOn doKeyCmdDone s)

/-- TAMPER (R474): A tamper source latches, and the withheld set is withdrawn and sessions end. -/
def execTamper (sources : BitVec 5) (elapsed : Nat) (s : State) : Host.Outcome State Fault Refusal :=
  .next (doTamperRow sources elapsed s)

/-- TRNG_FAIL (R470): A TRNG health test fails or recovers. -/
def execTrngFail (failed : Bool) (s : State) : Host.Outcome State Fault Refusal := .next (whenOn (doTrngFail failed) s)

end Sys2Proof.Machine
end

