-- ==== Sys2Proof/Machine/CmdLighting.lean ====
section
/-! DEFINITION. The meanings of the commands of lighting: one for each row of the table, over the operations of the block it acts on.
In REST and OFF an unpowered domain takes no command (R481). -/

namespace Sys2Proof.Machine

/-- DIMMING_PERIOD_START (R175): In phase-shifted dimming, each string's period starts, and its lamps are un-bypassed
for their pulses. -/
def execDimmingPeriodStart (k : Fin 8) (s : State) : Host.Outcome State Fault Refusal :=
  .next (whenOn (doDimmingPeriodStart k) s)

/-- LAMP_WINDOW (R184): A position's lamp window forces it lit, measures it and debounces OPEN and SHORT. -/
def execLampWindow (pos : Fin 128) (m : LampReading) (s : State) : Host.Outcome State Fault Refusal :=
  .next (whenOn (doLampWindow pos m) s)

/-- LAMP_CLAMP (R188): The open-lamp clamp acting outside a window sets OPEN at once and holds the position bypassed. -/
def execLampClamp (pos : Fin 128) (mv : Nat) (s : State) : Host.Outcome State Fault Refusal :=
  .next (whenOn (doLampClamp pos mv) s)

/-- STRING_LOW (R189): A sink below 90 % of the string current for 50 µs sets LOW for the tick, and STRING_LOW is
reported after 4 ticks. -/
def execStringLow (k : Fin 8) (current : Nat) (vn16 : Half) (s : State) : Host.Outcome State Fault Refusal :=
  .next (whenOn (doStringLow k current vn16) s)

/-- STRING_HOT (R190): A sink at 165 °C turns off, all switches of the string close and the string latches HOT. -/
def execStringHot (k : Fin 8) (temp : Half) (s : State) : Host.Outcome State Fault Refusal :=
  .next (whenOn (doStringHot k temp) s)

/-- STRING_REENABLE (R190): A write of STR_CTRL.REENABLE clears HOT when the sink is below 145 °C. -/
def execStringReenable (rq : Requester) (k : Fin 8) (s : State) : Host.Outcome State Fault Refusal :=
  .next (whenOn (doStringReenable rq k) s)

/-- POS_CLRCNT (R11): A write of POS_CTRL.CLRCNT clears POS_FAULTS. -/
def execPosClrcnt (rq : Requester) (pos : Fin 128) (s : State) : Host.Outcome State Fault Refusal :=
  .next (whenOn (doPosClrcnt rq pos) s)

/-- PE_CTRL_WRITE (R183): A write to a pattern-engine register starts, stops or reconfigures the engine from the next
engine phase. -/
def execPeCtrlWrite (rq : Requester) (e : Fin 4) (reg : Fin 3) (v : Word) (s : State) : Host.Outcome State Fault Refusal :=
  .next (whenOn (written .led (peAddr e reg % 0x10000) rq (doPeCtrlWrite rq e reg v)) s)

/-- CHAIN_SEND (R195): A write of CL_CTRL.SEND arms a chain frame. -/
def execChainSend (rq : Requester) (l : Fin 4) (s : State) : Host.Outcome State Fault Refusal :=
  .next (whenOn (doChainSend rq l) s)

/-- CHAIN_FRAME_DONE (R193): A chain frame's last bit and latch complete, and CL_FRAMES counts it. -/
def execChainFrameDone (l : Fin 4) (s : State) : Host.Outcome State Fault Refusal := .next (whenOn (doChainFrameDone l) s)

/-- CHAIN_FAULT (R198): A readback mismatch in 4 consecutive bits aborts the frame and drives the line low. -/
def execChainFault (l : Fin 4) (share : Byte) (s : State) : Host.Outcome State Fault Refusal :=
  .next (whenOn (doChainFault l share) s)

end Sys2Proof.Machine
end

