-- ==== Sys2Proof/Machine/CmdMemory.lean ====
section
/-! DEFINITION. The meanings of the commands of memory: one for each row of the table, over the operations of the block it acts on.
In REST and OFF an unpowered domain takes no command (R481). -/

namespace Sys2Proof.Machine

/-- BANK_OWNER_WRITE (R301): An accepted write of MEM_BANK_OWNER hands the bank over in the next cycle. -/
def execBankOwnerWrite (rq : Requester) (bank : Fin 18) (v : Word) (s : State) : Host.Outcome State Fault Refusal :=
  .next (whenOn (bankOwnerWrite rq bank v) s)

/-- KEEPDATA_ACCESS (R299): An access of MEM_KEEPDATA reads or writes the keep-bank word and may advance the address. -/
def execKeepdataAccess (rq : Requester) (w : Option Word) (s : State) : Host.Outcome State Fault Refusal :=
  .next (whenOn (doKeepdataRow rq w) s)

/-- MW_GO (R315): MEM_MW_CTRL.GO starts the MRAM write engine copy after the range checks. -/
def execMwGo (rq : Requester) (s : State) : Host.Outcome State Fault Refusal := .next (whenOn (doMwGo rq) s)

/-- MW_DONE (R315): The write engine finishes copying LEN words. -/
def execMwDone (s : State) : Host.Outcome State Fault Refusal := .next (whenOn doMwDone s)

/-- MW_FAIL (R316): A word no longer owned by ID 0, or a second read-back mismatch, stops the write. -/
def execMwFail (words : Nat) (readback : Bool) (s : State) : Host.Outcome State Fault Refusal :=
  .next (whenOn (doMwFail words readback) s)

end Sys2Proof.Machine
end

