-- ==== Sys2Proof/Machine/CmdPath.lean ====
section
/-! DEFINITION. The meanings of the commands of the command path: one for each row of the table, over the operations of the block it acts on.
In REST and OFF an unpowered domain takes no command (R481). -/

namespace Sys2Proof.Machine

/-- OUT_CMD (R217): A write to HURDLE_OUT_CMD stores the writer's source command for the output after the word checks.
-/
def execOutCmd (rq : Requester) (o : Fin 448) (v : Word) (s : State) : Host.Outcome State Fault Refusal :=
  .next (whenOn (doOutCmd rq o v) s)

/-- WDRAW (R218): A write of OUT_CTRL.WDRAW withdraws the writer's source command for the output. -/
def execWdraw (rq : Requester) (o : Fin 448) (s : State) : Host.Outcome State Fault Refusal :=
  .next (whenOn (doWdraw rq o) s)

/-- ESCCLR (R235): Keeper firmware writes OUT_CTRL.ESCCLR, which ends an escalation. -/
def execEscclr (rq : Requester) (o : Fin 448) (s : State) : Host.Outcome State Fault Refusal :=
  .next (whenOn (doEscclr rq o) s)

/-- DELAYED_CMD_RELEASE (R136): A held solenoid command with DELAY d enters arbitration as a command of tick m + d. -/
def execDelayedCmdRelease (k : Fin 16) (src : Fin 16) (s : State) : Host.Outcome State Fault Refusal :=
  .next (whenOn (doDelayedCmdRelease k src) s)

end Sys2Proof.Machine
end

