-- ==== Sys2Proof/Machine/CmdPower.lean ====
section
/-! DEFINITION. The meanings of the commands of power: one for each row of the table, over the operations of the block it acts on.
In REST and OFF an unpowered domain takes no command (R481). -/

namespace Sys2Proof.Machine

/-- REST_REQ (R486): A write of PWR_REQ with REST requests entry into REST, now or at tick PWR_AT. -/
def execRestReq (rq : Requester) (sched : Bool) (s : State) : Host.Outcome State Fault Refusal :=
  .next (whenOn (doRestReq rq sched) s)

/-- OFF_REQ (R498): A write of PWR_REQ with OFF requests entry into OFF. -/
def execOffReq (rq : Requester) (sched : Bool) (s : State) : Host.Outcome State Fault Refusal :=
  .next (whenOn (doOffReq rq sched) s)

/-- OP_REQ (R488): A write of PWR_OP.REQ requests an operating point unless it lies below MINOP. -/
def execOpReq (rq : Requester) (v : Fin 4) (s : State) : Host.Outcome State Fault Refusal :=
  .next (whenOn (doOpReq rq v) s)

/-- OP_CHANGE (R488): The operating-point change completes in frequency and voltage. -/
def execOpChange (s : State) : Host.Outcome State Fault Refusal := .next (whenOn doOpChange s)

/-- REQ_CANCELLED (R493): A wake request or tamper before the entry tick cancels a REST request. -/
def execReqCancelled (sources : Half) (pins : BitVec 4) (s : State) : Host.Outcome State Fault Refusal :=
  .next (whenOn (doReqCancelled sources pins) s)

/-- REST_ENTER (R492): At the entry commit, all output lanes go off and the archive run starts. -/
def execRestEnter (s : State) : Host.Outcome State Fault Refusal := .next (whenOn doRestEnter s)

/-- REST_ENTRY_COMPLETE (R492): After the archive run, the domains power down and the entry window closes into REST or
OFF. -/
def execRestEntryComplete (s : State) : Host.Outcome State Fault Refusal := .next (whenOn doRestEntryComplete s)

/-- WAKE (R494): A wake source in REST, or a pending wake, starts the wake sequence up to the wake tick. -/
def execWake (sources : Half) (pins : BitVec 4) (s : State) : Host.Outcome State Fault Refusal :=
  .next (doWake sources pins s)

/-- REG_RETRY (R496): Regulators not ready within 2 ms are retried once, or the module falls to OFF. -/
def execRegRetry (ok : Bool) (s : State) : Host.Outcome State Fault Refusal := .next (whenOn (doRegRetry ok) s)

/-- CLOCK_DEGRADED (R497): A crystal not started within 5 ms makes the module run from the RC oscillator. -/
def execClockDegraded (s : State) : Host.Outcome State Fault Refusal := .next (whenOn doClockDegraded s)

/-- VBL_LOW (R498): VBL falling below 13.0 V starts an archive run, or clears when VBL rises above 14.0 V. -/
def execVblLow (vbl : Half) (s : State) : Host.Outcome State Fault Refusal := .next (doVblLow vbl s)

/-- VBL_OFF (R498): VBL still low after 10 ms makes the module fall to OFF. -/
def execVblOff (s : State) : Host.Outcome State Fault Refusal := .next (doVblOff s)

/-- COLD_START (R510): A start from OFF or a module reset runs self-test, key settling, pair verification and reset
entry. -/
def execColdStart (por : Bool) (bistFail : Word) (pins : BitVec 4) (vbl : Half) (s : State) :
    Host.Outcome State Fault Refusal :=
  .next (doColdStart por bistFail pins vbl s)

/-- NS_VOTE_TX (R499): A member broadcasts a VOTE every 64 ticks and after each change of AWAKE. -/
def execNsVoteTx (s : State) : Host.Outcome State Fault Refusal := .next (whenOn doNsVoteTx s)

/-- NS_VOTE_RX (R499): The bellwether records a received vote. -/
def execNsVoteRx (p : Fin 2) (f : List Byte) (s : State) : Host.Outcome State Fault Refusal :=
  .next (whenOn (doNsVoteRx p f) s)

/-- NS_VOTE_EXPIRED (R500): An AWAKE vote stops counting MAXAWAKE minutes after key-off, or lapses after 256 ticks. -/
def execNsVoteExpired (pos : Fin 65) (s : State) : Host.Outcome State Fault Refusal :=
  .next (whenOn (doNsVoteExpired pos) s)

/-- NS_COMMAND (R500): The bellwether commands sleep at tick c in the first tick that meets all conditions. -/
def execNsCommand (s : State) : Host.Outcome State Fault Refusal := .next (whenOn doNsCommand s)

/-- NS_COMMAND_RX (R501): A member takes a COMMAND as a scheduled REST request. -/
def execNsCommandRx (p : Fin 2) (f : List Byte) (s : State) : Host.Outcome State Fault Refusal :=
  .next (whenOn (doNsCommandRx p f) s)

/-- NS_ABORT (R501): A received ABORT cancels the sleep. -/
def execNsAbort (p : Fin 2) (f : List Byte) (s : State) : Host.Outcome State Fault Refusal :=
  .next (whenOn (doNsAbort p f) s)

/-- NS_MISSED (R501): A member with no COMMAND taken by the sleep point stays in RUN. -/
def execNsMissed (s : State) : Host.Outcome State Fault Refusal := .next (whenOn doNsMissed s)

/-- NS_CTRL_WRITE (R501): A write of PWR_NS_CTRL changes ENABLE, KEYON or AWAKE, and AWAKE may abort a sleep. -/
def execNsCtrlWrite (rq : Requester) (v : Word) (s : State) : Host.Outcome State Fault Refusal :=
  .next (whenOn (doNsCtrlWrite rq v) s)

/-- FALSE_WAKE (R503): After FALSEWAKE seconds with no activity, the module returns to REST. -/
def execFalseWake (s : State) : Host.Outcome State Fault Refusal := .next (whenOn doFalseWake s)

end Sys2Proof.Machine
end

