-- ==== Sys2Proof/Machine/CmdRest.lean ====
section
/-! DEFINITION. The meanings of the commands of perturbation, reset and register access: one for each row of the table, over the operations of the block it acts on.
In REST and OFF an unpowered domain takes no command (R481). -/

namespace Sys2Proof.Machine

/-- PERT_ENABLE (R530): A write of PERT_ENABLE activates kinds permitted by life cycle and ticket. -/
def execPertEnable (rq : Requester) (v : Word) (s : State) : Host.Outcome State Fault Refusal :=
  .next (whenOn (written .pert 0x020 rq (doPertEnable rq v)) s)

/-- PERT_MEMCTL_GO (R529): PERT_MEMCTL.GO inverts one or two codeword bits of a memory word. -/
def execPertMemctlGo (rq : Requester) (v : Word) (s : State) : Host.Outcome State Fault Refusal :=
  .next (whenOn (written .pert 0x044 rq (doPertMemctlGo rq v)) s)

/-- SYS_RESET (R558): SYS_CTRL.RESET with CONFIRM 0x5A requests a module reset. -/
def execSysReset (rq : Requester) (v : Word) (s : State) : Host.Outcome State Fault Refusal :=
  .next (whenOn (doSysReset rq v) s)

/-- MODULE_RESET (R558): An accepted reset takes effect at the next commit mark. -/
def execModuleReset (s : State) : Host.Outcome State Fault Refusal := .next (whenOn doModuleReset s)

/-- SVC_TRANSACTION (R546): A service SPI transaction reads or writes consecutive registers. -/
def execSvcTransaction (bytes : List Byte) (s : State) : Host.Outcome State Fault Refusal :=
  .next (whenOn (doSvcTransaction bytes) s)

/-- REGISTER_WRITE (R11): A write to a register with no row of its own updates its writable fields after the access
checks. -/
def execRegisterWrite (rq : Requester) (addr : Nat) (width : Nat) (v : Word) (s : State) : Host.Outcome State Fault Refusal :=
  .next (whenOn (doRegisterWrite rq addr width v) s)

/-- TOUCH_RELEASE (R437): A confirmed touch is released when the capacitance rise stays below half the threshold at 2
consecutive scans, ending its repeat polls. -/
def execTouchRelease (r : Fin 2) (a b : Half) (s : State) : Host.Outcome State Fault Refusal :=
  .next (whenOn (doTouchRelease r a b) s)

/-- TRAIN_DISCARDED (R418): An armed wake address decoder discards its train on a late start, a bad pulse or gap, or a
parity failure, and waits for the next wake-up pattern. -/
def execTrainDiscarded (ct : Fin 2) (s : State) : Host.Outcome State Fault Refusal := .next (doTrainDiscarded ct s)

/-- RESET_THROUGH_JTAG (R559): A reset requested through JTAG while debug is open resets the module and sets
SYS_RESETCAUSE.DEBUG. -/
def execResetThroughJtag (s : State) : Host.Outcome State Fault Refusal := .next (whenOn doResetThroughJtag s)

end Sys2Proof.Machine
end

