-- ==== Sys2Proof/Machine/CmdSolenoids.lean ====
section
/-! DEFINITION. The meanings of the commands of the solenoid drivers: one for each row of the table, over the operations of the block it acts on.
In REST and OFF an unpowered domain takes no command (R481). -/

namespace Sys2Proof.Machine

/-- SOL_EVENT_START (R138): A requested event starts at its due time when the driver is idle and no other peak runs on
the feed. -/
def execSolEventStart (k : Fin 16) (s : State) : Host.Outcome State Fault Refusal := .next (whenOn (doSolEventStart k) s)

/-- PEAK_END (R131): At S + TPEAK the peak phase ends, and the target becomes IHOLD. -/
def execPeakEnd (k : Fin 16) (s : State) : Host.Outcome State Fault Refusal := .next (whenOn (doPeakEnd k) s)

/-- EVENT_END (R131): The hold phase ends at THOLD or on release, and the driver turns off or the chained profile
starts. -/
def execEventEnd (k : Fin 16) (s : State) : Host.Outcome State Fault Refusal := .next (whenOn (doEventEnd k) s)

/-- MINOFF_END (R138): The minimum off-time ends, and a queued event may start. -/
def execMinoffEnd (k : Fin 16) (s : State) : Host.Outcome State Fault Refusal := .next (whenOn (doMinoffEnd k) s)

/-- LATE_DROP (R141): A waiting event whose deferral exceeds LATE is dropped. -/
def execLateDrop (k : Fin 16) (s : State) : Host.Outcome State Fault Refusal := .next (whenOn (doLateDrop k) s)

/-- MOVE (R146): A current dip of DIP or more in the detection window is detected as armature movement and stamped. -/
def execMove (k : Fin 16) (tmax : Word) (tmin : Word) (imax : Half) (imin : Half) (vfStart : Half) (vfMin : Half) (s : State) : Host.Outcome State Fault Refusal :=
  .next (whenOn (doMove k tmax tmin imax imin vfStart vfMin) s)

/-- NO_MOVE (R148): The detection window ends, or IPEAK is reached, without movement. -/
def execNoMove (k : Fin 16) (imax : Half) (s : State) : Host.Outcome State Fault Refusal :=
  .next (whenOn (doNoMove k imax) s)

/-- COIL_OPEN (R149): IPEAK is not reached by the end of the peak, or the current stays below half of IHOLD for 1 ms. -/
def execCoilOpen (k : Fin 16) (imax : Half) (s : State) : Host.Outcome State Fault Refusal :=
  .next (whenOn (doCoilOpen k imax) s)

/-- DRV_SHORT (R150): An off driver with its feed on reads 200 mA or more at 3 consecutive samples. -/
def execDrvShort (k : Fin 16) (current : Half) (s : State) : Host.Outcome State Fault Refusal :=
  .next (whenOn (doDrvShort k current) s)

/-- FEED_LEAK (R151): An on feed whose drivers have been off for 2 ms carries over 100 mA for a whole tick. -/
def execFeedLeak (hs : Fin 96) (current : Half) (s : State) : Host.Outcome State Fault Refusal :=
  .next (whenOn (doFeedLeak hs current) s)

/-- SOL_FW_MISSING (R152): A SOL contact more than 3 V above VF for 2 µs after turn-off is reported. -/
def execSolFwMissing (k : Fin 16) (current : Half) (s : State) : Host.Outcome State Fault Refusal :=
  .next (whenOn (doSolFwMissing k current) s)

/-- SOL_CLRCNT (R11): A write of SOL CH_CTRL.CLRCNT clears CH_EVENTS and CH_DROPS. -/
def execSolClrcnt (rq : Requester) (k : Fin 16) (s : State) : Host.Outcome State Fault Refusal :=
  .next (whenOn (doSolClrcnt rq k) s)

end Sys2Proof.Machine
end

