-- ==== Sys2Proof/Machine/CmdStructure.lean ====
section
/-! DEFINITION. The meanings of the commands of the structure image: one for each row of the table, over the operations of the block it acts on.
In REST and OFF an unpowered domain takes no command (R481). -/

namespace Sys2Proof.Machine

/-- STRUCT_LOAD_GO (R77): STRUCT_LOAD.GO starts verification, the checks and the writing of the shadow copies on all
dies. -/
def execStructLoadGo (rq : Requester) (slot : Bool) (s : State) : Host.Outcome State Fault Refusal :=
  .next (whenOn (doStructLoadGo rq slot) s)

/-- SHADOW_READY (R77): Every die acknowledges its shadow copy, and the shadow becomes READY. -/
def execShadowReady (s : State) : Host.Outcome State Fault Refusal := .next (whenOn doShadowReady s)

/-- SHADOW_ACK_TIMEOUT (R77): A die that has not acknowledged within 4 ticks makes the load FAILED. -/
def execShadowAckTimeout (s : State) : Host.Outcome State Fault Refusal := .next (whenOn doShadowAckTimeout s)

/-- SWAPAT_ARM (R78): A write of SWAPAT_HI arms a swap at the target tick when the shadow is READY and the target is not
too late. -/
def execSwapatArm (rq : Requester) (hi : Word) (s : State) : Host.Outcome State Fault Refusal :=
  .next (whenOn (doSwapatArm rq hi) s)

/-- STRUCT_CANCEL (R80): STRUCT_LOAD.CANCEL returns a scheduled swap to READY before its deadline. -/
def execStructCancel (rq : Requester) (s : State) : Host.Outcome State Fault Refusal :=
  .next (whenOn (doStructCancel rq) s)

/-- SWAP (R32): At the target tick boundary all dies exchange configuration and shadow, with carry-over per Table 3.19.
-/
def execSwap (s : State) : Host.Outcome State Fault Refusal := .next (whenOn doSwap s)

end Sys2Proof.Machine
end

