-- ==== Sys2Proof/Machine/CmdSwitches.lean ====
section
/-! DEFINITION. The meanings of the commands of the load switches: one for each row of the table, over the operations of the block it acts on.
In REST and OFF an unpowered domain takes no command (R481). -/

namespace Sys2Proof.Machine

/-- FAST_SC_TRIP (R99): Current above the class trip level turns the gate off within 5 µs and counts as a trip for
retry. -/
def execFastScTrip (k : Fin 96) (current : Half) (s : State) : Host.Outcome State Fault Refusal :=
  .next (whenOn (doFastScTrip k current) s)

/-- OC_TRIP (R100): Current above the active threshold for OCFLT × 10 µs turns the gate off. -/
def execOcTrip (k : Fin 96) (current : Half) (s : State) : Host.Outcome State Fault Refusal :=
  .next (whenOn (doOcTrip k current) s)

/-- THERMAL_TRIP (R102): A junction at 175 °C turns the gate off within 20 µs and enters LATCH_TH. -/
def execThermalTrip (k : Fin 96) (temp : Half) (s : State) : Host.Outcome State Fault Refusal :=
  .next (whenOn (doThermalTrip k temp) s)

/-- INRUSH_END (R101): The inrush phase ends after ceil(INTIME / T) commits, and the threshold becomes OCTH. -/
def execInrushEnd (k : Fin 96) (s : State) : Host.Outcome State Fault Refusal := .next (whenOn (doInrushEnd k) s)

/-- RETRY (R104): A retry pause ends at its commit mark, and the channel turns on again or goes OFF. -/
def execRetry (k : Fin 96) (s : State) : Host.Outcome State Fault Refusal := .next (whenOn (doRetry k) s)

/-- RETRY_CLEAR (R105): After 5 s in INRUSH or ON without a trip, the retry count clears. -/
def execRetryClear (k : Fin 96) (s : State) : Host.Outcome State Fault Refusal := .next (whenOn (doRetryClear k) s)

/-- REENABLE (R107): A write of CH_CTRL.REENABLE re-enables a latched channel or group, unless it is hot. -/
def execReenable (rq : Requester) (k : Fin 96) (s : State) : Host.Outcome State Fault Refusal :=
  .next (whenOn (doReenable rq k) s)

/-- HSW_CLRCNT (R11): A write of CH_CTRL.CLRCNT clears CH_TRIPS. -/
def execHswClrcnt (rq : Requester) (k : Fin 96) (s : State) : Host.Outcome State Fault Refusal :=
  .next (whenOn (doHswClrcnt rq k) s)

/-- OPEN_LOAD_WINDOW (R109): The open-load window 16 µs after the commit mark judges the on-state or off-state result
and debounces OPEN. -/
def execOpenLoadWindow (k : Fin 96) (current : Half) (node : Nat) (s : State) : Host.Outcome State Fault Refusal :=
  .next (whenOn (doOpenLoadWindow k current node) s)

/-- FW_MISSING (R116): An output node below −3 V for 20 µs after turn-off sets FWMISS. -/
def execFwMissing (k : Fin 96) (current : Half) (s : State) : Host.Outcome State Fault Refusal :=
  .next (whenOn (doFwMissing k current) s)

/-- DIST_FORCED (R98): In the ninth consecutive disturbed tick the measurement is forced with inrush compensation. -/
def execDistForced (k : Fin 96) (current : Half) (temp : Half) (s : State) : Host.Outcome State Fault Refusal :=
  .next (whenOn (doDistForced k current temp) s)

/-- FOLD_UV (R119): VF crossing 12.0 V or 13.0 V sets or clears the fold's UV. -/
def execFoldUv (f : Fin 12) (vf : Half) (s : State) : Host.Outcome State Fault Refusal := .next (whenOn (doFoldUv f vf) s)

end Sys2Proof.Machine
end

