-- ==== Sys2Proof/Machine/CmdTick.lean ====
section
/-! DEFINITION. The meanings of the commands of the frame tick: one for each row of the table, over the operations of the block it acts on.
In REST and OFF an unpowered domain takes no command (R481). -/

namespace Sys2Proof.Machine

/-- TICK_START (R36): The tick generator starts tick n when the driving time base reads n × T. -/
def execTickStart (s : State) : Host.Outcome State Fault Refusal := .next (whenOn doTickStartRow s)

/-- TICK_STRETCH (R38): After the driving base changes or steps, the tick generator waits for the new base's next
multiple of T and starts a stretched tick. -/
def execTickStretch (s : State) : Host.Outcome State Fault Refusal := .next (whenOn doStretch s)

/-- SAMPLE_MARK (R42): At 0/64 T the input filter states are snapshotted, the measurements of the previous tick are
frozen and the outer dies send their sample frames. -/
def execSampleMark (m : Sample) (s : State) : Host.Outcome State Fault Refusal := .next (whenOn (doSampleMarkRow m) s)

/-- CORE_WINDOW_OPEN (R46): At the opening of the core window the four tick programs start at their entry points. -/
def execCoreWindowOpen (s : State) : Host.Outcome State Fault Refusal := .next (whenOn doCoreWindowOpen s)

/-- TICK_PROGRAM_FINISH (R258): A tick program whose WAIT has issued and whose last operation has completed finishes,
and its core clock stops. -/
def execTickProgramFinish (k : Fin 4) (s : State) : Host.Outcome State Fault Refusal :=
  .next (whenOn (doTickProgramFinish k) s)

/-- OVERRUN (R47): A tick program not finished when the envelope phase opens is stopped, and its commands of the tick
are discarded. -/
def execOverrun (k : Fin 4) (s : State) : Host.Outcome State Fault Refusal := .next (whenOn (doOverrun k) s)

/-- ENVELOPE_PHASE (R45): Command intake closes, and arbitration, the hold-over states and the Hurdle run for the tick.
-/
def execEnvelopePhase (s : State) : Host.Outcome State Fault Refusal := .next (whenOn doEnvelopePhase s)

/-- HOLD_EXPIRE (R52): An output whose hold count reaches H commits its rest value and enters REST. -/
def execHoldExpire (src : Fin 16) (s : State) : Host.Outcome State Fault Refusal := .next (whenOn (doHoldExpire src) s)

/-- ESC_END (R235): An escalation's ESCTIME runs out, and the output takes its checked candidate again. -/
def execEscEnd (o : Fin 256) (s : State) : Host.Outcome State Fault Refusal := .next (whenOn (doEscEnd o) s)

/-- COMMIT_MARK (R29): All outer dies apply their held commit frames on the same strobe edge. -/
def execCommitMark (dieOk : Vector Bool 5) (s : State) : Host.Outcome State Fault Refusal :=
  .next (whenOn (doCommit dieOk) s)

/-- DECK_REST_PATTERN (R30): After two ticks without a valid commit frame, an outer die applies the rest pattern. -/
def execDeckRestPattern (die : Fin 5) (s : State) : Host.Outcome State Fault Refusal :=
  .next (whenOn (doDeckRestPattern die) s)

/-- GUARD_BAND (R44): At 62/64 T no new work starts, and queued operating-point frequency changes take effect. -/
def execGuardBand (rowOk : Bool) (s : State) : Host.Outcome State Fault Refusal := .next (whenOn (doGuardBand rowOk) s)

/-- INPUT_SAMPLE (R203): Each input is sampled and its counter filter and wire-break counter are run. -/
def execInputSample (x : InputReadings) (s : State) : Host.Outcome State Fault Refusal :=
  .next (whenOn (doInputSample x) s)

end Sys2Proof.Machine
end

