-- ==== Sys2Proof/Machine/CmdTime.lean ====
section
/-! DEFINITION. The meanings of the commands of time and the tally: one for each row of the table, over the operations of the block it acts on.
In REST and OFF an unpowered domain takes no command (R481). -/

namespace Sys2Proof.Machine

/-- TB_STEP (R340): A write of TB_STEP_HI steps the base when its step permission is armed. -/
def execTbStep (rq : Requester) (n : Fin 4) (hi : Word) (s : State) : Host.Outcome State Fault Refusal :=
  .next (whenOn (doTbStep rq n hi) s)

/-- TB_RATE_WRITE (R336): A write of TB_RATE by the controller changes the base's rate from the next timer cycle. -/
def execTbRateWrite (rq : Requester) (n : Fin 4) (v : Word) (s : State) : Host.Outcome State Fault Refusal :=
  .next (whenOn (doTbRateWrite rq n v) s)

/-- TB_OOS (R343): A write of TB_CTRL.OOS marks the base out of service or returns it to service. -/
def execTbOos (rq : Requester) (n : Fin 4) (v : Bool) (s : State) : Host.Outcome State Fault Refusal :=
  .next (whenOn (doTbOos rq n v) s)

/-- TB_ARM (R342): A write of TB_CTRL.ARM re-arms the step permission of an out-of-service base. -/
def execTbArm (rq : Requester) (n : Fin 4) (s : State) : Host.Outcome State Fault Refusal :=
  .next (whenOn (doTbArm rq n) s)

/-- TIME_CAPTURE (R345): TIME_CAPTURE.GO samples all four bases in the same timer cycle. -/
def execTimeCapture (rq : Requester) (s : State) : Host.Outcome State Fault Refusal := .next (whenOn (doTimeCapture rq) s)

/-- TIME_MAP (R354): Every 65,536 ticks while TB1 is in service, a TB1-to-TB0 map entry is written. -/
def execTimeMap (s : State) : Host.Outcome State Fault Refusal := .next (whenOn doTimeMap s)

/-- TALLY_FW_GO (R353): TALLY_FW_GO writes a firmware entry stamped on the chosen base. -/
def execTallyFwGo (rq : Requester) (s : State) : Host.Outcome State Fault Refusal :=
  .next (whenOn (written .tally 0x070 rq (doTallyFwGo rq)) s)

/-- TALLY_FLUSH (R351): TALLY_CTRL.FLUSH from keeper level starts an archive run. -/
def execTallyFlush (rq : Requester) (s : State) : Host.Outcome State Fault Refusal := .next (whenOn (doTallyFlush rq) s)

/-- TALLY_ENTRY_READ (R350): A read of TALLY_ENTRY0 latches all eight words of the selected index. -/
def execTallyEntryRead (rq : Requester) (s : State) : Host.Outcome State Fault Refusal :=
  .next (whenOn (doTallyEntryRead rq) s)

/-- ARCHIVE_COPY (R351): One journal entry is copied to the next MRAM archive slot, ending the run when none is left. -/
def execArchiveCopy (ok : Bool) (s : State) : Host.Outcome State Fault Refusal := .next (whenOn (doArchiveCopy ok) s)

end Sys2Proof.Machine
end

