-- ==== Sys2Proof/Machine/CmdUpdate.lean ====
section
/-! DEFINITION. The meanings of the commands of field update: one for each row of the table, over the operations of the block it acts on.
In REST and OFF an unpowered domain takes no command (R481). -/

namespace Sys2Proof.Machine

/-- BEGIN (R514): UPD_CTRL.BEGIN enters LOADING and marks the inactive slot incomplete. -/
def execBegin (rq : Requester) (s : State) : Host.Outcome State Fault Refusal := .next (whenOn (doBegin rq) s)

/-- VERIFY (R506): UPD_CTRL.VERIFY checks the pair and loads the structure into the shadow. -/
def execVerify (rq : Requester) (s : State) : Host.Outcome State Fault Refusal := .next (whenOn (doVerify rq) s)

/-- VERIFIED (R506): Verification completes, and the state becomes VERIFIED or returns to IDLE on failure. -/
def execVerified (s : State) : Host.Outcome State Fault Refusal := .next (whenOn doVerified s)

/-- SCHEDULE (R516): UPD_CTRL.SCHEDULE arms activation at UPD_ACTAT. -/
def execSchedule (rq : Requester) (s : State) : Host.Outcome State Fault Refusal := .next (whenOn (doSchedule rq) s)

/-- UPD_CANCEL (R514): UPD_CTRL.CANCEL aborts a scheduled activation. -/
def execUpdCancel (rq : Requester) (s : State) : Host.Outcome State Fault Refusal := .next (whenOn (doUpdCancel rq) s)

/-- CONFIRM (R520): UPD_CTRL.CONFIRM writes the boot record with TRIAL cleared. -/
def execConfirm (rq : Requester) (s : State) : Host.Outcome State Fault Refusal := .next (whenOn (doConfirm rq) s)

/-- MIGFAIL (R522): UPD_CTRL.MIGFAIL sets the fallback tick to the earliest possible. -/
def execMigfail (rq : Requester) (s : State) : Host.Outcome State Fault Refusal := .next (whenOn (doMigfail rq) s)

/-- ACTSEND (R519): UPD_CTRL.ACTSEND on the bellwether schedules activation and broadcasts ACTIVATE. -/
def execActsend (rq : Requester) (s : State) : Host.Outcome State Fault Refusal := .next (whenOn (doActsend rq) s)

/-- BUNDLE_DATA_RX (R515): A BUNDLE DATA frame's chunk is written into the inactive slot. -/
def execBundleDataRx (p : Fin 2) (f : List Byte) (s : State) : Host.Outcome State Fault Refusal :=
  .next (whenOn (doBundleDataRx p f) s)

/-- ACTIVATE_RX (R519): An accepted ACTIVATE frame acts as SCHEDULE. -/
def execActivateRx (p : Fin 2) (f : List Byte) (s : State) : Host.Outcome State Fault Refusal :=
  .next (whenOn (doActivateRx p f) s)

/-- UPD_STATUS_TX (R515): In LOADING or VERIFIED each member broadcasts STATUS every 64 ticks. -/
def execUpdStatusTx (s : State) : Host.Outcome State Fault Refusal := .next (whenOn doUpdStatusTx s)

/-- BOOT_RECORD_WRITE (R517): At 968.75 µs of tick a − 1 the boot record names the new pair in TRIAL, and a restart
activation resets. -/
def execBootRecordWrite (s : State) : Host.Outcome State Fault Refusal := .next (whenOn doBootRecordWrite s)

/-- ACTIVATED (R517): At tick a the structure swaps and the shepherd reloads from the new slot. -/
def execActivated (s : State) : Host.Outcome State Fault Refusal := .next (whenOn doActivated s)

/-- FALLBACK (R523): At fallback tick f the confirmed pair is restored. -/
def execFallback (s : State) : Host.Outcome State Fault Refusal := .next (whenOn doFallback s)

/-- TPLOAD (R512): UPD_TPLOAD.GO copies a tick program into a tick core. -/
def execTpload (rq : Requester) (core : Fin 4) (s : State) : Host.Outcome State Fault Refusal :=
  .next (whenOn (doTpload rq core) s)

/-- TPLOAD_DONE (R512): The tick program's digest is checked. -/
def execTploadDone (core : Fin 4) (s : State) : Host.Outcome State Fault Refusal := .next (whenOn (doTploadDone core) s)

end Sys2Proof.Machine
end

