-- ==== Sys2Proof/Machine/CmdWindows.lean ====
section
/-! DEFINITION. The meanings of the commands of data windows and queues: one for each row of the table, over the operations of the block it acts on.
In REST and OFF an unpowered domain takes no command (R481). -/

namespace Sys2Proof.Machine

/-- W_OPEN (R319): W_CTRL.OPEN makes the writer the holder of a free window. -/
def execWOpen (rq : Requester) (n : Fin 4) (s : State) : Host.Outcome State Fault Refusal :=
  .next (whenOn (written .dwin (0x1000 + n.val * 0x40) rq (doWOpen rq n)) s)

/-- W_CLOSE (R321): W_CTRL.CLOSE from the holder ends the hold and empties the buffer. -/
def execWClose (rq : Requester) (n : Fin 4) (s : State) : Host.Outcome State Fault Refusal :=
  .next (whenOn (written .dwin (0x1000 + n.val * 0x40) rq (doWClose rq n)) s)

/-- W_GO (R322): W_CTRL.GO issues a read burst, or a write burst of the buffered words. -/
def execWGo (rq : Requester) (n : Fin 4) (s : State) : Host.Outcome State Fault Refusal := .next (whenOn (doWGo rq n) s)

/-- W_CLRCNT (R11): W_CTRL.CLRCNT clears W_WORDS, W_LOST and W_NOWN. -/
def execWClrcnt (rq : Requester) (n : Fin 4) (s : State) : Host.Outcome State Fault Refusal :=
  .next (whenOn (doWClrcnt rq n) s)

/-- W_DATA_WRITE (R323): A write of W_DATA appends a word and issues a write burst once BURST words are buffered. -/
def execWDataWrite (rq : Requester) (n : Fin 4) (v : Word) (s : State) : Host.Outcome State Fault Refusal :=
  .next (whenOn (doWDataWrite rq n v) s)

/-- W_DATA_READ (R322): A read of W_DATA pops the oldest buffered word. -/
def execWDataRead (rq : Requester) (n : Fin 4) (s : State) : Host.Outcome State Fault Refusal :=
  .next (whenOn (doWDataRead rq n) s)

/-- TXN_START (R328): A waiting transaction starts once fewer than 64 are outstanding. -/
def execTxnStart (s : State) : Host.Outcome State Fault Refusal := .next (whenOn doTxnStart s)

/-- BURST_DONE (R325): A window burst completes, and W_ADDR advances. -/
def execBurstDone (n : Fin 4) (lost : List Bool) (s : State) : Host.Outcome State Fault Refusal :=
  .next (whenOn (doBurstDone n lost) s)

/-- Q_FLUSH (R332): Q_CTRL.FLUSH from keeper level empties the queue. -/
def execQFlush (rq : Requester) (q : Fin 128) (s : State) : Host.Outcome State Fault Refusal :=
  .next (whenOn (doQFlush rq q) s)

/-- Q_CLRCNT (R11): Q_CTRL.CLRCNT clears the queue counters and the high-water mark. -/
def execQClrcnt (rq : Requester) (q : Fin 128) (s : State) : Host.Outcome State Fault Refusal :=
  .next (whenOn (doQClrcnt rq q) s)

end Sys2Proof.Machine
end

