-- ==== Sys2Proof/Machine/Dispatch.lean ====
section
/-! DEFINITION. The command a constructor of Instr stands for: one direct call of its meaning. -/

namespace Sys2Proof.Machine

/-- The effect of a command on everything but the queue. -/
def exec (i : Instr) (s : State) : Host.Outcome State Fault Refusal :=
  match i with
  | .tickStart => Sys2Proof.Machine.execTickStart s
  | .tickStretch => Sys2Proof.Machine.execTickStretch s
  | .sampleMark m => Sys2Proof.Machine.execSampleMark m s
  | .coreWindowOpen => Sys2Proof.Machine.execCoreWindowOpen s
  | .tickProgramFinish k => Sys2Proof.Machine.execTickProgramFinish k s
  | .overrun k => Sys2Proof.Machine.execOverrun k s
  | .envelopePhase => Sys2Proof.Machine.execEnvelopePhase s
  | .holdExpire src => Sys2Proof.Machine.execHoldExpire src s
  | .escEnd o => Sys2Proof.Machine.execEscEnd o s
  | .commitMark dieOk => Sys2Proof.Machine.execCommitMark dieOk s
  | .deckRestPattern die => Sys2Proof.Machine.execDeckRestPattern die s
  | .guardBand rowOk => Sys2Proof.Machine.execGuardBand rowOk s
  | .inputSample x => Sys2Proof.Machine.execInputSample x s
  | .outCmd rq o v => Sys2Proof.Machine.execOutCmd rq o v s
  | .wdraw rq o => Sys2Proof.Machine.execWdraw rq o s
  | .escclr rq o => Sys2Proof.Machine.execEscclr rq o s
  | .delayedCmdRelease k src => Sys2Proof.Machine.execDelayedCmdRelease k src s
  | .structLoadGo rq slot => Sys2Proof.Machine.execStructLoadGo rq slot s
  | .shadowReady => Sys2Proof.Machine.execShadowReady s
  | .shadowAckTimeout => Sys2Proof.Machine.execShadowAckTimeout s
  | .swapatArm rq hi => Sys2Proof.Machine.execSwapatArm rq hi s
  | .structCancel rq => Sys2Proof.Machine.execStructCancel rq s
  | .swap => Sys2Proof.Machine.execSwap s
  | .fastScTrip k current => Sys2Proof.Machine.execFastScTrip k current s
  | .ocTrip k current => Sys2Proof.Machine.execOcTrip k current s
  | .thermalTrip k temp => Sys2Proof.Machine.execThermalTrip k temp s
  | .inrushEnd k => Sys2Proof.Machine.execInrushEnd k s
  | .retry k => Sys2Proof.Machine.execRetry k s
  | .retryClear k => Sys2Proof.Machine.execRetryClear k s
  | .reenable rq k => Sys2Proof.Machine.execReenable rq k s
  | .hswClrcnt rq k => Sys2Proof.Machine.execHswClrcnt rq k s
  | .openLoadWindow k current node => Sys2Proof.Machine.execOpenLoadWindow k current node s
  | .fwMissing k current => Sys2Proof.Machine.execFwMissing k current s
  | .distForced k current temp => Sys2Proof.Machine.execDistForced k current temp s
  | .foldUv f vf => Sys2Proof.Machine.execFoldUv f vf s
  | .solEventStart k => Sys2Proof.Machine.execSolEventStart k s
  | .peakEnd k => Sys2Proof.Machine.execPeakEnd k s
  | .eventEnd k => Sys2Proof.Machine.execEventEnd k s
  | .minoffEnd k => Sys2Proof.Machine.execMinoffEnd k s
  | .lateDrop k => Sys2Proof.Machine.execLateDrop k s
  | .move k tmax tmin imax imin vfStart vfMin => Sys2Proof.Machine.execMove k tmax tmin imax imin vfStart vfMin s
  | .noMove k imax => Sys2Proof.Machine.execNoMove k imax s
  | .coilOpen k imax => Sys2Proof.Machine.execCoilOpen k imax s
  | .drvShort k current => Sys2Proof.Machine.execDrvShort k current s
  | .feedLeak hs current => Sys2Proof.Machine.execFeedLeak hs current s
  | .solFwMissing k current => Sys2Proof.Machine.execSolFwMissing k current s
  | .solClrcnt rq k => Sys2Proof.Machine.execSolClrcnt rq k s
  | .dimmingPeriodStart k => Sys2Proof.Machine.execDimmingPeriodStart k s
  | .lampWindow pos m => Sys2Proof.Machine.execLampWindow pos m s
  | .lampClamp pos mv => Sys2Proof.Machine.execLampClamp pos mv s
  | .stringLow k current vn16 => Sys2Proof.Machine.execStringLow k current vn16 s
  | .stringHot k temp => Sys2Proof.Machine.execStringHot k temp s
  | .stringReenable rq k => Sys2Proof.Machine.execStringReenable rq k s
  | .posClrcnt rq pos => Sys2Proof.Machine.execPosClrcnt rq pos s
  | .peCtrlWrite rq e reg v => Sys2Proof.Machine.execPeCtrlWrite rq e reg v s
  | .chainSend rq l => Sys2Proof.Machine.execChainSend rq l s
  | .chainFrameDone l => Sys2Proof.Machine.execChainFrameDone l s
  | .chainFault l share => Sys2Proof.Machine.execChainFault l share s
  | .dinClrcnt rq k => Sys2Proof.Machine.execDinClrcnt rq k s
  | .move3 core => Sys2Proof.Machine.execMove3 core s
  | .imm32 core => Sys2Proof.Machine.execImm32 core s
  | .wait core => Sys2Proof.Machine.execWait core s
  | .shepherdWaitResume => Sys2Proof.Machine.execShepherdWaitResume s
  | .brk core => Sys2Proof.Machine.execBrk core s
  | .eventEntry => Sys2Proof.Machine.execEventEntry s
  | .operationComplete core u => Sys2Proof.Machine.execOperationComplete core u s
  | .lockstep => Sys2Proof.Machine.execLockstep s
  | .shepherdRestart => Sys2Proof.Machine.execShepherdRestart s
  | .bankOwnerWrite rq bank v => Sys2Proof.Machine.execBankOwnerWrite rq bank v s
  | .keepdataAccess rq w => Sys2Proof.Machine.execKeepdataAccess rq w s
  | .mwGo rq => Sys2Proof.Machine.execMwGo rq s
  | .mwDone => Sys2Proof.Machine.execMwDone s
  | .mwFail words readback => Sys2Proof.Machine.execMwFail words readback s
  | .wOpen rq n => Sys2Proof.Machine.execWOpen rq n s
  | .wClose rq n => Sys2Proof.Machine.execWClose rq n s
  | .wGo rq n => Sys2Proof.Machine.execWGo rq n s
  | .wClrcnt rq n => Sys2Proof.Machine.execWClrcnt rq n s
  | .wDataWrite rq n v => Sys2Proof.Machine.execWDataWrite rq n v s
  | .wDataRead rq n => Sys2Proof.Machine.execWDataRead rq n s
  | .txnStart => Sys2Proof.Machine.execTxnStart s
  | .burstDone n lost => Sys2Proof.Machine.execBurstDone n lost s
  | .qFlush rq q => Sys2Proof.Machine.execQFlush rq q s
  | .qClrcnt rq q => Sys2Proof.Machine.execQClrcnt rq q s
  | .tbStep rq n hi => Sys2Proof.Machine.execTbStep rq n hi s
  | .tbRateWrite rq n v => Sys2Proof.Machine.execTbRateWrite rq n v s
  | .tbOos rq n v => Sys2Proof.Machine.execTbOos rq n v s
  | .tbArm rq n => Sys2Proof.Machine.execTbArm rq n s
  | .timeCapture rq => Sys2Proof.Machine.execTimeCapture rq s
  | .timeMap => Sys2Proof.Machine.execTimeMap s
  | .tallyFwGo rq => Sys2Proof.Machine.execTallyFwGo rq s
  | .tallyFlush rq => Sys2Proof.Machine.execTallyFlush rq s
  | .tallyEntryRead rq => Sys2Proof.Machine.execTallyEntryRead rq s
  | .archiveCopy ok => Sys2Proof.Machine.execArchiveCopy ok s
  | .portLinkChange p up phy master => Sys2Proof.Machine.execPortLinkChange p up phy master s
  | .linkRx p f => Sys2Proof.Machine.execLinkRx p f s
  | .frameForward p f fcs residence => Sys2Proof.Machine.execFrameForward p f fcs residence s
  | .frameSend p => Sys2Proof.Machine.execFrameSend p s
  | .remuster rq => Sys2Proof.Machine.execRemuster rq s
  | .callRx p f => Sys2Proof.Machine.execCallRx p f s
  | .rollTx => Sys2Proof.Machine.execRollTx s
  | .rollRx p f r => Sys2Proof.Machine.execRollRx p f r s
  | .tokenTx => Sys2Proof.Machine.execTokenTx s
  | .tokenRx p f => Sys2Proof.Machine.execTokenRx p f s
  | .doneRx p f => Sys2Proof.Machine.execDoneRx p f s
  | .musterDone => Sys2Proof.Machine.execMusterDone s
  | .musterFail => Sys2Proof.Machine.execMusterFail s
  | .musterRecall => Sys2Proof.Machine.execMusterRecall s
  | .timeTx => Sys2Proof.Machine.execTimeTx s
  | .timeRx p f => Sys2Proof.Machine.execTimeRx p f s
  | .timeLost => Sys2Proof.Machine.execTimeLost s
  | .stateTx => Sys2Proof.Machine.execStateTx s
  | .stateRx p f => Sys2Proof.Machine.execStateRx p f s
  | .audioTx k ins => Sys2Proof.Machine.execAudioTx k ins s
  | .audioRx p f => Sys2Proof.Machine.execAudioRx p f s
  | .msgTx => Sys2Proof.Machine.execMsgTx s
  | .msgRx p f => Sys2Proof.Machine.execMsgRx p f s
  | .raGo rq c => Sys2Proof.Machine.execRaGo rq c s
  | .raAbandon rq c => Sys2Proof.Machine.execRaAbandon rq c s
  | .raReqRx p f q => Sys2Proof.Machine.execRaReqRx p f q s
  | .raRspRx p f r => Sys2Proof.Machine.execRaRspRx p f r s
  | .raTimeout c => Sys2Proof.Machine.execRaTimeout c s
  | .canRxFrame ch f age => Sys2Proof.Machine.execCanRxFrame ch f age s
  | .canTxTake ch => Sys2Proof.Machine.execCanTxTake ch s
  | .txFrame ch age delay => Sys2Proof.Machine.execTxFrame ch age delay s
  | .refSend => Sys2Proof.Machine.execRefSend s
  | .refLost => Sys2Proof.Machine.execRefLost s
  | .mapTimeout o => Sys2Proof.Machine.execMapTimeout o s
  | .canBusError ch tx special code age => Sys2Proof.Machine.execCanBusError ch tx special code age s
  | .busOn ch => Sys2Proof.Machine.execBusOn ch s
  | .chInit rq ch v => Sys2Proof.Machine.execChInit rq ch v s
  | .mbusClrcnt rq ch => Sys2Proof.Machine.execMbusClrcnt rq ch s
  | .trxReq rq ch v => Sys2Proof.Machine.execTrxReq rq ch v s
  | .txdTimeout ch => Sys2Proof.Machine.execTxdTimeout ch s
  | .wakePattern ch => Sys2Proof.Machine.execWakePattern ch s
  | .wakeAddress ct t => Sys2Proof.Machine.execWakeAddress ct t s
  | .activeWrite rq k v => Sys2Proof.Machine.execActiveWrite rq k v s
  | .handleTouch r a b => Sys2Proof.Machine.execHandleTouch r a b s
  | .touchRepeat r => Sys2Proof.Machine.execTouchRepeat r s
  | .pollStart r => Sys2Proof.Machine.execPollStart r s
  | .rdPoll rq r => Sys2Proof.Machine.execRdPoll rq r s
  | .depotPoll r => Sys2Proof.Machine.execDepotPoll r s
  | .tokenRecord bytes age => Sys2Proof.Machine.execTokenRecord bytes age s
  | .counterWriteDone => Sys2Proof.Machine.execCounterWriteDone s
  | .pollEnd => Sys2Proof.Machine.execPollEnd s
  | .resyncLapsed ts => Sys2Proof.Machine.execResyncLapsed ts s
  | .lockoutEnd => Sys2Proof.Machine.execLockoutEnd s
  | .sessionEnd r cause => Sys2Proof.Machine.execSessionEnd r cause s
  | .learnStart rq v => Sys2Proof.Machine.execLearnStart rq v s
  | .learnEnd cause => Sys2Proof.Machine.execLearnEnd cause s
  | .learnPoll => Sys2Proof.Machine.execLearnPoll s
  | .parkStop => Sys2Proof.Machine.execParkStop s
  | .keyWrite rq arg => Sys2Proof.Machine.execKeyWrite rq arg s
  | .keyErase rq arg => Sys2Proof.Machine.execKeyErase rq arg s
  | .attest rq arg => Sys2Proof.Machine.execAttest rq arg s
  | .cmac rq arg => Sys2Proof.Machine.execCmac rq arg s
  | .encrypt rq arg => Sys2Proof.Machine.execEncrypt rq arg s
  | .decrypt rq arg => Sys2Proof.Machine.execDecrypt rq arg s
  | .sha256 rq arg => Sys2Proof.Machine.execSha256 rq arg s
  | .random rq arg => Sys2Proof.Machine.execRandom rq arg s
  | .advance rq arg => Sys2Proof.Machine.execAdvance rq arg s
  | .ticket rq arg => Sys2Proof.Machine.execTicket rq arg s
  | .tclear rq arg holding => Sys2Proof.Machine.execTclear rq arg holding s
  | .keyCmdDone => Sys2Proof.Machine.execKeyCmdDone s
  | .tamper sources elapsed => Sys2Proof.Machine.execTamper sources elapsed s
  | .trngFail failed => Sys2Proof.Machine.execTrngFail failed s
  | .restReq rq sched => Sys2Proof.Machine.execRestReq rq sched s
  | .offReq rq sched => Sys2Proof.Machine.execOffReq rq sched s
  | .opReq rq v => Sys2Proof.Machine.execOpReq rq v s
  | .opChange => Sys2Proof.Machine.execOpChange s
  | .reqCancelled sources pins => Sys2Proof.Machine.execReqCancelled sources pins s
  | .restEnter => Sys2Proof.Machine.execRestEnter s
  | .restEntryComplete => Sys2Proof.Machine.execRestEntryComplete s
  | .wake sources pins => Sys2Proof.Machine.execWake sources pins s
  | .regRetry ok => Sys2Proof.Machine.execRegRetry ok s
  | .clockDegraded => Sys2Proof.Machine.execClockDegraded s
  | .vblLow vbl => Sys2Proof.Machine.execVblLow vbl s
  | .vblOff => Sys2Proof.Machine.execVblOff s
  | .coldStart por bistFail pins vbl => Sys2Proof.Machine.execColdStart por bistFail pins vbl s
  | .nsVoteTx => Sys2Proof.Machine.execNsVoteTx s
  | .nsVoteRx p f => Sys2Proof.Machine.execNsVoteRx p f s
  | .nsVoteExpired pos => Sys2Proof.Machine.execNsVoteExpired pos s
  | .nsCommand => Sys2Proof.Machine.execNsCommand s
  | .nsCommandRx p f => Sys2Proof.Machine.execNsCommandRx p f s
  | .nsAbort p f => Sys2Proof.Machine.execNsAbort p f s
  | .nsMissed => Sys2Proof.Machine.execNsMissed s
  | .nsCtrlWrite rq v => Sys2Proof.Machine.execNsCtrlWrite rq v s
  | .falseWake => Sys2Proof.Machine.execFalseWake s
  | .begin rq => Sys2Proof.Machine.execBegin rq s
  | .verify rq => Sys2Proof.Machine.execVerify rq s
  | .verified => Sys2Proof.Machine.execVerified s
  | .schedule rq => Sys2Proof.Machine.execSchedule rq s
  | .updCancel rq => Sys2Proof.Machine.execUpdCancel rq s
  | .confirm rq => Sys2Proof.Machine.execConfirm rq s
  | .migfail rq => Sys2Proof.Machine.execMigfail rq s
  | .actsend rq => Sys2Proof.Machine.execActsend rq s
  | .bundleDataRx p f => Sys2Proof.Machine.execBundleDataRx p f s
  | .activateRx p f => Sys2Proof.Machine.execActivateRx p f s
  | .updStatusTx => Sys2Proof.Machine.execUpdStatusTx s
  | .bootRecordWrite => Sys2Proof.Machine.execBootRecordWrite s
  | .activated => Sys2Proof.Machine.execActivated s
  | .fallback => Sys2Proof.Machine.execFallback s
  | .tpload rq core => Sys2Proof.Machine.execTpload rq core s
  | .tploadDone core => Sys2Proof.Machine.execTploadDone core s
  | .pertEnable rq v => Sys2Proof.Machine.execPertEnable rq v s
  | .pertMemctlGo rq v => Sys2Proof.Machine.execPertMemctlGo rq v s
  | .sysReset rq v => Sys2Proof.Machine.execSysReset rq v s
  | .moduleReset => Sys2Proof.Machine.execModuleReset s
  | .svcTransaction bytes => Sys2Proof.Machine.execSvcTransaction bytes s
  | .registerWrite rq addr width v => Sys2Proof.Machine.execRegisterWrite rq addr width v s
  | .touchRelease r a b => Sys2Proof.Machine.execTouchRelease r a b s
  | .trainDiscarded ct => Sys2Proof.Machine.execTrainDiscarded ct s
  | .resetThroughJtag => Sys2Proof.Machine.execResetThroughJtag s

end Sys2Proof.Machine
end

