-- ==== Sys2Proof/Machine/Idle.lean ====
section
/-! DEFINITION. What passes while no command waits (log entry 2). -/

namespace Sys2Proof.Machine

/-- One cycle of the clock that runs: 5 ns of the timer clock on every time base (R335), in REST one cycle of the
32.768 kHz clock (R339), in OFF nothing. [log 2 DESIGN CHOICE] -/
def idleCycle (s : State) : State :=
  match s.pwr.mode with
  | .off => s
  | .rest => { s with pwr := { s.pwr with restCycles := s.pwr.restCycles + 1 } }
  | _ => runCycles 1 s

end Sys2Proof.Machine
end

