-- ==== Sys2Proof/WellFormed.lean ====
section
/-! DEFINITION. Well-formed commands: what an operand must be for the command to be one that the module's surroundings can
give it. The meanings are total; these bounds say which operands stand for something. -/

namespace Sys2Proof

open Sys2Proof.Machine

/-- A register access: a 32-bit address, and a byte, half-word or word (R10). -/
def accessOk (addr width : Nat) : Bool := decide (addr < 2 ^ 32) && (width == 1 || width == 2 || width == 4)

/-- A frame on a drove link: a header of 16 bytes, and at most 2,047 bytes of payload with a tag of 8 (Table 14.1). The FCS
is not among the bytes. -/
def frameOk (f : List Byte) : Bool := decide (16 ≤ f.length ∧ f.length ≤ 2071)

/-- A CAN frame: at most 64 bytes of data with FD, 8 without, and none in a remote frame (Table 15.1). -/
def canOk (f : CanFrame) : Bool := decide (f.data.length ≤ if f.remote then 0 else if f.fd then 64 else 8)

/-- A frame of samples: 12, 24, 48 or 96 of them (R422). -/
def samplesOk (n : Nat) : Bool := n == 12 || n == 24 || n == 48 || n == 96

/-- A train of an address decoder: nine pulses after the reference (R418). -/
def trainOk (t : Train) : Bool := decide (t.pulses.length ≤ 9)

/-- The command's operands lie in the ranges of its rules. [log 109 DESIGN CHOICE] -/
def Instr.wellFormed (i : Instr) : Bool :=
  match i with
  | .registerWrite _ addr width _ => accessOk addr width
  | .svcTransaction bytes => decide (1 ≤ bytes.length)
  | .mwFail words _ => decide (words ≤ 65535)
  | .linkRx _ f => frameOk f
  | .frameForward _ f _ _ => decide (1 ≤ f.length)
  | .callRx _ f => frameOk f
  | .rollRx _ f _ => frameOk f
  | .tokenRx _ f => frameOk f
  | .doneRx _ f => frameOk f
  | .timeRx _ f => frameOk f
  | .stateRx _ f => frameOk f
  | .audioRx _ f => frameOk f
  | .msgRx _ f => frameOk f
  | .raReqRx _ f _ => frameOk f
  | .raRspRx _ f _ => frameOk f
  | .nsVoteRx _ f => frameOk f
  | .nsCommandRx _ f => frameOk f
  | .nsAbort _ f => frameOk f
  | .bundleDataRx _ f => frameOk f
  | .activateRx _ f => frameOk f
  | .audioTx _ ins => decide (ins.length ≤ 32) && ins.all fun l => samplesOk l.length
  | .canRxFrame _ f _ => canOk f
  | .wakeAddress _ t => trainOk t
  | _ => true

end Sys2Proof
end

