-- ==== Sys2Proof/Safety.lean ====
section
/-! DEFINITION. What counts as a sound state, in the terms that claims use. -/

namespace Sys2Proof.Machine

/-- The module is powered: in RUN, entering REST or OFF, or waking (Table 19.1). -/
def State.powered (s : State) : Bool :=
  match s.pwr.mode with
  | .rest => false
  | .off => false
  | _ => true

/-- Both memories are in canonical form. -/
def State.memOk (s : State) : Bool := Memory.wf s.mem.ram && Memory.wf s.mem.mram

/-- The only command that leaves OFF (R484). -/
def isColdStart (i : Instr) : Bool :=
  match i with
  | .coldStart _ _ _ _ => true
  | _ => false

/-- The commands of the OFF cell: the start, and the supply monitor (R484, R498). -/
def isOffCell (i : Instr) : Bool :=
  match i with
  | .coldStart _ _ _ _ => true
  | .vblLow _ => true
  | _ => false

/-- Every output lane is off: gates, solenoid drivers, lamps (Table 19.1). -/
def State.isDark (s : State) : Bool :=
  s.hsw.ch.toList.all (fun h => !h.gate) && s.sol.ch.toList.all (fun c => !c.active) &&
    s.led.pos.toList.all (fun h => h.disp == 0 && h.pulse == 0)

/-- The module is in OFF, every output is off, and no cold start waits. -/
def State.offInv (s : State) : Prop :=
  s.pwr.mode = .off ∧ s.isDark = true ∧ ∀ c ∈ s.pending, isColdStart c = false

/-- A command of the domains that stay powered in REST: the always-on tile, the field decoders, the supply monitor, and the
start (R482, R484). -/
def isAlwaysOn (i : Instr) : Bool :=
  match i with
  | .tamper _ _ => true
  | .wakePattern _ => true
  | .wakeAddress _ _ => true
  | .trainDiscarded _ => true
  | .wake _ _ => true
  | .parkStop => true
  | .lockoutEnd => true
  | .vblLow _ => true
  | .vblOff => true
  | .coldStart _ _ _ _ => true
  | _ => false

/-- An offset of a block that is assigned to no register (R14): no head register and none of the block's own. -/
def unassigned (b : Block) (off : Nat) : Bool :=
  !isHead off &&
    match b with
    | .dwin => !([0x004, 0x008, 0x020, 0x024].contains off) && !decide (0x1000 ≤ off ∧ off < 0x1100 ∧ off % 0x40 < 0x20)
    | _ => (blockReg b off).isNone

/-- A frame of a kind that the module takes: its header is good, its length that of the header, and the module consumes
and accepts it (R360 to R362, R367). -/
def State.takesFrame (s : State) (kind : Nat) (f : List Byte) : Bool :=
  headerOk f && frSize f == f.length && frKind f == kind && s.consumes f && s.accepts f

/-- The word of a key command, or KEY_ARG beside it, holds a reserved value (R469, Table 18.4). -/
def State.keyBad (s : State) (op : Nat) (arg : Word) : Bool :=
  let v := cmdWord op arg
  field v 4 4 != 0 || field v 14 2 != 0 || field v 21 11 != 0 || argBad op (field v 8 6) s.key.arg

/-- A key command that the mailbox begins to judge by its own rules: the requester may write it, nothing runs, the word and
KEY_ARG hold no reserved value, and the life cycle state has the command (R456 to R460). -/
def State.takesKeyCmd (s : State) (rq : Requester) (op : Nat) (arg : Word) : Bool :=
  s.keyWriter rq && s.key.state != .busy && !s.keyBad op arg && s.key.lcs != 6 && (!s.key.provision || provisionOp op)

/-- The state in which the key core begins a mailbox command of a requester: it has had its turn among the writes of the cycle,
and a free value has said whether the check of an image that loads comes before it (R15, R469). -/
def State.keyTurn (s : State) (rq : Requester) : State :=
  let u := inTurn .key 0x020 rq.rank s
  if u.strct.shadow = .loading then tickFree u else u

/-- The word that an output commits at the next commit mark (R51, R58). -/
def State.toCommit (s : State) (o : Nat) : Word :=
  match (s.out o).next with
  | some p => p.word
  | none => (s.out o).commit

/-- The next entry reaches the journal at once: its index is free and no drop is waiting to be reported (R352). -/
def State.canLog (s : State) : Bool := s.tally.free && s.tally.dropped == 0

/-- The journal holds an entry with this code, severity, location code and payload. -/
def State.hasEntry (s : State) (code sev : Nat) (loc : Word) (payload : DWord) : Bool :=
  s.tally.journal.any fun x => x.e.code.toNat == code && x.e.sev == sev && x.e.loc == loc && x.e.payload == payload

/-- A run of the module: the states that follow a state as commands are taken, all of them reached without a stop. -/
def runsTo : Nat → State → Option State
  | 0, s => some s
  | k + 1, s =>
    match step s with
    | .next t => runsTo k t
    | _ => none

end Sys2Proof.Machine
end

