-- ==== Sys2Proof/Certificates/Slice0/Obligations.lean ====
section
/-! DEFINITION. The statements: what the module does at each command, what it leaves as it was, and what holds of every
step. -/

open Sys2Proof
open Sys2Proof.Machine

/-! ### The machine as a whole -/

/-- A step takes the command at the front of the queue and answers what exec answers on the state with the queue's
rest. -/
def Obligations.StepRunsFront : Prop :=
  ∀ (c : Instr) (cs : List Instr) (s : State),
    step { s with pending := c :: cs } = exec c { s with pending := cs }

/-- With no command waiting, a step passes one 5 ns cycle of the timer clock on all four bases and nothing else; in
OFF it changes nothing, in REST it counts one cycle of the 32.768 kHz clock. That the idle step is one cycle is the
model's choice (log entry 2). In OFF every command but those of the OFF cell, COLD_START and VBL_LOW, leaves the whole
state as it is: the module is unpowered; there VBL_LOW with a reading of at most 13.3 V (13.0 V with its tolerance,
log entry 87) sets the VBLLOW status and changes nothing else, and with a higher one nothing at all. In REST the
commands of the domains that REST leaves unpowered change nothing: of all commands only those of the always-on domain,
the field decoders' and the supply's act. -/
def Obligations.QuietModule : Prop :=
  (∀ s : State, s.pending = [] →
     (s.powered = true → step s = .next { s with time := { s.time with tb := s.time.tb.map (TimeBase.run 1) } }) ∧
     (s.pwr.mode = .off → step s = .next s) ∧
     (s.pwr.mode = .rest → step s = .next { s with pwr := { s.pwr with restCycles := s.pwr.restCycles + 1 } })) ∧
  (∀ (c : Instr) (s : State), s.pwr.mode = .off → isOffCell c = false → exec c s = .next s) ∧
  (∀ (vbl : Half) (s : State), s.pwr.mode = .off →
     exec (.vblLow vbl) s =
       .next (if vbl.toNat ≤ 1330 then { s with pwr := { s.pwr with vblLow := true } } else s)) ∧
  (∀ (c : Instr) (s : State), s.pwr.mode = .rest →
     isAlwaysOn c = false →
     exec c s = .next s)

/-- The state after reset: no command waits, no tick runs, no configuration is in force, every gate, driver and lamp
is off, TB0 counts and TB1 to TB3 are out of service at rate 0, the journal is empty, no window is held, no remote
access is outstanding, every lock-in register of the head pages is 0, and the registers whose reset the manual gives
stand at it. Both memories are in canonical form after reset, with nothing listed. -/
def Obligations.ResetLeaves : Prop :=
  (State.reset.pending = [] ∧ State.reset.tick.phase = .off ∧ State.reset.tick.count = 0 ∧
     State.reset.strct.shadow = .empty ∧ State.reset.strct.inForce = false ∧ State.reset.isDark = true ∧
     State.reset.time.tb[0].oos = false ∧
     (∀ n : Fin 4, n ≠ 0 → State.reset.time.tb[n].oos = true) ∧
     (∀ n : Fin 4, State.reset.time.tb[n].rate = 0 ∧ State.reset.time.tb[n].value = 0) ∧
     State.reset.tally.journal = [] ∧ State.reset.dwin.inuse = 0 ∧ State.reset.fab.state = .alone ∧
     State.reset.pwr.opCur = 3 ∧ State.reset.pwr.maxAwake = 30 ∧ State.reset.pwr.falseWake = 2 ∧
     State.reset.pwr.lead = 64 ∧
     (∀ b : Block, (State.reset.head b).irq = 0 ∧ (State.reset.head b).en = 0 ∧ (State.reset.head b).err = 0) ∧
     State.reset.evt.pend = 0 ∧ State.reset.sys.errstat = 0 ∧
     State.reset.pert.enable = 0) ∧
  (State.reset.memOk = true ∧ State.reset.mem.ram = [] ∧ State.reset.mem.mram = [])

/-- Off and dark is an invariant of every step: a module in OFF with every output off, and no cold start waiting,
answers every step with a state in OFF, every output off, no cold start waiting. -/
def Obligations.OffStaysDark : Prop :=
  ∀ s t : State, s.offInv → step s = .next t → t.offInv

/-- Both memories stay in their canonical form through every step. -/
def Obligations.MemoryFormKept : Prop :=
  ∀ s t : State, s.memOk = true → step s = .next t → t.memOk = true

/-- A command leaves the queue of waiting commands as it is: a step removes the command it took and adds none. -/
def Obligations.CommandsLeaveTheQueue : Prop :=
  ∀ (c : Instr) (s t : State), exec c s = .next t → t.pending = s.pending

/-! ### The operations that every block shares -/

/-- An entry reaches the tally: with its index free, no drops to report and no other entry of its cycle it becomes the
entry of SEQ at journal index SEQ mod 8,192, SEQ rises by 1, every other index keeps its entry, and nothing outside
the tally, the head registers and the event lines changes. Entries of one cycle stand in the order of the writing
engine's die and tile: the newest takes the place and the number of one that an engine of a higher tile wrote. An
entry whose index still holds an unarchived entry is dropped: its sequence number is consumed, LOST counts it, the
journal is unchanged and IRQ bit 2 is set. A block's event line becomes pending when hardware sets an enabled
IRQ_STATUS bit, and a masked bit raises none. -/
def Obligations.EntriesAndInterrupts : Prop :=
  (∀ (time : DWord) (age code sev : Nat) (loc : Word) (p : DWord) (s : State),
     s.tally.free = true → s.tally.dropped = 0 → (s.tally.sameN = 0 ∨ s.tally.sameAt ≠ s.cycle) →
     let e := mkEntry s time (entryFlags s.drvIdx.val sev (s.oosAgo s.drvIdx age) false) code loc p
     let t := logAt time age code sev loc p s
     t.tally.at_ (s.tally.seq.toNat % 8192) = some ⟨{ e with seq := s.tally.seq }, false⟩ ∧
       t.tally.seq = s.tally.seq + 1 ∧
       (∀ i, i ≠ s.tally.seq.toNat % 8192 → t.tally.at_ i = s.tally.at_ i) ∧
       t = { s with tally := t.tally, heads := t.heads, evt := t.evt }) ∧
  (∀ (e : Entry) (a : JEntry) (rest : List JEntry) (s : State), s.tally.free = true → s.tally.dropped = 0 →
     s.tally.sameAt = s.cycle → s.tally.sameN = 1 → s.tally.journal = a :: rest → a.archived = false →
     (s.tally.seq.toNat % 8192 ≠ a.e.seq.toNat % 8192) →
     let t := tallyWrite e s
     (e.writer < a.e.writer →
       ∃ more, t.tally.journal = ⟨{ a.e with seq := s.tally.seq }, false⟩ :: ⟨{ e with seq := a.e.seq }, false⟩ :: more) ∧
     (a.e.writer ≤ e.writer → ∃ more, t.tally.journal = ⟨{ e with seq := s.tally.seq }, false⟩ :: a :: more)) ∧
  (∀ (e : Entry) (s : State), s.tally.free = false →
     let t := tallyWrite e s
     t.tally.journal = s.tally.journal ∧ t.tally.seq = s.tally.seq + 1 ∧ t.tally.lost = satInc s.tally.lost ∧
       t.tally.dropped = s.tally.dropped + 1 ∧ bit (t.head .tally).irq 2 = true) ∧
  (∀ (b : Block) (i : Nat) (s : State), i < 32 →
     let t := setIrq b i s
     (t.head b).irq = setBit (s.head b).irq i ∧ (t.head b).en = (s.head b).en ∧ (t.head b).err = (s.head b).err ∧
       ((t.head b).irq &&& (t.head b).en ≠ 0 → t.evt.pend.getLsbD b.idx.val = true) ∧
       ((t.head b).irq &&& (t.head b).en = 0 → t.evt = s.evt) ∧
       (∀ b' : Block, b'.idx ≠ b.idx → t.head b' = s.head b') ∧
       t = { s with heads := t.heads, evt := t.evt })

/-- A register access that is no whole aligned word is not performed: a read returns 0, a write has no effect, and
the block's ERR.ACCESS bit is set and nothing else changes. -/
def Obligations.WrongWidthIsNotPerformed : Prop :=
  ∀ (rq : Requester) (addr width : Nat) (v : Word) (b : Block) (s : State),
    blockOf addr = some b → wholeWord addr width = false →
    accessRead rq addr width s = (0, setErr b 0 s) ∧ accessWrite rq addr width v s = setErr b 0 s ∧
      (s.powered = true → rq ≠ .fabric → exec (.registerWrite rq addr width v) s = .next (setErr b 0 s))

/-- A register address of a block that is assigned to no register reads 0 with no effect; a write there changes
nothing and sets SYS_ERRSTAT.RSVD_WR, with the address and the writer recorded when RSVD_WR was 0. In DWIN the bursts
in progress have moved their words up to that instant. -/
def Obligations.UnassignedAddress : Prop :=
  ∀ (rq : Requester) (addr : Nat) (v : Word) (b : Block) (s : State),
    s.powered = true → rq ≠ .fabric → wholeWord addr 4 = true → blockOf addr = some b →
    unassigned b (addr % 0x10000) = true →
    (b ≠ .dwin → accessRead rq addr 4 s = (0, s) ∧
      exec (.registerWrite rq addr 4 v) s = .next (reservedWrite rq (b.base + addr % 0x10000) s)) ∧
    (b = .dwin → accessRead rq addr 4 s = (0, burstsNow s) ∧
      exec (.registerWrite rq addr 4 v) s = .next (reservedWrite rq (b.base + addr % 0x10000)
        (inTurn .dwin (addr % 0x10000) rq.rank (burstsNow s))))

/-- A reserved write that finds RSVD_WR clear sets it and the SYS interrupt bit and records the address and the
writer; one that finds it set, or that stands in the cycle of a write that clears it, leaves the record of the first. The
writes of one cycle act in their fixed order: one that stands behind a later one of that order belongs to the next
cycle. A requester's latch returns the words latched with its
most recent low-word read, and its held write the low word it wrote last; the latches and held writes of other
requesters are untouched. -/
def Obligations.ReservedWritesAndLatches : Prop :=
  (∀ (rq : Requester) (addr : Nat) (s : State),
     let t := reservedWrite rq addr s
     bit t.sys.errstat 0 = true ∧ bit (t.head .sys).irq 0 = true ∧
       ((inTurn .sys 0x028 rq.place s).rsvdCleared = true →
         t.sys.errAddr = s.sys.errAddr ∧ t.sys.errSrc = s.sys.errSrc) ∧
       (bit s.sys.errstat 0 = false → s.rsvdCleared = false →
         t.sys.errAddr = BitVec.ofNat 32 addr ∧ t.sys.errSrc = pack [(0, rq.code), (2, rq.core)]) ∧
       (bit s.sys.errstat 0 = true → t.sys.errAddr = s.sys.errAddr ∧ t.sys.errSrc = s.sys.errSrc) ∧
       t = { s with sys := t.sys, heads := t.heads, evt := t.evt, time := t.time }) ∧
  (∀ (b : Block) (what rank : Nat) (s : State),
     let t := inTurn b what rank s
     ((∃ x ∈ (s.cycNote b).turn, x.1 = what ∧ rank < x.2) → t.time.tb = s.time.tb.map (TimeBase.run 1)) ∧
       ((∀ x ∈ (s.cycNote b).turn, x.1 = what → x.2 ≤ rank) → t.time = s.time) ∧
       t = { s with heads := t.heads, time := t.time }) ∧
  (∀ (rq rq' : Requester) (reg i : Nat) (w live : Word) (words : List Word) (s : State),
     latchedWord rq reg i live (latchRead rq reg words s) = words.getD i live ∧
       (∀ reg', reg' ≠ reg → latchedWord rq reg' i live (latchRead rq reg words s) = live) ∧
       heldWord rq reg (holdWrite rq reg w s) = some w ∧
       (∀ reg', reg' ≠ reg → heldWord rq reg' (holdWrite rq reg w s) = none) ∧
       heldWord rq reg (dropHeld rq (holdWrite rq reg w s)) = none ∧
       (rq'.slot ≠ rq.slot →
         latchedWord rq' reg i live (latchRead rq reg words s) = latchedWord rq' reg i live s ∧
         heldWord rq' reg (holdWrite rq reg w s) = heldWord rq' reg s ∧
         heldWord rq' reg (dropHeld rq s) = heldWord rq' reg s))

/-! ### The frame tick -/

/-- The tick generator: in RUN, in the guard band of tick n, with the driving base unmoved and no boot record due,
tick n + 1 begins; the driving base then reads n + 1 times T, moved by the jitter of the perturbation tile, or later.
After a jump of the driving base the tick is stretched: the count of stretched ticks rises, the next tick is numbered
after the multiple of T that the base to drive reaches next, and that base drives it. -/
def Obligations.TicksBegin : Prop :=
  (∀ s : State, s.pwr.mode = .run → s.strct.inForce = true → s.tick.phase = .guard → s.jumping = false →
     s.recordDue = false →
     ∃ t, exec .tickStart s = .next t ∧ t.tick.phase = .begun ∧
       t.tick.count = BitVec.ofNat 64 (s.tick.count.toNat + 1) ∧ t.tick.executed = s.tick.executed + 1 ∧
       t.tick.startDrv = BitVec.ofNat 64 (((s.tick.count.toNat + 1 : Nat) * s.T : Int) + t.pert.jit).toNat ∧
       t.tick.src = s.tick.src ∧ t.cfg = s.cfg ∧ t.hsw.ch = s.hsw.ch ∧ t.sol = s.sol ∧ t.led = s.led) ∧
  (∀ s : State, s.powered = true → s.tick.phase = .guard → s.jumping = true → s.recordDue = false →
     let u := passTo 0 ((s.tick.startTb0.toNat + s.T) * 2 ^ 32) s
     let n := ceilDiv (u.time.tb[if s.wantsTb1 then (1 : Fin 4) else 0]).value.toNat (s.T * 2 ^ 32)
     ∃ t, exec .tickStretch s = .next t ∧ t.tick.phase = .begun ∧ t.tick.count = BitVec.ofNat 64 n ∧
       t.tick.src = s.wantsTb1 ∧ t.tick.stretch = satInc s.tick.stretch ∧ t.tick.stepped = false)

/-- The phases of a tick follow each other: the sample mark opens the engine phase, the opening of the core window
starts every loaded tick program at its entry, the envelope phase stops every tick program still running and closes
the intake for direct commands, the commit mark opens the measurement phase with all dies on the same strobe, the
guard band ends the tick. -/
def Obligations.PhasesFollow : Prop :=
  ∀ s : State, s.powered = true →
    (∀ m, s.tick.phase = .begun → s.swapDue = false → s.activationDue = false →
      ∃ t, exec (.sampleMark m) s = .next t ∧ t.tick.phase = .engine ∧ t.evt.pend.getLsbD 25 = true) ∧
    (s.tick.phase = .engine →
      ∃ t, exec .coreWindowOpen s = .next t ∧ t.tick.phase = .core ∧
        ∀ k : Fin 4, (s.tick.tc[k] ≠ .notLoaded ∨ s.upd.tpStat[k] = 2) →
          t.tick.tc[k] = .running ∧ (t.cpu ⟨k.val + 1, by omega⟩).pc = s.cfg.proof[k].entry) ∧
    (s.tick.phase = .core →
      ∃ t, exec .envelopePhase s = .next t ∧ t.tick.phase = .envelope ∧ (∀ k : Fin 4, t.tick.tc[k] ≠ .running) ∧
        ∀ (o : Fin 256) (src : Fin 16), (t.hurdle.out[o]).fresh[src] ≠ .wdraw ∧
          (o.val < 96 ∨ 112 ≤ o.val → (t.hurdle.out[o]).fresh[src] = .none)) ∧
    (∀ ok, s.tick.phase = .envelope → s.recordDue = false →
      ∃ t, exec (.commitMark ok) s = .next t ∧ t.tick.phase = .measure ∧ t.evt.pend.getLsbD 26 = true ∧
        (∀ d : Fin 5, 1 ≤ d.val → (ok[d] = true → t.tick.missed[d] = 0) ∧
          (ok[d] = false → t.tick.missed[d] = s.tick.missed[d] + 1))) ∧
    (∀ rowOk, s.tick.phase = .measure → s.resetDue = false → s.entryDue = false →
      ∃ t, exec (.guardBand rowOk) s = .next t ∧ t.tick.phase = .guard ∧ t.mem.testing = false)

/-- A tick program that has issued its WAIT, with nothing in flight, finishes: it waits for the next core window and
nothing else changes. One that still runs when the envelope phase opens overruns: it is stopped with nothing in
flight, the commands its source wrote in the tick are discarded, the overrun is counted and reported as TICK entry
0x1001 with the core's number and its cycles, IRQ bit 0 and the core's event line. The outputs that a source brought
into HOLD and whose limit is reached enter REST by expiry at this commit; no other output changes. An escalation that
has run for its commits ends with entry 0x6004 for the output, or for the leader of its group, and ends for every
member. An outer die that serves and has had no valid commit frame for two ticks applies the rest pattern of its own
copy of the configuration until valid frames return: a switch die commits the rest value to each of its channels in
use (while VBL is there) and leaves every channel of another die, every driver and every lamp as it was, the I/O die
gives its lamps their rest words, starts the rest frame on every chain line in use and leaves every channel as it was
(that the die counts the ticks itself when no commit mark comes is log entry 32's reading). -/
def Obligations.TickProgramsAndHoldsEnd : Prop :=
  (∀ (k : Fin 4) (s : State), s.powered = true → s.tick.tc[k] = .running →
     ((s.cpu ⟨k.val + 1, by omega⟩).run = .waiting → (s.cpu ⟨k.val + 1, by omega⟩).flight = [] →
       exec (.tickProgramFinish k) s = .next { s with tick := { s.tick with tc := s.tick.tc.set k .waiting } }) ∧
     (s.tick.phase = .core →
       ∃ t, exec (.overrun k) s = .next t ∧ t.tick.tc[k] = .stopped ∧ t.tick.overrun[k] = satInc s.tick.overrun[k] ∧
         (t.cpu ⟨k.val + 1, by omega⟩).run = .stopped ∧ (t.cpu ⟨k.val + 1, by omega⟩).flight = [] ∧
         (∀ c : Fin 5, c.val ≠ k.val + 1 → t.cpu c = s.cpu c) ∧
         (∀ (o : Fin 256) (src : Fin 16), (t.hurdle.out[o]).fresh[src] =
           if src.val = k.val + 2 then .none else (s.hurdle.out[o]).fresh[src]) ∧
         (s.canLog = true →
           t.hasEntry 0x1001 4 (locTc k.val)
             (pack64 [(0, k.val), (8, (s.cpu ⟨k.val + 1, by omega⟩).cycle % 2 ^ 32)]) = true) ∧
         t.evt.pend.getLsbD (21 + k.val) = true ∧ bit (t.head .tick).irq 0 = true ∧
         (∀ j : Fin 4, j ≠ k → t.tick.tc[j] = s.tick.tc[j] ∧ t.tick.overrun[j] = s.tick.overrun[j]) ∧
         t = { s with
           tick := { s.tick with tc := s.tick.tc.set k .stopped, overrun := upd s.tick.overrun k satInc }
           hurdle := { s.hurdle with out := t.hurdle.out }
           core := t.core, time := t.time, tally := t.tally, heads := t.heads, evt := t.evt })) ∧
  ((∀ (src : Fin 16) (s : State), s.powered = true →
     ∃ t, exec (.holdExpire src) s = .next t ∧
       (∀ o : Fin 256,
         (∀ p, (s.hurdle.out[o]).next = some p → p.expiring = true → p.fell = src.val →
           t.hurdle.out[o] = { s.hurdle.out[o] with
             next := some { p with hold := .rest, expired := true, expiring := false, gov := 0, prio := 0 } }) ∧
         ((∀ p, (s.hurdle.out[o]).next = some p → p.expiring = false ∨ p.fell ≠ src.val) →
           t.hurdle.out[o] = s.hurdle.out[o])) ∧
       t = { s with
         hurdle := { s.hurdle with out := t.hurdle.out }, tally := t.tally, heads := t.heads, evt := t.evt }) ∧
   ∀ (o : Fin 256) (s : State),
     let l := s.leadOut o.val
     s.powered = true → (s.out l).esc = true → (s.out l).escUntil = false → (s.out l).escLeft = 0 →
     ∃ t, exec (.escEnd o) s = .next t ∧
       (∀ j ∈ s.groupOut l, (t.out j).esc = false ∧ (t.out j).escLeft = 0 ∧ (t.out j).escUntil = false) ∧
       (∀ j, j ∉ s.groupOut l → t.out j = s.out j) ∧
       (s.canLog = true → t.hasEntry 0x6004 3 (locOut l) 0 = true) ∧
       t = { s with
         hurdle := { s.hurdle with out := t.hurdle.out }, tally := t.tally, heads := t.heads, evt := t.evt }) ∧
  (∀ (die : Fin 5) (s : State), s.powered = true → 1 ≤ die.val → s.dieServes = true → 2 ≤ s.framesMissed die →
     s.tick.dieRest[die] = false →
     ∃ t, exec (.deckRestPattern die) s = .next t ∧ t.tick.dieRest = s.tick.dieRest.set die true ∧ t.cfg = s.cfg ∧
       t.hurdle = s.hurdle ∧ t.mem = s.mem ∧ t.core = s.core ∧
       (die.val ≠ 3 → t.sol.ch = s.sol.ch ∧ t.led = s.led ∧
         (∀ k : Fin 96, hsDie k.val ≠ die.val → t.hsw.ch[k] = s.hsw.ch[k]) ∧
         (∀ k : Fin 96, hsDie k.val = die.val →
           (((s.dieImage die.val).hs[k]).fn = 1 ∨ ((s.dieImage die.val).hs[k]).fn = 2 → s.pwr.noVbl = false →
             (t.hsw.ch[k]).cmd = bit ((s.dieImage die.val).restWord k.val) 0) ∧
           (bit ((s.dieImage die.val).restWord k.val) 0 = false → (t.hsw.ch[k]).gate = false))) ∧
       (die.val = 3 → t.hsw.ch = s.hsw.ch ∧
         (∀ l : Fin 4, ((s.dieImage 3).chain[l]).fn = 1 →
           (t.led.chain[l]).busy = true ∧ (t.led.chain[l]).armed = false ∧
           (t.led.chain[l]).frame = restFrame ((s.dieImage 3).chain[l])) ∧
         (∀ l : Fin 4, ((s.dieImage 3).chain[l]).fn ≠ 1 → t.led.chain[l] = s.led.chain[l]) ∧
         (∀ k : Fin 128, (s.dieImage 3).lampAt k = true →
           (t.led.pos[k]).last = (s.dieImage 3).restWord (128 + k.val)) ∧
         (∀ k : Fin 128, (s.dieImage 3).lampAt k = false → t.led.pos[k] = s.led.pos[k]) ∧
         (∀ k : Fin 16, ((s.dieImage 3).sol[k]).fn ≠ 1 → t.sol.ch[k] = s.sol.ch[k])))

/-- Each of a tick's sixteen samples is taken at its sixteenth of the tick, a stretched tick has more, and no other
tick has a seventeenth; an input without a function keeps its state. An input is on at or above the rising threshold
of its class and off at or below its falling threshold, and between the two as it was; the thresholds lie in the bands
of Table 7.1, and where in them is the input's own (log entry 127). The readback comparator of an HS node is on at 11
V or above and off at 5 V or below, and nothing else of a switch channel changes. DIN CLRCNT by the shepherd core or
the service port clears one input's edge counter; by others it is a reserved write, since DIN has no ERR.PRIV. The
counter filter: its output changes only when the counter reaches the opposite rail, and the counter stays within its
range; the first sample only starts it and makes no edge. -/
def Obligations.FieldInputs : Prop :=
  (∀ (x : InputReadings) (s : State), s.powered = true → s.tick.phase ≠ .off →
     (16 ≤ s.din.sampleIdx → s.jumping = false → exec (.inputSample x) s = .next s) ∧
     (s.din.sampleIdx < 16 ∨ s.jumping = true →
     ∃ t, exec (.inputSample x) s = .next t ∧ t.din.sampleIdx = s.din.sampleIdx + 1 ∧
       (∀ k : Fin 128, (s.cfg.di[k]).fn = 0 → t.din.ch[k] = s.din.ch[k]) ∧
       (∀ k : Fin 128, (s.cfg.di[k]).fn ≠ 0 → 
         let cls := getNat s.cfg.diClass (k.val / 16) 1
         ((classBands cls).1.1 + (classBands cls).1.2 ≤ (x.di[k]).mv → (t.din.ch[k]).raw = true) ∧
         ((x.di[k]).mv ≤ (classBands cls).2.1 - (classBands cls).2.2 → (t.din.ch[k]).raw = false) ∧
         (fallAt k.val cls < (x.di[k]).mv → (x.di[k]).mv < riseAt k.val cls →
           (t.din.ch[k]).raw = (s.din.ch[k]).raw)) ∧
       (∀ k : Fin 96, (s.cfg.hs[k]).fn ≠ 4 → t.hsw.inp[k] = s.hsw.inp[k]) ∧
       (∀ k : Fin 96, t.hsw.ch[k] = { s.hsw.ch[k] with node := (t.hsw.ch[k]).node } ∧
         (11000 ≤ x.hs[k] → (t.hsw.ch[k]).node = true) ∧ (x.hs[k] ≤ 5000 → (t.hsw.ch[k]).node = false)) ∧
       t.sol = s.sol ∧ t.led = s.led ∧ t.hurdle = s.hurdle ∧ t.mem = s.mem)) ∧
  (∀ (rq : Requester) (k : Fin 128) (s : State), s.powered = true →
     (hsCtrlAllowed rq = true → ∃ t, exec (.dinClrcnt rq k) s = .next t ∧ t.din.ch[k] = { s.din.ch[k] with count := 0 } ∧
       (∀ j : Fin 128, j ≠ k → t.din.ch[j] = s.din.ch[j]) ∧ t = { s with din := { s.din with ch := t.din.ch } }) ∧
     (hsCtrlAllowed rq = false →
       exec (.dinClrcnt rq k) s = .next (reservedWrite rq (0x20061000 + k.val * 0x40) s))) ∧
  (∀ (limit : Nat) (high : Bool) (f : Filter),
     let r := filterStep limit high f
     (f.started = true → f.c ≤ limit → r.1.c ≤ limit) ∧
     (f.started = false → r.2 = .none ∧ r.1.s = high ∧ r.1.c = if high then limit else 0) ∧
     (f.started = true → r.2 = .rise → f.s = false ∧ r.1.s = true ∧ r.1.c = limit) ∧
     (f.started = true → r.2 = .fall → f.s = true ∧ r.1.s = false ∧ r.1.c = 0) ∧
     (f.started = true → r.2 = .none → r.1.s = f.s))

/-! ### The command path and the structure image -/

/-- A write of a command word for an output: of a reserved output number it is a write to an unassigned address. A
word that holds a reserved bit or encoding is a reserved write whoever writes it. From the service port or the fabric
the write sets ERR.PRIV and is no command. A core's word for an output with a record that fails the check of its kind
is reported as its kind does; one that passes, of a permitted source, is the source's command of the tick for the
output or the leader of its group, or, for a solenoid with a delay, is held for its tick; nothing else changes. A
core's command or withdrawal for an output that the image gives no record, or whose record does not permit the core's
source, is refused: OWNERR counts, SYS_ERRSTAT.OWN_ERR and HURDLE_IRQ_STATUS bit 6 are set, and no command of any
output changes. A withdrawal by a permitted source marks its command of the tick as withdrawn; one from the service
port or the fabric sets ERR.PRIV. ESCCLR by keeper level ends the escalation of the output's leader, for every member
of its group and with entry 0x6004; by another level it sets ERR.PRIV, and for an output without a record a core's
ESCCLR is a refused command. A delayed solenoid command whose tick has come becomes its source's command of the tick
unless the source wrote a direct command, and is held no longer. -/
def Obligations.OutputCommands : Prop :=
  (∀ (rq : Requester) (o : Fin 448) (w : Word) (s : State), s.powered = true →
     (outNumber o.val = false →
       exec (.outCmd rq o w) s = .next (reservedWrite rq (outAddr o.val 0) s) ∧
       exec (.wdraw rq o) s = .next (reservedWrite rq (outAddr o.val 4) s) ∧
       exec (.escclr rq o) s = .next (reservedWrite rq (outAddr o.val 4) s)) ∧
     (outNumber o.val = true → sourceOf rq = none →
       (s.writtenOk o.val w = true → exec (.outCmd rq o w) s = .next (setErr .hurdle 1 s)) ∧
       (s.writtenOk o.val w = false →
         exec (.outCmd rq o w) s = .next (setErr .hurdle 1 (reservedWrite rq (outAddr o.val 0) s))) ∧
       exec (.wdraw rq o) s = .next (setErr .hurdle 1 s)) ∧
     (∀ src r, outNumber o.val = true → sourceOf rq = some src → s.outCfg o.val = some r → s.wordOk o.val w = false →
       exec (.outCmd rq o w) s = .next (refusedWord o.val w (reservedWrite rq (outAddr o.val 0) s))) ∧
     (∀ src r, outNumber o.val = true → sourceOf rq = some src → s.wordOk o.val w = true → s.outCfg o.val = some r →
       r.permits src.val = true →
       ((o.val < 96 ∨ 112 ≤ o.val ∨ solDelay w = 0) →
         exec (.outCmd rq o w) s =
           .next (modOut (s.leadOut o.val) (fun x => { x with fresh := x.fresh.set src (.cmd w) }) s)) ∧
       (∀ k : Fin 16, o.val = 96 + k.val → 0 < solDelay w →
         exec (.outCmd rq o w) s = .next (modSol k (fun c => { c with
           delayed := c.delayed.set src (some ⟨solClearDelay w, s.intakeTick + solDelay w⟩) }) s)))) ∧
  (∀ (rq : Requester) (o : Fin 448) (w : Word) (src : Fin 16) (s : State), s.powered = true → outNumber o.val = true →
     sourceOf rq = some src →
     (s.outCfg o.val = none ∨ (∃ r, s.outCfg o.val = some r ∧ r.permits src.val = false ∧ s.wordOk o.val w = true) →
       ∃ t, exec (.outCmd rq o w) s = .next t ∧ t.hurdle.ownErr = satInc s.hurdle.ownErr ∧
         bit t.sys.errstat 1 = true ∧ bit (t.head .hurdle).irq 6 = true ∧ t.hurdle.out = s.hurdle.out ∧
         (s.outCfg o.val = none → s.writtenOk o.val w = false → bit t.sys.errstat 0 = true) ∧
         t.sol = s.sol ∧ t.hsw = s.hsw ∧ t.led = s.led ∧ t.mem = s.mem ∧ t.cfg = s.cfg ∧ t.tick = s.tick) ∧
     ((∀ r ∈ s.outCfg o.val, r.permits src.val = false) →
       ∃ t, exec (.wdraw rq o) s = .next t ∧ t.hurdle.ownErr = satInc s.hurdle.ownErr ∧
         bit t.sys.errstat 1 = true ∧ bit (t.head .hurdle).irq 6 = true ∧ t.hurdle.out = s.hurdle.out ∧
         t.sol = s.sol ∧ t.hsw = s.hsw ∧ t.led = s.led ∧ t.mem = s.mem ∧ t.cfg = s.cfg ∧ t.tick = s.tick)) ∧
  (∀ (rq : Requester) (o : Fin 448) (s : State), s.powered = true → outNumber o.val = true →
     (∀ src r, sourceOf rq = some src → s.outCfg o.val = some r → r.permits src.val = true →
       exec (.wdraw rq o) s =
         .next (modOut (s.leadOut o.val) (fun x => { x with fresh := x.fresh.set src .wdraw }) s)) ∧
     (rq ≠ .keeper → (s.outCfg o.val).isSome = true ∨ sourceOf rq = none →
       exec (.escclr rq o) s = .next (setErr .hurdle 1 s)) ∧
     (s.outCfg o.val = none → sourceOf rq ≠ none →
       ∃ t, exec (.escclr rq o) s = .next t ∧ t.hurdle.ownErr = satInc s.hurdle.ownErr ∧ bit t.sys.errstat 1 = true ∧
         (rq ≠ .keeper → bit (t.head .hurdle).err 1 = true) ∧
         t.hurdle.out = s.hurdle.out ∧ t.sol = s.sol ∧ t.hsw = s.hsw ∧ t.led = s.led) ∧
     (rq = .keeper → ∀ r, s.outCfg o.val = some r →
       let l := s.leadOut o.val
       ((s.out l).esc = false → exec (.escclr rq o) s = .next s) ∧
       ((s.out l).esc = true →
         ∃ t, exec (.escclr rq o) s = .next t ∧
           (∀ j ∈ s.groupOut l, (t.out j).esc = false ∧ (t.out j).escLeft = 0 ∧ (t.out j).escUntil = false) ∧
           (∀ j, j ∉ s.groupOut l → t.out j = s.out j) ∧
           (s.canLog = true → t.hasEntry 0x6004 3 (locOut l) 1 = true) ∧
           t = { s with
             hurdle := { s.hurdle with out := t.hurdle.out }, tally := t.tally, heads := t.heads, evt := t.evt }))) ∧
  (∀ (k src : Fin 16) (d : Delayed) (s : State), s.powered = true → (s.sol.ch[k]).delayed[src] = some d →
     d.tick ≤ s.intakeTick →
     ∃ t, exec (.delayedCmdRelease k src) s = .next t ∧ (t.sol.ch[k]).delayed[src] = none ∧
       ((s.out (96 + k.val)).fresh[src] = .none → (t.out (96 + k.val)).fresh[src] = .cmd d.word) ∧
       ((s.out (96 + k.val)).fresh[src] ≠ .none → (t.out (96 + k.val)).fresh[src] = (s.out (96 + k.val)).fresh[src]) ∧
       (∀ o, o ≠ 96 + k.val → t.out o = s.out o) ∧ (∀ j : Fin 16, j ≠ k → t.sol.ch[j] = s.sol.ch[j]) ∧
       t = { s with hurdle := t.hurdle, sol := t.sol })

/-- Only the shepherd core in keeper level may write STRUCT_LOAD and STRUCT_SWAPAT: any other write has no effect and
sets STRUCT_ERR.PRIV, be it one of the registers' commands or a write of the register's address, which sets RSVD_WR too
when it places a 1 in a reserved bit or a reserved encoding; keeper level's low word of SWAPAT is held. -/
def Obligations.StructureWritesAreKeepersOnly : Prop :=
  ∀ (rq : Requester) (slot : Bool) (hi v : Word) (s : State), s.powered = true →
    (rq ≠ .keeper →
      exec (.structLoadGo rq slot) s = .next (setErr .strct 1 s) ∧
      exec (.structCancel rq) s = .next (setErr .strct 1 s) ∧
      exec (.swapatArm rq hi) s = .next (setErr .strct 1 s) ∧
      (rq ≠ .fabric →
        (let u := inTurn .strct 0x020 rq.rank s
         (v.toNat < 8 → ¬(bit v 1 = true ∧ bit v 2 = true) →
           exec (.registerWrite rq 0x20020020 4 v) s = .next (setErr .strct 1 u)) ∧
         (8 ≤ v.toNat ∨ (bit v 1 = true ∧ bit v 2 = true) →
           exec (.registerWrite rq 0x20020020 4 v) s = .next (setErr .strct 1 (reservedWrite rq 0x20020020 u)))) ∧
        exec (.registerWrite rq 0x20020028 4 v) s = .next (setErr .strct 1 (inTurn .strct 0x028 rq.rank s)) ∧
        exec (.registerWrite rq 0x2002002C 4 v) s = .next (setErr .strct 1 (inTurn .strct 0x02C rq.rank s)))) ∧
    exec (.registerWrite .keeper 0x20020028 4 v) s =
      .next (holdWrite .keeper 0x20020028 v (inTurn .strct 0x028 0 s))

/-- Keeper level loads a slot into the shadow: an image that passes every check is LOADING, one that fails leaves the
shadow FAILED with its reason, entry 0xE101 and IRQ bit 1; the configuration in force is untouched either way. GO
while a swap is scheduled or a copy loads is refused with BUSY. The shadow becomes READY when every die has
acknowledged, with IRQ bit 0 and entry 0xE102, and a key command that waited for the load's verification then begins (log
entry 140); it becomes FAILED with its image gone, with IRQ bit 1 and entry 0xE104, when they have not within 4 ticks. -/
def Obligations.StructureLoads : Prop :=
  (∀ (slot : Bool) (s : State), s.powered = true →
     s.upd.state ≠ .verified → s.upd.state ≠ .scheduled → s.upd.state ≠ .trial →
     ∃ t, exec (.structLoadGo .keeper slot) s = .next t ∧ t.cfg = s.cfg ∧ t.strct.inForce = s.strct.inForce ∧
       t.strct.slot = slot ∧ t.hurdle = s.hurdle ∧ t.hsw = s.hsw ∧ t.sol = s.sol ∧ t.led = s.led ∧ t.mem = s.mem ∧
       (s.strct.shadow = .loading ∨ s.strct.shadow = .scheduled →
         t = setErr .strct 2 { s with strct := { s.strct with slot := slot } }) ∧
       (s.strct.shadow ≠ .loading → s.strct.shadow ≠ .scheduled → s.slotReasonOf slot = 0 →
         t.strct.shadow = .loading ∧ t.strct.shSlot = slot ∧ t.strct.loadTicks = s.tick.executed ∧
         t.strct.shImage = some (parseImage (s.slotImage slot) (imgDigest (s.slotImage slot)))) ∧
       (s.strct.shadow ≠ .loading → s.strct.shadow ≠ .scheduled → s.slotReasonOf slot ≠ 0 →
         t.strct.shadow = .failed ∧ t.strct.reason = s.slotReasonOf slot ∧ t.strct.shImage = none ∧
         bit (t.head .strct).irq 1 = true ∧
         (s.canLog = true → s.slotReasonOf slot ≠ 8 → t.hasEntry 0xE101 5 locStruct
           (pack64 [(0, s.slotReasonOf slot), (8, b01 slot), (32, leAt (s.slotImage slot) 0x10 4)]) = true))) ∧
  (∀ s : State, s.powered = true → s.strct.shadow = .loading →
     (∀ g, s.strct.shImage = some g →
       ∃ t, exec .shadowReady s = .next t ∧ t.strct = { s.strct with shadow := .ready } ∧
         bit (t.head .strct).irq 0 = true ∧ t.cfg = s.cfg ∧ t.mem = s.mem ∧ t.hurdle = s.hurdle ∧
         (s.key.waiting = none ∨ s.acc.write ≠ none →
           (s.canLog = true → t.hasEntry 0xE102 2 locStruct
             (pack64 [(8, b01 s.strct.shSlot), (32, g.serial.toNat)]) = true) ∧
           t = { s with strct := t.strct, tally := t.tally, heads := t.heads, evt := t.evt })) ∧
     (s.strct.loadTicks + 4 ≤ s.tick.executed →
       ∃ t, exec .shadowAckTimeout s = .next t ∧ t.strct = { s.strct with shadow := .failed, shImage := none } ∧
         bit (t.head .strct).irq 1 = true ∧ (s.canLog = true → t.hasEntry 0xE104 4 locStruct 3 = true) ∧
         t = { s with strct := t.strct, tally := t.tally, heads := t.heads, evt := t.evt }))

/-- Keeper level arms a swap while the tick runs with both words of the target: it is scheduled when the shadow is
READY or SCHEDULED, tick period and commit mark do not change, and the envelope phase of the tick before the target
has not opened; a refusal sets its ERR bit and leaves state and target. Before the first tick of a start a swap is
never refused: a READY or SCHEDULED shadow is scheduled for the first multiple of T on TB0 at least 2 T later. Without
a low word held the write is a reserved write. CANCEL returns a scheduled swap to READY before that envelope phase. At
its target tick the swap exchanges configuration and shadow: the image of the shadow is in force, the shadow holds the
previous one and is READY, the active slot is the shadow's, the generation rises and IRQ bit 2 is set; the lanes of a
die that missed the commit frame of the tick before have their previous configuration for one more tick. At a start
the first swap puts the image in force and leaves the shadow EMPTY. -/
def Obligations.StructureSwaps : Prop :=
  (∀ (hi lo : Word) (s : State), s.powered = true → s.strct.inForce = true →
     (heldWord .keeper 0x20020028 s = none →
       exec (.swapatArm .keeper hi) s = .next (reservedWrite .keeper 0x2002002C s)) ∧
     (heldWord .keeper 0x20020028 s = some lo →
       ∃ t, exec (.swapatArm .keeper hi) s = .next t ∧ heldWord .keeper 0x20020028 t = none ∧ t.cfg = s.cfg ∧
         t.strct.swapAt = join64 lo hi ∧ t.hurdle = s.hurdle ∧ t.mem = s.mem ∧
         (s.tick.phase ≠ .off ∨ s.tick.executed ≠ 0 → s.armRefused (s.swapTarget (join64 lo hi)) = none →
           t.strct.shadow = .scheduled ∧
           t.strct.target = BitVec.ofNat 64 (s.swapTarget (join64 lo hi)) ∧ t.heads = s.heads) ∧
         (s.tick.phase = .off → s.tick.executed = 0 → ∀ g, s.strct.shImage = some g →
           s.strct.shadow = .ready ∨ s.strct.shadow = .scheduled →
           t.strct.shadow = .scheduled ∧ t.heads = s.heads ∧ t.strct.target = BitVec.ofNat 64
             (ceilDiv (s.time.tb[0].value.toNat + 2 * g.periodNs * 2 ^ 32) (g.periodNs * 2 ^ 32))) ∧
         (s.tick.phase ≠ .off ∨ s.tick.executed ≠ 0 → ∀ i, s.armRefused (s.swapTarget (join64 lo hi)) = some i →
           t.strct.shadow = s.strct.shadow ∧ t.strct.target = s.strct.target ∧
           t.heads = (setErr .strct i s).heads)) ∧
     (s.upd.state ≠ .verified → s.upd.state ≠ .scheduled → s.upd.state ≠ .trial → s.strct.shadow = .scheduled →
       s.envOpened (s.strct.target.toNat - 1) = false →
       ∃ t, exec (.structCancel .keeper) s = .next t ∧ t.strct = { s.strct with shadow := .ready } ∧
         bit (t.head .strct).irq 3 = true ∧ t.cfg = s.cfg)) ∧
  (∀ (g : Image) (s : State), s.powered = true → s.strct.shImage = some g →
     (s.swapDue = true →
       let missed := s.tick.missed.map fun n => n != 0
       ∃ t, exec .swap s = .next t ∧
         (s.strct.late = none → t.cfg = g.withDies s.cfg missed) ∧
         (missed = Vector.replicate 5 false → t.cfg = g ∧ t.strct.late = none) ∧
         (missed.toList.any id = true → s.strct.late = none → t.strct.late = some (s.cfg, g) ∧ t.strct.lateDies = missed) ∧
         (s.strct.late = none → t.strct.shImage = some s.cfg) ∧
         (∀ old new, s.strct.late = some (old, new) → t.strct.shImage = some new) ∧ t.strct.shadow = .ready ∧
         t.strct.active = s.strct.shSlot ∧ t.strct.shSlot = s.strct.active ∧ t.strct.gen = satInc s.strct.gen ∧
         t.strct.inForce = true ∧ t.hurdle.lag = missed ∧ bit (t.head .strct).irq 2 = true) ∧
     (s.strct.inForce = false → s.strct.shadow = .scheduled →
       ∃ t, exec .swap s = .next t ∧ t.cfg = g ∧ t.strct.inForce = true ∧ t.strct.shadow = .empty ∧
         t.strct.shImage = none ∧ t.strct.active = s.strct.shSlot ∧ t.strct.gen = satInc s.strct.gen ∧
         bit (t.head .strct).irq 2 = true))

/-! ### The output lanes -/

/-- A current above the class trip level, or above the active threshold, turns off a conducting channel and every
channel of its group: while retries are left the group pauses with its retry count raised, until the commit mark of
tick t + P(r) / T (the commit mark of tick t, if it is still to come, counts as one more), after the last it latches;
each member counts the trip and names its cause, HSW_IRQ_STATUS bit 0 is set, and every channel outside the group is
untouched. A junction at 175 degrees latches the group in LATCH_TH with its gates off; below, or latched already,
nothing changes. -/
def Obligations.SwitchTrips : Prop :=
  (∀ (k : Fin 96) (i : Half) (s : State), s.powered = true → (s.hsw.ch[s.cfg.leader k]).gate = true →
     let lead := s.hsw.ch[s.cfg.leader k]
     let th := if lead.prot = .inrush then s.cfg.hs[k].inth else s.cfg.hs[k].octh
     let tripped := fun (last : Nat) (t : State) =>
       (∀ j ∈ s.cfg.members k,
         (t.hsw.ch[j]).gate = false ∧ (t.hsw.ch[j]).trips = satInc (s.hsw.ch[j]).trips ∧
         (t.hsw.ch[j]).lastTrip = last ∧
         (lead.r < s.cfg.hs[s.cfg.leader k].n →
           (t.hsw.ch[j]).prot = .pause ∧ (t.hsw.ch[j]).r = (s.hsw.ch[j]).r + 1 ∧
           (t.hsw.ch[j]).left = s.ticksOfMs (pauseMs (lead.r + 1)) + b01 (s.tick.phase.beforeCommit && !lead.done)) ∧
         (s.cfg.hs[s.cfg.leader k].n ≤ lead.r → (t.hsw.ch[j]).prot = .latchOc)) ∧
       (∀ j : Fin 96, j ∉ s.cfg.members k → t.hsw.ch[j] = s.hsw.ch[j]) ∧
       bit (t.head .hsw).irq 0 = true ∧ t.cfg = s.cfg ∧ t.led = s.led ∧ t.mem = s.mem ∧ t.hurdle = s.hurdle
     (overTripLevel k.val i.toInt = true → ∃ t, exec (.fastScTrip k i) s = .next t ∧ tripped 1 t) ∧
     (overTripLevel k.val i.toInt = false → exec (.fastScTrip k i) s = .next s) ∧
     ((if k.val < 64 then (17250 : Int) else 12937) < i.toInt → overTripLevel k.val i.toInt = true) ∧
     (i.toInt ≤ (if k.val < 64 then (12750 : Int) else 9562) → overTripLevel k.val i.toInt = false) ∧
     ((th : Int) < i.toInt →
       ∃ t, exec (.ocTrip k i) s = .next t ∧ tripped (if lead.prot = .inrush then 3 else 2) t) ∧
     (i.toInt ≤ (th : Int) → exec (.ocTrip k i) s = .next s)) ∧
  (∀ (k : Fin 96) (temp : Half) (s : State), s.powered = true →
     (2800 ≤ temp.toInt → (s.hsw.ch[s.cfg.leader k]).prot ≠ .latchTh →
       ∃ t, exec (.thermalTrip k temp) s = .next t ∧
         (∀ j ∈ s.cfg.members k, (t.hsw.ch[j]).prot = .latchTh ∧ (t.hsw.ch[j]).gate = false ∧
           (t.hsw.ch[j]).lastTrip = 4 ∧ (t.hsw.ch[j]).trips = satInc (s.hsw.ch[j]).trips) ∧
         (∀ j : Fin 96, j ∉ s.cfg.members k → t.hsw.ch[j] = s.hsw.ch[j]) ∧ bit (t.head .hsw).irq 2 = true) ∧
     (temp.toInt < 2800 → exec (.thermalTrip k temp) s = .next s))

/-- At the commit mark of its last commit the inrush phase becomes ON, a pause ends with the gate on again, in its
inrush phase or ON, and entry 0x2003 where the value committed is 1, and OFF where it is 0, and 5 s of commits without
a trip clear the retry count with entry 0x200F; with the value 0 committed, or without VBL, the gate goes off. The
value committed is that of the output's word (a feed's that of its drivers); no channel outside the group changes.
Before the commit mark is next, or before the last commit, the three commands change nothing (log entry 133). CH_CTRL
may be written by the shepherd core and the service port: REENABLE takes a latched group to OFF with no retries, one
latched by heat only when every junction reads below 155 degrees; CLRCNT clears the trip counter of the one channel it
names (log entry 142). Any other writer only sets HSW_ERR.PRIV. -/
def Obligations.SwitchTimersAndControl : Prop :=
  (∀ (k : Fin 96) (s : State), s.powered = true → s.commitNext = true →
     let lead := s.hsw.ch[s.cfg.leader k]
     let u := passInTick s.cfg.commit 64 s
     let v := fun j : Fin 96 => u.commitValue j && !s.pwr.noVbl
     let stays := fun t : State =>
       (∀ j : Fin 96, j ∉ s.cfg.members k → t.hsw.ch[j] = s.hsw.ch[j]) ∧
       (∀ j ∈ s.cfg.members k, (t.hsw.ch[j]).done = true ∧ (t.hsw.ch[j]).trips = (s.hsw.ch[j]).trips) ∧
       t.hurdle = s.hurdle ∧ t.sol.ch = s.sol.ch ∧ t.led = s.led ∧ t.mem = s.mem ∧ t.cfg = s.cfg ∧ t.tick = s.tick
     (∀ j : Fin 96, (s.cfg.hs[j]).fn = 1 ∨ (s.cfg.hs[j]).fn = 2 → u.commitValue j = bit (s.toCommit j.val) 0) ∧
     (lead.prot = .inrush → lead.left ≤ 1 → lead.done = false →
       ∃ t, exec (.inrushEnd k) s = .next t ∧ stays t ∧
         (∀ j ∈ s.cfg.members k, (s.hsw.ch[j]).prot = .inrush → (s.hsw.ch[j]).left ≤ 1 →
           (v j = true → (t.hsw.ch[j]).prot = .on ∧ (t.hsw.ch[j]).gate = true) ∧
           (v j = false → (t.hsw.ch[j]).prot = .off ∧ (t.hsw.ch[j]).gate = false))) ∧
     (lead.prot = .pause → lead.left ≤ 1 → lead.done = false →
       ∃ t, exec (.retry k) s = .next t ∧ stays t ∧
         (∀ j ∈ s.cfg.members k, (s.hsw.ch[j]).prot = .pause → (s.hsw.ch[j]).left ≤ 1 →
           (t.hsw.ch[j]).r = (s.hsw.ch[j]).r ∧
           (v j = true → (t.hsw.ch[j]).gate = true ∧ (t.hsw.ch[j]).left = s.inrushTicks j ∧
             (t.hsw.ch[j]).prot = if s.inrushTicks j = 0 then .on else .inrush) ∧
           (v j = false → (t.hsw.ch[j]).prot = .off ∧ (t.hsw.ch[j]).gate = false)) ∧
         (s.canLog = true → v (s.cfg.leader k) = true →
           t.hasEntry 0x2003 2 (locHs (s.cfg.leader k).val) (pack64 [(0, lead.r), (16, pauseMs lead.r)]) = true)) ∧
     ((lead.prot = .inrush ∨ lead.prot = .on) → 0 < lead.r → s.ticksOfMs 5000 ≤ lead.clean + 1 → lead.done = false →
       ∃ t, exec (.retryClear k) s = .next t ∧ stays t ∧
         (∀ j ∈ s.cfg.members k, (s.hsw.ch[j]).prot = .inrush ∨ (s.hsw.ch[j]).prot = .on →
           s.ticksOfMs 5000 ≤ (s.hsw.ch[j]).clean + 1 →
           (v j = true → (t.hsw.ch[j]).r = 0) ∧ (v j = false → (t.hsw.ch[j]).r = (s.hsw.ch[j]).r)) ∧
         (s.canLog = true → v (s.cfg.leader k) = true →
           t.hasEntry 0x200F 1 (locHs (s.cfg.leader k).val) (pack64 [(0, lead.r)]) = true))) ∧
  (∀ (k : Fin 96) (s : State), s.powered = true →
     (s.commitNext = false ∨ 1 < (s.hsw.ch[s.cfg.leader k]).left →
       exec (.inrushEnd k) s = .next s ∧ exec (.retry k) s = .next s) ∧
     (s.commitNext = false ∨ (s.hsw.ch[s.cfg.leader k]).clean + 1 < s.ticksOfMs 5000 →
       exec (.retryClear k) s = .next s)) ∧
  (∀ (rq : Requester) (k : Fin 96) (s : State), s.powered = true →
     (hsCtrlAllowed rq = false →
       exec (.reenable rq k) s = .next (setErr .hsw 2 s) ∧ exec (.hswClrcnt rq k) s = .next (setErr .hsw 2 s)) ∧
     (hsCtrlAllowed rq = true →
       exec (.hswClrcnt rq k) s = .next (modHs k (fun h => { h with trips := 0 }) s) ∧
       (((s.hsw.ch[s.cfg.leader k]).prot = .latchOc ∨
           ((s.hsw.ch[s.cfg.leader k]).prot = .latchTh ∧
             ∀ j ∈ s.cfg.members k, (s.hsw.ch[j]).sensed.toInt < 2480)) →
         ∃ t, exec (.reenable rq k) s = .next t ∧
           (∀ j ∈ s.cfg.members k, (t.hsw.ch[j]).prot = .off ∧ (t.hsw.ch[j]).r = 0 ∧
             (t.hsw.ch[j]).cmd = (s.hsw.ch[j]).cmd ∧ (t.hsw.ch[j]).trips = (s.hsw.ch[j]).trips) ∧
           (∀ j : Fin 96, j ∉ s.cfg.members k → t.hsw.ch[j] = s.hsw.ch[j])) ∧
       ((s.hsw.ch[s.cfg.leader k]).prot = .latchTh → (∃ j ∈ s.cfg.members k, 2480 ≤ (s.hsw.ch[j]).sensed.toInt) →
         ∃ t, exec (.reenable rq k) s = .next t ∧ t.hsw = s.hsw ∧ bit (t.head .hsw).err 1 = true)))

/-- The diagnostics of a channel: a window that ends by 62/64 T judges at most one result a tick, and four equal
results in a row set or clear OPEN; one that cannot end by then is not taken; a free-wheel path that is missing is
latched, with entry 0x200A and IRQ bit 4, while the gate is off; from the ninth disturbed tick the measurement is
forced, for the registers to take at the next sample mark, with IRQ bit 8 and one entry 0x200C for the run; the
under-voltage flag of a fold sets below 12.0 V, clears above 13.0 V and stands between, and no channel changes. -/
def Obligations.SwitchDiagnostics : Prop :=
  ∀ s : State, s.powered = true →
    (∀ (k : Fin 96) (i : Half) (node : Nat) (res : Bool), s.tick.phase = .measure → (s.hsw.ch[k]).windowed = false →
      s.windowFits = true → (s.hsw.fold[k.val / 8]'(by omega)).uv = false → (s.disturbed k = false ∨ 8 ≤ (s.hsw.ch[k]).distRun) →
      olResult s.cfg.hs[k] s.hsw.ch[k] k.val (s.adc (k.val / 8) i) node = some res →
      ∃ t, exec (.openLoadWindow k i node) s = .next t ∧ (t.hsw.ch[k]).windowed = true ∧
        (t.hsw.ch[k]).openRun = (s.hsw.ch[k]).openRun.step (b01 res) ∧
        (t.hsw.ch[k]).open_ =
          (if 4 ≤ ((s.hsw.ch[k]).openRun.step (b01 res)).len then res else (s.hsw.ch[k]).open_) ∧
        (t.hsw.ch[k]).prot = (s.hsw.ch[k]).prot ∧ ∀ j : Fin 96, j ≠ k → t.hsw.ch[j] = s.hsw.ch[j]) ∧
    (∀ (k : Fin 96) (i : Half) (node : Nat), s.windowFits = false → exec (.openLoadWindow k i node) s = .next s) ∧
    (∀ (k : Fin 96) (i : Half), (s.hsw.ch[k]).gate = false →
      exec (.fwMissing k i) s = .next (setIrq .hsw 4 (logEv 0x200A 4 (locHs k.val) (pack64 [(16, i.toNat)])
        (hwBit .hsw (0x1004 + k.val * 0x40) 0x1000 (modHs k (fun h => { h with fwmiss := true }) s))))) ∧
    (∀ (k : Fin 96) (i temp : Half), s.disturbed k = true → 8 ≤ (s.hsw.ch[k]).distRun → (s.hsw.ch[k]).forcedRd = none →
      ∃ t, exec (.distForced k i temp) s = .next t ∧
        t.hsw.ch[k] = { s.hsw.ch[k] with forced := true, forcedRd := some (s.adc (k.val / 8) i, temp) } ∧
        bit (t.head .hsw).irq 8 = true ∧ (∀ j : Fin 96, j ≠ k → t.hsw.ch[j] = s.hsw.ch[j]) ∧
        ((s.hsw.ch[k]).forced = true → t.tally = s.tally)) ∧
    (∀ (f : Fin 12) (vf : Half),
      ∃ t, exec (.foldUv f vf) s = .next t ∧ t.hsw.ch = s.hsw.ch ∧
        ((s.hsw.fold[f]).uv = false → (t.hsw.fold[f]).uv = decide (vf.toNat < 1200)) ∧
        ((s.hsw.fold[f]).uv = true → (t.hsw.fold[f]).uv = decide (vf.toNat ≤ 1300)) ∧
        ∀ g : Fin 12, g ≠ f → t.hsw.fold[g] = s.hsw.fold[g])

/-- A requested event whose due time has come, and whose feed has been on for 20 µs, starts on an idle driver that no
other driver of the feed holds back and that is not later than LATE x 10 us (to one cycle of the timer clock, log
entry 33): the driver enters its peak phase, the event is counted and no longer waits. The phases of an event: at S +
TPEAK the peak becomes the hold; a timed hold, or one whose command has ended, without chain ends with the driver off
and entry 0x3002, with a chain it goes on with the chained profile's peak, or waits for it while another driver of the
feed is in its peak; after the minimum off-time the driver is idle; at due time + LATE a waiting event is dropped and
counted, with IRQ bit 3. No other driver changes. -/
def Obligations.SolenoidEvents : Prop :=
  (∀ (k : Fin 16) (ev : SolEvent) (s : State), s.powered = true →
     (s.sol.ch[k]).chainWait = none → (s.sol.ch[k]).queued = some ev → (s.sol.ch[k]).phase = .idle →
     (s.feedState (s.feedOf k)).gate = true →
     let t := passToNs ((getNat s.sol.feedOnAt (s.feedOf k) 0).toNat + 20000) (passToNs ev.due.toNat s)
     t.otherPeak k = false → t.firstInLine k ev.due.toNat = true →
     (ev.prof.late = 0xFFFF ∨ (t.now - ev.due).toNat ≤ ev.prof.late * 10000 + 5) →
     ∃ u, exec (.solEventStart k) s = .next u ∧ (u.sol.ch[k]).phase = .peak ∧ (u.sol.ch[k]).active = true ∧
       (u.sol.ch[k]).profile = ev.profile ∧ (u.sol.ch[k]).profs = ev.profs ∧ (u.sol.ch[k]).queued = none ∧
       (u.sol.ch[k]).events = satInc (s.sol.ch[k]).events ∧ (u.sol.ch[k]).start = t.now ∧
       (∀ j : Fin 16, j ≠ k → u.sol.ch[j] = s.sol.ch[j]) ∧ u.hsw = s.hsw ∧ u.led = s.led ∧ u.hurdle = s.hurdle) ∧
  (∀ (k : Fin 16) (s : State), s.powered = true →
     ((s.sol.ch[k]).phase = .peak → ((s.sol.ch[k]).prof (s.sol.ch[k]).profile).thold ≠ 0 →
       exec (.peakEnd k) s = .next (modSol k (fun c => { c with phase := .hold })
         (passToNs ((s.sol.ch[k]).profStart.toNat + ((s.sol.ch[k]).prof (s.sol.ch[k]).profile).tpeak * 10000) s))) ∧
     ((s.sol.ch[k]).phase = .hold → (s.sol.ch[k]).chainWait = none →
       let p := (s.sol.ch[k]).prof (s.sol.ch[k]).profile
       (p.thold = 0 → (s.sol.ch[k]).cmdLive = true → exec (.eventEnd k) s = .next s) ∧
       (p.thold ≠ 0 ∨ (s.sol.ch[k]).cmdLive = false →
         ∃ t, exec (.eventEnd k) s = .next t ∧
           (p.chains = false → (t.sol.ch[k]).active = false ∧
             (s.canLog = true → t.hasEntry 0x3002 1 (locSol k.val) (pack64 [(0, (s.sol.ch[k]).profile)]) = true)) ∧
           (p.chains = true → s.otherPeak k = true → (t.sol.ch[k]).phase = .hold ∧ (t.sol.ch[k]).chainWait ≠ none) ∧
           (p.chains = true → s.otherPeak k = false →
             (t.sol.ch[k]).phase = .peak ∧ (t.sol.ch[k]).profile = p.chain ∧ (t.sol.ch[k]).profStart = t.now) ∧
           (∀ j : Fin 16, j ≠ k → t.sol.ch[j] = s.sol.ch[j]) ∧ t.hsw = s.hsw ∧ t.led = s.led ∧ t.hurdle = s.hurdle)) ∧
     ((s.sol.ch[k]).phase = .minoff →
       exec (.minoffEnd k) s = .next (modSol k (fun c => { c with phase := .idle })
         (passToNs (s.sol.ch[k]).minoffEnd.toNat s))) ∧
     (∀ ev, (s.sol.ch[k]).queued = some ev → ev.prof.late ≠ 0xFFFF →
       ∃ t, exec (.lateDrop k) s = .next t ∧ (t.sol.ch[k]).queued = none ∧
         (t.sol.ch[k]).drops = satInc (s.sol.ch[k]).drops ∧ (t.sol.ch[k]).phase = (s.sol.ch[k]).phase ∧
         t.time = (passToNs (ev.due.toNat + ev.prof.late * 10000) s).time ∧
         bit (t.head .sol).irq 3 = true ∧ (∀ j : Fin 16, j ≠ k → t.sol.ch[j] = s.sol.ch[j]) ∧
         t.hsw = s.hsw ∧ t.led = s.led ∧ t.hurdle = s.hurdle))

/-- Armature movement and the faults of a driver: a dip of at least DIP inside the window and before IPEAK, with a
supply that fell by no more than a tenth, is a movement; a window without one is NO_MOVE; a coil that carries less
than IPEAK at the end of the peak phase, or less than half of IHOLD for the 1 ms of the hold phase (log entry 34), is
open. The reports on drivers that are off: a sense current of 200 mA or more is a shorted driver, a feed that carries
more than 100 mA leaks, a contact that rose after the turn-off lacks its free-wheel path. CLRCNT clears the driver's
two counters; another writer's is a reserved write, since SOL has no ERR.PRIV. -/
def Obligations.SolenoidDetection : Prop :=
  (∀ (k : Fin 16) (s : State), s.powered = true →
     let c := s.sol.ch[k]
     let p := c.prof c.profile
     (∀ (tmax tmin : Word) (imax imin v0 v1 : Half), c.phase = .peak → c.detect = true →
       imin.toNat + p.dip ≤ imax.toNat → imax.toNat < p.ipeak → tmin.toNat ≤ p.moveto * 10 →
       v0.toNat * 9 ≤ v1.toNat * 10 →
       ∃ t, exec (.move k tmax tmin imax imin v0 v1) s = .next t ∧
         t.sol.ch[k] = { c with detect := false, moved := true, tmax := moveTime tmax, tmin := moveTime tmin } ∧
         bit (t.head .sol).irq 0 = true ∧ t.hsw = s.hsw) ∧
     (∀ (tmax tmin : Word) (imax imin v0 v1 : Half), v1.toNat * 10 < v0.toNat * 9 →
       exec (.move k tmax tmin imax imin v0 v1) s = .next s) ∧
     (∀ imax : Half, c.active = true → c.detect = true →
       ∃ t, exec (.noMove k imax) s = .next t ∧ t.sol.ch[k] = { c with detect := false, noMove := true } ∧
         bit (t.head .sol).irq 1 = true ∧ t.hsw = s.hsw) ∧
     (∀ imax : Half, (c.phase = .peak ∧ imax.toNat < p.ipeak) ∨ (c.phase = .hold ∧ imax.toNat * 2 < p.ihold) →
       ∃ t, exec (.coilOpen k imax) s = .next t ∧ t.sol.ch[k] = { c with coilOpen := true } ∧
         bit (t.head .sol).irq 2 = true ∧ t.hsw = s.hsw)) ∧
  (∀ (k : Fin 16) (i : Half) (s : State), s.powered = true →
     ((s.sol.ch[k]).active = false → (s.feedState (s.feedOf k)).gate = true → 20 ≤ i.toNat →
       (s.sol.ch[k]).offAt.toNat + 2000000 ≤ s.tb0 →
       exec (.drvShort k i) s = .next (setIrq .sol 5 (logEv 0x300A 5 (locSol k.val) (pack64 [(16, i.toNat)])
         (solFlag k 13 (modSol k (fun c => { c with drvShort := true }) s))))) ∧
     (∀ hs : Fin 96, s.cfg.hs[hs].fn = 3 → (s.hsw.ch[hs]).gate = true →
       (if hs.val < 64 then (100 : Int) else 25) < (s.adc (hs.val / 8) i).toInt →
       (∀ j : Fin 16, s.feedOf j = hs.val →
         (s.sol.ch[j]).active = false ∧ (s.sol.ch[j]).offAt.toNat + 2000000 ≤ s.tb0) →
       exec (.feedLeak hs i) s =
         .next (setIrq .sol 6 (logEv 0x300B 4 (locHs hs.val) (pack64 [(16, (s.adc (hs.val / 8) i).toNat)]) s))) ∧
     exec (.solFwMissing k i) s =
       .next (setIrq .sol 7 (logEv 0x300C 5 (locSol k.val) (pack64 [(16, i.toNat)]) s)) ∧
     (∀ rq, hsCtrlAllowed rq = true →
       exec (.solClrcnt rq k) s = .next (modSol k (fun c => { c with events := 0, drops := 0 }) s)) ∧
     (∀ rq, hsCtrlAllowed rq = false →
       exec (.solClrcnt rq k) s = .next (reservedWrite rq (0x20041000 + k.val * 0x40) s)))

/-- In phase-shifted dimming an enabled string's period starts at its offset in the tick: each of its positions takes
its pulse, the levels of other strings stand. A lamp window in its tick of 32: one result of Table 6.6 (where several
of its conditions hold, in the order of log entry 135); OPEN and SHORT each set after two windows in a row with their
own result and clear after two with the result present, and a window with no result changes neither flag nor run; a
window that cannot end by 62/64 T is not taken. The clamp outside a window flags an open lamp at once. String faults:
a sink below 90 percent of its current is marked once a tick and reported with the fourth tick in a row; a sink
junction at 165 degrees latches the string HOT until a re-enable below 145 degrees; at 145 degrees or above the
re-enable only sets LED_ERR.HOT, with entry 0x4006. -/
def Obligations.LampsAndStrings : Prop :=
  (∀ (k : Fin 8) (s : State), s.powered = true → s.led.shift = true → (s.cfg.str[k]).enable = true →
     ∃ t, exec (.dimmingPeriodStart k) s = .next t ∧ (t.led.str[k]).periodStart = t.now ∧
       (∀ j : Fin 128, j.val / 16 = k.val → t.led.pos[j] = dimPeriod s.led.pos[j]) ∧
       (∀ j : Fin 128, j.val / 16 ≠ k.val → t.led.pos[j] = s.led.pos[j]) ∧
       (∀ j : Fin 8, j ≠ k → t.led.str[j] = s.led.str[j]) ∧
       t = { s with led := t.led, time := t.time }) ∧
  (∀ (k : Fin 128) (s : State), s.powered = true → s.lampAt k = true →
     (∀ m : LampReading, s.windowFits = false → exec (.lampWindow k m) s = .next s) ∧
     (∀ m : LampReading, s.tick.phase = .measure → (s.led.pos[k]).windowed = false → s.windowFits = true →
       s.tick.count.toNat % 32 = 2 * (k.val % 16) →
       ∃ t, exec (.lampWindow k m) s = .next t ∧
         let res := lampResult (getNat s.led.str (k.val / 16) default).hot ((passWindow s).sinkCurrent k) m
         let p := s.led.pos[k]
         let ro := p.openRun.step res
         let rs := p.shortRun.step res
         (t.led.pos[k]).windowed = true ∧ (t.led.pos[k]).result = some (res, m.mv) ∧
         (∀ j : Fin 128, j ≠ k → t.led.pos[j] = s.led.pos[j]) ∧
         (res = 0 → t.led.pos[k] = { p with windowed := true, result := some (res, m.mv) }) ∧
         (res ≠ 0 → (t.led.pos[k]).openRun = ro ∧ (t.led.pos[k]).shortRun = rs) ∧
         (res = 1 → (t.led.pos[k]).open_ = (p.open_ && decide (ro.len < 2)) ∧
           (t.led.pos[k]).short = (p.short && decide (rs.len < 2))) ∧
         (res = 2 → (t.led.pos[k]).open_ = (p.open_ || decide (2 ≤ ro.len)) ∧ (t.led.pos[k]).short = p.short) ∧
         (res = 3 → (t.led.pos[k]).short = (p.short || decide (2 ≤ rs.len)) ∧ (t.led.pos[k]).open_ = p.open_)) ∧
     (∀ mv, (s.led.pos[k]).open_ = false →
       ∃ t, exec (.lampClamp k mv) s = .next t ∧ (t.led.pos[k]).open_ = true ∧ (t.led.pos[k]).held = true ∧
         (t.led.pos[k]).faults = satInc (s.led.pos[k]).faults ∧ bit (t.head .led).irq 0 = true ∧
         ∀ j : Fin 128, j ≠ k → t.led.pos[j] = s.led.pos[j])) ∧
  (∀ (k : Fin 8) (s : State), s.powered = true →
     (∀ (i : Nat) (v : Half), (s.cfg.str[k]).enable = true → (s.led.str[k]).lowNow = false →
       i * 4 < 180 + 45 * (s.cfg.str[k]).code →
       ∃ t, exec (.stringLow k i v) s = .next t ∧ t.led.str[k] = { s.led.str[k] with lowNow := true } ∧
         ((s.led.str[k]).lowRun = 3 → bit (t.head .led).irq 3 = true) ∧
         ((s.led.str[k]).lowRun ≠ 3 → t.heads = s.heads ∧ t.tally = s.tally)) ∧
     (∀ temp : Half, 2640 ≤ temp.toInt → (s.led.str[k]).hot = false →
       ∃ t, exec (.stringHot k temp) s = .next t ∧ t.led.str[k] = { s.led.str[k] with hot := true, sensed := temp } ∧
         bit (t.head .led).irq 2 = true) ∧
     (∀ rq, hsCtrlAllowed rq = true → (s.led.str[k]).hot = true → (s.led.str[k]).sensed.toInt < 2320 →
       ∃ t, exec (.stringReenable rq k) s = .next t ∧ t.led.str[k] = { s.led.str[k] with hot := false }) ∧
     (∀ rq, hsCtrlAllowed rq = true → (s.led.str[k]).hot = true → 2320 ≤ (s.led.str[k]).sensed.toInt →
       ∃ t, exec (.stringReenable rq k) s = .next t ∧ t.led = s.led ∧ bit (t.head .led).err 2 = true ∧
         (s.canLog = true → t.hasEntry 0x4006 3 (locStr k.val) 1 = true)))

/-- The lighting registers of the shepherd core and the service port: a legal value of a pattern engine's register is
stored in it alone, a reserved one refused; CLRCNT clears the fault counter; SEND arms a chain line that has the
chain function and leaves one that has not. Any other writer only sets LED_ERR.PRIV, and RSVD_WR too with a reserved
value. The writes of one cycle act in the order of R15. The frame of a busy chain line
ends, counted and with FAULT cleared, or is aborted by a wrong read-back with FAULT set; an idle line has no frame to
end. -/
def Obligations.LightingControl : Prop :=
  (∀ (rq : Requester) (s : State), s.powered = true →
     (hsCtrlAllowed rq = false → ∀ (e : Fin 4) (reg : Fin 3) (v : Word) (p : Fin 128) (l : Fin 4) (k : Fin 8),
       (peValueOk reg v = true → exec (.peCtrlWrite rq e reg v) s =
         .next (setErr .led 3 (inTurn .led (peAddr e reg % 0x10000) rq.rank s))) ∧
       (peValueOk reg v = false → exec (.peCtrlWrite rq e reg v) s =
         .next (setErr .led 3 (reservedWrite rq (peAddr e reg) (inTurn .led (peAddr e reg % 0x10000) rq.rank s)))) ∧
       exec (.posClrcnt rq p) s = .next (setErr .led 3 s) ∧ exec (.chainSend rq l) s = .next (setErr .led 3 s) ∧
       exec (.stringReenable rq k) s = .next (setErr .led 3 s)) ∧
     (hsCtrlAllowed rq = true → ∀ (e : Fin 4) (v : Word),
       (∀ reg, peValueOk reg v = true → ∃ t, exec (.peCtrlWrite rq e reg v) s = .next t ∧
         (reg = 0 → t.led.pe[e] = { s.led.pe[e] with ctrl := v }) ∧
         (reg = 1 → t.led.pe[e] = { s.led.pe[e] with level := v }) ∧
         (reg = 2 → t.led.pe[e] = { s.led.pe[e] with time := v }) ∧
         (∀ j : Fin 4, j ≠ e → t.led.pe[j] = s.led.pe[j]) ∧
         t = { inTurn .led (peAddr e reg % 0x10000) rq.rank s with led := { s.led with pe := t.led.pe } }) ∧
       (∀ reg, peValueOk reg v = false →
         exec (.peCtrlWrite rq e reg v) s =
           .next (reservedWrite rq (peAddr e reg) (inTurn .led (peAddr e reg % 0x10000) rq.rank s)))) ∧
     (hsCtrlAllowed rq = true → ∀ p : Fin 128,
       exec (.posClrcnt rq p) s = .next (modPos p (fun h => { h with faults := 0 }) s)) ∧
     (hsCtrlAllowed rq = true → ∀ l : Fin 4,
       ((s.cfg.chain[l]).fn = 1 → exec (.chainSend rq l) s = .next (modChain l (fun h => { h with armed := true }) s)) ∧
       ((s.cfg.chain[l]).fn ≠ 1 → exec (.chainSend rq l) s = .next s))) ∧
  (∀ (l : Fin 4) (share : Byte) (s : State), s.powered = true →
     ((s.led.chain[l]).busy = true →
       exec (.chainFrameDone l) s = .next (setIrq .led 4 (bump .led (0x0D10 + l.val * 0x20) 0 1 (modChain l (fun h =>
         { h with busy := false, fault := false, frames := satInc h.frames }) s))) ∧
       exec (.chainFault l share) s = .next (setIrq .led 6 (logEv 0x4008 4 (locChain l.val) (pack64 [(0, share.toNat)])
         (modChain l (fun h => { h with busy := false, fault := true }) s)))) ∧
     ((s.led.chain[l]).busy = false →
       exec (.chainFrameDone l) s = .next s ∧ exec (.chainFault l share) s = .next s))

/-! ### The processors -/

/-- Register a0 reads 0, and a move into it is discarded without an exception: it writes no register, triggers
nothing, clashes with no move, and is a legal destination of every core and level. -/
def Obligations.RegisterA0 : Prop :=
  ∀ (c : Fin 5) (v : Word) (lat : Vector Word 11) (s : State),
    s.srcVal c 0 = 0 ∧ writeRegs c [⟨0, v⟩] s = s ∧ runTriggers c lat [⟨0, v⟩] s = s ∧
      (∀ shepherd keeper, destOk shepherd keeper 0 = true) ∧ (∀ w, clash ⟨0, v⟩ ⟨0, w⟩ = false) ∧
      unitExc c s lat ⟨0, v⟩ = none

/-- The division edges give the results of Table 10.5 whether or not DIV_TRAP_EN is set, but for a division by zero
that traps; elsewhere the quotient is rounded toward zero and the remainder has the sign of the dividend. A field
control word gives pos in bits 4 to 0 and width in bits 13 to 8; a field that would pass bit 31 is cut there. Extract
and insert move exactly the bits of that field, sign extension repeats its top bit. -/
def Obligations.DivisionAndBitFields : Prop :=
  (∀ a b : Word,
     divOp 0x69 0x80000000#32 0xFFFFFFFF#32 = ⟨0x80000000#32, 0, true, false⟩ ∧
       (0 ≤ a.toInt → divOp 0x69 a 0 = ⟨0x7FFFFFFF#32, a, false, true⟩) ∧
       (a.toInt < 0 → divOp 0x69 a 0 = ⟨0x80000000#32, a, false, true⟩) ∧
       divOp 0x6A a 0 = ⟨0xFFFFFFFF#32, a, false, true⟩ ∧
       (b ≠ 0 → ¬(a = 0x80000000#32 ∧ b = 0xFFFFFFFF#32) →
         (divOp 0x69 a b).q.toInt = Int.tdiv a.toInt b.toInt ∧
         (divOp 0x69 a b).r = a - (divOp 0x69 a b).q * b ∧
         (divOp 0x69 a b).v = false ∧ (divOp 0x69 a b).dz = false) ∧
       (b ≠ 0 → (divOp 0x6A a b).q.toNat = a.toNat / b.toNat ∧ (divOp 0x6A a b).r.toNat = a.toNat % b.toNat)) ∧
  (∀ (a p b : Word) (i : Nat), i < 32 →
     let pos := p.toNat % 32
     let w := min (p.toNat / 256 % 64) (32 - pos)
     (bitOp 0x77 a p b).getLsbD i = (decide (i < w) && b.getLsbD (pos + i)) ∧
       (bitOp 0x79 a p b).getLsbD i =
         (if pos ≤ i ∧ i < pos + w then b.getLsbD (i - pos) else a.getLsbD i) ∧
       (bitOp 0x78 a p b).getLsbD i =
         (if w = 0 then false else if i < w then b.getLsbD (pos + i) else b.getLsbD (pos + w - 1)))

/-- Each result byte of a permute is the one its selector names: a byte of A, 0x00 or 0xFF; a selector of 6 or 7
raises ILLEGAL_OPERAND at the trigger in every core. -/
def Obligations.BytePermute : Prop :=
  ∀ (a p b : Word),
    (∀ i, i < 4 →
      let sel := b.toNat / 2 ^ (3 * i) % 8
      let r := (bitOp 0x7D a p b).toNat / 2 ^ (8 * i) % 256
      (sel < 4 → r = a.toNat / 2 ^ (8 * sel) % 256) ∧ (sel = 4 → r = 0) ∧ (sel = 5 → r = 255)) ∧
    ((∃ i, i < 4 ∧ 6 ≤ b.toNat / 2 ^ (3 * i) % 8) →
      ∀ (c : Fin 5) (s : State) (lat : Vector Word 11), unitExc c s lat ⟨0x7D, b⟩ = some ⟨4, 0⟩)

/-- A core that may issue, with nothing due, issues the bundle at its program counter, whose words are read whole
under ECC: three moves or an immediate move run as runBundle says; WAIT stops the issue behind it; BREAK halts the
core while debug is open. A tick core's bundle stands at its place in the core window. -/
def Obligations.BundleIssues : Prop :=
  ∀ (c : Fin 5) (s : State), s.powered = true → s.mayIssue c = true → (s.cpu c).pc ≤ 16383 →
    (∀ f ∈ (s.cpu c).flight, (s.cpu c).cycle - 1 < f.due) →
    (∀ i, i < 2 → s.isMarked (progKey c.val (s.cpu c).pc + 4 * i) = false ∧
      s.flipsAt (progKey c.val (s.cpu c).pc + 4 * i) = 0 ∧
      ∀ x ∈ s.mem.wrote, x.key ≠ progKey c.val (s.cpu c).pc + 4 * i) →
    let u := modCpu c (fun y => { y with
        lastPc := y.pc, lastBranch := y.branch, lastKeeper := y.keeper })
      (coreTime c (s.cpu c).cycle s)
    let w := s.fetch c
    (formOf w ≠ 1 → formOf w ≠ 0xE → formOf w ≠ 0xF → exec (.move3 c) s = .next (runBundle c w u)) ∧
    (formOf w = 1 → exec (.imm32 c) s = .next (runBundle c w u)) ∧
    (w.toNat = 0xE * 2 ^ 60 → (s.cpu c).branch = none →
      exec (.wait c) s =
        .next (modCpu c (fun x => { x with run := .waiting, pc := x.pc + 1, cycle := x.cycle + 1 }) u)) ∧
    (w.toNat = 0xF * 2 ^ 60 → (s.cpu c).branch = none → s.debugOpen = true →
      exec (.brk c) s = .next (modCpu c (fun x => { x with run := .halted }) u))

/-- The moves of a bundle without an exception take effect together: every register takes the value its source had
before the bundle, registers that no move names keep theirs, a0 among them; no other core is touched, and without a
branch, RETE or a branch trigger the core passes to the next bundle. -/
def Obligations.MovesTakeEffectTogether : Prop :=
  ∀ (c : Fin 5) (w : DWord) (s : State),
    let sl := s.enabled c w
    let ms := sl.map fun a => Move.mk a.dst (s.slotVal c w a)
    bundleExc c w sl ms s = none →
    let t := runBundle c w s
    (∀ r : Fin 32, (∀ m ∈ ms, m.dst ≠ r.val) → (t.cpu c).a[r] = (s.cpu c).a[r]) ∧
      (∀ r : Fin 32, r ≠ 0 → ∀ m ∈ ms, m.dst = r.val → (t.cpu c).a[r] = m.v) ∧
      (t.cpu c).a[0] = (s.cpu c).a[0] ∧
      (∀ c' : Fin 5, c' ≠ c → t.cpu c' = s.cpu c') ∧
      ((s.cpu c).branch = none → (∀ m ∈ ms, unitOf m.dst ≠ some 8 ∧ m.dst ≠ 0xF5) →
        (t.cpu c).pc = (s.cpu c).pc + 1 ∧ (t.cpu c).branch = none) ∧
      ((∀ tgt, (s.cpu c).branch = some (tgt, 1) → (∀ m ∈ ms, m.dst ≠ 0xF5) →
        (t.cpu c).pc = tgt ∧ (t.cpu c).branch = none))

/-- A faulting bundle has no effect of its own: a tick core's program stops with entry 0x1002, TICK_IRQ bit 1 and its
event line; task level of the shepherd core enters keeper level at the vector entry of the cause with the bundle's
address saved; keeper level begins a restart. An event line is taken in task level, with no branch pending: keeper
level is entered at the vector entry of the line's priority, the address of the next bundle is saved, cause 0 and the
line are told, and the line stays pending. In keeper level WAIT resumes behind itself and takes no event. The taken
line has the highest priority of the enabled pending lines, and the lowest number among those. -/
def Obligations.ExceptionsAndEvents : Prop :=
  (∀ (c : Fin 5) (w : DWord) (e : Exc) (s : State),
     let sl := s.enabled c w
     bundleExc c w sl (sl.map fun a => Move.mk a.dst (s.slotVal c w a)) s = some e → (s.cpu c).flight = [] →
     let t := runBundle c w s
     (∀ k, tickOf c = some k → (t.cpu c).run = .stopped ∧ t.tick.tc[k] = .stopped ∧ bit (t.head .tick).irq 1 = true ∧
       t.evt.pend.getLsbD (21 + k.val) = true ∧
       (s.canLog = true →
         t.hasEntry 0x1002 5 (locTc k.val) (pack64 [(0, k.val), (8, e.cause), (16, (s.cpu c).pc)]) = true) ∧
       (t.cpu c).a = (s.cpu c).a ∧ (t.cpu c).set = (s.cpu c).set) ∧
     (c = 0 → (s.cpu 0).keeper = false →
       (t.cpu 0).keeper = true ∧ (t.cpu 0).run = .running ∧ (t.cpu 0).pc = 4 * e.cause ∧ (t.cpu 0).ra = (s.cpu 0).pc ∧
         (t.cpu 0).cause = e.cause ∧ (t.cpu 0).info = e.info ∧ (t.cpu 0).a = (s.cpu 0).a ∧
         (t.cpu 0).set = (s.cpu 0).set) ∧
     (c = 0 → (s.cpu 0).keeper = true → t.core.shepherdUp = false ∧ (t.cpu 0).run = .stopped)) ∧
  (∀ (n : Fin 128) (s : State), s.powered = true → s.topLine = some n → (s.cpu 0).flight = [] →
     (s.takesEvent = true →
       ∃ t, exec .eventEntry s = .next t ∧ (t.cpu 0).keeper = true ∧ (t.cpu 0).run = .running ∧
         (t.cpu 0).pc = 4 * (16 + (s.evt.prio[n]).toNat) ∧ (t.cpu 0).ra = (s.cpu 0).pc ∧ (t.cpu 0).cause = 0 ∧
         (t.cpu 0).line = n.val ∧ (t.cpu 0).retBranch = (0, 0) ∧ (t.cpu 0).set = (s.cpu 0).set ∧
         (t.cpu 0).a = (s.cpu 0).a ∧ t.evt = s.evt ∧ t.mem = s.mem) ∧
     (s.takesEvent = true → (s.cpu 0).run = .waiting → exec .shepherdWaitResume s = exec .eventEntry s) ∧
     ((s.cpu 0).run = .waiting → (s.cpu 0).keeper = true →
       exec .shepherdWaitResume s = .next (modCpu 0 (fun x => { x with run := .running }) s))) ∧
  (∀ s : State,
     (∀ n, s.topLine = some n →
       s.evt.pend.getLsbD n.val = true ∧ s.evt.en.getLsbD n.val = true ∧
         ∀ m : Fin 128, s.evt.pend.getLsbD m.val = true → s.evt.en.getLsbD m.val = true →
           (s.evt.prio[m]).toNat < (s.evt.prio[n]).toNat ∨ (s.evt.prio[m] = s.evt.prio[n] ∧ n ≤ m)) ∧
     (s.topLine = none → ∀ m : Fin 128, ¬(s.evt.pend.getLsbD m.val = true ∧ s.evt.en.getLsbD m.val = true)))

/-- An arithmetic operation that is due completes into the result ports of the level that triggered it and leaves the
flight list; the other level's ports, the registers and the memory stand. A lockstep mismatch, found in the bundle
that the pair issues or stands behind, stops the shepherd pair, which is absent with nothing in flight, with entry
0x0301 that names the bundle and its level, and starts its restart unless it is the fifth within 60 s; while the pair
is stopped there is no bundle to compare. The restart of a pair that is not halted, with firmware that verifies and no
tamper during its verification (log entry 82), ends with the core in keeper level at vector entry 0, all event lines
disabled at priority 0 and still pending, and with firmware that does not verify the pair stays stopped. With nothing
in flight the tick cores and every lane run on as they were. -/
def Obligations.CompletionsAndRestarts : Prop :=
  (∀ (c : Fin 5) (u : Upset) (f : Flight) (port : Fin 14) (v : Word) (s : State), s.powered = true →
     nextDue (s.cpu c).flight = some f → f.act = .res [(port, v)] false false →
     ((s.cpu c).run ≠ .running ∨ f.due < (s.cpu c).cycle) → (c = 0 ∨ s.inWindow (f.due + 1) = true) →
     ∃ t, exec (.operationComplete c u) s = .next t ∧ (t.cpu c).flight = (s.cpu c).flight.erase f ∧
       ((t.cpu c).set[lvl f.keeper]).res[port] = v ∧
       (∀ q : Fin 14, q ≠ port → ((t.cpu c).set[lvl f.keeper]).res[q] = ((s.cpu c).set[lvl f.keeper]).res[q]) ∧
       (t.cpu c).set[lvl (!f.keeper)] = (s.cpu c).set[lvl (!f.keeper)] ∧ (t.cpu c).a = (s.cpu c).a ∧ t.mem = s.mem) ∧
  ((∀ s : State, s.powered = true →
     (s.compared = none → exec .lockstep s = .next s) ∧
     ((s.cpu 0).run = .stopped → s.compared = none) ∧
     ((s.cpu 0).run = .running → s.takesEvent = false → s.compared = some ((s.cpu 0).pc, (s.cpu 0).keeper)) ∧
     ((s.cpu 0).run = .waiting → s.compared = some ((s.cpu 0).lastPc, (s.cpu 0).lastKeeper)) ∧
     ∀ b, s.compared = some b →
     ∃ t, exec .lockstep s = .next t ∧ t.core.shepherdUp = false ∧ (t.cpu 0).run = .stopped ∧
       (t.cpu 0).flight = [] ∧
       ((s.cpu 0).flight = [] → (s.canLog = true →
           t.hasEntry 0x0301 5 locShepherd (pack64 [(0, b.1), (15, b01 b.2)]) = true) ∧
         t.core.restarts = s.tb0 :: s.core.restarts ∧
         (t.core.halted = true ∨ t.core.restartAt = some s.tb0) ∧
         (∀ c : Fin 5, c ≠ 0 → t.cpu c = s.cpu c) ∧ t.hsw = s.hsw ∧ t.sol = s.sol ∧ t.led = s.led ∧ t.cfg = s.cfg)) ∧
   ∀ (s : State) (at_ : Nat), s.powered = true → s.core.restartAt = some at_ → s.core.reload = .restart →
     (s.fwReason s.upd.boot.act ≠ 0 ∨ s.core.spoiled = true →
       exec .shepherdRestart s = .next { s with core := { s.core with restartAt := none } }) ∧
     (s.fwReason s.upd.boot.act = 0 → s.core.spoiled = false → s.core.halted = false →
     ∃ t, exec .shepherdRestart s = .next t ∧ t.core.shepherdUp = true ∧ t.core.restartAt = none ∧
       t.cpu 0 = Cpu.resetEntry ∧ t.evt.en = 0 ∧ (∀ n : Fin 128, t.evt.prio[n] = 0) ∧
       (∀ n, s.evt.pend.getLsbD n = true → t.evt.pend.getLsbD n = true) ∧
       (∀ c : Fin 5, c ≠ 0 → t.cpu c = s.cpu c) ∧ t.hsw = s.hsw ∧ t.sol = s.sol ∧ t.led = s.led))

/-! ### Memory, windows and queues -/

/-- The owner register of a general bank: keeper level may write it whatever the owner, a core when its own ID owns
the bank; entry 0x0408 is written, the owner stays for the cycle in progress (two tick cores share a cycle when they
stand at the same bundle boundary, log entry 113) and is the written ID in every later one, and every other bank keeps
its owner. Of two handovers in one cycle that of the later core in the order shepherd core, TC0 to TC3 stands. A
reserved ID is a reserved write, another writer sets MEM_ERR.PRIV, and the dual-port banks have no such register. A
word of the keep bank: keeper level and the service port store it, in the order of R15 among the writes of a cycle,
and then its four bytes read as written, every other byte of the on-die memories as before; the shepherd core and the
service port read it, and a word with one inverted bit reads as it was stored; any other access reads 0, has no effect
and sets MEM_ERR.PRIV. With INC set the word address advances by 4 within the 64 KiB. -/
def Obligations.BanksAndKeepBank : Prop :=
  (∀ (rq : Requester) (b : Fin 18) (v : Word) (s : State), s.powered = true →
     (16 ≤ b.val → exec (.bankOwnerWrite rq b v) s = .next (reservedWrite rq (bankAddr b.val 0) s)) ∧
     (b.val < 16 → ownerWriter rq (s.ownerFor rq.owner b.val) = false → (v.toNat < 10 ∨ v.toNat = 15) →
       exec (.bankOwnerWrite rq b v) s = .next (setErr .mem 1 s)) ∧
     (b.val < 16 → ownerWriter rq (s.ownerFor rq.owner b.val) = false → 10 ≤ v.toNat → v.toNat ≠ 15 →
       exec (.bankOwnerWrite rq b v) s = .next (setErr .mem 1 (reservedWrite rq (bankAddr b.val 0) s))) ∧
     (b.val < 16 → ownerWriter rq (s.ownerFor rq.owner b.val) = true → (v.toNat < 10 ∨ v.toNat = 15) →
       ∃ t, exec (.bankOwnerWrite rq b v) s = .next t ∧
         t.ownerFor rq.owner b.val = s.ownerFor rq.owner b.val ∧
         ((∀ h, (s.mem.bank[b]).handover = some h → s.handsNow rq.owner h = true → h.core ≤ rq.owner) →
           ∀ (u : State) (id : Nat), u.mem = t.mem → u.cycle ≠ s.cycle → u.ownerFor id b.val = v.toNat) ∧
         (∀ h, (s.mem.bank[b]).handover = some h → s.handsNow rq.owner h = true → rq.owner < h.core → t.mem = s.mem) ∧
         (∀ j : Fin 18, j ≠ b → t.mem.bank[j] = s.mem.bank[j]) ∧ t.mem.ram = s.mem.ram ∧ t.mem.mram = s.mem.mram ∧
         (s.canLog = true → t.hasEntry 0x0408 2 (locBank b.val)
           (pack64 [(0, s.ownerFor rq.owner b.val), (4, v.toNat), (8, rq.owner)]) = true) ∧
         t = { s with mem := t.mem, tally := t.tally, heads := t.heads, evt := t.evt }) ∧
     (b.val < 16 → ownerWriter rq (s.ownerFor rq.owner b.val) = true → 10 ≤ v.toNat → v.toNat ≠ 15 →
       exec (.bankOwnerWrite rq b v) s = .next (reservedWrite rq (bankAddr b.val 0) s))) ∧
  (∀ (rq : Requester) (v : Word) (s : State), s.powered = true →
     (rq = .keeper ∨ rq = .service → Memory.wf s.mem.ram = true →
       ∃ t, exec (.keepdataAccess rq (some v)) s = .next t ∧
         ramGet (0x900000 + s.mem.keepWord) 4 t = leBytes 4 v.toNat ∧
         (∀ x, (x < 0x900000 + s.mem.keepWord ∨ 0x900000 + s.mem.keepWord + 4 ≤ x) →
           cellRead t.mem.ram x = cellRead s.mem.ram x) ∧
         t.mem.keepWord = (if s.mem.keepInc then (s.mem.keepWord + 4) % 65536 else s.mem.keepWord) ∧
         t.isMarked ((0x900000 + s.mem.keepWord) / 4 * 4) = false ∧
         t = { inTurn .mem 0x02C rq.rank s with mem := t.mem, tally := t.tally, heads := t.heads, evt := t.evt }) ∧
     (rq ≠ .keeper → rq ≠ .service →
       exec (.keepdataAccess rq (some v)) s = .next (setErr .mem 1 (inTurn .mem 0x02C rq.rank s))) ∧
     (rq.isShepherd = true ∨ rq = .service →
       ∃ t, exec (.keepdataAccess rq none) s = .next t ∧
         (s.isMarked (0x900000 + s.mem.keepWord) = false → popCount (s.flipsAt (0x900000 + s.mem.keepWord)) ≤ 1 →
           (∀ x ∈ s.mem.wrote, x.key ≠ 0x900000 + s.mem.keepWord) →
           t.rdata[rq.slot] = BitVec.ofNat 32 (ofLe (ramGet (0x900000 + s.mem.keepWord) 4 s))) ∧
         t.mem.ram = s.mem.ram ∧
         t.mem.keepWord = (if s.mem.keepInc then (s.mem.keepWord + 4) % 65536 else s.mem.keepWord)) ∧
     (rq.isShepherd = false → rq ≠ .service →
       exec (.keepdataAccess rq none) s = .next (giveRead rq 0 (setErr .mem 1 s))))

/-- The MRAM write engine: keeper level, and in ROM recovery the service port, starts a write within the regions it
may write, and its parameters are taken; a write outside them, or beside one that runs, only sets an ERR bit. A write
whose every source word is owned when it is read, and whole, ends DONE, with the destination holding the source and no
other byte of either memory changed; a word not owned ends it FAILED after the words before it. MW_FAIL with a
read-back that differed ends the write FAILED with entry 0x0409 and IRQ bit 7; without one it ends it only at a word
not owned, and otherwise the write runs on. No window burst and no handover of a bank runs beside it. -/
def Obligations.WriteEngine : Prop :=
  ∀ s : State, s.powered = true →
    (∀ rq, rq = .keeper ∨ (rq = .service ∧ s.upd.recovery = true) →
      (s.mem.mw ≠ .busy → mwRange s.mem.mwDst s.mem.mwLen = true →
        s.mwBarred s.mem.mwDst (s.mem.mwDst + 8 * s.mem.mwLen) = false →
        exec (.mwGo rq) s = .next { s with mem := { s.mem with
          mw := .busy, mwWords := 0, mwJob := (s.mem.mwDst, s.mem.mwSrc, s.mem.mwLen), mwSince := s.tb0 } }) ∧
      (s.mem.mw = .busy → exec (.mwGo rq) s = .next (setErr .mem 1 s)) ∧
      (s.mem.mw ≠ .busy → (mwRange s.mem.mwDst s.mem.mwLen = false ∨
          s.mwBarred s.mem.mwDst (s.mem.mwDst + 8 * s.mem.mwLen) = true) →
        exec (.mwGo rq) s = .next (setErr .mem 3 s))) ∧
    (∀ rq, rq ≠ .keeper → s.upd.recovery = false → exec (.mwGo rq) s = .next (setErr .mem 1 s)) ∧
    (∀ words, s.mem.mw = .busy →
      ∃ t, exec (.mwFail words true) s = .next t ∧ t.mem.mw = .failed ∧ bit (t.head .mem).irq 7 = true ∧
        t.hsw = s.hsw ∧ t.sol = s.sol ∧ t.led = s.led ∧ t.cfg = s.cfg ∧
        ((∀ w : Fin 4, (s.dwin.w[w]).job = none) → t.mem.ram = s.mem.ram)) ∧
    (s.mem.mw = .busy → Memory.wf s.mem.mram = true → s.mem.mwWords ≤ s.mem.mwJob.2.2 →
      (∀ w : Fin 4, (s.dwin.w[w]).job = none) → (∀ b : Fin 18, (s.mem.bank[b]).handover = none) →
      s.mem.flips = [] → s.mem.marked = [] → s.mem.wrote = [] →
      let key := fun i => s.mwKey (s.mem.mwJob.2.1 + 8 * i)
      ((∀ i, s.mem.mwWords ≤ i → i < s.mem.mwJob.2.2 → (key i).isSome = true) →
        (∃ t, exec .mwDone s = .next t ∧ t.mem.mw = .done ∧ t.mem.mwWords = s.mem.mwJob.2.2 ∧ t.mem.ram = s.mem.ram ∧
          (∀ i j k, s.mem.mwWords ≤ i → i < s.mem.mwJob.2.2 → j < 8 → key i = some k →
            cellRead t.mem.mram (s.mem.mwJob.1 + 8 * i + j) = (ramGet k 8 s).getD j 0) ∧
          (∀ x, (x < s.mem.mwJob.1 + 8 * s.mem.mwWords ∨ s.mem.mwJob.1 + 8 * s.mem.mwJob.2.2 ≤ x) →
            cellRead t.mem.mram x = cellRead s.mem.mram x) ∧
          bit (t.head .mem).irq 6 = true) ∧
        (∀ words, s.mem.mwWords < s.mem.mwJob.2.2 →
          ∃ t, exec (.mwFail words false) s = .next t ∧ t.mem.mw = .busy ∧ t.mem.ram = s.mem.ram)) ∧
      (∀ m, s.mem.mwWords ≤ m → m < s.mem.mwJob.2.2 → (∀ i, s.mem.mwWords ≤ i → i < m → (key i).isSome = true) →
        key m = none →
        (∃ t, exec .mwDone s = .next t ∧ t.mem.mw = .failed ∧ t.mem.mwWords = m ∧
          t.mem.ram = s.mem.ram ∧ bit (t.head .mem).irq 7 = true ∧
          (∀ x, (x < s.mem.mwJob.1 + 8 * s.mem.mwWords ∨ s.mem.mwJob.1 + 8 * m ≤ x) →
            cellRead t.mem.mram x = cellRead s.mem.mram x)) ∧
        (∀ words, m ≤ words →
          ∃ t, exec (.mwFail words false) s = .next t ∧ t.mem.mw = .failed ∧ t.mem.mwWords = m ∧
            t.mem.ram = s.mem.ram ∧ bit (t.head .mem).irq 7 = true ∧
            (∀ x, (x < s.mem.mwJob.1 + 8 * s.mem.mwWords ∨ s.mem.mwJob.1 + 8 * m ≤ x) →
              cellRead t.mem.mram x = cellRead s.mem.mram x))))

/-- A window is held by one requester: a free one is taken by the shepherd core or the service port, a held one
refuses with HOLDER's error, and a tick core may hold none. Every other window keeps its holder. Every access to a
window by a requester that does not hold it is refused with DWIN_ERR bit 2 and no other effect; a refused read
returns 0. The bursts in progress have moved their words up to that instant, and OPEN and CLOSE of one cycle act in the
order shepherd core, service port. -/
def Obligations.WindowHolders : Prop :=
  (∀ (rq : Requester) (n : Fin 4) (s : State), s.powered = true →
     let u := burstsNow (inTurn .dwin (0x1000 + n.val * 0x40) rq.rank s)
     (rq.std = true → (u.dwin.w[n]).holder = .none →
       ∃ t, exec (.wOpen rq n) s = .next t ∧ u.holds rq 0 n = false ∧ t.holds rq 0 n = true ∧
         (∀ m : Fin 4, m ≠ n → t.dwin.w[m] = u.dwin.w[m]) ∧
         t = { u with dwin := { u.dwin with w := t.dwin.w } }) ∧
     (rq.std = true → (u.dwin.w[n]).holder ≠ .none → exec (.wOpen rq n) s = .next (setErr .dwin 3 u)) ∧
     (rq.std = false → exec (.wOpen rq n) s = .next (setErr .dwin 2 u)) ∧
     (u.holds rq 0 n = true →
       ∃ t, exec (.wClose rq n) s = .next t ∧ (t.dwin.w[n]).holder = .none ∧ (t.dwin.w[n]).state = .idle ∧
         (t.dwin.w[n]).buf = [] ∧ ∀ m : Fin 4, m ≠ n → t.dwin.w[m] = u.dwin.w[m]) ∧
     (u.holds rq 0 n = false → exec (.wClose rq n) s = .next (setErr .dwin 2 u))) ∧
  (∀ (rq : Requester) (n : Fin 4) (v : Word) (s : State), s.powered = true →
     let u := burstsNow s
     u.holds rq 0 n = false →
     exec (.wGo rq n) s = .next (setErr .dwin 2 u) ∧
       exec (.wClrcnt rq n) s = .next (setErr .dwin 2 u) ∧ exec (.wDataWrite rq n v) s = .next (setErr .dwin 2 u) ∧
       exec (.wDataRead rq n) s = .next (giveRead rq 0 (setErr .dwin 2 u)))

/-- The holder of a window: CLRCNT clears its counters; a word written is buffered behind the words before it; a word
read is the oldest of the buffer, which it leaves; GO on an idle, empty read window issues a burst that starts at
once while fewer than 64 transactions are outstanding, and otherwise waits. A waiting window's transaction starts
once fewer than 64 are outstanding, in the order of waiting; a read burst that completes, with no other window's beside
it, leaves the window idle and READY, gives its transaction back and sets DWIN_IRQ_STATUS bit 0. -/
def Obligations.WindowTransactions : Prop :=
  (∀ (rq : Requester) (n : Fin 4) (v : Word) (s : State), s.powered = true →
     let u := burstsNow s
     u.holds rq 0 n = true →
     exec (.wClrcnt rq n) s = .next (modW n (fun w => { w with words := 0, lost := 0, nown := 0 }) u) ∧
     ((u.dwin.w[n]).write = true → (u.dwin.w[n]).buf.length + 1 < (u.dwin.w[n]).burstLen →
       (u.dwin.w[n]).buf.length < 256 →
       exec (.wDataWrite rq n v) s = .next (modW n (fun w => { w with buf := w.buf ++ [v] }) u)) ∧
     (∀ x l, (u.dwin.w[n]).write = false → (u.dwin.w[n]).buf = x :: l →
       exec (.wDataRead rq n) s = .next (giveRead rq x (modW n (fun w => { w with buf := l }) u))) ∧
     ((u.dwin.w[n]).write = false → (u.dwin.w[n]).state = .idle → (u.dwin.w[n]).buf = [] →
       ∃ t, exec (.wGo rq n) s = .next t ∧
         (t.dwin.w[n]).job = some ⟨(u.dwin.w[n]).addr, (u.dwin.w[n]).inc, false, (u.dwin.w[n]).burstLen⟩ ∧
         (u.txnFits = true → (t.dwin.w[n]).state = .active ∧ t.dwin.inuse = u.dwin.inuse + 1) ∧
         (u.txnFits = false → (t.dwin.w[n]).state = .waiting ∧ t.dwin.inuse = u.dwin.inuse ∧
           t.dwin.waiters = u.dwin.waiters ++ [.win n] ∧ t.dwin.waits = satInc u.dwin.waits) ∧
         ∀ m : Fin 4, m ≠ n → t.dwin.w[m] = u.dwin.w[m])) ∧
  (∀ (n : Fin 4) (l : List Waiter) (lost : List Bool) (s : State), s.powered = true →
     (s.dwin.waiters = .win n :: l → s.dwin.inuse < 64 →
       ∃ t, exec .txnStart s = .next t ∧ t.dwin.waiters = l ∧ t.dwin.inuse = s.dwin.inuse + 1 ∧
         (t.dwin.w[n]).state = .active ∧ (t.dwin.w[n]).job = (s.dwin.w[n]).job ∧
         t = { s with dwin := t.dwin }) ∧
     (64 ≤ s.dwin.inuse → exec .txnStart s = .next s) ∧
     (∀ j, (s.dwin.w[n]).state = .active → (s.dwin.w[n]).job = some j → (s.dwin.w[n]).write = false → j.write = false →
       (∀ m : Fin 4, m ≠ n → (s.dwin.w[m]).job = none) →
       ∃ t, exec (.burstDone n lost) s = .next t ∧ (t.dwin.w[n]).state = .idle ∧ (t.dwin.w[n]).ready = true ∧
         (t.dwin.w[n]).job = none ∧ t.dwin.inuse = s.dwin.inuse - 1 ∧ bit (t.head .dwin).irq 0 = true ∧
         (t.dwin.w[n]).holder = (s.dwin.w[n]).holder ∧
         (∀ m : Fin 4, m ≠ n → t.dwin.w[m] = s.dwin.w[m])))

/-- Q_CTRL: keeper level empties a queue, the shepherd core and the service port clear its counters; FLUSH from
elsewhere, and CLRCNT from a tick core or the fabric, only set QUE_ERR.PRIV. Every other queue stands. A FLUSH is the
last operation on its queue in a cycle. What the
producer of an empty queue pushes is what its consumer pops: the entry's bytes come back whole, the count returns to
0, and the ring moves on by one entry. -/
def Obligations.Queues : Prop :=
  (∀ (rq : Requester) (q : Fin 128) (s : State), s.powered = true →
     (∃ t, exec (.qFlush .keeper q) s = .next t ∧
       t.que.q[q] = { s.que.q[q] with head := (s.que.q[q]).tail, count := 0 } ∧
       (∀ j : Fin 128, j ≠ q → t.que.q[j] = s.que.q[j]) ∧
       t = { inTurn .que (0x10000 + q.val) 16 s with que := { s.que with q := t.que.q } }) ∧
     (rq ≠ .keeper → exec (.qFlush rq q) s = .next (setErr .que 1 s)) ∧
     (rq.std = true → ∃ t, exec (.qClrcnt rq q) s = .next t ∧
       t.que.q[q] = { s.que.q[q] with fulls := 0, refused := 0, pushes := 0, hiwat := 0 } ∧
       (∀ j : Fin 128, j ≠ q → t.que.q[j] = s.que.q[j]) ∧ t = { s with que := { s.que with q := t.que.q } }) ∧
     (rq.std = false → exec (.qClrcnt rq q) s = .next (setErr .que 1 s))) ∧
  (∀ (q : Fin 128) (c : QueueCfg) (data : List Byte) (s : State),
     s.que.bind[q] = some c → 0 < c.slots → data.length = c.bytes → c.bytes % 4 = 0 → Memory.wf s.mem.ram = true →
     s.mem.flips = [] → s.mem.marked = [] → s.mem.wrote = [] → s.pert.injected = none → s.pertFull q.val = false →
     (s.que.q[q]).count = 0 → (s.que.q[q]).head = (s.que.q[q]).tail →
     let r := qPush c.producer q.val data s
     let p := qPop c.consumer q.val r.2
     r.1 = .done ∧ (r.2.que.q[q]).count = 1 ∧ p.1 = .done ∧ p.2.1 = data ∧ (p.2.2.que.q[q]).count = 0 ∧
       (p.2.2.que.q[q]).head = ((s.que.q[q]).tail + 1) % c.slots)

/-! ### Time and the tally -/

/-- The firmware controller of a base steps it once per permission: at the next cycle of the timer clock the base
takes the value with a fraction of 0, the permission is consumed and the base returns to service; with the permission
consumed only the refusal is reported. OOS, ARM and a step of one cycle act in this order. A requester that is not the
controller has no effect and sets TIME_ERR.PRIV, and a step without its low word is a reserved write. RATE takes the
values of R336 from the base's controller and refuses every other value and writer; the service mark of a base is set
by keeper level and cleared by the controller; keeper level re-arms the step of a base out of service. TB0 has none of
this. A capture samples all four bases of one cycle, for the shepherd core alone; a time map is written each 65,536
ticks while TB1 is in service. -/
def Obligations.TimeBases : Prop :=
  (∀ (rq : Requester) (n : Fin 4) (hi lo : Word) (s : State), s.powered = true →
     (s.tbWriter rq n = false → exec (.tbStep rq n hi) s = .next (setErr .time 1 s)) ∧
     (s.tbWriter rq n = true → heldWord rq (tbAddr n.val 0x18) s = none →
       exec (.tbStep rq n hi) s = .next (reservedWrite rq (tbAddr n.val 0x1C) s)) ∧
     (s.tbWriter rq n = true → heldWord rq (tbAddr n.val 0x18) s = some lo →
       let u := inTurn .time (0x20000 + n.val) 2 s
       ∃ t, exec (.tbStep rq n hi) s = .next t ∧ heldWord rq (tbAddr n.val 0x18) t = none ∧
         (∀ m : Fin 4, m ≠ n → t.time.tb[m] =
           if (s.time.tb[n]).stepOk then (u.time.tb[m]).run 1 else u.time.tb[m]) ∧
         ((s.time.tb[n]).stepOk = true →
           (t.time.tb[n]).value = (join64 lo hi).setWidth 96 <<< 32 ∧ (t.time.tb[n]).stepOk = false ∧
           (t.time.tb[n]).oos = false ∧ (t.time.tb[n]).rate = (s.time.tb[n]).rate ∧ bit (t.head .time).irq 0 = true) ∧
         ((s.time.tb[n]).stepOk = false →
           (t.time.tb[n]).value = (u.time.tb[n]).value ∧ (t.time.tb[n]).oos = (s.time.tb[n]).oos ∧
           bit (t.head .time).irq 1 = true))) ∧
  (∀ (rq : Requester) (n : Fin 4) (v : Word) (s : State), s.powered = true →
     (s.tbWriter rq n = false → -10737418 ≤ v.toInt → v.toInt ≤ 10737418 →
       exec (.tbRateWrite rq n v) s = .next (setErr .time 1 s)) ∧
     (s.tbWriter rq n = false → (v.toInt < -10737418 ∨ 10737418 < v.toInt) →
       exec (.tbRateWrite rq n v) s = .next (setErr .time 1 (reservedWrite rq (tbAddr n.val 0x14) s))) ∧
     (s.tbWriter rq n = true → -10737418 ≤ v.toInt → v.toInt ≤ 10737418 →
       exec (.tbRateWrite rq n v) s =
         .next (modTb n (fun b => { b.keepPast s.time.tb[0].value with rate := v }) s)) ∧
     (s.tbWriter rq n = true → (v.toInt < -10737418 ∨ 10737418 < v.toInt) →
       exec (.tbRateWrite rq n v) s = .next (reservedWrite rq (tbAddr n.val 0x14) s)) ∧
     (let u := inTurn .time (0x20000 + n.val) 0 s
      let w := inTurn .time (0x20000 + n.val) 1 s
      (n = 0 → exec (.tbOos rq n true) s = .next (setErr .time 1 u) ∧ exec (.tbOos rq n false) s = .next (setErr .time 1 u) ∧
        exec (.tbArm rq n) s = .next (setErr .time 1 w)) ∧
      (∀ v : Bool, n ≠ 0 → (v = true ∧ rq = .keeper) ∨ (v = false ∧ s.tbWriter rq n = true) →
        ∃ t, exec (.tbOos rq n v) s = .next t ∧ (t.time.tb[n]).oos = v ∧ (t.time.tb[n]).value = (u.time.tb[n]).value ∧
          (t.time.tb[n]).rate = (s.time.tb[n]).rate ∧ (t.time.tb[n]).stepOk = (s.time.tb[n]).stepOk ∧
          ((s.time.tb[n]).oos ≠ v → bit (t.head .time).irq 2 = true) ∧
          ∀ m : Fin 4, m ≠ n → t.time.tb[m] = u.time.tb[m]) ∧
      (∀ v : Bool, n ≠ 0 → (v = true ∧ rq ≠ .keeper) ∨ (v = false ∧ s.tbWriter rq n = false) →
        exec (.tbOos rq n v) s = .next (setErr .time 1 u)) ∧
      (n ≠ 0 → rq ≠ .keeper → exec (.tbArm rq n) s = .next (setErr .time 1 w)) ∧
      (n ≠ 0 → (s.time.tb[n]).oos = true →
        exec (.tbArm .keeper n) s = .next (logEv 0x7004 2 (locTile 0 9) (pack64 [(0, n.val)])
          (modTb n (fun b => { b with stepOk := true }) (inTurn .time (0x20000 + n.val) 1 s)))) ∧
      (n ≠ 0 → (s.time.tb[n]).oos = false →
        exec (.tbArm .keeper n) s = .next (setErr .time 2 (inTurn .time (0x20000 + n.val) 1 s))))) ∧
  (∀ (rq : Requester) (s : State), s.powered = true →
     (rq.isShepherd = true →
       exec (.timeCapture rq) s = .next { s with time := { s.time with cap := s.time.tb.map TimeBase.ns } }) ∧
     (rq.isShepherd = false → exec (.timeCapture rq) s = .next (setErr .time 1 s)) ∧
     (65536 ≤ s.time.mapTicks → (s.time.tb[1]).oos = false →
       ∃ t, exec .timeMap s = .next t ∧ t.time = { s.time with mapTicks := 0 } ∧
         (s.tally.free = true → s.tally.dropped = 0 → (s.tally.sameN = 0 ∨ s.tally.sameAt ≠ s.cycle) →
           ∃ x, t.tally.at_ (s.tally.seq.toNat % 8192) = some x ∧ x.e.code = 0x7005 ∧
             x.e.time = (s.time.tb[1]).ns ∧ x.e.payload = (s.time.tb[0]).ns)) ∧
     (s.time.mapTicks < 65536 → exec .timeMap s = .next s))

/-- A firmware entry is stamped on the base that firmware chose, with FW set in its flags; while CODE is 0 or LOC is
no valid location code GO is a reserved write that writes no entry; a requester without permission only sets
TALLY_ERR.PRIV. The archive: keeper level starts a run; a copy puts the oldest unarchived entry at the next slot of
the archive, marks it archived and changes no byte outside that slot; a slot that fails its read-back is skipped and
reported. A read of ENTRY0 latches the eight words of the selected index for its requester and returns the first; the
later words then return as latched, whatever is written meanwhile. -/
def Obligations.TallyAndArchive : Prop :=
  (∀ (rq : Requester) (s : State), s.powered = true →
     let u := inTurn .tally 0x070 rq.rank s
     (rq.std = false → exec (.tallyFwGo rq) s = .next (setErr .tally 1 u)) ∧
     (rq.std = true → (s.tally.fwCode = 0 ∨ locValid s.tally.fwLoc = false) →
       exec (.tallyFwGo rq) s = .next (reservedWrite rq 0x20090070 u)) ∧
     (rq.std = true → s.tally.fwCode ≠ 0 → locValid s.tally.fwLoc = true → s.tally.free = true →
       s.tally.dropped = 0 → (s.tally.sameN = 0 ∨ s.tally.sameAt ≠ u.cycle) →
       ∃ t x, exec (.tallyFwGo rq) s = .next t ∧ t.tally.at_ (s.tally.seq.toNat % 8192) = some x ∧
         x.e.code = s.tally.fwCode ∧ x.e.loc = s.tally.fwLoc ∧ x.e.flags.getLsbD 6 = true ∧
         x.e.seq = s.tally.seq ∧ x.e.time = (getNat u.time.tb s.tally.fwBase.toNat default).ns ∧
         x.e.payload = join64 s.tally.fwPayLo s.tally.fwPayHi ∧ t.tally.seq = s.tally.seq + 1)) ∧
  (∀ (rq : Requester) (s : State), s.powered = true →
     (rq ≠ .keeper → exec (.tallyFlush rq) s = .next (setErr .tally 1 s)) ∧
     (s.tally.unarch ≠ 0 →
       exec (.tallyFlush .keeper) s = .next { s with tally := { s.tally with archiving := true } }) ∧
     (∀ x, s.tally.archiving = true → s.tally.oldest = some x → Memory.wf s.mem.mram = true →
       ∃ t, exec (.archiveCopy true) s = .next t ∧ t.tally.archSlot = s.tally.archSlot + 1 ∧
         t.tally.archSeq = some x.e.seq ∧
         (∀ i, i < 32 → cellRead t.mem.mram (0x900000 + s.tally.archSlot.toNat * 32 + i) = x.e.bytes.getD i 0) ∧
         (∀ a, (a < 0x900000 + s.tally.archSlot.toNat * 32 ∨ 0x900000 + s.tally.archSlot.toNat * 32 + 32 ≤ a) →
           cellRead t.mem.mram a = cellRead s.mem.mram a) ∧
         (∀ y ∈ t.tally.journal, y.e.seq = x.e.seq → y.archived = true) ∧ t.mem.ram = s.mem.ram) ∧
     (∀ x, s.tally.archiving = true → s.tally.oldest = some x →
       ∃ t, exec (.archiveCopy false) s = .next t ∧ t.tally.archSlot = s.tally.archSlot + 1 ∧ t.mem = s.mem)) ∧
  (∀ (rq : Requester) (s : State), s.powered = true →
     ∃ t, exec (.tallyEntryRead rq) s = .next t ∧ t.rdata[rq.slot] = s.entryWords.headD 0 ∧
       (∀ i live, i < 8 → latchedWord rq 0x20090040 i live t = s.entryWords.getD i 0) ∧ t.tally = s.tally ∧
       t.mem = s.mem ∧ t = { s with rdata := t.rdata, latches := t.latches })

/-! ### The fabric and audio -/

/-- A port of the fabric: a frame with a bad header is dropped and counted; a good frame that goes on leaves the other
port with its FCS; one with a wrong FCS is counted, and its copy is stomped; a good frame that is neither forwarded
nor consumed is counted, and a broadcast one noted as arrived while positions are unknown; a best-effort frame that fits
before the next reserved span leaves the store of its port, unless the port is a closing link.
The loss of a link brings the port DOWN with a LINK entry and IRQ bit 1, and with both ports DOWN the module leaves
the fabric; a LINK frame over a port that is UP records the neighbour's time and serial and the own arrival.
Messages: a received message of legal length is pushed whole to MSGRXQ; an entry of MSGTXQ with a reserved value is
popped, counted as refused and not sent. -/
def Obligations.PortsAndLinks : Prop :=
  (∀ (p : Fin 2) (s : State), s.powered = true →
     (∀ f fcs res, headerOk f = false →
       ∃ t, exec (.frameForward p f fcs res) s = .next t ∧
         (t.fab.port[p]).hdrerr = satInc (s.fab.port[p]).hdrerr ∧ (t.fab.port[p]).rxframes = (s.fab.port[p]).rxframes ∧
         t.fab.port[otherPort p] = s.fab.port[otherPort p]) ∧
     (∀ f res, headerOk f = true → frSize f = f.length → s.tagOk f = true → s.forwards p f = true → frKind f ≤ 8 →
       ∃ t, exec (.frameForward p f (crc32 f) res) s = .next t ∧
         (t.fab.port[otherPort p]).tx = forwardCopy p f res s ++ leBytes 4 (crc32 (forwardCopy p f res s)).toNat ∧
         (t.fab.port[otherPort p]).stomp = false) ∧
     (∀ f fcs res, headerOk f = true → frSize f = f.length → s.forwards p f = true → frKind f ≤ 8 →
       fcs ≠ crc32 f → fcs ≠ ~~~(crc32 f) →
       ∃ t, exec (.frameForward p f fcs res) s = .next t ∧ (t.fab.port[otherPort p]).stomp = true ∧
         (t.fab.port[otherPort p]).tx =
           forwardCopy p f res s ++ leBytes 4 (~~~(crc32 (forwardCopy p f res s))).toNat ∧
         (t.fab.port[p]).fcserr = satInc (s.fab.port[p]).fcserr) ∧
     (∀ f res, headerOk f = true → frSize f = f.length → s.tagOk f = true → s.forwards p f = false →
       s.consumes f = false →
       (s.unplaced = false ∨ frDst f ≠ 0xFF → exec (.frameForward p f (crc32 f) res) s = .next (countRx p s)) ∧
       (s.unplaced = true → frDst f = 0xFF →
         ∃ t, exec (.frameForward p f (crc32 f) res) s = .next t ∧ frameId f ∈ t.fab.seen ∧
           t = countRx p { s with fab := { s.fab with seen := t.fab.seen } })) ∧
     (∀ o l, (s.fab.port[p]).store = o :: l → (s.fab.port[p]).closing = true → exec (.frameSend p) s = .next s) ∧
     (∀ o l, (s.fab.port[p]).store = o :: l → (s.fab.port[p]).up = true → s.tick.phase ≠ .off → o.txn = false →
       (s.fab.port[p]).closing = false →
       ((s.now.toNat : Int) - s.tick.startDrv.toNat) + ((o.bytes.length + 24) * 8 : Nat) + 1000 ≤
         (if ((s.now.toNat : Int) - s.tick.startDrv.toNat) < (s.cfg.rstart * s.T / 1024 : Int)
           then (s.cfg.rstart * s.T / 1024 : Int) else (s.T : Int)) →
       exec (.frameSend p) s =
         .next (modPort p (fun x => { x with store := l }) (wire p o.stomp o.bytes s)))) ∧
  (∀ (p : Fin 2) (s : State), s.powered = true →
     ((s.fab.port[p]).up = true → (s.fab.port[otherPort p]).up = false →
       ∃ t, exec (.portLinkChange p false true false) s = .next t ∧ (t.fab.port[p]).up = false ∧
         (t.fab.port[p]).link = false ∧ t.fab.state = .alone ∧ t.fab.mustered = false ∧ t.fab.pos = 0 ∧
         bit (t.head .fab).irq 1 = true) ∧
     (∀ f, s.takesFrame 1 f = true → (s.fab.port[p]).up = true →
       ∃ t, exec (.linkRx p f) s = .next t ∧ (t.fab.port[p]).gotLink = true ∧
         (t.fab.port[p]).nbrT1 = leAt (frPayload f) 0 8 ∧ (t.fab.port[p]).nbrT2 = s.tb0 ∧
         (t.fab.port[p]).nbrSerial = BitVec.ofNat 64 (leAt (frPayload f) 24 8) ∧
         (t.fab.port[p]).rxframes = satInc (s.fab.port[p]).rxframes ∧
         t.fab.port[otherPort p] = s.fab.port[otherPort p] ∧ t.fab.state = s.fab.state)) ∧
  (∀ s : State, s.powered = true →
     (∀ p f, s.takesFrame 11 f = true → s.cfg.msgRxq ≠ 0xFF → within 1 28 (frLen f) = true →
       exec (.msgRx p f) s = .next (qPush 5 s.cfg.msgRxq
         ([BitVec.ofNat 8 (frSrc f), 0] ++ leBytes 2 (frLen f) ++ slice f 16 (frLen f) ++
           List.replicate (28 - frLen f) 0) (countRx p s)).2) ∧
     (∀ u e, s.fab.pos ≠ 0 → s.cfg.msgTxq ≠ 0xFF → (s.q s.cfg.msgTxq).count ≠ 0 →
       qPop 5 s.cfg.msgTxq s = (.done, e, u) →
       (msgBad e = true →
         exec .msgTx s = .next (bump .fab 0x044 16 1 (modFab (fun b => { b with msgref := satInc b.msgref }) u))) ∧
       (msgBad e = false →
         exec .msgTx s = .next (sendFrame true false (leAt e 0 1) 11 (slice e 4 (leAt e 2 2)) u))))

/-- A muster begins: keeper level starts one under a newer generation, a CALL of a newer generation brings the module
into it under that generation, and 64 ticks after a failed muster the module calls again. A core without the right
only sets FAB_ERR.PRIV. A muster ends: with DONE and the own serial in it the module is a member at its place;
without DONE by the fourth sample mark, or with a bad TOKEN, it stands alone with its generation kept and calls again
64 ticks on. -/
def Obligations.MusterBeginsAndEnds : Prop :=
  (∀ s : State, s.powered = true →
     (∃ t r, exec (.remuster .keeper) s = .next t ∧ t.fab.state = .muster ∧ t.fab.run = some r ∧ r.self = true ∧
       r.rolls = [] ∧ r.pos = 0 ∧ r.gen = (if newerGen s.fab.newest s.ownGen then s.fab.newest else s.ownGen) + 1) ∧
     (∀ rq, rq ≠ .keeper → exec (.remuster rq) s = .next (setErr .fab 1 s)) ∧
     (∀ p f, s.takesFrame 2 f = true → newerGen (frGen f) s.ownGen = true →
       ∃ t r, exec (.callRx p f) s = .next t ∧ t.fab.state = .muster ∧ t.fab.run = some r ∧ r.self = false ∧
         r.gen = frGen f) ∧
     (∀ at_, s.fab.recallAt = some at_ → at_ ≤ s.tick.executed → s.upPorts ≠ [] →
       ∃ t r, exec .musterRecall s = .next t ∧ t.fab.state = .muster ∧ t.fab.run = some r ∧ t.fab.recallAt = none)) ∧
  (∀ (r : MusterRun) (s : State), s.powered = true → s.fab.run = some r →
     (∀ l, r.done = some l → r.ready = true → r.badToken = false → s.fab.serial ∈ l →
       ∃ t, exec .musterDone s = .next t ∧ t.fab.state = .member ∧ t.fab.mustered = true ∧ t.fab.run = none ∧
         t.fab.pos = (if r.pos = 0 then l.findIdx (· == s.fab.serial) + 1 else r.pos) ∧
         (r.pos = 0 → 1 ≤ t.fab.pos ∧ t.fab.pos ≤ l.length) ∧
         t.fab.n = l.length ∧ t.fab.gen = r.gen ∧ t.fab.roll = l) ∧
     ((r.badToken = true ∨ (4 ≤ r.marks ∧ r.done = none)) →
       ∃ t, exec .musterFail s = .next t ∧ t.fab.state = .alone ∧ t.fab.mustered = false ∧ t.fab.run = none ∧
         t.fab.gen = r.gen ∧ t.fab.recallAt = some (s.tick.executed + 64)))

/-- In a muster every module floods its ROLL once, at the first sample mark after the CALL, on every port that is UP,
and counts each other's once by its serial; the starter takes position 1 and passes TOKEN, alone it floods DONE; the
module that TOKEN reaches takes its position and passes it on, the one at the last position floods DONE; a count that
disagrees fails the muster; DONE gives the roll of serials. Outside a muster nothing is sent. ROLL_TX, ROLL_RX,
TOKEN_TX, TOKEN_RX and DONE_RX complete so. -/
def Obligations.MusterGivesPositions : Prop :=
  (∀ s : State, s.fab.run = none → exec .rollTx s = .next s ∧ exec .tokenTx s = .next s) ∧
  ∀ (r : MusterRun) (s : State), s.powered = true → s.fab.run = some r →
    (1 ≤ r.marks → r.rollSent = false →
      ∃ t, exec .rollTx s = .next t ∧ t.fab.run = some { r with
        rollSent := true, rolls := s.ownRoll :: r.rolls.filter fun x => x.serial != s.ownRoll.serial } ∧
        let f := mkFrame s 0xFF 3 r.gen (rollPayload s.ownRoll)
        ∀ p : Fin 2, (s.fab.port[p]).up = true → s.maySend = true →
          (t.fab.port[p]).tx = f ++ leBytes 4 (crc32 f).toNat) ∧
    (∀ p f q, s.takesFrame 3 f = true → (r.rolls.any fun x => x.serial == (rollOf f q).serial) = false →
      ∃ t, exec (.rollRx p f q) s = .next t ∧ t.fab.run = some { r with rolls := r.rolls ++ [rollOf f q] }) ∧
    (∀ p f q, s.takesFrame 3 f = true → (r.rolls.any fun x => x.serial == (rollOf f q).serial) = true →
      ∃ t, exec (.rollRx p f q) s = .next t ∧ t.fab.run = some r) ∧
    ((if s.tick.src then 2 else 3) ≤ r.marks → r.tokenSent = false → r.rollSent = true →
      r.starter = some s.fab.serial.toNat → r.pos = 0 →
      ∃ t, exec .tokenTx s = .next t ∧
        (1 < r.rolls.length → t.fab.run = some { r with tokenSent := true, pos := 1 } ∧
          (t.fab.port[(1 : Fin 2)]).closing = (r.isRing || (s.fab.port[(1 : Fin 2)]).closing)) ∧
        (r.rolls.length = 1 → t.fab.run = some { r with
          tokenSent := true, pos := 1, done := some (doneSerials s.fab.serial r) })) ∧
    (∀ p f, s.takesFrame 4 f = true → r.pos = 0 → leAt f 17 1 = r.rolls.length →
      ∃ t, exec (.tokenRx p f) s = .next t ∧ t.fab.run = some { r with
        pos := leAt f 16 1 % 128, up := p, tokenSent := true
        done := if leAt f 16 1 % 128 = min 64 r.rolls.length then some (doneSerials s.fab.serial r) else r.done }) ∧
    (∀ p f, s.takesFrame 4 f = true → r.pos = 0 → leAt f 17 1 ≠ r.rolls.length →
      ∃ t, exec (.tokenRx p f) s = .next t ∧ t.fab.run = some { r with badToken := true }) ∧
    (∀ p f, s.takesFrame 4 f = true → r.pos ≠ 0 → exec (.tokenRx p f) s = .next (countRx p s)) ∧
    (∀ p f, s.takesFrame 5 f = true →
      ∃ t, exec (.doneRx p f) s = .next t ∧ t.fab.run = some { r with
        done := some (r.done.getD ((List.range (leAt f 16 1 % 128)).map fun i => BitVec.ofNat 64 (leAt f (17 + 8 * i) 8))) })

/-- The time of the fabric: the bellwether sends TIME once a tick; a member accepts it only from the bellwether, and
then its count of missing frames is 0 and TSTALE clear; four whole ticks without one set TSTALE and IRQ bit 3, and TB1
is steered no more. State blocks: a member sends its own once a tick while TB1 carries the fabric's time, one beyond
MAXPOS reports OVERPOS once instead, whether it does or not; a block that comes before the envelope phase is stored in
DP1 at its sender's place, a later one is counted and discarded. -/
def Obligations.FabricTimeAndState : Prop :=
  (∀ s : State, s.powered = true →
     (s.bellwether = true → s.fab.state = .member → (s.time.tb[1]).oos = false → s.fab.timeSeq ≠ s.tick.executed →
       s.tick.phase ≠ .off →
       ∃ t, exec .timeTx s = .next t ∧ t.fab.timeSeq = s.tick.executed ∧ t.fab.state = .member ∧
         exec .timeTx t = .next t) ∧
     (∀ p f, s.takesFrame 6 f = true → s.bellwether = false → s.fab.bw = frSrc f → s.fab.bw ≠ 0 →
       ∃ t, exec (.timeRx p f) s = .next t ∧ t.fab.tmiss = 0 ∧ t.fab.tstale = false) ∧
     (∀ p f, s.takesFrame 6 f = true → s.fab.bw ≠ frSrc f →
       exec (.timeRx p f) s = .next (countRx p s)) ∧
     (s.fab.mustered = true → s.bellwether = false → 5 ≤ s.fab.tmiss.toNat → s.fab.tstale = false →
       ∃ t, exec .timeLost s = .next t ∧ t.fab.tstale = true ∧ bit (t.head .fab).irq 3 = true ∧
         (t.time.tb[1]).slew = false ∧ (∀ m : Fin 4, m ≠ 1 → t.time.tb[m] = s.time.tb[m]) ∧
         t = { s with fab := t.fab, time := t.time, tally := t.tally, heads := t.heads, evt := t.evt }) ∧
     (s.fab.state = .member → s.tick.phase ≠ .off → s.cfg.maxPos < s.fab.pos → s.fab.overpos = false →
       exec .stateTx s = .next (logEv 0x800E 3 locFab (pack64 [(0, s.fab.pos)])
         (modFab (fun b => { b with overpos := true }) s)))) ∧
  (∀ s : State, s.powered = true → s.carries1 = true →
     (s.fab.stateSeq ≠ s.tick.executed → s.tick.phase ≠ .off → s.fab.pos ≤ s.cfg.maxPos →
       ∃ t, exec .stateTx s = .next t ∧ t.fab.stateSeq = s.tick.executed ∧ t.fab.overpos = s.fab.overpos) ∧
     (∀ p f, s.takesFrame 7 f = true → frSrc f ≠ 0 → frSrc f ≤ 64 → s.beforeEnvelope = true → Memory.wf s.mem.ram = true →
       (frPayload f).length = 256 →
       ∃ t, exec (.stateRx p f) s = .next t ∧ ramGet (0x410000 + 0x100 * frSrc f) 256 t = slice f 16 256 ∧
         (∀ a, (a < 0x410000 + 0x100 * frSrc f ∨ 0x410000 + 0x100 * frSrc f + 256 ≤ a) →
           cellRead t.mem.ram a = cellRead s.mem.ram a) ∧ t.mem.mram = s.mem.mram) ∧
     (∀ p f, s.takesFrame 7 f = true → frSrc f ≠ 0 → frSrc f ≤ 64 → s.beforeEnvelope = false →
       ∃ t, exec (.stateRx p f) s = .next t ∧ t.fab.sblate = satInc s.fab.sblate ∧ t.mem = s.mem ∧
         t.hurdle = s.hurdle ∧ bit (t.head .fab).irq 6 = true))

/-- Audio frames: the frame that the last tick took from a local stream's slot is buffered for its play-out tick, LAT
ticks after that tick, in the place of the frame of the same slot; one that a jump of the tick number has put out of
the window is not; a received frame of a configured stream from its announcer is buffered when its tick and sample
count are right, and counted late when its tick has passed. ACTIVE of a local stream is the shepherd core's to write:
a change is kept and reported, a stream that is not local is refused with AUD_ERR bit 2, a reserved value is a
reserved write whoever writes it, another writer sets AUD_ERR.PRIV. -/
def Obligations.Audio : Prop :=
  (∀ s : State, s.powered = true →
     (∀ (k : Fin 32) (ins : List (List (BitVec 24))), s.cfg.isLocal k.val = true → (s.str k.val).sender = 0 →
       s.tick.phase ≠ .off → s.tick.phase ≠ .begun →
       let play := s.tick.lastCount.setWidth 32 + BitVec.ofNat 32 s.cfg.lat
       let ahead := tickDiff play s.tickLo
       play ∉ (s.str k.val).held →
       ∃ t, exec (.audioTx k ins) s = .next t ∧
         (0 < ahead → ahead ≤ s.cfg.lat → (t.str k.val).held =
           play :: (s.str k.val).held.filter fun p => s.frameSlot p != s.frameSlot play) ∧
         ((ahead ≤ 0 ∨ (s.cfg.lat : Int) < ahead) → (t.str k.val).held = (s.str k.val).held) ∧
         t.hsw = s.hsw ∧ t.sol = s.sol ∧ t.led = s.led ∧ t.cfg = s.cfg) ∧
     (∀ (p : Fin 2) (f : List Byte), s.takesFrame 8 f = true → s.carries1 = true →
       let k := leAt (frPayload f) 0 1
       let play := BitVec.ofNat 32 (leAt (frPayload f) 4 4)
       k < 32 → (s.cfg.stream k).isSome = true → s.announcer k = frSrc f → frSrc f ≠ 0 →
       (tickDiff play s.tickLo ≤ 0 →
         ∃ t, exec (.audioRx p f) s = .next t ∧ (t.str k).late = satInc (s.str k).late ∧
           (t.str k).held = (s.str k).held ∧ t.mem = s.mem ∧ bit (t.head .aud).irq 1 = true) ∧
       (0 < tickDiff play s.tickLo → tickDiff play s.tickLo ≤ s.cfg.lat →
         tickDiff play (frTick f + BitVec.ofNat 32 s.cfg.lat - 1) = 0 → leAt (frPayload f) 2 2 = s.cfg.ns →
         ∃ t, exec (.audioRx p f) s = .next t ∧ play ∈ (t.str k).held))) ∧
  (∀ (rq : Requester) (k : Fin 32) (v : Word) (s : State), s.powered = true →
     (rq.isShepherd = false → v.toNat < 2 → exec (.activeWrite rq k v) s = .next (setErr .aud 1 s)) ∧
     (rq.isShepherd = false → 2 ≤ v.toNat → exec (.activeWrite rq k v) s =
       .next (setErr .aud 1 (reservedWrite rq (0x200C1000 + k.val * 0x40) s))) ∧
     (rq.isShepherd = true → 2 ≤ v.toNat →
       exec (.activeWrite rq k v) s = .next (reservedWrite rq (0x200C1000 + k.val * 0x40) s)) ∧
     (rq.isShepherd = true → v.toNat < 2 → s.cfg.isLocal k.val = false →
       exec (.activeWrite rq k v) s = .next (setErr .aud 2 s)) ∧
     (rq.isShepherd = true → v.toNat < 2 → s.cfg.isLocal k.val = true →
       ∃ t, exec (.activeWrite rq k v) s = .next t ∧ (t.str k.val).active = bit v 0 ∧
         (∀ j, j ≠ k.val → t.str j = s.str j) ∧
         ((s.str k.val).active = bit v 0 → t.tally = s.tally) ∧ t.mem = s.mem ∧ t.hurdle = s.hurdle))

/-- Remote access, the asking side: GO on an idle channel of a member sends the request when a transaction is free
and queues it otherwise; a response from the asked position completes the channel with its result and gives the
transaction back; without one it times out 8 ticks after sending; ABANDON ends a sent request; a response that fits
no request is counted late. Remote access, the asked side: without an authentication slot no request is accepted; a
request that finds no free transaction waits in line; one that finds a transaction is served under it. -/
def Obligations.RemoteAccess : Prop :=
  (∀ (c : Fin 4) (s : State), s.powered = true →
     (∀ rq, rq ≠ .keeper →
       exec (.raGo rq c) s = .next (setErr .fab 1 s) ∧ exec (.raAbandon rq c) s = .next (setErr .fab 1 s)) ∧
     ((s.fab.ra[c]).state = .idle ∨ (s.fab.ra[c]).state = .done → s.authOn = true → s.fab.pos ≠ 0 →
       (s.fab.ra[c]).dst ≤ s.fab.n →
       ∃ t, exec (.raGo .keeper c) s = .next t ∧
         (s.txnFits = true → (t.fab.ra[c]).state = .sent ∧ (t.fab.ra[c]).sentAt = s.tick.executed ∧
           t.dwin.inuse = s.dwin.inuse + 1) ∧
         (s.txnFits = false → (t.fab.ra[c]).state = .waiting ∧ t.dwin.waiters = s.dwin.waiters ++ [.ra c]) ∧
         ∀ d : Fin 4, d ≠ c → t.fab.ra[d] = s.fab.ra[d]) ∧
     ((s.fab.ra[c]).state = .sent →
       (∃ t, exec (.raAbandon .keeper c) s = .next t ∧ (t.fab.ra[c]).state = .done ∧ (t.fab.ra[c]).result = 3 ∧
         t.dwin.inuse = s.dwin.inuse - 1 ∧ bit (t.head .fab).irq 5 = true) ∧
       ((s.fab.ra[c]).sentAt + 8 ≤ s.tick.executed →
         ∃ t, exec (.raTimeout c) s = .next t ∧ (t.fab.ra[c]).state = .done ∧ (t.fab.ra[c]).result = 2 ∧
           t.dwin.inuse = s.dwin.inuse - 1) ∧
       (∀ p f r, s.takesFrame 10 f = true → r.chan = c.val → (s.fab.ra[c]).dst = frSrc f →
         ∃ t, exec (.raRspRx p f r) s = .next t ∧ (t.fab.ra[c]).state = .done ∧ (t.fab.ra[c]).result = r.result ∧
           (t.fab.ra[c]).words = r.words ∧ ((s.fab.ra[c]).op = 0 → (t.fab.ra[c]).rdata = r.data.headD 0) ∧
           t.dwin.inuse = s.dwin.inuse - 1 ∧ (∀ d : Fin 4, d ≠ c → t.fab.ra[d] = s.fab.ra[d]))) ∧
     (∀ p f r, s.takesFrame 10 f = true → r.chan = c.val →
       ((s.fab.ra[c]).state ≠ .sent ∨ (s.fab.ra[c]).dst ≠ frSrc f) →
       ∃ t, exec (.raRspRx p f r) s = .next t ∧ t.fab.ralate = satInc s.fab.ralate ∧ t.fab.ra = s.fab.ra)) ∧
  (∀ (p : Fin 2) (f : List Byte) (q : RaReq) (s : State), s.powered = true → s.takesFrame 9 f = true →
     (s.authOn = false → exec (.raReqRx p f q) s = .next (countRx p s)) ∧
     (s.authOn = true → s.txnFits = false →
       ∃ t, exec (.raReqRx p f q) s = .next t ∧ t.fab.remote = s.fab.remote ++ [⟨p, frSrc f, q⟩] ∧
         t.dwin.waiters = s.dwin.waiters ++ [.remote s.fab.remote.length] ∧ t.dwin.w = s.dwin.w) ∧
     (s.authOn = true → s.txnFits = true →
       exec (.raReqRx p f q) s = .next (serveReq ⟨p, frSrc f, q⟩ (txnTake (txnTurn 4 (countRx p s))))))

/-! ### Message buses and access -/

/-- A frame valid on a channel that took part in its bus at its start is counted as received; when no filter record
matches it, it is counted as rejected and goes nowhere. A channel that did not take part, or cannot carry the frame,
takes nothing. A frame in which BUSBIT inverts a bit is no frame for its receiver. The frame at the head of a
channel's transmit queue is taken when nothing waits to be sent and all its entries stand there: a legal one is
pending from then on, a refused one is only counted; its entries leave the queue either way. The channel sends a
follow-up first, then its pending frame, then a reference, whose follow-up with the stamp of its start of frame is
then due; a channel that could not send at the frame's start sends nothing, and a frame that BUSBIT falsifies is an
error of the transmitter and stays to be sent. A request of the channel that waits for the end of the frame in
progress takes effect with such a frame. -/
def Obligations.BusFrames : Prop :=
  (∀ (k : Fin 6) (f : CanFrame) (age : Nat) (s : State), s.powered = true → (s.mbus.ch[k]).waits = false →
     let open_ := s.configured k.val && (s.atStart k age).up && s.carries k f
     (open_ = false → exec (.canRxFrame k f age) s = .next s) ∧
     (open_ = true → s.bitHit k = true → bitInside false (field s.pert.par[4] 8 13) f = true →
       ∃ t, exec (.canRxFrame k f age) s = .next t ∧ (t.mbus.ch[k]).rxframes = (s.mbus.ch[k]).rxframes ∧
         t.pert.frames = s.pert.frames - 1 ∧ t.pert.hits = satAdd s.pert.hits 1 ∧
         t.que = s.que ∧ t.hurdle = s.hurdle ∧ t.mem = s.mem) ∧
     (open_ = true → (s.bitHit k = false ∨ bitInside false (field s.pert.par[4] 8 13) f = false) →
       ∃ t, exec (.canRxFrame k f age) s = .next t ∧
         (t.mbus.ch[k]).rxframes = satInc (s.mbus.ch[k]).rxframes ∧
         (∀ j : Fin 6, j ≠ k → t.mbus.ch[j] = s.mbus.ch[j]) ∧
         ((s.cfg.filters.zipIdx.find? fun x => flMatch k.val f x.1) = none →
           (t.mbus.ch[k]).reject = satInc (s.mbus.ch[k]).reject ∧ t.que = s.que ∧ t.hurdle = s.hurdle ∧ t.mem = s.mem))) ∧
  (∀ (k : Fin 6) (f : CanFrame) (age delay : Nat) (tx special : Bool) (code : Fin 7) (c : Instr) (s : State),
     s.powered = true → c = .canRxFrame k f age ∨ c = .txFrame k age delay ∨ c = .canBusError k tx special code age →
     (s.mbus.ch[k]).waits = true →
     ∃ t, exec c s = .next t ∧ (t.mbus.ch[k]).waits = false ∧
       ((s.mbus.ch[k]).initWait = true → (t.mbus.ch[k]).busoff = false → (t.mbus.ch[k]).inInit = true) ∧
       (∀ v, (s.mbus.ch[k]).trxWait = some v → (t.mbus.ch[k]).trx = v)) ∧
  (∀ (k : Fin 6) (q : Fin 128) (c : QueueCfg) (s : State), s.powered = true → (s.mbus.ch[k]).waits = false →
     chTxq (s.chRec k.val) = q.val → s.que.bind[q] = some c → c.consumer = 9 → s.canSend k = true →
     (s.mbus.ch[k]).pend = none → (s.mbus.ch[k]).refTx = .none →
     s.mem.flips = [] → s.mem.marked = [] → s.mem.wrote = [] →
     let e := s.qPeek c q.val 0
     let n := entryCount (dataLen ((leAt e 4 1).testBit 4) ((leAt e 0 4).testBit 30) (leAt e 4 1 % 16))
     n ≤ (s.que.q[q]).count →
     ∃ t, exec (.canTxTake k) s = .next t ∧ (t.que.q[q]).count = (s.que.q[q]).count - n ∧
       (txBad s k e = true → (t.mbus.ch[k]).pend = none ∧ (t.mbus.ch[k]).txref = satInc (s.mbus.ch[k]).txref) ∧
       (txBad s k e = false → (t.mbus.ch[k]).pend =
         some ⟨entryFrame ((List.range n).map fun j => s.qPeek c q.val j), (leAt e 4 1).testBit 7⟩)) ∧
  (∀ (k : Fin 6) (age delay : Nat) (s : State), s.powered = true → (s.mbus.ch[k]).waits = false →
     let open_ := s.configured k.val && (s.atStart k age).sends
     let hit := s.bitHit k && (s.nextTx k (s.atStart k age)).any (bitInside true (field s.pert.par[4] 8 13))
     (open_ = false → exec (.txFrame k age delay) s = .next s) ∧
     (open_ = true → hit = true →
       ∃ t, exec (.txFrame k age delay) s = .next t ∧ t.pert.frames = s.pert.frames - 1 ∧
         t.pert.hits = satAdd s.pert.hits 1 ∧ (t.mbus.ch[k]).pend = (s.mbus.ch[k]).pend ∧
         (t.mbus.ch[k]).txframes = (s.mbus.ch[k]).txframes ∧ (t.mbus.ch[k]).txerr = (s.mbus.ch[k]).txerr + 8) ∧
     (∀ st, open_ = true → hit = false → (s.mbus.ch[k]).refTx = .follow st →
       ∃ t, exec (.txFrame k age delay) s = .next t ∧
         (t.mbus.ch[k]).refTx = (if (s.mbus.ch[k]).refDue then .ref else .none) ∧
         (t.mbus.ch[k]).pend = (s.mbus.ch[k]).pend ∧ (t.mbus.ch[k]).txframes = satInc (s.mbus.ch[k]).txframes) ∧
     (∀ p, open_ = true → hit = false → ((s.mbus.ch[k]).refTx = .none ∨ (s.mbus.ch[k]).refTx = .ref) →
       (s.mbus.ch[k]).pend = some p →
       ∃ t, exec (.txFrame k age delay) s = .next t ∧ (t.mbus.ch[k]).pend = none ∧
         (t.mbus.ch[k]).refTx = (s.mbus.ch[k]).refTx ∧ (t.mbus.ch[k]).txframes = satInc (s.mbus.ch[k]).txframes) ∧
     (open_ = true → hit = false → (s.mbus.ch[k]).refTx = .ref → (s.mbus.ch[k]).pend = none →
       ∃ t, exec (.txFrame k age delay) s = .next t ∧
         (t.mbus.ch[k]).refTx = .follow (stampAgo 2 age s) ∧
         (t.mbus.ch[k]).txframes = satInc (s.mbus.ch[k]).txframes) ∧
     ((s.mbus.ch[k]).refTx = .none → (s.mbus.ch[k]).pend = none → exec (.txFrame k age delay) s = .next s))

/-- Network time over a bus: at the commit of a tick whose number is a multiple of its period every master queues one
reference, behind a follow-up that still waits; a slave without a pair for four periods is unlocked and takes TB2 out
of service; an output whose mapped commands have all run out loses source 7, with IRQ bit 4 and entry 0x9008 where
none of the output was written in the last 1,000 ticks. Errors on a bus move the counters of the one channel, which
could send when the frame began: a transmitter's error counts 8, a receiver's 1 or 8 up to 255; a transmit counter
above 255 is bus-off; the return from bus-off clears both counters. A transmitter dominant for 4 ms in NORMAL is
released, with entry 0x900D and IRQ bit 7. -/
def Obligations.BusTimersAndErrors : Prop :=
  (∀ s : State, s.powered = true →
     (∃ t, exec .refSend s = .next t ∧
       (∀ k : Fin 6, chRole (s.chRec k.val) = 2 → s.tick.count.toNat % s.refTicks k.val = 0 →
         (s.tick.phase = .measure ∨ s.tick.phase = .guard) → (s.mbus.ch[k]).refAt ≠ some s.tick.executed →
         (t.mbus.ch[k]).refAt = some s.tick.executed ∧
         (∀ st, (s.mbus.ch[k]).refTx = .follow st → (t.mbus.ch[k]).refTx = .follow st ∧ (t.mbus.ch[k]).refDue = true) ∧
         ((∀ st, (s.mbus.ch[k]).refTx ≠ .follow st) → (t.mbus.ch[k]).refTx = .ref)) ∧
       (∀ k : Fin 6, chRole (s.chRec k.val) ≠ 2 → t.mbus.ch[k] = s.mbus.ch[k]) ∧ t = { s with mbus := t.mbus }) ∧
     (∀ (k : Fin 6) (at_ : Nat), (s.mbus.ch[k]).pairAt = some at_ → chRole (s.chRec k.val) = 1 →
       s.mbus.tb2lock = true → 4 * s.refTicks k.val < s.tick.executed - at_ →
       ∃ t, exec .refLost s = .next t ∧ t.mbus.tb2lock = false ∧ (t.time.tb[2]).oos = true ∧
         (∀ n : Fin 4, n ≠ 2 → t.time.tb[n] = s.time.tb[n]) ∧ bit (t.head .mbus).irq 5 = true) ∧
     (∀ o : Fin 256, s.hurdle.mapLive[o] = true → s.mapExpired o.val = true →
       ∃ t, exec (.mapTimeout o) s = .next t ∧ t.hurdle.mapLive[o] = false ∧
         ((∀ x ∈ s.reports, x.1 ≠ 0x700000 + o.val) → bit (t.head .mbus).irq 4 = true ∧
           (s.canLog = true → t.hasEntry 0x9008 3 (locCtl (s.lastMap o.val).2)
             (pack64 [(0, o.val), (16, (s.lastMap o.val).1)]) = true)) ∧
         ∀ j : Fin 256, j ≠ o → t.hurdle.mapLive[j] = s.hurdle.mapLive[j])) ∧
  (∀ (k : Fin 6) (s : State), s.powered = true →
     (∀ (tx special : Bool) (code : Fin 7) (age : Nat), (s.mbus.ch[k]).waits = false →
       ((s.configured k.val && (s.atStart k age).sends) = true → code ≠ 0 →
         ∃ t, exec (.canBusError k tx special code age) s = .next t ∧ (t.mbus.ch[k]).lec = code.val ∧
           (t.mbus.ch[k]).txerr = (if tx && !special then (s.mbus.ch[k]).txerr + 8 else (s.mbus.ch[k]).txerr) ∧
           (t.mbus.ch[k]).rxerr =
             (if tx then (s.mbus.ch[k]).rxerr else min 255 ((s.mbus.ch[k]).rxerr + if special then 8 else 1)) ∧
           (255 < (t.mbus.ch[k]).txerr → (t.mbus.ch[k]).busoff = true ∧ t.canSend k = false) ∧
           ∀ j : Fin 6, j ≠ k → t.mbus.ch[j] = s.mbus.ch[j]) ∧
       ((s.configured k.val && (s.atStart k age).sends) = false ∨ code = 0 →
         exec (.canBusError k tx special code age) s = .next s)) ∧
     ((s.mbus.ch[k]).busoff = true →
       ∃ t, exec (.busOn k) s = .next t ∧ (t.mbus.ch[k]).busoff = false ∧ (t.mbus.ch[k]).txerr = 0 ∧
         (t.mbus.ch[k]).rxerr = 0 ∧ (t.mbus.ch[k]).inInit = (s.mbus.ch[k]).initReq) ∧
     ((s.mbus.ch[k]).trx = 0 → exec (.txdTimeout k) s =
       .next (setIrq .mbus 7 (logEv 0x900D 4 (locTrx k.val) 0 (modCh k (fun c => { c with txdto := true }) s)))) ∧
     ((s.mbus.ch[k]).trx ≠ 0 → exec (.txdTimeout k) s = .next s))

/-- The shepherd core controls the channels: INIT stops the controller, at once when it takes no part in its bus and
otherwise at the end of the frame in progress, for which the request waits, and its clearing starts a configured one
with both error counters 0, CLRCNT clears the counters, REQ sets the transceiver of a configured channel, at once or
at the end of the frame in progress, and takes only STANDBY for another (that no command reports an idle bus is log
entry 70's reading). Every other writer only sets MBUS_ERR.PRIV, and RSVD_WR where the value is reserved. Wake-up over
a bus: a pattern latches the wake of a channel in STANDBY or SLEEP, or arms the address decoder of a trunk in that
mode; a train at an armed decoder disarms it, and one with a matching address latches the decode. In REST this is all
that happens to them, and nothing outside the bus block changes. -/
def Obligations.BusControlAndWake : Prop :=
  (∀ (rq : Requester) (k : Fin 6) (v : Fin 4) (b : Bool) (s : State), s.powered = true →
     (rq.isShepherd = false →
       exec (.chInit rq k b) s = .next (setErr .mbus 1 s) ∧ exec (.mbusClrcnt rq k) s = .next (setErr .mbus 1 s) ∧
       exec (.trxReq rq k v) s = .next (setErr .mbus 1 (if !s.configured k.val ∧ v ≠ 2 then
         reservedWrite rq (0x200B1000 + k.val * 0x1000 + 0xC) s else s))) ∧
     (rq.isShepherd = true →
       (∃ t, exec (.chInit rq k true) s = .next t ∧ (t.mbus.ch[k]).initReq = true ∧
         ((s.mbus.ch[k]).busoff = false → (t.mbus.ch[k]).inInit = true ∨ (t.mbus.ch[k]).initWait = true) ∧
         ((s.mbus.ch[k]).busoff = false → (s.mbus.ch[k]).up = false → (t.mbus.ch[k]).inInit = true) ∧
         ∀ j : Fin 6, j ≠ k → t.mbus.ch[j] = s.mbus.ch[j]) ∧
       (s.configured k.val = true → (s.mbus.ch[k]).inInit = true → (s.mbus.ch[k]).initReq = true →
         ∃ t, exec (.chInit rq k false) s = .next t ∧
           t.mbus.ch[k] = { (s.mbus.ch[k]).mark s.tb0 with initReq := false, inInit := false, txerr := 0, rxerr := 0 } ∧
           ∀ j : Fin 6, j ≠ k → t.mbus.ch[j] = s.mbus.ch[j]) ∧
       exec (.mbusClrcnt rq k) s = .next (modCh k (fun c =>
         { c with rxframes := 0, txframes := 0, rxdrop := 0, txref := 0, reject := 0, mapshort := 0, pairs := 0 }) s) ∧
       ((s.configured k.val = true ∨ v = 2) →
         ∃ t, exec (.trxReq rq k v) s = .next t ∧ (t.mbus.ch[k]).req = v ∧
           ((t.mbus.ch[k]).trx = v ∨ (t.mbus.ch[k]).trxWait = some v) ∧
           ((s.mbus.ch[k]).up = false → (t.mbus.ch[k]).trx = v) ∧
           ∀ j : Fin 6, j ≠ k → t.mbus.ch[j] = s.mbus.ch[j]) ∧
       (s.configured k.val = false → v ≠ 2 →
         exec (.trxReq rq k v) s = .next (reservedWrite rq (0x200B1000 + k.val * 0x1000 + 0xC) s)))) ∧
  (∀ (k : Fin 6) (s : State), s.pwr.mode ≠ .off →
     (2 ≤ (s.mbus.ch[k]).trx.val → (s.pwr.mode = .rest → 4 ≤ k.val) → (s.mbus.ch[k]).waits = false →
       ∃ t, exec (.wakePattern k) s = .next t ∧
         ((chWakeMode (s.chRec k.val) = true ∧ 4 ≤ k.val) → (t.mbus.ch[k]).armed = true ∧
           (t.mbus.ch[k]).wake = (s.mbus.ch[k]).wake) ∧
         (¬(chWakeMode (s.chRec k.val) = true ∧ 4 ≤ k.val) → (t.mbus.ch[k]).wake = true) ∧
         (s.pwr.mode = .rest → t = { s with mbus := t.mbus, heads := t.heads } ∧
           ∀ b : Block, (t.head b).irq = (s.head b).irq ∧ (t.head b).err = (s.head b).err ∧
             (t.head b).en = (s.head b).en)) ∧
     ((s.mbus.ch[k]).trx.val < 2 → (s.mbus.ch[k]).waits = false → exec (.wakePattern k) s = .next s) ∧
     (∀ (ct : Fin 2) (tr : Train) (a : Byte), (s.mbus.ch[trunk ct]).armed = true →
       trainAddr tr (s.freeVal.getLsbD 0) = some a →
       ∃ t, exec (.wakeAddress ct tr) s = .next t ∧ (t.mbus.ch[trunk ct]).armed = false ∧
         (s.addrMatch a ≠ 0 → (t.mbus.ch[trunk ct]).decoded = true ∧ t.mbus.statCause = s.addrMatch a ∧
           t.mbus.statAddr = a) ∧
         (s.addrMatch a = 0 → (t.mbus.ch[trunk ct]).decoded = (s.mbus.ch[trunk ct]).decoded)) ∧
     (∀ ct : Fin 2, exec (.trainDiscarded ct) s = .next (modCh (trunk ct) (fun c => { c with armed := false }) s)))

/-- The handle of a driver reader: a rise above the threshold at two scans is a touch and asks for a poll, a touch
that lasts asks for up to 8 in all, 250 ms apart, and a rise below half the threshold at two scans ends it. Polls are
asked for by keeper level and every 30 s by the timer of a depot reader, start at the commit mark with access enabled
and not locked out, and end 43 ms after that mark, a learn poll 5.5 ms after; a locked-out module starts none. A
candidate lapses at its deadline with entry 0xB006 and the stored counter stands; the lock-out ends at its time with
entry 0xB007; a session ends on its door edge, its timeout or, with code 3, during learning or outside RUN, and only
then, with entry 0xB008. Enrolment: keeper level starts learning on an enabled, unlocked module, which erases all
token slots; a learn poll that is due starts at the commit mark of an enabled module; END stops it, with entry 0xB00A.
Other writers only set ACC_ERR.PRIV, and RSVD_WR where the value is reserved. In REST the periodic bursts stop at
their day count, and the end of a lock-out waits for the wake. -/
def Obligations.ReadersAndTimes : Prop :=
  (∀ (r : Fin 2) (a b : Half) (s : State), s.powered = true →
     let thr := rdThr (s.rdRec r)
     (rdClass (s.rdRec r) = 1 → (thr : Int) < s16 a → (thr : Int) < s16 b → (s.acc.rd[r]).touch = false →
       ∃ t, exec (.handleTouch r a b) s = .next t ∧ (t.acc.rd[r]).touch = true ∧ (t.acc.rd[r]).touchPolls = 1 ∧
         (t.acc.rd[r]).touchAt = s.tb0 ∧ t = { s with acc := t.acc } ∧
         (s.accEnabled = true → s.accLocked = false → (t.acc.rd[r]).want = true) ∧
         (s.accLocked = true → (t.acc.rd[r]).want = (s.acc.rd[r]).want)) ∧
     (¬(rdClass (s.rdRec r) = 1 ∧ (thr : Int) < s16 a ∧ (thr : Int) < s16 b) ∨ (s.acc.rd[r]).touch = true →
       exec (.handleTouch r a b) s = .next s) ∧
     ((s.acc.rd[r]).touch = true → (s.acc.rd[r]).touchPolls < 8 →
       ∃ t, exec (.touchRepeat r) s = .next t ∧ (t.acc.rd[r]).touchPolls = (s.acc.rd[r]).touchPolls + 1 ∧
         (t.acc.rd[r]).touch = true ∧ t = { s with acc := t.acc, time := t.time } ∧
         (s.acc.rd[r]).touchAt + 250000000 * (s.acc.rd[r]).touchPolls ≤ t.tb0 ∧
         (s.accEnabled = true → s.accLocked = false → rdClass (s.rdRec r) ≠ 0 → (t.acc.rd[r]).want = true)) ∧
     ((s.acc.rd[r]).touch = true → 8 ≤ (s.acc.rd[r]).touchPolls → exec (.touchRepeat r) s = .next s) ∧
     ((s.acc.rd[r]).touch = true → 2 * s16 a < thr → 2 * s16 b < thr →
       ∃ t, exec (.touchRelease r a b) s = .next t ∧
         t.acc.rd[r] = { s.acc.rd[r] with touch := false, touchPolls := 0 } ∧ t = { s with acc := t.acc }) ∧
     (¬(2 * s16 a < thr ∧ 2 * s16 b < thr) → exec (.touchRelease r a b) s = .next s)) ∧
  (∀ (rq : Requester) (r : Fin 2) (s : State), s.powered = true →
     (rq ≠ .keeper → exec (.rdPoll rq r) s = .next (setErr .acc 1 s)) ∧
     (s.accEnabled = true → s.accLocked = false → rdClass (s.rdRec r) ≠ 0 →
       exec (.rdPoll .keeper r) s = .next (modRd r (fun x => { x with want := true }) s)) ∧
     (s.accEnabled = true → s.accLocked = false → rdClass (s.rdRec r) = 2 →
       ∃ t, exec (.depotPoll r) s = .next t ∧ (t.acc.rd[r]).want = true ∧ (s.acc.rd[r]).depotAt ≤ t.tb0 ∧
         (t.acc.rd[r]).depotAt = t.tb0 + 30000000000) ∧
     ((s.acc.rd[r]).armed = true → s.tick.phase = .measure → s.accEnabled = true → s.accLocked = false →
       s.acc.poll = none → s.pollFirst r = true → s.learnsOther r = false →
       ∃ t, exec (.pollStart r) s = .next t ∧
         t.acc.poll = some ⟨r, s.commitTb0, false, 0, 0, false, (s.acc.rd[r]).collRun⟩ ∧
         (t.acc.rd[r]).want = false ∧ (t.acc.rd[r]).armed = false ∧
         (t.acc.rd[r]).polls = satInc (s.acc.rd[r]).polls ∧ t = { s with acc := t.acc, heads := t.heads }) ∧
     (s.accLocked = true ∨ (s.acc.rd[r]).armed = false → exec (.pollStart r) s = .next s) ∧
     (∀ p, s.acc.poll = some p → p.coll = 0 ∨ p.learn = true →
       ∃ t, exec .pollEnd s = .next t ∧ t.acc.poll = none ∧ t.acc.ended = some p ∧ t.acc.tok = s.acc.tok ∧
         p.start + (if p.learn then 5500000 else 43000000) ≤ t.tb0 ∧
         (p.learn = false → (t.acc.rd[p.reader]).collRun = 0) ∧ t = { s with acc := t.acc, time := t.time })) ∧
  (∀ s : State,
     (∀ (k : Fin 16) (c : Word) (at_ : Nat), s.powered = true → (s.acc.tok[k]).cand = some (c, at_) →
       ∃ t, exec (.resyncLapsed k) s = .next t ∧ (t.acc.tok[k]).cand = none ∧ at_ ≤ t.tb0 ∧
         (t.acc.tok[k]).cnt = (s.acc.tok[k]).cnt ∧ (∀ j : Fin 16, j ≠ k → t.acc.tok[j] = s.acc.tok[j]) ∧
         (s.canLog = true → t.hasEntry 0xB006 3 locAccess (pack64 [(0, k.val)]) = true)) ∧
     (∀ at_, s.acc.lockUntil = some at_ → s.powered = true →
       ∃ t, exec .lockoutEnd s = .next t ∧ t.acc.lockUntil = none ∧ at_ ≤ t.tb0 ∧ bit (t.head .acc).irq 2 = true ∧
         t.acc.tok = s.acc.tok ∧ t.acc.rd = s.acc.rd ∧
         (s.canLog = true → t.hasEntry 0xB007 7 locAccess (pack64 [(8, s.acc.lockLen)]) = true)) ∧
     (∀ at_, s.acc.lockUntil = some at_ → s.pwr.mode = .rest →
       ∃ t, exec .lockoutEnd s = .next t ∧ t = { s with pwr := { s.pwr with restCycles := t.pwr.restCycles } } ∧
         s.pwr.restCycles ≤ t.pwr.restCycles) ∧
     (∀ (r : Fin 2) (c : Fin 4) (n : Nat), s.powered = true → (s.acc.rd[r]).sess = some n →
       let ends := match c.val with
         | 1 => s.doorEdge r
         | 2 => s.sessDue r
         | 3 => s.acc.learn.isSome || s.pwr.mode != .run
         | _ => false
       (ends = true → ∃ t, exec (.sessionEnd r c) s = .next t ∧ (t.acc.rd[r]).sess = none ∧
         (t.acc.rd[r]).sessCause = c.val ∧ bit (t.head .acc).irq 3 = true ∧ t.acc.tok = s.acc.tok ∧
         (∀ q : Fin 2, q ≠ r → t.acc.rd[q] = s.acc.rd[q]) ∧
         (s.canLog = true → t.hasEntry 0xB008 2 (locReader r.val) (pack64 [(0, c.val)]) = true)) ∧
       (ends = false → exec (.sessionEnd r c) s = .next s))) ∧
  (∀ s : State,
     (∀ (rq : Requester) (v : Word), s.powered = true → rq ≠ .keeper →
       let bad := bit v 3 || decide (64 ≤ v.toNat ∨ field v 4 2 = 0)
       exec (.learnStart rq v) s = .next (setErr .acc 1 (if bad then reservedWrite rq 0x200D0020 s else s))) ∧
     (∀ v : Word, s.powered = true → v.toNat < 64 → bit v 3 = false → field v 4 2 ≠ 0 →
       (s.accLocked = true → exec (.learnStart .keeper v) s = .next (setErr .acc 2 s)) ∧
       (s.accLocked = false → s.acc.learn.isSome = true → exec (.learnStart .keeper v) s = .next (setErr .acc 3 s)) ∧
       (s.accEnabled = true → s.accLocked = false → s.acc.learn = none →
         ∃ t l, exec (.learnStart .keeper v) s = .next t ∧ t.acc.learn = some l ∧ l.mask = field v 4 2 ∧
           l.reader = (if bit v 2 then 1 else 0) ∧ l.since = s.tb0 ∧ l.pollAt = s.tb0 + 500000000 ∧
           t.acc.tok = s.acc.tok.map (fun x => { TokenSlot.empty with uses := x.uses, seq := x.seq }) ∧
           t.acc.write = none ∧ t.acc.poll = none ∧ ∀ r : Fin 2, (t.acc.rd[r]).sess = none)) ∧
     (∀ l, s.powered = true → s.acc.learn = some l → s.tb0 < l.since + 120000000000 →
       (l.armed = true → s.tick.phase = .measure → s.accEnabled = true → s.acc.poll = none →
         rdClass (s.rdRec l.reader) ≠ 0 →
         ∃ t m, exec .learnPoll s = .next t ∧ t.acc.learn = some m ∧
           m = { l with pollAt := m.pollAt, armed := false } ∧ l.pollAt < m.pollAt ∧
           (m.pollAt - l.pollAt) % 500000000 = 0 ∧
           t.acc.poll = some ⟨l.reader, s.commitTb0, true, 0, 0, false, (s.acc.rd[l.reader]).collRun⟩ ∧
           t.acc.tok = s.acc.tok ∧ (t.acc.rd[l.reader]).polls = satInc (s.acc.rd[l.reader]).polls ∧
           t = { s with acc := t.acc, heads := t.heads }) ∧
       (l.armed = false ∨ s.tick.phase ≠ .measure ∨ s.accEnabled = false ∨ rdClass (s.rdRec l.reader) = 0 →
         exec .learnPoll s = .next s)) ∧
     (∀ l, s.powered = true → s.acc.learn = some l →
       ∃ t, exec (.learnEnd 1) s = .next t ∧ t.acc = { s.acc with learn := none } ∧ bit (t.head .acc).irq 4 = true ∧
         (s.canLog = true →
           t.hasEntry 0xB00A 3 (locReader l.reader.val) (pack64 [(0, s.acc.enrolled), (5, 1)]) = true)) ∧
     (s.pwr.mode = .rest → s.accIn = true →
       ∃ t, exec .parkStop s = .next t ∧ t.acc = { s.acc with parked := true } ∧ t.time = s.time ∧
         s.pwr.restCycles ≤ t.pwr.restCycles))

/-- A record outside every reply slot of the poll in progress and of the poll that ended last is only counted as
stray; a malformed record in its slot is a collision of that slot. The first well-formed one in a slot is judged: a
token of the slot's ID whose command is 1 and whose MAC verifies begins the counter write of its slot, unless its
counter fails, with the kind that the counter rule and the slot's mask give; no record changes a stored counter before
the end of that write. The end of the write of a success stores the new counter, starts the session and writes entry
0xB001. A rolling code is never taken twice: a counter equal to the stored one, or more than 65,536 ahead, is a
failure; only one from 1 to 256 ahead, or the successor of a pending candidate, is a success. -/
def Obligations.TokensAreJudged : Prop :=
  (∀ (b : List Byte) (age : Nat) (s : State), s.powered = true → (s.accIn && !s.accKeys) = false →
     let at_ : Int := (s.tb0 : Int) - age - s.cfg.tkrLat * 10000
     (s.acc.ended.bind (fun p => p.slotAt at_) = none → s.acc.poll.bind (fun p => p.slotAt at_) = none →
       ∃ t, exec (.tokenRecord b age) s = .next t ∧
         t.acc = { s.acc with keyBad := false, stray := satInc s.acc.stray } ∧ t.time = s.time) ∧
     (∀ p k, s.acc.ended.bind (fun p => p.slotAt at_) = none → s.acc.poll = some p → p.slotAt at_ = some k →
       s.acc.write = none → p.learn = false → p.seen.getLsbD k.val = false →
       (recBad b = true ∨ recStatus b = 1 → p.coll.getLsbD k.val = false →
         ∃ t q, exec (.tokenRecord b age) s = .next t ∧ t.acc.poll = some q ∧ q.coll = setBit p.coll k.val ∧
           q.seen = setBit p.seen k.val ∧ t.acc.tok = s.acc.tok ∧ t.acc.write = none ∧
           (t.acc.rd[p.reader]).colls = satInc (s.acc.rd[p.reader]).colls) ∧
       (recBad b = false → recStatus b ≠ 1 →
         let x := s.acc.tok[k]
         let rule := cntRule x.cnt (recCnt b) none
         let kind : CntKind := if x.mask.testBit (rdClass (s.rdRec p.reader) - 1) then
           (if rule = .resync then .resync else .success) else .refused
         ∃ t, exec (.tokenRecord b age) s = .next t ∧ (∀ j : Fin 16, (t.acc.tok[j]).cnt = (s.acc.tok[j]).cnt) ∧
           (x.valid = true → recId b = x.id.toNat → recCmd b = 1 → s.macOk b = true → x.cand = none → rule ≠ .failure →
             t.acc.write = some ⟨p.reader, k, recCnt b, kind, s.tb0⟩) ∧
           (x.valid = true → recId b = x.id.toNat → recCmd b = 1 → s.macOk b = true → x.cand = none → rule = .failure →
             t.acc.write = none ∧ bit (t.head .acc).irq 1 = true) ∧
           (¬(x.valid = true ∧ recId b = x.id.toNat ∧ recCmd b = 1 ∧ s.macOk b = true) →
             t.acc.write = none ∧ bit (t.head .acc).irq 1 = true))) ∧
     (∀ w, s.acc.write = some w → w.kind = .success → s.key.waiting = none →
       ∃ t, exec .counterWriteDone s = .next t ∧ t.acc.write = none ∧ (t.acc.tok[w.slot]).cnt = w.cnt ∧
         (t.acc.tok[w.slot]).cand = none ∧ (t.acc.tok[w.slot]).seq = (s.acc.tok[w.slot]).seq + 1 ∧
         (t.acc.rd[w.reader]).sess.isSome = true ∧
         (∀ j : Fin 16, j ≠ w.slot → t.acc.tok[j] = s.acc.tok[j]) ∧ bit (t.head .acc).irq 0 = true ∧
         (s.canLog = true → t.hasEntry 0xB001 2 (locReader w.reader.val)
           (pack64 [(0, w.slot.val), (32, w.cnt.toNat)]) = true))) ∧
  (∀ (last cnt : Word) (cand : Option Word),
     (cntRule last last none = .failure) ∧
     (cand = none → 65536 < (cnt - last).toNat → cntRule last cnt cand = .failure) ∧
     (cntRule last cnt cand = .success →
       (∃ c, cand = some c ∧ cnt = c + 1) ∨ (1 ≤ (cnt - last).toNat ∧ (cnt - last).toNat ≤ 256)) ∧
     (cntRule last cnt cand = .resync → 256 < (cnt - last).toNat ∧ (cnt - last).toNat ≤ 65536) ∧
     (∀ c, cand = some c → cntRule last (c + 1) cand = .success))

/-! ### The key core -/

/-- A key command from a requester that may not write the mailbox only sets KEY_ERR bit 1, and RSVD_WR where its word
or KEY_ARG holds a reserved value, which is all that such a command does from a permitted writer; while a command runs
every other is refused with KEY_ERR bit 2 and has no other effect; while the key core serves another block a command
waits. This holds of each of the eleven commands. The commands without a slot: SHA256 digests the first bytes of
KEY_BUF, RANDOM is refused with RESULT 3 while the generator fails, ADVANCE names a next state of Table 18.3, TICKET
needs its signature, TCLEAR is refused with RESULT 2 while a source holds. A command that uses a slot begins when the
slot is live, has the command's flag, is not disabled and not withheld, and counts the use; otherwise it ends with
RESULT 2 for a withheld slot and 1 for the rest, with nothing to answer and entry 0xC003. -/
def Obligations.KeyCommands : Prop :=
  (∀ (rq : Requester) (arg : Word) (h : BitVec 5) (op : Nat) (c : Instr) (s : State), s.powered = true →
     (op, c) ∈ [(1, Instr.keyWrite rq arg), (2, .keyErase rq arg), (3, .attest rq arg), (4, .cmac rq arg),
       (5, .encrypt rq arg), (6, .decrypt rq arg), (7, .sha256 rq arg), (8, .random rq arg), (9, .advance rq arg),
       (10, .ticket rq arg), (11, .tclear rq arg h)] →
     let u := inTurn .key 0x020 rq.rank s
     (s.keyWriter rq = false →
       exec c s = .next (setErr .key 1 (if s.keyBad op arg then reservedWrite rq 0x200E0020 u else u))) ∧
     (s.keyWriter rq = true → s.keyBad op arg = true → exec c s = .next (reservedWrite rq 0x200E0020 u)) ∧
     (s.keyWriter rq = true → s.keyBad op arg = false → s.key.state = .busy → exec c s = .next (setErr .key 2 u)) ∧
     (s.takesKeyCmd rq op arg = true → s.keyServing = true →
       exec c s = .next { s.keyTurn rq with key := { s.key with
         state := .busy, code := 0, waiting := some (cmdWord op arg, if op = 11 then h else 0) } })) ∧
  (∀ (rq : Requester) (arg : Word) (s : State), s.powered = true → s.keyServing = false →
     let u := s.keyTurn rq
     (s.takesKeyCmd rq 7 arg = true →
       ∃ t j, exec (.sha256 rq arg) s = .next t ∧ t.key.state = .busy ∧ t.key.job = some j ∧
         j.out = sha256 (s.bufBytes (s.key.arg.toNat % 2048)) ∧ t = { u with key := t.key }) ∧
     (s.takesKeyCmd rq 8 arg = true → s.key.trngFailed = false →
       ∃ t j, exec (.random rq arg) s = .next t ∧ t.key.state = .busy ∧ t.key.job = some j ∧
         j.out.length = 4 * (s.key.arg.toNat % 512)) ∧
     (s.takesKeyCmd rq 8 arg = true → s.key.trngFailed = true →
       ∃ t, exec (.random rq arg) s = .next t ∧ t.key.state = .done ∧ t.key.code = 3 ∧ t.key.buf = s.key.buf) ∧
     (s.takesKeyCmd rq 9 arg = true → s.key.arg.toNat % 16 ∈ nextStates s.key.lcs →
       (s.key.lcs ≠ 4 ∨ s.key.provision = true ∨
         s.signedBy (s.endorseMsg 0 0 [BitVec.ofNat 8 (s.key.arg.toNat % 16)]) 64 = true) →
       ∃ t j, exec (.advance rq arg) s = .next t ∧ t.key.state = .busy ∧ t.key.job = some j ∧ j.op = 9 ∧
         t.key.lcs = s.key.lcs ∧ t = { u with key := t.key }) ∧
     (s.takesKeyCmd rq 9 arg = true → s.key.arg.toNat % 16 ∉ nextStates s.key.lcs →
       ∃ t, exec (.advance rq arg) s = .next t ∧ t.key.state = .done ∧ t.key.code = 1 ∧ t.key.fuse = s.key.fuse ∧
         bit (t.head .key).err 5 = true) ∧
     (s.takesKeyCmd rq 10 arg = true → s.key.trngFailed = false →
       ¬(bit s.key.arg 0 = true ∧ s.key.lcs = 4 ∧ unsafeMask s.pert.mask = true) →
       (s.signedBy (s.ticketMsg (bit s.key.arg 0)) 64 = true →
         ∃ t j, exec (.ticket rq arg) s = .next t ∧ t.key.state = .busy ∧ t.key.job = some j ∧ j.op = 10 ∧
           t.key.debug = s.key.debug ∧ t = { u with key := t.key }) ∧
       (s.signedBy (s.ticketMsg (bit s.key.arg 0)) 64 = false →
         ∃ t, exec (.ticket rq arg) s = .next t ∧ t.key.state = .done ∧ t.key.code = 1 ∧ t.key.debug = s.key.debug ∧
           t.pert = s.pert)) ∧
     (s.takesKeyCmd rq 11 arg = true →
       (∃ t j, exec (.tclear rq arg 0) s = .next t ∧ t.key.state = .busy ∧ t.key.job = some j ∧ j.op = 11 ∧
         t.key.tamper = s.key.tamper) ∧
       ∀ h : BitVec 5, h ≠ 0 →
         ∃ t, exec (.tclear rq arg h) s = .next t ∧ t.key.state = .done ∧ t.key.code = 2 ∧
           t.key.tamper = s.key.tamper)) ∧
  (∀ (rq : Requester) (arg : Word) (s : State), s.powered = true → s.keyServing = false →
     let k := field arg 8 6
     let used := fun (op flag : Nat) (c : Instr) => s.takesKeyCmd rq op arg = true →
       (s.slotReason k flag = 0 →
         ∃ t j, exec c s = .next t ∧ t.key.state = .busy ∧ t.key.job = some j ∧ j.op = op ∧ j.slot = k ∧
           t.key.slot = (useSlot k s).key.slot ∧ t.key.buf = s.key.buf ∧
           t = { useSlot k (s.keyTurn rq) with key := t.key }) ∧
       (s.slotReason k flag ≠ 0 →
         ∃ t, exec c s = .next t ∧ t.key.state = .done ∧ t.key.job = none ∧ t.key.slot = s.key.slot ∧
           t.key.buf = s.key.buf ∧ t.key.code = (if s.slotReason k flag = 2 then 2 else 1) ∧
           bit (t.head .key).irq 0 = true ∧
           (s.canLog = true → t.hasEntry 0xC003 7 locKeyCore
             (pack64 [(0, k), (8, op), (16, s.slotReason k flag)]) = true))
     used 3 4 (.attest rq arg) ∧ used 4 16 (.cmac rq arg) ∧ used 5 16 (.encrypt rq arg) ∧ used 6 16 (.decrypt rq arg))

/-- WRITE takes the key bits of KEY_DATA and clears them, ERASE needs none; where an endorsement is needed and not
given, or a WRITE names no flag or several, the command ends with RESULT 1 and no slot changes. A key command that
runs to its end is DONE with RESULT 0 and IRQ bit 0; a WRITE has then stored its key in both copies under the life
cycle state and raised the slot's sequence, an ERASE has emptied the slot, and no other slot has changed. In RUN a
tamper source latches, its keys are withheld, and the command in progress is aborted; in REST a source that is checked
there is only latched and recorded with its instant, and the clock monitor has no effect. A change of the random
generator's health is kept and reported once. -/
def Obligations.KeyStore : Prop :=
  (∀ (rq : Requester) (arg : Word) (s : State), s.powered = true → s.keyServing = false →
     let k := field arg 8 6
     let flag := field arg 16 5
     (s.takesKeyCmd rq 1 arg = true → oneFlag flag = true → s.needsEndorse k flag = false →
       ∃ t j, exec (.keyWrite rq arg) s = .next t ∧ t.key.state = .busy ∧ t.key.job = some j ∧ j.op = 1 ∧ j.slot = k ∧
         j.flag = flag ∧ j.data = s.keyBits ∧ t.key.data = Vector.replicate 8 0 ∧ t.key.slot = s.key.slot ∧
         t = { s.keyTurn rq with key := t.key }) ∧
     (s.takesKeyCmd rq 1 arg = true → oneFlag flag = false →
       ∃ t, exec (.keyWrite rq arg) s = .next t ∧ t.key.state = .done ∧ t.key.code = 1 ∧ t.key.job = none ∧
         t.key.slot = s.key.slot ∧ t.key.data = Vector.replicate 8 0 ∧ bit (t.head .key).err 3 = true) ∧
     (s.takesKeyCmd rq 2 arg = true → s.needsEndorse k 0 = false →
       ∃ t j, exec (.keyErase rq arg) s = .next t ∧ t.key.state = .busy ∧ t.key.job = some j ∧ j.op = 2 ∧ j.slot = k ∧
         t.key.slot = s.key.slot ∧ t = { s.keyTurn rq with key := t.key }) ∧
     (s.takesKeyCmd rq 2 arg = true → s.needsEndorse k 0 = true →
       s.signedBy (s.endorseMsg k 0 (leBytes 32 0)) k = false →
       ∃ t, exec (.keyErase rq arg) s = .next t ∧ t.key.state = .done ∧ t.key.code = 1 ∧ t.key.slot = s.key.slot)) ∧
  (∀ (j : KeyJob) (s : State), s.powered = true → s.key.job = some j → s.key.waiting = none →
     ∃ t, exec .keyCmdDone s = .next t ∧ t.key.state = .done ∧ t.key.code = 0 ∧ t.key.job = none ∧
       bit (t.head .key).irq 0 = true ∧
       (j.op = 1 → j.slot < 64 → (t.slot j.slot).valid = true ∧ (t.slot j.slot).key = j.data ∧
         (t.slot j.slot).flag = j.flag ∧ (t.slot j.slot).root = s.key.lcs ∧
         (t.slot j.slot).seq = (s.slot j.slot).seq + 1 ∧ (t.slot j.slot).a = (t.slot j.slot).b) ∧
       (j.op = 2 → j.slot < 64 → (t.slot j.slot).valid = false ∧ (t.slot j.slot).key = 0 ∧
         (t.slot j.slot).seq = (s.slot j.slot).seq + 1) ∧
       (∀ k, (j.op = 1 ∨ j.op = 2 → k ≠ j.slot) → t.slot k = s.slot k) ∧
       (j.op = 11 → t.key.tamper = 0) ∧ t.hsw = s.hsw ∧ t.mem = s.mem) ∧
  (∀ s : State,
     (∀ (src : BitVec 5) (el : Nat), src ≠ 0 → s.pwr.mode = .run →
       ∃ t, exec (.tamper src el) s = .next t ∧ t.key.tamper = s.key.tamper ||| src ∧ t.key.withheld = true ∧
         t.key.job = none ∧ t.acc.poll = none ∧ (∀ r : Fin 2, (t.acc.rd[r]).sess = none) ∧
         bit (t.head .key).irq 1 = true ∧
         (s.canLog = true → t.hasEntry 0xC005 7 (locTile 3 7) (pack64 [(0, (s.key.tamper ||| src).toNat)]) = true)) ∧
     (∀ (src : BitVec 5) (el : Nat), s.pwr.mode = .rest →
       (src &&& 0x17 ≠ 0 →
         ∃ t, exec (.tamper src el) s = .next t ∧ t.key.tamper = s.key.tamper ||| (src &&& 0x17) ∧ t.key.withheld = true ∧
           t.pwr.restTampers = s.pwr.restTampers ++ [(BitVec.ofNat 64 s.tb0Rest, s.key.tamper ||| (src &&& 0x17))] ∧
           t.tally = s.tally ∧ t.heads = s.heads ∧ t.key.slot = s.key.slot) ∧
       (src &&& 0x17 = 0 → exec (.tamper src el) s = .next s)) ∧
     (∀ f : Bool, s.powered = true → s.key.trngFailed ≠ f →
       exec (.trngFail f) s = .next (logEv 0xC00C 6 locKeyCore (pack64 [(0, b01 f)])
         (modKey (fun b => { b with trngFailed := f }) s))) ∧
     (s.powered = true → exec (.trngFail s.key.trngFailed) s = .next s))

/-! ### Power -/

/-- REST and OFF requests: only keeper level makes them; one made with no request in progress, immediate or at a tick
whose envelope phase has not opened, is in progress from then on; another is refused with REFUSED and IRQ bit 0.
Operating points: keeper level asks for one no lower than the configuration's minimum; the change is in progress
until the point in force is the one asked for, and then writes entry 0xD005. -/
def Obligations.PowerRequests : Prop :=
  (∀ (rq : Requester) (sched : Bool) (s : State), s.powered = true →
     (rq ≠ .keeper →
       exec (.restReq rq sched) s = .next (setErr .pwr 1 s) ∧ exec (.offReq rq sched) s = .next (setErr .pwr 1 s)) ∧
     (s.pwr.req = .none → (sched = true → s.envOpened s.pwr.at_.toNat = false) →
       exec (.restReq .keeper sched) s = .next { s with pwr := { s.pwr with
         req := .rest (if sched then some s.pwr.at_ else none) false false, entryTick := s.intakeTick } } ∧
       exec (.offReq .keeper sched) s = .next { s with pwr := { s.pwr with
         req := .off (if sched then some s.pwr.at_ else none), entryTick := s.intakeTick } }) ∧
     ((s.pwr.req ≠ .none ∨ (sched = true ∧ s.envOpened s.pwr.at_.toNat = true)) →
       ∃ t u, exec (.restReq .keeper sched) s = .next t ∧ exec (.offReq .keeper sched) s = .next u ∧
         t.pwr = { s.pwr with refused := true } ∧ u.pwr = t.pwr ∧ bit (t.head .pwr).irq 0 = true ∧
         bit (u.head .pwr).irq 0 = true ∧
         (s.canLog = true →
           let late := b01 (s.pwr.req == .none)
           t.hasEntry 0xD003 3 locReg (pack64 [(0, 1), (2, 0), (3, late)]) = true ∧
           u.hasEntry 0xD003 3 locReg (pack64 [(0, 2), (2, 0), (3, late)]) = true))) ∧
  (∀ (rq : Requester) (v : Fin 4) (s : State), s.powered = true →
     (rq ≠ .keeper → exec (.opReq rq v) s = .next (setErr .pwr 1 s)) ∧
     (s.pwr.req = .none → s.cfg.minOp ≤ v.val →
       exec (.opReq .keeper v) s = .next { s with pwr := { s.pwr with
         opReq := v, req := .op v, opAt := s.tb0, opOld := s.pwr.opCur } }) ∧
     (s.pwr.req = .none → v.val < s.cfg.minOp →
       ∃ t, exec (.opReq .keeper v) s = .next t ∧ t.pwr = s.pwr ∧ bit (t.head .pwr).err 2 = true ∧
         bit (t.head .pwr).irq 0 = true) ∧
     (s.pwr.req ≠ .none →
       ∃ t, exec (.opReq .keeper v) s = .next t ∧ t.pwr = { s.pwr with refused := true } ∧
         bit (t.head .pwr).irq 0 = true) ∧
     (s.pwr.req = .op s.pwr.opCur →
       ∃ t, exec .opChange s = .next t ∧ t.pwr = { s.pwr with req := .none } ∧
         (s.canLog = true →
           t.hasEntry 0xD005 1 locReg (pack64 [(0, s.pwr.opOld.val), (2, s.pwr.opCur.val)]) = true)) ∧
     (s.pwr.req = .op v → v ≠ s.pwr.opCur → exec .opChange s = .next s))

/-- A wake request cancels a REST request until its span ends; later it is pending, or in the entry window lost. A
tamper cancels until that window opens. The entry commit of a REST or OFF request turns every output off and stops the
tick; once the archive run is over the module is in REST, or in OFF, with every output still off. A module in REST
wakes when one of its wake sources fires: the sources are kept, the wake settings, the tamper latch and the
configuration are as before REST, every output is off. With no source that fires it sleeps on. During a wake:
regulators that are ready at their second try go on, others bring the module to OFF with every output off; a crystal
that does not start degrades the clock. Each happens at most once a wake. -/
def Obligations.RestIsEnteredAndLeft : Prop :=
  (∀ (sources : Half) (pins : BitVec 4) (s : State), s.pwr.req.isRest = true →
     let w := s.wakeRequests sources pins
     (s.powered = true → w = 0 ∨ s.entryWindow = true → exec (.reqCancelled sources pins) s = .next s) ∧
     (w ≠ 0 → s.entryWindow = false →
       (s.pwr.mode = .run ∧ s.cancelLate = false) ∨ ((s.pwr.mode = .run ∨ s.pwr.mode = .entry) ∧ w.getLsbD 8 = true) →
       ∃ t, exec (.reqCancelled sources pins) s = .next t ∧ t.pwr.req = .none ∧ t.pwr.cancelled = true ∧
         t.pwr.mode = .run ∧ t.pwr.pendWake = 0 ∧ bit (t.head .pwr).irq 1 = true) ∧
     (w ≠ 0 → w.getLsbD 8 = false → s.entryWindow = false →
       s.pwr.mode = .entry ∨ (s.pwr.mode = .run ∧ s.cancelLate = true) →
       exec (.reqCancelled sources pins) s =
         .next { s with pwr := { s.pwr with pendWake := s.pwr.pendWake ||| w } })) ∧
  (∀ (src : BitVec 5) (el : Nat) (s : State), s.pwr.req.isRest = true → s.pwr.mode = .entry → src ≠ 0 →
     (s.entryWindow = false →
       ∃ t, exec (.tamper src el) s = .next t ∧ t.pwr.req = .none ∧ t.pwr.cancelled = true ∧ t.pwr.mode = .run) ∧
     (s.entryWindow = true → ∃ t, exec (.tamper src el) s = .next t ∧ t.pwr.req = s.pwr.req ∧ t.pwr.mode = .entry ∧
       t.key.tamper = s.key.tamper ||| src)) ∧
  (∀ s : State,
     (s.pwr.mode = .run → s.tick.phase = .measure → s.entryDue = true →
       ∃ t, exec .restEnter s = .next t ∧ t.pwr.mode = .entry ∧ t.tick.phase = .off ∧
         t.pwr.offEntry = !s.pwr.req.isRest ∧ (∀ k : Fin 96, (t.hsw.ch[k]).gate = false) ∧
         (∀ k : Fin 16, (t.sol.ch[k]).active = false) ∧
         (∀ k : Fin 128, (t.led.pos[k]).disp = 0 ∧ (t.led.pos[k]).pulse = 0)) ∧
     (s.pwr.mode = .entry → s.tally.unarch = 0 →
       ∃ t, exec .restEntryComplete s = .next t ∧
         (s.pwr.offEntry = true → t.pwr.mode = .off ∧ t.isDark = true) ∧
         (s.pwr.offEntry = false → t.pwr.mode = .rest ∧ t.pwr.restCycles = 12 ∧ t.hsw = s.hsw ∧ t.sol = s.sol ∧
           t.led = s.led ∧ t.mem = s.mem ∧
           ∀ k : Fin 6, (t.mbus.ch[k]).trx = if 4 ≤ k.val then 3 else 2)) ∧
     (s.pwr.mode = .entry → s.tally.unarch ≠ 0 → exec .restEntryComplete s = .next s)) ∧
  (∀ (sources : Half) (pins : BitVec 4) (s : State), s.pwr.mode = .rest →
     (s.wakeCauses sources pins = 0 → exec (.wake sources pins) s = .next s) ∧
     (s.wakeCauses sources pins ≠ 0 →
       ∃ t, exec (.wake sources pins) s = .next t ∧ t.pwr.mode = .wake ∧
         t.pwr.wakeCause = s.wakeCauses sources pins ∧
         t.pwr.wakeCfg = s.pwr.wakeCfg ∧ t.pwr.opCur = s.pwr.opCur ∧ t.key.tamper = s.key.tamper ∧ t.cfg = s.cfg ∧
         t.tick.phase = .off ∧ (∀ k : Fin 96, (t.hsw.ch[k]).gate = false) ∧
         (∀ k : Fin 16, (t.sol.ch[k]).active = false))) ∧
  (∀ s : State, s.pwr.mode = .wake →
     (s.pwr.regRetry = false →
       (∃ t, exec (.regRetry true) s = .next t ∧ t.pwr = { s.pwr with regRetry := true } ∧
         exec (.regRetry true) t = .next t ∧ (s.canLog = true → t.hasEntry 0xD007 4 locReg 0 = true)) ∧
       ∃ t, exec (.regRetry false) s = .next t ∧ t.pwr.mode = .off ∧ t.pwr.aoCause = 3 ∧ t.isDark = true) ∧
     (s.pwr.degraded = false →
       ∃ t, exec .clockDegraded s = .next t ∧ t.pwr.degraded = true ∧ bit (t.head .pwr).irq 3 = true ∧
         exec .clockDegraded t = .next t ∧ (s.canLog = true → t.hasEntry 0xD006 4 locReg 0 = true)))

/-- A supply that has been low for 10 ms brings the powered module to OFF with every output off, whether the monitor's
timer or a later reading shows it; from there OffStaysDark holds until a cold start. The supply monitor marks VBL low
below its lower threshold and high again above 14.0 V within the 10 ms; between them nothing changes. Without VBL
every gate is off. In OFF the monitor notes that VBL fell. OFF is left by an enabled WAKE pin that fires, or by VBL
above 14.4 V after it fell, and by nothing else; a start from OFF, or after a module reset, brings the module to RUN
with no tick running, nothing in force and every output off; the wake settings of the OFF cell are kept. A running
module has no start. -/
def Obligations.SupplyAndStart : Prop :=
  (∀ s : State, s.pwr.vblLow = true → s.pwr.mode ≠ .off →
     ∃ t, exec .vblOff s = .next t ∧ t.pwr.mode = .off ∧ t.isDark = true ∧ t.pwr.wakeCfg = s.pwr.wakeCfg ∧
       t.pwr.aoCause = 2 ∧ (s.pwr.mode ≠ .rest → s.pwr.vblAt + 10000000 ≤ t.tb0)) ∧
  (∀ (vbl : Half) (s : State), s.powered = true →
     (vbl.toNat ≤ 1330 → s.pwr.vblLow = false →
       ∃ t, exec (.vblLow vbl) s = .next t ∧
         t.pwr = { s.pwr with vblLow := true, vblAt := s.tb0, noVbl := vbl == 0 } ∧
         bit (t.head .pwr).irq 4 = true ∧ (vbl ≠ 0 → t.hsw = s.hsw) ∧ t.sol = s.sol ∧ t.led = s.led ∧
         (vbl = 0 → s.pwr.noVbl = false → ∀ k : Fin 96, (t.hsw.ch[k]).gate = false)) ∧
     (1400 < vbl.toNat → s.pwr.vblLow = true → s.tb0 < s.pwr.vblAt + 10000000 →
       ∃ t, exec (.vblLow vbl) s = .next t ∧ t.pwr = { s.pwr with vblLow := false, noVbl := false } ∧ t.hsw = s.hsw) ∧
     (s.pwr.vblLow = true → s.pwr.vblAt + 10000000 ≤ s.tb0 →
       ∃ t, exec (.vblLow vbl) s = .next t ∧ t.pwr.mode = .off ∧ t.isDark = true ∧ t.pwr.aoCause = 2) ∧
     (1330 < vbl.toNat → s.pwr.noVbl = false →
       s.pwr.vblLow = false ∨ (vbl.toNat ≤ 1400 ∧ s.tb0 < s.pwr.vblAt + 10000000) →
       exec (.vblLow vbl) s = .next s)) ∧
  (∀ (vbl : Half) (s : State), s.pwr.mode = .off → exec (.vblLow vbl) s = .next (if vbl.toNat ≤ 1330 then
     { s with pwr := { s.pwr with vblLow := true } } else s)) ∧
  (∀ (por : Bool) (fail : Word) (pins : BitVec 4) (vbl : Half) (s : State),
     (s.pwr.mode = .off → s.leavesOff pins vbl = true →
       ∃ t, exec (.coldStart por fail pins vbl) s = .next t ∧ t.pwr.mode = .run ∧ t.pwr.starting = false ∧
         t.tick.phase = .off ∧ t.strct.inForce = false ∧ t.isDark = true ∧
         t.pwr.wakeCfg = s.pwr.wakeCfg &&& 0x7F ∧ bit t.sys.cause 0 = true) ∧
     (s.pwr.mode = .off → s.leavesOff pins vbl = false → exec (.coldStart por fail pins vbl) s = .next s) ∧
     (s.pwr.starting = true → s.pwr.mode ≠ .off →
       ∃ t, exec (.coldStart por fail pins vbl) s = .next t ∧ t.pwr.starting = false ∧
         (s.tick.phase = .off → t.tick.phase = .off)) ∧
     (s.pwr.mode ≠ .off → s.pwr.starting = false → exec (.coldStart por fail pins vbl) s = .next s))

/-- Votes of the network sleep: a member sends its vote every 64 ticks and after a change; the bellwether keeps each
position's latest vote, and one of 256 ticks or more lapses. Votes are kept nowhere else. Network sleep: the
bellwether commands it when no vote counts, for the tick LEAD ahead; a member takes the bellwether's COMMAND before
its sleep point as a REST request for that tick; one that comes later, or beside another request, is only noted, and
NS_MISSED reports it; an ABORT in time cancels the sleep. PWR_NS_CTRL is keeper level's; its reserved bits are
refused; its three bits are the module's enable, vote and key. A module that woke and has been quiet for its time
returns to REST. -/
def Obligations.NetworkSleep : Prop :=
  (∀ s : State, s.powered = true →
     (s.fab.state = .member → s.pwr.nsEnable = true → s.pwr.voteAt + 64 ≤ s.tick.executed →
       ∃ t, exec .nsVoteTx s = .next t ∧ t.pwr = { s.pwr with voteAt := s.tick.executed, voteDue := none }) ∧
     (s.fab.state ≠ .member → exec .nsVoteTx s = .next s) ∧
     (∀ p f, s.takesFrame 0x0C f = true → sleepOk 1 (frPayload f) = true → frSrc f ≤ 64 →
       ∃ t, exec (.nsVoteRx p f) s = .next t ∧
         (s.bellwether = true →
           getNat t.pwr.votes (frSrc f) none = some (leAt (frPayload f) 1 1 == 1, s.tick.executed) ∧
           ∀ k : Fin 65, k.val ≠ frSrc f → t.pwr.votes[k] = s.pwr.votes[k]) ∧
         (s.bellwether = false → t.pwr = s.pwr)) ∧
     (∀ (pos : Fin 65) (a : Bool) (at_ : Nat), s.bellwether = true → pos ≠ 0 → pos.val ≠ s.fab.pos →
       s.pwr.votes[pos] = some (a, at_) → at_ + 256 ≤ s.tick.executed →
       exec (.nsVoteExpired pos) s = .next { s with pwr := { s.pwr with
         votes := s.pwr.votes.set pos none, expired := s.pwr.expired.set pos false } }) ∧
     (∀ pos, s.bellwether = false → exec (.nsVoteExpired pos) s = .next s)) ∧
  (∀ s : State, s.powered = true →
     (s.mayCommand = true → s.envOpened ((s.tick.count + BitVec.ofNat 64 s.pwr.lead).toNat - 1) = false →
       ∃ t, exec .nsCommand s = .next t ∧
         t.pwr.req = .rest (some (s.tick.count + BitVec.ofNat 64 s.pwr.lead)) true false ∧ t.pwr.nsState = 1 ∧
         bit (t.head .pwr).irq 5 = true) ∧
     (s.mayCommand = false → exec .nsCommand s = .next s) ∧
     (∀ p f, s.takesFrame 0x0C f = true → sleepOk 2 (frPayload f) = true → s.fab.state = .member →
       s.pwr.nsEnable = true → s.fab.bw ≠ 0 → frSrc f = s.fab.bw → s.pwr.nsState = 0 → s.pwr.sawC = none →
       let c := s.tickNear (BitVec.ofNat 32 (leAt (frPayload f) 4 4))
       ∃ t, exec (.nsCommandRx p f) s = .next t ∧
         (s.pwr.req = .none → s.envOpened (c.toNat - 1) = false →
           t.pwr.req = .rest (some c) true false ∧ t.pwr.nsState = 1 ∧ bit (t.head .pwr).irq 5 = true) ∧
         (s.pwr.req ≠ .none ∨ s.envOpened (c.toNat - 1) = true → t.pwr.req = s.pwr.req ∧
           t.pwr.nsState = s.pwr.nsState ∧ t.pwr.sawC = some (c.setWidth 32))) ∧
     (∀ p f, s.takesFrame 0x0C f = true → frSrc f ≠ s.fab.bw →
       exec (.nsCommandRx p f) s = .next (countRx p s)) ∧
     (∀ p f, s.takesFrame 0x0C f = true → sleepOk 3 (frPayload f) = true → s.pwr.req.isNet = true → s.pwr.mode = .run →
       s.pwr.nsC = BitVec.ofNat 32 (leAt (frPayload f) 4 4) → s.envOpened (s.tickNear s.pwr.nsC).toNat = false →
       ∃ t, exec (.nsAbort p f) s = .next t ∧ t.pwr.req = .none ∧ t.pwr.nsState = 2 ∧
         bit (t.head .pwr).irq 6 = true) ∧
     (∀ c, s.pwr.sawC = some c → s.envOpened ((s.tickNear c).toNat - 1) = true →
       exec .nsMissed s = .next (logPwr 0xD00C 4 [(0, c.toNat)]
         { s with pwr := { s.pwr with sawC := none } })) ∧
     (s.pwr.sawC = none → exec .nsMissed s = .next s)) ∧
  (∀ (rq : Requester) (v : Word) (s : State), s.powered = true →
     (rq ≠ .keeper → exec (.nsCtrlWrite rq v) s =
       .next (setErr .pwr 1 (if 8 ≤ v.toNat then reservedWrite rq 0x200F0048 s else s))) ∧
     (8 ≤ v.toNat → exec (.nsCtrlWrite .keeper v) s = .next (reservedWrite .keeper 0x200F0048 s)) ∧
     (v.toNat < 8 →
       ∃ t, exec (.nsCtrlWrite .keeper v) s = .next t ∧ t.pwr.nsEnable = bit v 0 ∧ t.pwr.nsAwake = bit v 1 ∧
         t.pwr.nsKeyOn = bit v 2 ∧ (s.pwr.nsAwake = bit v 1 → t.pwr.voteDue = s.pwr.voteDue) ∧
         (s.pwr.nsAwake ≠ bit v 1 → t.pwr.voteDue = some s.tick.executed) ∧ t.pwr.votes = s.pwr.votes) ∧
     (s.pwr.woke = true → s.pwr.mode = .run → s.quiet = true → s.tick.phase ≠ .off →
       ∃ t, exec .falseWake s = .next t ∧ t.pwr.falseWakes = satInc s.pwr.falseWakes ∧
         s.pwr.quietSince + s.pwr.falseWake * 1000000000 ≤ t.tb0 ∧
         t.pwr.req = .rest none false true) ∧
     (s.quiet = false → exec .falseWake s = .next s))

/-! ### Updates, perturbation, resets -/

/-- The update commands are keeper level's: every other writer only sets UPD_ERR bit 1, and a command in a state that
does not take it only sets UPD_ERR bit 2. BEGIN opens the loading of the inactive pair with no bundle received; VERIFY
starts its checks; their end leaves the pair verified, or the engine idle with the reason of the first check that
failed. Bundles over the fabric: DATA is taken in LOADING with RXEN from the bellwether alone; the first one gives the
serial; one that holds a reserved value is counted and discarded; a first chunk of the bundle's header is kept, its
bytes counted; status is broadcast every 64 ticks in LOADING and VERIFIED. -/
def Obligations.UpdateStates : Prop :=
  (∀ (rq : Requester) (c : Instr) (s : State), s.powered = true →
     (rq ≠ .keeper → c ∈ [Instr.begin rq, .verify rq, .schedule rq, .updCancel rq, .confirm rq, .migfail rq, .actsend rq] →
       exec c s = .next (setErr .upd 1 s)) ∧
     (s.upd.state ≠ .idle → s.upd.state ≠ .confirmed → s.upd.state ≠ .fallback → s.upd.state ≠ .verified →
       exec (.begin .keeper) s = .next (setErr .upd 2 s)) ∧
     (s.upd.state ≠ .loading → exec (.verify .keeper) s = .next (setErr .upd 2 s)) ∧
     (s.upd.state ≠ .verified → exec (.schedule .keeper) s = .next (setErr .upd 2 s) ∧
       exec (.actsend .keeper) s = .next (setErr .upd 2 s)) ∧
     (s.upd.state ≠ .scheduled → exec (.updCancel .keeper) s = .next (setErr .upd 2 s)) ∧
     (s.upd.state ≠ .trial → exec (.confirm .keeper) s = .next (setErr .upd 2 s) ∧
       exec (.migfail .keeper) s = .next (setErr .upd 2 s))) ∧
  (∀ s : State, s.powered = true →
     (s.upd.state = .idle ∨ s.upd.state = .confirmed ∨ s.upd.state = .fallback ∨ s.upd.state = .verified →
       ∃ t, exec (.begin .keeper) s = .next t ∧ t.upd.state = .loading ∧ t.upd.rx = none ∧ t.upd.rxBytes = 0 ∧
         t.upd.boot = s.upd.boot ∧ t.mem = s.mem ∧ t.cfg = s.cfg ∧
         (s.canLog = true → t.hasEntry 0xE001 2 locUpd (pack64 [(0, b01 !s.upd.boot.act)]) = true)) ∧
     (s.upd.state = .loading →
       ∃ t r, exec (.verify .keeper) s = .next t ∧ t.upd.verifying = some r ∧
         t.upd = { s.upd with verifying := t.upd.verifying } ∧ t.mem = s.mem ∧ t.cfg = s.cfg ∧
         (r = 0 ↔ s.pairReason (!s.upd.boot.act) = 0 ∧ s.bundleOk (!s.upd.boot.act) = true) ∧
         (s.pairReason (!s.upd.boot.act) ≠ 0 → r = s.pairReason (!s.upd.boot.act))) ∧
     (s.upd.verifying = some 0 → s.strct.shadow = .ready →
       ∃ t, exec .verified s = .next t ∧ t.upd = { s.upd with state := .verified, verifying := none } ∧
         bit (t.head .upd).irq 1 = true) ∧
     (∀ r, s.upd.verifying = some r → r ≠ 0 →
       ∃ t, exec .verified s = .next t ∧ t.upd = { s.upd with state := .idle, reason := r, verifying := none, rx := none } ∧
         bit (t.head .upd).irq 2 = true ∧ t.mem = s.mem ∧ t.cfg = s.cfg) ∧
     (s.upd.verifying = none → exec .verified s = .next s)) ∧
  (∀ s : State, s.powered = true →
     (∀ p f, s.takesFrame 0x0D f = true →
       ((s.upd.state ≠ .loading ∨ s.upd.rxen = false ∨ frSrc f ≠ s.fab.bw ∨ s.fab.bw = 0) →
         exec (.bundleDataRx p f) s = .next (countRx p s)) ∧
       (leAt f 16 1 = 1 → s.upd.state = .loading → s.upd.rxen = true → s.fab.bw ≠ 0 → frSrc f = s.fab.bw →
         s.upd.rx = none → dataBad (frPayload f) = true →
         let serial := BitVec.ofNat 32 (leAt (frPayload f) 8 4)
         exec (.bundleDataRx p f) s = .next (rxRefuse (modUpd (fun u =>
           { u with rx := some ⟨serial, [], List.replicate 32 0, []⟩, serial := serial }) (countRx p s)))) ∧
       (leAt f 16 1 = 1 → s.upd.state = .loading → s.upd.rxen = true → s.fab.bw ≠ 0 → frSrc f = s.fab.bw →
         s.upd.rx = none → dataBad (frPayload f) = false →
         let off := leAt (frPayload f) 4 4
         let data := (frPayload f).drop 16
         off + data.length ≤ 24 →
         ∃ t q, exec (.bundleDataRx p f) s = .next t ∧ t.upd.rx = some q ∧
           q.serial = BitVec.ofNat 32 (leAt (frPayload f) 8 4) ∧ t.upd.serial = q.serial ∧
           q.chunks = [(off, data.length)] ∧ q.early = [(off, data)] ∧ slice q.header off data.length = data ∧ t.upd.rxBytes = satAdd s.upd.rxBytes data.length ∧ t.mem = s.mem)) ∧
     ((s.upd.state = .loading ∨ s.upd.state = .verified) → s.fab.state = .member →
       s.upd.statusAt + 64 ≤ s.tick.executed →
       ∃ t, exec .updStatusTx s = .next t ∧ t.upd = { s.upd with statusAt := s.tick.executed }) ∧
     (s.tick.executed < s.upd.statusAt + 64 → exec .updStatusTx s = .next s))

/-- Activation is scheduled, by SCHEDULE, by ACTSEND of the bellwether or by the bellwether's ACTIVATE, for a tick
whose predecessor has not reached its envelope phase; CANCEL before that returns to VERIFIED. A scheduled activation
can be cancelled, a trial confirmed or given up: CANCEL before the envelope phase of the tick before, CONFIRM before
that of the tick before the fallback, writing the boot record with the next sequence. The boot record of an
activation is written in the guard band of tick a − 1 and names the new pair in trial; at tick a the trial begins; at
tick f the fallback ends it, with its cause. -/
def Obligations.ActivationAndTrial : Prop :=
  (∀ (g : Image) (s : State), s.powered = true → s.strct.shImage = some g → s.strct.shadow = .ready →
     s.upd.state = .verified → (needsRestart s.cfg g = false ∨ s.upd.allowRst = true) →
     (s.envOpened (s.swapTarget s.upd.actAt - 1) = false →
       (∃ t, exec (.schedule .keeper) s = .next t ∧ t.upd.state = .scheduled ∧
         t.upd.armed = BitVec.ofNat 64 (s.swapTarget s.upd.actAt) ∧ t.upd.restart = needsRestart s.cfg g ∧
         t.strct.shadow = .scheduled ∧ t.strct.swapAt = s.upd.actAt ∧ t.strct.target = t.upd.armed ∧
         t.cfg = s.cfg ∧ t.upd.boot = s.upd.boot) ∧
       (s.bellwether = true → ∃ t, exec (.actsend .keeper) s = .next t ∧ t.upd.state = .scheduled ∧
         t.upd.armed = BitVec.ofNat 64 (s.swapTarget s.upd.actAt) ∧ t.upd.sending = true)) ∧
     (∀ p f, s.takesFrame 0x0D f = true → activateOk (frPayload f) = true → s.fab.bw ≠ 0 → frSrc f = s.fab.bw →
       s.authOn = true → leAt (frPayload f) 8 4 = s.upd.serial.toNat →
       s.envOpened (s.swapTarget (BitVec.ofNat 64 (leAt (frPayload f) 16 8)) - 1) = false →
       ∃ t, exec (.activateRx p f) s = .next t ∧ t.upd.state = .scheduled ∧ t.upd.fromFrame = true ∧
         t.strct.shadow = .scheduled ∧ t.upd.armed = BitVec.ofNat 64 (s.swapTarget (BitVec.ofNat 64 (leAt (frPayload f) 16 8)))) ∧
     (∀ p f, s.takesFrame 0x0D f = true → frSrc f ≠ s.fab.bw → exec (.activateRx p f) s = .next (countRx p s))) ∧
  (∀ s : State, s.powered = true →
     (s.upd.state = .scheduled → s.envOpened (s.upd.armed.toNat - 1) = false →
       ∃ t, exec (.updCancel .keeper) s = .next t ∧ t.upd.state = .verified ∧ t.upd.boot = s.upd.boot ∧
         t.mem = s.mem ∧ t.cfg = s.cfg ∧ (s.strct.shadow = .scheduled → t.strct.shadow = .ready)) ∧
     (s.upd.state = .scheduled → s.envOpened (s.upd.armed.toNat - 1) = true →
       exec (.updCancel .keeper) s = .next s) ∧
     (s.upd.state = .trial → s.upd.migFail = false → s.envOpenedExec (s.upd.fAt - 1) = false →
       ∃ t, exec (.confirm .keeper) s = .next t ∧ t.upd.state = .confirmed ∧
         t.upd.boot = { s.upd.boot with
           trial := false, prev := false, setgen := !s.upd.boot.setgen, seq := s.upd.boot.seq + 1 } ∧
         bit (t.head .upd).irq 4 = true ∧ t.mem.ram = s.mem.ram) ∧
     (s.upd.state = .trial →
       ∃ t, exec (.migfail .keeper) s = .next t ∧ t.upd.migFail = true ∧ t.upd.fAt ≤ s.upd.fAt ∧
         t.upd.state = .trial ∧ t.mem = s.mem)) ∧
  (∀ s : State, s.powered = true →
     (s.recordDue = true → s.upd.state = .scheduled → s.upd.restart = false → s.tick.phase = .guard →
       ∃ t, exec .bootRecordWrite s = .next t ∧ t.upd.written = true ∧ t.upd.boot.act = !s.upd.boot.act ∧
         t.upd.boot.trial = true ∧ t.upd.boot.tstarts = 0 ∧ t.upd.boot.seq = s.upd.boot.seq + 1 ∧
         t.upd.boot.tick = s.upd.armed ∧ t.recordDue = false ∧ t.mem.ram = s.mem.ram) ∧
     (s.recordDue = false → exec .bootRecordWrite s = .next s) ∧
     (s.activationDue = true → s.upd.state = .scheduled →
       ∃ t, exec .activated s = .next t ∧ t.upd.state = .trial ∧ t.upd.boot = s.upd.boot ∧ t.upd.migFail = false ∧
         bit (t.head .upd).irq 3 = true ∧ (s.core.halted = false → t.core.shepherdUp = false)) ∧
     (s.activationDue = true → s.upd.state = .trial →
       ∃ t, exec .fallback s = .next t ∧ t.upd.state = .fallback ∧ t.upd.fbCause = (if s.upd.migFail then 3 else 1) ∧
         t.upd.boot = s.upd.boot ∧ bit (t.head .upd).irq 5 = true) ∧
     (s.activationDue = false → exec .activated s = .next s ∧ exec .fallback s = .next s))

/-- Tick programs: keeper level has one loaded into its core, which is not live meanwhile; a program whose digest is
the proved one makes the core loaded, its registers and its data memory 0, another leaves it not loaded. Perturbation:
a configuration that the life cycle and the ticket do not permit is refused as a whole and reported; a permitted
ENABLE is stored and reported. Only keeper level and the service port write it, each in its turn among the writes of a
cycle; reserved bits are refused. -/
def Obligations.TickProgramsAndPerturbation : Prop :=
  (∀ (k : Fin 4) (s : State), s.powered = true →
     (∀ rq, rq ≠ .keeper → exec (.tpload rq k) s = .next (setErr .upd 1 s)) ∧
     (s.pert.bistFail.getLsbD (k.val + 1) = false →
       ∃ t, exec (.tpload .keeper k) s = .next t ∧ t.upd.tpStat[k] = 1 ∧ t.tick.tc[k] = .notLoaded ∧ t.upd.tpCore = k ∧
         (t.cpu ⟨k.val + 1, by omega⟩).run = .stopped ∧ t.mem.mram = s.mem.mram) ∧
     (s.upd.tpStat[k] = 1 →
       ∃ t, exec (.tploadDone k) s = .next t ∧
         let d := sha256 (ramGet (progKey (k.val + 1) 0) (min 0x20000 (s.tickProgram k.val).length) s)
         let ok := match s.proofImage with
           | some g => decide (d = g.proof[k].digest)
           | none => decide (d = [])
         (ok = true → t.upd.tpStat[k] = 2 ∧ t.upd.tpDigest[k] = d ∧ t.cpu ⟨k.val + 1, by omega⟩ = Cpu.loaded ∧
           ∀ a, localKey (k.val + 1) 0x800000 ≤ a → a < localKey (k.val + 1) 0x800000 + 0x10000 →
             cellRead t.mem.ram a = 0) ∧
         (ok = false → t.upd.tpStat[k] = 3 ∧ t.mem = s.mem) ∧ t.mem.mram = s.mem.mram) ∧
     (s.upd.tpStat[k] ≠ 1 → exec (.tploadDone k) s = .next s)) ∧
  (∀ (rq : Requester) (v : Word) (s : State), s.powered = true →
     let u := inTurn .pert 0x020 rq.rank s
     let w := inTurn .pert 0x044 rq.rank s
     let bad := decide (1024 ≤ v.toNat) || bit v 6 || bit v 7 || decide (38 < field v 0 6) ||
       (bit v 8 && decide (37 < field v 0 6)) || (bit v 9 && !inBanks s.pert.memaddr.toNat)
     (rq ≠ .keeper → rq ≠ .service →
       exec (.pertEnable rq v) s =
         .next (setErr .pert 1 (if 128 ≤ v.toNat then reservedWrite rq 0x20140020 u else u)) ∧
       exec (.pertMemctlGo rq v) s = .next (setErr .pert 1 (if bad then reservedWrite rq 0x20140044 w else w))) ∧
     (rq = .keeper ∨ rq = .service →
       (128 ≤ v.toNat → exec (.pertEnable rq v) s = .next (reservedWrite rq 0x20140020 u)) ∧
       (bad = true → exec (.pertMemctlGo rq v) s = .next (reservedWrite rq 0x20140044 w)) ∧
       (∀ k, v.toNat < 128 → deniedKind s { s.pert with enable := v.setWidth 7 } = some k →
         ∃ t, exec (.pertEnable rq v) s = .next t ∧ t.pert = s.pert ∧ bit (t.head .pert).err 2 = true ∧
           bit (t.head .pert).irq 0 = true) ∧
       (v.toNat < 128 → deniedKind s { s.pert with enable := v.setWidth 7 } = none →
         ∃ t, exec (.pertEnable rq v) s = .next t ∧ t.pert.enable = v.setWidth 7 ∧ t.pert.live = s.pert.live ∧
           t.pert.hits = s.pert.hits) ∧
       (∀ k, v.toNat < 1024 → bit v 6 = false → bit v 7 = false → field v 0 6 ≤ 37 → bit v 9 = false →
         deniedKind s ({ s.pert with memctl := v &&& 0x1FF#32 }.counting 6) = some k →
         ∃ t, exec (.pertMemctlGo rq v) s = .next t ∧ t.pert = s.pert ∧ t.mem = s.mem) ∧
       (v.toNat < 1024 → bit v 6 = false → bit v 7 = false → field v 0 6 ≤ 37 → bit v 9 = true →
         inBanks s.pert.memaddr.toNat = true → deniedKind s ({ s.pert with memctl := v &&& 0x1FF#32 }.counting 6) = none →
         s.pert.live.getLsbD 6 = true →
         ∃ t, exec (.pertMemctlGo rq v) s = .next t ∧ t.pert.hits = satAdd s.pert.hits 1 ∧
           t.pert.memctl = v &&& 0x1FF#32 ∧ t.pert.injected = some (w.cycle, s.pert.memaddr.toNat, injectMask v) ∧
           t.mem.ram = s.mem.ram ∧ t.mem.mram = s.mem.mram) ∧
       (v.toNat < 1024 → bit v 6 = false → bit v 7 = false → field v 0 6 ≤ 37 → bit v 9 = false →
         deniedKind s ({ s.pert with memctl := v &&& 0x1FF#32 }.counting 6) = none →
         exec (.pertMemctlGo rq v) s = .next (modPert (fun p => { p with memctl := v &&& 0x1FF#32 }) w))))

/-- A module reset: keeper level or the service port asks with RESET and CONFIRM, any other value or writer is a
reserved write; it takes effect at the commit mark, or at once through JTAG while debug is open: the module starts
again, with nothing in force and the cause in SYS_RESETCAUSE, and the outer dies hold their outputs. The service
port: a write transaction of one word writes that register as the service port does, a read transaction of one word
gives the port that register, a transaction shorter than a command, an address and a word does nothing, nor does one of
another command byte; a register write by a requester of this module is its effect on that register, and
IRQ_ENABLE of a block takes the enables written. -/
def Obligations.ResetsAndServicePort : Prop :=
  (∀ (rq : Requester) (v : Word) (s : State), s.powered = true →
     let reset := fun (t : State) => t.pwr.starting = true ∧ t.tick.phase = .off ∧ t.strct.inForce = false ∧
       (∀ k : Fin 96, (t.hsw.ch[k]).prot = (s.hsw.ch[k]).prot) ∧ (∀ k : Fin 16, (t.sol.ch[k]).phase = (s.sol.ch[k]).phase) ∧
       (∀ k : Fin 128, (t.led.pos[k]).disp = (s.led.pos[k]).disp) ∧ t.pending = s.pending
     ((rq = .keeper ∨ rq = .service) → exec (.sysReset rq 0x5A01) s =
       .next { s with sys := { s.sys with resetPending := true } }) ∧
     ((v ≠ 0 ∧ v ≠ 0x5A01) ∨ (rq ≠ .keeper ∧ rq ≠ .service) →
       exec (.sysReset rq v) s = .next (reservedWrite rq 0x20000004 s)) ∧
     ((rq = .keeper ∨ rq = .service) → exec (.sysReset rq 0) s = .next s) ∧
     (s.tick.phase = .measure → s.sys.resetPending = true →
       ∃ t, exec .moduleReset s = .next t ∧ reset t ∧ bit t.sys.cause 2 = true) ∧
     (s.resetDue = false → exec .moduleReset s = .next s) ∧
     (s.debugOpen = true → ∃ t, exec .resetThroughJtag s = .next t ∧ reset t ∧ bit t.sys.cause 4 = true) ∧
     (s.debugOpen = false → exec .resetThroughJtag s = .next s)) ∧
  (∀ s : State, s.powered = true →
     (∀ bs : List Byte, bs.length < 9 → exec (.svcTransaction bs) s = .next s) ∧
     (∀ a v : Word, a.toNat % 4 = 0 →
       exec (.svcTransaction ([0x02] ++ [a.extractLsb' 24 8, a.extractLsb' 16 8, a.extractLsb' 8 8, a.extractLsb' 0 8] ++
           [v.extractLsb' 24 8, v.extractLsb' 16 8, v.extractLsb' 8 8, v.extractLsb' 0 8])) s =
         exec (.registerWrite .service a.toNat 4 v) s) ∧
     (∀ (a v : Word) (x : DWord), a.toNat % 4 = 0 →
       let addr : List Byte := [a.extractLsb' 24 8, a.extractLsb' 16 8, a.extractLsb' 8 8, a.extractLsb' 0 8]
       let rest : List Byte := (List.range 8).map fun i => x.extractLsb' (8 * i) 8
       let r := regRead .service a.toNat s
       exec (.svcTransaction ([0x02] ++ addr ++
           [v.extractLsb' 24 8, v.extractLsb' 16 8, v.extractLsb' 8 8, v.extractLsb' 0 8])) s =
         .next (regWrite .service a.toNat v s) ∧
       exec (.svcTransaction ([0x0B] ++ addr ++ rest)) s = .next (giveRead .service r.1 r.2)) ∧
     (∀ (b : Byte) (bs : List Byte), b ≠ 0x02 → b ≠ 0x0B → exec (.svcTransaction (b :: bs)) s = .next s) ∧
     (∀ (rq : Requester) (b : Block) (v : Word), rq ≠ .fabric → b.writer rq = true → v.toNat < 2 ^ b.irqBits →
       ∃ t, exec (.registerWrite rq (b.base + 0x10) 4 v) s = .next t ∧ (t.head b).en = v ∧
         (t.head b).irq = (s.head b).irq ∧ (t.head b).err = (s.head b).err ∧
         ((s.head b).irq &&& v ≠ 0 → t.evt.pend.getLsbD b.idx.val = true) ∧
         (∀ c : Block, c.idx ≠ b.idx → t.head c = s.head c) ∧ t = { s with heads := t.heads, evt := t.evt }))
end

