-- ==== Sys2Proof/Laws/Memory.lean ====
section
/-! SUPPORT. The laws of the byte lists that hold the memories: reading after writing, and the canonical form that every
memory operation keeps. -/

namespace Sys2Proof.Machine

/-! ### Reading after writing -/

/-- A byte written is the byte read. -/
@[simp] theorem cellRead_cellWrite_same (a : Nat) (b : Byte) (l : List Host.Cell) (lo : Nat) (h : cellsFrom lo l = true) :
    cellRead (cellWrite a b l) a = b := by
  induction l generalizing lo with
  | nil => by_cases hb : b = 0#8 <;> simp [cellWrite, cellRead, hb]
  | cons c l ih =>
    have hz : ∀ (k : Nat) (m : List Host.Cell), a < k → cellsFrom k m = true → cellRead m a = 0 := by
      intro k m
      induction m generalizing k with
      | nil => intros; rfl
      | cons d m im =>
        intro hk hm
        simp only [cellsFrom, Bool.and_eq_true, decide_eq_true_eq] at hm
        have hne : d.1 ≠ a := by omega
        simp only [cellRead, hne, if_false]
        exact im _ (by omega) hm.2
    simp only [cellsFrom, Bool.and_eq_true, decide_eq_true_eq] at h
    unfold cellWrite
    by_cases h1 : a < c.1
    · rw [if_pos h1]
      by_cases hb : b = 0
      · have hne : c.1 ≠ a := by omega
        rw [if_pos hb, hb, cellRead, if_neg hne]
        exact hz _ l (by omega) h.2
      · rw [if_neg hb, cellRead, if_pos rfl]
    · rw [if_neg h1]
      by_cases h2 : a = c.1
      · rw [if_pos h2]
        by_cases hb : b = 0
        · rw [if_pos hb, hb]
          exact hz _ l (by omega) h.2
        · rw [if_neg hb, cellRead, if_pos rfl]
      · have hne : c.1 ≠ a := fun e => h2 e.symm
        rw [if_neg h2, cellRead, if_neg hne]
        exact ih _ h.2

/-- Every other byte reads as before. -/
@[simp] theorem cellRead_cellWrite_other (a x : Nat) (b : Byte) (l : List Host.Cell) (h : x ≠ a) :
    cellRead (cellWrite a b l) x = cellRead l x := by
  induction l with
  | nil => by_cases hb : b = 0#8 <;> simp [cellWrite, cellRead, hb, Ne.symm h]
  | cons c l ih =>
    unfold cellWrite
    by_cases h1 : a < c.1
    · by_cases hb : b = 0#8 <;> simp [h1, hb, cellRead, Ne.symm h]
    · by_cases h2 : a = c.1
      · have hc : c.1 ≠ x := by omega
        by_cases hb : b = 0#8 <;> simp [h2, hb, cellRead, hc]
      · simp only [h1, h2, if_false, cellRead, ih]

/-- A run of bytes leaves every address outside it as it was. -/
theorem cellRead_cellsPut_other (a x : Nat) (bs : List Byte) (l : List Host.Cell) (h : x < a ∨ a + bs.length ≤ x) :
    cellRead (cellsPut a bs l) x = cellRead l x := by
  induction bs generalizing a l with
  | nil => rfl
  | cons b bs ih =>
    simp only [List.length_cons] at h
    unfold cellsPut
    rw [ih _ _ (by omega), cellRead_cellWrite_other _ _ _ _ (by omega)]

/-! ### The canonical form -/

/-- A canonical list above a bound is canonical above a smaller one. -/
theorem cellsFrom_mono (lo lo' : Nat) (l : List Host.Cell) (h : lo' ≤ lo) (hl : cellsFrom lo l = true) :
    cellsFrom lo' l = true := by
  cases l with
  | nil => rfl
  | cons c l =>
    simp only [cellsFrom, Bool.and_eq_true, decide_eq_true_eq] at hl ⊢
    exact ⟨⟨by omega, hl.1.2⟩, hl.2⟩

/-- Writing a byte keeps the form above every bound that the address respects. -/
theorem cellsFrom_cellWrite (lo a : Nat) (b : Byte) (l : List Host.Cell) (ha : lo ≤ a) (hl : cellsFrom lo l = true) :
    cellsFrom lo (cellWrite a b l) = true := by
  induction l generalizing lo with
  | nil => by_cases hb : b = 0#8 <;> simp [cellWrite, cellsFrom, hb, ha]
  | cons c l ih =>
    simp only [cellsFrom, Bool.and_eq_true, decide_eq_true_eq] at hl
    unfold cellWrite
    have cons : ∀ (k : Nat) (d : Host.Cell) (m : List Host.Cell), k ≤ d.1 → d.2 ≠ 0 → cellsFrom (d.1 + 1) m = true →
        cellsFrom k (d :: m) = true := by
      intro k d m h1 h2 h3
      simp only [cellsFrom, Bool.and_eq_true, decide_eq_true_eq, bne_iff_ne, ne_eq]
      exact ⟨⟨h1, h2⟩, h3⟩
    have hc : c.2 ≠ 0 := by simpa using hl.1.2
    by_cases h1 : a < c.1
    · rw [if_pos h1]
      by_cases hb : b = 0
      · rw [if_pos hb]; exact cons _ _ _ hl.1.1 hc hl.2
      · rw [if_neg hb]; exact cons _ _ _ ha hb (cons _ _ _ h1 hc hl.2)
    · rw [if_neg h1]
      by_cases h2 : a = c.1
      · rw [if_pos h2]
        by_cases hb : b = 0
        · rw [if_pos hb]; exact cellsFrom_mono _ _ _ (by omega) hl.2
        · rw [if_neg hb]; exact cons _ _ _ ha hb (by rw [h2]; exact hl.2)
      · rw [if_neg h2]
        exact cons _ _ _ hl.1.1 hc (ih _ (by omega) hl.2)

/-- Writing a byte keeps the canonical form. -/
theorem Memory.wf_cellWrite (a : Nat) (b : Byte) (l : List Host.Cell) (h : Memory.wf l = true) :
    Memory.wf (cellWrite a b l) = true := cellsFrom_cellWrite 0 a b l (Nat.zero_le a) h

/-- Writing a run of bytes keeps the canonical form. -/
theorem Memory.wf_cellsPut (a : Nat) (bs : List Byte) (l : List Host.Cell) (h : Memory.wf l = true) :
    Memory.wf (cellsPut a bs l) = true := by
  induction bs generalizing a l with
  | nil => exact h
  | cons b bs ih => exact ih _ _ (Memory.wf_cellWrite a b l h)

/-- Keeping some of the bytes keeps the form above a bound. -/
theorem cellsFrom_filter (lo : Nat) (p : Host.Cell → Bool) (l : List Host.Cell) (h : cellsFrom lo l = true) :
    cellsFrom lo (l.filter p) = true := by
  induction l generalizing lo with
  | nil => rfl
  | cons c l ih =>
    simp only [cellsFrom, Bool.and_eq_true, decide_eq_true_eq] at h
    rw [List.filter_cons]
    split
    · simp only [cellsFrom, Bool.and_eq_true, decide_eq_true_eq]
      exact ⟨h.1, ih _ h.2⟩
    · exact cellsFrom_mono _ _ _ (by omega) (ih _ h.2)

/-- Keeping some of the bytes keeps the canonical form. -/
theorem Memory.wf_filter (p : Host.Cell → Bool) (l : List Host.Cell) (h : Memory.wf l = true) :
    Memory.wf (l.filter p) = true := cellsFrom_filter 0 p l h

/-- Clearing a span keeps the canonical form. -/
theorem Memory.wf_cellsClear (a b : Nat) (l : List Host.Cell) (h : Memory.wf l = true) :
    Memory.wf (cellsClear a b l) = true := Memory.wf_filter _ l h

/-- Two canonical lists that read alike are equal: equal memories are equal data. -/
theorem cells_ext (lo : Nat) (l m : List Host.Cell) (hl : cellsFrom lo l = true) (hm : cellsFrom lo m = true)
    (h : ∀ x, cellRead l x = cellRead m x) : l = m := by
  have low : ∀ (k : Nat) (q : List Host.Cell) (x : Nat), x < k → cellsFrom k q = true → cellRead q x = 0 := by
    intro k q
    induction q generalizing k with
    | nil => intros; rfl
    | cons d q iq =>
      intro x hk hq
      simp only [cellsFrom, Bool.and_eq_true, decide_eq_true_eq] at hq
      have hne : d.1 ≠ x := by omega
      simp only [cellRead, hne, if_false]
      exact iq _ _ (by omega) hq.2
  induction l generalizing lo m with
  | nil =>
    cases m with
    | nil => rfl
    | cons d m =>
      simp only [cellsFrom, Bool.and_eq_true, decide_eq_true_eq, bne_iff_ne, ne_eq] at hm
      have := h d.1
      simp only [cellRead, if_true] at this
      exact absurd this.symm hm.1.2
  | cons c l ih =>
    cases m with
    | nil =>
      simp only [cellsFrom, Bool.and_eq_true, decide_eq_true_eq, bne_iff_ne, ne_eq] at hl
      have := h c.1
      simp only [cellRead, if_true] at this
      exact absurd this hl.1.2
    | cons d m =>
      simp only [cellsFrom, Bool.and_eq_true, decide_eq_true_eq, bne_iff_ne, ne_eq] at hl hm
      have hc : c.1 = d.1 := by
        rcases Nat.lt_trichotomy c.1 d.1 with g | g | g
        · have := h c.1
          have hne : d.1 ≠ c.1 := by omega
          simp only [cellRead, if_true, hne, if_false, low _ m _ (by omega : c.1 < d.1 + 1) hm.2] at this
          exact absurd this hl.1.2
        · exact g
        · have := h d.1
          have hne : c.1 ≠ d.1 := by omega
          simp only [cellRead, if_true, hne, if_false, low _ l _ (by omega : d.1 < c.1 + 1) hl.2] at this
          exact absurd this.symm hm.1.2
      have hv : c.2 = d.2 := by
        have := h c.1
        simpa only [cellRead, if_true, hc] using this
      have hcd : c = d := Prod.ext hc hv
      subst hcd
      congr 1
      refine ih (c.1 + 1) m hl.2 hm.2 fun x => ?_
      by_cases hx : c.1 = x
      · subst hx
        rw [low _ l _ (Nat.lt_succ_self _) hl.2, low _ m _ (Nat.lt_succ_self _) hm.2]
      · have := h x
        simpa only [cellRead, hx, if_false] using this

end Sys2Proof.Machine
end

