-- ==== Sys2Proof/Laws/Frame.lean ====
section
/-! SUPPORT. Frames: which parts of the state an operation may rewrite, and that it keeps both memories in canonical form.
A mask has one bit for each field of State, in the order of its fields. -/

namespace Sys2Proof.Machine

/-- `t` differs from `s` at most in the fields of the mask `m`, and has its memories in canonical form if `s` has. -/
structure Frame (m : Nat) (s t : State) : Prop where
  pending : m.testBit 0 = false → t.pending = s.pending
  freeCount : m.testBit 1 = false → t.freeCount = s.freeCount
  reports : m.testBit 2 = false → t.reports = s.reports
  rdata : m.testBit 3 = false → t.rdata = s.rdata
  heads : m.testBit 4 = false → t.heads = s.heads
  latches : m.testBit 5 = false → t.latches = s.latches
  held : m.testBit 6 = false → t.held = s.held
  sys : m.testBit 7 = false → t.sys = s.sys
  evt : m.testBit 8 = false → t.evt = s.evt
  tick : m.testBit 9 = false → t.tick = s.tick
  strct : m.testBit 10 = false → t.strct = s.strct
  cfg : m.testBit 11 = false → t.cfg = s.cfg
  hsw : m.testBit 12 = false → t.hsw = s.hsw
  sol : m.testBit 13 = false → t.sol = s.sol
  led : m.testBit 14 = false → t.led = s.led
  din : m.testBit 15 = false → t.din = s.din
  hurdle : m.testBit 16 = false → t.hurdle = s.hurdle
  time : m.testBit 17 = false → t.time = s.time
  tally : m.testBit 18 = false → t.tally = s.tally
  fab : m.testBit 19 = false → t.fab = s.fab
  core : m.testBit 20 = false → t.core = s.core
  mem : m.testBit 21 = false → t.mem = s.mem
  que : m.testBit 22 = false → t.que = s.que
  dwin : m.testBit 23 = false → t.dwin = s.dwin
  pert : m.testBit 24 = false → t.pert = s.pert
  key : m.testBit 25 = false → t.key = s.key
  mbus : m.testBit 26 = false → t.mbus = s.mbus
  aud : m.testBit 27 = false → t.aud = s.aud
  acc : m.testBit 28 = false → t.acc = s.acc
  pwr : m.testBit 29 = false → t.pwr = s.pwr
  upd : m.testBit 30 = false → t.upd = s.upd
  form : s.memOk = true → t.memOk = true

/-- Both memories of the block are in canonical form. -/
def MemBlk.ok (m : MemBlk) : Prop := Memory.wf m.ram = true ∧ Memory.wf m.mram = true

/-- The form of a state's memories is that of its MEM block. -/
theorem memOk_iff (s : State) : s.memOk = true ↔ s.mem.ok := by
  simp [State.memOk, MemBlk.ok]

/-- Nothing changes. -/
theorem Frame.refl (m : Nat) (s : State) : Frame m s s :=
  ⟨fun _ => rfl, fun _ => rfl, fun _ => rfl, fun _ => rfl, fun _ => rfl, fun _ => rfl, fun _ => rfl, fun _ => rfl, fun _ => rfl, fun _ => rfl, fun _ => rfl, fun _ => rfl, fun _ => rfl, fun _ => rfl, fun _ => rfl, fun _ => rfl, fun _ => rfl, fun _ => rfl, fun _ => rfl, fun _ => rfl, fun _ => rfl, fun _ => rfl, fun _ => rfl, fun _ => rfl, fun _ => rfl, fun _ => rfl, fun _ => rfl, fun _ => rfl, fun _ => rfl, fun _ => rfl, fun _ => rfl, id⟩

/-- An operation after another, each within the mask. -/
theorem Frame.step {m n : Nat} {s t u : State} (h : Frame n t u) (hm : n ||| m = m) (p : Frame m s t) : Frame m s u := by
  have k : ∀ i, m.testBit i = false → n.testBit i = false := by
    intro i hi
    rw [← hm, Nat.testBit_or] at hi
    cases hn : n.testBit i <;> simp_all
  exact ⟨fun e => (h.pending (k _ e)).trans (p.pending e),
    fun e => (h.freeCount (k _ e)).trans (p.freeCount e),
    fun e => (h.reports (k _ e)).trans (p.reports e),
    fun e => (h.rdata (k _ e)).trans (p.rdata e),
    fun e => (h.heads (k _ e)).trans (p.heads e),
    fun e => (h.latches (k _ e)).trans (p.latches e),
    fun e => (h.held (k _ e)).trans (p.held e),
    fun e => (h.sys (k _ e)).trans (p.sys e),
    fun e => (h.evt (k _ e)).trans (p.evt e),
    fun e => (h.tick (k _ e)).trans (p.tick e),
    fun e => (h.strct (k _ e)).trans (p.strct e),
    fun e => (h.cfg (k _ e)).trans (p.cfg e),
    fun e => (h.hsw (k _ e)).trans (p.hsw e),
    fun e => (h.sol (k _ e)).trans (p.sol e),
    fun e => (h.led (k _ e)).trans (p.led e),
    fun e => (h.din (k _ e)).trans (p.din e),
    fun e => (h.hurdle (k _ e)).trans (p.hurdle e),
    fun e => (h.time (k _ e)).trans (p.time e),
    fun e => (h.tally (k _ e)).trans (p.tally e),
    fun e => (h.fab (k _ e)).trans (p.fab e),
    fun e => (h.core (k _ e)).trans (p.core e),
    fun e => (h.mem (k _ e)).trans (p.mem e),
    fun e => (h.que (k _ e)).trans (p.que e),
    fun e => (h.dwin (k _ e)).trans (p.dwin e),
    fun e => (h.pert (k _ e)).trans (p.pert e),
    fun e => (h.key (k _ e)).trans (p.key e),
    fun e => (h.mbus (k _ e)).trans (p.mbus e),
    fun e => (h.aud (k _ e)).trans (p.aud e),
    fun e => (h.acc (k _ e)).trans (p.acc e),
    fun e => (h.pwr (k _ e)).trans (p.pwr e),
    fun e => (h.upd (k _ e)).trans (p.upd e),
    fun e => h.form (p.form e)⟩

/-- A frame under a larger mask. -/
theorem Frame.mono {m n : Nat} {s t : State} (h : Frame n s t) (hm : n ||| m = m) : Frame m s t := h.step hm (Frame.refl m s)

/-- Both branches. -/
theorem Frame.ite {m : Nat} {s a b : State} {c : Prop} {i : Decidable c} (ha : Frame m s a) (hb : Frame m s b) :
    Frame m s (if c then a else b) := by
  split
  · exact ha
  · exact hb

/-- A fold. -/
theorem Frame.foldl {α : Type} {m : Nat} {s i : State} {f : State → α → State} {l : List α}
    (hf : ∀ x k, Frame m s x → Frame m s (f x k)) (hi : Frame m s i) : Frame m s (l.foldl f i) := by
  induction l generalizing i with
  | nil => exact hi
  | cons k l ih => exact ih (hf i k hi)

/-- A fold that carries a value beside the state. -/
theorem Frame.foldlP {α β : Type} {m : Nat} {s : State} {i : β × State} {f : β × State → α → β × State} {l : List α}
    (hf : ∀ r k, Frame m s r.2 → Frame m s (f r k).2) (hi : Frame m s i.2) : Frame m s (l.foldl f i).2 := by
  induction l generalizing i with
  | nil => exact hi
  | cons k l ih => exact ih (hf i k hi)

/-- A fold that carries a value behind the state. -/
theorem Frame.foldl1 {α β : Type} {m : Nat} {s : State} {i : State × β} {f : State × β → α → State × β} {l : List α}
    (hf : ∀ r k, Frame m s r.1 → Frame m s (f r k).1) (hi : Frame m s i.1) : Frame m s (l.foldl f i).1 := by
  induction l generalizing i with
  | nil => exact hi
  | cons k l ih => exact ih (hf i k hi)

/-- The state of a pair that an operation answered. -/
theorem Frame.ofEq2 {α : Type} {m : Nat} {s x : State} {r : α × State} {a : α} (h : r = (a, x)) (p : Frame m s r.2) :
    Frame m s x := by
  rw [h] at p
  exact p

/-- The state of a triple. -/
theorem Frame.ofEq22 {α β : Type} {m : Nat} {s x : State} {r : α × β × State} {a : α} {b : β} (h : r = (a, b, x))
    (p : Frame m s r.2.2) : Frame m s x := by
  rw [h] at p
  exact p

/-- The state that comes first. -/
theorem Frame.ofEq1 {α : Type} {m : Nat} {s x : State} {r : State × α} {a : α} (h : r = (x, a)) (p : Frame m s r.1) :
    Frame m s x := by
  rw [h] at p
  exact p

/-- A register whose reads and writes stay within a mask. -/
def RegDef.framed (m : Nat) (r : RegDef) : Prop :=
  (∀ rq s, Frame m s (r.read rq s).2) ∧ ∀ rq v s, Frame m s (r.write rq v s)

/-- The same of a register, if there is one. -/
def OptFramed (m : Nat) (o : Option RegDef) : Prop := ∀ d, o = some d → d.framed m

/-- No register. -/
theorem OptFramed.none (m : Nat) : OptFramed m none := fun _ h => nomatch h

/-- A register. -/
theorem OptFramed.some {m : Nat} {r : RegDef} (h : r.framed m) : OptFramed m (some r) := by
  intro d e
  cases e
  exact h

/-- Both branches. -/
theorem OptFramed.ite {m : Nat} {a b : Option RegDef} {c : Prop} {i : Decidable c} (ha : OptFramed m a)
    (hb : OptFramed m b) : OptFramed m (if c then a else b) := by
  split
  · exact ha
  · exact hb

/-- A register with plain reads. -/
theorem framed_regAt {m : Nat} (get : State → Word) (write : Requester → Word → State → State)
    (h : ∀ rq v s, Frame m s (write rq v s)) : (regAt get write).framed m := ⟨fun _ s => Frame.refl m s, h⟩

/-- A register of a unit that may be absent. -/
theorem framed_ofUnit {m : Nat} {d : RegDef} (here : State → Bool) (h : d.framed m) : (d.ofUnit here).framed m := by
  refine ⟨fun rq s => ?_, h.2⟩
  dsimp only [RegDef.ofUnit]
  split
  · exact h.1 rq s
  · exact Frame.refl m s

/-- A rewrite of the MEM block that keeps the form of both memories. -/
theorem frame_modMem (f : MemBlk → MemBlk) (s : State) (hf : ∀ m : MemBlk, m.ok → (f m).ok) :
    Frame 2097152 s (modMem f s) :=
  ⟨fun _ => rfl, fun _ => rfl, fun _ => rfl, fun _ => rfl, fun _ => rfl, fun _ => rfl, fun _ => rfl, fun _ => rfl, fun _ => rfl, fun _ => rfl, fun _ => rfl, fun _ => rfl, fun _ => rfl, fun _ => rfl, fun _ => rfl, fun _ => rfl, fun _ => rfl, fun _ => rfl, fun _ => rfl, fun _ => rfl, fun _ => rfl, fun e => absurd e (by decide), fun _ => rfl, fun _ => rfl, fun _ => rfl, fun _ => rfl, fun _ => rfl, fun _ => rfl, fun _ => rfl, fun _ => rfl, fun _ => rfl, fun h => (memOk_iff _).mpr (hf _ ((memOk_iff s).mp h))⟩

/-- Every field but the queue of waiting commands may change, and the memories keep their form. -/
theorem frame_all {s t : State} (hp : t.pending = s.pending) (hm : s.memOk → t.memOk) : Frame 2147483646 s t :=
  ⟨fun _ => hp, fun e => absurd e (by decide), fun e => absurd e (by decide), fun e => absurd e (by decide), fun e => absurd e (by decide), fun e => absurd e (by decide), fun e => absurd e (by decide), fun e => absurd e (by decide), fun e => absurd e (by decide), fun e => absurd e (by decide), fun e => absurd e (by decide), fun e => absurd e (by decide), fun e => absurd e (by decide), fun e => absurd e (by decide), fun e => absurd e (by decide), fun e => absurd e (by decide), fun e => absurd e (by decide), fun e => absurd e (by decide), fun e => absurd e (by decide), fun e => absurd e (by decide), fun e => absurd e (by decide), fun e => absurd e (by decide), fun e => absurd e (by decide), fun e => absurd e (by decide), fun e => absurd e (by decide), fun e => absurd e (by decide), fun e => absurd e (by decide), fun e => absurd e (by decide), fun e => absurd e (by decide), fun e => absurd e (by decide), fun e => absurd e (by decide), hm⟩

/-- A clause of the register map. -/
theorem OptFramed.getD {m : Nat} {o : Option RegDef} {d : RegDef} (ho : OptFramed m o) (hd : d.framed m) :
    (o.getD d).framed m := by
  cases h : o with
  | none => exact hd
  | some r => exact ho r h

/-- An operation that the module is powered for, or nothing. -/
theorem frame_whenOn {m : Nat} {s0 : State} (f : State → State) (s : State) (h : Frame m s0 s)
    (hf : ∀ x, Frame m s0 x → Frame m s0 (f x)) : Frame m s0 (whenOn f s) := by
  unfold whenOn
  split
  · exact h
  · exact h
  · exact hf s h

end Sys2Proof.Machine
end

