-- ==== Sys2Proof/Laws/Frames/CommonOps.lean ====
section
/-! SUPPORT. Frames of the operations of Machine/Ops, Regs, Memory, Perturb, Solenoids. -/

namespace Sys2Proof.Machine

set_option maxRecDepth 10000

/-- Changes at most heads. -/
theorem frame_modHead : ∀ (b : Block) (f : Head → Head) (s : State), Frame 16 s (modHead b f s) := by
  intro b f s
  unfold modHead
  refine Frame.step (frame_set_heads _ _) rfl ?_
  exact Frame.refl _ _

/-- Changes at most heads. -/
theorem frame_modNote : ∀ (b : Block) (f : CycNote → CycNote) (s : State), Frame 16 s (modNote b f s) := by
  intro b f s
  unfold modNote
  refine Frame.step (frame_modHead _ _ _) rfl ?_
  exact Frame.refl _ _

/-- Changes at most heads. -/
theorem frame_hwBit : ∀ (b : Block) (off : Nat) (m : Word) (s : State), Frame 16 s (hwBit b off m s) := by
  intro b off m s
  unfold hwBit
  refine Frame.step (frame_modNote _ _ _) rfl ?_
  exact Frame.refl _ _

/-- Changes at most heads. -/
theorem frame_setErr : ∀ (b : Block) (i : Nat) (s : State), Frame 16 s (setErr b i s) := by
  intro b i s
  unfold setErr
  refine Frame.step (frame_modHead _ _ _) rfl ?_
  refine Frame.step (frame_hwBit _ _ _ _) rfl ?_
  exact Frame.refl _ _

/-- Changes at most time. -/
theorem frame_runCycles : ∀ (n : Nat) (s : State), Frame 131072 s (runCycles n s) := by
  intro n s
  unfold runCycles
  refine Frame.step (frame_set_time _ _) rfl ?_
  exact Frame.refl _ _

/-- Changes at most heads, time. -/
theorem frame_inTurn : ∀ (b : Block) (what rank : Nat) (s : State), Frame 131088 s (inTurn b what rank s) := by
  intro b what rank s
  unfold inTurn
  extract_lets x1
  have h2 : Frame 131088 s x1 := by
    subst x1
    refine Frame.ite ?_ ?_
    · refine Frame.step (frame_runCycles _ _) rfl ?_
      exact Frame.refl _ _
    · exact Frame.refl _ _
  clear_value x1
  refine Frame.step (frame_modNote _ _ _) rfl ?_
  assumption

/-- Changes at most evt. -/
theorem frame_setLine : ∀ (n : Nat) (s : State), Frame 256 s (setLine n s) := by
  intro n s
  unfold setLine
  refine Frame.step (frame_set_evt _ _) rfl ?_
  exact Frame.refl _ _

/-- Changes at most evt. -/
theorem frame_raiseLine : ∀ (n : Nat) (s : State), Frame 256 s (raiseLine n s) := by
  intro n s
  unfold raiseLine
  refine Frame.step (frame_setLine _ _) rfl ?_
  refine Frame.step (frame_set_evt _ _) rfl ?_
  exact Frame.refl _ _

/-- Changes at most evt. -/
theorem frame_refreshLine : ∀ (b : Block) (s : State), Frame 256 s (refreshLine b s) := by
  intro b s
  unfold refreshLine
  refine Frame.ite ?_ ?_
  · exact Frame.refl _ _
  · refine Frame.step (frame_raiseLine _ _) rfl ?_
    exact Frame.refl _ _

/-- Changes at most heads, evt. -/
theorem frame_setIrq : ∀ (b : Block) (i : Nat) (s : State), Frame 272 s (setIrq b i s) := by
  intro b i s
  unfold setIrq
  refine Frame.step (frame_refreshLine _ _) rfl ?_
  refine Frame.step (frame_modHead _ _ _) rfl ?_
  refine Frame.step (frame_hwBit _ _ _ _) rfl ?_
  exact Frame.refl _ _

/-- Changes at most heads, sys, evt. -/
theorem frame_sysFlag : ∀ (i : Nat) (s : State), Frame 400 s (sysFlag i s) := by
  intro i s
  unfold sysFlag
  refine Frame.step (frame_setIrq _ _ _) rfl ?_
  refine Frame.step (frame_hwBit _ _ _ _) rfl ?_
  refine Frame.step (frame_set_sys _ _) rfl ?_
  exact Frame.refl _ _

/-- Changes at most heads, sys, evt, time. -/
theorem frame_reservedWrite : ∀ (rq : Requester) (addr : Nat) (s : State), Frame 131472 s (reservedWrite rq addr s) := by
  intro rq addr s
  unfold reservedWrite
  extract_lets x1 x2
  have h3 : Frame 131472 s x1 := by
    subst x1
    refine Frame.step (frame_inTurn _ _ _ _) rfl ?_
    exact Frame.refl _ _
  clear_value x1
  clear_value x2
  refine Frame.step (frame_sysFlag _ _) rfl ?_
  refine Frame.ite ?_ ?_
  · assumption
  · refine Frame.step (frame_set_sys _ _) rfl ?_
    assumption

/-- Changes at most latches. -/
theorem frame_latchRead : ∀ (rq : Requester) (reg : Nat) (words : List Word) (s : State), Frame 32 s (latchRead rq reg words s) := by
  intro rq reg words s
  unfold latchRead
  refine Frame.step (frame_set_latches _ _) rfl ?_
  exact Frame.refl _ _

/-- Changes at most held. -/
theorem frame_holdWrite : ∀ (rq : Requester) (reg : Nat) (w : Word) (s : State), Frame 64 s (holdWrite rq reg w s) := by
  intro rq reg w s
  unfold holdWrite
  refine Frame.step (frame_set_held _ _) rfl ?_
  exact Frame.refl _ _

/-- Changes at most held. -/
theorem frame_dropHeld : ∀ (rq : Requester) (s : State), Frame 64 s (dropHeld rq s) := by
  intro rq s
  unfold dropHeld
  refine Frame.step (frame_set_held _ _) rfl ?_
  exact Frame.refl _ _

/-- Changes at most heads. -/
theorem frame_bump : ∀ (b : Block) (off lo n : Nat) (s : State), Frame 16 s (bump b off lo n s) := by
  intro b off lo n s
  unfold bump
  refine Frame.step (frame_modNote _ _ _) rfl ?_
  exact Frame.refl _ _

/-- Changes at most heads, evt, tally. -/
theorem frame_putOrDrop : ∀ (e : Entry) (s : State), Frame 262416 s (putOrDrop e s) := by
  intro e s
  unfold putOrDrop
  refine Frame.ite ?_ ?_
  · extract_lets x1 x2 x3
    have h4 : Frame 262416 s x1 := by
      subst x1
      refine Frame.step (frame_set_tally _ _) rfl ?_
      exact Frame.refl _ _
    clear_value x1
    have h5 : Frame 262416 s x2 := by
      subst x2
      refine Frame.ite ?_ ?_
      · refine Frame.step (frame_setIrq _ _ _) rfl ?_
        assumption
      · assumption
    clear_value x2
    clear_value x3
    refine Frame.ite ?_ ?_
    · refine Frame.step (frame_set_tally _ _) rfl ?_
      assumption
    · assumption
  · refine Frame.step (frame_setIrq _ _ _) rfl ?_
    refine Frame.step (frame_bump _ _ _ _ _) rfl ?_
    refine Frame.step (frame_set_tally _ _) rfl ?_
    exact Frame.refl _ _

/-- Changes at most heads, evt, tally. -/
theorem frame_tallyWrite : ∀ (e : Entry) (s : State), Frame 262416 s (tallyWrite e s) := by
  intro e s
  unfold tallyWrite
  refine Frame.ite ?_ ?_
  · extract_lets x1 x2
    have h3 : Frame 262416 s x1 := by
      subst x1
      refine Frame.step (frame_putOrDrop _ _) rfl ?_
      refine Frame.step (frame_set_tally _ _) rfl ?_
      exact Frame.refl _ _
    clear_value x1
    clear_value x2
    refine Frame.step (frame_putOrDrop _ _) rfl ?_
    refine Frame.step (frame_set_tally _ _) rfl ?_
    assumption
  · refine Frame.step (frame_putOrDrop _ _) rfl ?_
    exact Frame.refl _ _

/-- Changes at most heads, evt, tally. -/
theorem frame_logAt : ∀ (time : DWord) (age code sev : Nat) (loc : Word) (payload : DWord) (s : State),
  Frame 262416 s (logAt time age code sev loc payload s) := by
  intro time age code sev loc payload s
  unfold logAt
  refine Frame.step (frame_tallyWrite _ _) rfl ?_
  exact Frame.refl _ _

/-- Changes at most heads, evt, tally. -/
theorem frame_logEv : ∀ (code sev : Nat) (loc : Word) (payload : DWord) (s : State), Frame 262416 s (logEv code sev loc payload s) := by
  intro code sev loc payload s
  unfold logEv
  refine Frame.step (frame_logAt _ _ _ _ _ _ _) rfl ?_
  exact Frame.refl _ _

/-- Changes what its operand changes, and reports. -/
theorem frame_limited : ∀ {M : Nat} {s0 : State} (key : Nat) (f : State → State) (s : State), (4 ||| M = M) → (Frame M s0 s) → (∀ x, Frame M s0 x → Frame M s0 (f x)) → Frame M s0 (limited key f s) := by
  intro M s0 key f s hM h hf
  unfold limited
  dsimp only
  refine Frame.ite h (hf _ ?_)
  exact Frame.step (frame_set_reports _ _) hM h

/-- Changes at most freeCount. -/
theorem frame_tickFree : ∀ (s : State), Frame 2 s (tickFree s) := by
  intro s
  unfold tickFree
  refine Frame.step (frame_set_freeCount _ _) rfl ?_
  exact Frame.refl _ _

/-- Changes at most time. -/
theorem frame_modTb : ∀ (n : Fin 4) (f : TimeBase → TimeBase) (s : State), Frame 131072 s (modTb n f s) := by
  intro n f s
  unfold modTb
  refine Frame.step (frame_set_time _ _) rfl ?_
  exact Frame.refl _ _

/-- Changes at most rdata. -/
theorem frame_giveRead : ∀ (rq : Requester) (v : Word) (s : State), Frame 8 s (giveRead rq v s) := by
  intro rq v s
  unfold giveRead
  refine Frame.step (frame_set_rdata _ _) rfl ?_
  exact Frame.refl _ _

/-- Changes at most heads, evt, tally. -/
theorem frame_logTb0 : ∀ (time code sev : Nat) (loc : Word) (payload : DWord) (s : State), Frame 262416 s (logTb0 time code sev loc payload s) := by
  intro time code sev loc payload s
  unfold logTb0
  extract_lets x1
  have h2 : Frame 262416 s x1 := by
    subst x1
    refine Frame.step (frame_tallyWrite _ _) rfl ?_
    refine Frame.step (frame_set_tally _ _) rfl ?_
    exact Frame.refl _ _
  clear_value x1
  refine Frame.step (frame_set_tally _ _) rfl ?_
  assumption

/-- Changes at most pwr. -/
theorem frame_restTo : ∀ (ns : Nat) (s : State), Frame 536870912 s (restTo ns s) := by
  intro ns s
  unfold restTo
  refine Frame.step (frame_set_pwr _ _) rfl ?_
  exact Frame.refl _ _

/-- Changes at most time. -/
theorem frame_passTo : ∀ (i : Fin 4) (raw : Nat) (s : State), Frame 131072 s (passTo i raw s) := by
  intro i raw s
  unfold passTo
  refine Frame.step (frame_runCycles _ _) rfl ?_
  exact Frame.refl _ _

/-- Changes at most time. -/
theorem frame_passInTick : ∀ (num den : Nat) (s : State), Frame 131072 s (passInTick num den s) := by
  intro num den s
  unfold passInTick
  extract_lets x1
  clear_value x1
  refine Frame.ite ?_ ?_
  · refine Frame.step (frame_passTo _ _ _) rfl ?_
    exact Frame.refl _ _
  · refine Frame.step (frame_passTo _ _ _) rfl ?_
    exact Frame.refl _ _

/-- Changes at most heads, evt, tally. -/
theorem frame_logAgo : ∀ (age code sev : Nat) (loc : Word) (payload : DWord) (s : State), Frame 262416 s (logAgo age code sev loc payload s) := by
  intro age code sev loc payload s
  unfold logAgo
  refine Frame.step (frame_logAt _ _ _ _ _ _ _) rfl ?_
  exact Frame.refl _ _

/-- Changes at most time. -/
theorem frame_passToNs : ∀ (ns : Nat) (s : State), Frame 131072 s (passToNs ns s) := by
  intro ns s
  unfold passToNs
  refine Frame.step (frame_passTo _ _ _) rfl ?_
  exact Frame.refl _ _

/-- Changes what its operand changes, and heads, time. -/
theorem frame_written : ∀ {M : Nat} {s0 : State} (b : Block) (off : Nat) (rq : Requester) (f : State → State) (s : State), (131088 ||| M = M) → (Frame M s0 s) → (∀ x, Frame M s0 x → Frame M s0 (f x)) → Frame M s0 (written b off rq f s) := by
  intro M s0 b off rq f s hM h hf
  exact hf _ (Frame.step (frame_inTurn _ _ _ _) hM h)

/-- Changes at most heads, sys, evt, time. -/
theorem frame_refuseWrite : ∀ (b : Block) (rq : Requester) (addr : Nat) (s : State), Frame 131472 s (refuseWrite b rq addr s) := by
  intro b rq addr s
  unfold refuseWrite
  split
  · refine Frame.step (frame_setErr _ _ _) rfl ?_
    exact Frame.refl _ _
  · refine Frame.step (frame_reservedWrite _ _ _) rfl ?_
    exact Frame.refl _ _

/-- Changes what its operand changes, and heads, sys, evt, time. -/
theorem frame_wrIf : ∀ {M : Nat} {s0 : State} (b : Block) (ok bad : Bool) (rq : Requester) (addr : Nat) (f : State → State) (s : State), (131472 ||| M = M) → (Frame M s0 s) → (∀ x, Frame M s0 x → Frame M s0 (f x)) → Frame M s0 (wrIf b ok bad rq addr f s) := by
  intro M s0 b ok bad rq addr f s hM h hf
  have ht : Frame M s0 (if bad then reservedWrite rq addr s else s) := by
    refine Frame.ite (Frame.step (frame_reservedWrite _ _ _) ?_ h) h
    rw [← hM, ← Nat.or_assoc]
    rfl
  unfold wrIf
  dsimp only
  refine Frame.ite (Frame.step (frame_refuseWrite _ _ _ _) ?_ ht) (Frame.ite ht (hf s h))
  rw [← hM, ← Nat.or_assoc]
  rfl

/-- Changes what its operand changes, and heads, sys, evt, time. -/
theorem frame_wr : ∀ {M : Nat} {s0 : State} (b : Block) (ok : Bool) (rsv : Word) (rq : Requester) (addr : Nat) (v : Word) (f : State → State) (s : State), (131472 ||| M = M) → (Frame M s0 s) → (∀ x, Frame M s0 x → Frame M s0 (f x)) → Frame M s0 (wr b ok rsv rq addr v f s) := by
  intro M s0 b ok rsv rq addr v f s hM h hf
  exact frame_wrIf _ _ _ _ _ _ _ hM h hf

/-- Changes at most heads, sys, evt, time. -/
theorem frame_headWrite : ∀ (b : Block) (ok : Bool) (rq : Requester) (off : Nat) (v : Word) (s : State), Frame 131472 s (headWrite b ok rq off v s) := by
  intro b ok rq off v s
  unfold headWrite
  extract_lets x1
  clear_value x1
  split
  · refine Frame.ite ?_ ?_
    · exact Frame.refl _ _
    · refine Frame.step (frame_refuseWrite _ _ _ _) rfl ?_
      exact Frame.refl _ _
  · refine frame_wr _ _ _ _ _ _ _ _ rfl ?_ ?_
    · exact Frame.refl _ _
    · intro x2 x3
      refine Frame.step (frame_modHead _ _ _) rfl ?_
      assumption
  · refine frame_wr _ _ _ _ _ _ _ _ rfl ?_ ?_
    · exact Frame.refl _ _
    · intro x4 x5
      refine Frame.step (frame_refreshLine _ _) rfl ?_
      refine Frame.step (frame_modHead _ _ _) rfl ?_
      assumption
  · refine frame_wr _ _ _ _ _ _ _ _ rfl ?_ ?_
    · exact Frame.refl _ _
    · intro x6 x7
      refine Frame.step (frame_modHead _ _ _) rfl ?_
      assumption
  · exact Frame.refl _ _

/-- Changes what its operand changes, and heads. -/
theorem frame_storeCount : ∀ {M : Nat} {s0 : State} (b : Block) (off : Nat) (fields : List (Nat × Nat)) (v : Word) (put : Word → State → State) (s : State), (16 ||| M = M) → (Frame M s0 s) → (∀ w x, Frame M s0 x → Frame M s0 (put w x)) → Frame M s0 (storeCount b off fields v put s) := by
  intro M s0 b off fields v put s hM h hf
  exact Frame.step (frame_modNote _ _ _) hM (hf _ _ h)

/-- Changes at most mem. -/
theorem frame_modBank : ∀ (b : Nat) (f : BankState → BankState) (s : State), Frame 2097152 s (modBank b f s) := by
  intro b f s
  unfold modBank
  refine Frame.step (frame_modMem _ _ (fun m hm => ⟨hm.1, hm.2⟩)) rfl ?_
  exact Frame.refl _ _

/-- Changes at most reports, heads, evt, tally, mem. -/
theorem frame_nonOwner : ∀ (req addr : Nat) (write : Bool) (s : State), Frame 2359572 s (nonOwner req addr write s) := by
  intro req addr write s
  unfold nonOwner
  extract_lets x1 x2 x3 x4
  clear_value x1
  clear_value x2
  have h5 : Frame 2359572 s x3 := by
    subst x3
    refine Frame.step (frame_bump _ _ _ _ _) rfl ?_
    refine Frame.step (frame_modBank _ _ _) rfl ?_
    exact Frame.refl _ _
  clear_value x3
  have h6 : Frame 2359572 s x4 := by
    subst x4
    refine Frame.step (frame_setIrq _ _ _) rfl ?_
    refine Frame.step (frame_setErr _ _ _) rfl ?_
    assumption
  clear_value x4
  refine frame_limited _ _ _ rfl ?_ ?_
  · assumption
  · intro x7 x8
    refine Frame.step (frame_logEv _ _ _ _ _) rfl ?_
    assumption

/-- Changes at most heads, evt, tally, mem. -/
theorem frame_dpLost : ∀ (req addr : Nat) (s : State), Frame 2359568 s (dpLost req addr s) := by
  intro req addr s
  unfold dpLost
  extract_lets x1 x2
  clear_value x1
  have h3 : Frame 2359568 s x2 := by
    subst x2
    refine Frame.step (frame_bump _ _ _ _ _) rfl ?_
    refine Frame.step (frame_modBank _ _ _) rfl ?_
    exact Frame.refl _ _
  clear_value x2
  refine Frame.step (frame_setIrq _ _ _) rfl ?_
  refine Frame.step (frame_logEv _ _ _ _ _) rfl ?_
  assumption

/-- Changes at most heads, evt, tally, mem. -/
theorem frame_logUe : ∀ (req k : Nat) (s : State), Frame 2359568 s (logUe req k s) := by
  intro req k s
  unfold logUe
  extract_lets x1 x2
  have h3 : Frame 2359568 s x1 := by
    subst x1
    refine Frame.step (frame_bump _ _ _ _ _) rfl ?_
    refine Frame.step (frame_modMem _ _ (fun m hm => ⟨hm.1, hm.2⟩)) rfl ?_
    exact Frame.refl _ _
  clear_value x1
  have h4 : Frame 2359568 s x2 := by
    subst x2
    refine Frame.ite ?_ ?_
    · refine Frame.step (frame_bump _ _ _ _ _) rfl ?_
      refine Frame.step (frame_modBank _ _ _) rfl ?_
      assumption
    · assumption
  clear_value x2
  refine Frame.step (frame_setIrq _ _ _) rfl ?_
  refine Frame.step (frame_logEv _ _ _ _ _) rfl ?_
  assumption

/-- Changes at most mem. -/
theorem frame_unmark : ∀ (k : Nat) (s : State), Frame 2097152 s (unmark k s) := by
  intro k s
  unfold unmark
  refine Frame.step (frame_modMem _ _ (fun m hm => ⟨hm.1, hm.2⟩)) rfl ?_
  exact Frame.refl _ _

/-- Changes at most mem. -/
theorem frame_ramPut : ∀ (k : Nat) (bs : List Byte) (s : State), Frame 2097152 s (ramPut k bs s) := by
  intro k bs s
  unfold ramPut
  refine Frame.step (frame_modMem _ _ (fun m hm => ⟨Memory.wf_cellsPut _ _ _ hm.1, hm.2⟩)) rfl ?_
  exact Frame.refl _ _

/-- Changes at most mem. -/
theorem frame_setFlips : ∀ (k : Nat) (f : BitVec 39) (s : State), Frame 2097152 s (setFlips k f s) := by
  intro k f s
  unfold setFlips
  refine Frame.step (frame_modMem _ _ (fun m hm => ⟨hm.1, hm.2⟩)) rfl ?_
  exact Frame.refl _ _

/-- Changes at most heads, evt, tally, mem. -/
theorem frame_logCe : ∀ (k : Nat) (f : BitVec 39) (stuck : Bool) (s : State), Frame 2359568 s (logCe k f stuck s) := by
  intro k f stuck s
  unfold logCe
  extract_lets x1 x2 x3 x4
  have h5 : Frame 2359568 s x1 := by
    subst x1
    refine Frame.step (frame_bump _ _ _ _ _) rfl ?_
    refine Frame.step (frame_modMem _ _ (fun m hm => ⟨hm.1, hm.2⟩)) rfl ?_
    exact Frame.refl _ _
  clear_value x1
  have h6 : Frame 2359568 s x2 := by
    subst x2
    refine Frame.ite ?_ ?_
    · refine Frame.step (frame_bump _ _ _ _ _) rfl ?_
      refine Frame.step (frame_modBank _ _ _) rfl ?_
      assumption
    · assumption
  clear_value x2
  clear_value x3
  have h7 : Frame 2359568 s x4 := by
    subst x4
    refine Frame.ite ?_ ?_
    · refine Frame.step (frame_modBank _ _ _) rfl ?_
      assumption
    · assumption
  clear_value x4
  refine Frame.step (frame_setIrq _ _ _) rfl ?_
  refine Frame.step (frame_logEv _ _ _ _ _) rfl ?_
  assumption

/-- Changes at most heads, evt, tally, mem. -/
theorem frame_oldRead : ∀ (req : Nat) (x : PortWrite) (u : Upset) (s : State), Frame 2359568 s (Prod.snd (oldRead req x u s)) := by
  intro req x u s
  unfold oldRead
  extract_lets x1
  clear_value x1
  split
  · dsimp only
    refine Frame.step (frame_logUe _ _ _) rfl ?_
    exact Frame.refl _ _
  · split
    · exact Frame.refl _ _
    · split
      · dsimp only
        refine Frame.step (frame_logCe _ _ _ _) rfl ?_
        exact Frame.refl _ _
      · dsimp only
        refine Frame.step (frame_logUe _ _ _) rfl ?_
        exact Frame.refl _ _

/-- Changes at most heads, evt, tally, mem. -/
theorem frame_eccRead : ∀ (req k : Nat) (u : Upset) (s : State), Frame 2359568 s (Prod.snd (eccRead req k u s)) := by
  intro req k u s
  unfold eccRead
  extract_lets x1
  clear_value x1
  split
  · refine Frame.step (frame_oldRead _ _ _ _) rfl ?_
    exact Frame.refl _ _
  · split
    · dsimp only
      refine Frame.step (frame_logUe _ _ _) rfl ?_
      exact Frame.refl _ _
    · split
      · exact Frame.refl _ _
      · split
        · dsimp only
          refine Frame.step (frame_logCe _ _ _ _) rfl ?_
          refine Frame.step (frame_setFlips _ _ _) rfl ?_
          exact Frame.refl _ _
        · dsimp only
          refine Frame.step (frame_logUe _ _ _) rfl ?_
          refine Frame.step (frame_modMem _ _ (fun m hm => ⟨hm.1, hm.2⟩)) rfl ?_
          refine Frame.step (frame_setFlips _ _ _) rfl ?_
          exact Frame.refl _ _

/-- Changes at most heads, evt, tally, mem. -/
theorem frame_eccStore : ∀ (req k size : Nat) (bs : List Byte) (u : Upset) (s : State), Frame 2359568 s (eccStore req k size bs u s) := by
  intro req k size bs u s
  unfold eccStore
  extract_lets x1 x2 x3
  clear_value x1
  clear_value x2
  have h4 : Frame 2359568 s x3 := by
    subst x3
    refine Frame.ite ?_ ?_
    · refine Frame.step (frame_logUe _ _ _) rfl ?_
      refine Frame.step (frame_unmark _ _) rfl ?_
      exact Frame.refl _ _
    · exact Frame.refl _ _
  clear_value x3
  refine Frame.ite ?_ ?_
  · refine Frame.step (frame_ramPut _ _ _) rfl ?_
    refine Frame.step (frame_setFlips _ _ _) rfl ?_
    assumption
  · refine Frame.ite ?_ ?_
    · split
      · rename_i n5 n6 n7 n8
        have h9 : Frame 2359568 s n7 := by
          refine Frame.ofEq2 n8 ?_
          refine Frame.step (frame_eccRead _ _ _ _) rfl ?_
          exact Frame.refl _ _
        refine Frame.ite ?_ ?_
        · refine Frame.step (frame_ramPut _ _ _) rfl ?_
          assumption
        · assumption
    · split
      · rename_i n10 n11 n12 n13
        have h14 : Frame 2359568 s n12 := by
          refine Frame.ofEq2 n13 ?_
          refine Frame.step (frame_eccRead _ _ _ _) rfl ?_
          refine Frame.step (frame_setFlips _ _ _) rfl ?_
          exact Frame.refl _ _
        refine Frame.step (frame_setFlips _ _ _) rfl ?_
        refine Frame.ite ?_ ?_
        · refine Frame.step (frame_ramPut _ _ _) rfl ?_
          assumption
        · assumption

/-- Changes at most heads, time, mem. -/
theorem frame_portTurn : ∀ (portB : Bool) (addr : Nat) (s : State), Frame 2228240 s (portTurn portB addr s) := by
  intro portB addr s
  unfold portTurn
  extract_lets x1 x2
  clear_value x1
  have h3 : Frame 2228240 s x2 := by
    subst x2
    refine Frame.step (frame_inTurn _ _ _ _) rfl ?_
    exact Frame.refl _ _
  clear_value x2
  refine Frame.step (frame_modMem _ _ (fun m hm => ⟨hm.1, hm.2⟩)) rfl ?_
  assumption

/-- Changes at most reports, heads, evt, time, tally, mem. -/
theorem frame_bankWrite : ∀ (req addr size : Nat) (bs : List Byte) (u : Upset) (s : State), Frame 2490644 s (bankWrite req addr size bs u s) := by
  intro req addr size bs u s
  unfold bankWrite
  refine Frame.ite ?_ ?_
  · refine Frame.step (frame_nonOwner _ _ _ _) rfl ?_
    exact Frame.refl _ _
  · refine Frame.ite ?_ ?_
    · refine Frame.step (frame_dpLost _ _ _) rfl ?_
      exact Frame.refl _ _
    · refine Frame.step (frame_eccStore _ _ _ _ _ _) rfl ?_
      refine Frame.ite ?_ ?_
      · refine Frame.step (frame_portTurn _ _ _) rfl ?_
        exact Frame.refl _ _
      · exact Frame.refl _ _

/-- Changes at most reports, heads, evt, tally, mem. -/
theorem frame_bankRead : ∀ (req addr size : Nat) (u : Upset) (s : State), Frame 2359572 s (Prod.snd (bankRead req addr size u s)) := by
  intro req addr size u s
  unfold bankRead
  split
  · split
    · rename_i n1 n2 n3 n4 n5
      have h6 : Frame 2359572 s n4 := by
        refine Frame.ofEq2 n5 ?_
        refine Frame.step (frame_eccRead _ _ _ _) rfl ?_
        exact Frame.refl _ _
      assumption
  · dsimp only
    refine Frame.step (frame_nonOwner _ _ _ _) rfl ?_
    exact Frame.refl _ _

/-- Changes at most heads, evt, tally, mem. -/
theorem frame_eccSpan : ∀ (req k words : Nat) (s : State), Frame 2359568 s (Prod.snd (eccSpan req k words s)) := by
  intro req k words s
  unfold eccSpan
  refine Frame.foldlP (fun r1 k2 h3 => ?_) ?_
  · extract_lets x4
    have h5 : Frame 2359568 s x4.2 := by
      subst x4
      refine Frame.step (frame_eccRead _ _ _ _) rfl ?_
      assumption
    clear_value x4
    assumption
  · exact Frame.refl _ _

/-- Changes at most mem. -/
theorem frame_mramPut : ∀ (off : Nat) (bs : List Byte) (s : State), Frame 2097152 s (mramPut off bs s) := by
  intro off bs s
  unfold mramPut
  refine Frame.step (frame_modMem _ _ (fun m hm => ⟨hm.1, Memory.wf_cellsPut _ _ _ hm.2⟩)) rfl ?_
  exact Frame.refl _ _

/-- Changes at most heads, evt, tally, mem. -/
theorem frame_mwWord : ∀ (s : State), Frame 2359568 s (mwWord s) := by
  intro s
  unfold mwWord
  extract_lets x1 x2
  clear_value x1
  clear_value x2
  split
  · refine Frame.step (frame_setIrq _ _ _) rfl ?_
    refine Frame.step (frame_logEv _ _ _ _ _) rfl ?_
    refine Frame.step (frame_modMem _ _ (fun m hm => ⟨hm.1, hm.2⟩)) rfl ?_
    exact Frame.refl _ _
  · extract_lets x3 x4
    have h5 : Frame 2359568 s x3.2 := by
      subst x3
      refine Frame.step (frame_eccSpan _ _ _ _) rfl ?_
      exact Frame.refl _ _
    clear_value x3
    have h6 : Frame 2359568 s x4 := by
      subst x4
      refine Frame.ite ?_ ?_
      · refine Frame.step (frame_mramPut _ _ _) rfl ?_
        assumption
      · assumption
    clear_value x4
    refine Frame.step (frame_modMem _ _ (fun m hm => ⟨hm.1, hm.2⟩)) rfl ?_
    assumption

/-- Changes at most heads, evt, tally, mem. -/
theorem frame_mwTo : ∀ (n : Nat) (s : State), Frame 2359568 s (mwTo n s) := by
  intro n s
  unfold mwTo
  refine Frame.foldl (fun x1 k2 h3 => ?_) ?_
  · refine Frame.ite ?_ ?_
    · refine Frame.step (frame_mwWord _) rfl ?_
      assumption
    · assumption
  · exact Frame.refl _ _

/-- Changes at most heads, evt, tally, mem. -/
theorem frame_mwAt : ∀ (t : Nat) (s : State), Frame 2359568 s (mwAt t s) := by
  intro t s
  unfold mwAt
  refine Frame.ite ?_ ?_
  · refine Frame.step (frame_mwTo _ _) rfl ?_
    exact Frame.refl _ _
  · exact Frame.refl _ _

/-- Changes at most mem. -/
theorem frame_keepStep : ∀ (s : State), Frame 2097152 s (keepStep s) := by
  intro s
  unfold keepStep
  refine Frame.step (frame_modMem _ _ (fun m hm => by split <;> exact hm)) rfl ?_
  exact Frame.refl _ _

/-- Changes at most freeCount, rdata, heads, evt, tally, mem. -/
theorem frame_doKeepdataAccess : ∀ (rq : Requester) (w : Option Word) (s : State), Frame 2359578 s (doKeepdataAccess rq w s) := by
  intro rq w s
  unfold doKeepdataAccess
  extract_lets x1 x2
  clear_value x1
  have h3 : Frame 2359578 s x2.2 := by
    subst x2
    refine Frame.step (frame_eccRead _ _ _ _) rfl ?_
    exact Frame.refl _ _
  clear_value x2
  split
  · refine Frame.ite ?_ ?_
    · refine Frame.ite ?_ ?_
      · refine Frame.step (frame_keepStep _) rfl ?_
        refine Frame.step (frame_giveRead _ _ _) rfl ?_
        assumption
      · refine Frame.step (frame_keepStep _) rfl ?_
        refine Frame.step (frame_tickFree _) rfl ?_
        refine Frame.step (frame_giveRead _ _ _) rfl ?_
        assumption
    · refine Frame.step (frame_giveRead _ _ _) rfl ?_
      refine Frame.step (frame_setErr _ _ _) rfl ?_
      exact Frame.refl _ _
  · refine Frame.ite ?_ ?_
    · refine Frame.step (frame_keepStep _) rfl ?_
      refine Frame.step (frame_eccStore _ _ _ _ _ _) rfl ?_
      exact Frame.refl _ _
    · refine Frame.step (frame_setErr _ _ _) rfl ?_
      exact Frame.refl _ _

/-- Changes at most heads, evt, tally, mem. -/
theorem frame_mwNow : ∀ (s : State), Frame 2359568 s (mwNow s) := by
  intro s
  unfold mwNow
  refine Frame.step (frame_mwAt _ _) rfl ?_
  exact Frame.refl _ _

/-- Changes at most mem. -/
theorem frame_handOver : ∀ (id b new : Nat) (s : State), Frame 2097152 s (handOver id b new s) := by
  intro id b new s
  unfold handOver
  extract_lets x1
  clear_value x1
  refine Frame.ite ?_ ?_
  · exact Frame.refl _ _
  · refine Frame.step (frame_modBank _ _ _) rfl ?_
    exact Frame.refl _ _

/-- Changes at most heads, sys, evt, time, tally, mem. -/
theorem frame_doBankOwnerWrite : ∀ (rq : Requester) (b : Fin 18) (v : Word) (s : State), Frame 2490768 s (doBankOwnerWrite rq b v s) := by
  intro rq b v s
  unfold doBankOwnerWrite
  refine Frame.ite ?_ ?_
  · refine Frame.step (frame_reservedWrite _ _ _) rfl ?_
    exact Frame.refl _ _
  · extract_lets x1 x2 x3
    clear_value x1
    clear_value x2
    have h4 : Frame 2490768 s x3 := by
      subst x3
      refine Frame.ite ?_ ?_
      · refine Frame.step (frame_reservedWrite _ _ _) rfl ?_
        exact Frame.refl _ _
      · exact Frame.refl _ _
    clear_value x3
    refine Frame.ite ?_ ?_
    · refine Frame.step (frame_setErr _ _ _) rfl ?_
      assumption
    · refine Frame.ite ?_ ?_
      · assumption
      · refine Frame.step (frame_logEv _ _ _ _ _) rfl ?_
        refine Frame.step (frame_handOver _ _ _ _) rfl ?_
        exact Frame.refl _ _

/-- Changes what its operand changes. -/
theorem frame_putWords : ∀ {M : Nat} {s0 : State} (write : Nat → List Byte → State → State) (a : Nat) (bs : List Byte) (s : State), (Frame M s0 s) → (∀ k w x, Frame M s0 x → Frame M s0 (write k w x)) → Frame M s0 (putWords write a bs s) := by
  intro M s0 write a bs s h hf
  exact Frame.foldl (fun x k hx => hf _ _ _ hx) h

/-- Changes at most heads, evt, tally, mem. -/
theorem frame_spareRow : ∀ (b row : Nat) (s : State), Frame 2359568 s (spareRow b row s) := by
  intro b row s
  unfold spareRow
  extract_lets x1 x2
  clear_value x1
  have h3 : Frame 2359568 s x2 := by
    subst x2
    refine Frame.step (frame_modBank _ _ _) rfl ?_
    exact Frame.refl _ _
  clear_value x2
  refine Frame.ite ?_ ?_
  · refine Frame.step (frame_setIrq _ _ _) rfl ?_
    refine Frame.step (frame_logEv _ _ _ _ _) rfl ?_
    assumption
  · refine Frame.step (frame_setIrq _ _ _) rfl ?_
    refine Frame.step (frame_logEv _ _ _ _ _) rfl ?_
    exact Frame.refl _ _

/-- Changes at most heads, evt, tally, mem. -/
theorem frame_rowWriteBack : ∀ (rowOk : Bool) (s : State), Frame 2359568 s (rowWriteBack rowOk s) := by
  intro rowOk s
  unfold rowWriteBack
  refine Frame.ite ?_ ?_
  · exact Frame.refl _ _
  · extract_lets x1 x2 x3 x4
    clear_value x1
    clear_value x2
    clear_value x3
    have h5 : Frame 2359568 s x4 := by
      subst x4
      refine Frame.ite ?_ ?_
      · exact Frame.refl _ _
      · refine Frame.step (frame_spareRow _ _ _) rfl ?_
        exact Frame.refl _ _
    clear_value x4
    refine Frame.step (frame_modMem _ _ (fun m hm => ⟨hm.1, hm.2⟩)) rfl ?_
    assumption

/-- Changes at most freeCount, rdata, heads, evt, time, tally, mem. -/
theorem frame_doKeepdataRow : ∀ (rq : Requester) (w : Option Word) (s : State), Frame 2490650 s (doKeepdataRow rq w s) := by
  intro rq w s
  unfold doKeepdataRow
  split
  · refine Frame.step (frame_doKeepdataAccess _ _ _) rfl ?_
    exact Frame.refl _ _
  · refine frame_written _ _ _ _ _ rfl ?_ ?_
    · exact Frame.refl _ _
    · intro x1 x2
      refine Frame.step (frame_doKeepdataAccess _ _ _) rfl ?_
      assumption

/-- Changes at most freeCount, heads, evt, tally, mem. -/
theorem frame_rowTestStart : ∀ (s : State), Frame 2359570 s (rowTestStart s) := by
  intro s
  unfold rowTestStart
  extract_lets x1 x2 x3
  clear_value x1
  clear_value x2
  have h4 : Frame 2359570 s x3 := by
    subst x3
    refine Frame.foldl (fun x5 k6 h7 => ?_) ?_
    · refine Frame.step (frame_tickFree _) rfl ?_
      refine Frame.step (frame_eccRead _ _ _ _) rfl ?_
      assumption
    · exact Frame.refl _ _
  clear_value x3
  refine Frame.step (frame_modMem _ _ (fun m hm => ⟨hm.1, hm.2⟩)) rfl ?_
  assumption

/-- Changes at most heads, evt, tally. -/
theorem frame_pertDenied : ∀ (k : Nat) (s : State), Frame 262416 s (pertDenied k s) := by
  intro k s
  unfold pertDenied
  refine Frame.step (frame_setIrq _ _ _) rfl ?_
  refine Frame.step (frame_logEv _ _ _ _ _) rfl ?_
  refine Frame.step (frame_setErr _ _ _) rfl ?_
  exact Frame.refl _ _

/-- Changes at most pert. -/
theorem frame_modPert : ∀ (f : PertBlk → PertBlk) (s : State), Frame 16777216 s (modPert f s) := by
  intro f s
  unfold modPert
  refine Frame.step (frame_set_pert _ _) rfl ?_
  exact Frame.refl _ _

/-- Changes at most heads, evt, tally, pert. -/
theorem frame_pertWrite : ∀ (rq : Requester) (k : Nat) (f : PertBlk → PertBlk) (s : State), Frame 17039632 s (pertWrite rq k f s) := by
  intro rq k f s
  unfold pertWrite
  refine Frame.ite ?_ ?_
  · refine Frame.step (frame_setErr _ _ _) rfl ?_
    exact Frame.refl _ _
  · split
    · refine Frame.step (frame_pertDenied _ _) rfl ?_
      exact Frame.refl _ _
    · refine Frame.step (frame_modPert _ _) rfl ?_
      exact Frame.refl _ _

/-- Changes at most heads, evt, tally, pert. -/
theorem frame_pertHit : ∀ (k n : Nat) (s : State), Frame 17039632 s (pertHit k n s) := by
  intro k n s
  unfold pertHit
  refine Frame.ite ?_ ?_
  · exact Frame.refl _ _
  · extract_lets x1 x2
    clear_value x1
    have h3 : Frame 17039632 s x2 := by
      subst x2
      refine Frame.step (frame_bump _ _ _ _ _) rfl ?_
      refine Frame.step (frame_modPert _ _) rfl ?_
      exact Frame.refl _ _
    clear_value x2
    refine Frame.ite ?_ ?_
    · refine Frame.step (frame_logEv _ _ _ _ _) rfl ?_
      assumption
    · assumption

/-- Changes at most heads, sys, evt, time, tally, pert. -/
theorem frame_doPertEnable : ∀ (rq : Requester) (v : Word) (s : State), Frame 17170832 s (doPertEnable rq v s) := by
  intro rq v s
  unfold doPertEnable
  refine frame_wrIf _ _ _ _ _ _ _ rfl ?_ ?_
  · exact Frame.refl _ _
  · intro x1 x2
    extract_lets x3 x4
    clear_value x3
    clear_value x4
    split
    · refine Frame.step (frame_pertDenied _ _) rfl ?_
      assumption
    · refine Frame.step (frame_logEv _ _ _ _ _) rfl ?_
      refine Frame.step (frame_modPert _ _) rfl ?_
      assumption

/-- Changes at most heads, sys, evt, time, tally, mem, pert. -/
theorem frame_doPertMemctlGo : ∀ (rq : Requester) (v : Word) (s : State), Frame 19267984 s (doPertMemctlGo rq v s) := by
  intro rq v s
  unfold doPertMemctlGo
  extract_lets x1 x2
  clear_value x1
  clear_value x2
  refine frame_wrIf _ _ _ _ _ _ _ rfl ?_ ?_
  · exact Frame.refl _ _
  · intro x3 x4
    extract_lets x5 x6 x7
    clear_value x5
    clear_value x6
    have h8 : Frame 19267984 s x7 := by
      subst x7
      refine Frame.step (frame_modPert _ _) rfl ?_
      assumption
    clear_value x7
    split
    · refine Frame.step (frame_pertDenied _ _) rfl ?_
      assumption
    · refine Frame.ite ?_ ?_
      · refine Frame.step (frame_pertHit _ _ _) rfl ?_
        refine Frame.step (frame_modPert _ _) rfl ?_
        refine Frame.step (frame_setFlips _ _ _) rfl ?_
        assumption
      · assumption

/-- Changes at most freeCount, heads, evt, tally, pert. -/
theorem frame_pertTick : ∀ (s : State), Frame 17039634 s (pertTick s) := by
  intro s
  unfold pertTick
  extract_lets x1 x2 x3 x4 x5
  clear_value x1
  clear_value x2
  clear_value x3
  clear_value x4
  have h6 : Frame 17039634 s x5 := by
    subst x5
    refine Frame.step (frame_tickFree _) rfl ?_
    refine Frame.step (frame_modPert _ _) rfl ?_
    exact Frame.refl _ _
  clear_value x5
  refine Frame.ite ?_ ?_
  · refine Frame.step (frame_pertHit _ _ _) rfl ?_
    assumption
  · assumption

/-- Changes at most sol. -/
theorem frame_modSol : ∀ (k : Fin 16) (f : SolState → SolState) (s : State), Frame 8192 s (modSol k f s) := by
  intro k f s
  unfold modSol
  refine Frame.step (frame_set_sol _ _) rfl ?_
  exact Frame.refl _ _

/-- Changes at most sol. -/
theorem frame_solTurnOff : ∀ (k : Fin 16) (s : State), Frame 8192 s (solTurnOff k s) := by
  intro k s
  unfold solTurnOff
  extract_lets x1
  clear_value x1
  refine Frame.step (frame_modSol _ _ _) rfl ?_
  exact Frame.refl _ _

/-- Changes at most heads, evt, tally. -/
theorem frame_logSol : ∀ (k : Fin 16) (code sev : Nat) (payload : DWord) (s : State), Frame 262416 s (logSol k code sev payload s) := by
  intro k code sev payload s
  unfold logSol
  refine Frame.step (frame_logEv _ _ _ _ _) rfl ?_
  exact Frame.refl _ _

/-- Changes at most heads, evt, sol, tally. -/
theorem frame_solAbort : ∀ (k : Fin 16) (s : State), Frame 270608 s (solAbort k s) := by
  intro k s
  unfold solAbort
  extract_lets x1 x2 x3 x4
  clear_value x1
  clear_value x2
  clear_value x3
  have h5 : Frame 270608 s x4 := by
    subst x4
    refine Frame.step (frame_solTurnOff _ _) rfl ?_
    refine Frame.step (frame_modSol _ _ _) rfl ?_
    exact Frame.refl _ _
  clear_value x4
  refine Frame.ite ?_ ?_
  · refine Frame.step (frame_logSol _ _ _ _ _) rfl ?_
    assumption
  · exact Frame.refl _ _

/-- Changes at most sol. -/
theorem frame_solBeginPeak : ∀ (k : Fin 16) (p : Nat) (s : State), Frame 8192 s (solBeginPeak k p s) := by
  intro k p s
  unfold solBeginPeak
  refine Frame.step (frame_modSol _ _ _) rfl ?_
  exact Frame.refl _ _

/-- Changes at most heads, evt, sol, tally. -/
theorem frame_solEndHold : ∀ (k : Fin 16) (s : State), Frame 270608 s (solEndHold k s) := by
  intro k s
  unfold solEndHold
  extract_lets x1 x2
  clear_value x1
  clear_value x2
  refine Frame.ite ?_ ?_
  · refine Frame.ite ?_ ?_
    · refine Frame.step (frame_modSol _ _ _) rfl ?_
      exact Frame.refl _ _
    · refine Frame.step (frame_solBeginPeak _ _ _) rfl ?_
      exact Frame.refl _ _
  · refine Frame.step (frame_logSol _ _ _ _ _) rfl ?_
    refine Frame.step (frame_solTurnOff _ _) rfl ?_
    exact Frame.refl _ _

/-- Changes at most heads, evt, sol, tally. -/
theorem frame_solHoldOver : ∀ (k : Fin 16) (s : State), Frame 270608 s (solHoldOver k s) := by
  intro k s
  unfold solHoldOver
  extract_lets x1
  clear_value x1
  refine Frame.ite ?_ ?_
  · refine Frame.step (frame_solEndHold _ _) rfl ?_
    exact Frame.refl _ _
  · exact Frame.refl _ _

/-- Changes at most heads, evt, sol, tally. -/
theorem frame_solReleaseQueued : ∀ (k : Fin 16) (s : State), Frame 270608 s (solReleaseQueued k s) := by
  intro k s
  unfold solReleaseQueued
  split
  · refine Frame.ite ?_ ?_
    · refine Frame.step (frame_logSol _ _ _ _ _) rfl ?_
      refine Frame.step (frame_modSol _ _ _) rfl ?_
      exact Frame.refl _ _
    · exact Frame.refl _ _
  · exact Frame.refl _ _

/-- Changes at most heads, evt, sol, tally. -/
theorem frame_solRequest : ∀ (k : Fin 16) (w : Word) (s : State), Frame 270608 s (solRequest k w s) := by
  intro k w s
  unfold solRequest
  extract_lets x1 x2 x3
  clear_value x1
  clear_value x2
  have h4 : Frame 270608 s x3 := by
    subst x3
    split
    · refine Frame.step (frame_logSol _ _ _ _ _) rfl ?_
      exact Frame.refl _ _
    · exact Frame.refl _ _
  clear_value x3
  refine Frame.step (frame_modSol _ _ _) rfl ?_
  assumption

/-- Changes at most heads, evt, sol, tally. -/
theorem frame_solCommit : ∀ (k : Fin 16) (new : Word) (s : State), Frame 270608 s (solCommit k new s) := by
  intro k new s
  unfold solCommit
  extract_lets x1 x2 x3
  clear_value x1
  have h4 : Frame 270608 s x2 := by
    subst x2
    refine Frame.step (frame_modSol _ _ _) rfl ?_
    exact Frame.refl _ _
  clear_value x2
  have h5 : Frame 270608 s x3 := by
    subst x3
    refine Frame.step (frame_solHoldOver _ _) rfl ?_
    assumption
  clear_value x3
  refine Frame.ite ?_ ?_
  · refine Frame.ite ?_ ?_
    · assumption
    · refine Frame.step (frame_solAbort _ _) rfl ?_
      assumption
  · refine Frame.ite ?_ ?_
    · refine Frame.step (frame_solReleaseQueued _ _) rfl ?_
      assumption
    · refine Frame.ite ?_ ?_
      · assumption
      · refine Frame.step (frame_solRequest _ _ _) rfl ?_
        assumption

/-- Changes at most heads. -/
theorem frame_bumpDrop : ∀ (k : Fin 16) (s : State), Frame 16 s (bumpDrop k s) := by
  intro k s
  unfold bumpDrop
  refine Frame.step (frame_bump _ _ _ _ _) rfl ?_
  exact Frame.refl _ _

/-- Changes at most heads. -/
theorem frame_solFlag : ∀ (k : Fin 16) (i : Nat) (s : State), Frame 16 s (solFlag k i s) := by
  intro k i s
  unfold solFlag
  refine Frame.step (frame_hwBit _ _ _ _) rfl ?_
  exact Frame.refl _ _

/-- Changes at most heads, evt, sol, time, tally. -/
theorem frame_doCoilOpen : ∀ (k : Fin 16) (imax : Half) (s : State), Frame 401680 s (doCoilOpen k imax s) := by
  intro k imax s
  unfold doCoilOpen
  extract_lets x1 x2 x3 x4
  clear_value x1
  clear_value x2
  have h5 : Frame 401680 s x3 := by
    subst x3
    refine Frame.ite ?_ ?_
    · refine Frame.step (frame_passToNs _ _) rfl ?_
      exact Frame.refl _ _
    · exact Frame.refl _ _
  clear_value x3
  have h6 : Frame 401680 s x4 := by
    subst x4
    refine Frame.step (frame_solFlag _ _ _) rfl ?_
    refine Frame.step (frame_modSol _ _ _) rfl ?_
    assumption
  clear_value x4
  refine Frame.ite ?_ ?_
  · refine Frame.step (frame_setIrq _ _ _) rfl ?_
    refine Frame.step (frame_logSol _ _ _ _ _) rfl ?_
    assumption
  · exact Frame.refl _ _

/-- Changes at most heads, evt, sol, tally. -/
theorem frame_doDrvShort : ∀ (k : Fin 16) (current : Half) (s : State), Frame 270608 s (doDrvShort k current s) := by
  intro k current s
  unfold doDrvShort
  extract_lets x1 x2
  clear_value x1
  have h3 : Frame 270608 s x2 := by
    subst x2
    refine Frame.step (frame_solFlag _ _ _) rfl ?_
    refine Frame.step (frame_modSol _ _ _) rfl ?_
    exact Frame.refl _ _
  clear_value x2
  refine Frame.ite ?_ ?_
  · refine Frame.step (frame_setIrq _ _ _) rfl ?_
    refine Frame.step (frame_logSol _ _ _ _ _) rfl ?_
    assumption
  · exact Frame.refl _ _

/-- Changes at most heads, evt, sol, time, tally. -/
theorem frame_doEventEnd : ∀ (k : Fin 16) (s : State), Frame 401680 s (doEventEnd k s) := by
  intro k s
  unfold doEventEnd
  extract_lets x1 x2
  clear_value x1
  clear_value x2
  refine Frame.ite ?_ ?_
  · refine Frame.ite ?_ ?_
    · refine Frame.step (frame_solHoldOver _ _) rfl ?_
      exact Frame.refl _ _
    · refine Frame.step (frame_solEndHold _ _) rfl ?_
      refine Frame.step (frame_passToNs _ _) rfl ?_
      exact Frame.refl _ _
  · exact Frame.refl _ _

/-- Changes at most heads, evt, sol, tally. -/
theorem frame_solFeedLost : ∀ (k : Fin 16) (s : State), Frame 270608 s (solFeedLost k s) := by
  intro k s
  unfold solFeedLost
  extract_lets x1 x2 x3 x4
  clear_value x1
  clear_value x2
  have h5 : Frame 270608 s x3 := by
    subst x3
    refine Frame.step (frame_bumpDrop _ _) rfl ?_
    refine Frame.step (frame_solFlag _ _ _) rfl ?_
    refine Frame.step (frame_modSol _ _ _) rfl ?_
    exact Frame.refl _ _
  clear_value x3
  have h6 : Frame 270608 s x4 := by
    subst x4
    refine Frame.ite ?_ ?_
    · refine Frame.step (frame_solTurnOff _ _) rfl ?_
      assumption
    · assumption
  clear_value x4
  refine Frame.ite ?_ ?_
  · refine Frame.step (frame_setIrq _ _ _) rfl ?_
    refine Frame.step (frame_logSol _ _ _ _ _) rfl ?_
    assumption
  · exact Frame.refl _ _

/-- Changes at most heads, evt, sol, tally. -/
theorem frame_loseFeed : ∀ (feed : Nat) (s : State), Frame 270608 s (loseFeed feed s) := by
  intro feed s
  unfold loseFeed
  refine Frame.foldl (fun x1 k2 h3 => ?_) ?_
  · refine Frame.ite ?_ ?_
    · refine Frame.step (frame_solFeedLost _ _) rfl ?_
      assumption
    · assumption
  · exact Frame.refl _ _

/-- Changes at most heads, evt, tally. -/
theorem frame_doFeedLeak : ∀ (hs : Fin 96) (current : Half) (s : State), Frame 262416 s (doFeedLeak hs current s) := by
  intro hs current s
  unfold doFeedLeak
  extract_lets x1 x2 x3
  clear_value x1
  clear_value x2
  clear_value x3
  refine Frame.ite ?_ ?_
  · refine Frame.step (frame_setIrq _ _ _) rfl ?_
    refine Frame.step (frame_logEv _ _ _ _ _) rfl ?_
    exact Frame.refl _ _
  · exact Frame.refl _ _

/-- Changes at most heads, evt, sol, tally. -/
theorem frame_solLateDrop : ∀ (k : Fin 16) (ev : SolEvent) (s : State), Frame 270608 s (solLateDrop k ev s) := by
  intro k ev s
  unfold solLateDrop
  extract_lets x1
  have h2 : Frame 270608 s x1 := by
    subst x1
    refine Frame.step (frame_bumpDrop _ _) rfl ?_
    refine Frame.step (frame_modSol _ _ _) rfl ?_
    exact Frame.refl _ _
  clear_value x1
  refine Frame.step (frame_setIrq _ _ _) rfl ?_
  refine Frame.step (frame_logSol _ _ _ _ _) rfl ?_
  assumption

/-- Changes at most heads, evt, sol, time, tally. -/
theorem frame_doLateDrop : ∀ (k : Fin 16) (s : State), Frame 401680 s (doLateDrop k s) := by
  intro k s
  unfold doLateDrop
  split
  · exact Frame.refl _ _
  · extract_lets x1
    clear_value x1
    refine Frame.ite ?_ ?_
    · exact Frame.refl _ _
    · refine Frame.step (frame_solLateDrop _ _ _) rfl ?_
      refine Frame.step (frame_passToNs _ _) rfl ?_
      exact Frame.refl _ _

/-- Changes at most sol, time. -/
theorem frame_doMinoffEnd : ∀ (k : Fin 16) (s : State), Frame 139264 s (doMinoffEnd k s) := by
  intro k s
  unfold doMinoffEnd
  extract_lets x1
  clear_value x1
  refine Frame.ite ?_ ?_
  · refine Frame.step (frame_modSol _ _ _) rfl ?_
    refine Frame.step (frame_passToNs _ _) rfl ?_
    exact Frame.refl _ _
  · exact Frame.refl _ _

/-- Changes at most heads, evt, sol, tally. -/
theorem frame_doMove : ∀ (k : Fin 16) (tmax tmin : Word) (imax imin vfStart vfMin : Half) (s : State),
  Frame 270608 s (doMove k tmax tmin imax imin vfStart vfMin s) := by
  intro k tmax tmin imax imin vfStart vfMin s
  unfold doMove
  extract_lets x1 x2 x3 x4
  clear_value x1
  clear_value x2
  have h5 : Frame 270608 s x3 := by
    subst x3
    refine Frame.step (frame_modSol _ _ _) rfl ?_
    exact Frame.refl _ _
  clear_value x3
  clear_value x4
  refine Frame.ite ?_ ?_
  · refine Frame.step (frame_setIrq _ _ _) rfl ?_
    refine Frame.step (frame_logAt _ _ _ _ _ _ _) rfl ?_
    assumption
  · exact Frame.refl _ _

/-- Changes at most heads, evt, sol, time, tally. -/
theorem frame_doNoMove : ∀ (k : Fin 16) (imax : Half) (s : State), Frame 401680 s (doNoMove k imax s) := by
  intro k imax s
  unfold doNoMove
  extract_lets x1 x2 x3 x4
  clear_value x1
  clear_value x2
  have h5 : Frame 401680 s x3 := by
    subst x3
    refine Frame.ite ?_ ?_
    · refine Frame.step (frame_passToNs _ _) rfl ?_
      exact Frame.refl _ _
    · exact Frame.refl _ _
  clear_value x3
  have h6 : Frame 401680 s x4 := by
    subst x4
    refine Frame.step (frame_modSol _ _ _) rfl ?_
    assumption
  clear_value x4
  refine Frame.ite ?_ ?_
  · refine Frame.step (frame_setIrq _ _ _) rfl ?_
    refine Frame.step (frame_logSol _ _ _ _ _) rfl ?_
    assumption
  · exact Frame.refl _ _

/-- Changes at most heads, evt, sol, time, tally. -/
theorem frame_doPeakEnd : ∀ (k : Fin 16) (s : State), Frame 401680 s (doPeakEnd k s) := by
  intro k s
  unfold doPeakEnd
  extract_lets x1 x2
  clear_value x1
  have h3 : Frame 401680 s x2 := by
    subst x2
    refine Frame.step (frame_passToNs _ _) rfl ?_
    exact Frame.refl _ _
  clear_value x2
  refine Frame.ite ?_ ?_
  · refine Frame.step (frame_solHoldOver _ _) rfl ?_
    refine Frame.step (frame_modSol _ _ _) rfl ?_
    assumption
  · exact Frame.refl _ _

/-- Changes at most heads, evt, sol, tally. -/
theorem frame_solStart : ∀ (k : Fin 16) (ev : SolEvent) (s : State), Frame 270608 s (solStart k ev s) := by
  intro k ev s
  unfold solStart
  extract_lets x1 x2
  have h3 : Frame 270608 s x1 := by
    subst x1
    refine Frame.step (frame_solBeginPeak _ _ _) rfl ?_
    refine Frame.step (frame_modSol _ _ _) rfl ?_
    exact Frame.refl _ _
  clear_value x1
  have h4 : Frame 270608 s x2 := by
    subst x2
    refine Frame.step (frame_modSol _ _ _) rfl ?_
    assumption
  clear_value x2
  refine Frame.step (frame_logSol _ _ _ _ _) rfl ?_
  refine Frame.step (frame_bump _ _ _ _ _) rfl ?_
  assumption

/-- Changes at most heads, evt, sol, time, tally. -/
theorem frame_doSolEventStart : ∀ (k : Fin 16) (s : State), Frame 401680 s (doSolEventStart k s) := by
  intro k s
  unfold doSolEventStart
  extract_lets x1 x2 x3
  clear_value x1
  clear_value x2
  clear_value x3
  split
  · refine Frame.ite ?_ ?_
    · exact Frame.refl _ _
    · refine Frame.step (frame_solBeginPeak _ _ _) rfl ?_
      exact Frame.refl _ _
  · split
    · exact Frame.refl _ _
    · refine Frame.ite ?_ ?_
      · refine Frame.step (frame_solFeedLost _ _) rfl ?_
        refine Frame.step (frame_passToNs _ _) rfl ?_
        exact Frame.refl _ _
      · refine Frame.ite ?_ ?_
        · exact Frame.refl _ _
        · extract_lets x4 x5 x6
          have h7 : Frame 401680 s x4 := by
            subst x4
            refine Frame.step (frame_passToNs _ _) rfl ?_
            exact Frame.refl _ _
          clear_value x4
          have h8 : Frame 401680 s x5 := by
            subst x5
            refine Frame.step (frame_passToNs _ _) rfl ?_
            assumption
          clear_value x5
          clear_value x6
          refine Frame.ite ?_ ?_
          · exact Frame.refl _ _
          · refine Frame.ite ?_ ?_
            · exact Frame.refl _ _
            · refine Frame.ite ?_ ?_
              · refine Frame.step (frame_solLateDrop _ _ _) rfl ?_
                assumption
              · refine Frame.step (frame_solStart _ _ _) rfl ?_
                assumption

/-- Changes at most heads, evt, tally. -/
theorem frame_doSolFwMissing : ∀ (k : Fin 16) (current : Half) (s : State), Frame 262416 s (doSolFwMissing k current s) := by
  intro k current s
  unfold doSolFwMissing
  refine Frame.step (frame_setIrq _ _ _) rfl ?_
  refine Frame.step (frame_logSol _ _ _ _ _) rfl ?_
  exact Frame.refl _ _

end Sys2Proof.Machine
end

