-- ==== Sys2Proof/Laws/Frames/LaneOps.lean ====
section
/-! SUPPORT. Frames of the operations of Machine/Switches, Lighting, Inputs, CommandPath, Hurdle. -/

namespace Sys2Proof.Machine

set_option maxRecDepth 10000

/-- Changes at most hsw. -/
theorem frame_modHs : ∀ (k : Fin 96) (f : HsState → HsState) (s : State), Frame 4096 s (modHs k f s) := by
  intro k f s
  unfold modHs
  refine Frame.step (frame_set_hsw _ _) rfl ?_
  exact Frame.refl _ _

/-- Changes at most hsw. -/
theorem frame_modGroup : ∀ (k : Fin 96) (f : HsState → HsState) (s : State), Frame 4096 s (modGroup k f s) := by
  intro k f s
  unfold modGroup
  refine Frame.foldl (fun x1 k2 h3 => ?_) ?_
  · refine Frame.step (frame_modHs _ _ _) rfl ?_
    assumption
  · exact Frame.refl _ _

/-- Changes at most heads, evt, tally. -/
theorem frame_logLead : ∀ (k : Fin 96) (code sev : Nat) (payload : DWord) (s : State), Frame 262416 s (logLead k code sev payload s) := by
  intro k code sev payload s
  unfold logLead
  refine Frame.step (frame_logEv _ _ _ _ _) rfl ?_
  exact Frame.refl _ _

/-- Changes at most heads, evt, hsw, tally. -/
theorem frame_hsReenable : ∀ (k : Fin 96) (s : State), Frame 266512 s (hsReenable k s) := by
  intro k s
  unfold hsReenable
  extract_lets x1 x2
  clear_value x1
  split
  · refine Frame.step (frame_logLead _ _ _ _ _) rfl ?_
    dsimp only [x2]
    refine Frame.step (frame_modGroup _ _ _) rfl ?_
    exact Frame.refl _ _
  · refine Frame.ite ?_ ?_
    · refine Frame.step (frame_logLead _ _ _ _ _) rfl ?_
      dsimp only [x2]
      refine Frame.step (frame_modGroup _ _ _) rfl ?_
      exact Frame.refl _ _
    · refine Frame.step (frame_setErr _ _ _) rfl ?_
      refine Frame.step (frame_logLead _ _ _ _ _) rfl ?_
      exact Frame.refl _ _
  · exact Frame.refl _ _

/-- Changes at most heads, evt, hsw, tally. -/
theorem frame_doReenable : ∀ (rq : Requester) (k : Fin 96) (s : State), Frame 266512 s (doReenable rq k s) := by
  intro rq k s
  unfold doReenable
  refine Frame.ite ?_ ?_
  · refine Frame.step (frame_hsReenable _ _) rfl ?_
    exact Frame.refl _ _
  · refine Frame.step (frame_setErr _ _ _) rfl ?_
    exact Frame.refl _ _

/-- Changes at most heads, hsw. -/
theorem frame_doHswClrcnt : ∀ (rq : Requester) (k : Fin 96) (s : State), Frame 4112 s (doHswClrcnt rq k s) := by
  intro rq k s
  unfold doHswClrcnt
  refine Frame.ite ?_ ?_
  · refine Frame.step (frame_modHs _ _ _) rfl ?_
    exact Frame.refl _ _
  · refine Frame.step (frame_setErr _ _ _) rfl ?_
    exact Frame.refl _ _

/-- Changes at most heads, evt, tally. -/
theorem frame_logHsCommit : ∀ (k : Fin 96) (was now : HsState) (s : State), Frame 262416 s (logHsCommit k was now s) := by
  intro k was now s
  unfold logHsCommit
  refine Frame.ite ?_ ?_
  · exact Frame.refl _ _
  · refine Frame.ite ?_ ?_
    · refine Frame.step (frame_logLead _ _ _ _ _) rfl ?_
      exact Frame.refl _ _
    · refine Frame.ite ?_ ?_
      · refine Frame.step (frame_logLead _ _ _ _ _) rfl ?_
        exact Frame.refl _ _
      · exact Frame.refl _ _

/-- Changes at most sol. -/
theorem frame_stampFeed : ∀ (k : Fin 96) (s : State), Frame 8192 s (stampFeed k s) := by
  intro k s
  unfold stampFeed
  refine Frame.ite ?_ ?_
  · refine Frame.step (frame_set_sol _ _) rfl ?_
    exact Frame.refl _ _
  · exact Frame.refl _ _

/-- Changes at most heads, evt, hsw, sol, tally. -/
theorem frame_hsCommit : ∀ (k : Fin 96) (cmd : Bool) (s : State), Frame 274704 s (hsCommit k cmd s) := by
  intro k cmd s
  unfold hsCommit
  extract_lets x1 x2 x3 x4
  clear_value x1
  clear_value x2
  have h5 : Frame 274704 s x3 := by
    subst x3
    refine Frame.step (frame_modHs _ _ _) rfl ?_
    exact Frame.refl _ _
  clear_value x3
  have h6 : Frame 274704 s x4 := by
    subst x4
    refine Frame.step (frame_logHsCommit _ _ _ _) rfl ?_
    assumption
  clear_value x4
  refine Frame.ite ?_ ?_
  · refine Frame.step (frame_stampFeed _ _) rfl ?_
    assumption
  · assumption

/-- Changes at most heads. -/
theorem frame_bumpTrips : ∀ (k : Fin 96) (s : State), Frame 16 s (bumpTrips k s) := by
  intro k s
  unfold bumpTrips
  refine Frame.foldl (fun x1 k2 h3 => ?_) ?_
  · refine Frame.step (frame_bump _ _ _ _ _) rfl ?_
    assumption
  · exact Frame.refl _ _

/-- Changes at most hsw. -/
theorem frame_estimate : ∀ (s : State), Frame 4096 s (estimate s) := by
  intro s
  unfold estimate
  extract_lets x1 x2 x3
  clear_value x1
  clear_value x2
  clear_value x3
  refine Frame.step (frame_set_hsw _ _) rfl ?_
  exact Frame.refl _ _

/-- Changes at most heads, evt, hsw, tally. -/
theorem frame_doDistForced : ∀ (k : Fin 96) (current temp : Half) (s : State), Frame 266512 s (doDistForced k current temp s) := by
  intro k current temp s
  unfold doDistForced
  extract_lets x1 x2 x3
  clear_value x1
  clear_value x2
  have h4 : Frame 266512 s x3 := by
    subst x3
    refine Frame.step (frame_setIrq _ _ _) rfl ?_
    refine Frame.step (frame_modHs _ _ _) rfl ?_
    exact Frame.refl _ _
  clear_value x3
  refine Frame.ite ?_ ?_
  · refine Frame.ite ?_ ?_
    · assumption
    · refine Frame.step (frame_logEv _ _ _ _ _) rfl ?_
      assumption
  · exact Frame.refl _ _

/-- Changes at most heads, evt, sol, tally. -/
theorem frame_feedOff : ∀ (k : Fin 96) (s : State), Frame 270608 s (feedOff k s) := by
  intro k s
  unfold feedOff
  refine Frame.ite ?_ ?_
  · refine Frame.step (frame_loseFeed _ _) rfl ?_
    exact Frame.refl _ _
  · exact Frame.refl _ _

/-- Changes at most heads, evt, hsw, sol, tally. -/
theorem frame_hsTrip : ∀ (k : Fin 96) (code last : Nat) (extra : List (Nat × Nat)) (s : State), Frame 274704 s (hsTrip k code last extra s) := by
  intro k code last extra s
  unfold hsTrip
  extract_lets x1 x2 x3 x4 x5 x6 x7 x8
  clear_value x2
  clear_value x3
  clear_value x5
  have h9 : Frame 274704 s x6 := by
    subst x6
    refine Frame.step (frame_modGroup _ _ _) rfl ?_
    exact Frame.refl _ _
  clear_value x6
  have h10 : Frame 274704 s x7 := by
    subst x7
    refine Frame.step (frame_modGroup _ _ _) rfl ?_
    exact Frame.refl _ _
  clear_value x7
  have h11 : Frame 274704 s x8 := by
    subst x8
    refine Frame.ite ?_ ?_
    · refine Frame.step (frame_logLead _ _ _ _ _) rfl ?_
      assumption
    · refine Frame.step (frame_setIrq _ _ _) rfl ?_
      refine Frame.step (frame_logLead _ _ _ _ _) rfl ?_
      assumption
  clear_value x8
  refine Frame.step (frame_feedOff _ _) rfl ?_
  refine Frame.step (frame_setIrq _ _ _) rfl ?_
  refine Frame.step (frame_bumpTrips _ _) rfl ?_
  assumption

/-- Changes at most heads, evt, hsw, sol, tally. -/
theorem frame_doFastScTrip : ∀ (k : Fin 96) (current : Half) (s : State), Frame 274704 s (doFastScTrip k current s) := by
  intro k current s
  unfold doFastScTrip
  refine Frame.ite ?_ ?_
  · refine Frame.step (frame_hsTrip _ _ _ _ _) rfl ?_
    exact Frame.refl _ _
  · exact Frame.refl _ _

/-- Changes at most heads, evt, hsw, tally. -/
theorem frame_doFoldUv : ∀ (f : Fin 12) (vf : Half) (s : State), Frame 266512 s (doFoldUv f vf s) := by
  intro f vf s
  unfold doFoldUv
  extract_lets x1 x2 x3 x4 x5
  clear_value x1
  clear_value x2
  clear_value x3
  have h6 : Frame 266512 s x4 := by
    subst x4
    refine Frame.step (frame_set_hsw _ _) rfl ?_
    exact Frame.refl _ _
  clear_value x4
  have h7 : Frame 266512 s x5 := by
    subst x5
    refine Frame.step (frame_logEv _ _ _ _ _) rfl ?_
    assumption
  clear_value x5
  refine Frame.ite ?_ ?_
  · exact Frame.refl _ _
  · refine Frame.ite ?_ ?_
    · refine Frame.step (frame_setIrq _ _ _) rfl ?_
      assumption
    · assumption

/-- Changes at most heads, evt, hsw, tally. -/
theorem frame_doFwMissing : ∀ (k : Fin 96) (current : Half) (s : State), Frame 266512 s (doFwMissing k current s) := by
  intro k current s
  unfold doFwMissing
  refine Frame.ite ?_ ?_
  · exact Frame.refl _ _
  · extract_lets x1
    have h2 : Frame 266512 s x1 := by
      subst x1
      refine Frame.step (frame_hwBit _ _ _ _) rfl ?_
      refine Frame.step (frame_modHs _ _ _) rfl ?_
      exact Frame.refl _ _
    clear_value x1
    refine Frame.step (frame_setIrq _ _ _) rfl ?_
    refine Frame.step (frame_logEv _ _ _ _ _) rfl ?_
    assumption

/-- Changes at most time. -/
theorem frame_passWindow : ∀ (s : State), Frame 131072 s (passWindow s) := by
  intro s
  unfold passWindow
  refine Frame.step (frame_passInTick _ _ _) rfl ?_
  exact Frame.refl _ _

/-- Changes at most heads, evt, hsw, sol, tally. -/
theorem frame_doOcTrip : ∀ (k : Fin 96) (current : Half) (s : State), Frame 274704 s (doOcTrip k current s) := by
  intro k current s
  unfold doOcTrip
  extract_lets x1 x2 x3
  clear_value x1
  clear_value x2
  clear_value x3
  refine Frame.ite ?_ ?_
  · refine Frame.step (frame_hsTrip _ _ _ _ _) rfl ?_
    exact Frame.refl _ _
  · exact Frame.refl _ _

/-- Changes at most heads, evt, hsw, time, tally. -/
theorem frame_doOpenLoadWindow : ∀ (k : Fin 96) (current : Half) (node : Nat) (s : State), Frame 397584 s (doOpenLoadWindow k current node s) := by
  intro k current node s
  unfold doOpenLoadWindow
  extract_lets x1 x2 x3 x4
  clear_value x1
  clear_value x2
  clear_value x3
  have h5 : Frame 397584 s x4 := by
    subst x4
    refine Frame.step (frame_modHs _ _ _) rfl ?_
    refine Frame.step (frame_passWindow _) rfl ?_
    exact Frame.refl _ _
  clear_value x4
  refine Frame.ite ?_ ?_
  · exact Frame.refl _ _
  · refine Frame.ite ?_ ?_
    · assumption
    · split
      · assumption
      · extract_lets x6 x7
        have h8 : Frame 397584 s x6 := by
          subst x6
          refine Frame.step (frame_modHs _ _ _) rfl ?_
          assumption
        clear_value x6
        clear_value x7
        refine Frame.ite ?_ ?_
        · assumption
        · refine Frame.ite ?_ ?_
          · refine Frame.ite ?_ ?_
            · refine Frame.step (frame_setIrq _ _ _) rfl ?_
              refine Frame.step (frame_logEv _ _ _ _ _) rfl ?_
              assumption
            · refine Frame.step (frame_setIrq _ _ _) rfl ?_
              refine Frame.step (frame_logEv _ _ _ _ _) rfl ?_
              assumption
          · refine Frame.step (frame_logEv _ _ _ _ _) rfl ?_
            assumption

/-- Changes at most heads, evt, hsw, tally. -/
theorem frame_hsSampleCh : ∀ (rd : HsReading) (dist : Bool) (k : Fin 96) (s : State), Frame 266512 s (hsSampleCh rd dist k s) := by
  intro rd dist k s
  unfold hsSampleCh
  extract_lets x1 x2 x3 x4
  clear_value x1
  have h5 : Frame 266512 s x2 := by
    subst x2
    refine Frame.step (frame_modHs _ _ _) rfl ?_
    exact Frame.refl _ _
  clear_value x2
  clear_value x3
  have h6 : Frame 266512 s x4 := by
    subst x4
    refine Frame.step (frame_logEv _ _ _ _ _) rfl ?_
    assumption
  clear_value x4
  refine Frame.ite ?_ ?_
  · assumption
  · refine Frame.ite ?_ ?_
    · refine Frame.step (frame_setIrq _ _ _) rfl ?_
      assumption
    · assumption

/-- Changes at most heads, evt, hsw, tally. -/
theorem frame_hsSampleFold : ∀ (rd : FoldReading) (f : Fin 12) (s : State), Frame 266512 s (hsSampleFold rd f s) := by
  intro rd f s
  unfold hsSampleFold
  extract_lets x1 x2 x3 x4 x5 x6 x7 x8
  clear_value x1
  clear_value x2
  clear_value x3
  clear_value x4
  clear_value x5
  clear_value x6
  have h9 : Frame 266512 s x7 := by
    subst x7
    refine Frame.step (frame_set_hsw _ _) rfl ?_
    exact Frame.refl _ _
  clear_value x7
  have h10 : Frame 266512 s x8 := by
    subst x8
    refine Frame.step (frame_logEv _ _ _ _ _) rfl ?_
    assumption
  clear_value x8
  refine Frame.ite ?_ ?_
  · assumption
  · refine Frame.ite ?_ ?_
    · refine Frame.step (frame_setIrq _ _ _) rfl ?_
      assumption
    · assumption

/-- Changes at most heads, evt, hsw, sol, tally. -/
theorem frame_doThermalTrip : ∀ (k : Fin 96) (temp : Half) (s : State), Frame 274704 s (doThermalTrip k temp s) := by
  intro k temp s
  unfold doThermalTrip
  extract_lets x1 x2 x3 x4
  clear_value x1
  clear_value x2
  have h5 : Frame 274704 s x3 := by
    subst x3
    refine Frame.step (frame_modHs _ _ _) rfl ?_
    refine Frame.step (frame_modGroup _ _ _) rfl ?_
    exact Frame.refl _ _
  clear_value x3
  have h6 : Frame 274704 s x4 := by
    subst x4
    refine Frame.step (frame_setIrq _ _ _) rfl ?_
    refine Frame.step (frame_logLead _ _ _ _ _) rfl ?_
    assumption
  clear_value x4
  refine Frame.ite ?_ ?_
  · refine Frame.ite ?_ ?_
    · refine Frame.step (frame_feedOff _ _) rfl ?_
      refine Frame.step (frame_bumpTrips _ _) rfl ?_
      assumption
    · refine Frame.step (frame_bumpTrips _ _) rfl ?_
      assumption
  · exact Frame.refl _ _

/-- Changes at most led. -/
theorem frame_modStr : ∀ (k : Fin 8) (f : StringState → StringState) (s : State), Frame 16384 s (modStr k f s) := by
  intro k f s
  unfold modStr
  refine Frame.step (frame_set_led _ _) rfl ?_
  exact Frame.refl _ _

/-- Changes at most heads, evt, led, tally. -/
theorem frame_doStringReenable : ∀ (rq : Requester) (k : Fin 8) (s : State), Frame 278800 s (doStringReenable rq k s) := by
  intro rq k s
  unfold doStringReenable
  extract_lets x1
  clear_value x1
  refine Frame.ite ?_ ?_
  · refine Frame.step (frame_setErr _ _ _) rfl ?_
    exact Frame.refl _ _
  · refine Frame.ite ?_ ?_
    · exact Frame.refl _ _
    · refine Frame.ite ?_ ?_
      · refine Frame.step (frame_logEv _ _ _ _ _) rfl ?_
        refine Frame.step (frame_modStr _ _ _) rfl ?_
        exact Frame.refl _ _
      · refine Frame.step (frame_setErr _ _ _) rfl ?_
        refine Frame.step (frame_logEv _ _ _ _ _) rfl ?_
        exact Frame.refl _ _

/-- Changes at most heads, sys, evt, led, time. -/
theorem frame_doPeCtrlWrite : ∀ (rq : Requester) (e : Fin 4) (reg : Fin 3) (v : Word) (s : State), Frame 147856 s (doPeCtrlWrite rq e reg v s) := by
  intro rq e reg v s
  unfold doPeCtrlWrite
  extract_lets x1
  refine frame_wrIf _ _ _ _ _ _ _ rfl ?_ ?_
  · exact Frame.refl _ _
  · intro x2 x3
    refine Frame.step (frame_set_led _ _) rfl ?_
    assumption

/-- Changes at most led. -/
theorem frame_modChain : ∀ (l : Fin 4) (f : ChainState → ChainState) (s : State), Frame 16384 s (modChain l f s) := by
  intro l f s
  unfold modChain
  refine Frame.step (frame_set_led _ _) rfl ?_
  exact Frame.refl _ _

/-- Changes at most heads, led. -/
theorem frame_doChainSend : ∀ (rq : Requester) (l : Fin 4) (s : State), Frame 16400 s (doChainSend rq l s) := by
  intro rq l s
  unfold doChainSend
  refine Frame.ite ?_ ?_
  · refine Frame.step (frame_setErr _ _ _) rfl ?_
    exact Frame.refl _ _
  · refine Frame.ite ?_ ?_
    · refine Frame.step (frame_modChain _ _ _) rfl ?_
      exact Frame.refl _ _
    · exact Frame.refl _ _

/-- Changes at most led. -/
theorem frame_modPos : ∀ (k : Fin 128) (f : LampState → LampState) (s : State), Frame 16384 s (modPos k f s) := by
  intro k f s
  unfold modPos
  refine Frame.step (frame_set_led _ _) rfl ?_
  exact Frame.refl _ _

/-- Changes at most heads, led. -/
theorem frame_doPosClrcnt : ∀ (rq : Requester) (k : Fin 128) (s : State), Frame 16400 s (doPosClrcnt rq k s) := by
  intro rq k s
  unfold doPosClrcnt
  refine Frame.ite ?_ ?_
  · refine Frame.step (frame_modPos _ _ _) rfl ?_
    exact Frame.refl _ _
  · refine Frame.step (frame_setErr _ _ _) rfl ?_
    exact Frame.refl _ _

/-- Changes at most heads, led. -/
theorem frame_bumpFault : ∀ (k : Fin 128) (s : State), Frame 16400 s (bumpFault k s) := by
  intro k s
  unfold bumpFault
  refine Frame.step (frame_bump _ _ _ _ _) rfl ?_
  refine Frame.step (frame_modPos _ _ _) rfl ?_
  exact Frame.refl _ _

/-- Changes at most heads, evt, led, tally. -/
theorem frame_chainTake : ∀ (l : Fin 4) (s : State), Frame 278800 s (chainTake l s) := by
  intro l s
  unfold chainTake
  extract_lets x1 x2 x3 x4 x5
  clear_value x1
  clear_value x2
  clear_value x3
  have h6 : Frame 278800 s x4 := by
    subst x4
    refine Frame.step (frame_modChain _ _ _) rfl ?_
    exact Frame.refl _ _
  clear_value x4
  have h7 : Frame 278800 s x5 := by
    subst x5
    refine Frame.step (frame_hwBit _ _ _ _) rfl ?_
    refine Frame.step (frame_modChain _ _ _) rfl ?_
    assumption
  clear_value x5
  refine Frame.ite ?_ ?_
  · refine Frame.ite ?_ ?_
    · refine Frame.step (frame_setIrq _ _ _) rfl ?_
      refine Frame.step (frame_logEv _ _ _ _ _) rfl ?_
      assumption
    · assumption
  · exact Frame.refl _ _

/-- Changes at most heads, evt, led, tally. -/
theorem frame_clearLamp : ∀ (k : Fin 128) (opn shrt : Bool) (s : State), Frame 278800 s (clearLamp k opn shrt s) := by
  intro k opn shrt s
  unfold clearLamp
  extract_lets x1 x2
  have h3 : Frame 278800 s x1 := by
    subst x1
    refine Frame.step (frame_modPos _ _ _) rfl ?_
    exact Frame.refl _ _
  clear_value x1
  have h4 : Frame 278800 s x2 := by
    subst x2
    refine Frame.ite ?_ ?_
    · refine Frame.step (frame_logEv _ _ _ _ _) rfl ?_
      assumption
    · assumption
  clear_value x2
  refine Frame.ite ?_ ?_
  · refine Frame.step (frame_logEv _ _ _ _ _) rfl ?_
    assumption
  · assumption

/-- Changes at most heads, evt, led, tally. -/
theorem frame_doChainFault : ∀ (l : Fin 4) (share : Byte) (s : State), Frame 278800 s (doChainFault l share s) := by
  intro l share s
  unfold doChainFault
  refine Frame.ite ?_ ?_
  · extract_lets x1
    have h2 : Frame 278800 s x1 := by
      subst x1
      refine Frame.step (frame_modChain _ _ _) rfl ?_
      exact Frame.refl _ _
    clear_value x1
    refine Frame.step (frame_setIrq _ _ _) rfl ?_
    refine Frame.step (frame_logEv _ _ _ _ _) rfl ?_
    assumption
  · exact Frame.refl _ _

/-- Changes at most heads, evt, led. -/
theorem frame_doChainFrameDone : ∀ (l : Fin 4) (s : State), Frame 16656 s (doChainFrameDone l s) := by
  intro l s
  unfold doChainFrameDone
  refine Frame.ite ?_ ?_
  · refine Frame.step (frame_setIrq _ _ _) rfl ?_
    refine Frame.step (frame_bump _ _ _ _ _) rfl ?_
    refine Frame.step (frame_modChain _ _ _) rfl ?_
    exact Frame.refl _ _
  · exact Frame.refl _ _

/-- Changes at most led, time. -/
theorem frame_doDimmingPeriodStart : ∀ (k : Fin 8) (s : State), Frame 147456 s (doDimmingPeriodStart k s) := by
  intro k s
  unfold doDimmingPeriodStart
  refine Frame.ite ?_ ?_
  · extract_lets x1 x2 x3
    have h4 : Frame 147456 s x1 := by
      subst x1
      refine Frame.step (frame_passInTick _ _ _) rfl ?_
      exact Frame.refl _ _
    clear_value x1
    have h5 : Frame 147456 s x2 := by
      subst x2
      refine Frame.step (frame_modStr _ _ _) rfl ?_
      assumption
    clear_value x2
    clear_value x3
    refine Frame.step (frame_set_led _ _) rfl ?_
    assumption
  · exact Frame.refl _ _

/-- Changes at most heads, evt, led, tally. -/
theorem frame_setLampOpen : ∀ (k : Fin 128) (window : Bool) (mv : Nat) (s : State), Frame 278800 s (setLampOpen k window mv s) := by
  intro k window mv s
  unfold setLampOpen
  extract_lets x1
  have h2 : Frame 278800 s x1 := by
    subst x1
    refine Frame.step (frame_bumpFault _ _) rfl ?_
    refine Frame.step (frame_modPos _ _ _) rfl ?_
    exact Frame.refl _ _
  clear_value x1
  refine Frame.step (frame_setIrq _ _ _) rfl ?_
  refine Frame.step (frame_logEv _ _ _ _ _) rfl ?_
  assumption

/-- Changes at most heads, evt, led, tally. -/
theorem frame_doLampClamp : ∀ (k : Fin 128) (mv : Nat) (s : State), Frame 278800 s (doLampClamp k mv s) := by
  intro k mv s
  unfold doLampClamp
  extract_lets x1
  clear_value x1
  refine Frame.ite ?_ ?_
  · refine Frame.step (frame_setLampOpen _ _ _ _) rfl ?_
    exact Frame.refl _ _
  · exact Frame.refl _ _

/-- Changes at most heads, evt, led, tally. -/
theorem frame_setLampShort : ∀ (k : Fin 128) (mv : Nat) (s : State), Frame 278800 s (setLampShort k mv s) := by
  intro k mv s
  unfold setLampShort
  extract_lets x1
  have h2 : Frame 278800 s x1 := by
    subst x1
    refine Frame.step (frame_bumpFault _ _) rfl ?_
    refine Frame.step (frame_modPos _ _ _) rfl ?_
    exact Frame.refl _ _
  clear_value x1
  refine Frame.step (frame_setIrq _ _ _) rfl ?_
  refine Frame.step (frame_logEv _ _ _ _ _) rfl ?_
  assumption

/-- Changes at most heads, evt, led, time, tally. -/
theorem frame_doLampWindow : ∀ (k : Fin 128) (m : LampReading) (s : State), Frame 409872 s (doLampWindow k m s) := by
  intro k m s
  unfold doLampWindow
  extract_lets x1 x2 x3 x4 x5 x6 x7
  clear_value x1
  have h8 : Frame 409872 s x2 := by
    subst x2
    refine Frame.step (frame_passWindow _) rfl ?_
    exact Frame.refl _ _
  clear_value x2
  clear_value x3
  have h9 : Frame 409872 s x4 := by
    subst x4
    refine Frame.step (frame_modPos _ _ _) rfl ?_
    assumption
  clear_value x4
  clear_value x5
  clear_value x6
  have h10 : Frame 409872 s x7 := by
    subst x7
    refine Frame.step (frame_modPos _ _ _) rfl ?_
    assumption
  clear_value x7
  refine Frame.ite ?_ ?_
  · exact Frame.refl _ _
  · refine Frame.ite ?_ ?_
    · assumption
    · refine Frame.ite ?_ ?_
      · refine Frame.step (frame_clearLamp _ _ _ _) rfl ?_
        assumption
      · refine Frame.ite ?_ ?_
        · refine Frame.ite ?_ ?_
          · assumption
          · refine Frame.step (frame_setLampOpen _ _ _ _) rfl ?_
            assumption
        · refine Frame.ite ?_ ?_
          · assumption
          · refine Frame.step (frame_setLampShort _ _ _) rfl ?_
            assumption

/-- Changes at most heads, evt, led, tally. -/
theorem frame_doStringHot : ∀ (k : Fin 8) (temp : Half) (s : State), Frame 278800 s (doStringHot k temp s) := by
  intro k temp s
  unfold doStringHot
  refine Frame.ite ?_ ?_
  · extract_lets x1
    have h2 : Frame 278800 s x1 := by
      subst x1
      refine Frame.step (frame_modStr _ _ _) rfl ?_
      exact Frame.refl _ _
    clear_value x1
    refine Frame.step (frame_setIrq _ _ _) rfl ?_
    refine Frame.step (frame_logEv _ _ _ _ _) rfl ?_
    assumption
  · exact Frame.refl _ _

/-- Changes at most heads, evt, led, tally. -/
theorem frame_doStringLow : ∀ (k : Fin 8) (current : Nat) (vn16 : Half) (s : State), Frame 278800 s (doStringLow k current vn16 s) := by
  intro k current vn16 s
  unfold doStringLow
  extract_lets x1 x2 x3
  clear_value x1
  clear_value x2
  have h4 : Frame 278800 s x3 := by
    subst x3
    refine Frame.step (frame_modStr _ _ _) rfl ?_
    exact Frame.refl _ _
  clear_value x3
  refine Frame.ite ?_ ?_
  · refine Frame.ite ?_ ?_
    · refine Frame.step (frame_setIrq _ _ _) rfl ?_
      refine Frame.step (frame_logEv _ _ _ _ _) rfl ?_
      assumption
    · assumption
  · exact Frame.refl _ _

/-- Changes at most heads, sys, evt, sol, time. -/
theorem frame_doSolClrcnt : ∀ (rq : Requester) (k : Fin 16) (s : State), Frame 139664 s (doSolClrcnt rq k s) := by
  intro rq k s
  unfold doSolClrcnt
  refine Frame.ite ?_ ?_
  · refine Frame.step (frame_modSol _ _ _) rfl ?_
    exact Frame.refl _ _
  · refine Frame.step (frame_reservedWrite _ _ _) rfl ?_
    exact Frame.refl _ _

/-- Changes at most din. -/
theorem frame_modDi : ∀ (k : Fin 128) (f : DiState → DiState) (s : State), Frame 32768 s (modDi k f s) := by
  intro k f s
  unfold modDi
  refine Frame.step (frame_set_din _ _) rfl ?_
  exact Frame.refl _ _

/-- Changes at most heads, sys, evt, din, time. -/
theorem frame_doDinClrcnt : ∀ (rq : Requester) (k : Fin 128) (s : State), Frame 164240 s (doDinClrcnt rq k s) := by
  intro rq k s
  unfold doDinClrcnt
  refine Frame.ite ?_ ?_
  · refine Frame.step (frame_modDi _ _ _) rfl ?_
    exact Frame.refl _ _
  · refine Frame.step (frame_reservedWrite _ _ _) rfl ?_
    exact Frame.refl _ _

/-- Changes at most heads. -/
theorem frame_bumpEdges : ∀ (s : State), Frame 16 s (bumpEdges s) := by
  intro s
  unfold bumpEdges
  refine Frame.foldl (fun x1 k2 h3 => ?_) ?_
  · extract_lets x4
    clear_value x4
    refine Frame.ite ?_ ?_
    · assumption
    · refine Frame.step (frame_bump _ _ _ _ _) rfl ?_
      assumption
  · exact Frame.refl _ _

/-- Changes at most din. -/
theorem frame_pendLog : ∀ (die code sev : Nat) (loc : Word) (payload : DWord) (s : State), Frame 32768 s (pendLog die code sev loc payload s) := by
  intro die code sev loc payload s
  unfold pendLog
  refine Frame.step (frame_set_din _ _) rfl ?_
  exact Frame.refl _ _

/-- Changes at most din. -/
theorem frame_burstEntry : ∀ (die : Nat) (loc : Word) (tickEdges : Nat) (s : State), Frame 32768 s (burstEntry die loc tickEdges s) := by
  intro die loc tickEdges s
  unfold burstEntry
  refine Frame.ite ?_ ?_
  · refine Frame.step (frame_pendLog _ _ _ _ _ _) rfl ?_
    exact Frame.refl _ _
  · exact Frame.refl _ _

/-- Changes at most hsw, din. -/
theorem frame_burstAll : ∀ (s : State), Frame 36864 s (burstAll s) := by
  intro s
  unfold burstAll
  extract_lets x1 x2 x3 x4
  have h5 : Frame 36864 s x1 := by
    subst x1
    refine Frame.foldl (fun x6 k7 h8 => ?_) ?_
    · refine Frame.step (frame_burstEntry _ _ _ _) rfl ?_
      assumption
    · exact Frame.refl _ _
  clear_value x1
  have h9 : Frame 36864 s x2 := by
    subst x2
    refine Frame.foldl (fun x10 k11 h12 => ?_) ?_
    · refine Frame.step (frame_burstEntry _ _ _ _) rfl ?_
      assumption
    · assumption
  clear_value x2
  clear_value x3
  clear_value x4
  refine Frame.step (frame_set_hsw_din _ _ _) rfl ?_
  assumption

/-- Changes at most din. -/
theorem frame_wbSample : ∀ (k : Fin 128) (x : DiReading) (s : State), Frame 32768 s (Prod.fst (wbSample k x s)) := by
  intro k x s
  unfold wbSample
  extract_lets x1
  clear_value x1
  split
  · split
    · extract_lets x2
      have h3 : Frame 32768 s x2 := by
        subst x2
        refine Frame.step (frame_modDi _ _ _) rfl ?_
        exact Frame.refl _ _
      clear_value x2
      split
      · dsimp only
        refine Frame.step (frame_pendLog _ _ _ _ _ _) rfl ?_
        assumption
      · dsimp only
        refine Frame.step (frame_pendLog _ _ _ _ _ _) rfl ?_
        assumption
      · assumption
  · exact Frame.refl _ _

/-- Changes at most din. -/
theorem frame_pendEdge : ∀ (die : Nat) (loc : Word) (rise coincident : Bool) (dep tickEdges : Nat) (s : State),
  Frame 32768 s (pendEdge die loc rise coincident dep tickEdges s) := by
  intro die loc rise coincident dep tickEdges s
  unfold pendEdge
  refine Frame.ite ?_ ?_
  · refine Frame.step (frame_pendLog _ _ _ _ _ _) rfl ?_
    exact Frame.refl _ _
  · exact Frame.refl _ _

/-- Changes at most din. -/
theorem frame_diSample : ∀ (k : Fin 128) (x : DiReading) (s : State), Frame 32768 s (diSample k x s) := by
  intro k x s
  unfold diSample
  extract_lets x1
  clear_value x1
  refine Frame.ite ?_ ?_
  · exact Frame.refl _ _
  · split
    · rename_i n2 n3 n4 n5
      have h6 : Frame 32768 s n3 := by
        refine Frame.ofEq1 n5 ?_
        refine Frame.step (frame_wbSample _ _ _) rfl ?_
        exact Frame.refl _ _
      extract_lets x7
      clear_value x7
      split
      · extract_lets x8 x9 x10
        have h11 : Frame 32768 s x8 := by
          subst x8
          refine Frame.step (frame_modDi _ _ _) rfl ?_
          assumption
        clear_value x8
        have h12 : Frame 32768 s x9 := by
          subst x9
          refine Frame.step (frame_modDi _ _ _) rfl ?_
          assumption
        clear_value x9
        have h13 : Frame 32768 s x10 := by
          subst x10
          refine Frame.step (frame_modDi _ _ _) rfl ?_
          assumption
        clear_value x10
        split
        · assumption
        · refine Frame.step (frame_pendEdge _ _ _ _ _ _ _) rfl ?_
          assumption
        · refine Frame.step (frame_pendEdge _ _ _ _ _ _ _) rfl ?_
          assumption

/-- Changes at most hsw. -/
theorem frame_modHsIn : ∀ (k : Fin 96) (f : DiState → DiState) (s : State), Frame 4096 s (modHsIn k f s) := by
  intro k f s
  unfold modHsIn
  refine Frame.step (frame_set_hsw _ _) rfl ?_
  exact Frame.refl _ _

/-- Changes at most hsw, din. -/
theorem frame_hsInSample : ∀ (k : Fin 96) (mv : ℤ) (s : State), Frame 36864 s (hsInSample k mv s) := by
  intro k mv s
  unfold hsInSample
  extract_lets x1 x2
  clear_value x1
  clear_value x2
  refine Frame.ite ?_ ?_
  · exact Frame.refl _ _
  · split
    · extract_lets x3 x4 x5
      have h6 : Frame 36864 s x3 := by
        subst x3
        refine Frame.step (frame_modHsIn _ _ _) rfl ?_
        exact Frame.refl _ _
      clear_value x3
      have h7 : Frame 36864 s x4 := by
        subst x4
        refine Frame.step (frame_modHsIn _ _ _) rfl ?_
        assumption
      clear_value x4
      have h8 : Frame 36864 s x5 := by
        subst x5
        refine Frame.step (frame_modHsIn _ _ _) rfl ?_
        assumption
      clear_value x5
      split
      · assumption
      · refine Frame.step (frame_pendEdge _ _ _ _ _ _ _) rfl ?_
        assumption
      · refine Frame.step (frame_pendEdge _ _ _ _ _ _ _) rfl ?_
        assumption

/-- Changes at most hsw, din, time. -/
theorem frame_doInputSample : ∀ (x : InputReadings) (s : State), Frame 167936 s (doInputSample x s) := by
  intro x s
  unfold doInputSample
  refine Frame.ite ?_ ?_
  · exact Frame.refl _ _
  · extract_lets x1 x2 x3 x4 x5 x6
    have h7 : Frame 167936 s x1 := by
      subst x1
      refine Frame.step (frame_passInTick _ _ _) rfl ?_
      exact Frame.refl _ _
    clear_value x1
    clear_value x2
    have h8 : Frame 167936 s x3 := by
      subst x3
      refine Frame.step (frame_set_din _ _) rfl ?_
      assumption
    clear_value x3
    have h9 : Frame 167936 s x4 := by
      subst x4
      refine Frame.foldl (fun x10 k11 h12 => ?_) ?_
      · refine Frame.step (frame_diSample _ _ _) rfl ?_
        assumption
      · assumption
    clear_value x4
    have h13 : Frame 167936 s x5 := by
      subst x5
      refine Frame.foldl (fun x14 k15 h16 => ?_) ?_
      · refine Frame.step (frame_hsInSample _ _ _) rfl ?_
        assumption
      · assumption
    clear_value x5
    clear_value x6
    refine Frame.step (frame_set_hsw _ _) rfl ?_
    assumption

/-- Changes at most heads, evt. -/
theorem frame_snapIrqs : ∀ (before after : Vector DiState 128) (s : State), Frame 272 s (snapIrqs before after s) := by
  intro before after s
  unfold snapIrqs
  extract_lets x1 x2 x3
  clear_value x1
  have h4 : Frame 272 s x2 := by
    subst x2
    refine Frame.ite ?_ ?_
    · refine Frame.step (frame_setIrq _ _ _) rfl ?_
      exact Frame.refl _ _
    · exact Frame.refl _ _
  clear_value x2
  have h5 : Frame 272 s x3 := by
    subst x3
    refine Frame.ite ?_ ?_
    · refine Frame.step (frame_setIrq _ _ _) rfl ?_
      assumption
    · assumption
  clear_value x3
  refine Frame.ite ?_ ?_
  · refine Frame.step (frame_setIrq _ _ _) rfl ?_
    assumption
  · assumption

/-- Changes at most heads, evt, din, tally. -/
theorem frame_flushPend : ∀ (dieOk : Nat → Bool) (s : State), Frame 295184 s (flushPend dieOk s) := by
  intro dieOk s
  unfold flushPend
  extract_lets x1 x2 x3 x4 x5 x6 x7
  clear_value x1
  clear_value x2
  clear_value x3
  have h8 : Frame 295184 s x4 := by
    subst x4
    refine Frame.step (frame_set_din _ _) rfl ?_
    exact Frame.refl _ _
  clear_value x4
  have h9 : Frame 295184 s x5 := by
    subst x5
    refine Frame.ite ?_ ?_
    · refine Frame.step (frame_setIrq _ _ _) rfl ?_
      assumption
    · assumption
  clear_value x5
  have h10 : Frame 295184 s x6 := by
    subst x6
    refine Frame.ite ?_ ?_
    · refine Frame.step (frame_setIrq _ _ _) rfl ?_
      assumption
    · assumption
  clear_value x6
  have h11 : Frame 295184 s x7 := by
    subst x7
    refine Frame.ite ?_ ?_
    · refine Frame.step (frame_setIrq _ _ _) rfl ?_
      assumption
    · assumption
  clear_value x7
  refine Frame.foldl (fun x12 k13 h14 => ?_) ?_
  · refine Frame.step (frame_tallyWrite _ _) rfl ?_
    assumption
  · assumption

/-- Changes at most heads, evt, hsw, din, tally. -/
theorem frame_inputMark : ∀ (dieOk : Nat → Bool) (s : State), Frame 299280 s (inputMark dieOk s) := by
  intro dieOk s
  unfold inputMark
  extract_lets x1 x2 x3 x4 x5 x6 x7
  clear_value x1
  clear_value x2
  have h8 : Frame 299280 s x3 := by
    subst x3
    refine Frame.step (frame_bumpEdges _) rfl ?_
    exact Frame.refl _ _
  clear_value x3
  clear_value x4
  have h9 : Frame 299280 s x5 := by
    subst x5
    refine Frame.ite ?_ ?_
    · refine Frame.step (frame_snapIrqs _ _ _) rfl ?_
      refine Frame.step (frame_set_din _ _) rfl ?_
      assumption
    · exact Frame.refl _ _
  clear_value x5
  clear_value x6
  have h10 : Frame 299280 s x7 := by
    subst x7
    refine Frame.step (frame_set_hsw _ _) rfl ?_
    assumption
  clear_value x7
  refine Frame.step (frame_flushPend _ _) rfl ?_
  assumption

/-- Changes at most heads, sys, evt, hurdle, tally. -/
theorem frame_refuseCmd : ∀ (code src o : Nat) (w : Word) (s : State), Frame 328080 s (refuseCmd code src o w s) := by
  intro code src o w s
  unfold refuseCmd
  extract_lets x1 x2 x3 x4 x5 x6 x7 x8
  clear_value x1
  clear_value x2
  have h9 : Frame 328080 s x3 := by
    subst x3
    refine Frame.step (frame_sysFlag _ _) rfl ?_
    refine Frame.step (frame_bump _ _ _ _ _) rfl ?_
    refine Frame.step (frame_set_hurdle _ _) rfl ?_
    exact Frame.refl _ _
  clear_value x3
  have h10 : Frame 328080 s x4 := by
    subst x4
    refine Frame.step (frame_setIrq _ _ _) rfl ?_
    assumption
  clear_value x4
  clear_value x5
  clear_value x6
  clear_value x7
  clear_value x8
  refine Frame.ite ?_ ?_
  · assumption
  · refine Frame.step (frame_logEv _ _ _ _ _) rfl ?_
    refine Frame.step (frame_set_hurdle _ _) rfl ?_
    assumption

/-- Changes at most hurdle. -/
theorem frame_modOut : ∀ (o : Nat) (f : OutState → OutState) (s : State), Frame 65536 s (modOut o f s) := by
  intro o f s
  unfold modOut
  refine Frame.step (frame_set_hurdle _ _) rfl ?_
  exact Frame.refl _ _

/-- Changes at most heads, sys, evt, hurdle, tally. -/
theorem frame_withdraw : ∀ (src : Fin 16) (o : Nat) (w : Word) (s : State), Frame 328080 s (withdraw src o w s) := by
  intro src o w s
  unfold withdraw
  split
  · refine Frame.step (frame_refuseCmd _ _ _ _ _) rfl ?_
    exact Frame.refl _ _
  · refine Frame.ite ?_ ?_
    · refine Frame.step (frame_refuseCmd _ _ _ _ _) rfl ?_
      exact Frame.refl _ _
    · refine Frame.step (frame_modOut _ _ _) rfl ?_
      exact Frame.refl _ _

/-- Changes at most heads, sys, evt, sol, hurdle, tally. -/
theorem frame_acceptCmd : ∀ (src : Fin 16) (o : Nat) (w : Word) (s : State), Frame 336272 s (acceptCmd src o w s) := by
  intro src o w s
  unfold acceptCmd
  split
  · refine Frame.step (frame_refuseCmd _ _ _ _ _) rfl ?_
    exact Frame.refl _ _
  · refine Frame.ite ?_ ?_
    · refine Frame.step (frame_refuseCmd _ _ _ _ _) rfl ?_
      exact Frame.refl _ _
    · split
      · refine Frame.step (frame_modSol _ _ _) rfl ?_
        exact Frame.refl _ _
      · refine Frame.step (frame_modOut _ _ _) rfl ?_
        exact Frame.refl _ _

/-- Changes at most heads, evt, tally. -/
theorem frame_refusedWord : ∀ (o : Nat) (w : Word) (s : State), Frame 262416 s (refusedWord o w s) := by
  intro o w s
  unfold refusedWord
  refine Frame.ite ?_ ?_
  · exact Frame.refl _ _
  · refine Frame.ite ?_ ?_
    · refine Frame.step (frame_setErr _ _ _) rfl ?_
      refine Frame.step (frame_logEv _ _ _ _ _) rfl ?_
      exact Frame.refl _ _
    · refine Frame.step (frame_setErr _ _ _) rfl ?_
      refine Frame.step (frame_logEv _ _ _ _ _) rfl ?_
      exact Frame.refl _ _

/-- Changes at most heads, sys, evt, sol, hurdle, time, tally. -/
theorem frame_doOutCmd : ∀ (rq : Requester) (o : Fin 448) (w : Word) (s : State), Frame 467344 s (doOutCmd rq o w s) := by
  intro rq o w s
  unfold doOutCmd
  refine Frame.ite ?_ ?_
  · refine Frame.step (frame_reservedWrite _ _ _) rfl ?_
    exact Frame.refl _ _
  · extract_lets x1
    have h2 : Frame 467344 s x1 := by
      subst x1
      refine Frame.ite ?_ ?_
      · exact Frame.refl _ _
      · refine Frame.step (frame_reservedWrite _ _ _) rfl ?_
        exact Frame.refl _ _
    clear_value x1
    split
    · refine Frame.step (frame_setErr _ _ _) rfl ?_
      assumption
    · refine Frame.ite ?_ ?_
      · refine Frame.step (frame_acceptCmd _ _ _ _) rfl ?_
        assumption
      · refine Frame.step (frame_refusedWord _ _ _) rfl ?_
        assumption

/-- Changes at most heads, evt, hurdle, tally. -/
theorem frame_endEscalation : ∀ (o bits : Nat) (s : State), Frame 327952 s (endEscalation o bits s) := by
  intro o bits s
  unfold endEscalation
  refine Frame.ite ?_ ?_
  · refine Frame.step (frame_logEv _ _ _ _ _) rfl ?_
    refine Frame.foldl (fun x1 k2 h3 => ?_) ?_
    · refine Frame.step (frame_modOut _ _ _) rfl ?_
      assumption
    · exact Frame.refl _ _
  · exact Frame.refl _ _

/-- Changes at most heads, sys, evt, hurdle, time, tally. -/
theorem frame_outCtrlWrite : ∀ (rq : Requester) (o : Nat) (v : Word) (s : State), Frame 459152 s (outCtrlWrite rq o v s) := by
  intro rq o v s
  unfold outCtrlWrite
  refine Frame.ite ?_ ?_
  · refine Frame.step (frame_reservedWrite _ _ _) rfl ?_
    exact Frame.refl _ _
  · extract_lets x1
    have h2 : Frame 459152 s x1 := by
      subst x1
      split
      · refine Frame.ite ?_ ?_
        · refine Frame.step (frame_setErr _ _ _) rfl ?_
          exact Frame.refl _ _
        · exact Frame.refl _ _
      · refine Frame.ite ?_ ?_
        · refine Frame.step (frame_withdraw _ _ _ _) rfl ?_
          exact Frame.refl _ _
        · exact Frame.refl _ _
    clear_value x1
    refine Frame.ite ?_ ?_
    · refine Frame.ite ?_ ?_
      · refine Frame.step (frame_setErr _ _ _) rfl ?_
        assumption
      · refine Frame.ite ?_ ?_
        · assumption
        · refine Frame.step (frame_endEscalation _ _ _) rfl ?_
          assumption
    · assumption

/-- Changes at most hurdle. -/
theorem frame_mapOuts : ∀ (f : Nat → OutState → OutState) (s : State), Frame 65536 s (mapOuts f s) := by
  intro f s
  unfold mapOuts
  refine Frame.step (frame_set_hurdle _ _) rfl ?_
  exact Frame.refl _ _

/-- Changes at most hurdle. -/
theorem frame_voidSource : ∀ (src : Fin 16) (s : State), Frame 65536 s (voidSource src s) := by
  intro src s
  unfold voidSource
  refine Frame.step (frame_mapOuts _ _) rfl ?_
  exact Frame.refl _ _

/-- Changes at most heads, sys, evt, hurdle, tally. -/
theorem frame_logConflict : ∀ (o : Nat) (l : List (Nat × Word)) (prio : Nat) (win : Nat × Word) (s : State), Frame 328080 s (logConflict o l prio win s) := by
  intro o l prio win s
  unfold logConflict
  refine Frame.ite ?_ ?_
  · exact Frame.refl _ _
  · extract_lets x1 x2 x3 x4
    have h5 : Frame 328080 s x1 := by
      subst x1
      refine Frame.step (frame_logEv _ _ _ _ _) rfl ?_
      exact Frame.refl _ _
    clear_value x1
    have h6 : Frame 328080 s x2 := by
      subst x2
      refine Frame.foldl (fun x7 k8 h9 => ?_) ?_
      · refine Frame.step (frame_logEv _ _ _ _ _) rfl ?_
        assumption
      · assumption
    clear_value x2
    clear_value x3
    have h10 : Frame 328080 s x4 := by
      subst x4
      refine Frame.step (frame_bump _ _ _ _ _) rfl ?_
      refine Frame.step (frame_set_hurdle _ _) rfl ?_
      assumption
    clear_value x4
    refine Frame.step (frame_setIrq _ _ _) rfl ?_
    refine Frame.step (frame_sysFlag _ _) rfl ?_
    refine Frame.step (frame_modOut _ _ _) rfl ?_
    assumption

/-- Changes at most heads, sys, evt, hurdle, tally. -/
theorem frame_arbitrate : ∀ (o : Nat) (s : State), Frame 328080 s (arbitrate o s) := by
  intro o s
  unfold arbitrate
  split
  · exact Frame.refl _ _
  · split
    · extract_lets x1 x2 x3
      clear_value x1
      clear_value x2
      have h4 : Frame 328080 s x3 := by
        subst x3
        refine Frame.ite ?_ ?_
        · refine Frame.step (frame_logConflict _ _ _ _ _) rfl ?_
          exact Frame.refl _ _
        · refine Frame.step (frame_modOut _ _ _) rfl ?_
          exact Frame.refl _ _
      clear_value x3
      refine Frame.step (frame_modOut _ _ _) rfl ?_
      assumption

/-- Changes at most hurdle. -/
theorem frame_discardFresh : ∀ (src : Fin 16) (s : State), Frame 65536 s (discardFresh src s) := by
  intro src s
  unfold discardFresh
  refine Frame.step (frame_mapOuts _ _) rfl ?_
  exact Frame.refl _ _

/-- Changes at most sol, hurdle. -/
theorem frame_closeIntake : ∀ (s : State), Frame 73728 s (closeIntake s) := by
  intro s
  unfold closeIntake
  refine Frame.step (frame_set_sol_hurdle _ _ _) rfl ?_
  exact Frame.refl _ _

/-- Changes at most hurdle. -/
theorem frame_copyGroups : ∀ (s : State), Frame 65536 s (copyGroups s) := by
  intro s
  unfold copyGroups
  refine Frame.step (frame_mapOuts _ _) rfl ?_
  exact Frame.refl _ _

/-- Changes at most heads, sys, evt, sol, hurdle, tally. -/
theorem frame_deliverCmd : ∀ (src : Fin 16) (o : Nat) (w : Word) (s : State), Frame 336272 s (deliverCmd src o w s) := by
  intro src o w s
  unfold deliverCmd
  refine Frame.ite ?_ ?_
  · refine Frame.step (frame_acceptCmd _ _ _ _) rfl ?_
    exact Frame.refl _ _
  · refine Frame.step (frame_refusedWord _ _ _) rfl ?_
    exact Frame.refl _ _

/-- Changes at most heads, evt, tally. -/
theorem frame_logHold : ∀ (code sev irq : Nat) (f : Pending → Option Nat) (s : State), Frame 262416 s (logHold code sev irq f s) := by
  intro code sev irq f s
  unfold logHold
  refine Frame.foldl (fun x1 k2 h3 => ?_) ?_
  · extract_lets x4
    clear_value x4
    split
    · assumption
    · extract_lets x5
      have h6 : Frame 262416 s x5 := by
        subst x5
        refine Frame.step (frame_logEv _ _ _ _ _) rfl ?_
        assumption
      clear_value x5
      refine Frame.ite ?_ ?_
      · refine Frame.step (frame_setIrq _ _ _) rfl ?_
        assumption
      · assumption
  · exact Frame.refl _ _

/-- Changes at most heads, evt, hurdle, tally. -/
theorem frame_expireHold : ∀ (which : Nat → Bool) (s : State), Frame 327952 s (expireHold which s) := by
  intro which s
  unfold expireHold
  extract_lets x1
  have h2 : Frame 327952 s x1 := by
    subst x1
    refine Frame.step (frame_logHold _ _ _ _ _) rfl ?_
    exact Frame.refl _ _
  clear_value x1
  refine Frame.step (frame_mapOuts _ _) rfl ?_
  assumption

/-- Changes at most sol, hurdle. -/
theorem frame_doDelayedCmdRelease : ∀ (k src : Fin 16) (s : State), Frame 73728 s (doDelayedCmdRelease k src s) := by
  intro k src s
  unfold doDelayedCmdRelease
  split
  · exact Frame.refl _ _
  · refine Frame.ite ?_ ?_
    · extract_lets x1
      have h2 : Frame 73728 s x1 := by
        subst x1
        refine Frame.step (frame_modSol _ _ _) rfl ?_
        exact Frame.refl _ _
      clear_value x1
      refine Frame.step (frame_modOut _ _ _) rfl ?_
      assumption
    · exact Frame.refl _ _

/-- Changes at most heads, sys, evt, sol, hurdle, tally. -/
theorem frame_peerCmd : ∀ (o : Nat) (s : State), Frame 336272 s (peerCmd o s) := by
  intro o s
  unfold peerCmd
  split
  · refine Frame.step (frame_deliverCmd _ _ _ _) rfl ?_
    exact Frame.refl _ _
  · refine Frame.step (frame_withdraw _ _ _ _) rfl ?_
    exact Frame.refl _ _
  · exact Frame.refl _ _

/-- Changes at most heads, sys, evt, hurdle, time, tally. -/
theorem frame_doEscclr : ∀ (rq : Requester) (o : Fin 448) (s : State), Frame 459152 s (doEscclr rq o s) := by
  intro rq o s
  unfold doEscclr
  refine Frame.step (frame_outCtrlWrite _ _ _ _) rfl ?_
  exact Frame.refl _ _

/-- Changes at most heads, evt, hurdle, tally. -/
theorem frame_doHoldExpire : ∀ (src : Fin 16) (s : State), Frame 327952 s (doHoldExpire src s) := by
  intro src s
  unfold doHoldExpire
  refine Frame.step (frame_expireHold _ _) rfl ?_
  exact Frame.refl _ _

/-- Changes at most heads, sys, evt, hurdle, time, tally. -/
theorem frame_doWdraw : ∀ (rq : Requester) (o : Fin 448) (s : State), Frame 459152 s (doWdraw rq o s) := by
  intro rq o s
  unfold doWdraw
  refine Frame.step (frame_outCtrlWrite _ _ _ _) rfl ?_
  exact Frame.refl _ _

/-- Changes at most hurdle. -/
theorem frame_modNext : ∀ (o : Nat) (f : Pending → Pending) (s : State), Frame 65536 s (modNext o f s) := by
  intro o f s
  unfold modNext
  refine Frame.step (frame_modOut _ _ _) rfl ?_
  exact Frame.refl _ _

/-- Changes at most hurdle. -/
theorem frame_clipBy : ∀ (o i : Nat) (r : HurdleRec) (s : State), Frame 65536 s (clipBy o i r s) := by
  intro o i r s
  unfold clipBy
  refine Frame.step (frame_modNext _ _ _) rfl ?_
  exact Frame.refl _ _

/-- Changes at most hurdle. -/
theorem frame_checkRec : ∀ (o : Nat) (x : HurdleRec × Nat) (s : State), Frame 65536 s (checkRec o x s) := by
  intro o x s
  unfold checkRec
  refine Frame.ite ?_ ?_
  · exact Frame.refl _ _
  · refine Frame.ite ?_ ?_
    · extract_lets x1
      have h2 : Frame 65536 s x1 := by
        subst x1
        refine Frame.ite ?_ ?_
        · refine Frame.step (frame_modOut _ _ _) rfl ?_
          exact Frame.refl _ _
        · exact Frame.refl _ _
      clear_value x1
      refine Frame.step (frame_clipBy _ _ _ _) rfl ?_
      assumption
    · exact Frame.refl _ _

/-- Changes at most heads, evt, hurdle, tally. -/
theorem frame_clipReport : ∀ (o : Nat) (s : State), Frame 327952 s (clipReport o s) := by
  intro o s
  unfold clipReport
  extract_lets x1 x2 x3 x4 x5 x6
  clear_value x1
  clear_value x2
  clear_value x3
  clear_value x4
  have h7 : Frame 327952 s x5 := by
    subst x5
    refine Frame.step (frame_modOut _ _ _) rfl ?_
    exact Frame.refl _ _
  clear_value x5
  have h8 : Frame 327952 s x6 := by
    subst x6
    split
    · refine Frame.step (frame_logEv _ _ _ _ _) rfl ?_
      assumption
    · assumption
  clear_value x6
  refine Frame.ite ?_ ?_
  · refine Frame.step (frame_modOut _ _ _) rfl ?_
    exact Frame.refl _ _
  · split
    · extract_lets x9 x10 x11
      have h12 : Frame 327952 s x9 := by
        subst x9
        refine Frame.step (frame_logEv _ _ _ _ _) rfl ?_
        assumption
      clear_value x9
      clear_value x10
      have h13 : Frame 327952 s x11 := by
        subst x11
        refine Frame.step (frame_bump _ _ _ _ _) rfl ?_
        refine Frame.step (frame_set_hurdle _ _) rfl ?_
        assumption
      clear_value x11
      refine Frame.step (frame_setIrq _ _ _) rfl ?_
      refine Frame.step (frame_modOut _ _ _) rfl ?_
      assumption
    · refine Frame.step (frame_modOut _ _ _) rfl ?_
      assumption

/-- Changes at most heads, evt, hurdle, tally. -/
theorem frame_doEscEnd : ∀ (o : Fin 256) (s : State), Frame 327952 s (doEscEnd o s) := by
  intro o s
  unfold doEscEnd
  extract_lets x1 x2
  clear_value x1
  clear_value x2
  refine Frame.ite ?_ ?_
  · refine Frame.step (frame_endEscalation _ _ _) rfl ?_
    exact Frame.refl _ _
  · exact Frame.refl _ _

/-- Changes at most heads, evt, hurdle, tally. -/
theorem frame_reportStale : ∀ (x : HurdleRec × Nat) (s : State), Frame 327952 s (reportStale x s) := by
  intro x s
  unfold reportStale
  refine Frame.ite ?_ ?_
  · refine Frame.step (frame_logEv _ _ _ _ _) rfl ?_
    refine Frame.step (frame_set_hurdle _ _) rfl ?_
    exact Frame.refl _ _
  · exact Frame.refl _ _

/-- Changes at most hurdle. -/
theorem frame_hurdleStep1 : ∀ (o : Nat) (s : State), Frame 65536 s (hurdleStep1 o s) := by
  intro o s
  unfold hurdleStep1
  extract_lets x1 x2
  clear_value x1
  have h3 : Frame 65536 s x2 := by
    subst x2
    refine Frame.ite ?_ ?_
    · refine Frame.step (frame_modNext _ _ _) rfl ?_
      exact Frame.refl _ _
    · exact Frame.refl _ _
  clear_value x2
  refine Frame.ite ?_ ?_
  · refine Frame.foldl (fun x4 k5 h6 => ?_) ?_
    · refine Frame.step (frame_checkRec _ _ _) rfl ?_
      assumption
    · assumption
  · refine Frame.step (frame_modOut _ _ _) rfl ?_
    assumption

/-- Changes at most heads, evt, hurdle, tally. -/
theorem frame_shedOne : ∀ (x : HurdleRec × Nat) (se : State × Nat × Bool), Frame 327952 se.1 (shedOne x se).1 := by
  intro x se
  obtain ⟨s, e, b⟩ := se
  unfold shedOne
  dsimp only
  split
  · exact Frame.step (frame_setIrq _ _ _) rfl (Frame.step (frame_logEv _ _ _ _ _) rfl ((frame_modOut _ _ _).mono rfl))
  · exact Frame.refl _ _

/-- Changes at most heads, evt, hurdle, tally. -/
theorem frame_setOverbudget : ∀ (e : Nat) (s : State), Frame 327952 s (setOverbudget e s) := by
  intro e s
  unfold setOverbudget
  extract_lets x1 x2 x3
  clear_value x1
  clear_value x2
  have h4 : Frame 327952 s x3 := by
    subst x3
    refine Frame.step (frame_logEv _ _ _ _ _) rfl ?_
    refine Frame.step (frame_set_hurdle _ _) rfl ?_
    exact Frame.refl _ _
  clear_value x3
  refine Frame.ite ?_ ?_
  · exact Frame.refl _ _
  · refine Frame.ite ?_ ?_
    · refine Frame.step (frame_setIrq _ _ _) rfl ?_
      assumption
    · assumption

/-- Changes at most heads, evt, hurdle, tally. -/
theorem frame_readmit : ∀ (s : State), Frame 327952 s (readmit s) := by
  intro s
  unfold readmit
  split
  · exact Frame.refl _ _
  · extract_lets x1 x2 x3 x4 x5
    clear_value x1
    clear_value x2
    have h6 : Frame 327952 s x3 := by
      subst x3
      refine Frame.step (frame_modOut _ _ _) rfl ?_
      exact Frame.refl _ _
    clear_value x3
    have h7 : Frame 327952 s x4 := by
      subst x4
      refine Frame.step (frame_logEv _ _ _ _ _) rfl ?_
      assumption
    clear_value x4
    clear_value x5
    refine Frame.ite ?_ ?_
    · refine Frame.step (frame_setIrq _ _ _) rfl ?_
      refine Frame.step (frame_set_hurdle _ _) rfl ?_
      assumption
    · exact Frame.refl _ _

/-- Changes at most heads, evt, hurdle, tally. -/
theorem frame_hurdleStep3 : ∀ (s : State), Frame 327952 s (hurdleStep3 s) := by
  intro s
  unfold hurdleStep3
  split
  · rename_i n1 n2 n3 n4 n5
    have h6 : Frame 327952 s n2 := by
      refine Frame.ofEq1 n5 ?_
      refine Frame.foldl1 (fun r7 k8 h9 => ?_) ?_
      · refine Frame.step (frame_shedOne _ _) rfl ?_
        · assumption
      · exact Frame.refl _ _
    extract_lets x10 x11
    have h12 : Frame 327952 s x10 := by
      subst x10
      refine Frame.step (frame_setOverbudget _ _) rfl ?_
      assumption
    clear_value x10
    have h13 : Frame 327952 s x11 := by
      subst x11
      refine Frame.ite ?_ ?_
      · assumption
      · refine Frame.step (frame_readmit _) rfl ?_
        assumption
    clear_value x11
    refine Frame.foldl (fun x14 k15 h16 => ?_) ?_
    · refine Frame.ite ?_ ?_
      · refine Frame.step (frame_clipBy _ _ _ _) rfl ?_
        assumption
      · assumption
    · assumption

/-- Changes at most hurdle. -/
theorem frame_interlock : ∀ (x : HurdleRec × Nat) (s : State), Frame 65536 s (interlock x s) := by
  intro x s
  unfold interlock
  extract_lets x1 x2 x3 x4 x5 x6 x7 x8 x9 x10 x11 x12 x13 x14 x15 x16
  clear_value x1
  clear_value x2
  clear_value x3
  clear_value x4
  clear_value x5
  clear_value x6
  clear_value x7
  clear_value x8
  clear_value x9
  clear_value x10
  clear_value x11
  clear_value x12
  clear_value x13
  clear_value x14
  clear_value x15
  have h17 : Frame 65536 s x16 := by
    subst x16
    refine Frame.ite ?_ ?_
    · refine Frame.step (frame_clipBy _ _ _ _) rfl ?_
      exact Frame.refl _ _
    · exact Frame.refl _ _
  clear_value x16
  refine Frame.ite ?_ ?_
  · refine Frame.step (frame_clipBy _ _ _ _) rfl ?_
    assumption
  · assumption

/-- Changes at most hurdle. -/
theorem frame_hurdleStep2 : ∀ (s : State), Frame 65536 s (hurdleStep2 s) := by
  intro s
  unfold hurdleStep2
  refine Frame.foldl (fun x1 k2 h3 => ?_) ?_
  · refine Frame.step (frame_interlock _ _) rfl ?_
    assumption
  · exact Frame.refl _ _

/-- Changes at most hurdle. -/
theorem frame_restLagging : ∀ (o : Nat) (s : State), Frame 65536 s (restLagging o s) := by
  intro o s
  unfold restLagging
  refine Frame.ite ?_ ?_
  · extract_lets x1
    clear_value x1
    refine Frame.step (frame_modNext _ _ _) rfl ?_
    exact Frame.refl _ _
  · exact Frame.refl _ _

/-- Changes at most heads, evt, hurdle, tally. -/
theorem frame_escalate : ∀ (o : Nat) (s : State), Frame 327952 s (escalate o s) := by
  intro o s
  unfold escalate
  extract_lets x1
  clear_value x1
  split
  · refine Frame.ite ?_ ?_
    · extract_lets x2 x3 x4 x5
      clear_value x2
      have h6 : Frame 327952 s x3 := by
        subst x3
        refine Frame.step (frame_modOut _ _ _) rfl ?_
        exact Frame.refl _ _
      clear_value x3
      clear_value x4
      have h7 : Frame 327952 s x5 := by
        subst x5
        refine Frame.step (frame_bump _ _ _ _ _) rfl ?_
        refine Frame.step (frame_set_hurdle _ _) rfl ?_
        assumption
      clear_value x5
      refine Frame.step (frame_setIrq _ _ _) rfl ?_
      refine Frame.step (frame_logEv _ _ _ _ _) rfl ?_
      assumption
    · exact Frame.refl _ _
  · exact Frame.refl _ _

/-- Changes at most heads, evt, hurdle, tally. -/
theorem frame_hurdle : ∀ (s : State), Frame 327952 s (hurdle s) := by
  intro s
  unfold hurdle
  extract_lets x1 x2 x3 x4 x5 x6 x7
  clear_value x1
  have h8 : Frame 327952 s x2 := by
    subst x2
    refine Frame.step (frame_set_hurdle _ _) rfl ?_
    exact Frame.refl _ _
  clear_value x2
  have h9 : Frame 327952 s x3 := by
    subst x3
    refine Frame.foldl (fun x10 k11 h12 => ?_) ?_
    · refine Frame.step (frame_reportStale _ _) rfl ?_
      assumption
    · assumption
  clear_value x3
  have h13 : Frame 327952 s x4 := by
    subst x4
    refine Frame.foldl (fun x14 k15 h16 => ?_) ?_
    · refine Frame.step (frame_hurdleStep1 _ _) rfl ?_
      assumption
    · assumption
  clear_value x4
  have h17 : Frame 327952 s x5 := by
    subst x5
    refine Frame.step (frame_hurdleStep3 _) rfl ?_
    refine Frame.step (frame_hurdleStep2 _) rfl ?_
    assumption
  clear_value x5
  have h18 : Frame 327952 s x6 := by
    subst x6
    refine Frame.foldl (fun x19 k20 h21 => ?_) ?_
    · refine Frame.step (frame_restLagging _ _) rfl ?_
      assumption
    · assumption
  clear_value x6
  have h22 : Frame 327952 s x7 := by
    subst x7
    refine Frame.foldl (fun x23 k24 h25 => ?_) ?_
    · refine Frame.step (frame_escalate _ _) rfl ?_
      assumption
    · assumption
  clear_value x7
  refine Frame.foldl (fun x26 k27 h28 => ?_) ?_
  · refine Frame.step (frame_clipReport _ _) rfl ?_
    assumption
  · assumption

end Sys2Proof.Machine
end

