-- ==== Sys2Proof/Laws/Frames/RecordOps.lean ====
section
/-! SUPPORT. Frames of the operations of Machine/FrameTick, TimeTally, Keys. -/

namespace Sys2Proof.Machine

set_option maxRecDepth 10000

/-- Changes at most heads, evt, time, tally. -/
theorem frame_logTimeMap : ∀ (s : State), Frame 393488 s (logTimeMap s) := by
  intro s
  unfold logTimeMap
  refine Frame.step (frame_tallyWrite _ _) rfl ?_
  refine Frame.step (frame_set_time _ _) rfl ?_
  exact Frame.refl _ _

/-- Changes at most heads, evt, tally, upd. -/
theorem frame_actAbort : ∀ (cause : Nat) (s : State), Frame 1074004240 s (actAbort cause s) := by
  intro cause s
  unfold actAbort
  refine Frame.ite ?_ ?_
  · refine Frame.step (frame_logEv _ _ _ _ _) rfl ?_
    refine Frame.step (frame_set_upd _ _) rfl ?_
    exact Frame.refl _ _
  · exact Frame.refl _ _

/-- Changes at most tick. -/
theorem frame_setTc : ∀ (k : Fin 4) (t : TcState) (s : State), Frame 512 s (setTc k t s) := by
  intro k t s
  unfold setTc
  refine Frame.step (frame_set_tick _ _) rfl ?_
  exact Frame.refl _ _

/-- Changes at most heads, evt, sol, tally. -/
theorem frame_solApply : ∀ (ok : Bool) (k : Fin 16) (s : State), Frame 270608 s (solApply ok k s) := by
  intro ok k s
  unfold solApply
  refine Frame.ite ?_ ?_
  · refine Frame.step (frame_solCommit _ _ _) rfl ?_
    exact Frame.refl _ _
  · exact Frame.refl _ _

/-- Changes at most heads, evt, hsw, sol, tally. -/
theorem frame_hsApply : ∀ (ok : Bool) (k : Fin 96) (s : State), Frame 274704 s (hsApply ok k s) := by
  intro ok k s
  unfold hsApply
  refine Frame.ite ?_ ?_
  · refine Frame.step (frame_modHs _ _ _) rfl ?_
    exact Frame.refl _ _
  · refine Frame.step (frame_hsCommit _ _ _) rfl ?_
    exact Frame.refl _ _

/-- Changes at most led. -/
theorem frame_lampApply : ∀ (ok noFade was : Bool) (k : Fin 128) (s : State), Frame 16384 s (lampApply ok noFade was k s) := by
  intro ok noFade was k s
  unfold lampApply
  extract_lets x1 x2 x3 x4
  clear_value x1
  clear_value x2
  clear_value x3
  refine Frame.ite ?_ ?_
  · refine Frame.step (frame_modPos _ _ _) rfl ?_
    exact Frame.refl _ _
  · refine Frame.step (frame_modPos _ _ _) rfl ?_
    exact Frame.refl _ _

/-- Changes at most heads, evt, hsw, sol, led, tally. -/
theorem frame_applyDies : ∀ (ok : Vector Bool 5) (noFade : List Nat) (was : Bool) (s : State), Frame 291088 s (applyDies ok noFade was s) := by
  intro ok noFade was s
  unfold applyDies
  extract_lets x1 x2 x3 x4
  have h5 : Frame 291088 s x1 := by
    subst x1
    refine Frame.foldl (fun x6 k7 h8 => ?_) ?_
    · refine Frame.step (frame_solApply _ _ _) rfl ?_
      assumption
    · exact Frame.refl _ _
  clear_value x1
  have h9 : Frame 291088 s x2 := by
    subst x2
    refine Frame.foldl (fun x10 k11 h12 => ?_) ?_
    · refine Frame.step (frame_hsApply _ _ _) rfl ?_
      assumption
    · assumption
  clear_value x2
  have h13 : Frame 291088 s x3 := by
    subst x3
    refine Frame.foldl (fun x14 k15 h16 => ?_) ?_
    · refine Frame.step (frame_lampApply _ _ _ _ _) rfl ?_
      assumption
    · assumption
  clear_value x3
  clear_value x4
  refine Frame.step (frame_set_led _ _) rfl ?_
  assumption

/-- Changes at most tick, din, hurdle, time. -/
theorem frame_beginTick : ∀ (n start : Nat) (s : State), Frame 229888 s (beginTick n start s) := by
  intro n start s
  unfold beginTick
  refine Frame.step (frame_set_tick_din_hurdle_time _ _ _ _ _) rfl ?_
  exact Frame.refl _ _

/-- Changes at most hurdle. -/
theorem frame_commitOutputs : ∀ (s : State), Frame 65536 s (commitOutputs s) := by
  intro s
  unfold commitOutputs
  refine Frame.step (frame_mapOuts _ _) rfl ?_
  exact Frame.refl _ _

/-- Changes at most heads, evt, tally. -/
theorem frame_logDeck : ∀ (die : Nat) (s : State), Frame 262416 s (logDeck die s) := by
  intro die s
  unfold logDeck
  refine Frame.step (frame_logEv _ _ _ _ _) rfl ?_
  exact Frame.refl _ _

/-- Changes at most heads, evt, tick, tally. -/
theorem frame_dieFrame : ∀ (ok : Bool) (die : Fin 5) (s : State), Frame 262928 s (dieFrame ok die s) := by
  intro ok die s
  unfold dieFrame
  refine Frame.ite ?_ ?_
  · refine Frame.step (frame_set_tick _ _) rfl ?_
    exact Frame.refl _ _
  · refine Frame.step (frame_logDeck _ _) rfl ?_
    refine Frame.step (frame_set_tick _ _) rfl ?_
    exact Frame.refl _ _

/-- Changes at most heads, evt, led, tally. -/
theorem frame_modeCommit : ∀ (s : State), Frame 278800 s (modeCommit s) := by
  intro s
  unfold modeCommit
  extract_lets x1 x2 x3 x4 x5
  have h6 : Frame 278800 s x4 := by
    subst x4
    refine Frame.step (frame_set_led _ _) rfl ?_
    exact Frame.refl _ _
  clear_value x5
  refine Frame.ite ?_ ?_
  · refine Frame.step (frame_logEv _ _ _ _ _) rfl ?_
    refine Frame.step (frame_set_led _ _) rfl ?_
    assumption
  · assumption

/-- Changes at most heads, sys, evt, tick. -/
theorem frame_holdSummary : ∀ (s : State), Frame 912 s (holdSummary s) := by
  intro s
  unfold holdSummary
  extract_lets x1 x2 x3 x4 x5 x6 x7 x8
  clear_value x1
  clear_value x2
  clear_value x3
  clear_value x4
  clear_value x5
  clear_value x6
  clear_value x7
  have h9 : Frame 912 s x8 := by
    subst x8
    refine Frame.step (frame_set_sys_tick _ _ _) rfl ?_
    exact Frame.refl _ _
  clear_value x8
  refine Frame.ite ?_ ?_
  · refine Frame.step (frame_setIrq _ _ _) rfl ?_
    assumption
  · assumption

/-- Changes at most heads, sys, evt, tick, hsw, sol, led, hurdle, time, tally. -/
theorem frame_doCommitMark : ∀ (ok : Vector Bool 5) (s : State), Frame 488336 s (doCommitMark ok s) := by
  intro ok s
  unfold doCommitMark
  refine Frame.ite ?_ ?_
  · extract_lets x1 x2 x3 x4 x5 x6 x7 x8 x9 x10 x11
    have h12 : Frame 488336 s x1 := by
      subst x1
      refine Frame.step (frame_passInTick _ _ _) rfl ?_
      exact Frame.refl _ _
    clear_value x1
    have h13 : Frame 488336 s x2 := by
      subst x2
      refine Frame.step (frame_expireHold _ _) rfl ?_
      assumption
    clear_value x2
    clear_value x3
    have h14 : Frame 488336 s x4 := by
      subst x4
      refine Frame.step (frame_commitOutputs _) rfl ?_
      assumption
    clear_value x4
    have h15 : Frame 488336 s x5 := by
      subst x5
      refine Frame.foldl (fun x16 k17 h18 => ?_) ?_
      · refine Frame.step (frame_dieFrame _ _ _) rfl ?_
        assumption
      · assumption
    clear_value x5
    have h19 : Frame 488336 s x6 := by
      subst x6
      refine Frame.step (frame_applyDies _ _ _ _) rfl ?_
      refine Frame.step (frame_modeCommit _) rfl ?_
      assumption
    clear_value x6
    have h20 : Frame 488336 s x7 := by
      subst x7
      refine Frame.step (frame_holdSummary _) rfl ?_
      assumption
    clear_value x7
    have h21 : Frame 488336 s x8 := by
      subst x8
      refine Frame.step (frame_estimate _) rfl ?_
      assumption
    clear_value x8
    clear_value x9
    clear_value x10
    have h22 : Frame 488336 s x11 := by
      subst x11
      refine Frame.step (frame_set_tick_hurdle _ _ _) rfl ?_
      assumption
    clear_value x11
    refine Frame.step (frame_raiseLine _ _) rfl ?_
    assumption
  · exact Frame.refl _ _

/-- Changes at most heads, evt, hsw, sol, led, tally. -/
theorem frame_restDie : ∀ (die : Nat) (s : State), Frame 291088 s (restDie die s) := by
  intro die s
  unfold restDie
  extract_lets x1 x2 x3 x4
  clear_value x1
  have h5 : Frame 291088 s x2 := by
    subst x2
    refine Frame.foldl (fun x6 k7 h8 => ?_) ?_
    · refine Frame.ite ?_ ?_
      · refine Frame.step (frame_solCommit _ _ _) rfl ?_
        assumption
      · assumption
    · exact Frame.refl _ _
  clear_value x2
  have h9 : Frame 291088 s x3 := by
    subst x3
    refine Frame.foldl (fun x10 k11 h12 => ?_) ?_
    · refine Frame.ite ?_ ?_
      · refine Frame.step (frame_modPos _ _ _) rfl ?_
        assumption
      · assumption
    · assumption
  clear_value x3
  clear_value x4
  refine Frame.ite ?_ ?_
  · refine Frame.step (frame_set_led _ _) rfl ?_
    assumption
  · refine Frame.foldl (fun x13 k14 h15 => ?_) ?_
    · refine Frame.ite ?_ ?_
      · refine Frame.step (frame_hsCommit _ _ _) rfl ?_
        assumption
      · assumption
    · exact Frame.refl _ _

/-- Changes at most heads, evt, tally. -/
theorem frame_logMissed : ∀ (die n : Nat) (s : State), Frame 262416 s (logMissed die n s) := by
  intro die n
  induction n with
  | zero => intro s; exact Frame.refl _ _
  | succ n ih =>
    intro s
    unfold logMissed
    exact Frame.step (ih _) rfl ((frame_logDeck _ _).mono rfl)

/-- Changes at most heads, evt, tick, cfg, hsw, sol, led, tally. -/
theorem frame_doDeckRestPattern : ∀ (die : Fin 5) (s : State), Frame 293648 s (doDeckRestPattern die s) := by
  intro die s
  unfold doDeckRestPattern
  refine Frame.ite ?_ (Frame.refl _ _)
  have hl : Frame 293648 s (logMissed die.val (2 - s.tick.missed[die]) s) := (frame_logMissed _ _ _).mono rfl
  generalize logMissed die.val (2 - s.tick.missed[die]) s = t at hl ⊢
  have h0 : ∀ v, Frame 293648 s { t with tick := v } := fun v => Frame.step (frame_set_tick t v) rfl hl
  have h1 : ∀ v g, Frame 293648 s { t with tick := v, cfg := g } := fun v g =>
    Frame.step (frame_set_cfg { t with tick := v } g) rfl (h0 v)
  dsimp only
  split
  · rename_i g hg
    refine Frame.step (frame_set_cfg _ _) rfl ?_
    refine Frame.step (frame_restDie _ _) rfl ?_
    exact h1 _ _
  · refine Frame.step (frame_restDie _ _) rfl ?_
    exact h0 _

/-- Changes at most heads, evt, hsw, sol, hurdle, time, tally. -/
theorem frame_hsGroupCommit : ∀ (k : Fin 96) (s : State), Frame 471312 s (hsGroupCommit k s) := by
  intro k s
  unfold hsGroupCommit
  extract_lets x1
  have h2 : Frame 471312 s x1 := by
    subst x1
    refine Frame.step (frame_passInTick _ _ _) rfl ?_
    exact Frame.refl _ _
  clear_value x1
  refine Frame.foldl (fun x3 k4 h5 => ?_) ?_
  · refine Frame.step (frame_modHs _ _ _) rfl ?_
    refine Frame.step (frame_hsCommit _ _ _) rfl ?_
    assumption
  · assumption

/-- Changes at most heads, evt, hsw, sol, hurdle, time, tally. -/
theorem frame_doInrushEnd : ∀ (k : Fin 96) (s : State), Frame 471312 s (doInrushEnd k s) := by
  intro k s
  unfold doInrushEnd
  extract_lets x1
  clear_value x1
  refine Frame.ite ?_ ?_
  · refine Frame.step (frame_hsGroupCommit _ _) rfl ?_
    exact Frame.refl _ _
  · exact Frame.refl _ _

/-- Changes at most heads, evt, hsw, sol, hurdle, time, tally. -/
theorem frame_doRetry : ∀ (k : Fin 96) (s : State), Frame 471312 s (doRetry k s) := by
  intro k s
  unfold doRetry
  extract_lets x1
  clear_value x1
  refine Frame.ite ?_ ?_
  · refine Frame.step (frame_hsGroupCommit _ _) rfl ?_
    exact Frame.refl _ _
  · exact Frame.refl _ _

/-- Changes at most heads, evt, hsw, sol, hurdle, time, tally. -/
theorem frame_doRetryClear : ∀ (k : Fin 96) (s : State), Frame 471312 s (doRetryClear k s) := by
  intro k s
  unfold doRetryClear
  extract_lets x1
  clear_value x1
  refine Frame.ite ?_ ?_
  · refine Frame.step (frame_hsGroupCommit _ _) rfl ?_
    exact Frame.refl _ _
  · exact Frame.refl _ _

/-- Changes at most heads, evt, tick, time, tally. -/
theorem frame_takeSource : ∀ (src : Bool) (s : State), Frame 394000 s (takeSource src s) := by
  intro src s
  unfold takeSource
  refine Frame.ite ?_ ?_
  · exact Frame.refl _ _
  · extract_lets x1 x2
    clear_value x1
    have h3 : Frame 394000 s x2 := by
      subst x2
      refine Frame.step (frame_set_tick _ _) rfl ?_
      exact Frame.refl _ _
    clear_value x2
    refine Frame.step (frame_logTimeMap _) rfl ?_
    refine Frame.step (frame_logEv _ _ _ _ _) rfl ?_
    assumption

/-- Changes at most heads, evt, strct, tally, upd. -/
theorem frame_swapJump : ∀ (old new : Nat) (s : State), Frame 1074005264 s (swapJump old new s) := by
  intro old new s
  unfold swapJump
  refine Frame.ite ?_ ?_
  · refine Frame.step (frame_set_strct_upd _ _ _) rfl ?_
    exact Frame.refl _ _
  · extract_lets x1 x2
    have h3 : Frame 1074005264 s x1 := by
      subst x1
      refine Frame.ite ?_ ?_
      · refine Frame.step (frame_actAbort _ _) rfl ?_
        exact Frame.refl _ _
      · exact Frame.refl _ _
    clear_value x1
    clear_value x2
    refine Frame.ite ?_ ?_
    · refine Frame.step (frame_setIrq _ _ _) rfl ?_
      refine Frame.step (frame_logEv _ _ _ _ _) rfl ?_
      refine Frame.step (frame_set_strct _ _) rfl ?_
      assumption
    · assumption

/-- Changes at most freeCount, heads, evt, tick, hsw, din, hurdle, time, tally, pert. -/
theorem frame_startTick : ∀ (n : Nat) (s : State), Frame 17273618 s (startTick n s) := by
  intro n s
  unfold startTick
  extract_lets x1 x2
  have h3 : Frame 17273618 s x1 := by
    subst x1
    refine Frame.step (frame_pertTick _) rfl ?_
    exact Frame.refl _ _
  clear_value x1
  clear_value x2
  refine Frame.step (frame_beginTick _ _ _) rfl ?_
  refine Frame.step (frame_burstAll _) rfl ?_
  refine Frame.step (frame_passToNs _ _) rfl ?_
  assumption

/-- Changes at most freeCount, heads, evt, tick, strct, hsw, din, hurdle, time, tally, pert, upd. -/
theorem frame_doTickStretch : ∀ (s : State), Frame 1091016466 s (doTickStretch s) := by
  intro s
  unfold doTickStretch
  refine Frame.ite ?_ ?_
  · extract_lets x1 x2 x3 x4 x5 x6 x7 x8 x9
    clear_value x1
    have h10 : Frame 1091016466 s x2 := by
      subst x2
      refine Frame.step (frame_passTo _ _ _) rfl ?_
      exact Frame.refl _ _
    clear_value x4
    have h11 : Frame 1091016466 s x5 := by
      subst x5
      refine Frame.step (frame_passTo _ _ _) rfl ?_
      assumption
    clear_value x5
    clear_value x6
    have h12 : Frame 1091016466 s x7 := by
      subst x7
      refine Frame.step (frame_bump _ _ _ _ _) rfl ?_
      refine Frame.step (frame_set_tick _ _) rfl ?_
      assumption
    clear_value x7
    have h13 : Frame 1091016466 s x8 := by
      subst x8
      refine Frame.step (frame_takeSource _ _) rfl ?_
      assumption
    clear_value x8
    have h14 : Frame 1091016466 s x9 := by
      subst x9
      refine Frame.step (frame_logEv _ _ _ _ _) rfl ?_
      assumption
    clear_value x9
    refine Frame.step (frame_swapJump _ _ _) rfl ?_
    refine Frame.step (frame_startTick _ _) rfl ?_
    refine Frame.step (frame_setIrq _ _ _) rfl ?_
    assumption
  · exact Frame.refl _ _

/-- Changes at most freeCount, heads, evt, tick, hsw, din, hurdle, time, tally, pert. -/
theorem frame_doTickStart : ∀ (s : State), Frame 17273618 s (doTickStart s) := by
  intro s
  unfold doTickStart
  refine Frame.ite ?_ ?_
  · exact Frame.refl _ _
  · split
    · extract_lets x1 x2
      have h3 : Frame 17273618 s x1 := by
        subst x1
        refine Frame.step (frame_takeSource _ _) rfl ?_
        exact Frame.refl _ _
      clear_value x1
      clear_value x2
      refine Frame.step (frame_startTick _ _) rfl ?_
      assumption
    · refine Frame.ite ?_ ?_
      · exact Frame.refl _ _
      · refine Frame.step (frame_startTick _ _) rfl ?_
        exact Frame.refl _ _
    · exact Frame.refl _ _

/-- Changes at most heads, time. -/
theorem frame_doTimeCapture : ∀ (rq : Requester) (s : State), Frame 131088 s (doTimeCapture rq s) := by
  intro rq s
  unfold doTimeCapture
  refine Frame.ite ?_ ?_
  · refine Frame.step (frame_set_time _ _) rfl ?_
    exact Frame.refl _ _
  · refine Frame.step (frame_setErr _ _ _) rfl ?_
    exact Frame.refl _ _

/-- Changes at most heads, time. -/
theorem frame_stepTurn : ∀ (n : Fin 4) (rank : Nat) (s : State), Frame 131088 s (stepTurn n rank s) := by
  intro n rank s
  unfold stepTurn
  refine Frame.step (frame_inTurn _ _ _ _) rfl ?_
  exact Frame.refl _ _

/-- Changes at most heads, evt, time, tally, fab, mbus. -/
theorem frame_setOos : ∀ (n : Fin 4) (oos : Bool) (cause : Nat) (s : State), Frame 68026640 s (setOos n oos cause s) := by
  intro n oos cause s
  unfold setOos
  refine Frame.ite ?_ ?_
  · exact Frame.refl _ _
  · extract_lets x1 x2 x3 x4 x5
    have h6 : Frame 68026640 s x1 := by
      subst x1
      refine Frame.step (frame_modTb _ _ _) rfl ?_
      exact Frame.refl _ _
    clear_value x1
    clear_value x2
    have h7 : Frame 68026640 s x3 := by
      subst x3
      refine Frame.ite ?_ ?_
      · refine Frame.step (frame_set_fab _ _) rfl ?_
        assumption
      · assumption
    clear_value x3
    clear_value x4
    have h8 : Frame 68026640 s x5 := by
      subst x5
      refine Frame.ite ?_ ?_
      · refine Frame.step (frame_set_mbus _ _) rfl ?_
        assumption
      · assumption
    clear_value x5
    refine Frame.step (frame_setIrq _ _ _) rfl ?_
    refine Frame.step (frame_logEv _ _ _ _ _) rfl ?_
    assumption

/-- Changes at most heads, evt, time, tally, fab, mbus. -/
theorem frame_doTbOos : ∀ (rq : Requester) (n : Fin 4) (v : Bool) (s : State), Frame 68026640 s (doTbOos rq n v s) := by
  intro rq n v s
  unfold doTbOos
  extract_lets x1
  have h2 : Frame 68026640 s x1 := by
    subst x1
    refine Frame.step (frame_stepTurn _ _ _) rfl ?_
    exact Frame.refl _ _
  clear_value x1
  refine Frame.ite ?_ ?_
  · refine Frame.step (frame_setErr _ _ _) rfl ?_
    assumption
  · refine Frame.ite ?_ ?_
    · refine Frame.ite ?_ ?_
      · refine Frame.step (frame_setOos _ _ _ _) rfl ?_
        assumption
      · refine Frame.step (frame_setErr _ _ _) rfl ?_
        assumption
    · refine Frame.ite ?_ ?_
      · refine Frame.step (frame_setOos _ _ _ _) rfl ?_
        assumption
      · refine Frame.step (frame_setErr _ _ _) rfl ?_
        assumption

/-- Changes at most heads, evt, time, tally. -/
theorem frame_doTbArm : ∀ (rq : Requester) (n : Fin 4) (s : State), Frame 393488 s (doTbArm rq n s) := by
  intro rq n s
  unfold doTbArm
  extract_lets x1
  have h2 : Frame 393488 s x1 := by
    subst x1
    refine Frame.step (frame_stepTurn _ _ _) rfl ?_
    exact Frame.refl _ _
  clear_value x1
  refine Frame.ite ?_ ?_
  · refine Frame.step (frame_setErr _ _ _) rfl ?_
    assumption
  · refine Frame.ite ?_ ?_
    · refine Frame.step (frame_logEv _ _ _ _ _) rfl ?_
      refine Frame.step (frame_modTb _ _ _) rfl ?_
      assumption
    · refine Frame.step (frame_setErr _ _ _) rfl ?_
      assumption

/-- Changes at most heads, sys, evt, time. -/
theorem frame_doTbRateWrite : ∀ (rq : Requester) (n : Fin 4) (v : Word) (s : State), Frame 131472 s (doTbRateWrite rq n v s) := by
  intro rq n v s
  unfold doTbRateWrite
  refine frame_wrIf _ _ _ _ _ _ _ rfl ?_ ?_
  · exact Frame.refl _ _
  · intro x1 x2
    refine Frame.step (frame_modTb _ _ _) rfl ?_
    assumption

/-- Changes at most heads, evt, tick, time, tally, fab, mbus. -/
theorem frame_stepBase : ∀ (n : Fin 4) (v : DWord) (fw : Bool) (s : State), Frame 68027152 s (stepBase n v fw s) := by
  intro n v fw s
  unfold stepBase
  extract_lets x1 x2 x3 x4 x5 x6 x7 x8 x9
  have h10 : Frame 68027152 s x1 := by
    subst x1
    refine Frame.step (frame_stepTurn _ _ _) rfl ?_
    exact Frame.refl _ _
  clear_value x1
  clear_value x2
  have h11 : Frame 68027152 s x3 := by
    subst x3
    refine Frame.ite ?_ ?_
    · refine Frame.step (frame_runCycles _ _) rfl ?_
      assumption
    · assumption
  clear_value x3
  clear_value x4
  have h12 : Frame 68027152 s x5 := by
    subst x5
    refine Frame.step (frame_modTb _ _ _) rfl ?_
    assumption
  clear_value x5
  clear_value x6
  have h13 : Frame 68027152 s x7 := by
    subst x7
    refine Frame.ite ?_ ?_
    · refine Frame.step (frame_set_tick _ _) rfl ?_
      assumption
    · assumption
  clear_value x7
  have h14 : Frame 68027152 s x8 := by
    subst x8
    refine Frame.step (frame_setIrq _ _ _) rfl ?_
    refine Frame.step (frame_logEv _ _ _ _ _) rfl ?_
    assumption
  clear_value x8
  have h15 : Frame 68027152 s x9 := by
    subst x9
    refine Frame.step (frame_setOos _ _ _ _) rfl ?_
    assumption
  clear_value x9
  refine Frame.ite ?_ ?_
  · refine Frame.ite ?_ ?_
    · refine Frame.step (frame_logTimeMap _) rfl ?_
      assumption
    · assumption
  · refine Frame.step (frame_setIrq _ _ _) rfl ?_
    refine Frame.step (frame_logEv _ _ _ _ _) rfl ?_
    assumption

/-- Changes at most heads, held, sys, evt, tick, time, tally, fab, mbus. -/
theorem frame_doTbStep : ∀ (rq : Requester) (n : Fin 4) (hi : Word) (s : State), Frame 68027344 s (doTbStep rq n hi s) := by
  intro rq n hi s
  unfold doTbStep
  refine Frame.ite ?_ ?_
  · refine Frame.step (frame_setErr _ _ _) rfl ?_
    exact Frame.refl _ _
  · split
    · refine Frame.step (frame_reservedWrite _ _ _) rfl ?_
      exact Frame.refl _ _
    · refine Frame.step (frame_stepBase _ _ _ _) rfl ?_
      refine Frame.step (frame_modTb _ _ _) rfl ?_
      refine Frame.step (frame_dropHeld _ _) rfl ?_
      exact Frame.refl _ _

/-- Changes at most tally. -/
theorem frame_modTally : ∀ (f : TallyBlk → TallyBlk) (s : State), Frame 262144 s (modTally f s) := by
  intro f s
  unfold modTally
  refine Frame.step (frame_set_tally _ _) rfl ?_
  exact Frame.refl _ _

/-- Changes at most heads, evt, tally. -/
theorem frame_endRun : ∀ (s : State), Frame 262416 s (endRun s) := by
  intro s
  unfold endRun
  refine Frame.ite ?_ ?_
  · refine Frame.step (frame_setIrq _ _ _) rfl ?_
    refine Frame.step (frame_modTally _ _) rfl ?_
    exact Frame.refl _ _
  · exact Frame.refl _ _

/-- Changes at most heads, evt, tally. -/
theorem frame_doTallyFlush : ∀ (rq : Requester) (s : State), Frame 262416 s (doTallyFlush rq s) := by
  intro rq s
  unfold doTallyFlush
  refine Frame.ite ?_ ?_
  · refine Frame.step (frame_endRun _) rfl ?_
    refine Frame.step (frame_modTally _ _) rfl ?_
    exact Frame.refl _ _
  · refine Frame.step (frame_setErr _ _ _) rfl ?_
    exact Frame.refl _ _

/-- Changes at most heads, sys, evt, time, tally. -/
theorem frame_doTallyFwGo : ∀ (rq : Requester) (s : State), Frame 393616 s (doTallyFwGo rq s) := by
  intro rq s
  unfold doTallyFwGo
  extract_lets x1 x2 x3
  clear_value x3
  refine Frame.ite ?_ ?_
  · refine Frame.step (frame_refuseWrite _ _ _ _) rfl ?_
    exact Frame.refl _ _
  · refine Frame.ite ?_ ?_
    · refine Frame.step (frame_reservedWrite _ _ _) rfl ?_
      exact Frame.refl _ _
    · refine Frame.step (frame_tallyWrite _ _) rfl ?_
      exact Frame.refl _ _

/-- Changes at most rdata, latches. -/
theorem frame_doTallyEntryRead : ∀ (rq : Requester) (s : State), Frame 40 s (doTallyEntryRead rq s) := by
  intro rq s
  unfold doTallyEntryRead
  extract_lets x1
  clear_value x1
  refine Frame.step (frame_giveRead _ _ _) rfl ?_
  refine Frame.step (frame_latchRead _ _ _ _) rfl ?_
  exact Frame.refl _ _

/-- Changes at most heads, evt, time, tally. -/
theorem frame_setSlew : ∀ (n : Fin 4) (lim : Bool) (s : State), Frame 393488 s (setSlew n lim s) := by
  intro n lim s
  unfold setSlew
  refine Frame.ite ?_ ?_
  · exact Frame.refl _ _
  · refine Frame.step (frame_logEv _ _ _ _ _) rfl ?_
    refine Frame.step (frame_modTb _ _ _) rfl ?_
    exact Frame.refl _ _

/-- Changes at most heads, evt, tally, mem. -/
theorem frame_doArchiveCopy : ∀ (ok : Bool) (s : State), Frame 2359568 s (doArchiveCopy ok s) := by
  intro ok s
  unfold doArchiveCopy
  refine Frame.ite ?_ ?_
  · exact Frame.refl _ _
  · split
    · refine Frame.step (frame_endRun _) rfl ?_
      exact Frame.refl _ _
    · extract_lets x1 x2
      clear_value x1
      have h3 : Frame 2359568 s x2 := by
        subst x2
        refine Frame.step (frame_mramPut _ _ _) rfl ?_
        exact Frame.refl _ _
      clear_value x2
      refine Frame.ite ?_ ?_
      · refine Frame.step (frame_endRun _) rfl ?_
        refine Frame.step (frame_modTally _ _) rfl ?_
        assumption
      · refine Frame.step (frame_logEv _ _ _ _ _) rfl ?_
        refine Frame.step (frame_modTally _ _) rfl ?_
        exact Frame.refl _ _

/-- Changes at most heads, evt, time, tally. -/
theorem frame_steerBase : ∀ (n : Fin 4) (rate : ℤ) (s : State), Frame 393488 s (steerBase n rate s) := by
  intro n rate s
  unfold steerBase
  refine Frame.step (frame_setSlew _ _ _) rfl ?_
  refine Frame.step (frame_modTb _ _ _) rfl ?_
  exact Frame.refl _ _

/-- Changes at most heads, evt, time, tally. -/
theorem frame_doTimeMap : ∀ (s : State), Frame 393488 s (doTimeMap s) := by
  intro s
  unfold doTimeMap
  refine Frame.ite ?_ ?_
  · refine Frame.step (frame_logTimeMap _) rfl ?_
    exact Frame.refl _ _
  · exact Frame.refl _ _

/-- Changes at most key. -/
theorem frame_modKey : ∀ (f : KeyBlk → KeyBlk) (s : State), Frame 33554432 s (modKey f s) := by
  intro f s
  unfold modKey
  refine Frame.step (frame_set_key _ _) rfl ?_
  exact Frame.refl _ _

/-- Changes at most key. -/
theorem frame_modSlot : ∀ (k : Nat) (f : KeySlot → KeySlot) (s : State), Frame 33554432 s (modSlot k f s) := by
  intro k f s
  unfold modSlot
  refine Frame.step (frame_modKey _ _) rfl ?_
  exact Frame.refl _ _

/-- Changes at most freeCount, key. -/
theorem frame_breakWrite : ∀ (j : KeyJob) (elapsed : Nat) (s : State), Frame 33554434 s (breakWrite j elapsed s) := by
  intro j elapsed s
  unfold breakWrite
  refine Frame.ite ?_ ?_
  · refine Frame.step (frame_modSlot _ _ _) rfl ?_
    exact Frame.refl _ _
  · refine Frame.ite ?_ ?_
    · refine Frame.step (frame_tickFree _) rfl ?_
      refine Frame.step (frame_modKey _ _) rfl ?_
      exact Frame.refl _ _
    · exact Frame.refl _ _

/-- Changes at most heads, evt, tally, key. -/
theorem frame_markSlot : ∀ (k : Nat) (s : State), Frame 33816848 s (markSlot k s) := by
  intro k s
  unfold markSlot
  extract_lets x1 x2 x3
  clear_value x1
  have h4 : Frame 33816848 s x3 := by
    subst x3
    refine Frame.step (frame_modSlot _ _ _) rfl ?_
    exact Frame.refl _ _
  clear_value x3
  refine Frame.ite ?_ ?_
  · refine Frame.step (frame_logEv _ _ _ _ _) rfl ?_
    assumption
  · assumption

/-- Changes at most heads, evt, key. -/
theorem frame_keyEnd : ∀ (code : Nat) (s : State), Frame 33554704 s (keyEnd code s) := by
  intro code s
  unfold keyEnd
  refine Frame.step (frame_setIrq _ _ _) rfl ?_
  refine Frame.step (frame_modKey _ _) rfl ?_
  exact Frame.refl _ _

/-- Changes at most freeCount, heads, evt, tally, key. -/
theorem frame_abortKey : ∀ (elapsed : Nat) (s : State), Frame 33816850 s (abortKey elapsed s) := by
  intro elapsed s
  unfold abortKey
  split
  · exact Frame.refl _ _
  · extract_lets x1 x2
    have h3 : Frame 33816850 s x1 := by
      subst x1
      refine Frame.step (frame_modKey _ _) rfl ?_
      refine Frame.step (frame_breakWrite _ _ _) rfl ?_
      exact Frame.refl _ _
    clear_value x1
    have h4 : Frame 33816850 s x2 := by
      subst x2
      refine Frame.ite ?_ ?_
      · refine Frame.step (frame_markSlot _ _) rfl ?_
        assumption
      · assumption
    clear_value x2
    refine Frame.step (frame_keyEnd _ _) rfl ?_
    refine Frame.step (frame_logEv _ _ _ _ _) rfl ?_
    assumption

/-- Changes at most heads, evt, tally. -/
theorem frame_keyRefused : ∀ (k who reason : Nat) (s : State), Frame 262416 s (keyRefused k who reason s) := by
  intro k who reason s
  unfold keyRefused
  refine Frame.step (frame_logEv _ _ _ _ _) rfl ?_
  exact Frame.refl _ _

/-- Changes at most freeCount, heads, evt, tally. -/
theorem frame_refuseBlock : ∀ (k flag : Nat) (s : State), Frame 262418 s (refuseBlock k flag s) := by
  intro k flag s
  unfold refuseBlock
  refine Frame.ite ?_ ?_
  · exact Frame.refl _ _
  · refine Frame.step (frame_keyRefused _ _ _ _) rfl ?_
    refine Frame.step (frame_tickFree _) rfl ?_
    exact Frame.refl _ _

/-- Changes at most key. -/
theorem frame_keyTake : ∀ (j : KeyJob) (s : State), Frame 33554432 s (keyTake j s) := by
  intro j s
  unfold keyTake
  refine Frame.step (frame_modKey _ _) rfl ?_
  exact Frame.refl _ _

/-- Changes at most heads, evt, tally, key. -/
theorem frame_startWrite : ∀ (op k flag : Nat) (s : State), Frame 33816848 s (startWrite op k flag s) := by
  intro op k flag s
  unfold startWrite
  extract_lets x1 x2 x3 x4
  clear_value x1
  have h5 : Frame 33816848 s x2 := by
    subst x2
    refine Frame.ite ?_ ?_
    · refine Frame.step (frame_modKey _ _) rfl ?_
      exact Frame.refl _ _
    · exact Frame.refl _ _
  clear_value x2
  clear_value x3
  clear_value x4
  refine Frame.ite ?_ ?_
  · refine Frame.step (frame_keyEnd _ _) rfl ?_
    refine Frame.step (frame_keyRefused _ _ _ _) rfl ?_
    refine Frame.step (frame_setErr _ _ _) rfl ?_
    assumption
  · refine Frame.ite ?_ ?_
    · refine Frame.step (frame_keyEnd _ _) rfl ?_
      refine Frame.step (frame_keyRefused _ _ _ _) rfl ?_
      refine Frame.step (frame_setErr _ _ _) rfl ?_
      assumption
    · refine Frame.step (frame_keyTake _ _) rfl ?_
      assumption

/-- Changes at most heads, key. -/
theorem frame_useSlot : ∀ (k : Nat) (s : State), Frame 33554448 s (useSlot k s) := by
  intro k s
  unfold useSlot
  refine Frame.step (frame_bump _ _ _ _ _) rfl ?_
  refine Frame.step (frame_modSlot _ _ _) rfl ?_
  exact Frame.refl _ _

/-- Changes what its operand changes, and heads, evt, tally, key. -/
theorem frame_withSlot : ∀ {M : Nat} {s0 : State} (op k flag : Nat) (f : State → State) (s : State), (33816848 ||| M = M) → (Frame M s0 s) → (∀ x, Frame M s0 x → Frame M s0 (f x)) → Frame M s0 (withSlot op k flag f s) := by
  intro M s0 op k flag f s hM h hf
  unfold withSlot
  split
  · refine hf _ (Frame.step (frame_useSlot _ _) ?_ h)
    rw [← hM, ← Nat.or_assoc]
    rfl
  · refine Frame.step (frame_keyEnd _ _) ?_ (Frame.step (frame_keyRefused _ _ _ _) ?_ h)
    · rw [← hM, ← Nat.or_assoc]
      rfl
    · rw [← hM, ← Nat.or_assoc]
      rfl
  · refine Frame.step (frame_keyEnd _ _) ?_ (Frame.step (frame_keyRefused _ _ _ _) ?_ h)
    · rw [← hM, ← Nat.or_assoc]
      rfl
    · rw [← hM, ← Nat.or_assoc]
      rfl

/-- Changes at most heads, evt, tally, key. -/
theorem frame_startAttest : ∀ (k : Nat) (s : State), Frame 33816848 s (startAttest k s) := by
  intro k s
  unfold startAttest
  refine frame_withSlot _ _ _ _ _ rfl ?_ ?_
  · exact Frame.refl _ _
  · intro x1 x2
    extract_lets x3
    clear_value x3
    refine Frame.step (frame_keyTake _ _) rfl ?_
    assumption

/-- Changes at most key. -/
theorem frame_startSha : ∀ (s : State), Frame 33554432 s (startSha s) := by
  intro s
  unfold startSha
  refine Frame.step (frame_keyTake _ _) rfl ?_
  exact Frame.refl _ _

/-- Changes at most freeCount, heads, evt, key. -/
theorem frame_startRandom : ∀ (s : State), Frame 33554706 s (startRandom s) := by
  intro s
  unfold startRandom
  refine Frame.ite ?_ ?_
  · refine Frame.step (frame_keyEnd _ _) rfl ?_
    exact Frame.refl _ _
  · extract_lets x1
    clear_value x1
    refine Frame.step (frame_keyTake _ _) rfl ?_
    refine Frame.step (frame_set_freeCount _ _) rfl ?_
    exact Frame.refl _ _

/-- Changes at most heads, evt, tally, key. -/
theorem frame_startAdvance : ∀ (s : State), Frame 33816848 s (startAdvance s) := by
  intro s
  unfold startAdvance
  extract_lets x1
  clear_value x1
  refine Frame.ite ?_ ?_
  · refine Frame.step (frame_keyEnd _ _) rfl ?_
    refine Frame.step (frame_setErr _ _ _) rfl ?_
    exact Frame.refl _ _
  · refine Frame.ite ?_ ?_
    · refine Frame.step (frame_keyEnd _ _) rfl ?_
      refine Frame.step (frame_keyRefused _ _ _ _) rfl ?_
      refine Frame.step (frame_setErr _ _ _) rfl ?_
      exact Frame.refl _ _
    · refine Frame.step (frame_keyTake _ _) rfl ?_
      exact Frame.refl _ _

/-- Changes at most heads, evt, tally, key. -/
theorem frame_startTicket : ∀ (s : State), Frame 33816848 s (startTicket s) := by
  intro s
  unfold startTicket
  extract_lets x1 x2
  clear_value x1
  refine Frame.ite ?_ ?_
  · refine Frame.step (frame_keyEnd _ _) rfl ?_
    exact Frame.refl _ _
  · refine Frame.ite ?_ ?_
    · dsimp only [x2]
      refine Frame.step (frame_keyEnd _ _) rfl ?_
      refine Frame.step (frame_logEv _ _ _ _ _) rfl ?_
      exact Frame.refl _ _
    · refine Frame.ite ?_ ?_
      · refine Frame.step (frame_keyTake _ _) rfl ?_
        exact Frame.refl _ _
      · dsimp only [x2]
        refine Frame.step (frame_keyEnd _ _) rfl ?_
        refine Frame.step (frame_logEv _ _ _ _ _) rfl ?_
        exact Frame.refl _ _

/-- Changes at most heads, evt, key. -/
theorem frame_startTclear : ∀ (holding : BitVec 5) (s : State), Frame 33554704 s (startTclear holding s) := by
  intro holding s
  unfold startTclear
  refine Frame.ite ?_ ?_
  · refine Frame.step (frame_keyTake _ _) rfl ?_
    exact Frame.refl _ _
  · refine Frame.step (frame_keyEnd _ _) rfl ?_
    exact Frame.refl _ _

/-- Changes at most heads, evt, tally, key. -/
theorem frame_startCipher : ∀ (op k : Nat) (s : State), Frame 33816848 s (startCipher op k s) := by
  intro op k s
  unfold startCipher
  refine frame_withSlot _ _ _ _ _ rfl ?_ ?_
  · exact Frame.refl _ _
  · intro x1 x2
    extract_lets x3 x4
    clear_value x3
    clear_value x4
    refine Frame.step (frame_keyTake _ _) rfl ?_
    assumption

/-- Changes at most freeCount, heads, evt, tally, key. -/
theorem frame_keyRun : ∀ (v : Word) (holding : BitVec 5) (s : State), Frame 33816850 s (keyRun v holding s) := by
  intro v holding s
  unfold keyRun
  extract_lets x1
  clear_value x1
  split
  · refine Frame.step (frame_startWrite _ _ _ _) rfl ?_
    exact Frame.refl _ _
  · refine Frame.step (frame_startWrite _ _ _ _) rfl ?_
    exact Frame.refl _ _
  · refine Frame.step (frame_startAttest _ _) rfl ?_
    exact Frame.refl _ _
  · refine Frame.step (frame_startSha _) rfl ?_
    exact Frame.refl _ _
  · refine Frame.step (frame_startRandom _) rfl ?_
    exact Frame.refl _ _
  · refine Frame.step (frame_startAdvance _) rfl ?_
    exact Frame.refl _ _
  · refine Frame.step (frame_startTicket _) rfl ?_
    exact Frame.refl _ _
  · refine Frame.step (frame_startTclear _ _) rfl ?_
    exact Frame.refl _ _
  · refine Frame.step (frame_startCipher _ _ _) rfl ?_
    exact Frame.refl _ _

/-- Changes at most freeCount, heads, sys, evt, time, tally, key. -/
theorem frame_keyCmdWrite : ∀ (rq : Requester) (v : Word) (holding : BitVec 5) (s : State), Frame 33948050 s (keyCmdWrite rq v holding s) := by
  intro rq v holding s
  unfold keyCmdWrite
  extract_lets x1 x2 x3 x4
  clear_value x1
  clear_value x2
  clear_value x3
  have h5 : Frame 33948050 s x4 := by
    subst x4
    refine Frame.ite ?_ ?_
    · refine Frame.step (frame_tickFree _) rfl ?_
      exact Frame.refl _ _
    · exact Frame.refl _ _
  clear_value x4
  refine Frame.ite ?_ ?_
  · refine frame_wrIf _ _ _ _ _ _ _ rfl ?_ ?_
    · exact Frame.refl _ _
    · intro x6 x7
      unfold id
      assumption
  · refine Frame.ite ?_ ?_
    · refine Frame.step (frame_setErr _ _ _) rfl ?_
      exact Frame.refl _ _
    · refine Frame.ite ?_ ?_
      · refine Frame.step (frame_keyEnd _ _) rfl ?_
        refine Frame.step (frame_setErr _ _ _) rfl ?_
        exact Frame.refl _ _
      · refine Frame.ite ?_ ?_
        · refine Frame.step (frame_modKey _ _) rfl ?_
          assumption
        · refine Frame.step (frame_keyRun _ _ _) rfl ?_
          assumption

/-- Changes at most freeCount, heads, sys, evt, time, tally, key. -/
theorem frame_keyCmdReg : ∀ (rq : Requester) (v : Word) (s : State), Frame 33948050 s (keyCmdReg rq v s) := by
  intro rq v s
  unfold keyCmdReg
  refine Frame.step (frame_keyCmdWrite _ _ _ _) rfl ?_
  refine Frame.step (frame_tickFree _) rfl ?_
  exact Frame.refl _ _

/-- Changes at most freeCount, heads, sys, evt, time, tally, key. -/
theorem frame_doAdvance : ∀ (rq : Requester) (arg : Word) (s : State), Frame 33948050 s (doAdvance rq arg s) := by
  intro rq arg s
  unfold doAdvance
  refine Frame.step (frame_keyCmdWrite _ _ _ _) rfl ?_
  exact Frame.refl _ _

/-- Changes at most freeCount, heads, sys, evt, time, tally, key. -/
theorem frame_doAttest : ∀ (rq : Requester) (arg : Word) (s : State), Frame 33948050 s (doAttest rq arg s) := by
  intro rq arg s
  unfold doAttest
  refine Frame.step (frame_keyCmdWrite _ _ _ _) rfl ?_
  exact Frame.refl _ _

/-- Changes at most freeCount, heads, sys, evt, time, tally, key. -/
theorem frame_doCmac : ∀ (rq : Requester) (arg : Word) (s : State), Frame 33948050 s (doCmac rq arg s) := by
  intro rq arg s
  unfold doCmac
  refine Frame.step (frame_keyCmdWrite _ _ _ _) rfl ?_
  exact Frame.refl _ _

/-- Changes at most freeCount, heads, evt, tally, key. -/
theorem frame_keyBegin : ∀ (s : State), Frame 33816850 s (keyBegin s) := by
  intro s
  unfold keyBegin
  split
  · refine Frame.ite ?_ ?_
    · exact Frame.refl _ _
    · refine Frame.step (frame_keyRun _ _ _) rfl ?_
      refine Frame.step (frame_modKey _ _) rfl ?_
      exact Frame.refl _ _
  · exact Frame.refl _ _

/-- Changes at most freeCount, heads, sys, evt, time, tally, key. -/
theorem frame_doDecrypt : ∀ (rq : Requester) (arg : Word) (s : State), Frame 33948050 s (doDecrypt rq arg s) := by
  intro rq arg s
  unfold doDecrypt
  refine Frame.step (frame_keyCmdWrite _ _ _ _) rfl ?_
  exact Frame.refl _ _

/-- Changes at most freeCount, heads, sys, evt, time, tally, key. -/
theorem frame_doEncrypt : ∀ (rq : Requester) (arg : Word) (s : State), Frame 33948050 s (doEncrypt rq arg s) := by
  intro rq arg s
  unfold doEncrypt
  refine Frame.step (frame_keyCmdWrite _ _ _ _) rfl ?_
  exact Frame.refl _ _

/-- Changes at most key. -/
theorem frame_putBuf : ∀ (bs : List Byte) (s : State), Frame 33554432 s (putBuf bs s) := by
  intro bs s
  unfold putBuf
  extract_lets x1
  clear_value x1
  refine Frame.step (frame_modKey _ _) rfl ?_
  exact Frame.refl _ _

/-- Changes at most heads, evt, tally, pert, key. -/
theorem frame_keyEffect : ∀ (j : KeyJob) (s : State), Frame 50594064 s (keyEffect j s) := by
  intro j s
  unfold keyEffect
  split
  · extract_lets x1
    have h2 : Frame 50594064 s x1 := by
      subst x1
      refine Frame.step (frame_modSlot _ _ _) rfl ?_
      exact Frame.refl _ _
    clear_value x1
    refine Frame.step (frame_logEv _ _ _ _ _) rfl ?_
    assumption
  · extract_lets x3
    have h4 : Frame 50594064 s x3 := by
      subst x3
      refine Frame.step (frame_modSlot _ _ _) rfl ?_
      exact Frame.refl _ _
    clear_value x3
    refine Frame.step (frame_logEv _ _ _ _ _) rfl ?_
    assumption
  · refine Frame.step (frame_logEv _ _ _ _ _) rfl ?_
    refine Frame.step (frame_putBuf _ _) rfl ?_
    exact Frame.refl _ _
  · extract_lets x5
    clear_value x5
    refine Frame.step (frame_logEv _ _ _ _ _) rfl ?_
    refine Frame.step (frame_modKey _ _) rfl ?_
    exact Frame.refl _ _
  · extract_lets x6 x7
    clear_value x6
    have h8 : Frame 50594064 s x7 := by
      subst x7
      refine Frame.ite ?_ ?_
      · refine Frame.step (frame_modPert _ _) rfl ?_
        exact Frame.refl _ _
      · refine Frame.step (frame_modKey _ _) rfl ?_
        exact Frame.refl _ _
    clear_value x7
    refine Frame.step (frame_logEv _ _ _ _ _) rfl ?_
    assumption
  · extract_lets x9
    clear_value x9
    refine Frame.step (frame_logEv _ _ _ _ _) rfl ?_
    refine Frame.step (frame_modKey _ _) rfl ?_
    exact Frame.refl _ _
  · refine Frame.step (frame_putBuf _ _) rfl ?_
    exact Frame.refl _ _

/-- Changes at most freeCount, heads, evt, tally, pert, key. -/
theorem frame_doKeyCmdDone : ∀ (s : State), Frame 50594066 s (doKeyCmdDone s) := by
  intro s
  unfold doKeyCmdDone
  extract_lets x1
  have h2 : Frame 50594066 s x1 := by
    subst x1
    refine Frame.step (frame_keyBegin _) rfl ?_
    exact Frame.refl _ _
  clear_value x1
  split
  · assumption
  · refine Frame.step (frame_keyEnd _ _) rfl ?_
    refine Frame.step (frame_keyEffect _ _) rfl ?_
    assumption

/-- Changes at most freeCount, heads, sys, evt, time, tally, key. -/
theorem frame_doKeyErase : ∀ (rq : Requester) (arg : Word) (s : State), Frame 33948050 s (doKeyErase rq arg s) := by
  intro rq arg s
  unfold doKeyErase
  refine Frame.step (frame_keyCmdWrite _ _ _ _) rfl ?_
  exact Frame.refl _ _

/-- Changes at most freeCount, heads, sys, evt, time, tally, key. -/
theorem frame_doKeyWrite : ∀ (rq : Requester) (arg : Word) (s : State), Frame 33948050 s (doKeyWrite rq arg s) := by
  intro rq arg s
  unfold doKeyWrite
  refine Frame.step (frame_keyCmdWrite _ _ _ _) rfl ?_
  exact Frame.refl _ _

/-- Changes at most freeCount, heads, sys, evt, time, tally, key. -/
theorem frame_doRandom : ∀ (rq : Requester) (arg : Word) (s : State), Frame 33948050 s (doRandom rq arg s) := by
  intro rq arg s
  unfold doRandom
  refine Frame.step (frame_keyCmdWrite _ _ _ _) rfl ?_
  exact Frame.refl _ _

/-- Changes at most freeCount, heads, sys, evt, time, tally, key. -/
theorem frame_doSha256 : ∀ (rq : Requester) (arg : Word) (s : State), Frame 33948050 s (doSha256 rq arg s) := by
  intro rq arg s
  unfold doSha256
  refine Frame.step (frame_keyCmdWrite _ _ _ _) rfl ?_
  exact Frame.refl _ _

/-- Changes at most freeCount, heads, evt, tally, key, pwr. -/
theorem frame_keyTamper : ∀ (sources : BitVec 5) (elapsed : Nat) (rest : Bool) (s : State), Frame 570687762 s (keyTamper sources elapsed rest s) := by
  intro sources elapsed rest s
  unfold keyTamper
  extract_lets x1 x2 x3
  clear_value x1
  have h4 : Frame 570687762 s x2 := by
    subst x2
    refine Frame.step (frame_modKey _ _) rfl ?_
    exact Frame.refl _ _
  clear_value x2
  clear_value x3
  refine Frame.ite ?_ ?_
  · refine Frame.step (frame_set_pwr _ _) rfl ?_
    assumption
  · refine Frame.step (frame_abortKey _ _) rfl ?_
    refine Frame.step (frame_setIrq _ _ _) rfl ?_
    refine Frame.step (frame_logEv _ _ _ _ _) rfl ?_
    assumption

/-- Changes at most freeCount, heads, sys, evt, time, tally, key. -/
theorem frame_doTclear : ∀ (rq : Requester) (arg : Word) (holding : BitVec 5) (s : State), Frame 33948050 s (doTclear rq arg holding s) := by
  intro rq arg holding s
  unfold doTclear
  refine Frame.step (frame_keyCmdWrite _ _ _ _) rfl ?_
  exact Frame.refl _ _

/-- Changes at most freeCount, heads, sys, evt, time, tally, key. -/
theorem frame_doTicket : ∀ (rq : Requester) (arg : Word) (s : State), Frame 33948050 s (doTicket rq arg s) := by
  intro rq arg s
  unfold doTicket
  refine Frame.step (frame_keyCmdWrite _ _ _ _) rfl ?_
  exact Frame.refl _ _

/-- Changes at most heads, evt, tally, key. -/
theorem frame_doTrngFail : ∀ (failed : Bool) (s : State), Frame 33816848 s (doTrngFail failed s) := by
  intro failed s
  unfold doTrngFail
  refine Frame.ite ?_ ?_
  · exact Frame.refl _ _
  · refine Frame.step (frame_logEv _ _ _ _ _) rfl ?_
    refine Frame.step (frame_modKey _ _) rfl ?_
    exact Frame.refl _ _

end Sys2Proof.Machine
end

