-- ==== Sys2Proof/Laws/Frames/BusOps.lean ====
section
/-! SUPPORT. Frames of the operations of Machine/Access, Queues, Windows. -/

namespace Sys2Proof.Machine

set_option maxRecDepth 10000

/-- Changes at most acc. -/
theorem frame_modAcc : ∀ (f : AccBlk → AccBlk) (s : State), Frame 268435456 s (modAcc f s) := by
  intro f s
  unfold modAcc
  refine Frame.step (frame_set_acc _ _) rfl ?_
  exact Frame.refl _ _

/-- Changes at most acc. -/
theorem frame_stopPolls : ∀ (s : State), Frame 268435456 s (stopPolls s) := by
  intro s
  unfold stopPolls
  refine Frame.step (frame_modAcc _ _) rfl ?_
  exact Frame.refl _ _

/-- Changes at most freeCount, heads, evt, tally, acc. -/
theorem frame_accCheck : ∀ (s : State), Frame 268697874 s (accCheck s) := by
  intro s
  unfold accCheck
  extract_lets x1 x2 x3
  clear_value x1
  clear_value x2
  have h4 : Frame 268697874 s x3 := by
    subst x3
    refine Frame.step (frame_modAcc _ _) rfl ?_
    exact Frame.refl _ _
  clear_value x3
  refine Frame.ite ?_ ?_
  · assumption
  · refine Frame.step (frame_stopPolls _) rfl ?_
    refine Frame.ite ?_ ?_
    · assumption
    · refine Frame.step (frame_refuseBlock _ _ _) rfl ?_
      refine Frame.step (frame_logEv _ _ _ _ _) rfl ?_
      assumption

/-- Changes at most freeCount, heads, evt, tally, acc. -/
theorem frame_accCommit : ∀ (s : State), Frame 268697874 s (accCommit s) := by
  intro s
  unfold accCommit
  refine Frame.step (frame_accCheck _) rfl ?_
  refine Frame.step (frame_modAcc _ _) rfl ?_
  exact Frame.refl _ _

/-- Changes at most acc. -/
theorem frame_modRd : ∀ (r : Fin 2) (f : Reader → Reader) (s : State), Frame 268435456 s (modRd r f s) := by
  intro r f s
  unfold modRd
  refine Frame.step (frame_modAcc _ _) rfl ?_
  exact Frame.refl _ _

/-- Changes at most heads, sys, evt, hurdle, tally, acc. -/
theorem frame_endSession : ∀ (r : Fin 2) (cause : Nat) (s : State), Frame 268763536 s (endSession r cause s) := by
  intro r cause s
  unfold endSession
  refine Frame.ite ?_ ?_
  · exact Frame.refl _ _
  · extract_lets x1 x2 x3 x4
    have h5 : Frame 268763536 s x1 := by
      subst x1
      refine Frame.step (frame_modRd _ _ _) rfl ?_
      exact Frame.refl _ _
    clear_value x1
    have h6 : Frame 268763536 s x2 := by
      subst x2
      refine Frame.step (frame_setIrq _ _ _) rfl ?_
      refine Frame.step (frame_logEv _ _ _ _ _) rfl ?_
      assumption
    clear_value x2
    clear_value x4
    refine Frame.foldl (fun x7 k8 h9 => ?_) ?_
    · refine Frame.step (frame_withdraw _ _ _ _) rfl ?_
      assumption
    · assumption

/-- Changes at most heads, sys, evt, hurdle, tally, acc. -/
theorem frame_endSessions : ∀ (cause : Nat) (s : State), Frame 268763536 s (endSessions cause s) := by
  intro cause s
  unfold endSessions
  refine Frame.step (frame_endSession _ _ _) rfl ?_
  refine Frame.step (frame_endSession _ _ _) rfl ?_
  exact Frame.refl _ _

/-- Changes at most key, acc. -/
theorem frame_storeWrite : ∀ (old : StoreOld) (s : State), Frame 301989888 s (storeWrite old s) := by
  intro old s
  unfold storeWrite
  extract_lets x1 x2 x3
  clear_value x1
  clear_value x2
  clear_value x3
  refine Frame.step (frame_set_key_acc _ _ _) rfl ?_
  exact Frame.refl _ _

/-- Changes at most heads, sys, evt, hurdle, tally, key, acc. -/
theorem frame_startLearn : ∀ (r : Fin 2) (mask : Nat) (s : State), Frame 302317968 s (startLearn r mask s) := by
  intro r mask s
  unfold startLearn
  extract_lets x1 x2 x3
  have h4 : Frame 302317968 s x1 := by
    subst x1
    refine Frame.step (frame_stopPolls _) rfl ?_
    refine Frame.step (frame_endSessions _ _) rfl ?_
    exact Frame.refl _ _
  clear_value x1
  have h5 : Frame 302317968 s x2 := by
    subst x2
    refine Frame.step (frame_storeWrite _ _) rfl ?_
    assumption
  clear_value x2
  clear_value x3
  refine Frame.step (frame_modAcc _ _) rfl ?_
  assumption

/-- Changes at most heads, evt, tally, acc. -/
theorem frame_endLearn : ∀ (cause : Nat) (s : State), Frame 268697872 s (endLearn cause s) := by
  intro cause s
  unfold endLearn
  split
  · exact Frame.refl _ _
  · refine Frame.step (frame_setIrq _ _ _) rfl ?_
    refine Frame.step (frame_logEv _ _ _ _ _) rfl ?_
    refine Frame.step (frame_modAcc _ _) rfl ?_
    exact Frame.refl _ _

/-- Changes at most heads, sys, evt, hurdle, time, tally, key, acc. -/
theorem frame_accLearnWrite : ∀ (rq : Requester) (v : Word) (s : State), Frame 302449040 s (accLearnWrite rq v s) := by
  intro rq v s
  unfold accLearnWrite
  refine frame_wrIf _ _ _ _ _ _ _ rfl ?_ ?_
  · exact Frame.refl _ _
  · intro x1 x2
    refine Frame.ite ?_ ?_
    · refine Frame.step (frame_setErr _ _ _) rfl ?_
      assumption
    · refine Frame.ite ?_ ?_
      · refine Frame.step (frame_setErr _ _ _) rfl ?_
        assumption
      · extract_lets x3
        have h4 : Frame 302449040 s x3 := by
          subst x3
          refine Frame.step (frame_modAcc _ _) rfl ?_
          assumption
        clear_value x3
        refine Frame.ite ?_ ?_
        · refine Frame.step (frame_startLearn _ _ _) rfl ?_
          assumption
        · refine Frame.ite ?_ ?_
          · refine Frame.step (frame_endLearn _ _) rfl ?_
            assumption
          · assumption

/-- Changes at most acc. -/
theorem frame_requestPoll : ∀ (r : Fin 2) (s : State), Frame 268435456 s (requestPoll r s) := by
  intro r s
  unfold requestPoll
  refine Frame.ite ?_ ?_
  · refine Frame.step (frame_modRd _ _ _) rfl ?_
    exact Frame.refl _ _
  · exact Frame.refl _ _

/-- Changes at most heads, sys, evt, time, acc. -/
theorem frame_rdCtrlWrite : ∀ (rq : Requester) (r : Fin 2) (v : Word) (s : State), Frame 268566928 s (rdCtrlWrite rq r v s) := by
  intro rq r v s
  unfold rdCtrlWrite
  refine frame_wrIf _ _ _ _ _ _ _ rfl ?_ ?_
  · exact Frame.refl _ _
  · intro x1 x2
    refine Frame.ite ?_ ?_
    · refine Frame.step (frame_requestPoll _ _) rfl ?_
      assumption
    · assumption

/-- Changes at most acc. -/
theorem frame_modTok : ∀ (k : Fin 16) (f : TokenSlot → TokenSlot) (s : State), Frame 268435456 s (modTok k f s) := by
  intro k f s
  unfold modTok
  refine Frame.step (frame_modAcc _ _) rfl ?_
  exact Frame.refl _ _

/-- Changes at most heads, sys, evt, hurdle, tally, acc. -/
theorem frame_accRest : ∀ (s : State), Frame 268763536 s (accRest s) := by
  intro s
  unfold accRest
  refine Frame.step (frame_stopPolls _) rfl ?_
  refine Frame.step (frame_endLearn _ _) rfl ?_
  refine Frame.step (frame_endSessions _ _) rfl ?_
  exact Frame.refl _ _

/-- Changes at most heads, sys, evt, hurdle, tally, acc. -/
theorem frame_accSwap : ∀ (old new : Image) (s : State), Frame 268763536 s (accSwap old new s) := by
  intro old new s
  unfold accSwap
  refine Frame.ite ?_ ?_
  · exact Frame.refl _ _
  · refine Frame.step (frame_stopPolls _) rfl ?_
    refine Frame.step (frame_modAcc _ _) rfl ?_
    refine Frame.step (frame_endSessions _ _) rfl ?_
    exact Frame.refl _ _

/-- Changes at most heads, sys, evt, hurdle, tally, key, acc. -/
theorem frame_accTamper : ∀ (s : State), Frame 302317968 s (accTamper s) := by
  intro s
  unfold accTamper
  extract_lets x1
  have h2 : Frame 302317968 s x1 := by
    subst x1
    refine Frame.ite ?_ ?_
    · refine Frame.step (frame_logEv _ _ _ _ _) rfl ?_
      refine Frame.step (frame_markSlot _ _) rfl ?_
      exact Frame.refl _ _
    · exact Frame.refl _ _
  clear_value x1
  refine Frame.step (frame_stopPolls _) rfl ?_
  refine Frame.step (frame_modAcc _ _) rfl ?_
  refine Frame.step (frame_endSessions _ _) rfl ?_
  assumption

/-- Changes at most heads, evt, tally, acc. -/
theorem frame_accWake : ∀ (s : State), Frame 268697872 s (accWake s) := by
  intro s
  unfold accWake
  extract_lets x1 x2
  clear_value x1
  have h3 : Frame 268697872 s x2 := by
    subst x2
    refine Frame.step (frame_modAcc _ _) rfl ?_
    exact Frame.refl _ _
  clear_value x2
  refine Frame.ite ?_ ?_
  · refine Frame.step (frame_logEv _ _ _ _ _) rfl ?_
    assumption
  · assumption

/-- Changes at most heads, evt, time, tally, key, acc, pwr. -/
theorem frame_doLockoutEnd : ∀ (s : State), Frame 839254288 s (doLockoutEnd s) := by
  intro s
  unfold doLockoutEnd
  split
  · exact Frame.refl _ _
  · refine Frame.ite ?_ ?_
    · exact Frame.refl _ _
    · refine Frame.ite ?_ ?_
      · refine Frame.step (frame_restTo _ _) rfl ?_
        exact Frame.refl _ _
      · extract_lets x1 x2
        have h3 : Frame 839254288 s x1 := by
          subst x1
          refine Frame.step (frame_passTo _ _ _) rfl ?_
          exact Frame.refl _ _
        clear_value x1
        have h4 : Frame 839254288 s x2 := by
          subst x2
          refine Frame.step (frame_storeWrite _ _) rfl ?_
          assumption
        clear_value x2
        refine Frame.step (frame_setIrq _ _ _) rfl ?_
        refine Frame.step (frame_logEv _ _ _ _ _) rfl ?_
        refine Frame.step (frame_modAcc _ _) rfl ?_
        assumption

/-- Changes at most acc. -/
theorem frame_beginWrite : ∀ (r : Fin 2) (k : Fin 16) (cnt : Word) (kind : CntKind) (s : State), Frame 268435456 s (beginWrite r k cnt kind s) := by
  intro r k cnt kind s
  unfold beginWrite
  refine Frame.step (frame_modAcc _ _) rfl ?_
  exact Frame.refl _ _

/-- Changes at most heads. -/
theorem frame_bumpRd : ∀ (r : Fin 2) (lo : Nat) (s : State), Frame 16 s (bumpRd r lo s) := by
  intro r lo s
  unfold bumpRd
  refine Frame.step (frame_bump _ _ _ _ _) rfl ?_
  exact Frame.refl _ _

/-- Changes at most acc. -/
theorem frame_modPoll : ∀ (f : Poll → Poll) (s : State), Frame 268435456 s (modPoll f s) := by
  intro f s
  unfold modPoll
  refine Frame.step (frame_modAcc _ _) rfl ?_
  exact Frame.refl _ _

/-- Changes at most heads, acc. -/
theorem frame_collide : ∀ (r : Fin 2) (k : Fin 16) (s : State), Frame 268435472 s (collide r k s) := by
  intro r k s
  unfold collide
  refine Frame.step (frame_bumpRd _ _ _) rfl ?_
  refine Frame.step (frame_modRd _ _ _) rfl ?_
  refine Frame.step (frame_modPoll _ _) rfl ?_
  exact Frame.refl _ _

/-- Changes at most heads, evt, tally, key, acc. -/
theorem frame_failAttempt : ∀ (r : Fin 2) (slot rule id : Nat) (s : State), Frame 302252304 s (failAttempt r slot rule id s) := by
  intro r slot rule id s
  unfold failAttempt
  extract_lets x1 x2 x3 x4 x5 x6 x7
  clear_value x1
  have h8 : Frame 302252304 s x2 := by
    subst x2
    refine Frame.step (frame_setIrq _ _ _) rfl ?_
    refine Frame.step (frame_logEv _ _ _ _ _) rfl ?_
    exact Frame.refl _ _
  clear_value x2
  clear_value x3
  have h9 : Frame 302252304 s x4 := by
    subst x4
    refine Frame.step (frame_bump _ _ _ _ _) rfl ?_
    refine Frame.step (frame_modAcc _ _) rfl ?_
    assumption
  clear_value x4
  have h10 : Frame 302252304 s x5 := by
    subst x5
    refine Frame.step (frame_storeWrite _ _) rfl ?_
    assumption
  clear_value x5
  have h11 : Frame 302252304 s x6 := by
    subst x6
    refine Frame.step (frame_modAcc _ _) rfl ?_
    assumption
  clear_value x6
  have h12 : Frame 302252304 s x7 := by
    subst x7
    refine Frame.step (frame_setIrq _ _ _) rfl ?_
    refine Frame.step (frame_logEv _ _ _ _ _) rfl ?_
    assumption
  clear_value x7
  refine Frame.ite ?_ ?_
  · assumption
  · refine Frame.step (frame_endLearn _ _) rfl ?_
    refine Frame.step (frame_stopPolls _) rfl ?_
    assumption

/-- Changes at most heads, evt, tally, key, acc. -/
theorem frame_collisionRun : ∀ (p : Poll) (s : State), Frame 302252304 s (collisionRun p s) := by
  intro p s
  unfold collisionRun
  extract_lets x1
  clear_value x1
  refine Frame.ite ?_ ?_
  · refine Frame.ite ?_ ?_
    · refine Frame.step (frame_modRd _ _ _) rfl ?_
      exact Frame.refl _ _
    · refine Frame.step (frame_failAttempt _ _ _ _ _) rfl ?_
      refine Frame.step (frame_modRd _ _ _) rfl ?_
      exact Frame.refl _ _
  · refine Frame.step (frame_modRd _ _ _) rfl ?_
    exact Frame.refl _ _

/-- Changes at most key, acc. -/
theorem frame_writeToken : ∀ (w : CntWrite) (f : TokenSlot → TokenSlot) (s : State), Frame 301989888 s (writeToken w f s) := by
  intro w f s
  unfold writeToken
  refine Frame.step (frame_modKey _ _) rfl ?_
  refine Frame.step (frame_modTok _ _ _) rfl ?_
  exact Frame.refl _ _

/-- Changes at most heads, sys, evt, sol, hurdle, tally, acc. -/
theorem frame_startSession : ∀ (r : Fin 2) (slot : Nat) (s : State), Frame 268771728 s (startSession r slot s) := by
  intro r slot s
  unfold startSession
  extract_lets x1
  have h2 : Frame 268771728 s x1 := by
    subst x1
    refine Frame.step (frame_modRd _ _ _) rfl ?_
    exact Frame.refl _ _
  clear_value x1
  refine Frame.foldl (fun x3 k4 h5 => ?_) ?_
  · refine Frame.step (frame_deliverCmd _ _ _ _) rfl ?_
    assumption
  · assumption

/-- Changes at most freeCount, heads, sys, evt, sol, hurdle, tally, key, acc. -/
theorem frame_finishWrite : ∀ (s : State), Frame 302326162 s (finishWrite s) := by
  intro s
  unfold finishWrite
  split
  · exact Frame.refl _ _
  · extract_lets x1 x2 x3
    have h4 : Frame 302326162 s x1 := by
      subst x1
      refine Frame.step (frame_keyBegin _) rfl ?_
      refine Frame.step (frame_modAcc _ _) rfl ?_
      exact Frame.refl _ _
    clear_value x1
    have h5 : Frame 302326162 s x2 := by
      subst x2
      refine Frame.step (frame_bump _ _ _ _ _) rfl ?_
      refine Frame.step (frame_writeToken _ _ _) rfl ?_
      assumption
    clear_value x2
    have h6 : Frame 302326162 s x3 := by
      subst x3
      refine Frame.step (frame_setIrq _ _ _) rfl ?_
      refine Frame.step (frame_logEv _ _ _ _ _) rfl ?_
      assumption
    clear_value x3
    split
    · refine Frame.step (frame_startSession _ _ _) rfl ?_
      assumption
    · refine Frame.step (frame_logEv _ _ _ _ _) rfl ?_
      refine Frame.step (frame_writeToken _ _ _) rfl ?_
      assumption
    · refine Frame.step (frame_logEv _ _ _ _ _) rfl ?_
      refine Frame.step (frame_writeToken _ _ _) rfl ?_
      assumption

/-- Changes at most freeCount, heads, sys, evt, sol, hurdle, tally, key, acc. -/
theorem frame_doCounterWriteDone : ∀ (s : State), Frame 302326162 s (doCounterWriteDone s) := by
  intro s
  unfold doCounterWriteDone
  refine Frame.step (frame_finishWrite _) rfl ?_
  exact Frame.refl _ _

/-- Changes at most time, acc. -/
theorem frame_doDepotPoll : ∀ (r : Fin 2) (s : State), Frame 268566528 s (doDepotPoll r s) := by
  intro r s
  unfold doDepotPoll
  refine Frame.ite ?_ ?_
  · extract_lets x1
    have h2 : Frame 268566528 s x1 := by
      subst x1
      refine Frame.step (frame_passTo _ _ _) rfl ?_
      exact Frame.refl _ _
    clear_value x1
    refine Frame.step (frame_requestPoll _ _) rfl ?_
    refine Frame.step (frame_modRd _ _ _) rfl ?_
    assumption
  · exact Frame.refl _ _

/-- Changes at most heads, sys, evt, hurdle, tally, acc. -/
theorem frame_sessionTick : ∀ (s : State), Frame 268763536 s (sessionTick s) := by
  intro s
  unfold sessionTick
  refine Frame.foldl (fun x1 k2 h3 => ?_) ?_
  · refine Frame.ite ?_ ?_
    · refine Frame.step (frame_endSession _ _ _) rfl ?_
      assumption
    · refine Frame.ite ?_ ?_
      · refine Frame.step (frame_endSession _ _ _) rfl ?_
        assumption
      · assumption
  · exact Frame.refl _ _

/-- Changes at most acc. -/
theorem frame_doHandleTouch : ∀ (r : Fin 2) (a b : Half) (s : State), Frame 268435456 s (doHandleTouch r a b s) := by
  intro r a b s
  unfold doHandleTouch
  extract_lets x1
  clear_value x1
  refine Frame.ite ?_ ?_
  · refine Frame.step (frame_requestPoll _ _) rfl ?_
    refine Frame.step (frame_modRd _ _ _) rfl ?_
    exact Frame.refl _ _
  · exact Frame.refl _ _

/-- Changes at most heads, evt, time, tally, acc. -/
theorem frame_doLearnEnd : ∀ (cause : Fin 8) (s : State), Frame 268828944 s (doLearnEnd cause s) := by
  intro cause s
  unfold doLearnEnd
  split
  · exact Frame.refl _ _
  · split
    · refine Frame.step (frame_endLearn _ _) rfl ?_
      exact Frame.refl _ _
    · refine Frame.ite ?_ ?_
      · refine Frame.step (frame_endLearn _ _) rfl ?_
        exact Frame.refl _ _
      · exact Frame.refl _ _
    · refine Frame.step (frame_endLearn _ _) rfl ?_
      refine Frame.step (frame_passTo _ _ _) rfl ?_
      exact Frame.refl _ _
    · refine Frame.ite ?_ ?_
      · refine Frame.step (frame_endLearn _ _) rfl ?_
        exact Frame.refl _ _
      · exact Frame.refl _ _
    · refine Frame.ite ?_ ?_
      · refine Frame.step (frame_endLearn _ _) rfl ?_
        exact Frame.refl _ _
      · exact Frame.refl _ _
    · exact Frame.refl _ _

/-- Changes at most heads, evt, tally, acc. -/
theorem frame_doLearnPoll : ∀ (s : State), Frame 268697872 s (doLearnPoll s) := by
  intro s
  unfold doLearnPoll
  split
  · exact Frame.refl _ _
  · refine Frame.ite ?_ ?_
    · refine Frame.step (frame_endLearn _ _) rfl ?_
      exact Frame.refl _ _
    · refine Frame.ite ?_ ?_
      · extract_lets x1 x2
        clear_value x1
        clear_value x2
        refine Frame.step (frame_modAcc _ _) rfl ?_
        refine Frame.step (frame_bumpRd _ _ _) rfl ?_
        refine Frame.step (frame_modRd _ _ _) rfl ?_
        exact Frame.refl _ _
      · exact Frame.refl _ _

/-- Changes at most heads, sys, evt, hurdle, time, tally, key, acc. -/
theorem frame_doLearnStart : ∀ (rq : Requester) (v : Word) (s : State), Frame 302449040 s (doLearnStart rq v s) := by
  intro rq v s
  unfold doLearnStart
  refine Frame.step (frame_accLearnWrite _ _ _) rfl ?_
  exact Frame.refl _ _

/-- Changes at most acc, pwr. -/
theorem frame_doParkStop : ∀ (s : State), Frame 805306368 s (doParkStop s) := by
  intro s
  unfold doParkStop
  refine Frame.ite ?_ ?_
  · refine Frame.step (frame_modAcc _ _) rfl ?_
    refine Frame.step (frame_restTo _ _) rfl ?_
    exact Frame.refl _ _
  · exact Frame.refl _ _

/-- Changes at most reports, heads, evt, tally, key, acc. -/
theorem frame_pollEntries : ∀ (p : Poll) (s : State), Frame 302252308 s (pollEntries p s) := by
  intro p s
  unfold pollEntries
  refine Frame.ite ?_ ?_
  · exact Frame.refl _ _
  · refine Frame.step (frame_collisionRun _ _) rfl ?_
    refine Frame.ite ?_ ?_
    · exact Frame.refl _ _
    · refine frame_limited _ _ _ rfl ?_ ?_
      · exact Frame.refl _ _
      · intro x1 x2
        refine Frame.step (frame_logEv _ _ _ _ _) rfl ?_
        assumption

/-- Changes at most reports, heads, evt, time, tally, key, acc. -/
theorem frame_doPollEnd : ∀ (s : State), Frame 302383380 s (doPollEnd s) := by
  intro s
  unfold doPollEnd
  split
  · exact Frame.refl _ _
  · extract_lets x1
    have h2 : Frame 302383380 s x1 := by
      subst x1
      refine Frame.step (frame_passTo _ _ _) rfl ?_
      exact Frame.refl _ _
    clear_value x1
    refine Frame.step (frame_pollEntries _ _) rfl ?_
    refine Frame.step (frame_modAcc _ _) rfl ?_
    assumption

/-- Changes at most heads, acc. -/
theorem frame_doPollStart : ∀ (r : Fin 2) (s : State), Frame 268435472 s (doPollStart r s) := by
  intro r s
  unfold doPollStart
  refine Frame.ite ?_ ?_
  · refine Frame.step (frame_modAcc _ _) rfl ?_
    refine Frame.step (frame_bumpRd _ _ _) rfl ?_
    refine Frame.step (frame_modRd _ _ _) rfl ?_
    exact Frame.refl _ _
  · exact Frame.refl _ _

/-- Changes at most heads, sys, evt, time, acc. -/
theorem frame_doRdPoll : ∀ (rq : Requester) (r : Fin 2) (s : State), Frame 268566928 s (doRdPoll rq r s) := by
  intro rq r s
  unfold doRdPoll
  refine Frame.step (frame_rdCtrlWrite _ _ _ _) rfl ?_
  exact Frame.refl _ _

/-- Changes at most heads, evt, tally, acc. -/
theorem frame_lapse : ∀ (k : Fin 16) (s : State), Frame 268697872 s (lapse k s) := by
  intro k s
  unfold lapse
  refine Frame.step (frame_logEv _ _ _ _ _) rfl ?_
  refine Frame.step (frame_modTok _ _ _) rfl ?_
  exact Frame.refl _ _

/-- Changes at most heads, evt, time, tally, acc. -/
theorem frame_doResyncLapsed : ∀ (k : Fin 16) (s : State), Frame 268828944 s (doResyncLapsed k s) := by
  intro k s
  unfold doResyncLapsed
  split
  · refine Frame.step (frame_lapse _ _) rfl ?_
    refine Frame.step (frame_passTo _ _ _) rfl ?_
    exact Frame.refl _ _
  · exact Frame.refl _ _

/-- Changes at most heads, sys, evt, hurdle, tally, acc. -/
theorem frame_doSessionEnd : ∀ (r : Fin 2) (cause : Fin 4) (s : State), Frame 268763536 s (doSessionEnd r cause s) := by
  intro r cause s
  unfold doSessionEnd
  split
  · refine Frame.ite ?_ ?_
    · refine Frame.step (frame_endSession _ _ _) rfl ?_
      exact Frame.refl _ _
    · exact Frame.refl _ _
  · refine Frame.ite ?_ ?_
    · refine Frame.step (frame_endSession _ _ _) rfl ?_
      exact Frame.refl _ _
    · exact Frame.refl _ _
  · refine Frame.ite ?_ ?_
    · refine Frame.step (frame_endSession _ _ _) rfl ?_
      exact Frame.refl _ _
    · exact Frame.refl _ _
  · exact Frame.refl _ _

/-- Changes at most freeCount, heads, sys, evt, hurdle, tally, key, acc, pwr. -/
theorem frame_doTamper : ∀ (sources : BitVec 5) (elapsed : Nat) (s : State), Frame 839188882 s (doTamper sources elapsed s) := by
  intro sources elapsed s
  unfold doTamper
  extract_lets x1
  clear_value x1
  refine Frame.ite ?_ ?_
  · exact Frame.refl _ _
  · split
    · exact Frame.refl _ _
    · refine Frame.step (frame_keyTamper _ _ _ _) rfl ?_
      exact Frame.refl _ _
    · refine Frame.step (frame_accCheck _) rfl ?_
      refine Frame.step (frame_accTamper _) rfl ?_
      refine Frame.step (frame_keyTamper _ _ _ _) rfl ?_
      exact Frame.refl _ _

/-- Changes at most heads, evt, tally, key, acc. -/
theorem frame_enrol : ∀ (l : LearnRun) (b : List Byte) (s : State), Frame 302252304 s (enrol l b s) := by
  intro l b s
  unfold enrol
  extract_lets x1
  clear_value x1
  split
  · extract_lets x2 x3 x4 x5
    have h6 : Frame 302252304 s x2 := by
      subst x2
      refine Frame.step (frame_storeWrite _ _) rfl ?_
      exact Frame.refl _ _
    clear_value x2
    have h7 : Frame 302252304 s x3 := by
      subst x3
      refine Frame.step (frame_modTok _ _ _) rfl ?_
      assumption
    clear_value x3
    have h8 : Frame 302252304 s x4 := by
      subst x4
      refine Frame.step (frame_modAcc _ _) rfl ?_
      assumption
    clear_value x4
    have h9 : Frame 302252304 s x5 := by
      subst x5
      refine Frame.step (frame_setIrq _ _ _) rfl ?_
      refine Frame.step (frame_logEv _ _ _ _ _) rfl ?_
      assumption
    clear_value x5
    refine Frame.ite ?_ ?_
    · refine Frame.step (frame_endLearn _ _) rfl ?_
      assumption
    · assumption
  · exact Frame.refl _ _

/-- Changes at most heads, evt, tally, key, acc. -/
theorem frame_judgeLearn : ∀ (l : LearnRun) (b : List Byte) (s : State), Frame 302252304 s (judgeLearn l b s) := by
  intro l b s
  unfold judgeLearn
  extract_lets x1
  clear_value x1
  refine Frame.ite ?_ ?_
  · exact Frame.refl _ _
  · refine Frame.ite ?_ ?_
    · exact Frame.refl _ _
    · refine Frame.ite ?_ ?_
      · refine Frame.step (frame_failAttempt _ _ _ _ _) rfl ?_
        refine Frame.step (frame_useSlot _ _) rfl ?_
        exact Frame.refl _ _
      · refine Frame.step (frame_enrol _ _ _) rfl ?_
        refine Frame.step (frame_useSlot _ _) rfl ?_
        exact Frame.refl _ _

/-- Changes at most heads, evt, tally, acc. -/
theorem frame_lapseDue : ∀ (k : Fin 16) (s : State), Frame 268697872 s (lapseDue k s) := by
  intro k s
  unfold lapseDue
  split
  · refine Frame.ite ?_ ?_
    · refine Frame.step (frame_lapse _ _) rfl ?_
      exact Frame.refl _ _
    · exact Frame.refl _ _
  · exact Frame.refl _ _

/-- Changes at most heads, evt, tally, key, acc. -/
theorem frame_judge : ∀ (r : Fin 2) (k : Fin 16) (b : List Byte) (s : State), Frame 302252304 s (judge r k b s) := by
  intro r k b s
  unfold judge
  extract_lets x1 x2 x3 x4 x5
  have h6 : Frame 302252304 s x1 := by
    subst x1
    refine Frame.step (frame_lapseDue _ _) rfl ?_
    exact Frame.refl _ _
  clear_value x1
  clear_value x2
  have h7 : Frame 302252304 s x3 := by
    subst x3
    refine Frame.step (frame_useSlot _ _) rfl ?_
    assumption
  clear_value x3
  clear_value x4
  clear_value x5
  refine Frame.ite ?_ ?_
  · refine Frame.step (frame_failAttempt _ _ _ _ _) rfl ?_
    assumption
  · refine Frame.ite ?_ ?_
    · refine Frame.step (frame_failAttempt _ _ _ _ _) rfl ?_
      refine Frame.step (frame_useSlot _ _) rfl ?_
      assumption
    · refine Frame.ite ?_ ?_
      · refine Frame.step (frame_failAttempt _ _ _ _ _) rfl ?_
        refine Frame.step (frame_modTok _ _ _) rfl ?_
        assumption
      · refine Frame.ite ?_ ?_
        · refine Frame.step (frame_beginWrite _ _ _ _ _) rfl ?_
          assumption
        · refine Frame.ite ?_ ?_
          · refine Frame.step (frame_beginWrite _ _ _ _ _) rfl ?_
            assumption
          · refine Frame.step (frame_beginWrite _ _ _ _ _) rfl ?_
            refine Frame.step (frame_modPoll _ _) rfl ?_
            assumption

/-- Changes at most heads, evt, tally, key, acc. -/
theorem frame_takeRecord : ∀ (p : Poll) (k : Fin 16) (b : List Byte) (s : State), Frame 302252304 s (takeRecord p k b s) := by
  intro p k b s
  unfold takeRecord
  extract_lets x1 x2
  clear_value x1
  have h3 : Frame 302252304 s x2 := by
    subst x2
    refine Frame.step (frame_modPoll _ _) rfl ?_
    exact Frame.refl _ _
  clear_value x2
  split
  · refine Frame.ite ?_ ?_
    · assumption
    · refine Frame.step (frame_judgeLearn _ _ _) rfl ?_
      assumption
  · assumption
  · refine Frame.ite ?_ ?_
    · refine Frame.ite ?_ ?_
      · assumption
      · refine Frame.step (frame_collide _ _ _) rfl ?_
        assumption
    · refine Frame.step (frame_judge _ _ _ _) rfl ?_
      assumption

/-- Changes at most reports, heads, evt, tally, key, acc. -/
theorem frame_lateRecord : ∀ (p : Poll) (k : Fin 16) (b : List Byte) (s : State), Frame 302252308 s (lateRecord p k b s) := by
  intro p k b s
  unfold lateRecord
  extract_lets x1 x2 x3 x4
  clear_value x1
  have h5 : Frame 302252308 s x2 := by
    subst x2
    refine Frame.step (frame_takeRecord _ _ _ _) rfl ?_
    refine Frame.step (frame_modAcc _ _) rfl ?_
    exact Frame.refl _ _
  clear_value x2
  clear_value x3
  have h6 : Frame 302252308 s x4 := by
    subst x4
    refine Frame.step (frame_modAcc _ _) rfl ?_
    assumption
  clear_value x4
  split
  · refine Frame.ite ?_ ?_
    · assumption
    · refine Frame.step (frame_pollEntries _ _) rfl ?_
      assumption
  · assumption

/-- Changes at most reports, heads, evt, tally, acc. -/
theorem frame_strayRecord : ∀ (s : State), Frame 268697876 s (strayRecord s) := by
  intro s
  unfold strayRecord
  split
  · refine frame_limited _ _ _ rfl ?_ ?_
    · refine Frame.step (frame_bump _ _ _ _ _) rfl ?_
      refine Frame.step (frame_modAcc _ _) rfl ?_
      exact Frame.refl _ _
    · intro x1 x2
      refine Frame.step (frame_logEv _ _ _ _ _) rfl ?_
      assumption

/-- Changes at most freeCount, reports, heads, sys, evt, sol, hurdle, tally, key, acc. -/
theorem frame_doTokenRecord : ∀ (bytes : List Byte) (age : Nat) (s : State), Frame 302326166 s (doTokenRecord bytes age s) := by
  intro bytes age s
  unfold doTokenRecord
  extract_lets x1 x2
  have h3 : Frame 302326166 s x1 := by
    subst x1
    refine Frame.step (frame_accCheck _) rfl ?_
    exact Frame.refl _ _
  clear_value x1
  clear_value x2
  split
  · refine Frame.step (frame_lateRecord _ _ _ _) rfl ?_
    refine Frame.step (frame_finishWrite _) rfl ?_
    assumption
  · refine Frame.step (frame_takeRecord _ _ _ _) rfl ?_
    refine Frame.step (frame_finishWrite _) rfl ?_
    assumption
  · refine Frame.step (frame_strayRecord _) rfl ?_
    assumption

/-- Changes at most acc. -/
theorem frame_doTouchRelease : ∀ (r : Fin 2) (a b : Half) (s : State), Frame 268435456 s (doTouchRelease r a b s) := by
  intro r a b s
  unfold doTouchRelease
  refine Frame.ite ?_ ?_
  · refine Frame.step (frame_modRd _ _ _) rfl ?_
    exact Frame.refl _ _
  · exact Frame.refl _ _

/-- Changes at most time, acc. -/
theorem frame_doTouchRepeat : ∀ (r : Fin 2) (s : State), Frame 268566528 s (doTouchRepeat r s) := by
  intro r s
  unfold doTouchRepeat
  extract_lets x1
  clear_value x1
  refine Frame.ite ?_ ?_
  · refine Frame.step (frame_requestPoll _ _) rfl ?_
    refine Frame.step (frame_modRd _ _ _) rfl ?_
    refine Frame.step (frame_passTo _ _ _) rfl ?_
    exact Frame.refl _ _
  · exact Frame.refl _ _

/-- Changes at most que. -/
theorem frame_modQ : ∀ (q : Nat) (f : QueState → QueState) (s : State), Frame 4194304 s (modQ q f s) := by
  intro q f s
  unfold modQ
  refine Frame.step (frame_set_que _ _) rfl ?_
  exact Frame.refl _ _

/-- Changes at most que. -/
theorem frame_qClear : ∀ (q : Nat) (s : State), Frame 4194304 s (qClear q s) := by
  intro q s
  unfold qClear
  refine Frame.step (frame_modQ _ _ _) rfl ?_
  exact Frame.refl _ _

/-- Changes at most heads, time. -/
theorem frame_qTurn : ∀ (q rank : Nat) (s : State), Frame 131088 s (qTurn q rank s) := by
  intro q rank s
  unfold qTurn
  refine Frame.step (frame_inTurn _ _ _ _) rfl ?_
  exact Frame.refl _ _

/-- Changes at most heads, time, que. -/
theorem frame_qFlush : ∀ (rq : Requester) (q : Nat) (s : State), Frame 4325392 s (qFlush rq q s) := by
  intro rq q s
  unfold qFlush
  refine Frame.ite ?_ ?_
  · refine Frame.step (frame_modQ _ _ _) rfl ?_
    refine Frame.step (frame_qTurn _ _ _) rfl ?_
    exact Frame.refl _ _
  · refine Frame.step (frame_setErr _ _ _) rfl ?_
    exact Frame.refl _ _

/-- Changes at most heads, sys, evt, time, que. -/
theorem frame_qCtrlWrite : ∀ (rq : Requester) (q : Nat) (v : Word) (s : State), Frame 4325776 s (qCtrlWrite rq q v s) := by
  intro rq q v s
  unfold qCtrlWrite
  refine frame_wr _ _ _ _ _ _ _ _ rfl ?_ ?_
  · exact Frame.refl _ _
  · intro x1 x2
    extract_lets x3
    have h4 : Frame 4325776 s x3 := by
      subst x3
      refine Frame.ite ?_ ?_
      · refine Frame.step (frame_qClear _ _) rfl ?_
        assumption
      · assumption
    clear_value x3
    refine Frame.ite ?_ ?_
    · refine Frame.step (frame_qFlush _ _ _) rfl ?_
      assumption
    · assumption

/-- Changes at most que. -/
theorem frame_queStart : ∀ (g : Image) (s : State), Frame 4194304 s (queStart g s) := by
  intro g s
  unfold queStart
  refine Frame.step (frame_set_que _ _) rfl ?_
  exact Frame.refl _ _

/-- Changes at most reports, heads, evt, tally, que. -/
theorem frame_qRefuse : ∀ (id q pop : Nat) (s : State), Frame 4456724 s (qRefuse id q pop s) := by
  intro id q pop s
  unfold qRefuse
  extract_lets x1 x2
  have h3 : Frame 4456724 s x1 := by
    subst x1
    split
    · refine Frame.step (frame_bump _ _ _ _ _) rfl ?_
      refine Frame.step (frame_modQ _ _ _) rfl ?_
      exact Frame.refl _ _
    · exact Frame.refl _ _
  clear_value x1
  have h4 : Frame 4456724 s x2 := by
    subst x2
    refine Frame.step (frame_setIrq _ _ _) rfl ?_
    assumption
  clear_value x2
  refine frame_limited _ _ _ rfl ?_ ?_
  · assumption
  · intro x5 x6
    refine Frame.step (frame_logEv _ _ _ _ _) rfl ?_
    assumption

/-- Changes at most reports, heads, evt, tally, que. -/
theorem frame_qFull : ∀ (id q : Nat) (s : State), Frame 4456724 s (qFull id q s) := by
  intro id q s
  unfold qFull
  extract_lets x1
  have h2 : Frame 4456724 s x1 := by
    subst x1
    refine Frame.step (frame_setIrq _ _ _) rfl ?_
    refine Frame.step (frame_bump _ _ _ _ _) rfl ?_
    refine Frame.step (frame_modQ _ _ _) rfl ?_
    exact Frame.refl _ _
  clear_value x1
  refine frame_limited _ _ _ rfl ?_ ?_
  · assumption
  · intro x3 x4
    refine Frame.step (frame_logEv _ _ _ _ _) rfl ?_
    assumption

/-- Changes at most reports, heads, evt, time, tally, mem, que, pert. -/
theorem frame_qPush : ∀ (id q : Nat) (data : List Byte) (s : State), Frame 23462164 s (Prod.snd (qPush id q data s)) := by
  intro id q data s
  unfold qPush
  extract_lets x1 x2
  have h3 : Frame 23462164 s x1 := by
    subst x1
    refine Frame.step (frame_qTurn _ _ _) rfl ?_
    exact Frame.refl _ _
  clear_value x1
  clear_value x2
  split
  · dsimp only
    refine Frame.step (frame_qRefuse _ _ _ _) rfl ?_
    assumption
  · split
    · dsimp only
      refine Frame.step (frame_qRefuse _ _ _ _) rfl ?_
      assumption
    · split
      · dsimp only
        refine Frame.step (frame_qFull _ _ _) rfl ?_
        assumption
      · split
        · dsimp only
          refine Frame.step (frame_qFull _ _ _) rfl ?_
          refine Frame.step (frame_pertHit _ _ _) rfl ?_
          assumption
        · extract_lets x4 x5
          clear_value x4
          have h6 : Frame 23462164 s x5 := by
            subst x5
            refine Frame.foldl (fun x7 k8 h9 => ?_) ?_
            · refine Frame.step (frame_eccStore _ _ _ _ _ _) rfl ?_
              assumption
            · assumption
          clear_value x5
          dsimp only
          refine Frame.step (frame_bump _ _ _ _ _) rfl ?_
          refine Frame.step (frame_modQ _ _ _) rfl ?_
          assumption

/-- Changes at most reports, heads, evt, time, tally, mem, que. -/
theorem frame_qPop : ∀ (id q : Nat) (s : State), Frame 6684948 s (Prod.snd (Prod.snd (qPop id q s))) := by
  intro id q s
  unfold qPop
  extract_lets x1 x2
  have h3 : Frame 6684948 s x1 := by
    subst x1
    refine Frame.step (frame_qTurn _ _ _) rfl ?_
    exact Frame.refl _ _
  clear_value x1
  clear_value x2
  split
  · dsimp only
    refine Frame.step (frame_qRefuse _ _ _ _) rfl ?_
    assumption
  · split
    · dsimp only
      refine Frame.step (frame_qRefuse _ _ _ _) rfl ?_
      assumption
    · split
      · assumption
      · extract_lets x4
        clear_value x4
        split
        · rename_i n5 n6 n7 n8 n9 n10 n11 n12 n13
          have h14 : Frame 6684948 s n12 := by
            refine Frame.ofEq2 n13 ?_
            refine Frame.step (frame_eccSpan _ _ _ _) rfl ?_
            assumption
          extract_lets x15 x16
          clear_value x15
          have h17 : Frame 6684948 s x16 := by
            subst x16
            refine Frame.step (frame_modQ _ _ _) rfl ?_
            assumption
          clear_value x16
          split
          · assumption
          · assumption

/-- Changes at most heads, sys, evt, time, que. -/
theorem frame_doQClrcnt : ∀ (rq : Requester) (q : Fin 128) (s : State), Frame 4325776 s (doQClrcnt rq q s) := by
  intro rq q s
  unfold doQClrcnt
  refine Frame.step (frame_qCtrlWrite _ _ _ _) rfl ?_
  exact Frame.refl _ _

/-- Changes at most heads, sys, evt, time, que. -/
theorem frame_doQFlush : ∀ (rq : Requester) (q : Fin 128) (s : State), Frame 4325776 s (doQFlush rq q s) := by
  intro rq q s
  unfold doQFlush
  refine Frame.step (frame_qCtrlWrite _ _ _ _) rfl ?_
  exact Frame.refl _ _

/-- Changes at most heads. -/
theorem frame_refuse : ∀ (i : Nat) (s : State), Frame 16 s (Prod.snd (refuse i s)) := by
  intro i s
  unfold refuse
  dsimp only
  refine Frame.step (frame_setErr _ _ _) rfl ?_
  exact Frame.refl _ _

/-- Changes at most dwin. -/
theorem frame_modW : ∀ (n : Fin 4) (f : WinState4 → WinState4) (s : State), Frame 8388608 s (modW n f s) := by
  intro n f s
  unfold modW
  refine Frame.step (frame_set_dwin _ _) rfl ?_
  exact Frame.refl _ _

/-- Changes at most heads, dwin. -/
theorem frame_winDataRead : ∀ (rq : Requester) (peer : Nat) (n : Fin 4) (s : State), Frame 8388624 s (Prod.snd (Prod.snd (winDataRead rq peer n s))) := by
  intro rq peer n s
  unfold winDataRead
  extract_lets x1
  clear_value x1
  split
  · dsimp only
    refine Frame.step (frame_refuse _ _) rfl ?_
    exact Frame.refl _ _
  · split
    · dsimp only
      refine Frame.step (frame_refuse _ _) rfl ?_
      exact Frame.refl _ _
    · split
      · dsimp only
        refine Frame.step (frame_refuse _ _) rfl ?_
        exact Frame.refl _ _
      · dsimp only
        refine Frame.step (frame_modW _ _ _) rfl ?_
        exact Frame.refl _ _

/-- Changes at most dwin. -/
theorem frame_txnFree : ∀ (s : State), Frame 8388608 s (txnFree s) := by
  intro s
  unfold txnFree
  refine Frame.step (frame_set_dwin _ _) rfl ?_
  exact Frame.refl _ _

/-- Changes at most heads, evt, tally, dwin, pert. -/
theorem frame_endBurst : ∀ (n : Fin 4) (s : State), Frame 25428240 s (endBurst n s) := by
  intro n s
  unfold endBurst
  split
  · exact Frame.refl _ _
  · extract_lets x1 x2 x3
    clear_value x1
    have h4 : Frame 25428240 s x2 := by
      subst x2
      refine Frame.ite ?_ ?_
      · refine Frame.step (frame_pertHit _ _ _) rfl ?_
        exact Frame.refl _ _
      · exact Frame.refl _ _
    clear_value x2
    have h5 : Frame 25428240 s x3 := by
      subst x3
      refine Frame.step (frame_modW _ _ _) rfl ?_
      assumption
    clear_value x3
    refine Frame.step (frame_setIrq _ _ _) rfl ?_
    refine Frame.step (frame_txnFree _) rfl ?_
    assumption

/-- Changes at most heads, evt, tally. -/
theorem frame_winRange : ∀ (n : Fin 4) (a : Nat) (s : State), Frame 262416 s (winRange n a s) := by
  intro n a s
  unfold winRange
  refine Frame.step (frame_setIrq _ _ _) rfl ?_
  refine Frame.step (frame_logEv _ _ _ _ _) rfl ?_
  refine Frame.step (frame_setErr _ _ _) rfl ?_
  exact Frame.refl _ _

/-- Changes at most heads, dwin. -/
theorem frame_winNown : ∀ (n : Fin 4) (a : Nat) (s : State), Frame 8388624 s (winNown n a s) := by
  intro n a s
  unfold winNown
  refine Frame.ite ?_ ?_
  · exact Frame.refl _ _
  · refine Frame.step (frame_bump _ _ _ _ _) rfl ?_
    refine Frame.step (frame_modW _ _ _) rfl ?_
    exact Frame.refl _ _

/-- Changes at most heads, evt, tally, dwin. -/
theorem frame_winLost : ∀ (n : Fin 4) (a : Nat) (s : State), Frame 8651024 s (winLost n a s) := by
  intro n a s
  unfold winLost
  extract_lets x1 x2
  clear_value x1
  have h3 : Frame 8651024 s x2 := by
    subst x2
    refine Frame.step (frame_setIrq _ _ _) rfl ?_
    refine Frame.step (frame_bump _ _ _ _ _) rfl ?_
    refine Frame.step (frame_modW _ _ _) rfl ?_
    exact Frame.refl _ _
  clear_value x2
  refine Frame.ite ?_ ?_
  · assumption
  · refine Frame.step (frame_logEv _ _ _ _ _) rfl ?_
    refine Frame.step (frame_modW _ _ _) rfl ?_
    assumption

/-- Changes at most reports, heads, evt, time, tally, mem, dwin. -/
theorem frame_writeWord : ∀ (n : Fin 4) (a : Nat) (v : Word) (lost : Bool) (s : State), Frame 10879252 s (writeWord n a v lost s) := by
  intro n a v lost s
  unfold writeWord
  extract_lets x1 x2
  have h3 : Frame 10879252 s x1 := by
    subst x1
    refine Frame.step (frame_winNown _ _ _) rfl ?_
    exact Frame.refl _ _
  clear_value x1
  have h4 : Frame 10879252 s x2 := by
    subst x2
    refine Frame.ite ?_ ?_
    · refine Frame.step (frame_winLost _ _ _) rfl ?_
      assumption
    · assumption
  clear_value x2
  refine Frame.step (frame_bankWrite _ _ _ _ _ _) rfl ?_
  assumption

/-- Changes at most reports, heads, evt, tally, mem, dwin. -/
theorem frame_readWord : ∀ (n : Fin 4) (a : Nat) (s : State), Frame 10748180 s (Prod.snd (readWord n a s)) := by
  intro n a s
  unfold readWord
  split
  · dsimp only
    refine Frame.step (frame_logUe _ _ _) rfl ?_
    exact Frame.refl _ _
  · split
    · split
      · rename_i n1 n2 n3 n4 n5 n6
        have h7 : Frame 10748180 s n5 := by
          refine Frame.ofEq2 n6 ?_
          refine Frame.step (frame_bankRead _ _ _ _ _) rfl ?_
          refine Frame.step (frame_winNown _ _ _) rfl ?_
          exact Frame.refl _ _
        split
        · assumption
        · assumption
    · exact Frame.refl _ _

/-- Changes at most reports, heads, evt, time, tally, mem, dwin, pert. -/
theorem frame_burstWord : ∀ (n : Fin 4) (lost : Bool) (s : State), Frame 27656468 s (burstWord n lost s) := by
  intro n lost s
  unfold burstWord
  extract_lets x1 x2
  clear_value x1
  have h3 : Frame 27656468 s x2 := by
    subst x2
    refine Frame.step (frame_bump _ _ _ _ _) rfl ?_
    refine Frame.step (frame_modW _ _ _) rfl ?_
    exact Frame.refl _ _
  clear_value x2
  split
  · exact Frame.refl _ _
  · extract_lets x4 x5
    clear_value x4
    have h6 : Frame 27656468 s x5.2 := by
      subst x5
      refine Frame.step (frame_readWord _ _ _) rfl ?_
      assumption
    clear_value x5
    refine Frame.ite ?_ ?_
    · refine Frame.step (frame_endBurst _ _) rfl ?_
      refine Frame.step (frame_winRange _ _ _) rfl ?_
      exact Frame.refl _ _
    · refine Frame.ite ?_ ?_
      · refine Frame.step (frame_writeWord _ _ _ _ _) rfl ?_
        refine Frame.step (frame_modW _ _ _) rfl ?_
        assumption
      · refine Frame.step (frame_modW _ _ _) rfl ?_
        assumption

/-- Changes at most reports, heads, evt, time, tally, mem, dwin, pert. -/
theorem frame_burstTo : ∀ (n : Fin 4) (k : Nat) (lost : List Bool) (s : State), Frame 27656468 s (burstTo n k lost s) := by
  intro n k lost s
  unfold burstTo
  extract_lets x1
  clear_value x1
  refine Frame.foldl (fun x2 k3 h4 => ?_) ?_
  · split
    · assumption
    · refine Frame.step (frame_burstWord _ _ _) rfl ?_
      refine Frame.step (frame_mwAt _ _) rfl ?_
      assumption
  · exact Frame.refl _ _

/-- Changes at most heads, time. -/
theorem frame_txnTurn : ∀ (rank : Nat) (s : State), Frame 131088 s (txnTurn rank s) := by
  intro rank s
  unfold txnTurn
  refine Frame.step (frame_inTurn _ _ _ _) rfl ?_
  exact Frame.refl _ _

/-- Changes at most dwin. -/
theorem frame_txnTake : ∀ (s : State), Frame 8388608 s (txnTake s) := by
  intro s
  unfold txnTake
  refine Frame.step (frame_set_dwin _ _) rfl ?_
  exact Frame.refl _ _

/-- Changes at most dwin. -/
theorem frame_startBurst : ∀ (n : Fin 4) (s : State), Frame 8388608 s (startBurst n s) := by
  intro n s
  unfold startBurst
  refine Frame.step (frame_txnTake _) rfl ?_
  refine Frame.step (frame_modW _ _ _) rfl ?_
  exact Frame.refl _ _

/-- Changes at most heads, dwin. -/
theorem frame_txnWait : ∀ (w : Waiter) (s : State), Frame 8388624 s (txnWait w s) := by
  intro w s
  unfold txnWait
  refine Frame.step (frame_bump _ _ _ _ _) rfl ?_
  refine Frame.step (frame_set_dwin _ _) rfl ?_
  exact Frame.refl _ _

/-- Changes at most heads, time, dwin. -/
theorem frame_issueBurst : ∀ (n : Fin 4) (k : Nat) (s : State), Frame 8519696 s (issueBurst n k s) := by
  intro n k s
  unfold issueBurst
  extract_lets x1 x2 x3
  have h4 : Frame 8519696 s x1 := by
    subst x1
    refine Frame.step (frame_txnTurn _ _) rfl ?_
    exact Frame.refl _ _
  clear_value x1
  clear_value x2
  have h5 : Frame 8519696 s x3 := by
    subst x3
    refine Frame.step (frame_modW _ _ _) rfl ?_
    assumption
  clear_value x3
  refine Frame.ite ?_ ?_
  · refine Frame.step (frame_startBurst _ _) rfl ?_
    assumption
  · refine Frame.step (frame_txnWait _ _) rfl ?_
    refine Frame.step (frame_modW _ _ _) rfl ?_
    assumption

/-- Changes at most heads, time, dwin. -/
theorem frame_autoBurst : ∀ (n : Fin 4) (s : State), Frame 8519696 s (autoBurst n s) := by
  intro n s
  unfold autoBurst
  extract_lets x1
  clear_value x1
  refine Frame.ite ?_ ?_
  · refine Frame.step (frame_issueBurst _ _ _) rfl ?_
    exact Frame.refl _ _
  · exact Frame.refl _ _

/-- Changes at most reports, heads, evt, time, tally, mem, dwin, pert. -/
theorem frame_burstNow : ∀ (n : Fin 4) (s : State), Frame 27656468 s (burstNow n s) := by
  intro n s
  unfold burstNow
  extract_lets x1
  clear_value x1
  split
  · exact Frame.refl _ _
  · refine Frame.ite ?_ ?_
    · extract_lets x2
      have h3 : Frame 27656468 s x2 := by
        subst x2
        refine Frame.step (frame_burstTo _ _ _ _) rfl ?_
        exact Frame.refl _ _
      clear_value x2
      refine Frame.ite ?_ ?_
      · assumption
      · refine Frame.step (frame_autoBurst _ _) rfl ?_
        assumption
    · exact Frame.refl _ _

/-- Changes at most reports, heads, evt, time, tally, mem, dwin, pert. -/
theorem frame_burstsNow : ∀ (s : State), Frame 27656468 s (burstsNow s) := by
  intro s
  unfold burstsNow
  refine Frame.foldl (fun x1 k2 h3 => ?_) ?_
  · refine Frame.step (frame_burstNow _ _) rfl ?_
    assumption
  · exact Frame.refl _ _

/-- Changes what its operand changes. -/
theorem frame_andThen : ∀ {M : Nat} {s0 : State} (f : State → Bool × State) (r : Bool × State), (Frame M s0 r.2) → (∀ x, Frame M s0 x → Frame M s0 (f x).2) → Frame M s0 (andThen f r).2 := by
  intro M s0 f r h hf
  exact hf _ h

/-- Changes at most heads, dwin. -/
theorem frame_winOpen : ∀ (rq : Requester) (peer : Nat) (n : Fin 4) (s : State), Frame 8388624 s (Prod.snd (winOpen rq peer n s)) := by
  intro rq peer n s
  unfold winOpen
  extract_lets x1
  clear_value x1
  split
  · refine Frame.step (frame_refuse _ _) rfl ?_
    exact Frame.refl _ _
  · split
    · refine Frame.step (frame_refuse _ _) rfl ?_
      exact Frame.refl _ _
    · split
      · refine Frame.step (frame_refuse _ _) rfl ?_
        exact Frame.refl _ _
      · dsimp only
        refine Frame.step (frame_modW _ _ _) rfl ?_
        exact Frame.refl _ _

/-- Changes at most reports, heads, evt, time, tally, mem, dwin, pert. -/
theorem frame_finishBurst : ∀ (n : Fin 4) (lost : List Bool) (s : State), Frame 27656468 s (finishBurst n lost s) := by
  intro n lost s
  unfold finishBurst
  split
  · exact Frame.refl _ _
  · extract_lets x1
    have h2 : Frame 27656468 s x1 := by
      subst x1
      refine Frame.step (frame_burstTo _ _ _ _) rfl ?_
      exact Frame.refl _ _
    clear_value x1
    refine Frame.ite ?_ ?_
    · refine Frame.step (frame_endBurst _ _) rfl ?_
      assumption
    · assumption

/-- Changes at most reports, heads, evt, time, tally, mem, dwin, pert. -/
theorem frame_releaseWin : ∀ (n : Fin 4) (s : State), Frame 27656468 s (releaseWin n s) := by
  intro n s
  unfold releaseWin
  extract_lets x1 x2 x3
  have h4 : Frame 27656468 s x1 := by
    subst x1
    refine Frame.ite ?_ ?_
    · refine Frame.step (frame_finishBurst _ _ _) rfl ?_
      exact Frame.refl _ _
    · exact Frame.refl _ _
  clear_value x1
  clear_value x2
  have h5 : Frame 27656468 s x3 := by
    subst x3
    refine Frame.step (frame_set_dwin _ _) rfl ?_
    assumption
  clear_value x3
  refine Frame.step (frame_modW _ _ _) rfl ?_
  assumption

/-- Changes at most reports, heads, evt, time, tally, mem, dwin, pert. -/
theorem frame_winClose : ∀ (rq : Requester) (peer : Nat) (n : Fin 4) (s : State), Frame 27656468 s (Prod.snd (winClose rq peer n s)) := by
  intro rq peer n s
  unfold winClose
  split
  · dsimp only
    refine Frame.step (frame_releaseWin _ _) rfl ?_
    exact Frame.refl _ _
  · refine Frame.step (frame_refuse _ _) rfl ?_
    exact Frame.refl _ _

/-- Changes at most heads, time, dwin. -/
theorem frame_winGo : ∀ (rq : Requester) (peer : Nat) (n : Fin 4) (s : State), Frame 8519696 s (Prod.snd (winGo rq peer n s)) := by
  intro rq peer n s
  unfold winGo
  extract_lets x1
  clear_value x1
  split
  · refine Frame.step (frame_refuse _ _) rfl ?_
    exact Frame.refl _ _
  · split
    · refine Frame.step (frame_refuse _ _) rfl ?_
      exact Frame.refl _ _
    · split
      · split
        · exact Frame.refl _ _
        · dsimp only
          refine Frame.step (frame_issueBurst _ _ _) rfl ?_
          exact Frame.refl _ _
      · split
        · refine Frame.step (frame_refuse _ _) rfl ?_
          exact Frame.refl _ _
        · dsimp only
          refine Frame.step (frame_issueBurst _ _ _) rfl ?_
          exact Frame.refl _ _

/-- Changes at most heads, dwin. -/
theorem frame_winClear : ∀ (rq : Requester) (peer : Nat) (n : Fin 4) (s : State), Frame 8388624 s (Prod.snd (winClear rq peer n s)) := by
  intro rq peer n s
  unfold winClear
  split
  · dsimp only
    refine Frame.step (frame_modW _ _ _) rfl ?_
    exact Frame.refl _ _
  · refine Frame.step (frame_refuse _ _) rfl ?_
    exact Frame.refl _ _

/-- Changes at most reports, heads, sys, evt, time, tally, mem, dwin, pert. -/
theorem frame_winCtrl : ∀ (rq : Requester) (peer : Nat) (n : Fin 4) (v : Word) (s : State), Frame 27656596 s (Prod.snd (winCtrl rq peer n v s)) := by
  intro rq peer n v s
  unfold winCtrl
  split
  · extract_lets x1
    have h2 : Frame 27656596 s x1 := by
      subst x1
      refine Frame.step (frame_reservedWrite _ _ _) rfl ?_
      exact Frame.refl _ _
    clear_value x1
    dsimp only
    refine Frame.ite ?_ ?_
    · refine Frame.step (frame_setErr _ _ _) rfl ?_
      assumption
    · assumption
  · split
    · refine Frame.step (frame_refuse _ _) rfl ?_
      exact Frame.refl _ _
    · extract_lets x3 x4 x5 x6
      have h7 : Frame 27656596 s x3.2 := by
        subst x3
        exact Frame.refl _ _
      clear_value x3
      have h8 : Frame 27656596 s x4.2 := by
        subst x4
        split
        · refine frame_andThen _ _ ?_ ?_
          · assumption
          · intro x9 x10
            refine Frame.step (frame_winOpen _ _ _ _) rfl ?_
            assumption
        · assumption
      clear_value x4
      have h11 : Frame 27656596 s x5.2 := by
        subst x5
        split
        · refine frame_andThen _ _ ?_ ?_
          · assumption
          · intro x12 x13
            refine Frame.step (frame_winClose _ _ _ _) rfl ?_
            assumption
        · assumption
      clear_value x5
      have h14 : Frame 27656596 s x6.2 := by
        subst x6
        split
        · refine frame_andThen _ _ ?_ ?_
          · assumption
          · intro x15 x16
            refine Frame.step (frame_winGo _ _ _ _) rfl ?_
            assumption
        · assumption
      clear_value x6
      split
      · refine frame_andThen _ _ ?_ ?_
        · assumption
        · intro x17 x18
          refine Frame.step (frame_winClear _ _ _ _) rfl ?_
          assumption
      · assumption

/-- Changes at most heads, dwin. -/
theorem frame_winAddrWrite : ∀ (rq : Requester) (peer : Nat) (n : Fin 4) (v : Word) (s : State),
  Frame 8388624 s (Prod.snd (winAddrWrite rq peer n v s)) := by
  intro rq peer n v s
  unfold winAddrWrite
  split
  · refine Frame.step (frame_refuse _ _) rfl ?_
    exact Frame.refl _ _
  · split
    · refine Frame.step (frame_refuse _ _) rfl ?_
      exact Frame.refl _ _
    · dsimp only
      refine Frame.step (frame_modW _ _ _) rfl ?_
      exact Frame.refl _ _

/-- Changes at most heads, dwin. -/
theorem frame_winCfgWrite : ∀ (rq : Requester) (peer : Nat) (n : Fin 4) (v : Word) (s : State), Frame 8388624 s (Prod.snd (winCfgWrite rq peer n v s)) := by
  intro rq peer n v s
  unfold winCfgWrite
  extract_lets x1
  clear_value x1
  split
  · refine Frame.step (frame_refuse _ _) rfl ?_
    exact Frame.refl _ _
  · split
    · refine Frame.step (frame_refuse _ _) rfl ?_
      exact Frame.refl _ _
    · dsimp only
      refine Frame.step (frame_modW _ _ _) rfl ?_
      exact Frame.refl _ _

/-- Changes at most heads, time, dwin. -/
theorem frame_winDataWrite : ∀ (rq : Requester) (peer : Nat) (n : Fin 4) (v : Word) (s : State),
  Frame 8519696 s (Prod.snd (winDataWrite rq peer n v s)) := by
  intro rq peer n v s
  unfold winDataWrite
  extract_lets x1
  clear_value x1
  split
  · refine Frame.step (frame_refuse _ _) rfl ?_
    exact Frame.refl _ _
  · split
    · refine Frame.step (frame_refuse _ _) rfl ?_
      exact Frame.refl _ _
    · split
      · refine Frame.step (frame_refuse _ _) rfl ?_
        exact Frame.refl _ _
      · dsimp only
        refine Frame.step (frame_autoBurst _ _) rfl ?_
        refine Frame.step (frame_modW _ _ _) rfl ?_
        exact Frame.refl _ _

/-- Changes at most reports, heads, evt, time, tally, mem, dwin, pert. -/
theorem frame_loseWin : ∀ (n : Fin 4) (cause : Nat) (s : State), Frame 27656468 s (loseWin n cause s) := by
  intro n cause s
  unfold loseWin
  extract_lets x1
  clear_value x1
  refine Frame.step (frame_setIrq _ _ _) rfl ?_
  refine Frame.step (frame_logEv _ _ _ _ _) rfl ?_
  refine Frame.step (frame_releaseWin _ _) rfl ?_
  exact Frame.refl _ _

/-- Changes at most reports, heads, evt, time, tally, mem, dwin, pert. -/
theorem frame_winAuthWrite : ∀ (rq : Requester) (n : Fin 4) (v : Word) (s : State), Frame 27656468 s (Prod.snd (winAuthWrite rq n v s)) := by
  intro rq n v s
  unfold winAuthWrite
  split
  · refine Frame.step (frame_refuse _ _) rfl ?_
    exact Frame.refl _ _
  · extract_lets x1
    have h2 : Frame 27656468 s x1 := by
      subst x1
      refine Frame.step (frame_modW _ _ _) rfl ?_
      exact Frame.refl _ _
    clear_value x1
    split
    · dsimp only
      refine Frame.ite ?_ ?_
      · assumption
      · refine Frame.step (frame_loseWin _ _ _) rfl ?_
        assumption
    · assumption

/-- Changes at most reports, heads, evt, time, tally, mem, dwin, pert. -/
theorem frame_loseWins : ∀ (cause : Nat) (p : WinState4 → Bool) (s : State), Frame 27656468 s (loseWins cause p s) := by
  intro cause p s
  unfold loseWins
  refine Frame.foldl (fun x1 k2 h3 => ?_) ?_
  · refine Frame.ite ?_ ?_
    · refine Frame.step (frame_loseWin _ _ _) rfl ?_
      assumption
    · assumption
  · exact Frame.refl _ _

/-- Changes at most reports, heads, evt, time, tally, mem, dwin, pert. -/
theorem frame_fabricPut : ∀ (a : Nat) (bs : List Byte) (s : State), Frame 27656468 s (fabricPut a bs s) := by
  intro a bs s
  unfold fabricPut
  refine frame_putWords _ _ _ _ ?_ ?_
  · refine Frame.step (frame_burstsNow _) rfl ?_
    exact Frame.refl _ _
  · intro x1 x2 x3 x4
    refine Frame.step (frame_eccStore _ _ _ _ _ _) rfl ?_
    refine Frame.step (frame_portTurn _ _ _) rfl ?_
    assumption

/-- Changes at most reports, heads, evt, time, tally, mem, dwin, pert. -/
theorem frame_audioPut : ∀ (a : Nat) (bs : List Byte) (s : State), Frame 27656468 s (audioPut a bs s) := by
  intro a bs s
  unfold audioPut
  refine frame_putWords _ _ _ _ ?_ ?_
  · refine Frame.step (frame_burstsNow _) rfl ?_
    exact Frame.refl _ _
  · intro x1 x2 x3 x4
    refine Frame.step (frame_bankWrite _ _ _ _ _ _) rfl ?_
    assumption

/-- Changes at most reports, heads, evt, time, tally, mem, dwin, pert. -/
theorem frame_doBurstDone : ∀ (n : Fin 4) (lost : List Bool) (s : State), Frame 27656468 s (doBurstDone n lost s) := by
  intro n lost s
  unfold doBurstDone
  split
  · exact Frame.refl _ _
  · refine Frame.ite ?_ ?_
    · refine Frame.step (frame_autoBurst _ _) rfl ?_
      refine Frame.step (frame_burstsNow _) rfl ?_
      refine Frame.step (frame_finishBurst _ _ _) rfl ?_
      refine Frame.step (frame_passTo _ _ _) rfl ?_
      exact Frame.refl _ _
    · exact Frame.refl _ _

/-- Changes at most reports, heads, evt, time, tally, mem, dwin, pert. -/
theorem frame_doWClose : ∀ (rq : Requester) (n : Fin 4) (s : State), Frame 27656468 s (doWClose rq n s) := by
  intro rq n s
  unfold doWClose
  refine Frame.step (frame_winClose _ _ _ _) rfl ?_
  refine Frame.step (frame_burstsNow _) rfl ?_
  exact Frame.refl _ _

/-- Changes at most reports, heads, evt, time, tally, mem, dwin, pert. -/
theorem frame_doWClrcnt : ∀ (rq : Requester) (n : Fin 4) (s : State), Frame 27656468 s (doWClrcnt rq n s) := by
  intro rq n s
  unfold doWClrcnt
  refine Frame.step (frame_winClear _ _ _ _) rfl ?_
  refine Frame.step (frame_burstsNow _) rfl ?_
  exact Frame.refl _ _

/-- Changes at most reports, rdata, heads, evt, time, tally, mem, dwin, pert. -/
theorem frame_doWDataRead : ∀ (rq : Requester) (n : Fin 4) (s : State), Frame 27656476 s (doWDataRead rq n s) := by
  intro rq n s
  unfold doWDataRead
  split
  · rename_i n1 n2 n3 n4 n5
    have h6 : Frame 27656476 s n4 := by
      refine Frame.ofEq22 n5 ?_
      refine Frame.step (frame_winDataRead _ _ _ _) rfl ?_
      refine Frame.step (frame_burstsNow _) rfl ?_
      exact Frame.refl _ _
    refine Frame.step (frame_giveRead _ _ _) rfl ?_
    assumption

/-- Changes at most reports, heads, evt, time, tally, mem, dwin, pert. -/
theorem frame_doWDataWrite : ∀ (rq : Requester) (n : Fin 4) (v : Word) (s : State), Frame 27656468 s (doWDataWrite rq n v s) := by
  intro rq n v s
  unfold doWDataWrite
  refine Frame.step (frame_winDataWrite _ _ _ _ _) rfl ?_
  refine Frame.step (frame_burstsNow _) rfl ?_
  exact Frame.refl _ _

/-- Changes at most reports, heads, evt, time, tally, mem, dwin, pert. -/
theorem frame_doWGo : ∀ (rq : Requester) (n : Fin 4) (s : State), Frame 27656468 s (doWGo rq n s) := by
  intro rq n s
  unfold doWGo
  refine Frame.step (frame_winGo _ _ _ _) rfl ?_
  refine Frame.step (frame_burstsNow _) rfl ?_
  exact Frame.refl _ _

/-- Changes at most reports, heads, evt, time, tally, mem, dwin, pert. -/
theorem frame_doWOpen : ∀ (rq : Requester) (n : Fin 4) (s : State), Frame 27656468 s (doWOpen rq n s) := by
  intro rq n s
  unfold doWOpen
  refine Frame.step (frame_winOpen _ _ _ _) rfl ?_
  refine Frame.step (frame_burstsNow _) rfl ?_
  exact Frame.refl _ _

end Sys2Proof.Machine
end

