-- ==== Sys2Proof/Laws/Frames/WindowOps.lean ====
section
/-! SUPPORT. Frames of the operations of Machine/Audio, Buses, CoreCtl, SwapLanes. -/

namespace Sys2Proof.Machine

set_option maxRecDepth 10000

/-- Changes at most aud. -/
theorem frame_modAud : ∀ (f : AudBlk → AudBlk) (s : State), Frame 134217728 s (modAud f s) := by
  intro f s
  unfold modAud
  refine Frame.step (frame_set_aud _ _) rfl ?_
  exact Frame.refl _ _

/-- Changes at most aud. -/
theorem frame_modStream : ∀ (k : Nat) (f : StreamState → StreamState) (s : State), Frame 134217728 s (modStream k f s) := by
  intro k f s
  unfold modStream
  refine Frame.step (frame_modAud _ _) rfl ?_
  exact Frame.refl _ _

/-- Changes at most heads, sys, evt, time, tally, aud. -/
theorem frame_doActiveWrite : ∀ (rq : Requester) (k : Fin 32) (v : Word) (s : State), Frame 134611344 s (doActiveWrite rq k v s) := by
  intro rq k v s
  unfold doActiveWrite
  refine frame_wrIf _ _ _ _ _ _ _ rfl ?_ ?_
  · exact Frame.refl _ _
  · intro x1 x2
    refine Frame.ite ?_ ?_
    · refine Frame.step (frame_setErr _ _ _) rfl ?_
      assumption
    · extract_lets x3 x4 x5
      clear_value x3
      clear_value x4
      have h6 : Frame 134611344 s x5 := by
        subst x5
        refine Frame.step (frame_modStream _ _ _) rfl ?_
        assumption
      clear_value x5
      refine Frame.ite ?_ ?_
      · assumption
      · refine Frame.step (frame_logEv _ _ _ _ _) rfl ?_
        assumption

/-- Changes at most reports, heads, evt, tally, aud. -/
theorem frame_dropFrame : ∀ (k : Nat) (early : Bool) (play : Word) (s : State), Frame 134480148 s (dropFrame k early play s) := by
  intro k early play s
  unfold dropFrame
  extract_lets x1
  have h2 : Frame 134480148 s x1 := by
    subst x1
    refine Frame.ite ?_ ?_
    · refine Frame.step (frame_bump _ _ _ _ _) rfl ?_
      refine Frame.step (frame_modStream _ _ _) rfl ?_
      exact Frame.refl _ _
    · refine Frame.step (frame_bump _ _ _ _ _) rfl ?_
      refine Frame.step (frame_modStream _ _ _) rfl ?_
      exact Frame.refl _ _
  clear_value x1
  refine frame_limited _ _ _ rfl ?_ ?_
  · refine Frame.step (frame_setIrq _ _ _) rfl ?_
    assumption
  · intro x3 x4
    refine Frame.step (frame_logEv _ _ _ _ _) rfl ?_
    assumption

/-- Changes what its operand changes, and aud. -/
theorem frame_bufferFrame : ∀ {M : Nat} {s0 : State} (write : Nat → List Byte → State → State) (k : Nat) (play : Word) (payload : List Byte) (s : State), (134217728 ||| M = M) → (Frame M s0 s) → (∀ k w x, Frame M s0 x → Frame M s0 (write k w x)) → Frame M s0 (bufferFrame write k play payload s) := by
  intro M s0 write k play payload s hM h hf
  exact Frame.step (frame_modStream _ _ _) hM (hf _ _ _ h)

/-- Changes at most reports, heads, evt, time, tally, mem, dwin, pert, aud. -/
theorem frame_audioAccept : ∀ (from_ : Nat) (hdr : Word) (payload : List Byte) (s : State), Frame 161874196 s (audioAccept from_ hdr payload s) := by
  intro from_ hdr payload s
  unfold audioAccept
  extract_lets x1 x2 x3 x4
  clear_value x1
  clear_value x2
  clear_value x3
  clear_value x4
  refine Frame.ite ?_ ?_
  · refine Frame.ite ?_ ?_
    · refine Frame.step (frame_dropFrame _ _ _ _) rfl ?_
      exact Frame.refl _ _
    · refine Frame.ite ?_ ?_
      · refine Frame.step (frame_dropFrame _ _ _ _) rfl ?_
        exact Frame.refl _ _
      · refine Frame.ite ?_ ?_
        · refine Frame.step (frame_dropFrame _ _ _ _) rfl ?_
          exact Frame.refl _ _
        · refine Frame.ite ?_ ?_
          · refine Frame.step (frame_dropFrame _ _ _ _) rfl ?_
            exact Frame.refl _ _
          · refine Frame.ite ?_ ?_
            · refine Frame.step (frame_dropFrame _ _ _ _) rfl ?_
              exact Frame.refl _ _
            · refine frame_bufferFrame _ _ _ _ _ rfl ?_ ?_
              · exact Frame.refl _ _
              · intro x5 x6 x7 x8
                refine Frame.step (frame_fabricPut _ _ _) rfl ?_
                assumption
  · exact Frame.refl _ _

/-- Changes at most aud. -/
theorem frame_audioCommit : ∀ (s : State), Frame 134217728 s (audioCommit s) := by
  intro s
  unfold audioCommit
  split
  · exact Frame.refl _ _
  · refine Frame.step (frame_modAud _ _) rfl ?_
    exact Frame.refl _ _

/-- Changes at most aud. -/
theorem frame_audioSwap : ∀ (old new : Image) (s : State), Frame 134217728 s (audioSwap old new s) := by
  intro old new s
  unfold audioSwap
  refine Frame.ite ?_ ?_
  · exact Frame.refl _ _
  · refine Frame.step (frame_modAud _ _) rfl ?_
    exact Frame.refl _ _

/-- Changes at most heads, evt, tally, mem. -/
theorem frame_playFrame : ∀ (k : Nat) (s : State), Frame 2359568 s (Prod.snd (playFrame k s)) := by
  intro k s
  unfold playFrame
  extract_lets x1
  clear_value x1
  split
  · split
    · rename_i n2 n3 n4 n5 n6
      have h7 : Frame 2359568 s n5 := by
        refine Frame.ofEq2 n6 ?_
        refine Frame.step (frame_eccSpan _ _ _ _) rfl ?_
        exact Frame.refl _ _
      split
      · assumption
      · assumption
  · exact Frame.refl _ _

/-- Changes at most heads, evt, tally, mem. -/
theorem frame_playFrames : ∀ (s : State), Frame 2359568 s (Prod.snd (playFrames s)) := by
  intro s
  unfold playFrames
  refine Frame.foldlP (fun r1 k2 h3 => ?_) ?_
  · split
    · rename_i n4 n5 n6 n7
      have h8 : Frame 2359568 s n6 := by
        refine Frame.ofEq2 n7 ?_
        refine Frame.step (frame_playFrame _ _) rfl ?_
        assumption
      assumption
  · exact Frame.refl _ _

/-- Changes at most reports, heads, evt, tally, aud. -/
theorem frame_playStream : ∀ (k : Nat) (p : Played) (s : State), Frame 134480148 s (playStream k p s) := by
  intro k p s
  unfold playStream
  refine Frame.ite ?_ ?_
  · exact Frame.refl _ _
  · split
    · refine Frame.step (frame_modStream _ _ _) rfl ?_
      exact Frame.refl _ _
    · extract_lets x1 x2 x3
      clear_value x1
      have h4 : Frame 134480148 s x2 := by
        subst x2
        refine Frame.step (frame_bump _ _ _ _ _) rfl ?_
        refine Frame.step (frame_modStream _ _ _) rfl ?_
        exact Frame.refl _ _
      clear_value x2
      have h5 : Frame 134480148 s x3 := by
        subst x3
        refine Frame.step (frame_setIrq _ _ _) rfl ?_
        assumption
      clear_value x3
      refine Frame.ite ?_ ?_
      · refine frame_limited _ _ _ rfl ?_ ?_
        · assumption
        · intro x6 x7
          refine Frame.step (frame_logEv _ _ _ _ _) rfl ?_
          assumption
      · assumption

/-- Changes at most reports, heads, evt, tally, aud. -/
theorem frame_playZone : ∀ (plays : List Played) (z : Nat) (s : State), Frame 134480148 s (playZone plays z s) := by
  intro plays z s
  unfold playZone
  split
  · exact Frame.refl _ _
  · extract_lets x1 x2 x3 x4 x5 x6 x7 x8 x9 x10 x11 x12 x13 x14 x15 x16 x17 x18
    clear_value x1
    clear_value x2
    clear_value x3
    clear_value x4
    clear_value x5
    clear_value x6
    clear_value x11
    clear_value x12
    clear_value x13
    clear_value x14
    clear_value x15
    have h19 : Frame 134480148 s x16 := by
      subst x16
      refine Frame.step (frame_bump _ _ _ _ _) rfl ?_
      refine Frame.step (frame_modAud _ _) rfl ?_
      exact Frame.refl _ _
    clear_value x16
    have h20 : Frame 134480148 s x17 := by
      subst x17
      refine Frame.step (frame_setIrq _ _ _) rfl ?_
      assumption
    clear_value x17
    have h21 : Frame 134480148 s x18 := by
      subst x18
      refine Frame.ite ?_ ?_
      · refine Frame.ite ?_ ?_
        · assumption
        · refine frame_limited _ _ _ rfl ?_ ?_
          · assumption
          · intro x22 x23
            refine Frame.step (frame_logEv _ _ _ _ _) rfl ?_
            assumption
      · assumption
    clear_value x18
    refine Frame.ite ?_ ?_
    · assumption
    · refine Frame.step (frame_setIrq _ _ _) rfl ?_
      refine Frame.step (frame_logEv _ _ _ _ _) rfl ?_
      assumption

/-- Changes at most reports, heads, evt, tally, mem, aud. -/
theorem frame_audioTick : ∀ (s : State), Frame 136577300 s (audioTick s) := by
  intro s
  unfold audioTick
  split
  · rename_i n1 n2 n3 n4
    have h5 : Frame 136577300 s n3 := by
      refine Frame.ofEq2 n4 ?_
      refine Frame.step (frame_playFrames _) rfl ?_
      exact Frame.refl _ _
    extract_lets x6 x7
    have h8 : Frame 136577300 s x6 := by
      subst x6
      refine Frame.step (frame_modAud _ _) rfl ?_
      assumption
    clear_value x6
    have h9 : Frame 136577300 s x7 := by
      subst x7
      refine Frame.foldl (fun x10 k11 h12 => ?_) ?_
      · refine Frame.step (frame_playStream _ _ _) rfl ?_
        assumption
      · assumption
    clear_value x7
    refine Frame.foldl (fun x13 k14 h15 => ?_) ?_
    · refine Frame.step (frame_playZone _ _ _) rfl ?_
      assumption
    · assumption

/-- Changes at most reports, heads, evt, tally, aud. -/
theorem frame_strandFrames : ∀ (s : State), Frame 134480148 s (strandFrames s) := by
  intro s
  unfold strandFrames
  refine Frame.foldl (fun x1 k2 h3 => ?_) ?_
  · extract_lets x4
    clear_value x4
    refine Frame.foldl (fun x5 k6 h7 => ?_) ?_
    · refine Frame.step (frame_dropFrame _ _ _ _) rfl ?_
      refine Frame.step (frame_modStream _ _ _) rfl ?_
      assumption
    · assumption
  · exact Frame.refl _ _

/-- Changes at most mbus. -/
theorem frame_modCh : ∀ (k : Fin 6) (f : MbusChan → MbusChan) (s : State), Frame 67108864 s (modCh k f s) := by
  intro k f s
  unfold modCh
  refine Frame.step (frame_set_mbus _ _) rfl ?_
  exact Frame.refl _ _

/-- Changes at most heads, evt, tally. -/
theorem frame_notePassive : ∀ (k : Fin 6) (was : Bool) (s : State), Frame 262416 s (notePassive k was s) := by
  intro k was s
  unfold notePassive
  extract_lets x1 x2
  clear_value x1
  have h3 : Frame 262416 s x2 := by
    subst x2
    refine Frame.step (frame_logEv _ _ _ _ _) rfl ?_
    exact Frame.refl _ _
  clear_value x2
  refine Frame.ite ?_ ?_
  · exact Frame.refl _ _
  · refine Frame.ite ?_ ?_
    · refine Frame.step (frame_setIrq _ _ _) rfl ?_
      assumption
    · assumption

/-- Changes at most heads, evt, tally, mbus. -/
theorem frame_rejoin : ∀ (k : Fin 6) (s : State), Frame 67371280 s (rejoin k s) := by
  intro k s
  unfold rejoin
  refine Frame.step (frame_notePassive _ _ _) rfl ?_
  refine Frame.step (frame_modCh _ _ _) rfl ?_
  exact Frame.refl _ _

/-- Changes at most heads, evt, tally, mbus. -/
theorem frame_setTrx : ∀ (k : Fin 6) (v : Fin 4) (at_ : Nat) (s : State), Frame 67371280 s (setTrx k v at_ s) := by
  intro k v at_ s
  unfold setTrx
  extract_lets x1 x2
  clear_value x1
  have h3 : Frame 67371280 s x2 := by
    subst x2
    refine Frame.step (frame_logEv _ _ _ _ _) rfl ?_
    refine Frame.step (frame_modCh _ _ _) rfl ?_
    exact Frame.refl _ _
  clear_value x2
  refine Frame.ite ?_ ?_
  · exact Frame.refl _ _
  · refine Frame.ite ?_ ?_
    · refine Frame.step (frame_rejoin _ _) rfl ?_
      assumption
    · assumption

/-- Changes at most heads, evt, tally, mbus. -/
theorem frame_endFrame : ∀ (k : Fin 6) (s : State), Frame 67371280 s (endFrame k s) := by
  intro k s
  unfold endFrame
  extract_lets x1 x2 x3
  clear_value x1
  have h4 : Frame 67371280 s x2 := by
    subst x2
    refine Frame.step (frame_modCh _ _ _) rfl ?_
    exact Frame.refl _ _
  clear_value x2
  have h5 : Frame 67371280 s x3 := by
    subst x3
    refine Frame.ite ?_ ?_
    · refine Frame.step (frame_modCh _ _ _) rfl ?_
      assumption
    · assumption
  clear_value x3
  split
  · refine Frame.step (frame_setTrx _ _ _ _) rfl ?_
    assumption
  · assumption

/-- Changes at most freeCount, heads, evt, tally, mbus. -/
theorem frame_frameLook : ∀ (k : Fin 6) (s : State), Frame 67371282 s (frameLook k s) := by
  intro k s
  unfold frameLook
  refine Frame.ite ?_ ?_
  · refine Frame.ite ?_ ?_
    · refine Frame.step (frame_endFrame _ _) rfl ?_
      refine Frame.step (frame_tickFree _) rfl ?_
      exact Frame.refl _ _
    · refine Frame.step (frame_tickFree _) rfl ?_
      exact Frame.refl _ _
  · exact Frame.refl _ _

/-- Changes at most freeCount, heads, evt, tally, mbus. -/
theorem frame_chInit : ∀ (k : Fin 6) (v : Bool) (s : State), Frame 67371282 s (chInit k v s) := by
  intro k v s
  unfold chInit
  extract_lets x1
  clear_value x1
  refine Frame.ite ?_ ?_
  · refine Frame.ite ?_ ?_
    · refine Frame.step (frame_frameLook _ _) rfl ?_
      refine Frame.step (frame_modCh _ _ _) rfl ?_
      exact Frame.refl _ _
    · refine Frame.step (frame_modCh _ _ _) rfl ?_
      exact Frame.refl _ _
  · refine Frame.ite ?_ ?_
    · refine Frame.step (frame_rejoin _ _) rfl ?_
      refine Frame.step (frame_modCh _ _ _) rfl ?_
      exact Frame.refl _ _
    · refine Frame.step (frame_modCh _ _ _) rfl ?_
      exact Frame.refl _ _

/-- Changes at most mbus. -/
theorem frame_chClear : ∀ (k : Fin 6) (s : State), Frame 67108864 s (chClear k s) := by
  intro k s
  unfold chClear
  refine Frame.step (frame_modCh _ _ _) rfl ?_
  exact Frame.refl _ _

/-- Changes at most freeCount, mbus. -/
theorem frame_recovNow : ∀ (k : Fin 6) (s : State), Frame 67108866 s (recovNow k s) := by
  intro k s
  unfold recovNow
  extract_lets x1
  clear_value x1
  refine Frame.ite ?_ ?_
  · refine Frame.step (frame_tickFree _) rfl ?_
    refine Frame.step (frame_modCh _ _ _) rfl ?_
    exact Frame.refl _ _
  · exact Frame.refl _ _

/-- Changes at most freeCount, heads, evt, tally, mbus. -/
theorem frame_reqTrx : ∀ (k : Fin 6) (v : Fin 4) (s : State), Frame 67371282 s (reqTrx k v s) := by
  intro k v s
  unfold reqTrx
  extract_lets x1
  clear_value x1
  refine Frame.ite ?_ ?_
  · refine Frame.step (frame_frameLook _ _) rfl ?_
    refine Frame.step (frame_modCh _ _ _) rfl ?_
    exact Frame.refl _ _
  · refine Frame.step (frame_setTrx _ _ _ _) rfl ?_
    refine Frame.step (frame_modCh _ _ _) rfl ?_
    exact Frame.refl _ _

/-- Changes at most freeCount, heads, sys, evt, time, tally, mbus. -/
theorem frame_doTrxReq : ∀ (rq : Requester) (k : Fin 6) (v : Fin 4) (s : State), Frame 67502482 s (doTrxReq rq k v s) := by
  intro rq k v s
  unfold doTrxReq
  refine frame_wrIf _ _ _ _ _ _ _ rfl ?_ ?_
  · exact Frame.refl _ _
  · intro x1 x2
    refine Frame.step (frame_reqTrx _ _ _) rfl ?_
    refine Frame.step (frame_modCh _ _ _) rfl ?_
    assumption

/-- Changes at most freeCount, mbus. -/
theorem frame_txdNow : ∀ (k : Fin 6) (s : State), Frame 67108866 s (txdNow k s) := by
  intro k s
  unfold txdNow
  refine Frame.ite ?_ ?_
  · refine Frame.step (frame_tickFree _) rfl ?_
    refine Frame.step (frame_modCh _ _ _) rfl ?_
    exact Frame.refl _ _
  · exact Frame.refl _ _

/-- Changes at most mbus. -/
theorem frame_followSwap : ∀ (old new : Image) (k : Fin 6) (s : State), Frame 67108864 s (followSwap old new k s) := by
  intro old new k s
  unfold followSwap
  extract_lets x1 x2
  clear_value x1
  clear_value x2
  refine Frame.ite ?_ ?_
  · refine Frame.step (frame_modCh _ _ _) rfl ?_
    exact Frame.refl _ _
  · refine Frame.ite ?_ ?_
    · refine Frame.step (frame_modCh _ _ _) rfl ?_
      exact Frame.refl _ _
    · exact Frame.refl _ _

/-- Changes at most heads, evt, tally, mbus. -/
theorem frame_mbusDegraded : ∀ (on : Bool) (s : State), Frame 67371280 s (mbusDegraded on s) := by
  intro on s
  unfold mbusDegraded
  refine Frame.foldl (fun x1 k2 h3 => ?_) ?_
  · extract_lets x4
    clear_value x4
    refine Frame.ite ?_ ?_
    · assumption
    · refine Frame.step (frame_logEv _ _ _ _ _) rfl ?_
      refine Frame.step (frame_modCh _ _ _) rfl ?_
      assumption
  · exact Frame.refl _ _

/-- Changes at most heads, evt, time, tally, mbus. -/
theorem frame_mbusSwap : ∀ (old new : Image) (s : State), Frame 67502352 s (mbusSwap old new s) := by
  intro old new s
  unfold mbusSwap
  extract_lets x1 x2 x3 x4
  have h5 : Frame 67502352 s x1 := by
    subst x1
    refine Frame.foldl (fun x6 k7 h8 => ?_) ?_
    · extract_lets x9
      have h10 : Frame 67502352 s x9 := by
        subst x9
        refine Frame.step (frame_followSwap _ _ _ _) rfl ?_
        assumption
      clear_value x9
      refine Frame.ite ?_ ?_
      · refine Frame.step (frame_setTrx _ _ _ _) rfl ?_
        refine Frame.step (frame_modCh _ _ _) rfl ?_
        assumption
      · assumption
    · exact Frame.refl _ _
  clear_value x1
  clear_value x2
  have h11 : Frame 67502352 s x3 := by
    subst x3
    refine Frame.step (frame_mbusDegraded _ _) rfl ?_
    refine Frame.step (frame_set_mbus _ _) rfl ?_
    assumption
  clear_value x3
  clear_value x4
  refine Frame.ite ?_ ?_
  · refine Frame.step (frame_setSlew _ _ _) rfl ?_
    refine Frame.step (frame_set_mbus _ _) rfl ?_
    assumption
  · assumption

/-- Changes at most heads, mbus. -/
theorem frame_bumpCh : ∀ (k : Fin 6) (off lo : Nat) (f : MbusChan → MbusChan) (s : State), Frame 67108880 s (bumpCh k off lo f s) := by
  intro k off lo f s
  unfold bumpCh
  refine Frame.step (frame_bump _ _ _ _ _) rfl ?_
  refine Frame.step (frame_modCh _ _ _) rfl ?_
  exact Frame.refl _ _

/-- Changes at most heads, evt, tally, mbus. -/
theorem frame_noteBusOff : ∀ (k : Fin 6) (s : State), Frame 67371280 s (noteBusOff k s) := by
  intro k s
  unfold noteBusOff
  extract_lets x1
  clear_value x1
  refine Frame.ite ?_ ?_
  · refine Frame.step (frame_setIrq _ _ _) rfl ?_
    refine Frame.step (frame_logEv _ _ _ _ _) rfl ?_
    refine Frame.step (frame_modCh _ _ _) rfl ?_
    exact Frame.refl _ _
  · exact Frame.refl _ _

/-- Changes at most heads, evt, tally, mbus. -/
theorem frame_busError : ∀ (k : Fin 6) (tx special : Bool) (code : Nat) (s : State), Frame 67371280 s (busError k tx special code s) := by
  intro k tx special code s
  unfold busError
  extract_lets x1 x2
  clear_value x1
  have h3 : Frame 67371280 s x2 := by
    subst x2
    refine Frame.step (frame_modCh _ _ _) rfl ?_
    exact Frame.refl _ _
  clear_value x2
  refine Frame.step (frame_noteBusOff _ _) rfl ?_
  refine Frame.step (frame_notePassive _ _ _) rfl ?_
  assumption

/-- Changes at most heads, evt, tally, mbus. -/
theorem frame_doBusOn : ∀ (k : Fin 6) (s : State), Frame 67371280 s (doBusOn k s) := by
  intro k s
  unfold doBusOn
  extract_lets x1
  clear_value x1
  refine Frame.ite ?_ ?_
  · refine Frame.step (frame_logEv _ _ _ _ _) rfl ?_
    refine Frame.step (frame_modCh _ _ _) rfl ?_
    exact Frame.refl _ _
  · exact Frame.refl _ _

/-- Changes what its operand changes, and heads, evt, tally, mbus. -/
theorem frame_withFrame : ∀ {M : Nat} {s0 : State} (k : Fin 6) (age : Nat) (f : State → State) (s : State), (67371280 ||| M = M) → (Frame M s0 s) → (∀ x, Frame M s0 x → Frame M s0 (f x)) → Frame M s0 (withFrame k age f s) := by
  intro M s0 k age f s hM h hf
  have he : ∀ x, Frame M s0 x → Frame M s0 (endFrame k x) := fun x hx => Frame.step (frame_endFrame _ _) hM hx
  unfold withFrame
  have h1 : ∀ x, Frame M s0 x → Frame M s0 (if x.mbus.ch[k].waits then endFrame k x else x) :=
    fun x hx => Frame.ite (he _ hx) hx
  exact h1 _ (hf _ (Frame.ite (he _ h) h))

/-- Changes at most heads, evt, tally, mbus. -/
theorem frame_doCanBusError : ∀ (k : Fin 6) (tx special : Bool) (code : Fin 7) (age : Nat) (s : State),
  Frame 67371280 s (doCanBusError k tx special code age s) := by
  intro k tx special code age s
  unfold doCanBusError
  refine frame_withFrame _ _ _ _ rfl ?_ ?_
  · exact Frame.refl _ _
  · intro x1 x2
    refine Frame.ite ?_ ?_
    · refine Frame.step (frame_busError _ _ _ _ _) rfl ?_
      assumption
    · assumption

/-- Changes at most pert. -/
theorem frame_useBit : ∀ (s : State), Frame 16777216 s (useBit s) := by
  intro s
  unfold useBit
  refine Frame.step (frame_set_pert _ _) rfl ?_
  exact Frame.refl _ _

/-- Changes at most freeCount, heads, evt, tally, pert, mbus. -/
theorem frame_falsified : ∀ (k : Fin 6) (tx counts : Bool) (s : State), Frame 84148498 s (falsified k tx counts s) := by
  intro k tx counts s
  unfold falsified
  extract_lets x1
  have h2 : Frame 84148498 s x1 := by
    subst x1
    refine Frame.step (frame_pertHit _ _ _) rfl ?_
    refine Frame.step (frame_useBit _) rfl ?_
    exact Frame.refl _ _
  clear_value x1
  refine Frame.ite ?_ ?_
  · refine Frame.step (frame_tickFree _) rfl ?_
    refine Frame.step (frame_busError _ _ _ _ _) rfl ?_
    assumption
  · assumption

/-- Changes at most freeCount, heads, evt, tally, mbus. -/
theorem frame_rxGood : ∀ (k : Fin 6) (listen : Bool) (s : State), Frame 67371282 s (rxGood k listen s) := by
  intro k listen s
  unfold rxGood
  extract_lets x1 x2 x3
  clear_value x1
  clear_value x2
  clear_value x3
  refine Frame.ite ?_ ?_
  · exact Frame.refl _ _
  · refine Frame.step (frame_notePassive _ _ _) rfl ?_
    refine Frame.step (frame_tickFree _) rfl ?_
    refine Frame.step (frame_modCh _ _ _) rfl ?_
    exact Frame.refl _ _

/-- Changes at most reports, heads, evt, time, tally, mem, que, pert, mbus. -/
theorem frame_queueFrame : ∀ (k : Fin 6) (r : List Byte) (idx : Nat) (stamp : DWord) (f : CanFrame) (s : State),
  Frame 90571028 s (queueFrame k r idx stamp f s) := by
  intro k r idx stamp f s
  unfold queueFrame
  extract_lets x1 x2 x3 x4
  clear_value x1
  clear_value x2
  have h5 : Frame 90571028 s x3 := by
    subst x3
    refine Frame.ite ?_ ?_
    · refine Frame.step (frame_pertHit _ _ _) rfl ?_
      exact Frame.refl _ _
    · exact Frame.refl _ _
  clear_value x3
  have h6 : Frame 90571028 s x4 := by
    subst x4
    refine Frame.step (frame_setIrq _ _ _) rfl ?_
    refine Frame.step (frame_bumpCh _ _ _ _ _) rfl ?_
    assumption
  clear_value x4
  refine Frame.ite ?_ ?_
  · refine Frame.foldl (fun x7 k8 h9 => ?_) ?_
    · refine Frame.step (frame_qPush _ _ _ _) rfl ?_
      assumption
    · exact Frame.refl _ _
  · refine frame_limited _ _ _ rfl ?_ ?_
    · assumption
    · intro x10 x11
      refine Frame.step (frame_logEv _ _ _ _ _) rfl ?_
      assumption

/-- Changes at most hurdle. -/
theorem frame_setMapLive : ∀ (o : Nat) (b : Bool) (s : State), Frame 65536 s (setMapLive o b s) := by
  intro o b s
  unfold setMapLive
  refine Frame.step (frame_set_hurdle _ _) rfl ?_
  exact Frame.refl _ _

/-- Changes at most heads, sys, evt, sol, hurdle, tally, mbus. -/
theorem frame_mapFrame : ∀ (k : Fin 6) (r : List Byte) (idx : Nat) (f : CanFrame) (s : State), Frame 67445136 s (mapFrame k r idx f s) := by
  intro k r idx f s
  unfold mapFrame
  split
  · refine Frame.step (frame_bumpCh _ _ _ _ _) rfl ?_
    exact Frame.refl _ _
  · extract_lets x1 x2 x3 x4
    clear_value x1
    clear_value x2
    have h5 : Frame 67445136 s x3 := by
      subst x3
      refine Frame.step (frame_set_mbus _ _) rfl ?_
      exact Frame.refl _ _
    clear_value x3
    have h6 : Frame 67445136 s x4 := by
      subst x4
      refine Frame.step (frame_setMapLive _ _ _) rfl ?_
      assumption
    clear_value x4
    split
    · refine Frame.step (frame_deliverCmd _ _ _ _) rfl ?_
      assumption
    · refine Frame.step (frame_withdraw _ _ _ _) rfl ?_
      assumption

/-- Changes at most reports, heads, sys, evt, sol, hurdle, time, tally, mem, que, pert, mbus, pwr. -/
theorem frame_filterFrame : ∀ (k : Fin 6) (f : CanFrame) (age : Nat) (s : State), Frame 627515796 s (filterFrame k f age s) := by
  intro k f age s
  unfold filterFrame
  split
  · exact (frame_bumpCh _ _ _ _ _).mono rfl
  · rename_i r idx hq
    clear hq
    refine Frame.ite ((frame_bumpCh _ _ _ _ _).mono rfl) ?_
    extract_lets p t u b v
    have ht : Frame 627515796 s t := Frame.ite ((frame_set_pwr _ _).mono rfl) (Frame.refl _ _)
    have hu : Frame 627515796 s u := Frame.ite (Frame.step (frame_logAgo _ _ _ _ _ _) rfl ht) ht
    have hv : Frame 627515796 s v := Frame.ite (Frame.step (frame_queueFrame _ _ _ _ _ _) rfl hu) hu
    exact Frame.ite (Frame.step (frame_mapFrame _ _ _ _ _) rfl hv) hv

/-- Changes at most freeCount, heads, evt, tick, time, tally, fab, mbus. -/
theorem frame_refPair : ∀ (k : Fin 6) (own master : DWord) (s : State), Frame 68027154 s (refPair k own master s) := by
  intro k own master s
  unfold refPair
  extract_lets x1 x2 x3 x4 x5 x6 x7
  clear_value x1
  clear_value x2
  clear_value x3
  have h8 : Frame 68027154 s x4 := by
    subst x4
    refine Frame.step (frame_bumpCh _ _ _ _ _) rfl ?_
    exact Frame.refl _ _
  clear_value x4
  clear_value x5
  have h9 : Frame 68027154 s x6 := by
    subst x6
    refine Frame.step (frame_set_mbus _ _) rfl ?_
    assumption
  clear_value x6
  clear_value x7
  refine Frame.ite ?_ ?_
  · refine Frame.step (frame_stepBase _ _ _ _) rfl ?_
    refine Frame.step (frame_setSlew _ _ _) rfl ?_
    refine Frame.step (frame_modCh _ _ _) rfl ?_
    assumption
  · split
    · extract_lets x10 x11
      have h12 : Frame 68027154 s x10 := by
        subst x10
        refine Frame.step (frame_modCh _ _ _) rfl ?_
        assumption
      clear_value x10
      have h13 : Frame 68027154 s x11 := by
        subst x11
        refine Frame.step (frame_steerBase _ _ _) rfl ?_
        assumption
      clear_value x11
      refine Frame.ite ?_ ?_
      · refine Frame.step (frame_tickFree _) rfl ?_
        refine Frame.step (frame_setOos _ _ _ _) rfl ?_
        assumption
      · assumption

/-- Changes at most freeCount, heads, evt, tick, time, tally, fab, mbus. -/
theorem frame_refFrame : ∀ (k : Fin 6) (f : CanFrame) (age : Nat) (s : State), Frame 68027154 s (refFrame k f age s) := by
  intro k f age s
  unfold refFrame
  extract_lets x1 x2 x3
  clear_value x1
  clear_value x2
  clear_value x3
  refine Frame.ite ?_ ?_
  · refine Frame.ite ?_ ?_
    · refine Frame.step (frame_setIrq _ _ _) rfl ?_
      refine Frame.step (frame_logEv _ _ _ _ _) rfl ?_
      exact Frame.refl _ _
    · exact Frame.refl _ _
  · refine Frame.ite ?_ ?_
    · refine Frame.ite ?_ ?_
      · refine Frame.step (frame_modCh _ _ _) rfl ?_
        exact Frame.refl _ _
      · refine Frame.ite ?_ ?_
        · split
          · refine Frame.ite ?_ ?_
            · refine Frame.step (frame_refPair _ _ _ _) rfl ?_
              exact Frame.refl _ _
            · exact Frame.refl _ _
          · exact Frame.refl _ _
        · exact Frame.refl _ _
    · exact Frame.refl _ _

/-- Changes at most freeCount, reports, heads, sys, evt, tick, sol, hurdle, time, tally, fab, mem, que, pert, mbus, pwr. -/
theorem frame_doCanRxFrame : ∀ (k : Fin 6) (f : CanFrame) (age : Nat) (a : State), Frame 628040598 a (doCanRxFrame k f age a) := by
  intro k f age a
  unfold doCanRxFrame
  refine frame_withFrame _ _ _ _ rfl ?_ ?_
  · exact Frame.refl _ _
  · intro x1 x2
    extract_lets x3 x4 x5 x6
    clear_value x3
    have h7 : Frame 628040598 a x4 := by
      subst x4
      refine Frame.step (frame_inTurn _ _ _ _) rfl ?_
      assumption
    clear_value x4
    have h8 : Frame 628040598 a x5 := by
      subst x5
      refine Frame.ite ?_ ?_
      · refine Frame.step (frame_useBit _) rfl ?_
        assumption
      · assumption
    clear_value x5
    have h9 : Frame 628040598 a x6 := by
      subst x6
      refine Frame.step (frame_rxGood _ _ _) rfl ?_
      refine Frame.step (frame_bumpCh _ _ _ _ _) rfl ?_
      assumption
    clear_value x6
    refine Frame.ite ?_ ?_
    · assumption
    · refine Frame.ite ?_ ?_
      · refine Frame.step (frame_falsified _ _ _ _) rfl ?_
        assumption
      · refine Frame.step (frame_filterFrame _ _ _ _) rfl ?_
        refine Frame.step (frame_refFrame _ _ _ _) rfl ?_
        assumption

/-- Changes at most freeCount, reports, heads, evt, time, tally, mem, que, mbus. -/
theorem frame_doCanTxTake : ∀ (k : Fin 6) (s : State), Frame 73793814 s (doCanTxTake k s) := by
  intro k s
  unfold doCanTxTake
  extract_lets x1 x2 x3 x4
  have h5 : Frame 73793814 s x1 := by
    subst x1
    refine Frame.step (frame_frameLook _ _) rfl ?_
    exact Frame.refl _ _
  clear_value x1
  clear_value x2
  clear_value x3
  clear_value x4
  split
  · assumption
  · extract_lets x6 x7 x8 x9
    clear_value x6
    clear_value x7
    clear_value x8
    clear_value x9
    refine Frame.ite ?_ ?_
    · assumption
    · split
      · rename_i n10 n11 n12 n13 n14 n15 n16
        have h17 : Frame 73793814 s n15 := by
          refine Frame.ofEq2 n16 ?_
          refine Frame.foldlP (fun r18 k19 h20 => ?_) ?_
          · split
            · rename_i n21 n22 n23 n24
              have h25 : Frame 73793814 s n23 := by
                refine Frame.ofEq22 n24 ?_
                refine Frame.step (frame_qPop _ _ _) rfl ?_
                assumption
              assumption
            · rename_i n26 n27 n28 n29 n30 n31
              have h32 : Frame 73793814 s n29 := by
                refine Frame.ofEq22 n31 ?_
                refine Frame.step (frame_qPop _ _ _) rfl ?_
                assumption
              assumption
          · assumption
        refine Frame.ite ?_ ?_
        · extract_lets x33
          have h34 : Frame 73793814 s x33 := by
            subst x33
            refine Frame.step (frame_setIrq _ _ _) rfl ?_
            refine Frame.step (frame_bumpCh _ _ _ _ _) rfl ?_
            assumption
          clear_value x33
          refine frame_limited _ _ _ rfl ?_ ?_
          · assumption
          · intro x35 x36
            refine Frame.step (frame_logEv _ _ _ _ _) rfl ?_
            assumption
        · refine Frame.ite ?_ ?_
          · refine Frame.step (frame_modCh _ _ _) rfl ?_
            assumption
          · assumption

/-- Changes at most freeCount, heads, evt, tally, mbus. -/
theorem frame_doChInit : ∀ (rq : Requester) (k : Fin 6) (v : Bool) (s : State), Frame 67371282 s (doChInit rq k v s) := by
  intro rq k v s
  unfold doChInit
  refine Frame.ite ?_ ?_
  · refine Frame.step (frame_chInit _ _ _) rfl ?_
    exact Frame.refl _ _
  · refine Frame.step (frame_setErr _ _ _) rfl ?_
    exact Frame.refl _ _

/-- Changes at most heads, evt, tally, mbus. -/
theorem frame_mbusFirstCommit : ∀ (s : State), Frame 67371280 s (mbusFirstCommit s) := by
  intro s
  unfold mbusFirstCommit
  refine Frame.ite ?_ ?_
  · exact Frame.refl _ _
  · extract_lets x1 x2
    have h3 : Frame 67371280 s x1 := by
      subst x1
      refine Frame.foldl (fun x4 k5 h6 => ?_) ?_
      · refine Frame.ite ?_ ?_
        · refine Frame.step (frame_setTrx _ _ _ _) rfl ?_
          refine Frame.step (frame_modCh _ _ _) rfl ?_
          assumption
        · assumption
      · exact Frame.refl _ _
    clear_value x1
    clear_value x2
    refine Frame.step (frame_set_mbus _ _) rfl ?_
    assumption

/-- Changes at most reports, heads, evt, hurdle, tally. -/
theorem frame_doMapTimeout : ∀ (o : Fin 256) (s : State), Frame 327956 s (doMapTimeout o s) := by
  intro o s
  unfold doMapTimeout
  refine Frame.ite ?_ ?_
  · extract_lets x1
    have h2 : Frame 327956 s x1 := by
      subst x1
      refine Frame.step (frame_setMapLive _ _ _) rfl ?_
      exact Frame.refl _ _
    clear_value x1
    refine frame_limited _ _ _ rfl ?_ ?_
    · assumption
    · intro x3 x4
      refine Frame.step (frame_setIrq _ _ _) rfl ?_
      refine Frame.step (frame_logEv _ _ _ _ _) rfl ?_
      assumption
  · exact Frame.refl _ _

/-- Changes at most reports, heads, evt, hurdle, tally. -/
theorem frame_mapTimeouts : ∀ (s : State), Frame 327956 s (mapTimeouts s) := by
  intro s
  unfold mapTimeouts
  refine Frame.foldl (fun x1 k2 h3 => ?_) ?_
  · refine Frame.step (frame_doMapTimeout _ _) rfl ?_
    assumption
  · exact Frame.refl _ _

/-- Changes at most heads, mbus. -/
theorem frame_doMbusClrcnt : ∀ (rq : Requester) (k : Fin 6) (s : State), Frame 67108880 s (doMbusClrcnt rq k s) := by
  intro rq k s
  unfold doMbusClrcnt
  refine Frame.ite ?_ ?_
  · refine Frame.step (frame_chClear _ _) rfl ?_
    exact Frame.refl _ _
  · refine Frame.step (frame_setErr _ _ _) rfl ?_
    exact Frame.refl _ _

/-- Changes at most heads, evt, time, tally, fab, mbus. -/
theorem frame_doRefLost : ∀ (s : State), Frame 68026640 s (doRefLost s) := by
  intro s
  unfold doRefLost
  refine Frame.foldl (fun x1 k2 h3 => ?_) ?_
  · split
    · refine Frame.ite ?_ ?_
      · extract_lets x4 x5
        clear_value x4
        have h6 : Frame 68026640 s x5 := by
          subst x5
          refine Frame.step (frame_setSlew _ _ _) rfl ?_
          refine Frame.step (frame_modCh _ _ _) rfl ?_
          refine Frame.step (frame_set_mbus _ _) rfl ?_
          assumption
        clear_value x5
        refine Frame.step (frame_setOos _ _ _ _) rfl ?_
        refine Frame.step (frame_setIrq _ _ _) rfl ?_
        refine Frame.step (frame_logEv _ _ _ _ _) rfl ?_
        assumption
      · assumption
    · assumption
  · exact Frame.refl _ _

/-- Changes at most mbus. -/
theorem frame_doRefSend : ∀ (s : State), Frame 67108864 s (doRefSend s) := by
  intro s
  unfold doRefSend
  refine Frame.foldl (fun x1 k2 h3 => ?_) ?_
  · extract_lets x4
    clear_value x4
    refine Frame.ite ?_ ?_
    · refine Frame.step (frame_modCh _ _ _) rfl ?_
      assumption
    · assumption
  · exact Frame.refl _ _

/-- Changes at most mbus. -/
theorem frame_doTrainDiscarded : ∀ (ct : Fin 2) (s : State), Frame 67108864 s (doTrainDiscarded ct s) := by
  intro ct s
  unfold doTrainDiscarded
  refine Frame.ite ?_ ?_
  · exact Frame.refl _ _
  · refine Frame.step (frame_modCh _ _ _) rfl ?_
    exact Frame.refl _ _

/-- Changes at most heads, evt, tally, mbus. -/
theorem frame_txGood : ∀ (k : Fin 6) (s : State), Frame 67371280 s (txGood k s) := by
  intro k s
  unfold txGood
  extract_lets x1
  clear_value x1
  refine Frame.step (frame_notePassive _ _ _) rfl ?_
  refine Frame.step (frame_bumpCh _ _ _ _ _) rfl ?_
  exact Frame.refl _ _

/-- Changes at most freeCount, heads, evt, tally, pert, mbus. -/
theorem frame_doTxFrame : ∀ (k : Fin 6) (age delay : Nat) (a : State), Frame 84148498 a (doTxFrame k age delay a) := by
  intro k age delay a
  unfold doTxFrame
  refine frame_withFrame _ _ _ _ rfl ?_ ?_
  · exact Frame.refl _ _
  · intro x1 x2
    extract_lets x3 x4
    clear_value x3
    have h5 : Frame 84148498 a x4 := by
      subst x4
      refine Frame.ite ?_ ?_
      · refine Frame.step (frame_useBit _) rfl ?_
        assumption
      · assumption
    clear_value x4
    refine Frame.ite ?_ ?_
    · assumption
    · refine Frame.ite ?_ ?_
      · refine Frame.step (frame_falsified _ _ _ _) rfl ?_
        assumption
      · split
        · refine Frame.step (frame_txGood _ _) rfl ?_
          refine Frame.step (frame_modCh _ _ _) rfl ?_
          assumption
        · extract_lets x6
          have h7 : Frame 84148498 a x6 := by
            subst x6
            refine Frame.step (frame_txGood _ _) rfl ?_
            refine Frame.step (frame_modCh _ _ _) rfl ?_
            assumption
          clear_value x6
          refine Frame.ite ?_ ?_
          · refine Frame.step (frame_logAgo _ _ _ _ _ _) rfl ?_
            assumption
          · assumption
        · refine Frame.step (frame_txGood _ _) rfl ?_
          refine Frame.step (frame_modCh _ _ _) rfl ?_
          assumption
        · assumption

/-- Changes at most heads, evt, tally, mbus. -/
theorem frame_doTxdTimeout : ∀ (k : Fin 6) (s : State), Frame 67371280 s (doTxdTimeout k s) := by
  intro k s
  unfold doTxdTimeout
  refine Frame.ite ?_ ?_
  · refine Frame.step (frame_setIrq _ _ _) rfl ?_
    refine Frame.step (frame_logEv _ _ _ _ _) rfl ?_
    refine Frame.step (frame_modCh _ _ _) rfl ?_
    exact Frame.refl _ _
  · exact Frame.refl _ _

/-- Changes at most freeCount, heads, evt, tally, mbus. -/
theorem frame_doWakeAddress : ∀ (ct : Fin 2) (t : Train) (s : State), Frame 67371282 s (doWakeAddress ct t s) := by
  intro ct t s
  unfold doWakeAddress
  extract_lets x1 x2 x3 x4
  have h5 : Frame 67371282 s x2 := by
    subst x2
    refine Frame.step (frame_tickFree _) rfl ?_
    refine Frame.step (frame_modCh _ _ _) rfl ?_
    exact Frame.refl _ _
  clear_value x2
  have h6 : Frame 67371282 s x3 := by
    subst x3
    refine Frame.step (frame_modCh _ _ _) rfl ?_
    assumption
  clear_value x3
  clear_value x4
  refine Frame.ite ?_ ?_
  · exact Frame.refl _ _
  · split
    · assumption
    · extract_lets x7 x8
      clear_value x7
      have h9 : Frame 67371282 s x8 := by
        subst x8
        refine Frame.step (frame_set_mbus _ _) rfl ?_
        assumption
      clear_value x8
      refine Frame.ite ?_ ?_
      · assumption
      · refine frame_whenOn _ _ ?_ ?_
        · assumption
        · intro x10 x11
          refine Frame.step (frame_setIrq _ _ _) rfl ?_
          refine Frame.step (frame_logEv _ _ _ _ _) rfl ?_
          assumption

/-- Changes at most freeCount, heads, evt, tally, mbus. -/
theorem frame_doWakePattern : ∀ (k : Fin 6) (s : State), Frame 67371282 s (doWakePattern k s) := by
  intro k s
  unfold doWakePattern
  refine Frame.ite ?_ ?_
  · exact Frame.refl _ _
  · extract_lets x1
    have h2 : Frame 67371282 s x1 := by
      subst x1
      refine Frame.step (frame_frameLook _ _) rfl ?_
      exact Frame.refl _ _
    clear_value x1
    refine Frame.ite ?_ ?_
    · assumption
    · refine Frame.ite ?_ ?_
      · refine Frame.step (frame_modCh _ _ _) rfl ?_
        assumption
      · refine frame_whenOn _ _ ?_ ?_
        · refine Frame.step (frame_hwBit _ _ _ _) rfl ?_
          refine Frame.step (frame_modCh _ _ _) rfl ?_
          assumption
        · intro x3 x4
          refine Frame.step (frame_setIrq _ _ _) rfl ?_
          refine Frame.step (frame_logEv _ _ _ _ _) rfl ?_
          assumption

/-- Changes at most mem. -/
theorem frame_cleanSpan : ∀ (a b : Nat) (s : State), Frame 2097152 s (cleanSpan a b s) := by
  intro a b s
  unfold cleanSpan
  refine Frame.step (frame_modMem _ _ (fun m hm => ⟨hm.1, hm.2⟩)) rfl ?_
  exact Frame.refl _ _

/-- Changes at most mem. -/
theorem frame_reloadSpan : ∀ (a b : Nat) (bytes : List Byte) (s : State), Frame 2097152 s (reloadSpan a b bytes s) := by
  intro a b bytes s
  unfold reloadSpan
  refine Frame.step (frame_modMem _ _ (fun m hm => ⟨Memory.wf_cellsPut _ _ _ (Memory.wf_cellsClear _ _ _ hm.1), hm.2⟩)) rfl ?_
  refine Frame.step (frame_cleanSpan _ _ _) rfl ?_
  exact Frame.refl _ _

/-- Changes at most mem. -/
theorem frame_loadProgram : ∀ (core : Nat) (bytes : List Byte) (s : State), Frame 2097152 s (loadProgram core bytes s) := by
  intro core bytes s
  unfold loadProgram
  refine Frame.step (frame_reloadSpan _ _ _ _) rfl ?_
  exact Frame.refl _ _

/-- Changes at most core. -/
theorem frame_modCore : ∀ (f : CoreBlk → CoreBlk) (s : State), Frame 1048576 s (modCore f s) := by
  intro f s
  unfold modCore
  refine Frame.step (frame_set_core _ _) rfl ?_
  exact Frame.refl _ _

/-- Changes at most core. -/
theorem frame_modCpu : ∀ (c : Fin 5) (f : Cpu → Cpu) (s : State), Frame 1048576 s (modCpu c f s) := by
  intro c f s
  unfold modCpu
  refine Frame.step (frame_modCore _ _) rfl ?_
  exact Frame.refl _ _

/-- Changes at most reports, heads, evt, hurdle, time, tally, core, mem, dwin, pert. -/
theorem frame_stopShepherd : ∀ (reload : Reload) (s : State), Frame 28770580 s (stopShepherd reload s) := by
  intro reload s
  unfold stopShepherd
  extract_lets x1 x2 x3
  have h4 : Frame 28770580 s x1 := by
    subst x1
    refine Frame.step (frame_discardFresh _ _) rfl ?_
    exact Frame.refl _ _
  clear_value x1
  have h5 : Frame 28770580 s x2 := by
    subst x2
    refine Frame.step (frame_modCpu _ _ _) rfl ?_
    assumption
  clear_value x2
  have h6 : Frame 28770580 s x3 := by
    subst x3
    refine Frame.step (frame_modCore _ _) rfl ?_
    assumption
  clear_value x3
  refine Frame.step (frame_loseWins _ _ _) rfl ?_
  assumption

/-- Changes at most reports, heads, evt, hurdle, time, tally, core, mem, dwin, pert. -/
theorem frame_beginRestart : ∀ (s : State), Frame 28770580 s (beginRestart s) := by
  intro s
  unfold beginRestart
  extract_lets x1 x2 x3
  have h4 : Frame 28770580 s x1 := by
    subst x1
    refine Frame.step (frame_stopShepherd _ _) rfl ?_
    exact Frame.refl _ _
  clear_value x1
  have h5 : Frame 28770580 s x2 := by
    subst x2
    refine Frame.step (frame_modCore _ _) rfl ?_
    assumption
  clear_value x2
  clear_value x3
  refine Frame.ite ?_ ?_
  · refine Frame.step (frame_logEv _ _ _ _ _) rfl ?_
    refine Frame.step (frame_modCore _ _) rfl ?_
    assumption
  · assumption

/-- Changes at most mem. -/
theorem frame_clearLocal : ∀ (core : Nat) (s : State), Frame 2097152 s (clearLocal core s) := by
  intro core s
  unfold clearLocal
  refine Frame.step (frame_reloadSpan _ _ _ _) rfl ?_
  exact Frame.refl _ _

/-- Changes at most reports, heads, evt, hurdle, time, tally, core, mem, dwin, pert. -/
theorem frame_keeperFault : ∀ (cause addr : Nat) (s : State), Frame 28770580 s (keeperFault cause addr s) := by
  intro cause addr s
  unfold keeperFault
  refine Frame.step (frame_beginRestart _) rfl ?_
  refine Frame.step (frame_logEv _ _ _ _ _) rfl ?_
  exact Frame.refl _ _

/-- Changes at most evt, core, mem. -/
theorem frame_enterReset : ∀ (s : State), Frame 3145984 s (enterReset s) := by
  intro s
  unfold enterReset
  extract_lets x1 x2 x3 x4
  have h5 : Frame 3145984 s x1 := by
    subst x1
    refine Frame.step (frame_clearLocal _ _) rfl ?_
    refine Frame.step (frame_loadProgram _ _ _) rfl ?_
    exact Frame.refl _ _
  clear_value x1
  have h6 : Frame 3145984 s x2 := by
    subst x2
    refine Frame.step (frame_modCpu _ _ _) rfl ?_
    assumption
  clear_value x2
  clear_value x3
  clear_value x4
  refine Frame.step (frame_set_evt_core _ _ _) rfl ?_
  assumption

/-- Changes at most heads, evt, tally, core, mem. -/
theorem frame_finishReload : ∀ (t : Nat) (verified : Bool) (s : State), Frame 3408144 s (finishReload t verified s) := by
  intro t verified s
  unfold finishReload
  extract_lets x1 x2
  clear_value x1
  have h3 : Frame 3408144 s x2 := by
    subst x2
    refine Frame.step (frame_enterReset _) rfl ?_
    exact Frame.refl _ _
  clear_value x2
  refine Frame.ite ?_ ?_
  · refine Frame.step (frame_modCore _ _) rfl ?_
    exact Frame.refl _ _
  · refine Frame.ite ?_ ?_
    · refine Frame.step (frame_logEv _ _ _ _ _) rfl ?_
      assumption
    · assumption

/-- Changes at most heads, evt, hurdle, tally. -/
theorem frame_swapOutputs : ∀ (old new : Image) (s : State), Frame 327952 s (swapOutputs old new s) := by
  intro old new s
  unfold swapOutputs
  extract_lets x1 x2
  have h3 : Frame 327952 s x1 := by
    subst x1
    refine Frame.foldl (fun x4 k5 h6 => ?_) ?_
    · refine Frame.ite ?_ ?_
      · assumption
      · refine Frame.step (frame_endEscalation _ _ _) rfl ?_
        assumption
    · exact Frame.refl _ _
  clear_value x1
  clear_value x2
  refine Frame.step (frame_mapOuts _ _) rfl ?_
  assumption

/-- Changes what its operand changes. -/
theorem frame_onHsDies : ∀ {M : Nat} {s0 : State} (dies : Vector Bool 5) (f : Fin 96 → State → State) (s : State), (Frame M s0 s) → (∀ k x, Frame M s0 x → Frame M s0 (f k x)) → Frame M s0 (onHsDies dies f s) := by
  intro M s0 dies f s h hf
  exact Frame.foldl (fun x k hx => Frame.ite (hf _ _ hx) hx) h

/-- Changes at most hsw. -/
theorem frame_formGroup : ∀ (old new : Image) (k : Fin 96) (s : State), Frame 4096 s (formGroup old new k s) := by
  intro old new k s
  unfold formGroup
  extract_lets x1 x2 x3 x4 x5
  clear_value x1
  clear_value x3
  clear_value x4
  clear_value x5
  refine Frame.ite ?_ ?_
  · refine Frame.ite ?_ ?_
    · refine Frame.foldl (fun x6 k7 h8 => ?_) ?_
      · refine Frame.step (frame_modHs _ _ _) rfl ?_
        assumption
      · exact Frame.refl _ _
    · refine Frame.foldl (fun x9 k10 h11 => ?_) ?_
      · refine Frame.step (frame_modHs _ _ _) rfl ?_
        assumption
      · exact Frame.refl _ _
  · exact Frame.refl _ _

/-- Changes at most heads, evt, hsw, tally. -/
theorem frame_swapHs : ∀ (old new : Image) (k : Fin 96) (s : State), Frame 266512 s (swapHs old new k s) := by
  intro old new k s
  unfold swapHs
  refine Frame.ite ?_ ?_
  · exact Frame.refl _ _
  · extract_lets x1 x2 x3
    clear_value x1
    have h4 : Frame 266512 s x2 := by
      subst x2
      refine Frame.step (frame_modHs _ _ _) rfl ?_
      exact Frame.refl _ _
    clear_value x2
    have h5 : Frame 266512 s x3 := by
      subst x3
      refine Frame.ite ?_ ?_
      · refine Frame.step (frame_logEv _ _ _ _ _) rfl ?_
        assumption
      · assumption
    clear_value x3
    refine Frame.ite ?_ ?_
    · refine Frame.step (frame_logEv _ _ _ _ _) rfl ?_
      assumption
    · assumption

/-- Changes at most heads, evt, sol, tally. -/
theorem frame_swapSol : ∀ (old new : Image) (k : Fin 16) (s : State), Frame 270608 s (swapSol old new k s) := by
  intro old new k s
  unfold swapSol
  refine Frame.ite ?_ ?_
  · exact Frame.refl _ _
  · refine Frame.step (frame_modSol _ _ _) rfl ?_
    refine Frame.step (frame_solAbort _ _) rfl ?_
    exact Frame.refl _ _

/-- Changes at most heads, evt, hsw, sol, led, din, tally. -/
theorem frame_swapDies : ∀ (dies : Vector Bool 5) (old new : Image) (s : State), Frame 323856 s (swapDies dies old new s) := by
  intro dies old new s
  unfold swapDies
  extract_lets x1 x2 x3 x4 x5 x6 x7
  have h8 : Frame 323856 s x1 := by
    subst x1
    refine frame_onHsDies _ _ _ ?_ ?_
    · refine frame_onHsDies _ _ _ ?_ ?_
      · exact Frame.refl _ _
      · intro x9 x10 x11
        refine Frame.step (frame_swapHs _ _ _ _) rfl ?_
        assumption
    · intro x12 x13 x14
      refine Frame.step (frame_formGroup _ _ _ _) rfl ?_
      assumption
  clear_value x1
  clear_value x2
  clear_value x3
  have h15 : Frame 323856 s x4 := by
    subst x4
    refine Frame.step (frame_set_hsw _ _) rfl ?_
    assumption
  clear_value x4
  have h16 : Frame 323856 s x5 := by
    subst x5
    refine Frame.foldl (fun x17 k18 h19 => ?_) ?_
    · refine Frame.step (frame_swapSol _ _ _ _) rfl ?_
      assumption
    · assumption
  clear_value x5
  clear_value x6
  clear_value x7
  refine Frame.ite ?_ ?_
  · refine Frame.step (frame_set_led_din _ _ _) rfl ?_
    assumption
  · assumption

/-- Changes at most heads, evt, strct, cfg, hsw, sol, led, din, tally. -/
theorem frame_lateSwap : ∀ (s : State), Frame 326928 s (lateSwap s) := by
  intro s
  unfold lateSwap
  split
  · exact Frame.refl _ _
  · extract_lets x1 x2 x3 x4
    clear_value x1
    clear_value x2
    clear_value x3
    clear_value x4
    refine Frame.step (frame_swapDies _ _ _ _) rfl ?_
    refine Frame.step (frame_set_strct_cfg _ _ _) rfl ?_
    exact Frame.refl _ _

end Sys2Proof.Machine
end

