-- ==== Sys2Proof/Laws/Frames/StructureOps.lean ====
section
/-! SUPPORT. Frames of the operations of Machine/Structure, DwinRegs. -/

namespace Sys2Proof.Machine

set_option maxRecDepth 10000

/-- Changes at most strct. -/
theorem frame_modStruct : ∀ (f : StructBlk → StructBlk) (s : State), Frame 1024 s (modStruct f s) := by
  intro f s
  unfold modStruct
  refine Frame.step (frame_set_strct _ _) rfl ?_
  exact Frame.refl _ _

/-- Changes at most freeCount, heads, evt, tally. -/
theorem frame_refuseImage : ∀ (k : Nat) (s : State), Frame 262418 s (refuseImage k s) := by
  intro k s
  unfold refuseImage
  refine Frame.ite ?_ ?_
  · exact Frame.refl _ _
  · refine Frame.ite ?_ ?_
    · refine Frame.step (frame_refuseBlock _ _ _) rfl ?_
      exact Frame.refl _ _
    · refine Frame.ite ?_ ?_
      · refine Frame.step (frame_refuseBlock _ _ _) rfl ?_
        exact Frame.refl _ _
      · exact Frame.refl _ _

/-- Changes at most freeCount, heads, evt, tally. -/
theorem frame_rejectEntries : ∀ (slot : Bool) (reason : Nat) (s : State), Frame 262418 s (rejectEntries slot reason s) := by
  intro slot reason s
  unfold rejectEntries
  extract_lets x1 x2
  clear_value x1
  have h3 : Frame 262418 s x2 := by
    subst x2
    refine Frame.ite ?_ ?_
    · refine Frame.step (frame_refuseImage _ _) rfl ?_
      exact Frame.refl _ _
    · exact Frame.refl _ _
  clear_value x2
  refine Frame.step (frame_setIrq _ _ _) rfl ?_
  refine Frame.step (frame_logEv _ _ _ _ _) rfl ?_
  assumption

/-- Changes at most freeCount, heads, evt, strct, tally. -/
theorem frame_loadShadow : ∀ (slot : Bool) (s : State), Frame 263442 s (loadShadow slot s) := by
  intro slot s
  unfold loadShadow
  extract_lets x1 x2 x3
  clear_value x1
  clear_value x2
  have h4 : Frame 263442 s x3 := by
    subst x3
    refine Frame.step (frame_modStruct _ _) rfl ?_
    exact Frame.refl _ _
  clear_value x3
  refine Frame.ite ?_ ?_
  · refine Frame.step (frame_modStruct _ _) rfl ?_
    assumption
  · refine Frame.step (frame_rejectEntries _ _ _) rfl ?_
    refine Frame.step (frame_modStruct _ _) rfl ?_
    assumption

/-- Changes at most heads, evt, strct, tally. -/
theorem frame_swapAbort : ∀ (cause : Nat) (s : State), Frame 263440 s (swapAbort cause s) := by
  intro cause s
  unfold swapAbort
  refine Frame.step (frame_setIrq _ _ _) rfl ?_
  refine Frame.step (frame_logEv _ _ _ _ _) rfl ?_
  refine Frame.step (frame_modStruct _ _) rfl ?_
  exact Frame.refl _ _

/-- Changes at most freeCount, heads, evt, strct, tally. -/
theorem frame_structLoad : ∀ (v : Word) (s : State), Frame 263442 s (structLoad v s) := by
  intro v s
  unfold structLoad
  refine Frame.ite ?_ ?_
  · refine Frame.step (frame_setErr _ _ _) rfl ?_
    exact Frame.refl _ _
  · extract_lets x1
    have h2 : Frame 263442 s x1 := by
      subst x1
      refine Frame.step (frame_modStruct _ _) rfl ?_
      exact Frame.refl _ _
    clear_value x1
    refine Frame.ite ?_ ?_
    · refine Frame.ite ?_ ?_
      · refine Frame.step (frame_setErr _ _ _) rfl ?_
        assumption
      · refine Frame.step (frame_loadShadow _ _) rfl ?_
        assumption
    · refine Frame.ite ?_ ?_
      · refine Frame.step (frame_swapAbort _ _) rfl ?_
        assumption
      · assumption

/-- Changes at most freeCount, heads, sys, evt, strct, time, tally. -/
theorem frame_structLoadWrite : ∀ (rq : Requester) (v : Word) (s : State), Frame 394642 s (structLoadWrite rq v s) := by
  intro rq v s
  unfold structLoadWrite
  refine frame_wrIf _ _ _ _ _ _ _ rfl ?_ ?_
  · exact Frame.refl _ _
  · intro x1 x2
    refine Frame.step (frame_structLoad _ _) rfl ?_
    assumption

/-- Changes at most strct. -/
theorem frame_schedule : ∀ (target : Nat) (s : State), Frame 1024 s (schedule target s) := by
  intro target s
  unfold schedule
  refine Frame.step (frame_modStruct _ _) rfl ?_
  exact Frame.refl _ _

/-- Changes at most strct. -/
theorem frame_armAtStart : ∀ (s : State), Frame 1024 s (armAtStart s) := by
  intro s
  unfold armAtStart
  split
  · refine Frame.ite ?_ ?_
    · refine Frame.step (frame_schedule _ _) rfl ?_
      exact Frame.refl _ _
    · exact Frame.refl _ _
  · exact Frame.refl _ _

/-- Changes at most heads, strct. -/
theorem frame_armSwap : ∀ (v : DWord) (s : State), Frame 1040 s (armSwap v s) := by
  intro v s
  unfold armSwap
  refine Frame.ite ?_ ?_
  · refine Frame.step (frame_armAtStart _) rfl ?_
    exact Frame.refl _ _
  · extract_lets x1
    clear_value x1
    split
    · refine Frame.step (frame_setErr _ _ _) rfl ?_
      exact Frame.refl _ _
    · refine Frame.step (frame_schedule _ _) rfl ?_
      exact Frame.refl _ _

/-- Changes at most heads, held, sys, evt, strct, time. -/
theorem frame_doSwapatArm : ∀ (rq : Requester) (hi : Word) (s : State), Frame 132560 s (doSwapatArm rq hi s) := by
  intro rq hi s
  unfold doSwapatArm
  refine Frame.ite ?_ ?_
  · refine Frame.step (frame_setErr _ _ _) rfl ?_
    exact Frame.refl _ _
  · split
    · refine Frame.step (frame_reservedWrite _ _ _) rfl ?_
      exact Frame.refl _ _
    · refine Frame.step (frame_armSwap _ _) rfl ?_
      refine Frame.step (frame_modStruct _ _) rfl ?_
      refine Frame.step (frame_dropHeld _ _) rfl ?_
      exact Frame.refl _ _

/-- Changes at most upd. -/
theorem frame_modUpd : ∀ (f : UpdBlk → UpdBlk) (s : State), Frame 1073741824 s (modUpd f s) := by
  intro f s
  unfold modUpd
  refine Frame.step (frame_set_upd _ _) rfl ?_
  exact Frame.refl _ _

/-- Changes at most heads, evt, hurdle, tally. -/
theorem frame_lagging : ∀ (missed : Vector Bool 5) (s : State), Frame 327952 s (lagging missed s) := by
  intro missed s
  unfold lagging
  extract_lets x1 x2
  have h3 : Frame 327952 s x1 := by
    subst x1
    refine Frame.foldl (fun x4 k5 h6 => ?_) ?_
    · refine Frame.ite ?_ ?_
      · refine Frame.step (frame_logEv _ _ _ _ _) rfl ?_
        assumption
      · assumption
    · exact Frame.refl _ _
  clear_value x1
  clear_value x2
  refine Frame.step (frame_set_hurdle _ _) rfl ?_
  assumption

/-- Changes at most heads, sys, evt, strct, cfg, hsw, sol, led, din, hurdle, time, tally, mbus, aud, acc. -/
theorem frame_swapImage : ∀ (lag : Vector Bool 5) (old new : Image) (s : State), Frame 470285712 s (swapImage lag old new s) := by
  intro lag old new s
  unfold swapImage
  extract_lets x1 x2 x3
  clear_value x1
  have h4 : Frame 470285712 s x2 := by
    subst x2
    refine Frame.step (frame_swapOutputs _ _ _) rfl ?_
    refine Frame.step (frame_accSwap _ _ _) rfl ?_
    exact Frame.refl _ _
  clear_value x2
  clear_value x3
  refine Frame.step (frame_mbusSwap _ _ _) rfl ?_
  refine Frame.step (frame_audioSwap _ _ _) rfl ?_
  refine Frame.step (frame_swapDies _ _ _ _) rfl ?_
  refine Frame.step (frame_set_strct_cfg _ _ _) rfl ?_
  assumption

/-- Changes at most tick, strct, cfg, led, mem, que. -/
theorem frame_startImage : ∀ (g : Image) (s : State), Frame 6311424 s (startImage g s) := by
  intro g s
  unfold startImage
  extract_lets x1 x2 x3 x4
  clear_value x1
  clear_value x2
  clear_value x3
  have h5 : Frame 6311424 s x4 := by
    subst x4
    refine Frame.step (frame_set_tick_strct_cfg_led _ _ _ _ _) rfl ?_
    exact Frame.refl _ _
  clear_value x4
  refine Frame.ite ?_ ?_
  · assumption
  · refine Frame.step (frame_queStart _ _) rfl ?_
    refine Frame.step (frame_modMem _ _ (fun m hm => ⟨hm.1, hm.2⟩)) rfl ?_
    assumption

/-- Changes at most tick, core, upd. -/
theorem frame_matchProgram : ∀ (s : State) (k : Fin 4), Frame 1074790912 s (matchProgram s k) := by
  intro s k
  unfold matchProgram
  refine Frame.ite ?_ ?_
  · exact Frame.refl _ _
  · refine Frame.ite ?_ ?_
    · refine Frame.step (frame_modUpd _ _) rfl ?_
      exact Frame.refl _ _
    · refine Frame.step (frame_modCpu _ _ _) rfl ?_
      refine Frame.step (frame_setTc _ _ _) rfl ?_
      refine Frame.step (frame_modUpd _ _) rfl ?_
      exact Frame.refl _ _

/-- Leaves pending, freeCount, reports, rdata, latches, held, fab, dwin, pert, key, pwr as it was. -/
theorem frame_exchange : ∀ (lag : Vector Bool 5) (new : Image) (s : State), Frame 1551368080 s (exchange lag new s) := by
  intro lag new s
  unfold exchange
  extract_lets x1 x2 x3 x4 x5 x6
  clear_value x1
  clear_value x2
  clear_value x3
  have h7 : Frame 1551368080 s x4 := by
    subst x4
    refine Frame.ite ?_ ?_
    · refine Frame.step (frame_swapImage _ _ _ _) rfl ?_
      exact Frame.refl _ _
    · refine Frame.step (frame_startImage _ _) rfl ?_
      exact Frame.refl _ _
  clear_value x4
  have h8 : Frame 1551368080 s x5 := by
    subst x5
    refine Frame.step (frame_modStruct _ _) rfl ?_
    assumption
  clear_value x5
  have h9 : Frame 1551368080 s x6 := by
    subst x6
    refine Frame.foldl (fun x10 k11 h12 => ?_) ?_
    · refine Frame.step (frame_matchProgram _ _) rfl ?_
      assumption
    · assumption
  clear_value x6
  refine Frame.step (frame_setIrq _ _ _) rfl ?_
  refine Frame.step (frame_logEv _ _ _ _ _) rfl ?_
  assumption

/-- Changes at most freeCount, heads, evt, strct, tally, key. -/
theorem frame_doShadowReady : ∀ (s : State), Frame 33817874 s (doShadowReady s) := by
  intro s
  unfold doShadowReady
  split
  · refine Frame.step (frame_keyBegin _) rfl ?_
    refine Frame.step (frame_setIrq _ _ _) rfl ?_
    refine Frame.step (frame_logEv _ _ _ _ _) rfl ?_
    refine Frame.step (frame_modStruct _ _) rfl ?_
    exact Frame.refl _ _
  · exact Frame.refl _ _

/-- Changes at most heads, evt, strct, tally. -/
theorem frame_doShadowAckTimeout : ∀ (s : State), Frame 263440 s (doShadowAckTimeout s) := by
  intro s
  unfold doShadowAckTimeout
  refine Frame.ite ?_ ?_
  · refine Frame.step (frame_setIrq _ _ _) rfl ?_
    refine Frame.step (frame_logEv _ _ _ _ _) rfl ?_
    refine Frame.step (frame_modStruct _ _) rfl ?_
    exact Frame.refl _ _
  · exact Frame.refl _ _

/-- Changes at most freeCount, heads, sys, evt, strct, time, tally. -/
theorem frame_doStructCancel : ∀ (rq : Requester) (s : State), Frame 394642 s (doStructCancel rq s) := by
  intro rq s
  unfold doStructCancel
  refine Frame.step (frame_structLoadWrite _ _ _) rfl ?_
  exact Frame.refl _ _

/-- Changes at most freeCount, heads, sys, evt, strct, time, tally. -/
theorem frame_doStructLoadGo : ∀ (rq : Requester) (slot : Bool) (s : State), Frame 394642 s (doStructLoadGo rq slot s) := by
  intro rq slot s
  unfold doStructLoadGo
  refine Frame.step (frame_structLoadWrite _ _ _) rfl ?_
  exact Frame.refl _ _

/-- Leaves pending, freeCount, reports, rdata, latches, held, fab, dwin, pert, key, pwr as it was. -/
theorem frame_doSwap : ∀ (s : State), Frame 1551368080 s (doSwap s) := by
  intro s
  unfold doSwap
  split
  · exact Frame.refl _ _
  · refine Frame.ite ?_ ?_
    · refine Frame.step (frame_lagging _ _) rfl ?_
      refine Frame.step (frame_exchange _ _ _) rfl ?_
      refine Frame.step (frame_lateSwap _) rfl ?_
      exact Frame.refl _ _
    · refine Frame.ite ?_ ?_
      · refine Frame.step (frame_exchange _ _ _) rfl ?_
        refine Frame.step (frame_passTo _ _ _) rfl ?_
        exact Frame.refl _ _
      · exact Frame.refl _ _

/-- Changes at most freeCount, heads, evt, strct, tally, key, upd. -/
theorem frame_tamperImage : ∀ (s : State), Frame 1107559698 s (tamperImage s) := by
  intro s
  unfold tamperImage
  refine Frame.ite ?_ ?_
  · exact Frame.refl _ _
  · refine Frame.ite ?_ ?_
    · extract_lets x1 x2 x3 x4
      clear_value x1
      have h5 : Frame 1107559698 s x2 := by
        subst x2
        refine Frame.step (frame_markSlot _ _) rfl ?_
        refine Frame.step (frame_tickFree _) rfl ?_
        exact Frame.refl _ _
      clear_value x2
      have h6 : Frame 1107559698 s x3 := by
        subst x3
        refine Frame.step (frame_logEv _ _ _ _ _) rfl ?_
        assumption
      clear_value x3
      have h7 : Frame 1107559698 s x4 := by
        subst x4
        refine Frame.step (frame_modUpd _ _) rfl ?_
        assumption
      clear_value x4
      refine Frame.step (frame_rejectEntries _ _ _) rfl ?_
      refine Frame.step (frame_modStruct _ _) rfl ?_
      assumption
    · refine Frame.step (frame_tickFree _) rfl ?_
      exact Frame.refl _ _

/-- Changes at most reports, heads, evt, time, tally, mem, dwin, pert. -/
theorem frame_dwinRead : ∀ (rq : Requester) (peer off : Nat) (s : State), Frame 27656468 s (dwinRead rq peer off s).2.2 := by
  intro rq peer off s
  unfold dwinRead
  have hb : Frame 27656468 s (burstsNow s) := (frame_burstsNow s).mono rfl
  dsimp only
  generalize burstsNow s = t at hb ⊢
  by_cases h1 : off = 0x008
  · rw [if_pos h1]; exact hb
  rw [if_neg h1]
  by_cases h2 : off = 0x020
  · rw [if_pos h2]; exact hb
  rw [if_neg h2]
  by_cases h3 : off = 0x024
  · rw [if_pos h3]; exact hb
  rw [if_neg h3]
  by_cases h4 : off < 0x018
  · rw [if_pos h4]; exact hb
  rw [if_neg h4]
  by_cases h5 : 0x1000 ≤ off ∧ off < 0x1100
  · rw [dif_pos h5]
    generalize off % 0x40 = k
    split
    all_goals first | exact hb | exact Frame.step (frame_winDataRead _ _ _ _) rfl hb
  · rw [dif_neg h5]; exact hb

/-- Changes what its operand changes, and heads, sys, evt, time. -/
theorem frame_plainWrite : ∀ {M : Nat} {s0 : State} (ok : Bool) (rsv : Word) (rq : Requester) (off : Nat) (v : Word) (f : State → State) (s : State), (131472 ||| M = M) → (Frame M s0 s) → (∀ x, Frame M s0 x → Frame M s0 (f x)) → Frame M s0 (plainWrite ok rsv rq off v f s).2 := by
  intro M s0 ok rsv rq off v f s hM h hf
  exact frame_wr _ _ _ _ _ _ _ _ hM h hf

/-- Changes at most reports, heads, sys, evt, time, tally, mem, dwin, pert. -/
theorem frame_winWrite : ∀ (rq : Requester) (peer : Nat) (n : Fin 4) (off : Nat) (v : Word) (s : State),
  Frame 27656596 s (Prod.snd (winWrite rq peer n off v s)) := by
  intro rq peer n off v s
  unfold winWrite
  extract_lets x1 x2 x3 x4
  clear_value x1
  clear_value x2
  have h5 : Frame 27656596 s x3 := by
    subst x3
    refine Frame.step (frame_reservedWrite _ _ _) rfl ?_
    exact Frame.refl _ _
  clear_value x3
  split
  · refine Frame.step (frame_winCtrl _ _ _ _ _) rfl ?_
    exact Frame.refl _ _
  · split
    · exact Frame.refl _ _
    · dsimp only
      refine Frame.step (frame_reservedWrite _ _ _) rfl ?_
      exact Frame.refl _ _
  · dsimp only [x4]
    split
    · refine Frame.step (frame_winAddrWrite _ _ _ _ _) rfl ?_
      exact Frame.refl _ _
    · dsimp only
      refine Frame.ite ?_ ?_
      · assumption
      · refine Frame.step (frame_setErr _ _ _) rfl ?_
        assumption
  · dsimp only [x4]
    split
    · refine Frame.step (frame_winCfgWrite _ _ _ _ _) rfl ?_
      exact Frame.refl _ _
    · dsimp only
      refine Frame.ite ?_ ?_
      · assumption
      · refine Frame.step (frame_setErr _ _ _) rfl ?_
        assumption
  · refine Frame.step (frame_winDataWrite _ _ _ _ _) rfl ?_
    exact Frame.refl _ _
  · split
    · dsimp only
      refine Frame.ite ?_ ?_
      · assumption
      · refine Frame.step (frame_setErr _ _ _) rfl ?_
        assumption
    · refine Frame.step (frame_winAuthWrite _ _ _ _) rfl ?_
      exact Frame.refl _ _
  · refine frame_plainWrite _ _ _ _ _ _ _ rfl ?_ ?_
    · exact Frame.refl _ _
    · intro x6 x7
      refine frame_storeCount _ _ _ _ _ _ rfl ?_ ?_
      · assumption
      · intro x8 x9 x10
        refine Frame.step (frame_modW _ _ _) rfl ?_
        assumption
  · refine frame_plainWrite _ _ _ _ _ _ _ rfl ?_ ?_
    · exact Frame.refl _ _
    · intro x11 x12
      refine frame_storeCount _ _ _ _ _ _ rfl ?_ ?_
      · assumption
      · intro x13 x14 x15
        refine Frame.step (frame_modW _ _ _) rfl ?_
        assumption
  · dsimp only
    refine Frame.step (frame_reservedWrite _ _ _) rfl ?_
    exact Frame.refl _ _

/-- Changes at most reports, heads, sys, evt, time, tally, mem, dwin, pert. -/
theorem frame_dwinWrite : ∀ (rq : Requester) (peer off : Nat) (v : Word) (s : State), Frame 27656596 s (Prod.snd (dwinWrite rq peer off v s)) := by
  intro rq peer off v s
  unfold dwinWrite
  extract_lets x1 x2
  have h3 : Frame 27656596 s x1 := by
    subst x1
    refine Frame.step (frame_inTurn _ _ _ _) rfl ?_
    refine Frame.step (frame_burstsNow _) rfl ?_
    exact Frame.refl _ _
  clear_value x1
  clear_value x2
  split
  · refine Frame.step (frame_winWrite _ _ _ _ _ _) rfl ?_
    assumption
  · split
    · refine frame_plainWrite _ _ _ _ _ _ _ rfl ?_ ?_
      · assumption
      · intro x4 x5
        unfold id
        assumption
    · refine frame_plainWrite _ _ _ _ _ _ _ rfl ?_ ?_
      · assumption
      · intro x6 x7
        unfold id
        assumption
    · refine frame_plainWrite _ _ _ _ _ _ _ rfl ?_ ?_
      · assumption
      · intro x8 x9
        refine Frame.step (frame_set_dwin _ _) rfl ?_
        assumption
    · refine frame_plainWrite _ _ _ _ _ _ _ rfl ?_ ?_
      · assumption
      · intro x10 x11
        refine frame_storeCount _ _ _ _ _ _ rfl ?_ ?_
        · assumption
        · intro x12 x13 x14
          refine Frame.step (frame_set_dwin _ _) rfl ?_
          assumption
    · split
      · dsimp only
        refine Frame.step (frame_headWrite _ _ _ _ _ _) rfl ?_
        assumption
      · dsimp only
        refine Frame.step (frame_reservedWrite _ _ _) rfl ?_
        assumption

end Sys2Proof.Machine
end

