-- ==== Sys2Proof/Laws/Frames/FabricOps.lean ====
section
/-! SUPPORT. Frames of the operations of Machine/Fabric. -/

namespace Sys2Proof.Machine

set_option maxRecDepth 10000

/-- Changes at most fab. -/
theorem frame_modFab : ∀ (f : FabBlk → FabBlk) (s : State), Frame 524288 s (modFab f s) := by
  intro f s
  unfold modFab
  refine Frame.step (frame_set_fab _ _) rfl ?_
  exact Frame.refl _ _

/-- Changes at most fab. -/
theorem frame_modRa : ∀ (c : Fin 4) (f : RaChan → RaChan) (s : State), Frame 524288 s (modRa c f s) := by
  intro c f s
  unfold modRa
  refine Frame.step (frame_modFab _ _) rfl ?_
  exact Frame.refl _ _

/-- Changes at most reports, heads, evt, time, tally, fab, mem, dwin, pert, pwr. -/
theorem frame_musterBegin : ∀ (s : State), Frame 565051668 s (musterBegin s) := by
  intro s
  unfold musterBegin
  extract_lets x1 x2 x3
  have h4 : Frame 565051668 s x1 := by
    subst x1
    refine Frame.foldl (fun x5 k6 h7 => ?_) ?_
    · refine Frame.ite ?_ ?_
      · refine Frame.step (frame_setIrq _ _ _) rfl ?_
        refine Frame.step (frame_txnFree _) rfl ?_
        refine Frame.step (frame_modRa _ _ _) rfl ?_
        assumption
      · assumption
    · exact Frame.refl _ _
  clear_value x1
  have h8 : Frame 565051668 s x2 := by
    subst x2
    refine Frame.step (frame_loseWins _ _ _) rfl ?_
    assumption
  clear_value x2
  clear_value x3
  refine Frame.step (frame_set_pwr _ _) rfl ?_
  assumption

/-- Changes at most reports, heads, evt, time, tally, fab, mem, dwin, pert, pwr. -/
theorem frame_enterMuster : ∀ (gen : Half) (self : Bool) (cause : Nat) (s : State), Frame 565051668 s (enterMuster gen self cause s) := by
  intro gen self cause s
  unfold enterMuster
  extract_lets x1 x2
  have h3 : Frame 565051668 s x1 := by
    subst x1
    refine Frame.step (frame_musterBegin _) rfl ?_
    exact Frame.refl _ _
  clear_value x1
  have h4 : Frame 565051668 s x2 := by
    subst x2
    refine Frame.step (frame_modFab _ _) rfl ?_
    assumption
  clear_value x2
  refine Frame.step (frame_logEv _ _ _ _ _) rfl ?_
  assumption

/-- Changes at most fab. -/
theorem frame_noteFrame : ∀ (f : List Byte) (s : State), Frame 524288 s (noteFrame f s) := by
  intro f s
  unfold noteFrame
  refine Frame.ite ?_ ?_
  · refine Frame.step (frame_modFab _ _) rfl ?_
    exact Frame.refl _ _
  · exact Frame.refl _ _

/-- Changes at most fab. -/
theorem frame_modPort : ∀ (p : Fin 2) (f : PortState → PortState) (s : State), Frame 524288 s (modPort p f s) := by
  intro p f s
  unfold modPort
  refine Frame.step (frame_modFab _ _) rfl ?_
  exact Frame.refl _ _

/-- Changes at most heads, fab. -/
theorem frame_bumpPort : ∀ (p : Fin 2) (off lo : Nat) (f : PortState → PortState) (s : State), Frame 524304 s (bumpPort p off lo f s) := by
  intro p off lo f s
  unfold bumpPort
  refine Frame.step (frame_bump _ _ _ _ _) rfl ?_
  refine Frame.step (frame_modPort _ _ _) rfl ?_
  exact Frame.refl _ _

/-- Changes at most reports, heads, evt, tally, fab, dwin. -/
theorem frame_storeFrame : ∀ (p : Fin 2) (o : OutFrame) (s : State), Frame 9175316 s (storeFrame p o s) := by
  intro p o s
  unfold storeFrame
  extract_lets x1 x2 x3
  clear_value x1
  have h4 : Frame 9175316 s x2 := by
    subst x2
    refine Frame.step (frame_bumpPort _ _ _ _ _) rfl ?_
    exact Frame.refl _ _
  clear_value x2
  have h5 : Frame 9175316 s x3 := by
    subst x3
    refine frame_limited _ _ _ rfl ?_ ?_
    · assumption
    · intro x6 x7
      refine Frame.step (frame_logEv _ _ _ _ _) rfl ?_
      assumption
  clear_value x3
  refine Frame.ite ?_ ?_
  · refine Frame.step (frame_modPort _ _ _) rfl ?_
    exact Frame.refl _ _
  · refine Frame.ite ?_ ?_
    · refine Frame.step (frame_txnFree _) rfl ?_
      assumption
    · assumption

/-- Changes at most heads, evt, tally, fab, pert. -/
theorem frame_wire : ∀ (p : Fin 2) (stomp : Bool) (f : List Byte) (s : State), Frame 17563920 s (wire p stomp f s) := by
  intro p stomp f s
  unfold wire
  extract_lets x1 x2
  clear_value x1
  have h3 : Frame 17563920 s x2 := by
    subst x2
    refine Frame.step (frame_pertHit _ _ _) rfl ?_
    exact Frame.refl _ _
  clear_value x2
  refine Frame.step (frame_modPort _ _ _) rfl ?_
  assumption

/-- Changes at most reports, heads, evt, tally, fab, dwin, pert. -/
theorem frame_sendOn : ∀ (ps : List (Fin 2)) (best txn : Bool) (dst kind : Nat) (gen : Half) (payload : List Byte) (s : State),
  Frame 25952532 s (sendOn ps best txn dst kind gen payload s) := by
  intro ps best txn dst kind gen payload s
  unfold sendOn
  refine Frame.ite ?_ ?_
  · extract_lets x1 x2
    clear_value x1
    have h3 : Frame 25952532 s x2 := by
      subst x2
      refine Frame.step (frame_noteFrame _ _) rfl ?_
      refine Frame.step (frame_modFab _ _) rfl ?_
      exact Frame.refl _ _
    clear_value x2
    refine Frame.foldl (fun x4 k5 h6 => ?_) ?_
    · refine Frame.ite ?_ ?_
      · refine Frame.step (frame_storeFrame _ _ _) rfl ?_
        assumption
      · refine Frame.step (frame_wire _ _ _ _) rfl ?_
        assumption
    · assumption
  · exact Frame.refl _ _

/-- Changes at most reports, heads, evt, time, tally, fab, mem, dwin, pert, pwr. -/
theorem frame_startMuster : ∀ (cause : Nat) (s : State), Frame 565051668 s (startMuster cause s) := by
  intro cause s
  unfold startMuster
  extract_lets x1 x2 x3
  clear_value x1
  clear_value x2
  have h4 : Frame 565051668 s x3 := by
    subst x3
    refine Frame.step (frame_enterMuster _ _ _ _) rfl ?_
    exact Frame.refl _ _
  clear_value x3
  refine Frame.step (frame_sendOn _ _ _ _ _ _ _ _) rfl ?_
  assumption

/-- Changes at most reports, heads, sys, evt, time, tally, fab, mem, dwin, pert, pwr. -/
theorem frame_fabCtrlWrite : ∀ (rq : Requester) (v : Word) (s : State), Frame 565051796 s (fabCtrlWrite rq v s) := by
  intro rq v s
  unfold fabCtrlWrite
  refine frame_wrIf _ _ _ _ _ _ _ rfl ?_ ?_
  · exact Frame.refl _ _
  · intro x1 x2
    refine Frame.ite ?_ ?_
    · refine Frame.step (frame_startMuster _ _) rfl ?_
      assumption
    · assumption

/-- Changes at most heads, evt, fab. -/
theorem frame_raEnd : ∀ (c : Fin 4) (result : Nat) (s : State), Frame 524560 s (raEnd c result s) := by
  intro c result s
  unfold raEnd
  refine Frame.step (frame_setIrq _ _ _) rfl ?_
  refine Frame.step (frame_modRa _ _ _) rfl ?_
  exact Frame.refl _ _

/-- Changes at most reports, heads, evt, tally, fab, dwin, pert. -/
theorem frame_sendFrame : ∀ (best txn : Bool) (dst kind : Nat) (payload : List Byte) (s : State),
  Frame 25952532 s (sendFrame best txn dst kind payload s) := by
  intro best txn dst kind payload s
  unfold sendFrame
  refine Frame.step (frame_sendOn _ _ _ _ _ _ _ _) rfl ?_
  exact Frame.refl _ _

/-- Changes at most reports, heads, evt, time, tally, fab, mem, dwin, pert. -/
theorem frame_sendReq : ∀ (c : Fin 4) (s : State), Frame 28180756 s (sendReq c s) := by
  intro c s
  unfold sendReq
  extract_lets x1
  clear_value x1
  split
  · rename_i n2 n3 n4 n5
    have h6 : Frame 28180756 s n4 := by
      refine Frame.ofEq2 n5 ?_
      split
      · refine Frame.step (frame_eccSpan _ _ _ _) rfl ?_
        refine Frame.step (frame_burstsNow _) rfl ?_
        exact Frame.refl _ _
      · exact Frame.refl _ _
    extract_lets x7 x8
    clear_value x7
    have h9 : Frame 28180756 s x8 := by
      subst x8
      refine Frame.step (frame_modRa _ _ _) rfl ?_
      assumption
    clear_value x8
    refine Frame.ite ?_ ?_
    · refine Frame.step (frame_sendFrame _ _ _ _ _ _) rfl ?_
      assumption
    · assumption

/-- Changes at most reports, heads, evt, time, tally, fab, mem, dwin, pert. -/
theorem frame_raStart : ∀ (c : Fin 4) (s : State), Frame 28180756 s (raStart c s) := by
  intro c s
  unfold raStart
  extract_lets x1 x2
  clear_value x1
  have h3 : Frame 28180756 s x2 := by
    subst x2
    refine Frame.step (frame_modRa _ _ _) rfl ?_
    refine Frame.step (frame_txnTurn _ _) rfl ?_
    exact Frame.refl _ _
  clear_value x2
  refine Frame.ite ?_ ?_
  · refine Frame.step (frame_setErr _ _ _) rfl ?_
    exact Frame.refl _ _
  · refine Frame.ite ?_ ?_
    · refine Frame.step (frame_raEnd _ _ _) rfl ?_
      assumption
    · refine Frame.ite ?_ ?_
      · refine Frame.step (frame_raEnd _ _ _) rfl ?_
        assumption
      · refine Frame.ite ?_ ?_
        · refine Frame.step (frame_sendReq _ _) rfl ?_
          refine Frame.step (frame_txnTake _) rfl ?_
          assumption
        · refine Frame.step (frame_txnWait _ _) rfl ?_
          refine Frame.step (frame_modRa _ _ _) rfl ?_
          assumption

/-- Changes at most heads, evt, fab, dwin. -/
theorem frame_raStop : ∀ (c : Fin 4) (s : State), Frame 8913168 s (raStop c s) := by
  intro c s
  unfold raStop
  split
  · refine Frame.step (frame_raEnd _ _ _) rfl ?_
    refine Frame.step (frame_set_dwin _ _) rfl ?_
    exact Frame.refl _ _
  · refine Frame.step (frame_raEnd _ _ _) rfl ?_
    refine Frame.step (frame_txnFree _) rfl ?_
    exact Frame.refl _ _
  · exact Frame.refl _ _

/-- Changes at most reports, heads, sys, evt, time, tally, fab, mem, dwin, pert. -/
theorem frame_raCtrlWrite : ∀ (rq : Requester) (c : Fin 4) (v : Word) (s : State), Frame 28180884 s (raCtrlWrite rq c v s) := by
  intro rq c v s
  unfold raCtrlWrite
  refine frame_wrIf _ _ _ _ _ _ _ rfl ?_ ?_
  · exact Frame.refl _ _
  · intro x1 x2
    refine Frame.ite ?_ ?_
    · refine Frame.step (frame_raStart _ _) rfl ?_
      assumption
    · refine Frame.ite ?_ ?_
      · refine Frame.step (frame_raStop _ _) rfl ?_
        assumption
      · assumption

/-- Changes at most heads, fab. -/
theorem frame_countRx : ∀ (p : Fin 2) (s : State), Frame 524304 s (countRx p s) := by
  intro p s
  unfold countRx
  refine Frame.step (frame_bumpPort _ _ _ _ _) rfl ?_
  exact Frame.refl _ _

/-- Changes at most reports, heads, evt, tally. -/
theorem frame_portError : ∀ (p : Fin 2) (code sev : Nat) (payload : DWord) (s : State), Frame 262420 s (portError p code sev payload s) := by
  intro p code sev payload s
  unfold portError
  refine frame_limited _ _ _ rfl ?_ ?_
  · refine Frame.step (frame_setIrq _ _ _) rfl ?_
    exact Frame.refl _ _
  · intro x1 x2
    refine Frame.step (frame_logEv _ _ _ _ _) rfl ?_
    assumption

/-- Changes at most reports, heads, evt, tally, fab. -/
theorem frame_dropHeader : ∀ (p : Fin 2) (s : State), Frame 786708 s (dropHeader p s) := by
  intro p s
  unfold dropHeader
  extract_lets x1
  have h2 : Frame 786708 s x1 := by
    subst x1
    refine Frame.step (frame_bumpPort _ _ _ _ _) rfl ?_
    exact Frame.refl _ _
  clear_value x1
  refine Frame.step (frame_portError _ _ _ _ _) rfl ?_
  assumption

/-- Changes at most reports, heads, evt, tally, fab. -/
theorem frame_dropLong : ∀ (p : Fin 2) (s : State), Frame 786708 s (dropLong p s) := by
  intro p s
  unfold dropLong
  extract_lets x1
  have h2 : Frame 786708 s x1 := by
    subst x1
    refine Frame.step (frame_bumpPort _ _ _ _ _) rfl ?_
    exact Frame.refl _ _
  clear_value x1
  refine Frame.step (frame_portError _ _ _ _ _) rfl ?_
  assumption

/-- Changes at most reports, heads, evt, tally, fab. -/
theorem frame_dropFcs : ∀ (p : Fin 2) (s : State), Frame 786708 s (dropFcs p s) := by
  intro p s
  unfold dropFcs
  extract_lets x1
  have h2 : Frame 786708 s x1 := by
    subst x1
    refine Frame.step (frame_bumpPort _ _ _ _ _) rfl ?_
    exact Frame.refl _ _
  clear_value x1
  refine Frame.step (frame_portError _ _ _ _ _) rfl ?_
  assumption

/-- Changes at most reports, heads, evt, tally, fab. -/
theorem frame_rejectFrame : ∀ (p : Fin 2) (f : List Byte) (s : State), Frame 786708 s (rejectFrame p f s) := by
  intro p f s
  unfold rejectFrame
  refine Frame.step (frame_portError _ _ _ _ _) rfl ?_
  refine Frame.step (frame_bumpPort _ _ _ _ _) rfl ?_
  exact Frame.refl _ _

/-- Changes what its operand changes, and reports, heads, evt, tally, fab. -/
theorem frame_consume : ∀ {M : Nat} {s0 : State} (p : Fin 2) (kind : Nat) (f : List Byte) (eff : State → State) (s : State), (786708 ||| M = M) → (Frame M s0 s) → (∀ x, Frame M s0 x → Frame M s0 (eff x)) → Frame M s0 (consume p kind f eff s) := by
  intro M s0 p kind f eff s hM h hf
  have hc : Frame M s0 (countRx p s) := by
    refine Frame.step (frame_countRx _ _) ?_ h
    rw [← hM, ← Nat.or_assoc]
    rfl
  unfold consume
  refine Frame.ite (Frame.step (frame_dropHeader _ _) ?_ h) ?_
  · rw [← hM, ← Nat.or_assoc]
    rfl
  refine Frame.ite (Frame.step (frame_dropLong _ _) ?_ hc) ?_
  · rw [← hM, ← Nat.or_assoc]
    rfl
  refine Frame.ite (Frame.step (frame_dropFcs _ _) ?_ hc) ?_
  · rw [← hM, ← Nat.or_assoc]
    rfl
  refine Frame.ite h ?_
  dsimp only
  refine Frame.ite (hf _ hc) (Frame.step (frame_rejectFrame _ _ _) ?_ hc)
  rw [← hM, ← Nat.or_assoc]
  rfl

/-- Changes at most reports, heads, evt, time, tally, fab, mem, dwin, pert, aud. -/
theorem frame_doAudioRx : ∀ (p : Fin 2) (f : List Byte) (s : State), Frame 162398484 s (doAudioRx p f s) := by
  intro p f s
  unfold doAudioRx
  refine frame_consume _ _ _ _ _ rfl ?_ ?_
  · exact Frame.refl _ _
  · intro x1 x2
    refine Frame.ite ?_ ?_
    · refine Frame.step (frame_audioAccept _ _ _ _) rfl ?_
      assumption
    · assumption

/-- Changes at most time. -/
theorem frame_passToSpan : ∀ (ns : Nat) (s : State), Frame 131072 s (passToSpan ns s) := by
  intro ns s
  unfold passToSpan
  refine Frame.step (frame_runCycles _ _) rfl ?_
  refine Frame.step (frame_passInTick _ _ _) rfl ?_
  exact Frame.refl _ _

/-- Changes at most reports, heads, evt, time, tally, fab, mem, dwin, pert, aud. -/
theorem frame_doAudioTx : ∀ (k : Fin 32) (ins : List (List (BitVec 24))) (s : State), Frame 162398484 s (doAudioTx k ins s) := by
  intro k ins s
  unfold doAudioTx
  extract_lets x1 x2 x3 x4 x5 x6 x7
  clear_value x1
  clear_value x2
  clear_value x3
  clear_value x4
  have h8 : Frame 162398484 s x5 := by
    subst x5
    refine Frame.ite ?_ ?_
    · refine Frame.step (frame_passToSpan _ _) rfl ?_
      exact Frame.refl _ _
    · exact Frame.refl _ _
  clear_value x5
  clear_value x6
  have h9 : Frame 162398484 s x7 := by
    subst x7
    refine Frame.ite ?_ ?_
    · refine Frame.step (frame_dropFrame _ _ _ _) rfl ?_
      assumption
    · refine frame_bufferFrame _ _ _ _ _ rfl ?_ ?_
      · assumption
      · intro x10 x11 x12 x13
        refine Frame.step (frame_audioPut _ _ _) rfl ?_
        assumption
  clear_value x7
  refine Frame.ite ?_ ?_
  · refine Frame.ite ?_ ?_
    · refine Frame.step (frame_sendFrame _ _ _ _ _ _) rfl ?_
      assumption
    · assumption
  · exact Frame.refl _ _

/-- Changes at most reports, heads, evt, time, tally, fab, mem, dwin, pert, pwr. -/
theorem frame_doCallRx : ∀ (p : Fin 2) (f : List Byte) (s : State), Frame 565051668 s (doCallRx p f s) := by
  intro p f s
  unfold doCallRx
  refine frame_consume _ _ _ _ _ rfl ?_ ?_
  · exact Frame.refl _ _
  · intro x1 x2
    refine Frame.ite ?_ ?_
    · refine Frame.step (frame_enterMuster _ _ _ _) rfl ?_
      assumption
    · assumption

/-- Changes at most fab. -/
theorem frame_modRun : ∀ (f : MusterRun → MusterRun) (s : State), Frame 524288 s (modRun f s) := by
  intro f s
  unfold modRun
  refine Frame.step (frame_modFab _ _) rfl ?_
  exact Frame.refl _ _

/-- Changes at most reports, heads, evt, tally, fab. -/
theorem frame_doDoneRx : ∀ (p : Fin 2) (f : List Byte) (s : State), Frame 786708 s (doDoneRx p f s) := by
  intro p f s
  unfold doDoneRx
  refine frame_consume _ _ _ _ _ rfl ?_ ?_
  · exact Frame.refl _ _
  · intro x1 x2
    extract_lets x3
    clear_value x3
    refine Frame.step (frame_modRun _ _) rfl ?_
    assumption

/-- Changes at most reports, heads, evt, tally, fab, dwin, pert. -/
theorem frame_doFrameForward : ∀ (p : Fin 2) (f : List Byte) (fcs : Word) (residence : Nat) (s : State),
  Frame 25952532 s (doFrameForward p f fcs residence s) := by
  intro p f fcs residence s
  unfold doFrameForward
  refine Frame.ite ?_ ?_
  · refine Frame.step (frame_dropHeader _ _) rfl ?_
    exact Frame.refl _ _
  · extract_lets x1 x2 x3 x4 x5 x6 x7
    clear_value x1
    clear_value x2
    clear_value x3
    clear_value x4
    clear_value x5
    have h8 : Frame 25952532 s x6 := by
      subst x6
      refine Frame.ite ?_ ?_
      · exact Frame.refl _ _
      · refine Frame.ite ?_ ?_
        · refine Frame.step (frame_wire _ _ _ _) rfl ?_
          exact Frame.refl _ _
        · refine Frame.step (frame_storeFrame _ _ _) rfl ?_
          exact Frame.refl _ _
    clear_value x6
    have h9 : Frame 25952532 s x7 := by
      subst x7
      refine Frame.step (frame_noteFrame _ _) rfl ?_
      assumption
    clear_value x7
    refine Frame.ite ?_ ?_
    · refine Frame.step (frame_dropLong _ _) rfl ?_
      refine Frame.step (frame_countRx _ _) rfl ?_
      assumption
    · refine Frame.ite ?_ ?_
      · refine Frame.step (frame_setIrq _ _ _) rfl ?_
        refine Frame.step (frame_bumpPort _ _ _ _ _) rfl ?_
        refine Frame.step (frame_countRx _ _) rfl ?_
        assumption
      · refine Frame.ite ?_ ?_
        · refine Frame.step (frame_dropFcs _ _) rfl ?_
          refine Frame.step (frame_countRx _ _) rfl ?_
          assumption
        · refine Frame.ite ?_ ?_
          · assumption
          · refine Frame.ite ?_ ?_
            · refine Frame.step (frame_rejectFrame _ _ _) rfl ?_
              refine Frame.step (frame_countRx _ _) rfl ?_
              assumption
            · refine Frame.step (frame_countRx _ _) rfl ?_
              assumption

/-- Changes at most heads, evt, tally, fab, dwin, pert. -/
theorem frame_doFrameSend : ∀ (p : Fin 2) (s : State), Frame 25952528 s (doFrameSend p s) := by
  intro p s
  unfold doFrameSend
  split
  · exact Frame.refl _ _
  · extract_lets x1 x2 x3 x4 x5 x6
    clear_value x1
    clear_value x2
    clear_value x3
    clear_value x4
    clear_value x5
    have h7 : Frame 25952528 s x6 := by
      subst x6
      refine Frame.step (frame_modPort _ _ _) rfl ?_
      refine Frame.step (frame_wire _ _ _ _) rfl ?_
      exact Frame.refl _ _
    clear_value x6
    refine Frame.ite ?_ ?_
    · refine Frame.ite ?_ ?_
      · refine Frame.step (frame_txnFree _) rfl ?_
        assumption
      · assumption
    · exact Frame.refl _ _

/-- Changes at most heads, evt, time, tally, fab, mbus, aud. -/
theorem frame_leaveFabric : ∀ (s : State), Frame 202244368 s (leaveFabric s) := by
  intro s
  unfold leaveFabric
  extract_lets x1 x2 x3
  clear_value x1
  have h4 : Frame 202244368 s x2 := by
    subst x2
    refine Frame.step (frame_modFab _ _) rfl ?_
    exact Frame.refl _ _
  clear_value x2
  have h5 : Frame 202244368 s x3 := by
    subst x3
    refine Frame.step (frame_modAud _ _) rfl ?_
    assumption
  clear_value x3
  refine Frame.ite ?_ ?_
  · refine Frame.step (frame_setOos _ _ _ _) rfl ?_
    refine Frame.step (frame_setSlew _ _ _) rfl ?_
    assumption
  · assumption

/-- Changes at most reports, heads, evt, time, tally, fab, mem, dwin, pert, mbus, aud, pwr. -/
theorem frame_portChange : ∀ (p : Fin 2) (up phy : Bool) (s : State), Frame 766378260 s (portChange p up phy s) := by
  intro p up phy s
  unfold portChange
  refine Frame.ite ?_ ?_
  · exact Frame.refl _ _
  · extract_lets x1 x2
    have h3 : Frame 766378260 s x1 := by
      subst x1
      refine Frame.step (frame_modPort _ _ _) rfl ?_
      exact Frame.refl _ _
    clear_value x1
    have h4 : Frame 766378260 s x2 := by
      subst x2
      refine Frame.step (frame_setIrq _ _ _) rfl ?_
      refine Frame.step (frame_logEv _ _ _ _ _) rfl ?_
      assumption
    clear_value x2
    refine Frame.ite ?_ ?_
    · refine Frame.step (frame_leaveFabric _) rfl ?_
      assumption
    · refine Frame.step (frame_startMuster _ _) rfl ?_
      assumption

/-- Changes at most reports, heads, evt, time, tally, fab, mem, dwin, pert, mbus, aud, pwr. -/
theorem frame_doLinkRx : ∀ (p : Fin 2) (f : List Byte) (s : State), Frame 766378260 s (doLinkRx p f s) := by
  intro p f s
  unfold doLinkRx
  refine frame_consume _ _ _ _ _ rfl ?_ ?_
  · exact Frame.refl _ _
  · intro x1 x2
    extract_lets x3 x4 x5 x6 x7 x8 x9 x10
    clear_value x3
    clear_value x4
    clear_value x5
    clear_value x6
    clear_value x7
    clear_value x8
    have h11 : Frame 766378260 s x9 := by
      subst x9
      refine Frame.step (frame_modPort _ _ _) rfl ?_
      assumption
    clear_value x9
    have h12 : Frame 766378260 s x10 := by
      subst x10
      refine Frame.step (frame_modFab _ _) rfl ?_
      assumption
    clear_value x10
    refine Frame.ite ?_ ?_
    · refine Frame.step (frame_portChange _ _ _ _) rfl ?_
      assumption
    · assumption

/-- Changes at most reports, heads, evt, time, tally, fab, mem, que, pert. -/
theorem frame_doMsgRx : ∀ (p : Fin 2) (f : List Byte) (s : State), Frame 23986452 s (doMsgRx p f s) := by
  intro p f s
  unfold doMsgRx
  refine frame_consume _ _ _ _ _ rfl ?_ ?_
  · exact Frame.refl _ _
  · intro x1 x2
    extract_lets x3
    clear_value x3
    refine Frame.ite ?_ ?_
    · assumption
    · refine Frame.step (frame_qPush _ _ _ _) rfl ?_
      assumption

/-- Changes at most reports, heads, evt, time, tally, fab, mem, que, dwin, pert. -/
theorem frame_doMsgTx : ∀ (s : State), Frame 32375060 s (doMsgTx s) := by
  intro s
  unfold doMsgTx
  extract_lets x1
  clear_value x1
  refine Frame.ite ?_ ?_
  · exact Frame.refl _ _
  · split
    · rename_i n2 n3 n4 n5 n6
      have h7 : Frame 32375060 s n5 := by
        refine Frame.ofEq22 n6 ?_
        refine Frame.step (frame_qPop _ _ _) rfl ?_
        exact Frame.refl _ _
      refine Frame.ite ?_ ?_
      · assumption
      · refine Frame.ite ?_ ?_
        · refine Frame.step (frame_bump _ _ _ _ _) rfl ?_
          refine Frame.step (frame_modFab _ _) rfl ?_
          assumption
        · refine Frame.step (frame_sendFrame _ _ _ _ _ _) rfl ?_
          assumption

/-- Changes at most heads, evt, tally, aud. -/
theorem frame_streamDup : ∀ (k : Nat) (s : State), Frame 134480144 s (streamDup k s) := by
  intro k s
  unfold streamDup
  extract_lets x1
  clear_value x1
  refine Frame.ite ?_ ?_
  · refine Frame.step (frame_setIrq _ _ _) rfl ?_
    refine Frame.step (frame_logEv _ _ _ _ _) rfl ?_
    refine Frame.step (frame_modStream _ _ _) rfl ?_
    exact Frame.refl _ _
  · refine Frame.step (frame_modStream _ _ _) rfl ?_
    exact Frame.refl _ _

/-- Changes at most heads, evt, time, tally, fab, mbus, aud, pwr. -/
theorem frame_takePosition : ∀ (r : MusterRun) (l : List DWord) (i : Nat) (s : State), Frame 739115280 s (takePosition r l i s) := by
  intro r l i s
  unfold takePosition
  extract_lets x1 x2 x3 x4 x5 x6 x7 x8 x9 x10 x11
  clear_value x1
  clear_value x2
  clear_value x4
  clear_value x5
  have h12 : Frame 739115280 s x6 := by
    subst x6
    refine Frame.step (frame_bump _ _ _ _ _) rfl ?_
    refine Frame.step (frame_modFab _ _) rfl ?_
    exact Frame.refl _ _
  clear_value x6
  clear_value x7
  have h13 : Frame 739115280 s x8 := by
    subst x8
    refine Frame.step (frame_set_pwr _ _) rfl ?_
    assumption
  clear_value x8
  have h14 : Frame 739115280 s x9 := by
    subst x9
    refine Frame.step (frame_setIrq _ _ _) rfl ?_
    refine Frame.step (frame_logEv _ _ _ _ _) rfl ?_
    assumption
  clear_value x9
  have h15 : Frame 739115280 s x10 := by
    subst x10
    refine Frame.ite ?_ ?_
    · refine Frame.step (frame_setIrq _ _ _) rfl ?_
      refine Frame.step (frame_logEv _ _ _ _ _) rfl ?_
      refine Frame.step (frame_setOos _ _ _ _) rfl ?_
      refine Frame.step (frame_modFab _ _) rfl ?_
      assumption
    · assumption
  clear_value x10
  have h16 : Frame 739115280 s x11 := by
    subst x11
    refine Frame.ite ?_ ?_
    · refine Frame.step (frame_setSlew _ _ _) rfl ?_
      assumption
    · assumption
  clear_value x11
  refine Frame.foldl (fun x17 k18 h19 => ?_) ?_
  · refine Frame.step (frame_streamDup _ _) rfl ?_
    assumption
  · assumption

/-- Changes at most heads, evt, time, tally, fab, mbus, aud, pwr. -/
theorem frame_doMusterDone : ∀ (s : State), Frame 739115280 s (doMusterDone s) := by
  intro s
  unfold doMusterDone
  split
  · exact Frame.refl _ _
  · split
    · exact Frame.refl _ _
    · refine Frame.ite ?_ ?_
      · exact Frame.refl _ _
      · extract_lets x1
        clear_value x1
        refine Frame.ite ?_ ?_
        · refine Frame.step (frame_takePosition _ _ _ _) rfl ?_
          exact Frame.refl _ _
        · refine Frame.step (frame_logEv _ _ _ _ _) rfl ?_
          refine Frame.step (frame_setIrq _ _ _) rfl ?_
          refine Frame.step (frame_leaveFabric _) rfl ?_
          refine Frame.step (frame_modFab _ _) rfl ?_
          exact Frame.refl _ _

/-- Changes at most heads, evt, time, tally, fab, mbus, aud. -/
theorem frame_doMusterFail : ∀ (s : State), Frame 202244368 s (doMusterFail s) := by
  intro s
  unfold doMusterFail
  split
  · exact Frame.refl _ _
  · refine Frame.ite ?_ ?_
    · extract_lets x1 x2
      have h3 : Frame 202244368 s x1 := by
        subst x1
        refine Frame.step (frame_logEv _ _ _ _ _) rfl ?_
        exact Frame.refl _ _
      clear_value x1
      have h4 : Frame 202244368 s x2 := by
        subst x2
        refine Frame.step (frame_setIrq _ _ _) rfl ?_
        refine Frame.step (frame_leaveFabric _) rfl ?_
        refine Frame.step (frame_modFab _ _) rfl ?_
        assumption
      clear_value x2
      refine Frame.step (frame_modFab _ _) rfl ?_
      assumption
    · exact Frame.refl _ _

/-- Changes at most freeCount, reports, heads, evt, time, tally, fab, mem, dwin, pert, pwr. -/
theorem frame_doMusterRecall : ∀ (s : State), Frame 565051670 s (doMusterRecall s) := by
  intro s
  unfold doMusterRecall
  split
  · exact Frame.refl _ _
  · refine Frame.ite ?_ ?_
    · refine Frame.step (frame_tickFree _) rfl ?_
      refine Frame.step (frame_startMuster _ _) rfl ?_
      exact Frame.refl _ _
    · exact Frame.refl _ _

/-- Changes at most reports, heads, evt, time, tally, fab, mem, dwin, pert, mbus, aud, pwr. -/
theorem frame_doPortLinkChange : ∀ (p : Fin 2) (up phy master : Bool) (s : State), Frame 766378260 s (doPortLinkChange p up phy master s) := by
  intro p up phy master s
  unfold doPortLinkChange
  refine Frame.ite ?_ ?_
  · extract_lets x1
    have h2 : Frame 766378260 s x1 := by
      subst x1
      refine Frame.step (frame_modPort _ _ _) rfl ?_
      exact Frame.refl _ _
    clear_value x1
    refine Frame.ite ?_ ?_
    · assumption
    · refine Frame.step (frame_portChange _ _ _ _) rfl ?_
      assumption
  · refine Frame.ite ?_ ?_
    · refine Frame.step (frame_portChange _ _ _ _) rfl ?_
      refine Frame.step (frame_passInTick _ _ _) rfl ?_
      exact Frame.refl _ _
    · exact Frame.refl _ _

/-- Changes at most reports, heads, sys, evt, time, tally, fab, mem, dwin, pert. -/
theorem frame_doRaAbandon : ∀ (rq : Requester) (c : Fin 4) (s : State), Frame 28180884 s (doRaAbandon rq c s) := by
  intro rq c s
  unfold doRaAbandon
  refine Frame.step (frame_raCtrlWrite _ _ _ _) rfl ?_
  exact Frame.refl _ _

/-- Changes at most reports, heads, sys, evt, time, tally, fab, mem, dwin, pert. -/
theorem frame_doRaGo : ∀ (rq : Requester) (c : Fin 4) (s : State), Frame 28180884 s (doRaGo rq c s) := by
  intro rq c s
  unfold doRaGo
  refine Frame.step (frame_raCtrlWrite _ _ _ _) rfl ?_
  exact Frame.refl _ _

/-- Changes at most heads, dwin. -/
theorem frame_peerRead : ∀ (peer : Nat) (n : Fin 4) (k : Nat) (l : List Word) (s : State), Frame 8388624 s (peerRead peer n k l s).2.2 := by
  intro peer n k
  induction k with
  | zero => intro l s; exact Frame.refl _ _
  | succ k ih =>
    intro l s
    unfold peerRead
    have h := frame_winDataRead .fabric peer n s
    generalize winDataRead .fabric peer n s = r at h ⊢
    obtain ⟨v, ok, x⟩ := r
    dsimp only at h ⊢
    split
    · refine Frame.step (ih _ _) rfl ?_
      exact h
    · exact h

/-- Changes at most heads, time, dwin. -/
theorem frame_peerWrite : ∀ (peer : Nat) (n : Fin 4) (l : List Word) (k : Nat) (s : State), Frame 8519696 s (peerWrite peer n l k s).2.2 := by
  intro peer n l
  induction l with
  | nil => intro k s; exact Frame.refl _ _
  | cons v l ih =>
    intro k s
    unfold peerWrite
    have h := frame_winDataWrite .fabric peer n v s
    generalize winDataWrite .fabric peer n v s = r at h ⊢
    obtain ⟨ok, x⟩ := r
    dsimp only at h ⊢
    split
    · refine Frame.step (ih _ _) rfl ?_
      exact h
    · exact h

/-- Changes at most reports, heads, sys, evt, time, tally, mem, dwin, pert. -/
theorem frame_performReq : ∀ (peer : Nat) (q : RaReq) (s : State), Frame 27656596 s (Prod.snd (performReq peer q s)) := by
  intro peer q s
  unfold performReq
  extract_lets x1
  have h2 : Frame 27656596 s x1 := by
    subst x1
    refine Frame.step (frame_burstsNow _) rfl ?_
    exact Frame.refl _ _
  clear_value x1
  split
  · split
    · rename_i n3 n4 n5 n6 n7 n8 n9
      have h10 : Frame 27656596 s n8 := by
        refine Frame.ofEq22 n9 ?_
        refine Frame.step (frame_dwinRead _ _ _ _) rfl ?_
        · assumption
      assumption
  · split
    · rename_i n11 n12 n13 n14 n15 n16
      have h17 : Frame 27656596 s n15 := by
        refine Frame.ofEq2 n16 ?_
        refine Frame.step (frame_dwinWrite _ _ _ _ _) rfl ?_
        assumption
      assumption
  · split
    · assumption
    · split
      · rename_i n18 n19 n20 n21 n22 n23 n24 n25 n26 n27
        have h28 : Frame 27656596 s n26 := by
          refine Frame.ofEq22 n27 ?_
          refine Frame.step (frame_peerRead _ _ _ _ _) rfl ?_
          · assumption
        assumption
  · split
    · assumption
    · split
      · rename_i n29 n30 n31 n32 n33 n34 n35 n36 n37 n38 n39 n40
        have h41 : Frame 27656596 s n39 := by
          refine Frame.ofEq22 n40 ?_
          refine Frame.step (frame_peerWrite _ _ _ _ _) rfl ?_
          · assumption
        assumption

/-- Changes at most reports, heads, sys, evt, time, tally, fab, mem, dwin, pert. -/
theorem frame_serveReq : ∀ (r : RemoteReq) (s : State), Frame 28180884 s (serveReq r s) := by
  intro r s
  unfold serveReq
  split
  · rename_i n1 n2 n3 n4
    have h5 : Frame 28180884 s n3 := by
      refine Frame.ofEq2 n4 ?_
      refine Frame.step (frame_performReq _ _ _) rfl ?_
      exact Frame.refl _ _
    refine Frame.ite ?_ ?_
    · refine Frame.step (frame_sendFrame _ _ _ _ _ _) rfl ?_
      assumption
    · refine Frame.step (frame_txnFree _) rfl ?_
      assumption

/-- Changes at most reports, heads, sys, evt, time, tally, fab, mem, dwin, pert. -/
theorem frame_doRaReqRx : ∀ (p : Fin 2) (f : List Byte) (q : RaReq) (s : State), Frame 28180884 s (doRaReqRx p f q s) := by
  intro p f q s
  unfold doRaReqRx
  refine frame_consume _ _ _ _ _ rfl ?_ ?_
  · exact Frame.refl _ _
  · intro x1 x2
    extract_lets x3 x4
    clear_value x3
    have h5 : Frame 28180884 s x4 := by
      subst x4
      refine Frame.step (frame_txnTurn _ _) rfl ?_
      assumption
    clear_value x4
    refine Frame.ite ?_ ?_
    · assumption
    · refine Frame.ite ?_ ?_
      · refine Frame.step (frame_serveReq _ _) rfl ?_
        refine Frame.step (frame_txnTake _) rfl ?_
        assumption
      · refine Frame.step (frame_txnWait _ _) rfl ?_
        refine Frame.step (frame_modFab _ _) rfl ?_
        assumption

/-- Changes at most reports, heads, evt, time, tally, fab, mem, dwin, pert. -/
theorem frame_doRaRspRx : ∀ (p : Fin 2) (f : List Byte) (r : RaRsp) (s : State), Frame 28180756 s (doRaRspRx p f r s) := by
  intro p f r s
  unfold doRaRspRx
  refine frame_consume _ _ _ _ _ rfl ?_ ?_
  · exact Frame.refl _ _
  · intro x1 x2
    extract_lets x3 x4 x5 x6
    clear_value x4
    have h7 : Frame 28180756 s x5 := by
      subst x5
      refine Frame.ite ?_ ?_
      · refine Frame.step (frame_fabricPut _ _ _) rfl ?_
        assumption
      · assumption
    clear_value x5
    have h8 : Frame 28180756 s x6 := by
      subst x6
      refine Frame.step (frame_modRa _ _ _) rfl ?_
      assumption
    clear_value x6
    refine Frame.ite ?_ ?_
    · refine Frame.step (frame_raEnd _ _ _) rfl ?_
      refine Frame.step (frame_txnFree _) rfl ?_
      assumption
    · refine Frame.step (frame_bump _ _ _ _ _) rfl ?_
      refine Frame.step (frame_modFab _ _) rfl ?_
      assumption

/-- Changes at most heads, evt, tally, fab, dwin. -/
theorem frame_doRaTimeout : ∀ (c : Fin 4) (s : State), Frame 9175312 s (doRaTimeout c s) := by
  intro c s
  unfold doRaTimeout
  extract_lets x1
  clear_value x1
  refine Frame.ite ?_ ?_
  · refine Frame.step (frame_raEnd _ _ _) rfl ?_
    refine Frame.step (frame_txnFree _) rfl ?_
    refine Frame.step (frame_logEv _ _ _ _ _) rfl ?_
    exact Frame.refl _ _
  · exact Frame.refl _ _

/-- Changes at most reports, heads, sys, evt, time, tally, fab, mem, dwin, pert, pwr. -/
theorem frame_doRemuster : ∀ (rq : Requester) (s : State), Frame 565051796 s (doRemuster rq s) := by
  intro rq s
  unfold doRemuster
  refine Frame.step (frame_fabCtrlWrite _ _ _) rfl ?_
  exact Frame.refl _ _

/-- Changes at most reports, heads, evt, tally, fab. -/
theorem frame_doRollRx : ∀ (p : Fin 2) (f : List Byte) (q : Roll) (s : State), Frame 786708 s (doRollRx p f q s) := by
  intro p f q s
  unfold doRollRx
  refine frame_consume _ _ _ _ _ rfl ?_ ?_
  · exact Frame.refl _ _
  · intro x1 x2
    refine Frame.step (frame_modRun _ _) rfl ?_
    assumption

/-- Changes at most reports, heads, evt, tally, fab, dwin, pert. -/
theorem frame_doRollTx : ∀ (s : State), Frame 25952532 s (doRollTx s) := by
  intro s
  unfold doRollTx
  split
  · exact Frame.refl _ _
  · refine Frame.ite ?_ ?_
    · extract_lets x1 x2
      clear_value x1
      have h3 : Frame 25952532 s x2 := by
        subst x2
        refine Frame.step (frame_modRun _ _) rfl ?_
        exact Frame.refl _ _
      clear_value x2
      refine Frame.step (frame_sendOn _ _ _ _ _ _ _ _) rfl ?_
      assumption
    · exact Frame.refl _ _

/-- Changes at most fab. -/
theorem frame_openClosing : ∀ (s : State), Frame 524288 s (openClosing s) := by
  intro s
  unfold openClosing
  split
  · refine Frame.ite ?_ ?_
    · extract_lets x1
      clear_value x1
      refine Frame.step (frame_modRun _ _) rfl ?_
      refine Frame.step (frame_modFab _ _) rfl ?_
      exact Frame.refl _ _
    · exact Frame.refl _ _
  · exact Frame.refl _ _

/-- Changes at most freeCount, heads, evt, tally, fab. -/
theorem frame_fabAuthCheck : ∀ (s : State), Frame 786706 s (fabAuthCheck s) := by
  intro s
  unfold fabAuthCheck
  extract_lets x1 x2 x3
  clear_value x1
  clear_value x2
  have h4 : Frame 786706 s x3 := by
    subst x3
    refine Frame.step (frame_modFab _ _) rfl ?_
    exact Frame.refl _ _
  clear_value x3
  refine Frame.ite ?_ ?_
  · refine Frame.step (frame_refuseBlock _ _ _) rfl ?_
    refine Frame.step (frame_logEv _ _ _ _ _) rfl ?_
    assumption
  · assumption

/-- Changes at most reports, heads, evt, tally, fab, dwin, pert. -/
theorem frame_linkMark : ∀ (p : Fin 2) (s : State), Frame 25952532 s (linkMark p s) := by
  intro p s
  unfold linkMark
  extract_lets x1 x2 x3
  clear_value x1
  clear_value x2
  clear_value x3
  refine Frame.ite ?_ ?_
  · refine Frame.step (frame_sendOn _ _ _ _ _ _ _ _) rfl ?_
    refine Frame.step (frame_modPort _ _ _) rfl ?_
    exact Frame.refl _ _
  · exact Frame.refl _ _

/-- Changes at most freeCount, reports, heads, evt, tally, fab, dwin, pert. -/
theorem frame_fabMark : ∀ (s : State), Frame 25952534 s (fabMark s) := by
  intro s
  unfold fabMark
  extract_lets x1 x2
  have h3 : Frame 25952534 s x1 := by
    subst x1
    refine Frame.step (frame_openClosing _) rfl ?_
    refine Frame.step (frame_modRun _ _) rfl ?_
    exact Frame.refl _ _
  clear_value x1
  have h4 : Frame 25952534 s x2 := by
    subst x2
    refine Frame.step (frame_modFab _ _) rfl ?_
    assumption
  clear_value x2
  refine Frame.step (frame_fabAuthCheck _) rfl ?_
  refine Frame.step (frame_linkMark _ _) rfl ?_
  refine Frame.step (frame_linkMark _ _) rfl ?_
  assumption

/-- Changes at most hurdle. -/
theorem frame_mapBlock : ∀ (p : Nat) (block : List Byte) (o : Nat) (s : State), Frame 65536 s (mapBlock p block o s) := by
  intro p block o s
  unfold mapBlock
  extract_lets x1
  clear_value x1
  refine Frame.ite ?_ ?_
  · exact Frame.refl _ _
  · split
    · refine Frame.step (frame_modOut _ _ _) rfl ?_
      exact Frame.refl _ _
    · refine Frame.step (frame_modOut _ _ _) rfl ?_
      exact Frame.refl _ _

/-- Changes at most reports, heads, evt, hurdle, time, tally, fab, mem, dwin, pert. -/
theorem frame_doStateRx : ∀ (p : Fin 2) (f : List Byte) (s : State), Frame 28246292 s (doStateRx p f s) := by
  intro p f s
  unfold doStateRx
  refine frame_consume _ _ _ _ _ rfl ?_ ?_
  · exact Frame.refl _ _
  · intro x1 x2
    extract_lets x3 x4 x5 x6 x7
    clear_value x3
    clear_value x4
    have h8 : Frame 28246292 s x5 := by
      subst x5
      refine Frame.step (frame_fabricPut _ _ _) rfl ?_
      assumption
    clear_value x5
    clear_value x6
    have h9 : Frame 28246292 s x7 := by
      subst x7
      refine Frame.step (frame_set_hurdle _ _) rfl ?_
      assumption
    clear_value x7
    refine Frame.ite ?_ ?_
    · assumption
    · refine Frame.ite ?_ ?_
      · refine frame_limited _ _ _ rfl ?_ ?_
        · refine Frame.step (frame_setIrq _ _ _) rfl ?_
          refine Frame.step (frame_bump _ _ _ _ _) rfl ?_
          refine Frame.step (frame_modFab _ _) rfl ?_
          assumption
        · intro x10 x11
          refine Frame.step (frame_logEv _ _ _ _ _) rfl ?_
          assumption
      · refine Frame.foldl (fun x12 k13 h14 => ?_) ?_
        · refine Frame.step (frame_mapBlock _ _ _ _) rfl ?_
          assumption
        · assumption

/-- Changes at most reports, heads, evt, time, tally, fab, mem, dwin, pert. -/
theorem frame_doStateTx : ∀ (s : State), Frame 28180756 s (doStateTx s) := by
  intro s
  unfold doStateTx
  refine Frame.ite ?_ ?_
  · exact Frame.refl _ _
  · refine Frame.ite ?_ ?_
    · refine Frame.ite ?_ ?_
      · exact Frame.refl _ _
      · extract_lets x1 x2
        have h3 : Frame 28180756 s x1 := by
          subst x1
          refine Frame.step (frame_passToSpan _ _) rfl ?_
          exact Frame.refl _ _
        clear_value x1
        have h4 : Frame 28180756 s x2 := by
          subst x2
          refine Frame.step (frame_fabricPut _ _ _) rfl ?_
          refine Frame.step (frame_modFab _ _) rfl ?_
          assumption
        clear_value x2
        split
        · rename_i n5 n6 n7 n8
          have h9 : Frame 28180756 s n7 := by
            refine Frame.ofEq2 n8 ?_
            refine Frame.step (frame_eccSpan _ _ _ _) rfl ?_
            assumption
          refine Frame.ite ?_ ?_
          · refine Frame.step (frame_sendFrame _ _ _ _ _ _) rfl ?_
            assumption
          · assumption
    · refine Frame.ite ?_ ?_
      · exact Frame.refl _ _
      · refine Frame.step (frame_logEv _ _ _ _ _) rfl ?_
        refine Frame.step (frame_modFab _ _) rfl ?_
        exact Frame.refl _ _

/-- Changes at most heads, evt, time, tally, fab. -/
theorem frame_doTimeLost : ∀ (s : State), Frame 917776 s (doTimeLost s) := by
  intro s
  unfold doTimeLost
  refine Frame.ite ?_ ?_
  · refine Frame.step (frame_setSlew _ _ _) rfl ?_
    refine Frame.step (frame_setIrq _ _ _) rfl ?_
    refine Frame.step (frame_logEv _ _ _ _ _) rfl ?_
    refine Frame.step (frame_modFab _ _) rfl ?_
    exact Frame.refl _ _
  · exact Frame.refl _ _

/-- Changes at most freeCount, heads, evt, tick, time, tally, fab, mbus. -/
theorem frame_followTime : ∀ (m : ℤ) (s : State), Frame 68027154 s (followTime m s) := by
  intro m s
  unfold followTime
  extract_lets x1 x2 x3 x4
  clear_value x1
  clear_value x2
  have h5 : Frame 68027154 s x3 := by
    subst x3
    refine Frame.step (frame_modFab _ _) rfl ?_
    exact Frame.refl _ _
  clear_value x3
  clear_value x4
  refine Frame.ite ?_ ?_
  · refine Frame.step (frame_stepBase _ _ _ _) rfl ?_
    refine Frame.step (frame_setSlew _ _ _) rfl ?_
    refine Frame.step (frame_modFab _ _) rfl ?_
    assumption
  · split
    · extract_lets x6
      have h7 : Frame 68027154 s x6 := by
        subst x6
        refine Frame.step (frame_steerBase _ _ _) rfl ?_
        refine Frame.step (frame_modFab _ _) rfl ?_
        assumption
      clear_value x6
      refine Frame.ite ?_ ?_
      · refine Frame.step (frame_tickFree _) rfl ?_
        refine Frame.step (frame_setOos _ _ _ _) rfl ?_
        assumption
      · assumption

/-- Changes at most freeCount, reports, heads, evt, tick, time, tally, fab, mbus. -/
theorem frame_doTimeRx : ∀ (p : Fin 2) (f : List Byte) (s : State), Frame 68027158 s (doTimeRx p f s) := by
  intro p f s
  unfold doTimeRx
  refine frame_consume _ _ _ _ _ rfl ?_ ?_
  · exact Frame.refl _ _
  · intro x1 x2
    refine Frame.ite ?_ ?_
    · assumption
    · extract_lets x3 x4
      clear_value x3
      have h5 : Frame 68027158 s x4 := by
        subst x4
        refine Frame.step (frame_followTime _ _) rfl ?_
        refine Frame.step (frame_modFab _ _) rfl ?_
        assumption
      clear_value x4
      refine Frame.ite ?_ ?_
      · refine Frame.step (frame_logEv _ _ _ _ _) rfl ?_
        assumption
      · assumption

/-- Changes at most heads, evt, time, tally, fab, pert. -/
theorem frame_doTimeTx : ∀ (s : State), Frame 17694992 s (doTimeTx s) := by
  intro s
  unfold doTimeTx
  refine Frame.ite ?_ ?_
  · extract_lets x1 x2
    have h3 : Frame 17694992 s x1 := by
      subst x1
      refine Frame.step (frame_passToSpan _ _) rfl ?_
      exact Frame.refl _ _
    clear_value x1
    have h4 : Frame 17694992 s x2 := by
      subst x2
      refine Frame.step (frame_modFab _ _) rfl ?_
      assumption
    clear_value x2
    refine Frame.ite ?_ ?_
    · refine Frame.foldl (fun x5 k6 h7 => ?_) ?_
      · refine Frame.step (frame_wire _ _ _ _) rfl ?_
        assumption
      · refine Frame.step (frame_modFab _ _) rfl ?_
        assumption
    · assumption
  · exact Frame.refl _ _

/-- Changes at most reports, heads, evt, tally, fab, dwin, pert. -/
theorem frame_floodDone : ∀ (s : State), Frame 25952532 s (floodDone s) := by
  intro s
  unfold floodDone
  split
  · exact Frame.refl _ _
  · extract_lets x1 x2
    clear_value x1
    have h3 : Frame 25952532 s x2 := by
      subst x2
      refine Frame.step (frame_modRun _ _) rfl ?_
      exact Frame.refl _ _
    clear_value x2
    refine Frame.step (frame_sendOn _ _ _ _ _ _ _ _) rfl ?_
    assumption

/-- Changes at most reports, heads, evt, tally, fab, dwin, pert. -/
theorem frame_sendToken : ∀ (p : Fin 2) (next count : Nat) (gen : Half) (s : State), Frame 25952532 s (sendToken p next count gen s) := by
  intro p next count gen s
  unfold sendToken
  refine Frame.step (frame_sendOn _ _ _ _ _ _ _ _) rfl ?_
  exact Frame.refl _ _

/-- Changes at most reports, heads, evt, tally, fab, dwin, pert. -/
theorem frame_doTokenRx : ∀ (p : Fin 2) (f : List Byte) (s : State), Frame 25952532 s (doTokenRx p f s) := by
  intro p f s
  unfold doTokenRx
  refine frame_consume _ _ _ _ _ rfl ?_ ?_
  · exact Frame.refl _ _
  · intro x1 x2
    split
    · assumption
    · extract_lets x3 x4 x5
      clear_value x3
      clear_value x4
      have h6 : Frame 25952532 s x5 := by
        subst x5
        refine Frame.step (frame_modRun _ _) rfl ?_
        assumption
      clear_value x5
      refine Frame.ite ?_ ?_
      · assumption
      · refine Frame.ite ?_ ?_
        · refine Frame.step (frame_modRun _ _) rfl ?_
          assumption
        · refine Frame.ite ?_ ?_
          · refine Frame.step (frame_floodDone _) rfl ?_
            refine Frame.ite ?_ ?_
            · refine Frame.step (frame_modPort _ _ _) rfl ?_
              assumption
            · assumption
          · refine Frame.step (frame_sendToken _ _ _ _ _) rfl ?_
            assumption

/-- Changes at most reports, heads, evt, tally, fab, dwin, pert. -/
theorem frame_doTokenTx : ∀ (s : State), Frame 25952532 s (doTokenTx s) := by
  intro s
  unfold doTokenTx
  split
  · exact Frame.refl _ _
  · extract_lets x1 x2 x3 x4
    clear_value x1
    have h5 : Frame 25952532 s x2 := by
      subst x2
      refine Frame.step (frame_modRun _ _) rfl ?_
      exact Frame.refl _ _
    clear_value x2
    clear_value x3
    have h6 : Frame 25952532 s x4 := by
      subst x4
      refine Frame.ite ?_ ?_
      · refine Frame.step (frame_modPort _ _ _) rfl ?_
        assumption
      · assumption
    clear_value x4
    refine Frame.ite ?_ ?_
    · refine Frame.ite ?_ ?_
      · refine Frame.step (frame_floodDone _) rfl ?_
        assumption
      · refine Frame.step (frame_sendToken _ _ _ _ _) rfl ?_
        assumption
    · exact Frame.refl _ _

/-- Changes at most reports, heads, sys, evt, time, tally, fab, mem, dwin, pert. -/
theorem frame_doTxnStart : ∀ (s : State), Frame 28180884 s (doTxnStart s) := by
  intro s
  unfold doTxnStart
  split
  · exact Frame.refl _ _
  · refine Frame.ite ?_ ?_
    · exact Frame.refl _ _
    · extract_lets x1 x2
      clear_value x1
      have h3 : Frame 28180884 s x2 := by
        subst x2
        refine Frame.step (frame_set_dwin _ _) rfl ?_
        exact Frame.refl _ _
      clear_value x2
      split
      · refine Frame.step (frame_startBurst _ _) rfl ?_
        assumption
      · refine Frame.step (frame_sendReq _ _) rfl ?_
        refine Frame.step (frame_txnTake _) rfl ?_
        assumption
      · split
        · assumption
        · refine Frame.step (frame_serveReq _ _) rfl ?_
          refine Frame.step (frame_modFab _ _) rfl ?_
          refine Frame.step (frame_txnTake _) rfl ?_
          assumption

end Sys2Proof.Machine
end

