-- ==== Sys2Proof/Laws/Frames/PowerOps.lean ====
section
/-! SUPPORT. Frames of the operations of Machine/Phases, Update. -/

namespace Sys2Proof.Machine

set_option maxRecDepth 10000

/-- Changes at most pwr. -/
theorem frame_modPwr : ∀ (f : PwrBlk → PwrBlk) (s : State), Frame 536870912 s (modPwr f s) := by
  intro f s
  unfold modPwr
  refine Frame.step (frame_set_pwr _ _) rfl ?_
  exact Frame.refl _ _

/-- Changes at most heads, evt, tally. -/
theorem frame_logPwr : ∀ (code sev : Nat) (payload : List (Nat × Nat)) (s : State), Frame 262416 s (logPwr code sev payload s) := by
  intro code sev payload s
  unfold logPwr
  refine Frame.step (frame_logEv _ _ _ _ _) rfl ?_
  exact Frame.refl _ _

/-- Changes at most heads, evt, tally, pwr. -/
theorem frame_refuseReq : ∀ (kind : Nat) (minop late : Bool) (s : State), Frame 537133328 s (refuseReq kind minop late s) := by
  intro kind minop late s
  unfold refuseReq
  extract_lets x1 x2
  have h3 : Frame 537133328 s x1 := by
    subst x1
    refine Frame.step (frame_modPwr _ _) rfl ?_
    exact Frame.refl _ _
  clear_value x1
  have h4 : Frame 537133328 s x2 := by
    subst x2
    refine Frame.ite ?_ ?_
    · assumption
    · refine Frame.step (frame_hwBit _ _ _ _) rfl ?_
      assumption
  clear_value x2
  refine Frame.step (frame_setIrq _ _ _) rfl ?_
  refine Frame.step (frame_logPwr _ _ _ _) rfl ?_
  assumption

/-- Changes at most reports, heads, evt, tally, fab, dwin, pert. -/
theorem frame_sendActivate : ∀ (s : State), Frame 25952532 s (sendActivate s) := by
  intro s
  unfold sendActivate
  refine Frame.ite ?_ ?_
  · refine Frame.step (frame_sendFrame _ _ _ _ _ _) rfl ?_
    exact Frame.refl _ _
  · exact Frame.refl _ _

/-- Changes at most evt, tick, hurdle, core. -/
theorem frame_stopTickCore : ∀ (k : Fin 4) (s : State), Frame 1114880 s (stopTickCore k s) := by
  intro k s
  unfold stopTickCore
  extract_lets x1
  have h2 : Frame 1114880 s x1 := by
    subst x1
    refine Frame.step (frame_modCpu _ _ _) rfl ?_
    exact Frame.refl _ _
  clear_value x1
  refine Frame.step (frame_raiseLine _ _) rfl ?_
  refine Frame.step (frame_setTc _ _ _) rfl ?_
  refine Frame.step (frame_discardFresh _ _) rfl ?_
  assumption

/-- Changes at most freeCount, heads, evt, strct, tally. -/
theorem frame_trialShadow : ∀ (s : State), Frame 263442 s (trialShadow s) := by
  intro s
  unfold trialShadow
  refine Frame.ite ?_ ?_
  · refine Frame.step (frame_loadShadow _ _) rfl ?_
    exact Frame.refl _ _
  · exact Frame.refl _ _

/-- Changes at most freeCount, heads, sys, evt, tick, strct, hsw, sol, led, hurdle, time, tally, mbus, aud, acc. -/
theorem frame_doCommit : ∀ (ok : Vector Bool 5) (s : State), Frame 470251410 s (doCommit ok s) := by
  intro ok s
  unfold doCommit
  refine Frame.ite ?_ ?_
  · refine Frame.step (frame_trialShadow _) rfl ?_
    refine Frame.step (frame_audioCommit _) rfl ?_
    refine Frame.step (frame_accCommit _) rfl ?_
    refine Frame.step (frame_mbusFirstCommit _) rfl ?_
    refine Frame.step (frame_doCommitMark _ _) rfl ?_
    exact Frame.refl _ _
  · exact Frame.refl _ _

/-- Changes at most tick, core. -/
theorem frame_startTickCore : ∀ (s : State) (k : Fin 4), Frame 1049088 s (startTickCore s k) := by
  intro s k
  unfold startTickCore
  refine Frame.ite ?_ ?_
  · refine Frame.step (frame_modCpu _ _ _) rfl ?_
    refine Frame.step (frame_setTc _ _ _) rfl ?_
    exact Frame.refl _ _
  · exact Frame.refl _ _

/-- Changes at most tick, time, core. -/
theorem frame_doCoreWindowOpen : ∀ (s : State), Frame 1180160 s (doCoreWindowOpen s) := by
  intro s
  unfold doCoreWindowOpen
  refine Frame.ite ?_ ?_
  · exact Frame.refl _ _
  · extract_lets x1 x2
    have h3 : Frame 1180160 s x1 := by
      subst x1
      refine Frame.step (frame_passInTick _ _ _) rfl ?_
      exact Frame.refl _ _
    clear_value x1
    clear_value x2
    refine Frame.foldl (fun x4 k5 h6 => ?_) ?_
    · refine Frame.step (frame_startTickCore _ _) rfl ?_
      assumption
    · refine Frame.step (frame_set_tick _ _) rfl ?_
      assumption

/-- Changes at most time. -/
theorem frame_passToEnvelope : ∀ (s : State), Frame 131072 s (passToEnvelope s) := by
  intro s
  unfold passToEnvelope
  refine Frame.step (frame_passInTick _ _ _) rfl ?_
  exact Frame.refl _ _

/-- Changes at most heads, evt, tick, hurdle, tally, core. -/
theorem frame_overrun : ∀ (k : Fin 4) (s : State), Frame 1377040 s (overrun k s) := by
  intro k s
  unfold overrun
  extract_lets x1 x2 x3 x4
  clear_value x1
  have h5 : Frame 1377040 s x2 := by
    subst x2
    refine Frame.step (frame_stopTickCore _ _) rfl ?_
    exact Frame.refl _ _
  clear_value x2
  clear_value x3
  have h6 : Frame 1377040 s x4 := by
    subst x4
    refine Frame.step (frame_bump _ _ _ _ _) rfl ?_
    refine Frame.step (frame_set_tick _ _) rfl ?_
    assumption
  clear_value x4
  refine Frame.step (frame_setIrq _ _ _) rfl ?_
  refine Frame.step (frame_logEv _ _ _ _ _) rfl ?_
  assumption

/-- Changes at most heads, evt, hurdle, tally. -/
theorem frame_endEscs : ∀ (s : State), Frame 327952 s (endEscs s) := by
  intro s
  unfold endEscs
  refine Frame.foldl (fun x1 k2 h3 => ?_) ?_
  · refine Frame.step (frame_doEscEnd _ _) rfl ?_
    assumption
  · exact Frame.refl _ _

/-- Changes at most sol, hurdle. -/
theorem frame_releaseDelayed : ∀ (s : State), Frame 73728 s (releaseDelayed s) := by
  intro s
  unfold releaseDelayed
  refine Frame.foldl (fun x1 k2 h3 => ?_) ?_
  · refine Frame.foldl (fun x4 k5 h6 => ?_) ?_
    · refine Frame.step (frame_doDelayedCmdRelease _ _ _) rfl ?_
      assumption
    · assumption
  · exact Frame.refl _ _

/-- Changes at most reports, heads, sys, evt, tick, sol, led, hurdle, time, tally, core, acc. -/
theorem frame_doEnvelopePhase : ∀ (s : State), Frame 269968276 s (doEnvelopePhase s) := by
  intro s
  unfold doEnvelopePhase
  refine Frame.ite ?_ ?_
  · exact Frame.refl _ _
  · extract_lets x1 x2 x3 x4 x5 x6 x7 x8 x9 x10 x11 x12 x13 x14
    have h15 : Frame 269968276 s x1 := by
      subst x1
      refine Frame.step (frame_passToEnvelope _) rfl ?_
      exact Frame.refl _ _
    clear_value x1
    have h16 : Frame 269968276 s x2 := by
      subst x2
      refine Frame.foldl (fun x17 k18 h19 => ?_) ?_
      · refine Frame.ite ?_ ?_
        · refine Frame.step (frame_overrun _ _) rfl ?_
          assumption
        · assumption
      · assumption
    clear_value x2
    have h20 : Frame 269968276 s x3 := by
      subst x3
      refine Frame.foldl (fun x21 k22 h23 => ?_) ?_
      · refine Frame.step (frame_chainTake _ _) rfl ?_
        assumption
      · assumption
    clear_value x3
    have h24 : Frame 269968276 s x4 := by
      subst x4
      refine Frame.foldl (fun x25 k26 h27 => ?_) ?_
      · refine Frame.step (frame_peerCmd _ _) rfl ?_
        assumption
      · assumption
    clear_value x4
    have h28 : Frame 269968276 s x5 := by
      subst x5
      refine Frame.step (frame_closeIntake _) rfl ?_
      refine Frame.step (frame_sessionTick _) rfl ?_
      refine Frame.step (frame_mapTimeouts _) rfl ?_
      assumption
    clear_value x5
    have h29 : Frame 269968276 s x6 := by
      subst x6
      refine Frame.step (frame_endEscs _) rfl ?_
      assumption
    clear_value x6
    have h30 : Frame 269968276 s x7 := by
      subst x7
      refine Frame.foldl (fun x31 k32 h33 => ?_) ?_
      · refine Frame.step (frame_arbitrate _ _) rfl ?_
        assumption
      · assumption
    clear_value x7
    have h34 : Frame 269968276 s x8 := by
      subst x8
      refine Frame.step (frame_copyGroups _) rfl ?_
      assumption
    clear_value x8
    have h35 : Frame 269968276 s x9 := by
      subst x9
      refine Frame.step (frame_logHold _ _ _ _ _) rfl ?_
      assumption
    clear_value x9
    have h36 : Frame 269968276 s x10 := by
      subst x10
      refine Frame.step (frame_logHold _ _ _ _ _) rfl ?_
      assumption
    clear_value x10
    have h37 : Frame 269968276 s x11 := by
      subst x11
      refine Frame.step (frame_copyGroups _) rfl ?_
      refine Frame.step (frame_hurdle _) rfl ?_
      assumption
    clear_value x11
    have h38 : Frame 269968276 s x12 := by
      subst x12
      refine Frame.step (frame_mapOuts _ _) rfl ?_
      assumption
    clear_value x12
    clear_value x13
    clear_value x14
    refine Frame.step (frame_releaseDelayed _) rfl ?_
    refine Frame.step (frame_set_tick_led _ _ _) rfl ?_
    assumption

/-- Changes at most heads, evt, tally, pwr. -/
theorem frame_opGuard : ∀ (s : State), Frame 537133328 s (opGuard s) := by
  intro s
  unfold opGuard
  split
  · extract_lets x1 x2
    clear_value x1
    clear_value x2
    refine Frame.ite ?_ ?_
    · refine Frame.step (frame_setErr _ _ _) rfl ?_
      refine Frame.step (frame_refuseReq _ _ _ _) rfl ?_
      refine Frame.step (frame_modPwr _ _) rfl ?_
      exact Frame.refl _ _
    · refine Frame.ite ?_ ?_
      · refine Frame.step (frame_set_pwr _ _) rfl ?_
        exact Frame.refl _ _
      · exact Frame.refl _ _
  · exact Frame.refl _ _

/-- Changes at most heads, evt, tick, time, tally, mem, pwr. -/
theorem frame_doGuardBand : ∀ (rowOk : Bool) (s : State), Frame 539362064 s (doGuardBand rowOk s) := by
  intro rowOk s
  unfold doGuardBand
  refine Frame.ite ?_ ?_
  · exact Frame.refl _ _
  · extract_lets x1 x2
    have h3 : Frame 539362064 s x1 := by
      subst x1
      refine Frame.step (frame_opGuard _) rfl ?_
      refine Frame.step (frame_rowWriteBack _ _) rfl ?_
      refine Frame.step (frame_passInTick _ _ _) rfl ?_
      exact Frame.refl _ _
    clear_value x1
    clear_value x2
    refine Frame.step (frame_set_tick _ _) rfl ?_
    assumption

/-- Changes at most heads, evt, tick, hurdle, time, tally, core. -/
theorem frame_doOverrun : ∀ (k : Fin 4) (s : State), Frame 1508112 s (doOverrun k s) := by
  intro k s
  unfold doOverrun
  refine Frame.ite ?_ ?_
  · refine Frame.step (frame_overrun _ _) rfl ?_
    refine Frame.step (frame_passToEnvelope _) rfl ?_
    exact Frame.refl _ _
  · exact Frame.refl _ _

/-- Changes at most heads, evt, tick, tally. -/
theorem frame_sampleFrame : ∀ (ok : Bool) (die : Fin 5) (s : State), Frame 262928 s (sampleFrame ok die s) := by
  intro ok die s
  unfold sampleFrame
  refine Frame.ite ?_ ?_
  · refine Frame.step (frame_set_tick _ _) rfl ?_
    exact Frame.refl _ _
  · refine Frame.step (frame_logDeck _ _) rfl ?_
    refine Frame.step (frame_set_tick _ _) rfl ?_
    exact Frame.refl _ _

/-- Changes at most hsw, sol, led. -/
theorem frame_ioMark : ∀ (m : Sample) (s : State), Frame 28672 s (ioMark m s) := by
  intro m s
  unfold ioMark
  extract_lets x1 x2 x3 x4 x5 x6
  clear_value x1
  clear_value x2
  have h7 : Frame 28672 s x3 := by
    subst x3
    refine Frame.step (frame_set_led _ _) rfl ?_
    exact Frame.refl _ _
  clear_value x3
  clear_value x4
  have h8 : Frame 28672 s x5 := by
    subst x5
    refine Frame.ite ?_ ?_
    · refine Frame.step (frame_set_sol _ _) rfl ?_
      assumption
    · assumption
  clear_value x5
  clear_value x6
  refine Frame.step (frame_set_hsw _ _) rfl ?_
  assumption

/-- Changes at most heads, evt, hsw, tally, pert. -/
theorem frame_hsMark : ∀ (m : Sample) (s : State), Frame 17043728 s (hsMark m s) := by
  intro m s
  unfold hsMark
  extract_lets x1 x2 x3
  clear_value x1
  have h4 : Frame 17043728 s x2 := by
    subst x2
    refine Frame.foldl (fun x5 k6 h7 => ?_) ?_
    · refine Frame.ite ?_ ?_
      · refine Frame.step (frame_hsSampleCh _ _ _ _) rfl ?_
        assumption
      · refine Frame.step (frame_modHs _ _ _) rfl ?_
        assumption
    · exact Frame.refl _ _
  clear_value x2
  have h8 : Frame 17043728 s x3 := by
    subst x3
    refine Frame.foldl (fun x9 k10 h11 => ?_) ?_
    · extract_lets x12
      clear_value x12
      refine Frame.step (frame_hsSampleFold _ _ _) rfl ?_
      assumption
    · assumption
  clear_value x3
  split
  · refine Frame.ite ?_ ?_
    · assumption
    · refine Frame.step (frame_pertHit _ _ _) rfl ?_
      assumption
  · assumption

/-- Changes at most led. -/
theorem frame_patternMark : ∀ (s : State), Frame 16384 s (patternMark s) := by
  intro s
  unfold patternMark
  refine Frame.step (frame_set_led _ _) rfl ?_
  exact Frame.refl _ _

/-- Leaves pending, rdata, latches, held, sys, hurdle, time, core, que, key, mbus, acc, pwr, upd as it was. -/
theorem frame_doSampleMark : ∀ (m : Sample) (s : State), Frame 162332438 s (doSampleMark m s) := by
  intro m s
  unfold doSampleMark
  refine Frame.ite ?_ ?_
  · exact Frame.refl _ _
  · extract_lets x1 x2 x3 x4 x5 x6 x7
    have h8 : Frame 162332438 s x1 := by
      subst x1
      refine Frame.step (frame_lateSwap _) rfl ?_
      exact Frame.refl _ _
    clear_value x1
    have h9 : Frame 162332438 s x2 := by
      subst x2
      refine Frame.foldl (fun x10 k11 h12 => ?_) ?_
      · refine Frame.step (frame_sampleFrame _ _ _) rfl ?_
        assumption
      · assumption
    clear_value x2
    have h13 : Frame 162332438 s x3 := by
      subst x3
      refine Frame.step (frame_ioMark _ _) rfl ?_
      refine Frame.step (frame_hsMark _ _) rfl ?_
      assumption
    clear_value x3
    have h14 : Frame 162332438 s x4 := by
      subst x4
      refine Frame.step (frame_inputMark _ _) rfl ?_
      assumption
    clear_value x4
    have h15 : Frame 162332438 s x5 := by
      subst x5
      refine Frame.step (frame_patternMark _) rfl ?_
      assumption
    clear_value x5
    have h16 : Frame 162332438 s x6 := by
      subst x6
      refine Frame.step (frame_sendActivate _) rfl ?_
      refine Frame.step (frame_fabMark _) rfl ?_
      refine Frame.step (frame_audioTick _) rfl ?_
      refine Frame.step (frame_rowTestStart _) rfl ?_
      assumption
    clear_value x6
    clear_value x7
    refine Frame.step (frame_raiseLine _ _) rfl ?_
    refine Frame.step (frame_set_tick _ _) rfl ?_
    assumption

/-- Changes at most freeCount, reports, heads, evt, tick, strct, hsw, din, hurdle, time, tally, pert, aud, upd. -/
theorem frame_doStretch : ∀ (s : State), Frame 1225234198 s (doStretch s) := by
  intro s
  unfold doStretch
  extract_lets x1
  have h2 : Frame 1225234198 s x1 := by
    subst x1
    refine Frame.step (frame_doTickStretch _) rfl ?_
    exact Frame.refl _ _
  clear_value x1
  refine Frame.ite ?_ ?_
  · assumption
  · refine Frame.step (frame_strandFrames _) rfl ?_
    assumption

/-- Changes at most tick. -/
theorem frame_doTickProgramFinish : ∀ (k : Fin 4) (s : State), Frame 512 s (doTickProgramFinish k s) := by
  intro k s
  unfold doTickProgramFinish
  extract_lets x1
  clear_value x1
  refine Frame.ite ?_ ?_
  · refine Frame.step (frame_setTc _ _ _) rfl ?_
    exact Frame.refl _ _
  · exact Frame.refl _ _

/-- Changes at most heads, evt, tally. -/
theorem frame_logUpd : ∀ (code sev : Nat) (payload : List (Nat × Nat)) (s : State), Frame 262416 s (logUpd code sev payload s) := by
  intro code sev payload s
  unfold logUpd
  refine Frame.step (frame_logEv _ _ _ _ _) rfl ?_
  exact Frame.refl _ _

/-- Changes at most heads. -/
theorem frame_updErr : ∀ (i : Nat) (s : State), Frame 16 s (updErr i s) := by
  intro i s
  unfold updErr
  refine Frame.step (frame_setErr _ _ _) rfl ?_
  exact Frame.refl _ _

/-- Changes at most heads, evt, strct, tally, upd. -/
theorem frame_updBegin : ∀ (s : State), Frame 1074005264 s (updBegin s) := by
  intro s
  unfold updBegin
  extract_lets x1 x2
  clear_value x1
  have h3 : Frame 1074005264 s x2 := by
    subst x2
    refine Frame.ite ?_ ?_
    · refine Frame.step (frame_modStruct _ _) rfl ?_
      exact Frame.refl _ _
    · exact Frame.refl _ _
  clear_value x2
  refine Frame.ite ?_ ?_
  · refine Frame.step (frame_logUpd _ _ _ _) rfl ?_
    refine Frame.step (frame_modUpd _ _) rfl ?_
    assumption
  · refine Frame.step (frame_updErr _ _) rfl ?_
    exact Frame.refl _ _

/-- Changes at most freeCount, heads, evt, tally. -/
theorem frame_refuseFirmware : ∀ (pair : Bool) (s : State), Frame 262418 s (refuseFirmware pair s) := by
  intro pair s
  unfold refuseFirmware
  refine Frame.ite ?_ ?_
  · refine Frame.step (frame_refuseImage _ _) rfl ?_
    exact Frame.refl _ _
  · exact Frame.refl _ _

/-- Changes at most freeCount, heads, evt, strct, tally, upd. -/
theorem frame_updVerify : ∀ (s : State), Frame 1074005266 s (updVerify s) := by
  intro s
  unfold updVerify
  refine Frame.ite ?_ ?_
  · refine Frame.step (frame_updErr _ _) rfl ?_
    exact Frame.refl _ _
  · extract_lets x1 x2 x3
    clear_value x1
    clear_value x2
    have h4 : Frame 1074005266 s x3 := by
      subst x3
      refine Frame.step (frame_refuseFirmware _ _) rfl ?_
      refine Frame.step (frame_modUpd _ _) rfl ?_
      exact Frame.refl _ _
    clear_value x3
    refine Frame.ite ?_ ?_
    · refine Frame.step (frame_loadShadow _ _) rfl ?_
      assumption
    · assumption

/-- Changes at most heads, evt, strct, tally, upd. -/
theorem frame_armUpdate : ∀ (v : DWord) (fromFrame : Bool) (s : State), Frame 1074005264 s (armUpdate v fromFrame s) := by
  intro v fromFrame s
  unfold armUpdate
  split
  · refine Frame.step (frame_updErr _ _) rfl ?_
    exact Frame.refl _ _
  · extract_lets x1 x2 x3
    clear_value x1
    clear_value x2
    have h4 : Frame 1074005264 s x3 := by
      subst x3
      refine Frame.step (frame_modUpd _ _) rfl ?_
      exact Frame.refl _ _
    clear_value x3
    refine Frame.ite ?_ ?_
    · refine Frame.step (frame_updErr _ _) rfl ?_
      exact Frame.refl _ _
    · refine Frame.ite ?_ ?_
      · refine Frame.step (frame_updErr _ _) rfl ?_
        exact Frame.refl _ _
      · refine Frame.step (frame_logUpd _ _ _ _) rfl ?_
        refine Frame.step (frame_schedule _ _) rfl ?_
        refine Frame.step (frame_modStruct _ _) rfl ?_
        assumption

/-- Changes at most heads, evt, strct, tally, upd. -/
theorem frame_updSchedule : ∀ (s : State), Frame 1074005264 s (updSchedule s) := by
  intro s
  unfold updSchedule
  refine Frame.ite ?_ ?_
  · refine Frame.step (frame_armUpdate _ _ _) rfl ?_
    exact Frame.refl _ _
  · refine Frame.step (frame_updErr _ _) rfl ?_
    exact Frame.refl _ _

/-- Changes at most heads, evt, strct, tally, upd. -/
theorem frame_updCancel : ∀ (s : State), Frame 1074005264 s (updCancel s) := by
  intro s
  unfold updCancel
  refine Frame.ite ?_ ?_
  · refine Frame.step (frame_updErr _ _) rfl ?_
    exact Frame.refl _ _
  · refine Frame.ite ?_ ?_
    · exact Frame.refl _ _
    · extract_lets x1
      have h2 : Frame 1074005264 s x1 := by
        subst x1
        refine Frame.ite ?_ ?_
        · refine Frame.step (frame_modStruct _ _) rfl ?_
          exact Frame.refl _ _
        · exact Frame.refl _ _
      clear_value x1
      refine Frame.step (frame_actAbort _ _) rfl ?_
      assumption

/-- Changes at most mem. -/
theorem frame_putCopies : ∀ (r : BootRec) (s : State), Frame 2097152 s (putCopies r s) := by
  intro r s
  unfold putCopies
  refine Frame.step (frame_mramPut _ _ _) rfl ?_
  refine Frame.step (frame_mramPut _ _ _) rfl ?_
  exact Frame.refl _ _

/-- Changes at most mem, upd. -/
theorem frame_writeBoot : ∀ (r : BootRec) (s : State), Frame 1075838976 s (writeBoot r s) := by
  intro r s
  unfold writeBoot
  extract_lets x1
  clear_value x1
  refine Frame.step (frame_putCopies _ _) rfl ?_
  refine Frame.step (frame_modUpd _ _) rfl ?_
  exact Frame.refl _ _

/-- Changes at most heads, evt. -/
theorem frame_updIrq : ∀ (i : Nat) (s : State), Frame 272 s (updIrq i s) := by
  intro i s
  unfold updIrq
  refine Frame.step (frame_setIrq _ _ _) rfl ?_
  exact Frame.refl _ _

/-- Changes at most heads, evt, tally, mem, upd. -/
theorem frame_updConfirm : ∀ (s : State), Frame 1076101392 s (updConfirm s) := by
  intro s
  unfold updConfirm
  refine Frame.ite ?_ ?_
  · refine Frame.step (frame_updErr _ _) rfl ?_
    exact Frame.refl _ _
  · refine Frame.ite ?_ ?_
    · refine Frame.step (frame_updErr _ _) rfl ?_
      exact Frame.refl _ _
    · extract_lets x1 x2
      clear_value x1
      have h3 : Frame 1076101392 s x2 := by
        subst x2
        refine Frame.step (frame_writeBoot _ _) rfl ?_
        exact Frame.refl _ _
      clear_value x2
      refine Frame.step (frame_updIrq _ _) rfl ?_
      refine Frame.step (frame_logUpd _ _ _ _) rfl ?_
      refine Frame.step (frame_modUpd _ _) rfl ?_
      assumption

/-- Changes at most heads, evt, tally, upd. -/
theorem frame_updMigfail : ∀ (s : State), Frame 1074004240 s (updMigfail s) := by
  intro s
  unfold updMigfail
  refine Frame.ite ?_ ?_
  · refine Frame.step (frame_updErr _ _) rfl ?_
    exact Frame.refl _ _
  · extract_lets x1 x2 x3
    clear_value x1
    clear_value x2
    clear_value x3
    refine Frame.step (frame_logUpd _ _ _ _) rfl ?_
    refine Frame.step (frame_modUpd _ _) rfl ?_
    exact Frame.refl _ _

/-- Changes at most reports, heads, evt, strct, tally, fab, dwin, pert, upd. -/
theorem frame_updActsend : ∀ (s : State), Frame 1099695380 s (updActsend s) := by
  intro s
  unfold updActsend
  refine Frame.ite ?_ ?_
  · refine Frame.step (frame_updErr _ _) rfl ?_
    exact Frame.refl _ _
  · extract_lets x1
    have h2 : Frame 1099695380 s x1 := by
      subst x1
      refine Frame.step (frame_armUpdate _ _ _) rfl ?_
      exact Frame.refl _ _
    clear_value x1
    refine Frame.ite ?_ ?_
    · refine Frame.step (frame_sendActivate _) rfl ?_
      refine Frame.step (frame_modUpd _ _) rfl ?_
      assumption
    · assumption

/-- Changes at most freeCount, reports, heads, evt, strct, tally, fab, mem, dwin, pert, upd. -/
theorem frame_updCommand : ∀ (i : Nat) (s : State), Frame 1101792534 s (updCommand i s) := by
  intro i s
  unfold updCommand
  split
  · refine Frame.step (frame_updBegin _) rfl ?_
    exact Frame.refl _ _
  · refine Frame.step (frame_updVerify _) rfl ?_
    exact Frame.refl _ _
  · refine Frame.step (frame_updSchedule _) rfl ?_
    exact Frame.refl _ _
  · refine Frame.step (frame_updCancel _) rfl ?_
    exact Frame.refl _ _
  · refine Frame.step (frame_updConfirm _) rfl ?_
    exact Frame.refl _ _
  · refine Frame.step (frame_updMigfail _) rfl ?_
    exact Frame.refl _ _
  · refine Frame.step (frame_updActsend _) rfl ?_
    exact Frame.refl _ _

/-- Changes at most freeCount, reports, heads, sys, evt, strct, time, tally, fab, mem, dwin, pert, upd. -/
theorem frame_updCtrlWrite : ∀ (rq : Requester) (v : Word) (s : State), Frame 1101923734 s (updCtrlWrite rq v s) := by
  intro rq v s
  unfold updCtrlWrite
  extract_lets x1
  clear_value x1
  refine frame_wrIf _ _ _ _ _ _ _ rfl ?_ ?_
  · exact Frame.refl _ _
  · intro x2 x3
    extract_lets x4
    have h5 : Frame 1101923734 s x4 := by
      subst x4
      refine Frame.step (frame_modUpd _ _) rfl ?_
      assumption
    clear_value x4
    refine Frame.foldl (fun x6 k7 h8 => ?_) ?_
    · refine Frame.step (frame_updCommand _ _) rfl ?_
      assumption
    · assumption

/-- Changes at most tick, hurdle, core, mem, upd. -/
theorem frame_startLoad : ∀ (k : Fin 4) (s : State), Frame 1076953600 s (startLoad k s) := by
  intro k s
  unfold startLoad
  refine Frame.ite ?_ ?_
  · exact Frame.refl _ _
  · extract_lets x1 x2
    have h3 : Frame 1076953600 s x1 := by
      subst x1
      refine Frame.step (frame_voidSource _ _) rfl ?_
      refine Frame.step (frame_loadProgram _ _ _) rfl ?_
      exact Frame.refl _ _
    clear_value x1
    have h4 : Frame 1076953600 s x2 := by
      subst x2
      refine Frame.step (frame_modCpu _ _ _) rfl ?_
      refine Frame.step (frame_setTc _ _ _) rfl ?_
      assumption
    clear_value x2
    refine Frame.step (frame_modUpd _ _) rfl ?_
    assumption

/-- Changes at most heads, sys, evt, tick, hurdle, time, core, mem, upd. -/
theorem frame_tploadWrite : ∀ (rq : Requester) (v : Word) (s : State), Frame 1077085072 s (tploadWrite rq v s) := by
  intro rq v s
  unfold tploadWrite
  refine frame_wrIf _ _ _ _ _ _ _ rfl ?_ ?_
  · exact Frame.refl _ _
  · intro x1 x2
    extract_lets x3 x4
    clear_value x3
    have h5 : Frame 1077085072 s x4 := by
      subst x4
      refine Frame.step (frame_modUpd _ _) rfl ?_
      assumption
    clear_value x4
    refine Frame.ite ?_ ?_
    · refine Frame.step (frame_startLoad _ _) rfl ?_
      assumption
    · assumption

/-- Leaves pending, freeCount, reports, rdata, latches, held, fab, dwin, pert, key, pwr as it was. -/
theorem frame_bringPair : ∀ (s : State), Frame 1551368080 s (bringPair s) := by
  intro s
  unfold bringPair
  split
  · refine Frame.ite ?_ ?_
    · refine Frame.step (frame_lagging _ _) rfl ?_
      refine Frame.step (frame_exchange _ _ _) rfl ?_
      refine Frame.step (frame_lateSwap _) rfl ?_
      exact Frame.refl _ _
    · exact Frame.refl _ _
  · exact Frame.refl _ _

/-- Changes at most heads, upd. -/
theorem frame_rxRefuse : ∀ (s : State), Frame 1073741840 s (rxRefuse s) := by
  intro s
  unfold rxRefuse
  refine Frame.step (frame_bump _ _ _ _ _) rfl ?_
  refine Frame.step (frame_modUpd _ _) rfl ?_
  exact Frame.refl _ _

/-- Changes at most mem. -/
theorem frame_placeChunk : ∀ (off : Nat) (data : List Byte) (a n dst : Nat) (s : State), Frame 2097152 s (placeChunk off data a n dst s) := by
  intro off data a n dst s
  unfold placeChunk
  extract_lets x1 x2
  clear_value x1
  clear_value x2
  refine Frame.ite ?_ ?_
  · refine Frame.step (frame_mramPut _ _ _) rfl ?_
    exact Frame.refl _ _
  · exact Frame.refl _ _

/-- Changes at most heads, evt, tally. -/
theorem frame_bundleDone : ∀ (before : Word) (s : State), Frame 262416 s (bundleDone before s) := by
  intro before s
  unfold bundleDone
  refine Frame.ite ?_ ?_
  · refine Frame.step (frame_updIrq _ _) rfl ?_
    refine Frame.step (frame_logUpd _ _ _ _) rfl ?_
    exact Frame.refl _ _
  · exact Frame.refl _ _

/-- Changes at most heads, evt, tally, mem, upd. -/
theorem frame_storeChunk : ∀ (r : BundleRx) (off : Nat) (data header : List Byte) (s : State), Frame 1076101392 s (storeChunk r off data header s) := by
  intro r off data header s
  unfold storeChunk
  extract_lets x1 x2 x3 x4 x5 x6
  clear_value x1
  clear_value x2
  clear_value x3
  clear_value x4
  have h7 : Frame 1076101392 s x5 := by
    subst x5
    refine Frame.step (frame_placeChunk _ _ _ _ _ _) rfl ?_
    refine Frame.step (frame_placeChunk _ _ _ _ _ _) rfl ?_
    exact Frame.refl _ _
  clear_value x5
  clear_value x6
  refine Frame.ite ?_ ?_
  · refine Frame.step (frame_rxRefuse _) rfl ?_
    exact Frame.refl _ _
  · refine Frame.step (frame_bundleDone _ _) rfl ?_
    refine Frame.step (frame_modUpd _ _) rfl ?_
    assumption

/-- Changes at most heads, evt, tally, mem, upd. -/
theorem frame_placeEarly : ∀ (header : List Byte) (cs : List (Nat × List Byte)) (s : State), Frame 1076101392 s (placeEarly header cs s) := by
  intro header cs s
  unfold placeEarly
  refine Frame.foldl (fun x1 k2 h3 => ?_) ?_
  · split
    · refine Frame.step (frame_storeChunk _ _ _ _ _) rfl ?_
      assumption
    · assumption
  · exact Frame.refl _ _

/-- Changes at most heads, evt, tally, mem, upd. -/
theorem frame_takeChunk : ∀ (r : BundleRx) (off : Nat) (data : List Byte) (s : State), Frame 1076101392 s (takeChunk r off data s) := by
  intro r off data s
  unfold takeChunk
  refine Frame.ite ?_ ?_
  · exact Frame.refl _ _
  · extract_lets x1 x2 x3
    clear_value x1
    clear_value x2
    clear_value x3
    refine Frame.ite ?_ ?_
    · refine Frame.step (frame_modUpd _ _) rfl ?_
      exact Frame.refl _ _
    · refine Frame.ite ?_ ?_
      · refine Frame.step (frame_storeChunk _ _ _ _ _) rfl ?_
        exact Frame.refl _ _
      · refine Frame.step (frame_placeEarly _ _ _) rfl ?_
        refine Frame.step (frame_modUpd _ _) rfl ?_
        exact Frame.refl _ _

/-- Changes at most heads, evt, tally, mem, upd. -/
theorem frame_bundleData : ∀ (pay : List Byte) (s : State), Frame 1076101392 s (bundleData pay s) := by
  intro pay s
  unfold bundleData
  extract_lets x1 x2 x3
  clear_value x1
  clear_value x2
  have h4 : Frame 1076101392 s x3 := by
    subst x3
    refine Frame.ite ?_ ?_
    · refine Frame.step (frame_modUpd _ _) rfl ?_
      exact Frame.refl _ _
    · exact Frame.refl _ _
  clear_value x3
  refine Frame.ite ?_ ?_
  · assumption
  · refine Frame.ite ?_ ?_
    · refine Frame.step (frame_rxRefuse _) rfl ?_
      assumption
    · refine Frame.step (frame_takeChunk _ _ _ _) rfl ?_
      assumption

/-- Changes at most reports, heads, evt, strct, tally, fab, upd. -/
theorem frame_doActivateRx : ∀ (p : Fin 2) (f : List Byte) (s : State), Frame 1074529556 s (doActivateRx p f s) := by
  intro p f s
  unfold doActivateRx
  refine frame_consume _ _ _ _ _ rfl ?_ ?_
  · exact Frame.refl _ _
  · intro x1 x2
    extract_lets x3 x4
    clear_value x3
    clear_value x4
    refine Frame.ite ?_ ?_
    · refine Frame.step (frame_armUpdate _ _ _) rfl ?_
      refine Frame.step (frame_modUpd _ _) rfl ?_
      assumption
    · assumption

/-- Changes at most reports, heads, evt, hurdle, time, tally, core, mem, dwin, pert. -/
theorem frame_reloadShepherd : ∀ (s : State), Frame 28770580 s (reloadShepherd s) := by
  intro s
  unfold reloadShepherd
  refine Frame.ite ?_ ?_
  · exact Frame.refl _ _
  · refine Frame.step (frame_stopShepherd _ _) rfl ?_
    exact Frame.refl _ _

/-- Leaves pending, freeCount, rdata, latches, held, fab, pwr as it was. -/
theorem frame_doActivated : ∀ (s : State), Frame 1610088340 s (doActivated s) := by
  intro s
  unfold doActivated
  refine Frame.ite ?_ ?_
  · extract_lets x1 x2 x3 x4
    have h5 : Frame 1610088340 s x1 := by
      subst x1
      refine Frame.step (frame_reloadShepherd _) rfl ?_
      refine Frame.step (frame_bringPair _) rfl ?_
      exact Frame.refl _ _
    clear_value x1
    have h6 : Frame 1610088340 s x2 := by
      subst x2
      refine Frame.step (frame_modUpd _ _) rfl ?_
      assumption
    clear_value x2
    clear_value x3
    have h7 : Frame 1610088340 s x4 := by
      subst x4
      refine Frame.step (frame_set_key _ _) rfl ?_
      assumption
    clear_value x4
    refine Frame.step (frame_updIrq _ _) rfl ?_
    refine Frame.step (frame_logUpd _ _ _ _) rfl ?_
    assumption
  · exact Frame.refl _ _

/-- Changes at most freeCount, reports, heads, sys, evt, strct, time, tally, fab, mem, dwin, pert, upd. -/
theorem frame_updRow : ∀ (i : Nat) (rq : Requester) (s : State), Frame 1101923734 s (updRow i rq s) := by
  intro i rq s
  unfold updRow
  refine Frame.step (frame_updCtrlWrite _ _ _) rfl ?_
  exact Frame.refl _ _

/-- Changes at most freeCount, reports, heads, sys, evt, strct, time, tally, fab, mem, dwin, pert, upd. -/
theorem frame_doActsend : ∀ (rq : Requester) (s : State), Frame 1101923734 s (doActsend rq s) := by
  intro rq s
  unfold doActsend
  refine Frame.step (frame_updRow _ _ _) rfl ?_
  exact Frame.refl _ _

/-- Changes at most freeCount, reports, heads, sys, evt, strct, time, tally, fab, mem, dwin, pert, upd. -/
theorem frame_doBegin : ∀ (rq : Requester) (s : State), Frame 1101923734 s (doBegin rq s) := by
  intro rq s
  unfold doBegin
  refine Frame.step (frame_updRow _ _ _) rfl ?_
  exact Frame.refl _ _

/-- Changes at most mem, upd. -/
theorem frame_doBootRecordWrite : ∀ (s : State), Frame 1075838976 s (doBootRecordWrite s) := by
  intro s
  unfold doBootRecordWrite
  refine Frame.ite ?_ ?_
  · exact Frame.refl _ _
  · refine Frame.ite ?_ ?_
    · refine Frame.ite ?_ ?_
      · refine Frame.ite ?_ ?_
        · refine Frame.step (frame_modUpd _ _) rfl ?_
          refine Frame.step (frame_writeBoot _ _) rfl ?_
          exact Frame.refl _ _
        · exact Frame.refl _ _
      · refine Frame.ite ?_ ?_
        · refine Frame.step (frame_modUpd _ _) rfl ?_
          refine Frame.step (frame_writeBoot _ _) rfl ?_
          exact Frame.refl _ _
        · exact Frame.refl _ _
    · refine Frame.ite ?_ ?_
      · refine Frame.step (frame_modUpd _ _) rfl ?_
        refine Frame.step (frame_writeBoot _ _) rfl ?_
        exact Frame.refl _ _
      · exact Frame.refl _ _

/-- Changes at most reports, heads, evt, tally, fab, mem, upd. -/
theorem frame_doBundleDataRx : ∀ (p : Fin 2) (f : List Byte) (s : State), Frame 1076625684 s (doBundleDataRx p f s) := by
  intro p f s
  unfold doBundleDataRx
  refine frame_consume _ _ _ _ _ rfl ?_ ?_
  · exact Frame.refl _ _
  · intro x1 x2
    refine Frame.ite ?_ ?_
    · refine Frame.step (frame_bundleData _ _) rfl ?_
      assumption
    · assumption

/-- Changes at most freeCount, reports, heads, sys, evt, strct, time, tally, fab, mem, dwin, pert, upd. -/
theorem frame_doConfirm : ∀ (rq : Requester) (s : State), Frame 1101923734 s (doConfirm rq s) := by
  intro rq s
  unfold doConfirm
  refine Frame.step (frame_updRow _ _ _) rfl ?_
  exact Frame.refl _ _

/-- Leaves pending, freeCount, rdata, latches, held, fab, pwr as it was. -/
theorem frame_doFallback : ∀ (s : State), Frame 1610088340 s (doFallback s) := by
  intro s
  unfold doFallback
  refine Frame.ite ?_ ?_
  · extract_lets x1 x2 x3 x4 x5
    have h6 : Frame 1610088340 s x1 := by
      subst x1
      refine Frame.step (frame_reloadShepherd _) rfl ?_
      refine Frame.step (frame_bringPair _) rfl ?_
      exact Frame.refl _ _
    clear_value x1
    clear_value x2
    have h7 : Frame 1610088340 s x3 := by
      subst x3
      refine Frame.step (frame_modUpd _ _) rfl ?_
      assumption
    clear_value x3
    clear_value x4
    have h8 : Frame 1610088340 s x5 := by
      subst x5
      refine Frame.step (frame_set_key _ _) rfl ?_
      assumption
    clear_value x5
    refine Frame.step (frame_updIrq _ _) rfl ?_
    refine Frame.step (frame_logUpd _ _ _ _) rfl ?_
    assumption
  · exact Frame.refl _ _

/-- Changes at most freeCount, reports, heads, sys, evt, strct, time, tally, fab, mem, dwin, pert, upd. -/
theorem frame_doMigfail : ∀ (rq : Requester) (s : State), Frame 1101923734 s (doMigfail rq s) := by
  intro rq s
  unfold doMigfail
  refine Frame.step (frame_updRow _ _ _) rfl ?_
  exact Frame.refl _ _

/-- Changes at most freeCount, reports, heads, sys, evt, strct, time, tally, fab, mem, dwin, pert, upd. -/
theorem frame_doSchedule : ∀ (rq : Requester) (s : State), Frame 1101923734 s (doSchedule rq s) := by
  intro rq s
  unfold doSchedule
  refine Frame.step (frame_updRow _ _ _) rfl ?_
  exact Frame.refl _ _

/-- Changes at most core, mem, upd. -/
theorem frame_loadedProgram : ∀ (k : Fin 4) (d : List Byte) (s : State), Frame 1076887552 s (loadedProgram k d s) := by
  intro k d s
  unfold loadedProgram
  refine Frame.step (frame_modCpu _ _ _) rfl ?_
  refine Frame.step (frame_modUpd _ _) rfl ?_
  refine Frame.step (frame_clearLocal _ _) rfl ?_
  exact Frame.refl _ _

/-- Changes at most heads, evt, tally, core, mem, upd. -/
theorem frame_doTploadDone : ∀ (k : Fin 4) (s : State), Frame 1077149968 s (doTploadDone k s) := by
  intro k s
  unfold doTploadDone
  refine Frame.ite ?_ ?_
  · exact Frame.refl _ _
  · extract_lets x1 x2 x3
    clear_value x1
    clear_value x2
    clear_value x3
    refine Frame.ite ?_ ?_
    · refine Frame.step (frame_loadedProgram _ _ _) rfl ?_
      exact Frame.refl _ _
    · refine Frame.step (frame_logUpd _ _ _ _) rfl ?_
      refine Frame.step (frame_modUpd _ _) rfl ?_
      exact Frame.refl _ _

/-- Changes at most freeCount, heads, evt, tally, core, key. -/
theorem frame_tamperReload : ∀ (s : State), Frame 34865426 s (tamperReload s) := by
  intro s
  unfold tamperReload
  refine Frame.ite ?_ ?_
  · exact Frame.refl _ _
  · refine Frame.ite ?_ ?_
    · extract_lets x1
      clear_value x1
      refine Frame.step (frame_modCore _ _) rfl ?_
      refine Frame.step (frame_logEv _ _ _ _ _) rfl ?_
      refine Frame.step (frame_markSlot _ _) rfl ?_
      refine Frame.step (frame_tickFree _) rfl ?_
      exact Frame.refl _ _
    · refine Frame.step (frame_tickFree _) rfl ?_
      exact Frame.refl _ _

/-- Changes at most heads, sys, evt, tick, hurdle, time, core, mem, upd. -/
theorem frame_doTpload : ∀ (rq : Requester) (core : Fin 4) (s : State), Frame 1077085072 s (doTpload rq core s) := by
  intro rq core s
  unfold doTpload
  refine Frame.step (frame_tploadWrite _ _ _) rfl ?_
  exact Frame.refl _ _

/-- Changes at most freeCount, reports, heads, sys, evt, strct, time, tally, fab, mem, dwin, pert, upd. -/
theorem frame_doUpdCancel : ∀ (rq : Requester) (s : State), Frame 1101923734 s (doUpdCancel rq s) := by
  intro rq s
  unfold doUpdCancel
  refine Frame.step (frame_updRow _ _ _) rfl ?_
  exact Frame.refl _ _

/-- Changes at most reports, heads, evt, tally, fab, dwin, pert, upd. -/
theorem frame_doUpdStatusTx : ∀ (s : State), Frame 1099694356 s (doUpdStatusTx s) := by
  intro s
  unfold doUpdStatusTx
  refine Frame.ite ?_ ?_
  · extract_lets x1
    clear_value x1
    refine Frame.step (frame_sendFrame _ _ _ _ _ _) rfl ?_
    refine Frame.step (frame_modUpd _ _) rfl ?_
    exact Frame.refl _ _
  · exact Frame.refl _ _

/-- Changes at most heads, evt, tally, upd. -/
theorem frame_verifyFailed : ∀ (reason : Nat) (s : State), Frame 1074004240 s (verifyFailed reason s) := by
  intro reason s
  unfold verifyFailed
  refine Frame.step (frame_updIrq _ _) rfl ?_
  refine Frame.step (frame_logUpd _ _ _ _) rfl ?_
  refine Frame.step (frame_modUpd _ _) rfl ?_
  exact Frame.refl _ _

/-- Changes at most freeCount, heads, evt, tally, upd. -/
theorem frame_doVerified : ∀ (s : State), Frame 1074004242 s (doVerified s) := by
  intro s
  unfold doVerified
  split
  · exact Frame.refl _ _
  · split
    · extract_lets x1
      clear_value x1
      refine Frame.step (frame_updIrq _ _) rfl ?_
      refine Frame.step (frame_logUpd _ _ _ _) rfl ?_
      refine Frame.step (frame_modUpd _ _) rfl ?_
      exact Frame.refl _ _
    · refine Frame.step (frame_tickFree _) rfl ?_
      refine Frame.step (frame_verifyFailed _ _) rfl ?_
      exact Frame.refl _ _
    · exact Frame.refl _ _
  · refine Frame.step (frame_verifyFailed _ _) rfl ?_
    exact Frame.refl _ _

/-- Changes at most freeCount, reports, heads, sys, evt, strct, time, tally, fab, mem, dwin, pert, upd. -/
theorem frame_doVerify : ∀ (rq : Requester) (s : State), Frame 1101923734 s (doVerify rq s) := by
  intro rq s
  unfold doVerify
  refine Frame.step (frame_updRow _ _ _) rfl ?_
  exact Frame.refl _ _

end Sys2Proof.Machine
end

