-- ==== Sys2Proof/Laws/Frames/StartOps.lean ====
section
/-! SUPPORT. Frames of the operations of Machine/Power, MemoryEngine, Start. -/

namespace Sys2Proof.Machine

set_option maxRecDepth 10000

/-- Changes at most heads, evt, tally, pwr. -/
theorem frame_powerReq : ∀ (kind : Nat) (sched : Option DWord) (net falseWake : Bool) (s : State),
  Frame 537133328 s (powerReq kind sched net falseWake s) := by
  intro kind sched net falseWake s
  unfold powerReq
  refine Frame.ite ?_ ?_
  · refine Frame.step (frame_refuseReq _ _ _ _) rfl ?_
    exact Frame.refl _ _
  · extract_lets x1
    clear_value x1
    refine Frame.ite ?_ ?_
    · refine Frame.step (frame_refuseReq _ _ _ _) rfl ?_
      exact Frame.refl _ _
    · refine Frame.step (frame_modPwr _ _) rfl ?_
      exact Frame.refl _ _

/-- Changes at most heads, sys, evt, time, tally, pwr. -/
theorem frame_reqWrite : ∀ (rq : Requester) (v : Word) (s : State), Frame 537264528 s (reqWrite rq v s) := by
  intro rq v s
  unfold reqWrite
  refine frame_wrIf _ _ _ _ _ _ _ rfl ?_ ?_
  · exact Frame.refl _ _
  · intro x1 x2
    refine Frame.step (frame_powerReq _ _ _ _ _) rfl ?_
    assumption

/-- Changes at most heads, sys, evt, time, tally, pwr. -/
theorem frame_opWrite : ∀ (rq : Requester) (v : Word) (s : State), Frame 537264528 s (opWrite rq v s) := by
  intro rq v s
  unfold opWrite
  refine frame_wrIf _ _ _ _ _ _ _ rfl ?_ ?_
  · exact Frame.refl _ _
  · intro x1 x2
    extract_lets x3
    clear_value x3
    refine Frame.ite ?_ ?_
    · refine Frame.step (frame_refuseReq _ _ _ _) rfl ?_
      assumption
    · refine Frame.ite ?_ ?_
      · refine Frame.step (frame_refuseReq _ _ _ _) rfl ?_
        refine Frame.step (frame_setErr _ _ _) rfl ?_
        assumption
      · refine Frame.step (frame_modPwr _ _) rfl ?_
        assumption

/-- Changes at most fab. -/
theorem frame_sendAbort : ∀ (s : State), Frame 524288 s (sendAbort s) := by
  intro s
  unfold sendAbort
  refine Frame.ite ?_ ?_
  · exact Frame.refl _ _
  · extract_lets x1
    clear_value x1
    refine Frame.foldl (fun x2 k3 h4 => ?_) ?_
    · refine Frame.step (frame_modPort _ _ _) rfl ?_
      assumption
    · refine Frame.step (frame_modFab _ _) rfl ?_
      exact Frame.refl _ _

/-- Changes at most heads, evt, tally, fab, pwr. -/
theorem frame_cancelRest : ∀ (causes : Half) (awake abort : Bool) (s : State), Frame 537657616 s (cancelRest causes awake abort s) := by
  intro causes awake abort s
  unfold cancelRest
  extract_lets x1 x2 x3 x4
  clear_value x1
  clear_value x2
  have h5 : Frame 537657616 s x3 := by
    subst x3
    refine Frame.step (frame_modPwr _ _) rfl ?_
    exact Frame.refl _ _
  clear_value x3
  have h6 : Frame 537657616 s x4 := by
    subst x4
    refine Frame.step (frame_setIrq _ _ _) rfl ?_
    refine Frame.step (frame_logPwr _ _ _ _) rfl ?_
    refine Frame.step (frame_hwBit _ _ _ _) rfl ?_
    assumption
  clear_value x4
  refine Frame.ite ?_ ?_
  · refine Frame.step (frame_sendAbort _) rfl ?_
    assumption
  · assumption

/-- Changes at most heads, sys, evt, time, tally, fab, pwr. -/
theorem frame_nsCtrlWrite : ∀ (rq : Requester) (v : Word) (s : State), Frame 537788816 s (nsCtrlWrite rq v s) := by
  intro rq v s
  unfold nsCtrlWrite
  refine frame_wrIf _ _ _ _ _ _ _ rfl ?_ ?_
  · exact Frame.refl _ _
  · intro x1 x2
    extract_lets x3 x4 x5
    clear_value x3
    clear_value x4
    have h6 : Frame 537788816 s x5 := by
      subst x5
      refine Frame.step (frame_modPwr _ _) rfl ?_
      assumption
    clear_value x5
    refine Frame.ite ?_ ?_
    · refine Frame.step (frame_cancelRest _ _ _ _) rfl ?_
      assumption
    · assumption

/-- Changes at most hsw, sol, led. -/
theorem frame_dark : ∀ (s : State), Frame 28672 s (dark s) := by
  intro s
  unfold dark
  refine Frame.step (frame_set_hsw_sol_led _ _ _ _) rfl ?_
  exact Frame.refl _ _

/-- Changes at most heads, evt, time, tally, pwr. -/
theorem frame_doFalseWake : ∀ (s : State), Frame 537264400 s (doFalseWake s) := by
  intro s
  unfold doFalseWake
  refine Frame.ite ?_ ?_
  · extract_lets x1 x2 x3
    have h4 : Frame 537264400 s x1 := by
      subst x1
      refine Frame.step (frame_passTo _ _ _) rfl ?_
      exact Frame.refl _ _
    clear_value x1
    have h5 : Frame 537264400 s x2 := by
      subst x2
      refine Frame.step (frame_bump _ _ _ _ _) rfl ?_
      refine Frame.step (frame_modPwr _ _) rfl ?_
      assumption
    clear_value x2
    have h6 : Frame 537264400 s x3 := by
      subst x3
      refine Frame.step (frame_logPwr _ _ _ _) rfl ?_
      assumption
    clear_value x3
    refine Frame.step (frame_powerReq _ _ _ _ _) rfl ?_
    assumption
  · exact Frame.refl _ _

/-- Changes at most reports, heads, evt, tally, fab, pwr. -/
theorem frame_doNsAbort : ∀ (p : Fin 2) (f : List Byte) (s : State), Frame 537657620 s (doNsAbort p f s) := by
  intro p f s
  unfold doNsAbort
  refine frame_consume _ _ _ _ _ rfl ?_ ?_
  · exact Frame.refl _ _
  · intro x1 x2
    extract_lets x3 x4
    clear_value x3
    have h5 : Frame 537657620 s x4 := by
      subst x4
      refine Frame.step (frame_modPwr _ _) rfl ?_
      assumption
    clear_value x4
    refine Frame.ite ?_ ?_
    · assumption
    · refine Frame.ite ?_ ?_
      · refine Frame.step (frame_setIrq _ _ _) rfl ?_
        refine Frame.step (frame_logPwr _ _ _ _) rfl ?_
        refine Frame.step (frame_cancelRest _ _ _ _) rfl ?_
        assumption
      · assumption

/-- Changes at most reports, heads, evt, tally, fab, dwin, pert, pwr. -/
theorem frame_sendCommand : ∀ (s : State), Frame 562823444 s (sendCommand s) := by
  intro s
  unfold sendCommand
  split
  · refine Frame.ite ?_ ?_
    · refine Frame.step (frame_sendFrame _ _ _ _ _ _) rfl ?_
      exact Frame.refl _ _
    · refine Frame.step (frame_modPwr _ _) rfl ?_
      exact Frame.refl _ _
  · exact Frame.refl _ _

/-- Changes at most heads, evt, tally, pwr. -/
theorem frame_takeCommand : ∀ (c : DWord) (s : State), Frame 537133328 s (takeCommand c s) := by
  intro c s
  unfold takeCommand
  extract_lets x1 x2 x3
  have h4 : Frame 537133328 s x2 := by
    subst x2
    refine Frame.step (frame_powerReq _ _ _ _ _) rfl ?_
    exact Frame.refl _ _
  clear_value x2
  clear_value x3
  refine Frame.ite ?_ ?_
  · refine Frame.step (frame_modPwr _ _) rfl ?_
    exact Frame.refl _ _
  · refine Frame.ite ?_ ?_
    · refine Frame.step (frame_setIrq _ _ _) rfl ?_
      refine Frame.step (frame_logPwr _ _ _ _) rfl ?_
      refine Frame.step (frame_modPwr _ _) rfl ?_
      assumption
    · refine Frame.step (frame_modPwr _ _) rfl ?_
      assumption

/-- Changes at most reports, heads, evt, tally, fab, dwin, pert, pwr. -/
theorem frame_doNsCommand : ∀ (s : State), Frame 562823444 s (doNsCommand s) := by
  intro s
  unfold doNsCommand
  refine Frame.ite ?_ ?_
  · extract_lets x1
    clear_value x1
    refine Frame.step (frame_sendCommand _) rfl ?_
    refine Frame.step (frame_modPwr _ _) rfl ?_
    refine Frame.step (frame_takeCommand _ _) rfl ?_
    exact Frame.refl _ _
  · exact Frame.refl _ _

/-- Changes at most reports, heads, evt, tally, fab, pwr. -/
theorem frame_doNsCommandRx : ∀ (p : Fin 2) (f : List Byte) (s : State), Frame 537657620 s (doNsCommandRx p f s) := by
  intro p f s
  unfold doNsCommandRx
  refine frame_consume _ _ _ _ _ rfl ?_ ?_
  · exact Frame.refl _ _
  · intro x1 x2
    extract_lets x3 x4
    clear_value x3
    clear_value x4
    refine Frame.ite ?_ ?_
    · refine Frame.step (frame_takeCommand _ _) rfl ?_
      assumption
    · assumption

/-- Changes at most heads, sys, evt, time, tally, fab, pwr. -/
theorem frame_doNsCtrlWrite : ∀ (rq : Requester) (v : Word) (s : State), Frame 537788816 s (doNsCtrlWrite rq v s) := by
  intro rq v s
  unfold doNsCtrlWrite
  refine Frame.step (frame_nsCtrlWrite _ _ _) rfl ?_
  exact Frame.refl _ _

/-- Changes at most heads, evt, tally, pwr. -/
theorem frame_doNsMissed : ∀ (s : State), Frame 537133328 s (doNsMissed s) := by
  intro s
  unfold doNsMissed
  split
  · refine Frame.ite ?_ ?_
    · refine Frame.step (frame_logPwr _ _ _ _) rfl ?_
      refine Frame.step (frame_modPwr _ _) rfl ?_
      exact Frame.refl _ _
    · exact Frame.refl _ _
  · exact Frame.refl _ _

/-- Changes at most heads, evt, time, tally, pwr. -/
theorem frame_doNsVoteExpired : ∀ (pos : Fin 65) (s : State), Frame 537264400 s (doNsVoteExpired pos s) := by
  intro pos s
  unfold doNsVoteExpired
  extract_lets x1 x2 x3
  clear_value x1
  clear_value x2
  clear_value x3
  refine Frame.ite ?_ ?_
  · exact Frame.refl _ _
  · refine Frame.ite ?_ ?_
    · refine Frame.step (frame_modPwr _ _) rfl ?_
      exact Frame.refl _ _
    · split
      · refine Frame.ite ?_ ?_
        · refine Frame.step (frame_logPwr _ _ _ _) rfl ?_
          refine Frame.step (frame_modPwr _ _) rfl ?_
          refine Frame.step (frame_passTo _ _ _) rfl ?_
          exact Frame.refl _ _
        · exact Frame.refl _ _
      · exact Frame.refl _ _

/-- Changes at most reports, heads, evt, tally, fab, pwr. -/
theorem frame_doNsVoteRx : ∀ (p : Fin 2) (f : List Byte) (s : State), Frame 537657620 s (doNsVoteRx p f s) := by
  intro p f s
  unfold doNsVoteRx
  refine frame_consume _ _ _ _ _ rfl ?_ ?_
  · exact Frame.refl _ _
  · intro x1 x2
    extract_lets x3 x4
    clear_value x3
    clear_value x4
    refine Frame.ite ?_ ?_
    · refine Frame.step (frame_modPwr _ _) rfl ?_
      assumption
    · assumption

/-- Changes at most reports, heads, evt, tally, fab, dwin, pert, pwr. -/
theorem frame_doNsVoteTx : ∀ (s : State), Frame 562823444 s (doNsVoteTx s) := by
  intro s
  unfold doNsVoteTx
  extract_lets x1
  clear_value x1
  refine Frame.ite ?_ ?_
  · refine Frame.step (frame_sendFrame _ _ _ _ _ _) rfl ?_
    refine Frame.step (frame_modPwr _ _) rfl ?_
    exact Frame.refl _ _
  · exact Frame.refl _ _

/-- Changes at most heads, sys, evt, time, tally, pwr. -/
theorem frame_doOffReq : ∀ (rq : Requester) (sched : Bool) (s : State), Frame 537264528 s (doOffReq rq sched s) := by
  intro rq sched s
  unfold doOffReq
  refine Frame.step (frame_reqWrite _ _ _) rfl ?_
  exact Frame.refl _ _

/-- Changes at most heads, evt, time, tally, pwr. -/
theorem frame_doOpChange : ∀ (s : State), Frame 537264400 s (doOpChange s) := by
  intro s
  unfold doOpChange
  split
  · refine Frame.ite ?_ ?_
    · extract_lets x1
      have h2 : Frame 537264400 s x1 := by
        subst x1
        refine Frame.ite ?_ ?_
        · refine Frame.step (frame_passTo _ _ _) rfl ?_
          exact Frame.refl _ _
        · exact Frame.refl _ _
      clear_value x1
      refine Frame.step (frame_logPwr _ _ _ _) rfl ?_
      refine Frame.step (frame_modPwr _ _) rfl ?_
      assumption
    · exact Frame.refl _ _
  · exact Frame.refl _ _

/-- Changes at most heads, sys, evt, time, tally, pwr. -/
theorem frame_doOpReq : ∀ (rq : Requester) (v : Fin 4) (s : State), Frame 537264528 s (doOpReq rq v s) := by
  intro rq v s
  unfold doOpReq
  refine Frame.step (frame_opWrite _ _ _) rfl ?_
  exact Frame.refl _ _

/-- Changes at most tick, hsw, sol, led, pwr. -/
theorem frame_goOff : ∀ (cause : Nat) (s : State), Frame 536900096 s (goOff cause s) := by
  intro cause s
  unfold goOff
  refine Frame.step (frame_modPwr _ _) rfl ?_
  refine Frame.step (frame_dark _) rfl ?_
  refine Frame.step (frame_set_tick _ _) rfl ?_
  exact Frame.refl _ _

/-- Changes at most heads, evt, tally, fab, pwr. -/
theorem frame_doReqCancelled : ∀ (sources : Half) (pins : BitVec 4) (s : State), Frame 537657616 s (doReqCancelled sources pins s) := by
  intro sources pins s
  unfold doReqCancelled
  extract_lets x1
  clear_value x1
  refine Frame.ite ?_ ?_
  · exact Frame.refl _ _
  · refine Frame.ite ?_ ?_
    · refine Frame.step (frame_cancelRest _ _ _ _) rfl ?_
      exact Frame.refl _ _
    · refine Frame.step (frame_modPwr _ _) rfl ?_
      exact Frame.refl _ _

/-- Changes at most heads, evt, hsw, sol, led, tally. -/
theorem frame_lanesOff : ∀ (s : State), Frame 291088 s (lanesOff s) := by
  intro s
  unfold lanesOff
  extract_lets x1 x2 x3
  have h4 : Frame 291088 s x1 := by
    subst x1
    refine Frame.foldl (fun x5 k6 h7 => ?_) ?_
    · refine Frame.step (frame_modSol _ _ _) rfl ?_
      refine Frame.step (frame_solAbort _ _) rfl ?_
      assumption
    · exact Frame.refl _ _
  clear_value x1
  have h8 : Frame 291088 s x2 := by
    subst x2
    refine Frame.foldl (fun x9 k10 h11 => ?_) ?_
    · refine Frame.step (frame_hsCommit _ _ _) rfl ?_
      assumption
    · assumption
  clear_value x2
  clear_value x3
  refine Frame.step (frame_set_led _ _) rfl ?_
  assumption

/-- Changes at most heads, evt, tally. -/
theorem frame_logTrxRest : ∀ (s : State), Frame 262416 s (logTrxRest s) := by
  intro s
  unfold logTrxRest
  refine Frame.foldl (fun x1 k2 h3 => ?_) ?_
  · extract_lets x4
    clear_value x4
    refine Frame.ite ?_ ?_
    · assumption
    · refine Frame.step (frame_logEv _ _ _ _ _) rfl ?_
      assumption
  · exact Frame.refl _ _

/-- Changes at most heads, sys, evt, tick, strct, hsw, sol, led, hurdle, tally, mem, pert, aud, acc, pwr, upd. -/
theorem frame_doRestEnter : ∀ (s : State), Frame 2032498576 s (doRestEnter s) := by
  intro s
  unfold doRestEnter
  refine Frame.ite ?_ ?_
  · exact Frame.refl _ _
  · extract_lets x1 x2 x3 x4 x5 x6 x7 x8 x9 x10 x11 x12 x13 x14
    clear_value x1
    clear_value x2
    clear_value x3
    have h15 : Frame 2032498576 s x4 := by
      subst x4
      refine Frame.step (frame_logPwr _ _ _ _) rfl ?_
      exact Frame.refl _ _
    clear_value x4
    have h16 : Frame 2032498576 s x5 := by
      subst x5
      refine Frame.step (frame_accRest _) rfl ?_
      refine Frame.step (frame_lanesOff _) rfl ?_
      refine Frame.ite ?_ ?_
      · assumption
      · refine Frame.step (frame_logTrxRest _) rfl ?_
        assumption
    clear_value x5
    have h17 : Frame 2032498576 s x6 := by
      subst x6
      refine Frame.ite ?_ ?_
      · refine Frame.step (frame_swapAbort _ _) rfl ?_
        assumption
      · assumption
    clear_value x6
    have h18 : Frame 2032498576 s x7 := by
      subst x7
      refine Frame.step (frame_actAbort _ _) rfl ?_
      assumption
    clear_value x7
    have h19 : Frame 2032498576 s x8 := by
      subst x8
      refine Frame.step (frame_rowWriteBack _ _) rfl ?_
      assumption
    clear_value x8
    have h20 : Frame 2032498576 s x9 := by
      subst x9
      refine Frame.step (frame_modPert _ _) rfl ?_
      assumption
    clear_value x9
    clear_value x10
    clear_value x11
    clear_value x13
    clear_value x14
    refine Frame.step (frame_set_tick_tally_mem_aud_pwr _ _ _ _ _ _ id) rfl ?_
    assumption

/-- Changes at most heads, tick, hsw, sol, led, time, mbus, pwr. -/
theorem frame_doRestEntryComplete : ∀ (s : State), Frame 604140048 s (doRestEntryComplete s) := by
  intro s
  unfold doRestEntryComplete
  refine Frame.ite ?_ ?_
  · exact Frame.refl _ _
  · extract_lets x1 x2 x3 x4
    clear_value x1
    have h5 : Frame 604140048 s x2 := by
      subst x2
      refine Frame.step (frame_passTo _ _ _) rfl ?_
      exact Frame.refl _ _
    clear_value x2
    clear_value x3
    clear_value x4
    refine Frame.ite ?_ ?_
    · refine Frame.step (frame_goOff _ _) rfl ?_
      assumption
    · refine Frame.step (frame_bump _ _ _ _ _) rfl ?_
      refine Frame.step (frame_set_mbus_pwr _ _ _) rfl ?_
      assumption

/-- Changes at most heads, sys, evt, time, tally, pwr. -/
theorem frame_doRestReq : ∀ (rq : Requester) (sched : Bool) (s : State), Frame 537264528 s (doRestReq rq sched s) := by
  intro rq sched s
  unfold doRestReq
  refine Frame.step (frame_reqWrite _ _ _) rfl ?_
  exact Frame.refl _ _

/-- Changes at most reports, heads, evt, tally, fab, dwin, pert, pwr. -/
theorem frame_powerMark : ∀ (pins : BitVec 2) (s : State), Frame 562823444 s (powerMark pins s) := by
  intro pins s
  unfold powerMark
  extract_lets x1
  have h2 : Frame 562823444 s x1 := by
    subst x1
    refine Frame.step (frame_modPwr _ _) rfl ?_
    exact Frame.refl _ _
  clear_value x1
  refine Frame.step (frame_sendCommand _) rfl ?_
  refine Frame.ite ?_ ?_
  · assumption
  · refine Frame.step (frame_modPwr _ _) rfl ?_
    assumption

/-- Changes at most heads, evt, tally, fab, pwr. -/
theorem frame_tamperCancel : ∀ (s : State), Frame 537657616 s (tamperCancel s) := by
  intro s
  unfold tamperCancel
  refine Frame.ite ?_ ?_
  · refine Frame.step (frame_cancelRest _ _ _ _) rfl ?_
    exact Frame.refl _ _
  · exact Frame.refl _ _

/-- Changes at most freeCount, heads, sys, evt, strct, hurdle, tally, fab, core, key, acc, pwr, upd. -/
theorem frame_doTamperRow : ∀ (sources : BitVec 5) (elapsed : Nat) (s : State), Frame 1914504594 s (doTamperRow sources elapsed s) := by
  intro sources elapsed s
  unfold doTamperRow
  refine Frame.ite ?_ ?_
  · exact Frame.refl _ _
  · extract_lets x1
    have h2 : Frame 1914504594 s x1 := by
      subst x1
      refine Frame.step (frame_doTamper _ _ _) rfl ?_
      exact Frame.refl _ _
    clear_value x1
    refine Frame.step (frame_tamperCancel _) rfl ?_
    refine Frame.ite ?_ ?_
    · assumption
    · refine Frame.step (frame_tamperReload _) rfl ?_
      refine Frame.step (frame_tamperImage _) rfl ?_
      assumption

/-- Changes at most heads, evt, hsw, sol, tally, pwr. -/
theorem frame_noteVbl : ∀ (vbl : Half) (s : State), Frame 537145616 s (noteVbl vbl s) := by
  intro vbl s
  unfold noteVbl
  extract_lets x1 x2
  clear_value x1
  have h3 : Frame 537145616 s x2 := by
    subst x2
    refine Frame.ite ?_ ?_
    · refine Frame.foldl (fun x4 k5 h6 => ?_) ?_
      · refine Frame.step (frame_hsCommit _ _ _) rfl ?_
        assumption
      · exact Frame.refl _ _
    · exact Frame.refl _ _
  clear_value x2
  refine Frame.step (frame_modPwr _ _) rfl ?_
  assumption

/-- Changes at most tick, hsw, sol, led, time, pwr. -/
theorem frame_doVblOff : ∀ (s : State), Frame 537031168 s (doVblOff s) := by
  intro s
  unfold doVblOff
  extract_lets x1
  clear_value x1
  refine Frame.ite ?_ ?_
  · refine Frame.step (frame_goOff _ _) rfl ?_
    refine Frame.ite ?_ ?_
    · refine Frame.step (frame_restTo _ _) rfl ?_
      exact Frame.refl _ _
    · refine Frame.step (frame_passTo _ _ _) rfl ?_
      exact Frame.refl _ _
  · exact Frame.refl _ _

/-- Changes at most heads, evt, tick, hsw, sol, led, time, tally, pwr. -/
theorem frame_doVblLow : ∀ (vbl : Half) (s : State), Frame 537293584 s (doVblLow vbl s) := by
  intro vbl s
  unfold doVblLow
  extract_lets x1 x2
  clear_value x1
  have h3 : Frame 537293584 s x2 := by
    subst x2
    refine Frame.step (frame_noteVbl _ _) rfl ?_
    refine Frame.step (frame_modPwr _ _) rfl ?_
    exact Frame.refl _ _
  clear_value x2
  refine Frame.ite ?_ ?_
  · refine Frame.ite ?_ ?_
    · refine Frame.step (frame_modPwr _ _) rfl ?_
      exact Frame.refl _ _
    · exact Frame.refl _ _
  · refine Frame.ite ?_ ?_
    · refine frame_whenOn _ _ ?_ ?_
      · assumption
      · intro x4 x5
        extract_lets x6
        have h7 : Frame 537293584 s x6 := by
          subst x6
          refine Frame.step (frame_setIrq _ _ _) rfl ?_
          refine Frame.step (frame_logPwr _ _ _ _) rfl ?_
          assumption
        clear_value x6
        refine Frame.step (frame_modTally _ _) rfl ?_
        assumption
    · refine Frame.ite ?_ ?_
      · refine Frame.step (frame_doVblOff _) rfl ?_
        exact Frame.refl _ _
      · refine Frame.ite ?_ ?_
        · refine frame_whenOn _ _ ?_ ?_
          · refine Frame.step (frame_noteVbl _ _) rfl ?_
            refine Frame.step (frame_modPwr _ _) rfl ?_
            exact Frame.refl _ _
          · intro x8 x9
            refine Frame.step (frame_logPwr _ _ _ _) rfl ?_
            assumption
        · refine Frame.step (frame_noteVbl _ _) rfl ?_
          exact Frame.refl _ _

/-- Changes at most heads, mem. -/
theorem frame_mwStart : ∀ (rq : Requester) (s : State), Frame 2097168 s (mwStart rq s) := by
  intro rq s
  unfold mwStart
  extract_lets x1 x2
  clear_value x2
  refine Frame.ite ?_ ?_
  · refine Frame.step (frame_setErr _ _ _) rfl ?_
    exact Frame.refl _ _
  · refine Frame.ite ?_ ?_
    · refine Frame.step (frame_setErr _ _ _) rfl ?_
      exact Frame.refl _ _
    · refine Frame.step (frame_modMem _ _ (fun m hm => ⟨hm.1, hm.2⟩)) rfl ?_
      exact Frame.refl _ _

/-- Changes at most heads, sys, evt, time, mem. -/
theorem frame_mwCtrlWrite : ∀ (rq : Requester) (v : Word) (s : State), Frame 2228624 s (mwCtrlWrite rq v s) := by
  intro rq v s
  unfold mwCtrlWrite
  refine Frame.ite ?_ ?_
  · refine Frame.step (frame_setErr _ _ _) rfl ?_
    refine Frame.ite ?_ ?_
    · refine Frame.step (frame_reservedWrite _ _ _) rfl ?_
      exact Frame.refl _ _
    · exact Frame.refl _ _
  · refine frame_wr _ _ _ _ _ _ _ _ rfl ?_ ?_
    · exact Frame.refl _ _
    · intro x1 x2
      refine Frame.ite ?_ ?_
      · refine Frame.step (frame_mwStart _ _) rfl ?_
        assumption
      · assumption

/-- Changes at most reports, heads, evt, time, tally, mem, dwin, pert. -/
theorem frame_enginesNow : ∀ (s : State), Frame 27656468 s (enginesNow s) := by
  intro s
  unfold enginesNow
  refine Frame.step (frame_mwNow _) rfl ?_
  refine Frame.step (frame_burstsNow _) rfl ?_
  exact Frame.refl _ _

/-- Changes at most reports, heads, sys, evt, time, tally, mem, dwin, pert. -/
theorem frame_bankOwnerWrite : ∀ (rq : Requester) (b : Fin 18) (v : Word) (s : State), Frame 27656596 s (bankOwnerWrite rq b v s) := by
  intro rq b v s
  unfold bankOwnerWrite
  refine Frame.step (frame_doBankOwnerWrite _ _ _ _) rfl ?_
  refine Frame.step (frame_enginesNow _) rfl ?_
  exact Frame.refl _ _

/-- Changes at most reports, heads, evt, time, tally, mem, dwin, pert. -/
theorem frame_doMwDone : ∀ (s : State), Frame 27656468 s (doMwDone s) := by
  intro s
  unfold doMwDone
  refine Frame.ite ?_ ?_
  · extract_lets x1 x2
    clear_value x1
    have h3 : Frame 27656468 s x2 := by
      subst x2
      refine Frame.step (frame_mwTo _ _) rfl ?_
      refine Frame.step (frame_enginesNow _) rfl ?_
      refine Frame.step (frame_passTo _ _ _) rfl ?_
      exact Frame.refl _ _
    clear_value x2
    refine Frame.ite ?_ ?_
    · refine Frame.step (frame_setIrq _ _ _) rfl ?_
      refine Frame.step (frame_modMem _ _ (fun m hm => ⟨hm.1, hm.2⟩)) rfl ?_
      assumption
    · assumption
  · exact Frame.refl _ _

/-- Changes at most freeCount, reports, heads, evt, time, tally, mem, dwin, pert. -/
theorem frame_doMwFail : ∀ (words : Nat) (readback : Bool) (s : State), Frame 27656470 s (doMwFail words readback s) := by
  intro words readback s
  unfold doMwFail
  refine Frame.ite ?_ ?_
  · extract_lets x1 x2 x3 x4 x5
    clear_value x1
    have h6 : Frame 27656470 s x2 := by
      subst x2
      refine Frame.step (frame_mwTo _ _) rfl ?_
      refine Frame.step (frame_enginesNow _) rfl ?_
      refine Frame.step (frame_passTo _ _ _) rfl ?_
      exact Frame.refl _ _
    clear_value x2
    clear_value x3
    clear_value x4
    have h7 : Frame 27656470 s x5 := by
      subst x5
      refine Frame.step (frame_tickFree _) rfl ?_
      refine Frame.step (frame_mramPut _ _ _) rfl ?_
      assumption
    clear_value x5
    refine Frame.ite ?_ ?_
    · assumption
    · refine Frame.ite ?_ ?_
      · refine Frame.step (frame_mwWord _) rfl ?_
        assumption
      · refine Frame.ite ?_ ?_
        · refine Frame.step (frame_setIrq _ _ _) rfl ?_
          refine Frame.step (frame_logEv _ _ _ _ _) rfl ?_
          refine Frame.step (frame_modMem _ _ (fun m hm => ⟨hm.1, hm.2⟩)) rfl ?_
          assumption
        · assumption
  · exact Frame.refl _ _

/-- Changes at most heads, sys, evt, time, mem. -/
theorem frame_doMwGo : ∀ (rq : Requester) (s : State), Frame 2228624 s (doMwGo rq s) := by
  intro rq s
  unfold doMwGo
  refine Frame.step (frame_mwCtrlWrite _ _ _) rfl ?_
  exact Frame.refl _ _

/-- Changes at most heads, evt, time, tally, key, acc, pwr. -/
theorem frame_alwaysOnEntries : ∀ (rest : List (DWord × BitVec 5)) (s : State), Frame 839254288 s (alwaysOnEntries rest s) := by
  intro rest s
  unfold alwaysOnEntries
  extract_lets x1
  have h2 : Frame 839254288 s x1 := by
    subst x1
    refine Frame.foldl (fun x3 k4 h5 => ?_) ?_
    · refine Frame.step (frame_setIrq _ _ _) rfl ?_
      refine Frame.step (frame_logTb0 _ _ _ _ _ _) rfl ?_
      assumption
    · exact Frame.refl _ _
  clear_value x1
  split
  · refine Frame.ite ?_ ?_
    · refine Frame.step (frame_doLockoutEnd _) rfl ?_
      assumption
    · assumption
  · assumption

/-- Changes at most freeCount, heads, evt, tally, mem. -/
theorem frame_spareFailing : ∀ (s : State), Frame 2359570 s (spareFailing s) := by
  intro s
  unfold spareFailing
  refine Frame.foldl (fun x1 k2 h3 => ?_) ?_
  · refine Frame.step (frame_tickFree _) rfl ?_
    refine Frame.step (frame_spareRow _ _ _) rfl ?_
    assumption
  · refine Frame.step (frame_tickFree _) rfl ?_
    exact Frame.refl _ _

/-- Changes at most freeCount, heads, evt, tally, mem, pert. -/
theorem frame_bistItem : ∀ (fail : Word) (s : State) (i : Nat), Frame 19136786 s (bistItem fail s i) := by
  intro fail s i
  unfold bistItem
  extract_lets x1 x2 x3 x4
  clear_value x1
  have h5 : Frame 19136786 s x2 := by
    subst x2
    refine Frame.step (frame_tickFree _) rfl ?_
    exact Frame.refl _ _
  clear_value x2
  have h6 : Frame 19136786 s x3 := by
    subst x3
    refine Frame.step (frame_setIrq _ _ _) rfl ?_
    refine Frame.step (frame_logEv _ _ _ _ _) rfl ?_
    refine Frame.step (frame_tickFree _) rfl ?_
    assumption
  clear_value x3
  have h7 : Frame 19136786 s x4 := by
    subst x4
    refine Frame.step (frame_modPert _ _) rfl ?_
    assumption
  clear_value x4
  refine Frame.ite ?_ ?_
  · refine Frame.ite ?_ ?_
    · refine Frame.step (frame_spareFailing _) rfl ?_
      assumption
    · assumption
  · refine Frame.step (frame_logEv _ _ _ _ _) rfl ?_
    refine Frame.step (frame_modPert _ _) rfl ?_
    assumption

/-- Changes at most freeCount, heads, evt, tally, mem, pert. -/
theorem frame_bist : ∀ (fail : Word) (s : State), Frame 19136786 s (bist fail s) := by
  intro fail s
  unfold bist
  refine Frame.foldl (fun x1 k2 h3 => ?_) ?_
  · refine Frame.step (frame_bistItem _ _ _) rfl ?_
    assumption
  · exact Frame.refl _ _

/-- Changes at most freeCount, key. -/
theorem frame_breakCounter : ∀ (s : State), Frame 33554434 s (breakCounter s) := by
  intro s
  unfold breakCounter
  split
  · exact Frame.refl _ _
  · extract_lets x1
    clear_value x1
    refine Frame.step (frame_tickFree _) rfl ?_
    refine Frame.ite ?_ ?_
    · refine Frame.step (frame_modKey _ _) rfl ?_
      exact Frame.refl _ _
    · exact Frame.refl _ _

/-- Changes at most freeCount, heads, evt, tally, mem. -/
theorem frame_breakMw : ∀ (s : State), Frame 2359570 s (breakMw s) := by
  intro s
  unfold breakMw
  refine Frame.ite ?_ ?_
  · extract_lets x1
    clear_value x1
    refine Frame.step (frame_tickFree _) rfl ?_
    refine Frame.foldl (fun x2 k3 h4 => ?_) ?_
    · refine Frame.ite ?_ ?_
      · refine Frame.step (frame_mwWord _) rfl ?_
        assumption
      · assumption
    · exact Frame.refl _ _
  · exact Frame.refl _ _

/-- Changes at most freeCount, key, acc. -/
theorem frame_breakStore : ∀ (s : State) (w : StoreWrite), Frame 301989890 s (breakStore s w) := by
  intro s w
  unfold breakStore
  refine Frame.ite ?_ ?_
  · exact Frame.refl _ _
  · extract_lets x1 x2 x3
    clear_value x1
    have h4 : Frame 301989890 s x2 := by
      subst x2
      refine Frame.step (frame_tickFree _) rfl ?_
      exact Frame.refl _ _
    clear_value x2
    have h5 : Frame 301989890 s x3 := by
      subst x3
      refine Frame.ite ?_ ?_
      · refine Frame.step (frame_modKey _ _) rfl ?_
        assumption
      · assumption
    clear_value x3
    refine Frame.ite ?_ ?_
    · assumption
    · refine Frame.step (frame_modAcc _ _) rfl ?_
      assumption

/-- Changes at most freeCount, heads, evt, tally, mem, key, acc. -/
theorem frame_breakOff : ∀ (s : State), Frame 304349458 s (breakOff s) := by
  intro s
  unfold breakOff
  extract_lets x1
  have h2 : Frame 304349458 s x1 := by
    subst x1
    split
    · exact Frame.refl _ _
    · refine Frame.step (frame_tickFree _) rfl ?_
      refine Frame.step (frame_breakWrite _ _ _) rfl ?_
      exact Frame.refl _ _
  clear_value x1
  refine Frame.step (frame_breakMw _) rfl ?_
  refine Frame.foldl (fun x3 k4 h5 => ?_) ?_
  · refine Frame.step (frame_breakStore _ _) rfl ?_
    assumption
  · refine Frame.step (frame_breakCounter _) rfl ?_
    assumption

/-- Changes at most freeCount, heads, evt, strct, tally. -/
theorem frame_startReject : ∀ (pair : Bool) (s : State), Frame 263442 s (startReject pair s) := by
  intro pair s
  unfold startReject
  extract_lets x1
  clear_value x1
  refine Frame.ite ?_ ?_
  · refine Frame.step (frame_rejectEntries _ _ _) rfl ?_
    refine Frame.step (frame_modStruct _ _) rfl ?_
    exact Frame.refl _ _
  · exact Frame.refl _ _

/-- Changes at most freeCount, heads, evt, strct, tally, upd. -/
theorem frame_startVerifies : ∀ (pair : Bool) (s : State), Frame 1074005266 s (Prod.snd (startVerifies pair s)) := by
  intro pair s
  unfold startVerifies
  dsimp only
  refine Frame.step (frame_modUpd _ _) rfl ?_
  refine Frame.step (frame_refuseFirmware _ _) rfl ?_
  refine Frame.step (frame_startReject _ _) rfl ?_
  exact Frame.refl _ _

/-- Changes at most heads, evt, tally, mem, upd. -/
theorem frame_startFallback : ∀ (cause : Nat) (st : UpdState) (s : State), Frame 1076101392 s (startFallback cause st s) := by
  intro cause st s
  unfold startFallback
  refine Frame.step (frame_updIrq _ _) rfl ?_
  refine Frame.step (frame_logUpd _ _ _ _) rfl ?_
  refine Frame.step (frame_modUpd _ _) rfl ?_
  refine Frame.step (frame_writeBoot _ _) rfl ?_
  exact Frame.refl _ _

/-- Changes at most freeCount, heads, evt, strct, tally, mem, upd. -/
theorem frame_startConfirmed : ∀ (s : State), Frame 1076102418 s (startConfirmed s) := by
  intro s
  unfold startConfirmed
  extract_lets x1
  clear_value x1
  split
  · rename_i n2 n3 n4 n5
    have h6 : Frame 1076102418 s n4 := by
      refine Frame.ofEq2 n5 ?_
      refine Frame.step (frame_startVerifies _ _) rfl ?_
      exact Frame.refl _ _
    refine Frame.ite ?_ ?_
    · assumption
    · split
      · rename_i n7 n8 n9 n10
        have h11 : Frame 1076102418 s n9 := by
          refine Frame.ofEq2 n10 ?_
          refine Frame.step (frame_startVerifies _ _) rfl ?_
          assumption
        refine Frame.ite ?_ ?_
        · refine Frame.step (frame_startFallback _ _ _) rfl ?_
          assumption
        · extract_lets x12 x13
          clear_value x12
          clear_value x13
          refine Frame.step (frame_logUpd _ _ _ _) rfl ?_
          refine Frame.step (frame_modUpd _ _) rfl ?_
          assumption

/-- Changes at most freeCount, heads, evt, tally, mem, upd. -/
theorem frame_trialStart : ∀ (s : State), Frame 1076101394 s (trialStart s) := by
  intro s
  unfold trialStart
  extract_lets x1 x2 x3
  clear_value x1
  clear_value x2
  have h4 : Frame 1076101394 s x3 := by
    subst x3
    refine Frame.step (frame_tickFree _) rfl ?_
    refine Frame.step (frame_writeBoot _ _) rfl ?_
    exact Frame.refl _ _
  clear_value x3
  refine Frame.step (frame_logUpd _ _ _ _) rfl ?_
  refine Frame.step (frame_modUpd _ _) rfl ?_
  assumption

/-- Changes at most freeCount, heads, evt, strct, tally, mem, upd. -/
theorem frame_choosePair : ∀ (s : State), Frame 1076102418 s (choosePair s) := by
  intro s
  unfold choosePair
  extract_lets x1
  clear_value x1
  refine Frame.ite ?_ ?_
  · refine Frame.step (frame_startConfirmed _) rfl ?_
    exact Frame.refl _ _
  · refine Frame.ite ?_ ?_
    · refine Frame.step (frame_startConfirmed _) rfl ?_
      refine Frame.step (frame_startFallback _ _ _) rfl ?_
      exact Frame.refl _ _
    · split
      · rename_i n2 n3 n4 n5
        have h6 : Frame 1076102418 s n4 := by
          refine Frame.ofEq2 n5 ?_
          refine Frame.step (frame_startVerifies _ _) rfl ?_
          exact Frame.refl _ _
        refine Frame.ite ?_ ?_
        · refine Frame.step (frame_trialStart _) rfl ?_
          assumption
        · refine Frame.step (frame_startConfirmed _) rfl ?_
          refine Frame.step (frame_startFallback _ _ _) rfl ?_
          assumption

/-- Leaves pending as it was. -/
theorem frame_clocksAfterRest : ∀ (n : Nat) (s r : State), Frame 2147483646 r (clocksAfterRest n s r) := by
  intro n s r
  exact frame_all rfl id

/-- Changes at most freeCount, reports, heads, evt, time, tally, mem, dwin, pert. -/
theorem frame_closeWins : ∀ (s : State), Frame 27656470 s (closeWins s) := by
  intro s
  unfold closeWins
  refine Frame.step (frame_loseWins _ _ _) rfl ?_
  refine Frame.step (frame_tickFree _) rfl ?_
  exact Frame.refl _ _

/-- Changes at most tally. -/
theorem frame_countStart : ∀ (s : State), Frame 262144 s (countStart s) := by
  intro s
  unfold countStart
  refine Frame.step (frame_modTally _ _) rfl ?_
  exact Frame.refl _ _

/-- Changes at most heads, evt, tally, mbus, pwr. -/
theorem frame_doClockDegraded : ∀ (s : State), Frame 604242192 s (doClockDegraded s) := by
  intro s
  unfold doClockDegraded
  refine Frame.ite ?_ ?_
  · exact Frame.refl _ _
  · extract_lets x1
    have h2 : Frame 604242192 s x1 := by
      subst x1
      refine Frame.step (frame_modPwr _ _) rfl ?_
      exact Frame.refl _ _
    clear_value x1
    refine Frame.step (frame_mbusDegraded _ _) rfl ?_
    refine Frame.step (frame_setIrq _ _ _) rfl ?_
    refine Frame.step (frame_logTb0 _ _ _ _ _ _) rfl ?_
    assumption

/-- Leaves pending as it was. -/
theorem frame_keepStores : ∀ (s : State), Frame 2147483646 s (keepStores s State.reset) := by
  intro s
  refine frame_all rfl fun h => ?_
  have hm := (memOk_iff s).mp h
  exact (memOk_iff _).mpr ⟨by unfold keepStores keepMem; rfl, hm.2⟩

/-- Leaves pending as it was. -/
theorem frame_powerUp : ∀ (s : State), Frame 2147483646 s (powerUp s) := by
  intro s
  unfold powerUp
  extract_lets x1 x2 x3 x4 x5 x6
  have h7 : Frame 2147483646 s x1 := by
    subst x1
    refine Frame.step (frame_breakOff _) rfl ?_
    exact Frame.refl _ _
  clear_value x1
  have h8 : Frame 2147483646 s x2 := by
    subst x2
    refine Frame.step (frame_keepStores _) rfl ?_
    · assumption
  clear_value x2
  clear_value x3
  clear_value x5
  clear_value x6
  refine Frame.step (frame_countStart _) rfl ?_
  refine Frame.step (frame_set_sys_mem_acc_pwr _ _ _ _ _ id) rfl ?_
  assumption

/-- Changes at most mem, upd. -/
theorem frame_takeBoot : ∀ (s : State), Frame 1075838976 s (takeBoot s) := by
  intro s
  unfold takeBoot
  split
  · refine Frame.step (frame_putCopies _ _) rfl ?_
    refine Frame.step (frame_modUpd _ _) rfl ?_
    exact Frame.refl _ _
  · exact Frame.refl _ _

/-- Changes at most heads, evt, tally, key. -/
theorem frame_settleSlot : ∀ (s : State) (k : Nat), Frame 33816848 s (settleSlot s k) := by
  intro s k
  unfold settleSlot
  refine Frame.ite ?_ ?_
  · extract_lets x1 x2 x3
    clear_value x1
    have h4 : Frame 33816848 s x2 := by
      subst x2
      refine Frame.step (frame_modSlot _ _ _) rfl ?_
      exact Frame.refl _ _
    clear_value x2
    have h5 : Frame 33816848 s x3 := by
      subst x3
      refine Frame.step (frame_hwBit _ _ _ _) rfl ?_
      refine Frame.step (frame_hwBit _ _ _ _) rfl ?_
      assumption
    clear_value x3
    refine Frame.step (frame_setIrq _ _ _) rfl ?_
    refine Frame.step (frame_logEv _ _ _ _ _) rfl ?_
    refine Frame.step (frame_modKey _ _) rfl ?_
    assumption
  · exact Frame.refl _ _

/-- Changes at most heads, evt, tally, key. -/
theorem frame_settleKeys : ∀ (s : State), Frame 33816848 s (settleKeys s) := by
  intro s
  unfold settleKeys
  refine Frame.step (frame_modKey _ _) rfl ?_
  refine Frame.foldl (fun x1 k2 h3 => ?_) ?_
  · refine Frame.step (frame_settleSlot _ _) rfl ?_
    assumption
  · exact Frame.refl _ _

/-- Changes at most heads, evt, tally, key. -/
theorem frame_releaseKeys : ∀ (s : State), Frame 33816848 s (releaseKeys s) := by
  intro s
  unfold releaseKeys
  extract_lets x1
  clear_value x1
  refine Frame.step (frame_logEv _ _ _ _ _) rfl ?_
  refine Frame.step (frame_modKey _ _) rfl ?_
  exact Frame.refl _ _

/-- Changes at most freeCount, heads, evt, strct, time, tally, mem, pert, key, upd. -/
theorem frame_startKeys : ∀ (fail : Word) (s : State), Frame 1126565138 s (startKeys fail s) := by
  intro fail s
  unfold startKeys
  extract_lets x1 x2 x3 x4 x5
  clear_value x1
  have h6 : Frame 1126565138 s x2 := by
    subst x2
    refine Frame.step (frame_bist _ _) rfl ?_
    refine Frame.step (frame_passTo _ _ _) rfl ?_
    exact Frame.refl _ _
  clear_value x2
  have h7 : Frame 1126565138 s x3 := by
    subst x3
    refine Frame.step (frame_takeBoot _) rfl ?_
    refine Frame.step (frame_settleKeys _) rfl ?_
    assumption
  clear_value x3
  have h8 : Frame 1126565138 s x4 := by
    subst x4
    refine Frame.step (frame_tickFree _) rfl ?_
    refine Frame.step (frame_modKey _ _) rfl ?_
    assumption
  clear_value x4
  have h9 : Frame 1126565138 s x5 := by
    subst x5
    refine Frame.ite ?_ ?_
    · assumption
    · refine Frame.step (frame_choosePair _) rfl ?_
      assumption
  clear_value x5
  refine Frame.step (frame_releaseKeys _) rfl ?_
  refine Frame.step (frame_passTo _ _ _) rfl ?_
  assumption

/-- Changes at most freeCount, heads, evt, strct, time, tally, core, mem, key, upd. -/
theorem frame_runPair : ∀ (s : State), Frame 1110836498 s (runPair s) := by
  intro s
  unfold runPair
  extract_lets x1 x2 x3 x4
  have h5 : Frame 1110836498 s x1 := by
    subst x1
    refine Frame.step (frame_doShadowReady _) rfl ?_
    refine Frame.step (frame_loadShadow _ _) rfl ?_
    exact Frame.refl _ _
  clear_value x1
  clear_value x2
  have h6 : Frame 1110836498 s x3 := by
    subst x3
    refine Frame.step (frame_modUpd _ _) rfl ?_
    assumption
  clear_value x3
  have h7 : Frame 1110836498 s x4 := by
    subst x4
    refine Frame.step (frame_modKey _ _) rfl ?_
    assumption
  clear_value x4
  refine Frame.step (frame_enterReset _) rfl ?_
  refine Frame.step (frame_passTo _ _ _) rfl ?_
  assumption

/-- Leaves pending as it was. -/
theorem frame_doColdStart : ∀ (por : Bool) (bistFail : Word) (pins : BitVec 4) (vbl : Half) (s : State),
  Frame 2147483646 s (doColdStart por bistFail pins vbl s) := by
  intro por bistFail pins vbl s
  unfold doColdStart
  refine Frame.ite ?_ ?_
  · exact Frame.refl _ _
  · extract_lets x1 x2 x3 x4 x5 x6 x7 x8 x9 x10 x11 x12
    clear_value x1
    clear_value x2
    have h13 : Frame 2147483646 s x3 := by
      subst x3
      refine Frame.ite ?_ ?_
      · refine Frame.step (frame_powerUp _) rfl ?_
        exact Frame.refl _ _
      · exact Frame.refl _ _
    clear_value x3
    clear_value x4
    have h14 : Frame 2147483646 s x5 := by
      subst x5
      refine Frame.ite ?_ ?_
      · assumption
      · refine Frame.step (frame_set_sys _ _) rfl ?_
        assumption
    clear_value x5
    have h15 : Frame 2147483646 s x6 := by
      subst x6
      refine Frame.ite ?_ ?_
      · refine Frame.step (frame_logPwr _ _ _ _) rfl ?_
        assumption
      · assumption
    clear_value x6
    have h16 : Frame 2147483646 s x7 := by
      subst x7
      refine Frame.step (frame_startKeys _ _) rfl ?_
      assumption
    clear_value x7
    clear_value x8
    have h17 : Frame 2147483646 s x9 := by
      subst x9
      refine Frame.ite ?_ ?_
      · refine Frame.step (frame_dark _) rfl ?_
        refine Frame.step (frame_set_strct _ _) rfl ?_
        assumption
      · assumption
    clear_value x9
    have h18 : Frame 2147483646 s x10 := by
      subst x10
      refine Frame.ite ?_ ?_
      · assumption
      · refine Frame.step (frame_runPair _) rfl ?_
        assumption
    clear_value x10
    clear_value x11
    clear_value x12
    refine Frame.step (frame_set_led_pwr _ _ _) rfl ?_
    assumption

/-- Leaves pending as it was. -/
theorem frame_keepLanes : ∀ (s r : State), Frame 2147483646 r (keepLanes s r) := by
  intro s r
  exact frame_all rfl id

/-- Leaves pending as it was. -/
theorem frame_keepAlwaysOn : ∀ {s0 : State} (s r : State), (Frame 2147483646 s0 s) → (Frame 2147483646 s0 r) → Frame 2147483646 s0 (keepAlwaysOn s r) := by
  intro s0 s r hs hr
  refine frame_all (hr.pending (by decide)) fun h => ?_
  have hm := (memOk_iff s).mp (hs.form h)
  refine (memOk_iff _).mpr ⟨?_, hm.2⟩
  unfold keepAlwaysOn keepMem
  exact Memory.wf_filter _ _ hm.1

/-- Leaves pending as it was. -/
theorem frame_resetModule : ∀ (cause : Nat) (s : State), Frame 2147483646 s (resetModule cause s) := by
  intro cause s
  unfold resetModule
  extract_lets x1 x2 x3 x4 x5 x6 x7 x8 x9
  have h10 : Frame 2147483646 s x1 := by
    subst x1
    refine Frame.step (frame_breakOff _) rfl ?_
    refine Frame.step (frame_closeWins _) rfl ?_
    exact Frame.refl _ _
  clear_value x1
  clear_value x2
  have h11 : Frame 2147483646 s x3 := by
    subst x3
    refine Frame.step (frame_keepLanes _ _) rfl ?_
    · refine frame_keepAlwaysOn _ _ ?_ ?_
      · assumption
      · refine Frame.step (frame_keepStores _) rfl ?_
        · assumption
  clear_value x3
  clear_value x4
  clear_value x5
  clear_value x6
  have h12 : Frame 2147483646 s x7 := by
    subst x7
    refine Frame.step (frame_set_sys_evt_pwr _ _ _ _) rfl ?_
    assumption
  clear_value x7
  clear_value x8
  have h13 : Frame 2147483646 s x9 := by
    subst x9
    refine Frame.step (frame_countStart _) rfl ?_
    refine Frame.step (frame_set_time _ _) rfl ?_
    assumption
  clear_value x9
  refine Frame.foldl (fun x14 k15 h16 => ?_) ?_
  · refine Frame.step (frame_setOos _ _ _ _) rfl ?_
    assumption
  · assumption

/-- Leaves pending as it was. -/
theorem frame_doModuleReset : ∀ (s : State), Frame 2147483646 s (doModuleReset s) := by
  intro s
  unfold doModuleReset
  refine Frame.ite ?_ ?_
  · extract_lets x1 x2
    clear_value x1
    clear_value x2
    refine Frame.step (frame_resetModule _ _) rfl ?_
    exact Frame.refl _ _
  · exact Frame.refl _ _

/-- Changes at most heads, evt, tick, hsw, sol, led, tally, pwr. -/
theorem frame_doRegRetry : ∀ (ok : Bool) (s : State), Frame 537162512 s (doRegRetry ok s) := by
  intro ok s
  unfold doRegRetry
  refine Frame.ite ?_ ?_
  · exact Frame.refl _ _
  · refine Frame.ite ?_ ?_
    · refine Frame.step (frame_logTb0 _ _ _ _ _ _) rfl ?_
      refine Frame.step (frame_modPwr _ _) rfl ?_
      exact Frame.refl _ _
    · refine Frame.step (frame_goOff _ _) rfl ?_
      refine Frame.step (frame_modPwr _ _) rfl ?_
      exact Frame.refl _ _

/-- Leaves pending as it was. -/
theorem frame_doResetThroughJtag : ∀ (s : State), Frame 2147483646 s (doResetThroughJtag s) := by
  intro s
  unfold doResetThroughJtag
  refine Frame.ite ?_ ?_
  · refine Frame.step (frame_resetModule _ _) rfl ?_
    exact Frame.refl _ _
  · exact Frame.refl _ _

/-- Leaves pending, rdata, latches, held, sys, hurdle, time, core, que, key, mbus, acc, upd as it was. -/
theorem frame_doSampleMarkRow : ∀ (m : Sample) (s : State), Frame 699203350 s (doSampleMarkRow m s) := by
  intro m s
  unfold doSampleMarkRow
  extract_lets x1
  have h2 : Frame 699203350 s x1 := by
    subst x1
    refine Frame.step (frame_doSampleMark _ _) rfl ?_
    exact Frame.refl _ _
  clear_value x1
  refine Frame.ite ?_ ?_
  · refine Frame.step (frame_powerMark _ _) rfl ?_
    assumption
  · assumption

/-- Changes at most heads, evt, tick, hurdle, tally, core, mem, upd. -/
theorem frame_doShepherdRestart : ∀ (s : State), Frame 1077216016 s (doShepherdRestart s) := by
  intro s
  unfold doShepherdRestart
  split
  · exact Frame.refl _ _
  · extract_lets x1 x2
    clear_value x1
    have h3 : Frame 1077216016 s x2 := by
      subst x2
      refine Frame.step (frame_finishReload _ _ _) rfl ?_
      exact Frame.refl _ _
    clear_value x2
    refine Frame.ite ?_ ?_
    · refine Frame.foldl (fun x4 k5 h6 => ?_) ?_
      · refine Frame.ite ?_ ?_
        · assumption
        · refine Frame.step (frame_doTploadDone _ _) rfl ?_
          refine Frame.step (frame_startLoad _ _) rfl ?_
          assumption
      · assumption
    · refine Frame.step (frame_finishReload _ _ _) rfl ?_
      exact Frame.refl _ _

/-- Changes at most mem, upd. -/
theorem frame_noteFirstTick : ∀ (s : State), Frame 1075838976 s (noteFirstTick s) := by
  intro s
  unfold noteFirstTick
  extract_lets x1 x2
  clear_value x1
  clear_value x2
  refine Frame.ite ?_ ?_
  · refine Frame.step (frame_putCopies _ _) rfl ?_
    refine Frame.step (frame_modUpd _ _) rfl ?_
    exact Frame.refl _ _
  · exact Frame.refl _ _

/-- Changes at most freeCount, heads, evt, tick, din, hurdle, time, tally, pert, pwr. -/
theorem frame_wakeTick : ∀ (s : State), Frame 554140434 s (wakeTick s) := by
  intro s
  unfold wakeTick
  extract_lets x1 x2 x3 x4 x5
  clear_value x1
  have h6 : Frame 554140434 s x2 := by
    subst x2
    refine Frame.step (frame_passTo _ _ _) rfl ?_
    refine Frame.step (frame_modPwr _ _) rfl ?_
    refine Frame.step (frame_pertTick _) rfl ?_
    exact Frame.refl _ _
  clear_value x2
  have h7 : Frame 554140434 s x3 := by
    subst x3
    refine Frame.step (frame_beginTick _ _ _) rfl ?_
    assumption
  clear_value x3
  clear_value x4
  have h8 : Frame 554140434 s x5 := by
    subst x5
    refine Frame.step (frame_set_tick _ _) rfl ?_
    assumption
  clear_value x5
  refine Frame.step (frame_setIrq _ _ _) rfl ?_
  refine Frame.step (frame_modPwr _ _) rfl ?_
  assumption

/-- Changes at most freeCount, heads, evt, tick, hsw, din, hurdle, time, tally, mem, pert, pwr, upd. -/
theorem frame_doTickStartRow : ∀ (s : State), Frame 1629983506 s (doTickStartRow s) := by
  intro s
  unfold doTickStartRow
  split
  · extract_lets x1
    have h2 : Frame 1629983506 s x1 := by
      subst x1
      refine Frame.step (frame_doTickStart _) rfl ?_
      exact Frame.refl _ _
    clear_value x1
    refine Frame.ite ?_ ?_
    · refine Frame.step (frame_noteFirstTick _) rfl ?_
      assumption
    · assumption
  · refine Frame.ite ?_ ?_
    · refine Frame.step (frame_wakeTick _) rfl ?_
      exact Frame.refl _ _
    · exact Frame.refl _ _
  · exact Frame.refl _ _

/-- Leaves pending as it was. -/
theorem frame_storesAfterRest : ∀ (s r : State), Frame 2147483646 r (storesAfterRest s r) := by
  intro s r
  unfold storesAfterRest
  extract_lets u staged
  clear_value staged u
  exact frame_all rfl fun h => (memOk_iff _).mpr ⟨((memOk_iff r).mp h).1, ((memOk_iff r).mp h).2⟩

/-- Leaves pending as it was. -/
theorem frame_lanesAfterRest : ∀ (s r : State), Frame 2147483646 r (lanesAfterRest s r) := by
  intro s r
  exact frame_all rfl id

/-- Leaves pending as it was. -/
theorem frame_wakeState : ∀ (n : Nat) (s : State), Frame 2147483646 s (wakeState n s) := by
  intro n s
  unfold wakeState
  extract_lets x1
  have h2 : Frame 2147483646 s x1 := by
    subst x1
    refine frame_keepAlwaysOn _ _ ?_ ?_
    · exact Frame.refl _ _
    · refine Frame.step (frame_keepStores _) rfl ?_
      · exact Frame.refl _ _
  clear_value x1
  refine Frame.step (frame_clocksAfterRest _ _ _) rfl ?_
  · refine Frame.step (frame_storesAfterRest _ _) rfl ?_
    · refine Frame.step (frame_lanesAfterRest _ _) rfl ?_
      · assumption

/-- Changes at most freeCount, acc. -/
theorem frame_wakePolls : ∀ (w : Half) (s : State), Frame 268435458 s (wakePolls w s) := by
  intro w s
  unfold wakePolls
  extract_lets x1 x2 x3
  clear_value x1
  clear_value x2
  have h4 : Frame 268435458 s x3 := by
    subst x3
    refine Frame.ite ?_ ?_
    · refine Frame.step (frame_tickFree _) rfl ?_
      exact Frame.refl _ _
    · exact Frame.refl _ _
  clear_value x3
  refine Frame.foldl (fun x5 k6 h7 => ?_) ?_
  · refine Frame.ite ?_ ?_
    · refine Frame.step (frame_requestPoll _ _) rfl ?_
      refine Frame.step (frame_modRd _ _ _) rfl ?_
      assumption
    · refine Frame.ite ?_ ?_
      · refine Frame.step (frame_requestPoll _ _) rfl ?_
        assumption
      · assumption
  · assumption

/-- Leaves pending as it was. -/
theorem frame_doWake : ∀ (sources : Half) (pins : BitVec 4) (s : State), Frame 2147483646 s (doWake sources pins s) := by
  intro sources pins s
  unfold doWake
  extract_lets x1 x2 x3 x4 x5 x6 x7 x8 x9 x10 x11 x12
  clear_value x1
  have h13 : Frame 2147483646 s x2 := by
    subst x2
    refine Frame.ite ?_ ?_
    · refine Frame.step (frame_restTo _ _) rfl ?_
      exact Frame.refl _ _
    · exact Frame.refl _ _
  clear_value x2
  clear_value x3
  clear_value x4
  have h14 : Frame 2147483646 s x5 := by
    subst x5
    refine Frame.step (frame_wakeState _ _) rfl ?_
    refine Frame.step (frame_breakOff _) rfl ?_
    assumption
  clear_value x5
  have h15 : Frame 2147483646 s x6 := by
    subst x6
    refine Frame.step (frame_logTb0 _ _ _ _ _ _) rfl ?_
    assumption
  clear_value x6
  have h16 : Frame 2147483646 s x7 := by
    subst x7
    refine Frame.step (frame_takeSource _ _) rfl ?_
    refine Frame.foldl (fun x17 k18 h19 => ?_) ?_
    · refine Frame.step (frame_setOos _ _ _ _) rfl ?_
      assumption
    · assumption
  clear_value x7
  have h20 : Frame 2147483646 s x8 := by
    subst x8
    refine Frame.step (frame_modPwr _ _) rfl ?_
    assumption
  clear_value x8
  have h21 : Frame 2147483646 s x9 := by
    subst x9
    refine Frame.step (frame_alwaysOnEntries _ _) rfl ?_
    assumption
  clear_value x9
  clear_value x10
  have h22 : Frame 2147483646 s x11 := by
    subst x11
    refine Frame.step (frame_logTb0 _ _ _ _ _ _) rfl ?_
    assumption
  clear_value x11
  have h23 : Frame 2147483646 s x12 := by
    subst x12
    refine Frame.step (frame_wakePolls _ _) rfl ?_
    refine Frame.step (frame_releaseKeys _) rfl ?_
    refine Frame.step (frame_settleKeys _) rfl ?_
    refine Frame.step (frame_accWake _) rfl ?_
    assumption
  clear_value x12
  refine Frame.ite ?_ ?_
  · exact Frame.refl _ _
  · refine Frame.ite ?_ ?_
    · assumption
    · refine Frame.step (frame_modCore _ _) rfl ?_
      assumption

end Sys2Proof.Machine
end

