-- ==== Sys2Proof/Laws/Frames/LaneRegs.lean ====
section
/-! SUPPORT. Frames of the operations of Machine/RegsSwitch, RegsLanes. -/

namespace Sys2Proof.Machine

set_option maxRecDepth 10000

/-- Changes at most heads, sys, evt, time. -/
theorem frame_sysCtrlWrite : ∀ (rq : Requester) (v : Word) (s : State), Frame 131472 s (sysCtrlWrite rq v s) := by
  intro rq v s
  unfold sysCtrlWrite
  refine Frame.ite ?_ ?_
  · refine Frame.step (frame_set_sys _ _) rfl ?_
    exact Frame.refl _ _
  · refine Frame.ite ?_ ?_
    · exact Frame.refl _ _
    · refine Frame.step (frame_reservedWrite _ _ _) rfl ?_
      exact Frame.refl _ _

/-- Leaves pending, cfg as it was. -/
theorem frame_sysReg : ∀ (off : Nat), OptFramed 2147481598 (sysReg off) := by
  intro off
  unfold sysReg
  split
  · refine OptFramed.some ?_
    refine framed_regAt _ _ (fun q1 v2 s3 => ?_)
    refine Frame.step (frame_sysCtrlWrite _ _ _) rfl ?_
    exact Frame.refl _ _
  · refine OptFramed.some ?_
    unfold regEmpty
    unfold regRo
    refine framed_regAt _ _ (fun q4 v5 s6 => ?_)
    refine frame_wr _ _ _ _ _ _ _ _ rfl ?_ ?_
    · exact Frame.refl _ _
    · intro x7 x8
      unfold id
      assumption
  · refine OptFramed.some ?_
    unfold regRo
    refine framed_regAt _ _ (fun q9 v10 s11 => ?_)
    refine frame_wr _ _ _ _ _ _ _ _ rfl ?_ ?_
    · exact Frame.refl _ _
    · intro x12 x13
      unfold id
      assumption
  · refine OptFramed.some ?_
    unfold regRw
    refine framed_regAt _ _ (fun q14 v15 s16 => ?_)
    beta_reduce
    refine frame_wr _ _ _ _ _ _ _ _ rfl ?_ ?_
    · exact Frame.refl _ _
    · intro x17 x18
      extract_lets x19 x20
      clear_value x19
      clear_value x20
      refine Frame.step (frame_modNote _ _ _) rfl ?_
      refine Frame.step (frame_set_sys _ _) rfl ?_
      assumption
  · refine OptFramed.some ?_
    unfold regRo
    refine framed_regAt _ _ (fun q21 v22 s23 => ?_)
    refine frame_wr _ _ _ _ _ _ _ _ rfl ?_ ?_
    · exact Frame.refl _ _
    · intro x24 x25
      unfold id
      assumption
  · refine OptFramed.some ?_
    unfold regRo
    refine framed_regAt _ _ (fun q26 v27 s28 => ?_)
    refine frame_wr _ _ _ _ _ _ _ _ rfl ?_ ?_
    · exact Frame.refl _ _
    · intro x29 x30
      unfold id
      assumption
  · exact OptFramed.none _

/-- Changes at most tick. -/
theorem frame_modTick : ∀ (f : TickBlk → TickBlk) (s : State), Frame 512 s (modTick f s) := by
  intro f s
  unfold modTick
  refine Frame.step (frame_set_tick _ _) rfl ?_
  exact Frame.refl _ _

/-- Leaves pending, cfg as it was. -/
theorem frame_tickReg : ∀ (off : Nat), OptFramed 2147481598 (tickReg off) := by
  intro off
  unfold tickReg
  split
  · refine OptFramed.some ?_
    unfold regEmpty
    unfold regRo
    refine framed_regAt _ _ (fun q1 v2 s3 => ?_)
    refine frame_wr _ _ _ _ _ _ _ _ rfl ?_ ?_
    · exact Frame.refl _ _
    · intro x4 x5
      unfold id
      assumption
  · refine OptFramed.some ?_
    unfold regEmpty
    unfold regRo
    refine framed_regAt _ _ (fun q6 v7 s8 => ?_)
    refine frame_wr _ _ _ _ _ _ _ _ rfl ?_ ?_
    · exact Frame.refl _ _
    · intro x9 x10
      unfold id
      assumption
  · refine OptFramed.some ?_
    unfold regRo
    refine framed_regAt _ _ (fun q11 v12 s13 => ?_)
    refine frame_wr _ _ _ _ _ _ _ _ rfl ?_ ?_
    · exact Frame.refl _ _
    · intro x14 x15
      unfold id
      assumption
  · refine OptFramed.some ?_
    unfold regRo
    refine framed_regAt _ _ (fun q16 v17 s18 => ?_)
    refine frame_wr _ _ _ _ _ _ _ _ rfl ?_ ?_
    · exact Frame.refl _ _
    · intro x19 x20
      unfold id
      assumption
  · refine OptFramed.some ?_
    unfold regLo
    refine ⟨fun q21 s22 => ?_, fun q23 v24 s25 => ?_⟩
    · dsimp only
      refine Frame.step (frame_latchRead _ _ _ _) rfl ?_
      exact Frame.refl _ _
    · dsimp only
      refine frame_wr _ _ _ _ _ _ _ _ rfl ?_ ?_
      · exact Frame.refl _ _
      · intro x26 x27
        unfold id
        assumption
  · refine OptFramed.some ?_
    unfold regHi
    refine ⟨fun q28 s29 => ?_, fun q30 v31 s32 => ?_⟩
    · dsimp only
      exact Frame.refl _ _
    · dsimp only
      refine frame_wr _ _ _ _ _ _ _ _ rfl ?_ ?_
      · exact Frame.refl _ _
      · intro x33 x34
        unfold id
        assumption
  · refine OptFramed.some ?_
    unfold regRo
    refine framed_regAt _ _ (fun q35 v36 s37 => ?_)
    refine frame_wr _ _ _ _ _ _ _ _ rfl ?_ ?_
    · exact Frame.refl _ _
    · intro x38 x39
      unfold id
      assumption
  · refine OptFramed.some ?_
    unfold regCount
    unfold regCounter
    refine ⟨fun q40 s41 => ?_, fun q42 v43 s44 => ?_⟩
    · dsimp only
      exact Frame.refl _ _
    · dsimp only
      refine frame_wr _ _ _ _ _ _ _ _ rfl ?_ ?_
      · exact Frame.refl _ _
      · intro x45 x46
        refine frame_storeCount _ _ _ _ _ _ rfl ?_ ?_
        · assumption
        · intro x47 x48 x49
          refine Frame.step (frame_modTick _ _) rfl ?_
          assumption
  · refine OptFramed.some ?_
    unfold regCount
    unfold regCounter
    refine ⟨fun q50 s51 => ?_, fun q52 v53 s54 => ?_⟩
    · dsimp only
      exact Frame.refl _ _
    · dsimp only
      refine frame_wr _ _ _ _ _ _ _ _ rfl ?_ ?_
      · exact Frame.refl _ _
      · intro x55 x56
        refine frame_storeCount _ _ _ _ _ _ rfl ?_ ?_
        · assumption
        · intro x57 x58 x59
          refine Frame.step (frame_modTick _ _) rfl ?_
          assumption
  · refine OptFramed.some ?_
    unfold regRo
    refine framed_regAt _ _ (fun q60 v61 s62 => ?_)
    refine frame_wr _ _ _ _ _ _ _ _ rfl ?_ ?_
    · exact Frame.refl _ _
    · intro x63 x64
      unfold id
      assumption
  · refine OptFramed.some ?_
    unfold regRo
    refine framed_regAt _ _ (fun q65 v66 s67 => ?_)
    refine frame_wr _ _ _ _ _ _ _ _ rfl ?_ ?_
    · exact Frame.refl _ _
    · intro x68 x69
      unfold id
      assumption
  · refine OptFramed.some ?_
    unfold regRange
    unfold regCheck
    refine framed_regAt _ _ (fun q70 v71 s72 => ?_)
    beta_reduce
    refine frame_wrIf _ _ _ _ _ _ _ rfl ?_ ?_
    · exact Frame.refl _ _
    · intro x73 x74
      refine Frame.step (frame_modTick _ _) rfl ?_
      assumption
  · refine OptFramed.some ?_
    unfold regRo
    refine framed_regAt _ _ (fun q75 v76 s77 => ?_)
    refine frame_wr _ _ _ _ _ _ _ _ rfl ?_ ?_
    · exact Frame.refl _ _
    · intro x78 x79
      unfold id
      assumption
  · exact OptFramed.none _

/-- Changes at most heads, held. -/
theorem frame_swapatLoWrite : ∀ (rq : Requester) (v : Word) (s : State), Frame 80 s (swapatLoWrite rq v s) := by
  intro rq v s
  unfold swapatLoWrite
  refine Frame.ite ?_ ?_
  · refine Frame.step (frame_holdWrite _ _ _ _) rfl ?_
    exact Frame.refl _ _
  · refine Frame.step (frame_setErr _ _ _) rfl ?_
    exact Frame.refl _ _

/-- Leaves pending, cfg as it was. -/
theorem frame_strctReg : ∀ (off : Nat), OptFramed 2147481598 (strctReg off) := by
  intro off
  unfold strctReg
  split
  · refine OptFramed.some ?_
    unfold regEmpty
    unfold regRo
    refine framed_regAt _ _ (fun q1 v2 s3 => ?_)
    refine frame_wr _ _ _ _ _ _ _ _ rfl ?_ ?_
    · exact Frame.refl _ _
    · intro x4 x5
      unfold id
      assumption
  · refine OptFramed.some ?_
    unfold regRo
    refine framed_regAt _ _ (fun q6 v7 s8 => ?_)
    refine frame_wr _ _ _ _ _ _ _ _ rfl ?_ ?_
    · exact Frame.refl _ _
    · intro x9 x10
      unfold id
      assumption
  · refine OptFramed.some ?_
    refine framed_regAt _ _ (fun q11 v12 s13 => ?_)
    refine Frame.step (frame_structLoadWrite _ _ _) rfl ?_
    exact Frame.refl _ _
  · refine OptFramed.some ?_
    refine framed_regAt _ _ (fun q14 v15 s16 => ?_)
    refine Frame.step (frame_swapatLoWrite _ _ _) rfl ?_
    exact Frame.refl _ _
  · refine OptFramed.some ?_
    refine framed_regAt _ _ (fun q17 v18 s19 => ?_)
    refine Frame.step (frame_doSwapatArm _ _ _) rfl ?_
    exact Frame.refl _ _
  · refine OptFramed.some ?_
    unfold regRo
    refine framed_regAt _ _ (fun q20 v21 s22 => ?_)
    refine frame_wr _ _ _ _ _ _ _ _ rfl ?_ ?_
    · exact Frame.refl _ _
    · intro x23 x24
      unfold id
      assumption
  · refine OptFramed.some ?_
    unfold regRo
    refine framed_regAt _ _ (fun q25 v26 s27 => ?_)
    refine frame_wr _ _ _ _ _ _ _ _ rfl ?_ ?_
    · exact Frame.refl _ _
    · intro x28 x29
      unfold id
      assumption
  · refine OptFramed.ite ?_ ?_
    · refine OptFramed.some ?_
      unfold regRo
      refine framed_regAt _ _ (fun q30 v31 s32 => ?_)
      refine frame_wr _ _ _ _ _ _ _ _ rfl ?_ ?_
      · exact Frame.refl _ _
      · intro x33 x34
        unfold id
        assumption
    · refine OptFramed.ite ?_ ?_
      · refine OptFramed.some ?_
        unfold regRo
        refine framed_regAt _ _ (fun q35 v36 s37 => ?_)
        refine frame_wr _ _ _ _ _ _ _ _ rfl ?_ ?_
        · exact Frame.refl _ _
        · intro x38 x39
          unfold id
          assumption
      · exact OptFramed.none _

/-- Leaves pending, cfg as it was. -/
theorem frame_hswMap : ∀ (off at_ : Nat) (f : State → Nat → Bool), OptFramed 2147481598 (hswMap off at_ f) := by
  intro off at_ f
  unfold hswMap
  refine OptFramed.ite ?_ ?_
  · refine OptFramed.some ?_
    unfold regRo
    refine framed_regAt _ _ (fun q1 v2 s3 => ?_)
    refine frame_wr _ _ _ _ _ _ _ _ rfl ?_ ?_
    · exact Frame.refl _ _
    · intro x4 x5
      unfold id
      assumption
  · exact OptFramed.none _

/-- Leaves pending, cfg as it was. -/
theorem frame_hsFoldReg : ∀ (f off at_ : Nat), OptFramed 2147481598 (hsFoldReg f off at_) := by
  intro f off at_
  unfold hsFoldReg
  extract_lets x2 x3
  split
  · refine OptFramed.some ?_
    unfold regRo
    refine framed_regAt _ _ (fun q4 v5 s6 => ?_)
    refine frame_wr _ _ _ _ _ _ _ _ rfl ?_ ?_
    · exact Frame.refl _ _
    · intro x7 x8
      unfold id
      assumption
  · refine OptFramed.some ?_
    unfold regRo
    refine framed_regAt _ _ (fun q9 v10 s11 => ?_)
    refine frame_wr _ _ _ _ _ _ _ _ rfl ?_ ?_
    · exact Frame.refl _ _
    · intro x12 x13
      unfold id
      assumption
  · refine OptFramed.some ?_
    unfold regRo
    refine framed_regAt _ _ (fun q14 v15 s16 => ?_)
    refine frame_wr _ _ _ _ _ _ _ _ rfl ?_ ?_
    · exact Frame.refl _ _
    · intro x17 x18
      unfold id
      assumption
  · refine OptFramed.some ?_
    unfold regRo
    refine framed_regAt _ _ (fun q19 v20 s21 => ?_)
    refine frame_wr _ _ _ _ _ _ _ _ rfl ?_ ?_
    · exact Frame.refl _ _
    · intro x22 x23
      unfold id
      assumption
  · refine OptFramed.some ?_
    unfold regRo
    refine framed_regAt _ _ (fun q24 v25 s26 => ?_)
    refine frame_wr _ _ _ _ _ _ _ _ rfl ?_ ?_
    · exact Frame.refl _ _
    · intro x27 x28
      unfold id
      assumption
  · exact OptFramed.none _

/-- Changes at most heads, sys, evt, hsw, time, tally. -/
theorem frame_hsCtrlWrite : ∀ (k : Fin 96) (rq : Requester) (v : Word) (s : State), Frame 397712 s (hsCtrlWrite k rq v s) := by
  intro k rq v s
  unfold hsCtrlWrite
  refine frame_wr _ _ _ _ _ _ _ _ rfl ?_ ?_
  · exact Frame.refl _ _
  · intro x1 x2
    extract_lets x3
    have h4 : Frame 397712 s x3 := by
      subst x3
      refine Frame.ite ?_ ?_
      · refine Frame.step (frame_doReenable _ _ _) rfl ?_
        assumption
      · assumption
    clear_value x3
    refine Frame.ite ?_ ?_
    · refine Frame.step (frame_doHswClrcnt _ _ _) rfl ?_
      assumption
    · assumption

/-- Leaves pending, cfg as it was. -/
theorem frame_hsChanReg : ∀ (k : Fin 96) (off at_ : Nat), OptFramed 2147481598 (hsChanReg k off at_) := by
  intro k off at_
  unfold hsChanReg
  extract_lets x2 x3
  split
  · refine OptFramed.some ?_
    refine framed_regAt _ _ (fun q4 v5 s6 => ?_)
    refine Frame.step (frame_hsCtrlWrite _ _ _ _) rfl ?_
    exact Frame.refl _ _
  · refine OptFramed.some ?_
    unfold regRw
    refine framed_regAt _ _ (fun q7 v8 s9 => ?_)
    beta_reduce
    refine frame_wr _ _ _ _ _ _ _ _ rfl ?_ ?_
    · exact Frame.refl _ _
    · intro x10 x11
      refine Frame.step (frame_modHs _ _ _) rfl ?_
      assumption
  · refine OptFramed.some ?_
    unfold regRo
    refine framed_regAt _ _ (fun q12 v13 s14 => ?_)
    refine frame_wr _ _ _ _ _ _ _ _ rfl ?_ ?_
    · exact Frame.refl _ _
    · intro x15 x16
      unfold id
      assumption
  · refine OptFramed.some ?_
    unfold regRo
    refine framed_regAt _ _ (fun q17 v18 s19 => ?_)
    refine frame_wr _ _ _ _ _ _ _ _ rfl ?_ ?_
    · exact Frame.refl _ _
    · intro x20 x21
      unfold id
      assumption
  · refine OptFramed.some ?_
    unfold regRo
    refine framed_regAt _ _ (fun q22 v23 s24 => ?_)
    refine frame_wr _ _ _ _ _ _ _ _ rfl ?_ ?_
    · exact Frame.refl _ _
    · intro x25 x26
      unfold id
      assumption
  · refine OptFramed.some ?_
    unfold regRo
    refine framed_regAt _ _ (fun q27 v28 s29 => ?_)
    refine frame_wr _ _ _ _ _ _ _ _ rfl ?_ ?_
    · exact Frame.refl _ _
    · intro x30 x31
      unfold id
      assumption
  · refine OptFramed.some ?_
    unfold regRo
    refine framed_regAt _ _ (fun q32 v33 s34 => ?_)
    refine frame_wr _ _ _ _ _ _ _ _ rfl ?_ ?_
    · exact Frame.refl _ _
    · intro x35 x36
      unfold id
      assumption
  · refine OptFramed.some ?_
    unfold regRo
    refine framed_regAt _ _ (fun q37 v38 s39 => ?_)
    refine frame_wr _ _ _ _ _ _ _ _ rfl ?_ ?_
    · exact Frame.refl _ _
    · intro x40 x41
      unfold id
      assumption
  · refine OptFramed.some ?_
    unfold regCount
    unfold regCounter
    refine ⟨fun q42 s43 => ?_, fun q44 v45 s46 => ?_⟩
    · dsimp only
      exact Frame.refl _ _
    · dsimp only
      refine frame_wr _ _ _ _ _ _ _ _ rfl ?_ ?_
      · exact Frame.refl _ _
      · intro x47 x48
        refine frame_storeCount _ _ _ _ _ _ rfl ?_ ?_
        · assumption
        · intro x49 x50 x51
          refine Frame.step (frame_modHs _ _ _) rfl ?_
          assumption
  · refine OptFramed.some ?_
    unfold regRo
    refine framed_regAt _ _ (fun q52 v53 s54 => ?_)
    refine frame_wr _ _ _ _ _ _ _ _ rfl ?_ ?_
    · exact Frame.refl _ _
    · intro x55 x56
      unfold id
      assumption
  · refine OptFramed.some ?_
    unfold regRo
    refine framed_regAt _ _ (fun q57 v58 s59 => ?_)
    refine frame_wr _ _ _ _ _ _ _ _ rfl ?_ ?_
    · exact Frame.refl _ _
    · intro x60 x61
      unfold id
      assumption
  · refine OptFramed.some ?_
    unfold regRo
    refine framed_regAt _ _ (fun q62 v63 s64 => ?_)
    refine frame_wr _ _ _ _ _ _ _ _ rfl ?_ ?_
    · exact Frame.refl _ _
    · intro x65 x66
      unfold id
      assumption
  · exact OptFramed.none _

/-- Leaves pending, cfg as it was. -/
theorem frame_hswReg : ∀ (off : Nat), OptFramed 2147481598 (hswReg off) := by
  intro off
  unfold hswReg
  extract_lets x2
  split
  · refine OptFramed.some ?_
    unfold regEmpty
    unfold regRo
    refine framed_regAt _ _ (fun q3 v4 s5 => ?_)
    refine frame_wr _ _ _ _ _ _ _ _ rfl ?_ ?_
    · exact Frame.refl _ _
    · intro x6 x7
      unfold id
      assumption
  · refine OptFramed.some ?_
    unfold regRo
    refine framed_regAt _ _ (fun q8 v9 s10 => ?_)
    refine frame_wr _ _ _ _ _ _ _ _ rfl ?_ ?_
    · exact Frame.refl _ _
    · intro x11 x12
      unfold id
      assumption
  · refine OptFramed.some ?_
    unfold regRo
    refine framed_regAt _ _ (fun q13 v14 s15 => ?_)
    refine frame_wr _ _ _ _ _ _ _ _ rfl ?_ ?_
    · exact Frame.refl _ _
    · intro x16 x17
      unfold id
      assumption
  · refine OptFramed.some ?_
    unfold regRo
    refine framed_regAt _ _ (fun q18 v19 s20 => ?_)
    refine frame_wr _ _ _ _ _ _ _ _ rfl ?_ ?_
    · exact Frame.refl _ _
    · intro x21 x22
      unfold id
      assumption
  · refine OptFramed.ite ?_ ?_
    · exact OptFramed.none _
    · refine OptFramed.ite ?_ ?_
      · exact frame_hswMap _ _ _
      · refine OptFramed.ite ?_ ?_
        · exact frame_hswMap _ _ _
        · refine OptFramed.ite ?_ ?_
          · exact frame_hswMap _ _ _
          · refine OptFramed.ite ?_ ?_
            · exact frame_hswMap _ _ _
            · split
              · exact frame_hsFoldReg _ _ _
              · split
                · split
                  · exact frame_hsChanReg _ _ _
                  · exact OptFramed.none _
                · exact OptFramed.none _

/-- Leaves pending, cfg as it was. -/
theorem frame_solChanReg : ∀ (k : Fin 16) (off at_ : Nat), OptFramed 2147481598 (solChanReg k off at_) := by
  intro k off at_
  unfold solChanReg
  extract_lets x2 x3
  split
  · refine OptFramed.some ?_
    unfold regRw
    refine framed_regAt _ _ (fun q4 v5 s6 => ?_)
    beta_reduce
    refine frame_wr _ _ _ _ _ _ _ _ rfl ?_ ?_
    · exact Frame.refl _ _
    · intro x7 x8
      refine Frame.ite ?_ ?_
      · refine Frame.step (frame_doSolClrcnt _ _ _) rfl ?_
        assumption
      · assumption
  · refine OptFramed.some ?_
    unfold regRw
    refine framed_regAt _ _ (fun q9 v10 s11 => ?_)
    beta_reduce
    refine frame_wr _ _ _ _ _ _ _ _ rfl ?_ ?_
    · exact Frame.refl _ _
    · intro x12 x13
      extract_lets x14
      clear_value x14
      refine Frame.step (frame_modSol _ _ _) rfl ?_
      assumption
  · refine OptFramed.some ?_
    unfold regRo
    refine framed_regAt _ _ (fun q15 v16 s17 => ?_)
    refine frame_wr _ _ _ _ _ _ _ _ rfl ?_ ?_
    · exact Frame.refl _ _
    · intro x18 x19
      unfold id
      assumption
  · refine OptFramed.some ?_
    unfold regRo
    refine framed_regAt _ _ (fun q20 v21 s22 => ?_)
    refine frame_wr _ _ _ _ _ _ _ _ rfl ?_ ?_
    · exact Frame.refl _ _
    · intro x23 x24
      unfold id
      assumption
  · refine OptFramed.some ?_
    unfold regLo
    refine ⟨fun q25 s26 => ?_, fun q27 v28 s29 => ?_⟩
    · dsimp only
      refine Frame.step (frame_latchRead _ _ _ _) rfl ?_
      exact Frame.refl _ _
    · dsimp only
      refine frame_wr _ _ _ _ _ _ _ _ rfl ?_ ?_
      · exact Frame.refl _ _
      · intro x30 x31
        unfold id
        assumption
  · refine OptFramed.some ?_
    unfold regHi
    refine ⟨fun q32 s33 => ?_, fun q34 v35 s36 => ?_⟩
    · dsimp only
      exact Frame.refl _ _
    · dsimp only
      refine frame_wr _ _ _ _ _ _ _ _ rfl ?_ ?_
      · exact Frame.refl _ _
      · intro x37 x38
        unfold id
        assumption
  · refine OptFramed.some ?_
    unfold regRo
    refine framed_regAt _ _ (fun q39 v40 s41 => ?_)
    refine frame_wr _ _ _ _ _ _ _ _ rfl ?_ ?_
    · exact Frame.refl _ _
    · intro x42 x43
      unfold id
      assumption
  · refine OptFramed.some ?_
    unfold regRo
    refine framed_regAt _ _ (fun q44 v45 s46 => ?_)
    refine frame_wr _ _ _ _ _ _ _ _ rfl ?_ ?_
    · exact Frame.refl _ _
    · intro x47 x48
      unfold id
      assumption
  · refine OptFramed.some ?_
    unfold regCount
    unfold regCounter
    refine ⟨fun q49 s50 => ?_, fun q51 v52 s53 => ?_⟩
    · dsimp only
      exact Frame.refl _ _
    · dsimp only
      refine frame_wr _ _ _ _ _ _ _ _ rfl ?_ ?_
      · exact Frame.refl _ _
      · intro x54 x55
        refine frame_storeCount _ _ _ _ _ _ rfl ?_ ?_
        · assumption
        · intro x56 x57 x58
          refine Frame.step (frame_modSol _ _ _) rfl ?_
          assumption
  · refine OptFramed.some ?_
    unfold regRo
    refine framed_regAt _ _ (fun q59 v60 s61 => ?_)
    refine frame_wr _ _ _ _ _ _ _ _ rfl ?_ ?_
    · exact Frame.refl _ _
    · intro x62 x63
      unfold id
      assumption
  · exact OptFramed.none _

/-- Leaves pending, cfg as it was. -/
theorem frame_solReg : ∀ (off : Nat), OptFramed 2147481598 (solReg off) := by
  intro off
  unfold solReg
  split
  · refine OptFramed.some ?_
    unfold regEmpty
    unfold regRo
    refine framed_regAt _ _ (fun q1 v2 s3 => ?_)
    refine frame_wr _ _ _ _ _ _ _ _ rfl ?_ ?_
    · exact Frame.refl _ _
    · intro x4 x5
      unfold id
      assumption
  · refine OptFramed.some ?_
    unfold regRo
    refine framed_regAt _ _ (fun q6 v7 s8 => ?_)
    refine frame_wr _ _ _ _ _ _ _ _ rfl ?_ ?_
    · exact Frame.refl _ _
    · intro x9 x10
      unfold id
      assumption
  · refine OptFramed.some ?_
    unfold regRo
    refine framed_regAt _ _ (fun q11 v12 s13 => ?_)
    refine frame_wr _ _ _ _ _ _ _ _ rfl ?_ ?_
    · exact Frame.refl _ _
    · intro x14 x15
      unfold id
      assumption
  · refine OptFramed.some ?_
    unfold regRo
    refine framed_regAt _ _ (fun q16 v17 s18 => ?_)
    refine frame_wr _ _ _ _ _ _ _ _ rfl ?_ ?_
    · exact Frame.refl _ _
    · intro x19 x20
      unfold id
      assumption
  · split
    · split
      · exact frame_solChanReg _ _ _
      · exact OptFramed.none _
    · exact OptFramed.none _

/-- Changes at most heads, sys, evt, time. -/
theorem frame_doSysReset : ∀ (rq : Requester) (v : Word) (s : State), Frame 131472 s (doSysReset rq v s) := by
  intro rq v s
  unfold doSysReset
  refine Frame.step (frame_sysCtrlWrite _ _ _) rfl ?_
  exact Frame.refl _ _

/-- Leaves pending, cfg as it was. -/
theorem frame_stringReg : ∀ (k : Fin 8) (off at_ : Nat), OptFramed 2147481598 (stringReg k off at_) := by
  intro k off at_
  unfold stringReg
  extract_lets x2 x3
  split
  · refine OptFramed.some ?_
    refine framed_regAt _ _ (fun q4 v5 s6 => ?_)
    refine frame_wr _ _ _ _ _ _ _ _ rfl ?_ ?_
    · exact Frame.refl _ _
    · intro x7 x8
      refine Frame.ite ?_ ?_
      · refine Frame.step (frame_doStringReenable _ _ _) rfl ?_
        assumption
      · assumption
  · refine OptFramed.some ?_
    unfold regRo
    refine framed_regAt _ _ (fun q9 v10 s11 => ?_)
    refine frame_wr _ _ _ _ _ _ _ _ rfl ?_ ?_
    · exact Frame.refl _ _
    · intro x12 x13
      unfold id
      assumption
  · refine OptFramed.some ?_
    unfold regRo
    refine framed_regAt _ _ (fun q14 v15 s16 => ?_)
    refine frame_wr _ _ _ _ _ _ _ _ rfl ?_ ?_
    · exact Frame.refl _ _
    · intro x17 x18
      unfold id
      assumption
  · refine OptFramed.some ?_
    unfold regRo
    refine framed_regAt _ _ (fun q19 v20 s21 => ?_)
    refine frame_wr _ _ _ _ _ _ _ _ rfl ?_ ?_
    · exact Frame.refl _ _
    · intro x22 x23
      unfold id
      assumption
  · refine OptFramed.some ?_
    unfold regRo
    refine framed_regAt _ _ (fun q24 v25 s26 => ?_)
    refine frame_wr _ _ _ _ _ _ _ _ rfl ?_ ?_
    · exact Frame.refl _ _
    · intro x27 x28
      unfold id
      assumption
  · refine OptFramed.some ?_
    unfold regRo
    refine framed_regAt _ _ (fun q29 v30 s31 => ?_)
    refine frame_wr _ _ _ _ _ _ _ _ rfl ?_ ?_
    · exact Frame.refl _ _
    · intro x32 x33
      unfold id
      assumption
  · refine OptFramed.some ?_
    unfold regRo
    refine framed_regAt _ _ (fun q34 v35 s36 => ?_)
    refine frame_wr _ _ _ _ _ _ _ _ rfl ?_ ?_
    · exact Frame.refl _ _
    · intro x37 x38
      unfold id
      assumption
  · refine OptFramed.some ?_
    unfold regRo
    refine framed_regAt _ _ (fun q39 v40 s41 => ?_)
    refine frame_wr _ _ _ _ _ _ _ _ rfl ?_ ?_
    · exact Frame.refl _ _
    · intro x42 x43
      unfold id
      assumption
  · refine OptFramed.some ?_
    unfold regRo
    refine framed_regAt _ _ (fun q44 v45 s46 => ?_)
    refine frame_wr _ _ _ _ _ _ _ _ rfl ?_ ?_
    · exact Frame.refl _ _
    · intro x47 x48
      unfold id
      assumption
  · exact OptFramed.none _

/-- Leaves pending, cfg as it was. -/
theorem frame_patternReg : ∀ (e : Fin 4) (off at_ : Nat), OptFramed 2147481598 (patternReg e off at_) := by
  intro e off at_
  unfold patternReg
  extract_lets x2
  split
  · refine OptFramed.some ?_
    refine framed_regAt _ _ (fun q3 v4 s5 => ?_)
    refine Frame.step (frame_doPeCtrlWrite _ _ _ _ _) rfl ?_
    exact Frame.refl _ _
  · refine OptFramed.some ?_
    refine framed_regAt _ _ (fun q6 v7 s8 => ?_)
    refine Frame.step (frame_doPeCtrlWrite _ _ _ _ _) rfl ?_
    exact Frame.refl _ _
  · refine OptFramed.some ?_
    refine framed_regAt _ _ (fun q9 v10 s11 => ?_)
    refine Frame.step (frame_doPeCtrlWrite _ _ _ _ _) rfl ?_
    exact Frame.refl _ _
  · refine OptFramed.some ?_
    unfold regRo
    refine framed_regAt _ _ (fun q12 v13 s14 => ?_)
    refine frame_wr _ _ _ _ _ _ _ _ rfl ?_ ?_
    · exact Frame.refl _ _
    · intro x15 x16
      unfold id
      assumption
  · exact OptFramed.none _

/-- Leaves pending, cfg as it was. -/
theorem frame_chainReg : ∀ (l : Fin 4) (off at_ : Nat), OptFramed 2147481598 (chainReg l off at_) := by
  intro l off at_
  unfold chainReg
  extract_lets x2
  split
  · refine OptFramed.some ?_
    unfold regRw
    refine framed_regAt _ _ (fun q3 v4 s5 => ?_)
    beta_reduce
    refine frame_wr _ _ _ _ _ _ _ _ rfl ?_ ?_
    · exact Frame.refl _ _
    · intro x6 x7
      refine Frame.ite ?_ ?_
      · refine Frame.step (frame_doChainSend _ _ _) rfl ?_
        assumption
      · assumption
  · refine OptFramed.some ?_
    unfold regRange
    unfold regCheck
    refine framed_regAt _ _ (fun q8 v9 s10 => ?_)
    beta_reduce
    refine frame_wrIf _ _ _ _ _ _ _ rfl ?_ ?_
    · exact Frame.refl _ _
    · intro x11 x12
      refine Frame.step (frame_modChain _ _ _) rfl ?_
      assumption
  · refine OptFramed.some ?_
    unfold regRw
    refine framed_regAt _ _ (fun q13 v14 s15 => ?_)
    beta_reduce
    refine frame_wr _ _ _ _ _ _ _ _ rfl ?_ ?_
    · exact Frame.refl _ _
    · intro x16 x17
      refine Frame.step (frame_modChain _ _ _) rfl ?_
      assumption
  · refine OptFramed.some ?_
    unfold regRo
    refine framed_regAt _ _ (fun q18 v19 s20 => ?_)
    refine frame_wr _ _ _ _ _ _ _ _ rfl ?_ ?_
    · exact Frame.refl _ _
    · intro x21 x22
      unfold id
      assumption
  · refine OptFramed.some ?_
    unfold regCount
    unfold regCounter
    refine ⟨fun q23 s24 => ?_, fun q25 v26 s27 => ?_⟩
    · dsimp only
      exact Frame.refl _ _
    · dsimp only
      refine frame_wr _ _ _ _ _ _ _ _ rfl ?_ ?_
      · exact Frame.refl _ _
      · intro x28 x29
        refine frame_storeCount _ _ _ _ _ _ rfl ?_ ?_
        · assumption
        · intro x30 x31 x32
          refine Frame.step (frame_modChain _ _ _) rfl ?_
          assumption
  · exact OptFramed.none _

/-- Leaves pending, cfg as it was. -/
theorem frame_posReg : ∀ (k : Fin 128) (off at_ : Nat), OptFramed 2147481598 (posReg k off at_) := by
  intro k off at_
  unfold posReg
  extract_lets x2
  split
  · refine OptFramed.some ?_
    unfold regRw
    refine framed_regAt _ _ (fun q3 v4 s5 => ?_)
    beta_reduce
    refine frame_wr _ _ _ _ _ _ _ _ rfl ?_ ?_
    · exact Frame.refl _ _
    · intro x6 x7
      refine Frame.ite ?_ ?_
      · refine Frame.step (frame_doPosClrcnt _ _ _) rfl ?_
        assumption
      · assumption
  · refine OptFramed.some ?_
    unfold regRo
    refine framed_regAt _ _ (fun q8 v9 s10 => ?_)
    refine frame_wr _ _ _ _ _ _ _ _ rfl ?_ ?_
    · exact Frame.refl _ _
    · intro x11 x12
      unfold id
      assumption
  · refine OptFramed.some ?_
    unfold regRo
    refine framed_regAt _ _ (fun q13 v14 s15 => ?_)
    refine frame_wr _ _ _ _ _ _ _ _ rfl ?_ ?_
    · exact Frame.refl _ _
    · intro x16 x17
      unfold id
      assumption
  · refine OptFramed.some ?_
    unfold regRo
    refine framed_regAt _ _ (fun q18 v19 s20 => ?_)
    refine frame_wr _ _ _ _ _ _ _ _ rfl ?_ ?_
    · exact Frame.refl _ _
    · intro x21 x22
      unfold id
      assumption
  · refine OptFramed.some ?_
    unfold regRo
    refine framed_regAt _ _ (fun q23 v24 s25 => ?_)
    refine frame_wr _ _ _ _ _ _ _ _ rfl ?_ ?_
    · exact Frame.refl _ _
    · intro x26 x27
      unfold id
      assumption
  · refine OptFramed.some ?_
    unfold regRo
    refine framed_regAt _ _ (fun q28 v29 s30 => ?_)
    refine frame_wr _ _ _ _ _ _ _ _ rfl ?_ ?_
    · exact Frame.refl _ _
    · intro x31 x32
      unfold id
      assumption
  · refine OptFramed.some ?_
    unfold regCount
    unfold regCounter
    refine ⟨fun q33 s34 => ?_, fun q35 v36 s37 => ?_⟩
    · dsimp only
      exact Frame.refl _ _
    · dsimp only
      refine frame_wr _ _ _ _ _ _ _ _ rfl ?_ ?_
      · exact Frame.refl _ _
      · intro x38 x39
        refine frame_storeCount _ _ _ _ _ _ rfl ?_ ?_
        · assumption
        · intro x40 x41 x42
          refine Frame.step (frame_modPos _ _ _) rfl ?_
          assumption
  · refine OptFramed.some ?_
    unfold regRo
    refine framed_regAt _ _ (fun q43 v44 s45 => ?_)
    refine frame_wr _ _ _ _ _ _ _ _ rfl ?_ ?_
    · exact Frame.refl _ _
    · intro x46 x47
      unfold id
      assumption
  · exact OptFramed.none _

/-- Leaves pending, cfg as it was. -/
theorem frame_chainBufReg : ∀ (l : Fin 4) (off at_ : Nat), OptFramed 2147481598 (chainBufReg l off at_) := by
  intro l off at_
  unfold chainBufReg
  refine OptFramed.ite ?_ ?_
  · refine OptFramed.some ?_
    unfold regRw
    refine framed_regAt _ _ (fun q1 v2 s3 => ?_)
    beta_reduce
    refine frame_wr _ _ _ _ _ _ _ _ rfl ?_ ?_
    · exact Frame.refl _ _
    · intro x4 x5
      refine Frame.step (frame_modChain _ _ _) rfl ?_
      assumption
  · exact OptFramed.none _

/-- Leaves pending, cfg as it was. -/
theorem frame_ledWindow : ∀ (off : Nat), OptFramed 2147481598 (ledWindow off) := by
  intro off
  unfold ledWindow
  split
  · split
    · exact frame_stringReg _ _ _
    · exact OptFramed.none _
  · split
    · exact frame_patternReg _ _ _
    · exact OptFramed.none _
  · split
    · exact frame_chainReg _ _ _
    · exact OptFramed.none _
  · split
    · exact frame_posReg _ _ _
    · exact OptFramed.none _
  · split
    · exact frame_chainBufReg _ _ _
    · exact OptFramed.none _
  · exact OptFramed.none _

/-- Leaves pending, cfg as it was. -/
theorem frame_ledReg : ∀ (off : Nat), OptFramed 2147481598 (ledReg off) := by
  intro off
  unfold ledReg
  split
  · refine OptFramed.some ?_
    unfold regEmpty
    unfold regRo
    refine framed_regAt _ _ (fun q1 v2 s3 => ?_)
    refine frame_wr _ _ _ _ _ _ _ _ rfl ?_ ?_
    · exact Frame.refl _ _
    · intro x4 x5
      unfold id
      assumption
  · refine OptFramed.some ?_
    unfold regRo
    refine framed_regAt _ _ (fun q6 v7 s8 => ?_)
    refine frame_wr _ _ _ _ _ _ _ _ rfl ?_ ?_
    · exact Frame.refl _ _
    · intro x9 x10
      unfold id
      assumption
  · refine OptFramed.some ?_
    unfold regRo
    refine framed_regAt _ _ (fun q11 v12 s13 => ?_)
    refine frame_wr _ _ _ _ _ _ _ _ rfl ?_ ?_
    · exact Frame.refl _ _
    · intro x14 x15
      unfold id
      assumption
  · exact frame_ledWindow _

/-- Leaves pending, cfg as it was. -/
theorem frame_diFoldReg : ∀ (f off at_ : Nat), OptFramed 2147481598 (diFoldReg f off at_) := by
  intro f off at_
  unfold diFoldReg
  split
  · refine OptFramed.some ?_
    unfold regRo
    refine framed_regAt _ _ (fun q1 v2 s3 => ?_)
    refine frame_wr _ _ _ _ _ _ _ _ rfl ?_ ?_
    · exact Frame.refl _ _
    · intro x4 x5
      unfold id
      assumption
  · refine OptFramed.some ?_
    unfold regRo
    refine framed_regAt _ _ (fun q6 v7 s8 => ?_)
    refine frame_wr _ _ _ _ _ _ _ _ rfl ?_ ?_
    · exact Frame.refl _ _
    · intro x9 x10
      unfold id
      assumption
  · refine OptFramed.some ?_
    unfold regRo
    refine framed_regAt _ _ (fun q11 v12 s13 => ?_)
    refine frame_wr _ _ _ _ _ _ _ _ rfl ?_ ?_
    · exact Frame.refl _ _
    · intro x14 x15
      unfold id
      assumption
  · exact OptFramed.none _

/-- Leaves pending, cfg as it was. -/
theorem frame_diChanReg : ∀ (k : Fin 128) (off at_ : Nat), OptFramed 2147481598 (diChanReg k off at_) := by
  intro k off at_
  unfold diChanReg
  extract_lets x2
  split
  · refine OptFramed.some ?_
    unfold regRw
    refine framed_regAt _ _ (fun q3 v4 s5 => ?_)
    beta_reduce
    refine frame_wr _ _ _ _ _ _ _ _ rfl ?_ ?_
    · exact Frame.refl _ _
    · intro x6 x7
      refine Frame.ite ?_ ?_
      · refine Frame.step (frame_doDinClrcnt _ _ _) rfl ?_
        assumption
      · assumption
  · refine OptFramed.some ?_
    unfold regRo
    refine framed_regAt _ _ (fun q8 v9 s10 => ?_)
    refine frame_wr _ _ _ _ _ _ _ _ rfl ?_ ?_
    · exact Frame.refl _ _
    · intro x11 x12
      unfold id
      assumption
  · refine OptFramed.some ?_
    unfold regRo
    refine framed_regAt _ _ (fun q13 v14 s15 => ?_)
    refine frame_wr _ _ _ _ _ _ _ _ rfl ?_ ?_
    · exact Frame.refl _ _
    · intro x16 x17
      unfold id
      assumption
  · refine OptFramed.some ?_
    unfold regRo
    refine framed_regAt _ _ (fun q18 v19 s20 => ?_)
    refine frame_wr _ _ _ _ _ _ _ _ rfl ?_ ?_
    · exact Frame.refl _ _
    · intro x21 x22
      unfold id
      assumption
  · refine OptFramed.some ?_
    unfold regLo
    refine ⟨fun q23 s24 => ?_, fun q25 v26 s27 => ?_⟩
    · dsimp only
      refine Frame.step (frame_latchRead _ _ _ _) rfl ?_
      exact Frame.refl _ _
    · dsimp only
      refine frame_wr _ _ _ _ _ _ _ _ rfl ?_ ?_
      · exact Frame.refl _ _
      · intro x28 x29
        unfold id
        assumption
  · refine OptFramed.some ?_
    unfold regHi
    refine ⟨fun q30 s31 => ?_, fun q32 v33 s34 => ?_⟩
    · dsimp only
      exact Frame.refl _ _
    · dsimp only
      refine frame_wr _ _ _ _ _ _ _ _ rfl ?_ ?_
      · exact Frame.refl _ _
      · intro x35 x36
        unfold id
        assumption
  · refine OptFramed.some ?_
    unfold regRo
    refine framed_regAt _ _ (fun q37 v38 s39 => ?_)
    refine frame_wr _ _ _ _ _ _ _ _ rfl ?_ ?_
    · exact Frame.refl _ _
    · intro x40 x41
      unfold id
      assumption
  · refine OptFramed.some ?_
    unfold regRo
    refine framed_regAt _ _ (fun q42 v43 s44 => ?_)
    refine frame_wr _ _ _ _ _ _ _ _ rfl ?_ ?_
    · exact Frame.refl _ _
    · intro x45 x46
      unfold id
      assumption
  · refine OptFramed.some ?_
    refine framed_ofUnit _ ?_
    unfold regCount
    unfold regCounter
    refine ⟨fun q47 s48 => ?_, fun q49 v50 s51 => ?_⟩
    · dsimp only
      exact Frame.refl _ _
    · dsimp only
      refine frame_wr _ _ _ _ _ _ _ _ rfl ?_ ?_
      · exact Frame.refl _ _
      · intro x52 x53
        refine frame_storeCount _ _ _ _ _ _ rfl ?_ ?_
        · assumption
        · intro x54 x55 x56
          refine Frame.ite ?_ ?_
          · assumption
          · refine Frame.step (frame_modDi _ _ _) rfl ?_
            assumption
  · exact OptFramed.none _

/-- Leaves pending, cfg as it was. -/
theorem frame_dinReg : ∀ (off : Nat), OptFramed 2147481598 (dinReg off) := by
  intro off
  unfold dinReg
  extract_lets x2
  split
  · refine OptFramed.some ?_
    unfold regEmpty
    unfold regRo
    refine framed_regAt _ _ (fun q3 v4 s5 => ?_)
    refine frame_wr _ _ _ _ _ _ _ _ rfl ?_ ?_
    · exact Frame.refl _ _
    · intro x6 x7
      unfold id
      assumption
  · refine OptFramed.some ?_
    unfold regRo
    refine framed_regAt _ _ (fun q8 v9 s10 => ?_)
    refine frame_wr _ _ _ _ _ _ _ _ rfl ?_ ?_
    · exact Frame.refl _ _
    · intro x11 x12
      unfold id
      assumption
  · refine OptFramed.ite ?_ ?_
    · exact OptFramed.none _
    · refine OptFramed.ite ?_ ?_
      · dsimp only [x2]
        refine OptFramed.some ?_
        unfold regRo
        refine framed_regAt _ _ (fun q13 v14 s15 => ?_)
        refine frame_wr _ _ _ _ _ _ _ _ rfl ?_ ?_
        · exact Frame.refl _ _
        · intro x16 x17
          unfold id
          assumption
      · refine OptFramed.ite ?_ ?_
        · dsimp only [x2]
          refine OptFramed.some ?_
          unfold regRo
          refine framed_regAt _ _ (fun q18 v19 s20 => ?_)
          refine frame_wr _ _ _ _ _ _ _ _ rfl ?_ ?_
          · exact Frame.refl _ _
          · intro x21 x22
            unfold id
            assumption
        · refine OptFramed.ite ?_ ?_
          · dsimp only [x2]
            refine OptFramed.some ?_
            unfold regRo
            refine framed_regAt _ _ (fun q23 v24 s25 => ?_)
            refine frame_wr _ _ _ _ _ _ _ _ rfl ?_ ?_
            · exact Frame.refl _ _
            · intro x26 x27
              unfold id
              assumption
          · refine OptFramed.ite ?_ ?_
            · dsimp only [x2]
              refine OptFramed.some ?_
              unfold regRo
              refine framed_regAt _ _ (fun q28 v29 s30 => ?_)
              refine frame_wr _ _ _ _ _ _ _ _ rfl ?_ ?_
              · exact Frame.refl _ _
              · intro x31 x32
                unfold id
                assumption
            · split
              · exact frame_diFoldReg _ _ _
              · split
                · exact frame_diChanReg _ _ _
                · exact OptFramed.none _
              · exact OptFramed.none _

/-- Changes at most hurdle. -/
theorem frame_modHurdle : ∀ (f : HurdleBlk → HurdleBlk) (s : State), Frame 65536 s (modHurdle f s) := by
  intro f s
  unfold modHurdle
  refine Frame.step (frame_set_hurdle _ _) rfl ?_
  exact Frame.refl _ _

/-- Leaves pending, cfg as it was. -/
theorem frame_outReg : ∀ (o : Nat) (ho : o < 256) (off at_ : Nat), OptFramed 2147481598 (outReg o ho off at_) := by
  intro o ho off at_
  unfold outReg
  extract_lets x2 x3
  split
  · refine OptFramed.some ?_
    refine framed_regAt _ _ (fun q4 v5 s6 => ?_)
    refine Frame.step (frame_doOutCmd _ _ _ _) rfl ?_
    exact Frame.refl _ _
  · refine OptFramed.some ?_
    refine framed_regAt _ _ (fun q7 v8 s9 => ?_)
    refine Frame.step (frame_outCtrlWrite _ _ _ _) rfl ?_
    exact Frame.refl _ _
  · refine OptFramed.some ?_
    unfold regRo
    refine framed_regAt _ _ (fun q10 v11 s12 => ?_)
    refine frame_wr _ _ _ _ _ _ _ _ rfl ?_ ?_
    · exact Frame.refl _ _
    · intro x13 x14
      unfold id
      assumption
  · refine OptFramed.some ?_
    unfold regRo
    refine framed_regAt _ _ (fun q15 v16 s17 => ?_)
    refine frame_wr _ _ _ _ _ _ _ _ rfl ?_ ?_
    · exact Frame.refl _ _
    · intro x18 x19
      unfold id
      assumption
  · refine OptFramed.some ?_
    unfold regRo
    refine framed_regAt _ _ (fun q20 v21 s22 => ?_)
    refine frame_wr _ _ _ _ _ _ _ _ rfl ?_ ?_
    · exact Frame.refl _ _
    · intro x23 x24
      unfold id
      assumption
  · refine OptFramed.some ?_
    unfold regRo
    refine framed_regAt _ _ (fun q25 v26 s27 => ?_)
    refine frame_wr _ _ _ _ _ _ _ _ rfl ?_ ?_
    · exact Frame.refl _ _
    · intro x28 x29
      unfold id
      assumption
  · refine OptFramed.some ?_
    unfold regRo
    refine framed_regAt _ _ (fun q30 v31 s32 => ?_)
    refine frame_wr _ _ _ _ _ _ _ _ rfl ?_ ?_
    · exact Frame.refl _ _
    · intro x33 x34
      unfold id
      assumption
  · refine OptFramed.some ?_
    unfold regRo
    refine framed_regAt _ _ (fun q35 v36 s37 => ?_)
    refine frame_wr _ _ _ _ _ _ _ _ rfl ?_ ?_
    · exact Frame.refl _ _
    · intro x38 x39
      unfold id
      assumption
  · refine OptFramed.some ?_
    unfold regRo
    refine framed_regAt _ _ (fun q40 v41 s42 => ?_)
    refine frame_wr _ _ _ _ _ _ _ _ rfl ?_ ?_
    · exact Frame.refl _ _
    · intro x43 x44
      unfold id
      assumption
  · exact OptFramed.none _

/-- Leaves pending, cfg as it was. -/
theorem frame_recReg : ∀ (i off at_ : Nat), RegDef.framed 2147481598 (recReg i off at_) := by
  intro i off at_
  unfold recReg
  unfold regRo
  refine framed_regAt _ _ (fun q1 v2 s3 => ?_)
  refine frame_wr _ _ _ _ _ _ _ _ rfl ?_ ?_
  · exact Frame.refl _ _
  · intro x4 x5
    unfold id
    assumption

/-- Leaves pending, cfg as it was. -/
theorem frame_hurdleReg : ∀ (off : Nat), OptFramed 2147481598 (hurdleReg off) := by
  intro off
  unfold hurdleReg
  extract_lets x2
  split
  · refine OptFramed.some ?_
    unfold regEmpty
    unfold regRo
    refine framed_regAt _ _ (fun q3 v4 s5 => ?_)
    refine frame_wr _ _ _ _ _ _ _ _ rfl ?_ ?_
    · exact Frame.refl _ _
    · intro x6 x7
      unfold id
      assumption
  · refine OptFramed.some ?_
    unfold regRo
    refine framed_regAt _ _ (fun q8 v9 s10 => ?_)
    refine frame_wr _ _ _ _ _ _ _ _ rfl ?_ ?_
    · exact Frame.refl _ _
    · intro x11 x12
      unfold id
      assumption
  · refine OptFramed.some ?_
    unfold regCount
    unfold regCounter
    refine ⟨fun q13 s14 => ?_, fun q15 v16 s17 => ?_⟩
    · dsimp only
      exact Frame.refl _ _
    · dsimp only
      refine frame_wr _ _ _ _ _ _ _ _ rfl ?_ ?_
      · exact Frame.refl _ _
      · intro x18 x19
        refine frame_storeCount _ _ _ _ _ _ rfl ?_ ?_
        · assumption
        · intro x20 x21 x22
          refine Frame.step (frame_modHurdle _ _) rfl ?_
          assumption
  · refine OptFramed.some ?_
    unfold regCount
    unfold regCounter
    refine ⟨fun q23 s24 => ?_, fun q25 v26 s27 => ?_⟩
    · dsimp only
      exact Frame.refl _ _
    · dsimp only
      refine frame_wr _ _ _ _ _ _ _ _ rfl ?_ ?_
      · exact Frame.refl _ _
      · intro x28 x29
        refine frame_storeCount _ _ _ _ _ _ rfl ?_ ?_
        · assumption
        · intro x30 x31 x32
          refine Frame.step (frame_modHurdle _ _) rfl ?_
          assumption
  · refine OptFramed.some ?_
    unfold regRo
    refine framed_regAt _ _ (fun q33 v34 s35 => ?_)
    refine frame_wr _ _ _ _ _ _ _ _ rfl ?_ ?_
    · exact Frame.refl _ _
    · intro x36 x37
      unfold id
      assumption
  · refine OptFramed.some ?_
    unfold regRo
    refine framed_regAt _ _ (fun q38 v39 s40 => ?_)
    refine frame_wr _ _ _ _ _ _ _ _ rfl ?_ ?_
    · exact Frame.refl _ _
    · intro x41 x42
      unfold id
      assumption
  · refine OptFramed.ite ?_ ?_
    · exact OptFramed.none _
    · refine OptFramed.ite ?_ ?_
      · dsimp only [x2]
        refine OptFramed.some ?_
        unfold regRo
        refine framed_regAt _ _ (fun q43 v44 s45 => ?_)
        refine frame_wr _ _ _ _ _ _ _ _ rfl ?_ ?_
        · exact Frame.refl _ _
        · intro x46 x47
          unfold id
          assumption
      · refine OptFramed.ite ?_ ?_
        · exact OptFramed.none _
        · refine OptFramed.ite ?_ ?_
          · dsimp only [x2]
            refine OptFramed.some ?_
            unfold regRo
            refine framed_regAt _ _ (fun q48 v49 s50 => ?_)
            refine frame_wr _ _ _ _ _ _ _ _ rfl ?_ ?_
            · exact Frame.refl _ _
            · intro x51 x52
              unfold id
              assumption
          · refine OptFramed.ite ?_ ?_
            · dsimp only [x2]
              refine OptFramed.some ?_
              unfold regRo
              refine framed_regAt _ _ (fun q53 v54 s55 => ?_)
              refine frame_wr _ _ _ _ _ _ _ _ rfl ?_ ?_
              · exact Frame.refl _ _
              · intro x56 x57
                unfold id
                assumption
            · split
              · split
                · refine OptFramed.ite ?_ ?_
                  · exact frame_outReg _ _ _ _
                  · exact OptFramed.none _
                · exact OptFramed.none _
              · refine OptFramed.some ?_
                exact frame_recReg _ _ _
              · exact OptFramed.none _

end Sys2Proof.Machine
end

