-- ==== Sys2Proof/Laws/Frames/ControlRegs.lean ====
section
/-! SUPPORT. Frames of the operations of Machine/RegsTime, RegsBus. -/

namespace Sys2Proof.Machine

set_option maxRecDepth 10000

/-- Changes at most heads, sys, evt, time, tally, fab, mbus. -/
theorem frame_tbCtrlWrite : ∀ (n : Fin 4) (rq : Requester) (v : Word) (s : State), Frame 68026768 s (tbCtrlWrite n rq v s) := by
  intro n rq v s
  unfold tbCtrlWrite
  refine frame_wrIf _ _ _ _ _ _ _ rfl ?_ ?_
  · exact Frame.refl _ _
  · intro x1 x2
    extract_lets x3
    have h4 : Frame 68026768 s x3 := by
      subst x3
      refine Frame.step (frame_doTbOos _ _ _ _) rfl ?_
      assumption
    clear_value x3
    refine Frame.ite ?_ ?_
    · refine Frame.step (frame_doTbArm _ _ _) rfl ?_
      assumption
    · assumption

/-- Changes at most heads, held. -/
theorem frame_tbStepLoWrite : ∀ (n : Fin 4) (rq : Requester) (v : Word) (s : State), Frame 80 s (tbStepLoWrite n rq v s) := by
  intro n rq v s
  unfold tbStepLoWrite
  refine Frame.ite ?_ ?_
  · refine Frame.step (frame_holdWrite _ _ _ _) rfl ?_
    exact Frame.refl _ _
  · refine Frame.step (frame_setErr _ _ _) rfl ?_
    exact Frame.refl _ _

/-- Leaves pending, cfg as it was. -/
theorem frame_tbReg : ∀ (n : Fin 4) (off at_ : Nat), OptFramed 2147481598 (tbReg n off at_) := by
  intro n off at_
  unfold tbReg
  extract_lets x2 x3
  split
  · refine OptFramed.some ?_
    refine framed_regAt _ _ (fun q4 v5 s6 => ?_)
    refine Frame.step (frame_tbCtrlWrite _ _ _ _) rfl ?_
    exact Frame.refl _ _
  · refine OptFramed.some ?_
    unfold regRo
    refine framed_regAt _ _ (fun q7 v8 s9 => ?_)
    refine frame_wr _ _ _ _ _ _ _ _ rfl ?_ ?_
    · exact Frame.refl _ _
    · intro x10 x11
      unfold id
      assumption
  · refine OptFramed.some ?_
    refine ⟨fun q12 s13 => ?_, fun q14 v15 s16 => ?_⟩
    · dsimp only
      refine Frame.step (frame_latchRead _ _ _ _) rfl ?_
      exact Frame.refl _ _
    · dsimp only
      refine frame_wr _ _ _ _ _ _ _ _ rfl ?_ ?_
      · exact Frame.refl _ _
      · intro x17 x18
        unfold id
        assumption
  · refine OptFramed.some ?_
    refine ⟨fun q19 s20 => ?_, fun q21 v22 s23 => ?_⟩
    · dsimp only
      exact Frame.refl _ _
    · dsimp only
      refine frame_wr _ _ _ _ _ _ _ _ rfl ?_ ?_
      · exact Frame.refl _ _
      · intro x24 x25
        unfold id
        assumption
  · refine OptFramed.some ?_
    refine ⟨fun q26 s27 => ?_, fun q28 v29 s30 => ?_⟩
    · dsimp only
      exact Frame.refl _ _
    · dsimp only
      refine frame_wr _ _ _ _ _ _ _ _ rfl ?_ ?_
      · exact Frame.refl _ _
      · intro x31 x32
        unfold id
        assumption
  · refine OptFramed.some ?_
    refine framed_regAt _ _ (fun q33 v34 s35 => ?_)
    refine Frame.step (frame_doTbRateWrite _ _ _ _) rfl ?_
    exact Frame.refl _ _
  · refine OptFramed.some ?_
    refine framed_regAt _ _ (fun q36 v37 s38 => ?_)
    refine Frame.step (frame_tbStepLoWrite _ _ _ _) rfl ?_
    exact Frame.refl _ _
  · refine OptFramed.some ?_
    refine framed_regAt _ _ (fun q39 v40 s41 => ?_)
    refine Frame.step (frame_doTbStep _ _ _ _) rfl ?_
    exact Frame.refl _ _
  · exact OptFramed.none _

/-- Leaves pending, cfg as it was. -/
theorem frame_timeReg : ∀ (off : Nat), OptFramed 2147481598 (timeReg off) := by
  intro off
  unfold timeReg
  split
  · refine OptFramed.some ?_
    unfold regEmpty
    unfold regRo
    refine framed_regAt _ _ (fun q1 v2 s3 => ?_)
    refine frame_wr _ _ _ _ _ _ _ _ rfl ?_ ?_
    · exact Frame.refl _ _
    · intro x4 x5
      unfold id
      assumption
  · refine OptFramed.some ?_
    unfold regRo
    refine framed_regAt _ _ (fun q6 v7 s8 => ?_)
    refine frame_wr _ _ _ _ _ _ _ _ rfl ?_ ?_
    · exact Frame.refl _ _
    · intro x9 x10
      unfold id
      assumption
  · refine OptFramed.some ?_
    unfold regRw
    refine framed_regAt _ _ (fun q11 v12 s13 => ?_)
    beta_reduce
    refine frame_wr _ _ _ _ _ _ _ _ rfl ?_ ?_
    · exact Frame.refl _ _
    · intro x14 x15
      refine Frame.ite ?_ ?_
      · refine Frame.step (frame_doTimeCapture _ _) rfl ?_
        assumption
      · assumption
  · refine OptFramed.ite ?_ ?_
    · refine OptFramed.some ?_
      unfold regRo
      refine framed_regAt _ _ (fun q16 v17 s18 => ?_)
      refine frame_wr _ _ _ _ _ _ _ _ rfl ?_ ?_
      · exact Frame.refl _ _
      · intro x19 x20
        unfold id
        assumption
    · split
      · split
        · exact frame_tbReg _ _ _
        · exact OptFramed.none _
      · exact OptFramed.none _

/-- Changes at most tally. -/
theorem frame_threshReached : ∀ (s : State), Frame 262144 s (threshReached s) := by
  intro s
  unfold threshReached
  refine Frame.ite ?_ ?_
  · refine Frame.step (frame_modTally _ _) rfl ?_
    exact Frame.refl _ _
  · exact Frame.refl _ _

/-- Leaves pending, cfg as it was. -/
theorem frame_entryReg : ∀ (j : Nat), RegDef.framed 2147481598 (entryReg j) := by
  intro j
  unfold entryReg
  refine ⟨fun q1 s2 => ?_, fun q3 v4 s5 => ?_⟩
  · dsimp only
    split
    · dsimp only
      refine Frame.step (frame_doTallyEntryRead _ _) rfl ?_
      exact Frame.refl _ _
    · exact Frame.refl _ _
  · dsimp only
    refine frame_wr _ _ _ _ _ _ _ _ rfl ?_ ?_
    · exact Frame.refl _ _
    · intro x6 x7
      unfold id
      assumption

/-- Leaves pending, cfg as it was. -/
theorem frame_tallyReg : ∀ (off : Nat), OptFramed 2147481598 (tallyReg off) := by
  intro off
  unfold tallyReg
  split
  · refine OptFramed.some ?_
    unfold regKeeper
    refine framed_regAt _ _ (fun q1 v2 s3 => ?_)
    beta_reduce
    refine frame_wr _ _ _ _ _ _ _ _ rfl ?_ ?_
    · exact Frame.refl _ _
    · intro x4 x5
      refine Frame.ite ?_ ?_
      · refine Frame.step (frame_doTallyFlush _ _) rfl ?_
        assumption
      · assumption
  · refine OptFramed.some ?_
    unfold regRo
    refine framed_regAt _ _ (fun q6 v7 s8 => ?_)
    refine frame_wr _ _ _ _ _ _ _ _ rfl ?_ ?_
    · exact Frame.refl _ _
    · intro x9 x10
      unfold id
      assumption
  · refine OptFramed.some ?_
    unfold regCheck
    refine framed_regAt _ _ (fun q11 v12 s13 => ?_)
    beta_reduce
    refine frame_wrIf _ _ _ _ _ _ _ rfl ?_ ?_
    · exact Frame.refl _ _
    · intro x14 x15
      refine Frame.step (frame_threshReached _) rfl ?_
      refine Frame.step (frame_modTally _ _) rfl ?_
      assumption
  · refine OptFramed.some ?_
    unfold regRo
    refine framed_regAt _ _ (fun q16 v17 s18 => ?_)
    refine frame_wr _ _ _ _ _ _ _ _ rfl ?_ ?_
    · exact Frame.refl _ _
    · intro x19 x20
      unfold id
      assumption
  · refine OptFramed.some ?_
    unfold regRo
    refine framed_regAt _ _ (fun q21 v22 s23 => ?_)
    refine frame_wr _ _ _ _ _ _ _ _ rfl ?_ ?_
    · exact Frame.refl _ _
    · intro x24 x25
      unfold id
      assumption
  · refine OptFramed.some ?_
    unfold regCount
    unfold regCounter
    refine ⟨fun q26 s27 => ?_, fun q28 v29 s30 => ?_⟩
    · dsimp only
      exact Frame.refl _ _
    · dsimp only
      refine frame_wr _ _ _ _ _ _ _ _ rfl ?_ ?_
      · exact Frame.refl _ _
      · intro x31 x32
        refine frame_storeCount _ _ _ _ _ _ rfl ?_ ?_
        · assumption
        · intro x33 x34 x35
          refine Frame.step (frame_modTally _ _) rfl ?_
          assumption
  · refine OptFramed.some ?_
    unfold regRo
    refine framed_regAt _ _ (fun q36 v37 s38 => ?_)
    refine frame_wr _ _ _ _ _ _ _ _ rfl ?_ ?_
    · exact Frame.refl _ _
    · intro x39 x40
      unfold id
      assumption
  · refine OptFramed.some ?_
    unfold regRo
    refine framed_regAt _ _ (fun q41 v42 s43 => ?_)
    refine frame_wr _ _ _ _ _ _ _ _ rfl ?_ ?_
    · exact Frame.refl _ _
    · intro x44 x45
      unfold id
      assumption
  · refine OptFramed.some ?_
    unfold regRw
    refine framed_regAt _ _ (fun q46 v47 s48 => ?_)
    beta_reduce
    refine frame_wr _ _ _ _ _ _ _ _ rfl ?_ ?_
    · exact Frame.refl _ _
    · intro x49 x50
      refine Frame.step (frame_modTally _ _) rfl ?_
      assumption
  · refine OptFramed.some ?_
    unfold regRange
    unfold regCheck
    refine framed_regAt _ _ (fun q51 v52 s53 => ?_)
    beta_reduce
    refine frame_wrIf _ _ _ _ _ _ _ rfl ?_ ?_
    · exact Frame.refl _ _
    · intro x54 x55
      refine Frame.step (frame_modTally _ _) rfl ?_
      assumption
  · refine OptFramed.some ?_
    unfold regRange
    unfold regCheck
    refine framed_regAt _ _ (fun q56 v57 s58 => ?_)
    beta_reduce
    refine frame_wrIf _ _ _ _ _ _ _ rfl ?_ ?_
    · exact Frame.refl _ _
    · intro x59 x60
      refine Frame.step (frame_modTally _ _) rfl ?_
      assumption
  · refine OptFramed.some ?_
    unfold regRw
    refine framed_regAt _ _ (fun q61 v62 s63 => ?_)
    beta_reduce
    refine frame_wr _ _ _ _ _ _ _ _ rfl ?_ ?_
    · exact Frame.refl _ _
    · intro x64 x65
      refine Frame.step (frame_modTally _ _) rfl ?_
      assumption
  · refine OptFramed.some ?_
    unfold regRw
    refine framed_regAt _ _ (fun q66 v67 s68 => ?_)
    beta_reduce
    refine frame_wr _ _ _ _ _ _ _ _ rfl ?_ ?_
    · exact Frame.refl _ _
    · intro x69 x70
      refine Frame.step (frame_modTally _ _) rfl ?_
      assumption
  · refine OptFramed.some ?_
    refine framed_regAt _ _ (fun q71 v72 s73 => ?_)
    refine frame_wr _ _ _ _ _ _ _ _ rfl ?_ ?_
    · exact Frame.refl _ _
    · intro x74 x75
      refine Frame.ite ?_ ?_
      · refine Frame.step (frame_doTallyFwGo _ _) rfl ?_
        assumption
      · assumption
  · refine OptFramed.ite ?_ ?_
    · refine OptFramed.some ?_
      exact frame_entryReg _
    · exact OptFramed.none _

/-- Leaves pending, cfg as it was. -/
theorem frame_keepdataReg : RegDef.framed 2147481598 keepdataReg := by
  unfold keepdataReg
  refine ⟨fun q1 s2 => ?_, fun q3 v4 s5 => ?_⟩
  · dsimp only
    refine Frame.step (frame_doKeepdataAccess _ _ _) rfl ?_
    exact Frame.refl _ _
  · dsimp only
    refine Frame.step (frame_doKeepdataAccess _ _ _) rfl ?_
    exact Frame.refl _ _

/-- Leaves pending, cfg as it was. -/
theorem frame_bankReg : ∀ (b : Fin 18) (off at_ : Nat), OptFramed 2147481598 (bankReg b off at_) := by
  intro b off at_
  unfold bankReg
  extract_lets x2 x3
  split
  · refine OptFramed.ite ?_ ?_
    · exact OptFramed.none _
    · refine OptFramed.some ?_
      refine framed_regAt _ _ (fun q4 v5 s6 => ?_)
      refine Frame.step (frame_bankOwnerWrite _ _ _ _) rfl ?_
      exact Frame.refl _ _
  · refine OptFramed.some ?_
    unfold regRo
    refine framed_regAt _ _ (fun q7 v8 s9 => ?_)
    refine frame_wr _ _ _ _ _ _ _ _ rfl ?_ ?_
    · exact Frame.refl _ _
    · intro x10 x11
      unfold id
      assumption
  · refine OptFramed.some ?_
    unfold regCount
    unfold regCounter
    refine ⟨fun q12 s13 => ?_, fun q14 v15 s16 => ?_⟩
    · dsimp only
      exact Frame.refl _ _
    · dsimp only
      refine frame_wr _ _ _ _ _ _ _ _ rfl ?_ ?_
      · exact Frame.refl _ _
      · intro x17 x18
        refine frame_storeCount _ _ _ _ _ _ rfl ?_ ?_
        · assumption
        · intro x19 x20 x21
          refine Frame.step (frame_modBank _ _ _) rfl ?_
          assumption
  · refine OptFramed.some ?_
    unfold regCount
    unfold regCounter
    refine ⟨fun q22 s23 => ?_, fun q24 v25 s26 => ?_⟩
    · dsimp only
      exact Frame.refl _ _
    · dsimp only
      refine frame_wr _ _ _ _ _ _ _ _ rfl ?_ ?_
      · exact Frame.refl _ _
      · intro x27 x28
        refine frame_storeCount _ _ _ _ _ _ rfl ?_ ?_
        · assumption
        · intro x29 x30 x31
          refine Frame.step (frame_modBank _ _ _) rfl ?_
          assumption
  · refine OptFramed.some ?_
    unfold regRo
    refine framed_regAt _ _ (fun q32 v33 s34 => ?_)
    refine frame_wr _ _ _ _ _ _ _ _ rfl ?_ ?_
    · exact Frame.refl _ _
    · intro x35 x36
      unfold id
      assumption
  · exact OptFramed.none _

/-- Leaves pending, cfg as it was. -/
theorem frame_memReg : ∀ (off : Nat), OptFramed 2147481598 (memReg off) := by
  intro off
  unfold memReg
  split
  · refine OptFramed.some ?_
    unfold regEmpty
    unfold regRo
    refine framed_regAt _ _ (fun q1 v2 s3 => ?_)
    refine frame_wr _ _ _ _ _ _ _ _ rfl ?_ ?_
    · exact Frame.refl _ _
    · intro x4 x5
      unfold id
      assumption
  · refine OptFramed.some ?_
    unfold regRo
    refine framed_regAt _ _ (fun q6 v7 s8 => ?_)
    refine frame_wr _ _ _ _ _ _ _ _ rfl ?_ ?_
    · exact Frame.refl _ _
    · intro x9 x10
      unfold id
      assumption
  · refine OptFramed.some ?_
    unfold regRo
    refine framed_regAt _ _ (fun q11 v12 s13 => ?_)
    refine frame_wr _ _ _ _ _ _ _ _ rfl ?_ ?_
    · exact Frame.refl _ _
    · intro x14 x15
      unfold id
      assumption
  · refine OptFramed.some ?_
    unfold regCount
    unfold regCounter
    refine ⟨fun q16 s17 => ?_, fun q18 v19 s20 => ?_⟩
    · dsimp only
      exact Frame.refl _ _
    · dsimp only
      refine frame_wr _ _ _ _ _ _ _ _ rfl ?_ ?_
      · exact Frame.refl _ _
      · intro x21 x22
        refine frame_storeCount _ _ _ _ _ _ rfl ?_ ?_
        · assumption
        · intro x23 x24 x25
          refine Frame.step (frame_modMem _ _ (fun m hm => ⟨hm.1, hm.2⟩)) rfl ?_
          assumption
  · refine OptFramed.some ?_
    unfold regRw
    refine framed_regAt _ _ (fun q26 v27 s28 => ?_)
    beta_reduce
    refine frame_wr _ _ _ _ _ _ _ _ rfl ?_ ?_
    · exact Frame.refl _ _
    · intro x29 x30
      refine Frame.step (frame_modMem _ _ (fun m hm => ⟨hm.1, hm.2⟩)) rfl ?_
      assumption
  · refine OptFramed.some ?_
    exact frame_keepdataReg
  · refine OptFramed.some ?_
    unfold regRw
    refine framed_regAt _ _ (fun q31 v32 s33 => ?_)
    beta_reduce
    refine frame_wr _ _ _ _ _ _ _ _ rfl ?_ ?_
    · exact Frame.refl _ _
    · intro x34 x35
      refine Frame.step (frame_modMem _ _ (fun m hm => ⟨hm.1, hm.2⟩)) rfl ?_
      assumption
  · refine OptFramed.some ?_
    unfold regRw
    refine framed_regAt _ _ (fun q36 v37 s38 => ?_)
    beta_reduce
    refine frame_wr _ _ _ _ _ _ _ _ rfl ?_ ?_
    · exact Frame.refl _ _
    · intro x39 x40
      refine Frame.step (frame_modMem _ _ (fun m hm => ⟨hm.1, hm.2⟩)) rfl ?_
      assumption
  · refine OptFramed.some ?_
    unfold regRw
    refine framed_regAt _ _ (fun q41 v42 s43 => ?_)
    beta_reduce
    refine frame_wr _ _ _ _ _ _ _ _ rfl ?_ ?_
    · exact Frame.refl _ _
    · intro x44 x45
      refine Frame.step (frame_modMem _ _ (fun m hm => ⟨hm.1, hm.2⟩)) rfl ?_
      assumption
  · refine OptFramed.some ?_
    unfold regRange
    unfold regCheck
    refine framed_regAt _ _ (fun q46 v47 s48 => ?_)
    beta_reduce
    refine frame_wrIf _ _ _ _ _ _ _ rfl ?_ ?_
    · exact Frame.refl _ _
    · intro x49 x50
      refine Frame.step (frame_modMem _ _ (fun m hm => ⟨hm.1, hm.2⟩)) rfl ?_
      assumption
  · refine OptFramed.some ?_
    refine framed_regAt _ _ (fun q51 v52 s53 => ?_)
    refine Frame.step (frame_mwCtrlWrite _ _ _) rfl ?_
    exact Frame.refl _ _
  · refine OptFramed.some ?_
    extract_lets x55
    refine ⟨fun q56 s57 => ?_, fun q58 v59 s60 => ?_⟩
    · dsimp only
      refine Frame.step (frame_enginesNow _) rfl ?_
      exact Frame.refl _ _
    · dsimp only
      simp only [x55, regRo, regAt]
      refine frame_wr _ _ _ _ _ _ _ _ rfl ?_ ?_
      · exact Frame.refl _ _
      · intro x61 x62
        unfold id
        assumption
  · split
    · split
      · exact frame_bankReg _ _ _
      · exact OptFramed.none _
    · exact OptFramed.none _

/-- Leaves pending, cfg as it was. -/
theorem frame_queueReg : ∀ (q off at_ : Nat), OptFramed 2147481598 (queueReg q off at_) := by
  intro q off at_
  unfold queueReg
  extract_lets x2
  split
  · refine OptFramed.some ?_
    refine framed_regAt _ _ (fun q3 v4 s5 => ?_)
    refine Frame.step (frame_qCtrlWrite _ _ _ _) rfl ?_
    exact Frame.refl _ _
  · refine OptFramed.some ?_
    unfold regRo
    refine framed_regAt _ _ (fun q6 v7 s8 => ?_)
    refine frame_wr _ _ _ _ _ _ _ _ rfl ?_ ?_
    · exact Frame.refl _ _
    · intro x9 x10
      unfold id
      assumption
  · refine OptFramed.some ?_
    unfold regRo
    refine framed_regAt _ _ (fun q11 v12 s13 => ?_)
    refine frame_wr _ _ _ _ _ _ _ _ rfl ?_ ?_
    · exact Frame.refl _ _
    · intro x14 x15
      unfold id
      assumption
  · refine OptFramed.some ?_
    unfold regRo
    refine framed_regAt _ _ (fun q16 v17 s18 => ?_)
    refine frame_wr _ _ _ _ _ _ _ _ rfl ?_ ?_
    · exact Frame.refl _ _
    · intro x19 x20
      unfold id
      assumption
  · refine OptFramed.some ?_
    unfold regRo
    refine framed_regAt _ _ (fun q21 v22 s23 => ?_)
    refine frame_wr _ _ _ _ _ _ _ _ rfl ?_ ?_
    · exact Frame.refl _ _
    · intro x24 x25
      unfold id
      assumption
  · refine OptFramed.some ?_
    unfold regCount
    unfold regCounter
    refine ⟨fun q26 s27 => ?_, fun q28 v29 s30 => ?_⟩
    · dsimp only
      exact Frame.refl _ _
    · dsimp only
      refine frame_wr _ _ _ _ _ _ _ _ rfl ?_ ?_
      · exact Frame.refl _ _
      · intro x31 x32
        refine frame_storeCount _ _ _ _ _ _ rfl ?_ ?_
        · assumption
        · intro x33 x34 x35
          refine Frame.step (frame_modQ _ _ _) rfl ?_
          assumption
  · refine OptFramed.some ?_
    unfold regCount
    unfold regCounter
    refine ⟨fun q36 s37 => ?_, fun q38 v39 s40 => ?_⟩
    · dsimp only
      exact Frame.refl _ _
    · dsimp only
      refine frame_wr _ _ _ _ _ _ _ _ rfl ?_ ?_
      · exact Frame.refl _ _
      · intro x41 x42
        refine frame_storeCount _ _ _ _ _ _ rfl ?_ ?_
        · assumption
        · intro x43 x44 x45
          refine Frame.step (frame_modQ _ _ _) rfl ?_
          assumption
  · exact OptFramed.none _

/-- Leaves pending, cfg as it was. -/
theorem frame_queReg : ∀ (off : Nat), OptFramed 2147481598 (queReg off) := by
  intro off
  unfold queReg
  split
  · refine OptFramed.some ?_
    unfold regEmpty
    unfold regRo
    refine framed_regAt _ _ (fun q1 v2 s3 => ?_)
    refine frame_wr _ _ _ _ _ _ _ _ rfl ?_ ?_
    · exact Frame.refl _ _
    · intro x4 x5
      unfold id
      assumption
  · refine OptFramed.some ?_
    unfold regRo
    refine framed_regAt _ _ (fun q6 v7 s8 => ?_)
    refine frame_wr _ _ _ _ _ _ _ _ rfl ?_ ?_
    · exact Frame.refl _ _
    · intro x9 x10
      unfold id
      assumption
  · refine OptFramed.ite ?_ ?_
    · refine OptFramed.some ?_
      unfold regRo
      refine framed_regAt _ _ (fun q11 v12 s13 => ?_)
      refine frame_wr _ _ _ _ _ _ _ _ rfl ?_ ?_
      · exact Frame.refl _ _
      · intro x14 x15
        unfold id
        assumption
    · refine OptFramed.ite ?_ ?_
      · refine OptFramed.some ?_
        unfold regRo
        refine framed_regAt _ _ (fun q16 v17 s18 => ?_)
        refine frame_wr _ _ _ _ _ _ _ _ rfl ?_ ?_
        · exact Frame.refl _ _
        · intro x19 x20
          unfold id
          assumption
      · split
        · exact frame_queueReg _ _ _
        · exact OptFramed.none _

/-- Leaves pending, cfg as it was. -/
theorem frame_readerReg : ∀ (r : Fin 2) (off at_ : Nat), OptFramed 2147481598 (readerReg r off at_) := by
  intro r off at_
  unfold readerReg
  extract_lets x2 x3
  split
  · refine OptFramed.some ?_
    refine framed_regAt _ _ (fun q4 v5 s6 => ?_)
    refine Frame.step (frame_rdCtrlWrite _ _ _ _) rfl ?_
    exact Frame.refl _ _
  · refine OptFramed.some ?_
    unfold regRo
    refine framed_regAt _ _ (fun q7 v8 s9 => ?_)
    refine frame_wr _ _ _ _ _ _ _ _ rfl ?_ ?_
    · exact Frame.refl _ _
    · intro x10 x11
      unfold id
      assumption
  · refine OptFramed.some ?_
    unfold regRo
    refine framed_regAt _ _ (fun q12 v13 s14 => ?_)
    refine frame_wr _ _ _ _ _ _ _ _ rfl ?_ ?_
    · exact Frame.refl _ _
    · intro x15 x16
      unfold id
      assumption
  · refine OptFramed.some ?_
    refine ⟨fun q17 s18 => ?_, fun q19 v20 s21 => ?_⟩
    · dsimp only
      split
      · dsimp only
        refine Frame.step (frame_tickFree _) rfl ?_
        exact Frame.refl _ _
      · exact Frame.refl _ _
    · dsimp only
      simp only [x3, regRo, regAt]
      refine frame_wr _ _ _ _ _ _ _ _ rfl ?_ ?_
      · exact Frame.refl _ _
      · intro x22 x23
        unfold id
        assumption
  · refine OptFramed.some ?_
    unfold regCount
    unfold regCounter
    refine ⟨fun q24 s25 => ?_, fun q26 v27 s28 => ?_⟩
    · dsimp only
      exact Frame.refl _ _
    · dsimp only
      refine frame_wr _ _ _ _ _ _ _ _ rfl ?_ ?_
      · exact Frame.refl _ _
      · intro x29 x30
        refine frame_storeCount _ _ _ _ _ _ rfl ?_ ?_
        · assumption
        · intro x31 x32 x33
          refine Frame.step (frame_modRd _ _ _) rfl ?_
          assumption
  · refine OptFramed.ite ?_ ?_
    · refine OptFramed.some ?_
      unfold regRo
      refine framed_regAt _ _ (fun q34 v35 s36 => ?_)
      refine frame_wr _ _ _ _ _ _ _ _ rfl ?_ ?_
      · exact Frame.refl _ _
      · intro x37 x38
        unfold id
        assumption
    · exact OptFramed.none _

/-- Leaves pending, cfg as it was. -/
theorem frame_tokenReg : ∀ (k : Fin 16) (off at_ : Nat), OptFramed 2147481598 (tokenReg k off at_) := by
  intro k off at_
  unfold tokenReg
  extract_lets x2
  split
  · refine OptFramed.some ?_
    unfold regRo
    refine framed_regAt _ _ (fun q3 v4 s5 => ?_)
    refine frame_wr _ _ _ _ _ _ _ _ rfl ?_ ?_
    · exact Frame.refl _ _
    · intro x6 x7
      unfold id
      assumption
  · refine OptFramed.some ?_
    unfold regRo
    refine framed_regAt _ _ (fun q8 v9 s10 => ?_)
    refine frame_wr _ _ _ _ _ _ _ _ rfl ?_ ?_
    · exact Frame.refl _ _
    · intro x11 x12
      unfold id
      assumption
  · refine OptFramed.some ?_
    unfold regRo
    refine framed_regAt _ _ (fun q13 v14 s15 => ?_)
    refine frame_wr _ _ _ _ _ _ _ _ rfl ?_ ?_
    · exact Frame.refl _ _
    · intro x16 x17
      unfold id
      assumption
  · refine OptFramed.some ?_
    unfold regCount
    unfold regCounter
    refine ⟨fun q18 s19 => ?_, fun q20 v21 s22 => ?_⟩
    · dsimp only
      exact Frame.refl _ _
    · dsimp only
      refine frame_wr _ _ _ _ _ _ _ _ rfl ?_ ?_
      · exact Frame.refl _ _
      · intro x23 x24
        refine frame_storeCount _ _ _ _ _ _ rfl ?_ ?_
        · assumption
        · intro x25 x26 x27
          refine Frame.step (frame_modTok _ _ _) rfl ?_
          assumption
  · exact OptFramed.none _

/-- Leaves pending, cfg as it was. -/
theorem frame_accReg : ∀ (off : Nat), OptFramed 2147481598 (accReg off) := by
  intro off
  unfold accReg
  split
  · refine OptFramed.some ?_
    unfold regEmpty
    unfold regRo
    refine framed_regAt _ _ (fun q1 v2 s3 => ?_)
    refine frame_wr _ _ _ _ _ _ _ _ rfl ?_ ?_
    · exact Frame.refl _ _
    · intro x4 x5
      unfold id
      assumption
  · refine OptFramed.some ?_
    unfold regRo
    refine framed_regAt _ _ (fun q6 v7 s8 => ?_)
    refine frame_wr _ _ _ _ _ _ _ _ rfl ?_ ?_
    · exact Frame.refl _ _
    · intro x9 x10
      unfold id
      assumption
  · refine OptFramed.some ?_
    refine framed_regAt _ _ (fun q11 v12 s13 => ?_)
    refine Frame.step (frame_accLearnWrite _ _ _) rfl ?_
    exact Frame.refl _ _
  · refine OptFramed.some ?_
    unfold regRo
    refine framed_regAt _ _ (fun q14 v15 s16 => ?_)
    refine frame_wr _ _ _ _ _ _ _ _ rfl ?_ ?_
    · exact Frame.refl _ _
    · intro x17 x18
      unfold id
      assumption
  · refine OptFramed.some ?_
    unfold regRo
    refine framed_regAt _ _ (fun q19 v20 s21 => ?_)
    refine frame_wr _ _ _ _ _ _ _ _ rfl ?_ ?_
    · exact Frame.refl _ _
    · intro x22 x23
      unfold id
      assumption
  · refine OptFramed.some ?_
    unfold regCount
    unfold regCounter
    refine ⟨fun q24 s25 => ?_, fun q26 v27 s28 => ?_⟩
    · dsimp only
      exact Frame.refl _ _
    · dsimp only
      refine frame_wr _ _ _ _ _ _ _ _ rfl ?_ ?_
      · exact Frame.refl _ _
      · intro x29 x30
        refine frame_storeCount _ _ _ _ _ _ rfl ?_ ?_
        · assumption
        · intro x31 x32 x33
          refine Frame.step (frame_modAcc _ _) rfl ?_
          assumption
  · refine OptFramed.some ?_
    unfold regRo
    refine framed_regAt _ _ (fun q34 v35 s36 => ?_)
    refine frame_wr _ _ _ _ _ _ _ _ rfl ?_ ?_
    · exact Frame.refl _ _
    · intro x37 x38
      unfold id
      assumption
  · refine OptFramed.some ?_
    unfold regRo
    refine framed_regAt _ _ (fun q39 v40 s41 => ?_)
    refine frame_wr _ _ _ _ _ _ _ _ rfl ?_ ?_
    · exact Frame.refl _ _
    · intro x42 x43
      unfold id
      assumption
  · split
    · split
      · exact frame_readerReg _ _ _
      · exact OptFramed.none _
    · split
      · exact frame_tokenReg _ _ _
      · exact OptFramed.none _
    · exact OptFramed.none _

/-- Leaves pending, cfg as it was. -/
theorem frame_portReg : ∀ (p : Fin 2) (off at_ : Nat), OptFramed 2147481598 (portReg p off at_) := by
  intro p off at_
  unfold portReg
  extract_lets x2
  split
  · refine OptFramed.some ?_
    unfold regRo
    refine framed_regAt _ _ (fun q3 v4 s5 => ?_)
    refine frame_wr _ _ _ _ _ _ _ _ rfl ?_ ?_
    · exact Frame.refl _ _
    · intro x6 x7
      unfold id
      assumption
  · refine OptFramed.some ?_
    unfold regRo
    refine framed_regAt _ _ (fun q8 v9 s10 => ?_)
    refine frame_wr _ _ _ _ _ _ _ _ rfl ?_ ?_
    · exact Frame.refl _ _
    · intro x11 x12
      unfold id
      assumption
  · refine OptFramed.some ?_
    unfold regRo
    refine framed_regAt _ _ (fun q13 v14 s15 => ?_)
    refine frame_wr _ _ _ _ _ _ _ _ rfl ?_ ?_
    · exact Frame.refl _ _
    · intro x16 x17
      unfold id
      assumption
  · refine OptFramed.some ?_
    unfold regRo
    refine framed_regAt _ _ (fun q18 v19 s20 => ?_)
    refine frame_wr _ _ _ _ _ _ _ _ rfl ?_ ?_
    · exact Frame.refl _ _
    · intro x21 x22
      unfold id
      assumption
  · refine OptFramed.some ?_
    unfold regCount
    unfold regCounter
    refine ⟨fun q23 s24 => ?_, fun q25 v26 s27 => ?_⟩
    · dsimp only
      exact Frame.refl _ _
    · dsimp only
      refine frame_wr _ _ _ _ _ _ _ _ rfl ?_ ?_
      · exact Frame.refl _ _
      · intro x28 x29
        refine frame_storeCount _ _ _ _ _ _ rfl ?_ ?_
        · assumption
        · intro x30 x31 x32
          refine Frame.step (frame_modPort _ _ _) rfl ?_
          assumption
  · refine OptFramed.some ?_
    unfold regCount
    unfold regCounter
    refine ⟨fun q33 s34 => ?_, fun q35 v36 s37 => ?_⟩
    · dsimp only
      exact Frame.refl _ _
    · dsimp only
      refine frame_wr _ _ _ _ _ _ _ _ rfl ?_ ?_
      · exact Frame.refl _ _
      · intro x38 x39
        refine frame_storeCount _ _ _ _ _ _ rfl ?_ ?_
        · assumption
        · intro x40 x41 x42
          refine Frame.step (frame_modPort _ _ _) rfl ?_
          assumption
  · refine OptFramed.some ?_
    unfold regCount
    unfold regCounter
    refine ⟨fun q43 s44 => ?_, fun q45 v46 s47 => ?_⟩
    · dsimp only
      exact Frame.refl _ _
    · dsimp only
      refine frame_wr _ _ _ _ _ _ _ _ rfl ?_ ?_
      · exact Frame.refl _ _
      · intro x48 x49
        refine frame_storeCount _ _ _ _ _ _ rfl ?_ ?_
        · assumption
        · intro x50 x51 x52
          refine Frame.step (frame_modPort _ _ _) rfl ?_
          assumption
  · refine OptFramed.some ?_
    unfold regCount
    unfold regCounter
    refine ⟨fun q53 s54 => ?_, fun q55 v56 s57 => ?_⟩
    · dsimp only
      exact Frame.refl _ _
    · dsimp only
      refine frame_wr _ _ _ _ _ _ _ _ rfl ?_ ?_
      · exact Frame.refl _ _
      · intro x58 x59
        refine frame_storeCount _ _ _ _ _ _ rfl ?_ ?_
        · assumption
        · intro x60 x61 x62
          refine Frame.step (frame_modPort _ _ _) rfl ?_
          assumption
  · refine OptFramed.some ?_
    unfold regRo
    refine framed_regAt _ _ (fun q63 v64 s65 => ?_)
    refine frame_wr _ _ _ _ _ _ _ _ rfl ?_ ?_
    · exact Frame.refl _ _
    · intro x66 x67
      unfold id
      assumption
  · exact OptFramed.none _

/-- Leaves pending, cfg as it was. -/
theorem frame_raReg : ∀ (c : Fin 4) (off at_ : Nat), OptFramed 2147481598 (raReg c off at_) := by
  intro c off at_
  unfold raReg
  extract_lets x2
  split
  · refine OptFramed.some ?_
    refine framed_regAt _ _ (fun q3 v4 s5 => ?_)
    refine Frame.step (frame_raCtrlWrite _ _ _ _) rfl ?_
    exact Frame.refl _ _
  · refine OptFramed.some ?_
    unfold regRa
    unfold regCheck
    refine framed_regAt _ _ (fun q6 v7 s8 => ?_)
    beta_reduce
    refine frame_wrIf _ _ _ _ _ _ _ rfl ?_ ?_
    · exact Frame.refl _ _
    · intro x9 x10
      refine Frame.step (frame_modRa _ _ _) rfl ?_
      assumption
  · refine OptFramed.some ?_
    unfold regRa
    unfold regCheck
    refine framed_regAt _ _ (fun q11 v12 s13 => ?_)
    beta_reduce
    refine frame_wrIf _ _ _ _ _ _ _ rfl ?_ ?_
    · exact Frame.refl _ _
    · intro x14 x15
      refine Frame.step (frame_modRa _ _ _) rfl ?_
      assumption
  · refine OptFramed.some ?_
    unfold regRa
    unfold regCheck
    refine framed_regAt _ _ (fun q16 v17 s18 => ?_)
    beta_reduce
    refine frame_wrIf _ _ _ _ _ _ _ rfl ?_ ?_
    · exact Frame.refl _ _
    · intro x19 x20
      refine Frame.step (frame_modRa _ _ _) rfl ?_
      assumption
  · refine OptFramed.some ?_
    unfold regRa
    unfold regCheck
    refine framed_regAt _ _ (fun q21 v22 s23 => ?_)
    beta_reduce
    refine frame_wrIf _ _ _ _ _ _ _ rfl ?_ ?_
    · exact Frame.refl _ _
    · intro x24 x25
      unfold id
      assumption
  · refine OptFramed.some ?_
    unfold regRa
    unfold regCheck
    refine framed_regAt _ _ (fun q26 v27 s28 => ?_)
    beta_reduce
    refine frame_wrIf _ _ _ _ _ _ _ rfl ?_ ?_
    · exact Frame.refl _ _
    · intro x29 x30
      unfold id
      assumption
  · exact OptFramed.none _

/-- Leaves pending, cfg as it was. -/
theorem frame_fabReg : ∀ (off : Nat), OptFramed 2147481598 (fabReg off) := by
  intro off
  unfold fabReg
  split
  · refine OptFramed.some ?_
    refine framed_regAt _ _ (fun q1 v2 s3 => ?_)
    refine Frame.step (frame_fabCtrlWrite _ _ _) rfl ?_
    exact Frame.refl _ _
  · refine OptFramed.some ?_
    unfold regRo
    refine framed_regAt _ _ (fun q4 v5 s6 => ?_)
    refine frame_wr _ _ _ _ _ _ _ _ rfl ?_ ?_
    · exact Frame.refl _ _
    · intro x7 x8
      unfold id
      assumption
  · refine OptFramed.some ?_
    unfold regCountHi
    refine ⟨fun q9 s10 => ?_, fun q11 v12 s13 => ?_⟩
    · dsimp only
      exact Frame.refl _ _
    · dsimp only
      refine frame_wr _ _ _ _ _ _ _ _ rfl ?_ ?_
      · exact Frame.refl _ _
      · intro x14 x15
        refine frame_storeCount _ _ _ _ _ _ rfl ?_ ?_
        · assumption
        · intro x16 x17 x18
          refine Frame.step (frame_modFab _ _) rfl ?_
          assumption
  · refine OptFramed.some ?_
    unfold regRo
    refine framed_regAt _ _ (fun q19 v20 s21 => ?_)
    refine frame_wr _ _ _ _ _ _ _ _ rfl ?_ ?_
    · exact Frame.refl _ _
    · intro x22 x23
      unfold id
      assumption
  · refine OptFramed.some ?_
    unfold regLo
    refine ⟨fun q24 s25 => ?_, fun q26 v27 s28 => ?_⟩
    · dsimp only
      refine Frame.step (frame_latchRead _ _ _ _) rfl ?_
      exact Frame.refl _ _
    · dsimp only
      refine frame_wr _ _ _ _ _ _ _ _ rfl ?_ ?_
      · exact Frame.refl _ _
      · intro x29 x30
        unfold id
        assumption
  · refine OptFramed.some ?_
    unfold regHi
    refine ⟨fun q31 s32 => ?_, fun q33 v34 s35 => ?_⟩
    · dsimp only
      exact Frame.refl _ _
    · dsimp only
      refine frame_wr _ _ _ _ _ _ _ _ rfl ?_ ?_
      · exact Frame.refl _ _
      · intro x36 x37
        unfold id
        assumption
  · refine OptFramed.some ?_
    unfold regRo
    refine framed_regAt _ _ (fun q38 v39 s40 => ?_)
    refine frame_wr _ _ _ _ _ _ _ _ rfl ?_ ?_
    · exact Frame.refl _ _
    · intro x41 x42
      unfold id
      assumption
  · refine OptFramed.some ?_
    unfold regRo
    refine framed_regAt _ _ (fun q43 v44 s45 => ?_)
    refine frame_wr _ _ _ _ _ _ _ _ rfl ?_ ?_
    · exact Frame.refl _ _
    · intro x46 x47
      unfold id
      assumption
  · refine OptFramed.some ?_
    unfold regLo
    refine ⟨fun q48 s49 => ?_, fun q50 v51 s52 => ?_⟩
    · dsimp only
      refine Frame.step (frame_latchRead _ _ _ _) rfl ?_
      exact Frame.refl _ _
    · dsimp only
      refine frame_wr _ _ _ _ _ _ _ _ rfl ?_ ?_
      · exact Frame.refl _ _
      · intro x53 x54
        unfold id
        assumption
  · refine OptFramed.some ?_
    unfold regHi
    refine ⟨fun q55 s56 => ?_, fun q57 v58 s59 => ?_⟩
    · dsimp only
      exact Frame.refl _ _
    · dsimp only
      refine frame_wr _ _ _ _ _ _ _ _ rfl ?_ ?_
      · exact Frame.refl _ _
      · intro x60 x61
        unfold id
        assumption
  · refine OptFramed.some ?_
    unfold regRo
    refine framed_regAt _ _ (fun q62 v63 s64 => ?_)
    refine frame_wr _ _ _ _ _ _ _ _ rfl ?_ ?_
    · exact Frame.refl _ _
    · intro x65 x66
      unfold id
      assumption
  · refine OptFramed.some ?_
    unfold regCountHi
    refine ⟨fun q67 s68 => ?_, fun q69 v70 s71 => ?_⟩
    · dsimp only
      exact Frame.refl _ _
    · dsimp only
      refine frame_wr _ _ _ _ _ _ _ _ rfl ?_ ?_
      · exact Frame.refl _ _
      · intro x72 x73
        refine frame_storeCount _ _ _ _ _ _ rfl ?_ ?_
        · assumption
        · intro x74 x75 x76
          refine Frame.step (frame_modFab _ _) rfl ?_
          assumption
  · refine OptFramed.some ?_
    unfold regCount
    unfold regCounter
    refine ⟨fun q77 s78 => ?_, fun q79 v80 s81 => ?_⟩
    · dsimp only
      exact Frame.refl _ _
    · dsimp only
      refine frame_wr _ _ _ _ _ _ _ _ rfl ?_ ?_
      · exact Frame.refl _ _
      · intro x82 x83
        refine frame_storeCount _ _ _ _ _ _ rfl ?_ ?_
        · assumption
        · intro x84 x85 x86
          refine Frame.step (frame_modFab _ _) rfl ?_
          assumption
  · refine OptFramed.ite ?_ ?_
    · refine OptFramed.some ?_
      unfold regRo
      refine framed_regAt _ _ (fun q87 v88 s89 => ?_)
      refine frame_wr _ _ _ _ _ _ _ _ rfl ?_ ?_
      · exact Frame.refl _ _
      · intro x90 x91
        unfold id
        assumption
    · split
      · split
        · exact frame_portReg _ _ _
        · exact OptFramed.none _
      · split
        · exact frame_raReg _ _ _
        · exact OptFramed.none _
      · exact OptFramed.none _

/-- Changes at most freeCount, heads, sys, evt, time, tally, mbus. -/
theorem frame_chCtrlWrite : ∀ (k : Fin 6) (rq : Requester) (v : Word) (s : State), Frame 67502482 s (chCtrlWrite k rq v s) := by
  intro k rq v s
  unfold chCtrlWrite
  refine frame_wr _ _ _ _ _ _ _ _ rfl ?_ ?_
  · exact Frame.refl _ _
  · intro x1 x2
    extract_lets x3
    have h4 : Frame 67502482 s x3 := by
      subst x3
      refine Frame.step (frame_chInit _ _ _) rfl ?_
      assumption
    clear_value x3
    refine Frame.ite ?_ ?_
    · refine Frame.step (frame_chClear _ _) rfl ?_
      assumption
    · assumption

/-- Changes at most freeCount, heads, sys, evt, time, tally, mbus. -/
theorem frame_chTrxWrite : ∀ (k : Fin 6) (rq : Requester) (v : Word) (s : State), Frame 67502482 s (chTrxWrite k rq v s) := by
  intro k rq v s
  unfold chTrxWrite
  refine frame_wrIf _ _ _ _ _ _ _ rfl ?_ ?_
  · exact Frame.refl _ _
  · intro x1 x2
    extract_lets x3
    have h4 : Frame 67502482 s x3 := by
      subst x3
      refine Frame.ite ?_ ?_
      · refine Frame.step (frame_modCh _ _ _) rfl ?_
        assumption
      · assumption
    clear_value x3
    refine Frame.step (frame_doTrxReq _ _ _ _) rfl ?_
    assumption

/-- Leaves pending, cfg as it was. -/
theorem frame_chanReg : ∀ (k : Fin 6) (off at_ : Nat), OptFramed 2147481598 (chanReg k off at_) := by
  intro k off at_
  unfold chanReg
  extract_lets x2 x3 x4 x5
  split
  · refine OptFramed.some ?_
    refine framed_regAt _ _ (fun q6 v7 s8 => ?_)
    refine Frame.step (frame_chCtrlWrite _ _ _ _) rfl ?_
    exact Frame.refl _ _
  · refine OptFramed.some ?_
    refine ⟨fun q9 s10 => ?_, fun q11 v12 s13 => ?_⟩
    · dsimp only
      refine Frame.step (frame_frameLook _ _) rfl ?_
      exact Frame.refl _ _
    · dsimp only
      simp only [x3, regRo, regAt]
      refine frame_wr _ _ _ _ _ _ _ _ rfl ?_ ?_
      · exact Frame.refl _ _
      · intro x14 x15
        unfold id
        assumption
  · refine OptFramed.some ?_
    refine ⟨fun q16 s17 => ?_, fun q18 v19 s20 => ?_⟩
    · dsimp only
      refine Frame.step (frame_recovNow _ _) rfl ?_
      exact Frame.refl _ _
    · dsimp only
      simp only [x4, regRo, regAt]
      refine frame_wr _ _ _ _ _ _ _ _ rfl ?_ ?_
      · exact Frame.refl _ _
      · intro x21 x22
        unfold id
        assumption
  · refine OptFramed.some ?_
    refine ⟨fun q23 s24 => ?_, fun q25 v26 s27 => ?_⟩
    · dsimp only
      refine Frame.step (frame_txdNow _ _) rfl ?_
      refine Frame.step (frame_frameLook _ _) rfl ?_
      exact Frame.refl _ _
    · dsimp only
      simp only [x5, regRo, regAt]
      refine Frame.step (frame_chTrxWrite _ _ _ _) rfl ?_
      exact Frame.refl _ _
  · refine OptFramed.some ?_
    unfold regCount
    unfold regCounter
    refine ⟨fun q28 s29 => ?_, fun q30 v31 s32 => ?_⟩
    · dsimp only
      exact Frame.refl _ _
    · dsimp only
      refine frame_wr _ _ _ _ _ _ _ _ rfl ?_ ?_
      · exact Frame.refl _ _
      · intro x33 x34
        refine frame_storeCount _ _ _ _ _ _ rfl ?_ ?_
        · assumption
        · intro x35 x36 x37
          refine Frame.step (frame_modCh _ _ _) rfl ?_
          assumption
  · refine OptFramed.some ?_
    unfold regCount
    unfold regCounter
    refine ⟨fun q38 s39 => ?_, fun q40 v41 s42 => ?_⟩
    · dsimp only
      exact Frame.refl _ _
    · dsimp only
      refine frame_wr _ _ _ _ _ _ _ _ rfl ?_ ?_
      · exact Frame.refl _ _
      · intro x43 x44
        refine frame_storeCount _ _ _ _ _ _ rfl ?_ ?_
        · assumption
        · intro x45 x46 x47
          refine Frame.step (frame_modCh _ _ _) rfl ?_
          assumption
  · refine OptFramed.some ?_
    unfold regCount
    unfold regCounter
    refine ⟨fun q48 s49 => ?_, fun q50 v51 s52 => ?_⟩
    · dsimp only
      exact Frame.refl _ _
    · dsimp only
      refine frame_wr _ _ _ _ _ _ _ _ rfl ?_ ?_
      · exact Frame.refl _ _
      · intro x53 x54
        refine frame_storeCount _ _ _ _ _ _ rfl ?_ ?_
        · assumption
        · intro x55 x56 x57
          refine Frame.step (frame_modCh _ _ _) rfl ?_
          assumption
  · refine OptFramed.some ?_
    unfold regCount
    unfold regCounter
    refine ⟨fun q58 s59 => ?_, fun q60 v61 s62 => ?_⟩
    · dsimp only
      exact Frame.refl _ _
    · dsimp only
      refine frame_wr _ _ _ _ _ _ _ _ rfl ?_ ?_
      · exact Frame.refl _ _
      · intro x63 x64
        refine frame_storeCount _ _ _ _ _ _ rfl ?_ ?_
        · assumption
        · intro x65 x66 x67
          refine Frame.step (frame_modCh _ _ _) rfl ?_
          assumption
  · refine OptFramed.some ?_
    unfold regRo
    refine framed_regAt _ _ (fun q68 v69 s70 => ?_)
    refine frame_wr _ _ _ _ _ _ _ _ rfl ?_ ?_
    · exact Frame.refl _ _
    · intro x71 x72
      unfold id
      assumption
  · refine OptFramed.some ?_
    unfold regCount
    unfold regCounter
    refine ⟨fun q73 s74 => ?_, fun q75 v76 s77 => ?_⟩
    · dsimp only
      exact Frame.refl _ _
    · dsimp only
      refine frame_wr _ _ _ _ _ _ _ _ rfl ?_ ?_
      · exact Frame.refl _ _
      · intro x78 x79
        refine frame_storeCount _ _ _ _ _ _ rfl ?_ ?_
        · assumption
        · intro x80 x81 x82
          refine Frame.step (frame_modCh _ _ _) rfl ?_
          assumption
  · refine OptFramed.some ?_
    unfold regRo
    refine framed_regAt _ _ (fun q83 v84 s85 => ?_)
    refine frame_wr _ _ _ _ _ _ _ _ rfl ?_ ?_
    · exact Frame.refl _ _
    · intro x86 x87
      unfold id
      assumption
  · refine OptFramed.some ?_
    unfold regRo
    refine framed_regAt _ _ (fun q88 v89 s90 => ?_)
    refine frame_wr _ _ _ _ _ _ _ _ rfl ?_ ?_
    · exact Frame.refl _ _
    · intro x91 x92
      unfold id
      assumption
  · refine OptFramed.some ?_
    unfold regRo
    refine framed_regAt _ _ (fun q93 v94 s95 => ?_)
    refine frame_wr _ _ _ _ _ _ _ _ rfl ?_ ?_
    · exact Frame.refl _ _
    · intro x96 x97
      unfold id
      assumption
  · refine OptFramed.some ?_
    unfold regRo
    refine framed_regAt _ _ (fun q98 v99 s100 => ?_)
    refine frame_wr _ _ _ _ _ _ _ _ rfl ?_ ?_
    · exact Frame.refl _ _
    · intro x101 x102
      unfold id
      assumption
  · exact OptFramed.none _

/-- Leaves pending, cfg as it was. -/
theorem frame_filterReg : ∀ (i off at_ : Nat), RegDef.framed 2147481598 (filterReg i off at_) := by
  intro i off at_
  unfold filterReg
  unfold regRo
  refine framed_regAt _ _ (fun q1 v2 s3 => ?_)
  refine frame_wr _ _ _ _ _ _ _ _ rfl ?_ ?_
  · exact Frame.refl _ _
  · intro x4 x5
    unfold id
    assumption

/-- Leaves pending, cfg as it was. -/
theorem frame_mbusReg : ∀ (off : Nat), OptFramed 2147481598 (mbusReg off) := by
  intro off
  unfold mbusReg
  split
  · refine OptFramed.some ?_
    unfold regEmpty
    unfold regRo
    refine framed_regAt _ _ (fun q1 v2 s3 => ?_)
    refine frame_wr _ _ _ _ _ _ _ _ rfl ?_ ?_
    · exact Frame.refl _ _
    · intro x4 x5
      unfold id
      assumption
  · refine OptFramed.some ?_
    unfold regRo
    refine framed_regAt _ _ (fun q6 v7 s8 => ?_)
    refine frame_wr _ _ _ _ _ _ _ _ rfl ?_ ?_
    · exact Frame.refl _ _
    · intro x9 x10
      unfold id
      assumption
  · refine OptFramed.some ?_
    unfold regKeeper
    refine framed_regAt _ _ (fun q11 v12 s13 => ?_)
    beta_reduce
    refine frame_wr _ _ _ _ _ _ _ _ rfl ?_ ?_
    · exact Frame.refl _ _
    · intro x14 x15
      refine Frame.step (frame_set_mbus _ _) rfl ?_
      assumption
  · refine OptFramed.some ?_
    unfold regKeeper
    refine framed_regAt _ _ (fun q16 v17 s18 => ?_)
    beta_reduce
    refine frame_wr _ _ _ _ _ _ _ _ rfl ?_ ?_
    · exact Frame.refl _ _
    · intro x19 x20
      refine Frame.step (frame_set_mbus _ _) rfl ?_
      assumption
  · refine OptFramed.some ?_
    unfold regRo
    refine framed_regAt _ _ (fun q21 v22 s23 => ?_)
    refine frame_wr _ _ _ _ _ _ _ _ rfl ?_ ?_
    · exact Frame.refl _ _
    · intro x24 x25
      unfold id
      assumption
  · refine OptFramed.some ?_
    unfold regRo
    refine framed_regAt _ _ (fun q26 v27 s28 => ?_)
    refine frame_wr _ _ _ _ _ _ _ _ rfl ?_ ?_
    · exact Frame.refl _ _
    · intro x29 x30
      unfold id
      assumption
  · split
    · split
      · exact frame_chanReg _ _ _
      · exact OptFramed.none _
    · refine OptFramed.some ?_
      exact frame_filterReg _ _ _
    · exact OptFramed.none _

/-- Leaves pending, cfg as it was. -/
theorem frame_streamReg : ∀ (k : Fin 32) (off at_ : Nat), OptFramed 2147481598 (streamReg k off at_) := by
  intro k off at_
  unfold streamReg
  extract_lets x2 x3 x4
  split
  · refine OptFramed.some ?_
    refine framed_ofUnit _ ?_
    refine framed_regAt _ _ (fun q5 v6 s7 => ?_)
    refine Frame.step (frame_doActiveWrite _ _ _ _) rfl ?_
    exact Frame.refl _ _
  · refine OptFramed.some ?_
    unfold regRo
    refine framed_regAt _ _ (fun q8 v9 s10 => ?_)
    refine frame_wr _ _ _ _ _ _ _ _ rfl ?_ ?_
    · exact Frame.refl _ _
    · intro x11 x12
      unfold id
      assumption
  · refine OptFramed.some ?_
    refine framed_ofUnit _ ?_
    unfold regRo
    refine framed_regAt _ _ (fun q13 v14 s15 => ?_)
    refine frame_wr _ _ _ _ _ _ _ _ rfl ?_ ?_
    · exact Frame.refl _ _
    · intro x16 x17
      unfold id
      assumption
  · refine OptFramed.some ?_
    refine framed_ofUnit _ ?_
    unfold regCount
    unfold regCounter
    refine ⟨fun q18 s19 => ?_, fun q20 v21 s22 => ?_⟩
    · dsimp only
      exact Frame.refl _ _
    · dsimp only
      refine frame_wr _ _ _ _ _ _ _ _ rfl ?_ ?_
      · exact Frame.refl _ _
      · intro x23 x24
        refine frame_storeCount _ _ _ _ _ _ rfl ?_ ?_
        · assumption
        · intro x25 x26 x27
          dsimp only [x4]
          refine Frame.ite ?_ ?_
          · refine Frame.step (frame_modStream _ _ _) rfl ?_
            assumption
          · assumption
  · refine OptFramed.some ?_
    refine framed_ofUnit _ ?_
    unfold regCount
    unfold regCounter
    refine ⟨fun q28 s29 => ?_, fun q30 v31 s32 => ?_⟩
    · dsimp only
      exact Frame.refl _ _
    · dsimp only
      refine frame_wr _ _ _ _ _ _ _ _ rfl ?_ ?_
      · exact Frame.refl _ _
      · intro x33 x34
        refine frame_storeCount _ _ _ _ _ _ rfl ?_ ?_
        · assumption
        · intro x35 x36 x37
          dsimp only [x4]
          refine Frame.ite ?_ ?_
          · refine Frame.step (frame_modStream _ _ _) rfl ?_
            assumption
          · assumption
  · refine OptFramed.some ?_
    unfold regRo
    refine framed_regAt _ _ (fun q38 v39 s40 => ?_)
    refine frame_wr _ _ _ _ _ _ _ _ rfl ?_ ?_
    · exact Frame.refl _ _
    · intro x41 x42
      unfold id
      assumption
  · refine OptFramed.some ?_
    unfold regRo
    refine framed_regAt _ _ (fun q43 v44 s45 => ?_)
    refine frame_wr _ _ _ _ _ _ _ _ rfl ?_ ?_
    · exact Frame.refl _ _
    · intro x46 x47
      unfold id
      assumption
  · exact OptFramed.none _

/-- Leaves pending, cfg as it was. -/
theorem frame_zoneReg : ∀ (z : Fin 16) (off at_ : Nat), OptFramed 2147481598 (zoneReg z off at_) := by
  intro z off at_
  unfold zoneReg
  extract_lets x2 x3
  split
  · refine OptFramed.some ?_
    refine framed_ofUnit _ ?_
    unfold regRo
    refine framed_regAt _ _ (fun q4 v5 s6 => ?_)
    refine frame_wr _ _ _ _ _ _ _ _ rfl ?_ ?_
    · exact Frame.refl _ _
    · intro x7 x8
      unfold id
      assumption
  · refine OptFramed.some ?_
    refine framed_ofUnit _ ?_
    unfold regRo
    refine framed_regAt _ _ (fun q9 v10 s11 => ?_)
    refine frame_wr _ _ _ _ _ _ _ _ rfl ?_ ?_
    · exact Frame.refl _ _
    · intro x12 x13
      unfold id
      assumption
  · refine OptFramed.some ?_
    refine framed_ofUnit _ ?_
    unfold regCount
    unfold regCounter
    refine ⟨fun q14 s15 => ?_, fun q16 v17 s18 => ?_⟩
    · dsimp only
      exact Frame.refl _ _
    · dsimp only
      refine frame_wr _ _ _ _ _ _ _ _ rfl ?_ ?_
      · exact Frame.refl _ _
      · intro x19 x20
        refine frame_storeCount _ _ _ _ _ _ rfl ?_ ?_
        · assumption
        · intro x21 x22 x23
          refine Frame.ite ?_ ?_
          · refine Frame.step (frame_modAud _ _) rfl ?_
            assumption
          · assumption
  · refine OptFramed.some ?_
    unfold regRo
    refine framed_regAt _ _ (fun q24 v25 s26 => ?_)
    refine frame_wr _ _ _ _ _ _ _ _ rfl ?_ ?_
    · exact Frame.refl _ _
    · intro x27 x28
      unfold id
      assumption
  · refine OptFramed.some ?_
    unfold regRo
    refine framed_regAt _ _ (fun q29 v30 s31 => ?_)
    refine frame_wr _ _ _ _ _ _ _ _ rfl ?_ ?_
    · exact Frame.refl _ _
    · intro x32 x33
      unfold id
      assumption
  · exact OptFramed.none _

/-- Leaves pending, cfg as it was. -/
theorem frame_audReg : ∀ (off : Nat), OptFramed 2147481598 (audReg off) := by
  intro off
  unfold audReg
  split
  · refine OptFramed.some ?_
    unfold regEmpty
    unfold regRo
    refine framed_regAt _ _ (fun q1 v2 s3 => ?_)
    refine frame_wr _ _ _ _ _ _ _ _ rfl ?_ ?_
    · exact Frame.refl _ _
    · intro x4 x5
      unfold id
      assumption
  · refine OptFramed.some ?_
    unfold regRo
    refine framed_regAt _ _ (fun q6 v7 s8 => ?_)
    refine frame_wr _ _ _ _ _ _ _ _ rfl ?_ ?_
    · exact Frame.refl _ _
    · intro x9 x10
      unfold id
      assumption
  · refine OptFramed.some ?_
    unfold regRo
    refine framed_regAt _ _ (fun q11 v12 s13 => ?_)
    refine frame_wr _ _ _ _ _ _ _ _ rfl ?_ ?_
    · exact Frame.refl _ _
    · intro x14 x15
      unfold id
      assumption
  · split
    · split
      · exact frame_streamReg _ _ _
      · exact OptFramed.none _
    · split
      · exact frame_zoneReg _ _ _
      · exact OptFramed.none _
    · exact OptFramed.none _

end Sys2Proof.Machine
end

