-- ==== Sys2Proof/Laws/Frames/CoreOps.lean ====
section
/-! SUPPORT. Frames of the operations of Machine/RegsCtl, RegisterMap, Cores, Idle, Step. -/

namespace Sys2Proof.Machine

set_option maxRecDepth 10000

/-- Changes at most key. -/
theorem frame_pendClear : ∀ (i : Nat) (v : Word) (s : State), Frame 33554432 s (pendClear i v s) := by
  intro i v s
  unfold pendClear
  extract_lets x1
  clear_value x1
  refine Frame.step (frame_modKey _ _) rfl ?_
  exact Frame.refl _ _

/-- Leaves pending, cfg as it was. -/
theorem frame_bufReg : ∀ (i : Fin 256), RegDef.framed 2147481598 (bufReg i) := by
  intro i
  unfold bufReg
  refine ⟨fun q1 s2 => ?_, fun q3 v4 s5 => ?_⟩
  · dsimp only
    split
    · exact Frame.refl _ _
    · dsimp only
      refine Frame.step (frame_setErr _ _ _) rfl ?_
      exact Frame.refl _ _
  · dsimp only
    refine Frame.ite ?_ ?_
    · refine Frame.step (frame_modKey _ _) rfl ?_
      exact Frame.refl _ _
    · refine Frame.step (frame_setErr _ _ _) rfl ?_
      exact Frame.refl _ _

/-- Leaves pending, cfg as it was. -/
theorem frame_slotReg : ∀ (k off at_ : Nat), OptFramed 2147481598 (slotReg k off at_) := by
  intro k off at_
  unfold slotReg
  split
  · refine OptFramed.some ?_
    unfold regRo
    refine framed_regAt _ _ (fun q1 v2 s3 => ?_)
    refine frame_wr _ _ _ _ _ _ _ _ rfl ?_ ?_
    · exact Frame.refl _ _
    · intro x4 x5
      unfold id
      assumption
  · refine OptFramed.some ?_
    unfold regRo
    refine framed_regAt _ _ (fun q6 v7 s8 => ?_)
    refine frame_wr _ _ _ _ _ _ _ _ rfl ?_ ?_
    · exact Frame.refl _ _
    · intro x9 x10
      unfold id
      assumption
  · refine OptFramed.some ?_
    unfold regCount
    unfold regCounter
    refine ⟨fun q11 s12 => ?_, fun q13 v14 s15 => ?_⟩
    · dsimp only
      exact Frame.refl _ _
    · dsimp only
      refine frame_wr _ _ _ _ _ _ _ _ rfl ?_ ?_
      · exact Frame.refl _ _
      · intro x16 x17
        refine frame_storeCount _ _ _ _ _ _ rfl ?_ ?_
        · assumption
        · intro x18 x19 x20
          refine Frame.step (frame_modSlot _ _ _) rfl ?_
          assumption
  · exact OptFramed.none _

/-- Leaves pending, cfg as it was. -/
theorem frame_keyReg : ∀ (off : Nat), OptFramed 2147481598 (keyReg off) := by
  intro off
  unfold keyReg
  split
  · refine OptFramed.some ?_
    unfold regEmpty
    unfold regRo
    refine framed_regAt _ _ (fun q1 v2 s3 => ?_)
    refine frame_wr _ _ _ _ _ _ _ _ rfl ?_ ?_
    · exact Frame.refl _ _
    · intro x4 x5
      unfold id
      assumption
  · refine OptFramed.some ?_
    unfold regKeeper
    refine framed_regAt _ _ (fun q6 v7 s8 => ?_)
    beta_reduce
    refine frame_wr _ _ _ _ _ _ _ _ rfl ?_ ?_
    · exact Frame.refl _ _
    · intro x9 x10
      refine Frame.step (frame_modKey _ _) rfl ?_
      assumption
  · refine OptFramed.some ?_
    refine framed_regAt _ _ (fun q11 v12 s13 => ?_)
    refine Frame.step (frame_keyCmdReg _ _ _) rfl ?_
    exact Frame.refl _ _
  · refine OptFramed.some ?_
    unfold regMail
    refine framed_regAt _ _ (fun q14 v15 s16 => ?_)
    beta_reduce
    refine Frame.ite ?_ ?_
    · refine Frame.step (frame_modKey _ _) rfl ?_
      exact Frame.refl _ _
    · refine Frame.step (frame_setErr _ _ _) rfl ?_
      exact Frame.refl _ _
  · refine OptFramed.some ?_
    unfold regRo
    refine framed_regAt _ _ (fun q17 v18 s19 => ?_)
    refine frame_wr _ _ _ _ _ _ _ _ rfl ?_ ?_
    · exact Frame.refl _ _
    · intro x20 x21
      unfold id
      assumption
  · refine OptFramed.some ?_
    extract_lets x23
    refine ⟨fun q24 s25 => ?_, fun q26 v27 s28 => ?_⟩
    · dsimp only
      simp only [x23, regLo]
      refine Frame.step (frame_latchRead _ _ _ _) rfl ?_
      exact Frame.refl _ _
    · dsimp only
      refine frame_wr _ _ _ _ _ _ _ _ rfl ?_ ?_
      · exact Frame.refl _ _
      · intro x29 x30
        refine Frame.step (frame_pendClear _ _ _) rfl ?_
        assumption
  · refine OptFramed.some ?_
    extract_lets x32
    refine ⟨fun q33 s34 => ?_, fun q35 v36 s37 => ?_⟩
    · dsimp only
      simp only [x32, regHi]
      exact Frame.refl _ _
    · dsimp only
      refine frame_wr _ _ _ _ _ _ _ _ rfl ?_ ?_
      · exact Frame.refl _ _
      · intro x38 x39
        refine Frame.step (frame_pendClear _ _ _) rfl ?_
        assumption
  · refine OptFramed.some ?_
    unfold regRw
    refine framed_regAt _ _ (fun q40 v41 s42 => ?_)
    refine frame_wr _ _ _ _ _ _ _ _ rfl ?_ ?_
    · exact Frame.refl _ _
    · intro x43 x44
      refine Frame.step (frame_pendClear _ _ _) rfl ?_
      assumption
  · refine OptFramed.some ?_
    unfold regRo
    refine framed_regAt _ _ (fun q45 v46 s47 => ?_)
    refine frame_wr _ _ _ _ _ _ _ _ rfl ?_ ?_
    · exact Frame.refl _ _
    · intro x48 x49
      unfold id
      assumption
  · refine OptFramed.some ?_
    unfold regLo
    refine ⟨fun q50 s51 => ?_, fun q52 v53 s54 => ?_⟩
    · dsimp only
      refine Frame.step (frame_latchRead _ _ _ _) rfl ?_
      exact Frame.refl _ _
    · dsimp only
      refine frame_wr _ _ _ _ _ _ _ _ rfl ?_ ?_
      · exact Frame.refl _ _
      · intro x55 x56
        unfold id
        assumption
  · refine OptFramed.some ?_
    unfold regHi
    refine ⟨fun q57 s58 => ?_, fun q59 v60 s61 => ?_⟩
    · dsimp only
      exact Frame.refl _ _
    · dsimp only
      refine frame_wr _ _ _ _ _ _ _ _ rfl ?_ ?_
      · exact Frame.refl _ _
      · intro x62 x63
        unfold id
        assumption
  · refine OptFramed.some ?_
    unfold regLo
    refine ⟨fun q64 s65 => ?_, fun q66 v67 s68 => ?_⟩
    · dsimp only
      refine Frame.step (frame_latchRead _ _ _ _) rfl ?_
      exact Frame.refl _ _
    · dsimp only
      refine frame_wr _ _ _ _ _ _ _ _ rfl ?_ ?_
      · exact Frame.refl _ _
      · intro x69 x70
        unfold id
        assumption
  · refine OptFramed.some ?_
    unfold regHi
    refine ⟨fun q71 s72 => ?_, fun q73 v74 s75 => ?_⟩
    · dsimp only
      exact Frame.refl _ _
    · dsimp only
      refine frame_wr _ _ _ _ _ _ _ _ rfl ?_ ?_
      · exact Frame.refl _ _
      · intro x76 x77
        unfold id
        assumption
  · split
    · refine OptFramed.some ?_
      unfold regMail
      refine framed_regAt _ _ (fun q78 v79 s80 => ?_)
      beta_reduce
      refine Frame.ite ?_ ?_
      · refine Frame.step (frame_modKey _ _) rfl ?_
        exact Frame.refl _ _
      · refine Frame.step (frame_setErr _ _ _) rfl ?_
        exact Frame.refl _ _
    · refine OptFramed.some ?_
      unfold regMail
      refine framed_regAt _ _ (fun q81 v82 s83 => ?_)
      beta_reduce
      refine Frame.ite ?_ ?_
      · refine Frame.step (frame_modKey _ _) rfl ?_
        exact Frame.refl _ _
      · refine Frame.step (frame_setErr _ _ _) rfl ?_
        exact Frame.refl _ _
    · split
      · refine OptFramed.some ?_
        exact frame_bufReg _
      · exact OptFramed.none _
    · exact frame_slotReg _ _ _
    · exact OptFramed.none _

/-- Leaves pending, cfg as it was. -/
theorem frame_pwrReg : ∀ (off : Nat), OptFramed 2147481598 (pwrReg off) := by
  intro off
  unfold pwrReg
  split
  · refine OptFramed.some ?_
    unfold regEmpty
    unfold regRo
    refine framed_regAt _ _ (fun q1 v2 s3 => ?_)
    refine frame_wr _ _ _ _ _ _ _ _ rfl ?_ ?_
    · exact Frame.refl _ _
    · intro x4 x5
      unfold id
      assumption
  · refine OptFramed.some ?_
    unfold regEmpty
    unfold regRo
    refine framed_regAt _ _ (fun q6 v7 s8 => ?_)
    refine frame_wr _ _ _ _ _ _ _ _ rfl ?_ ?_
    · exact Frame.refl _ _
    · intro x9 x10
      unfold id
      assumption
  · refine OptFramed.some ?_
    refine framed_regAt _ _ (fun q11 v12 s13 => ?_)
    refine Frame.step (frame_reqWrite _ _ _) rfl ?_
    exact Frame.refl _ _
  · refine OptFramed.some ?_
    unfold regRw
    refine framed_regAt _ _ (fun q14 v15 s16 => ?_)
    beta_reduce
    refine frame_wr _ _ _ _ _ _ _ _ rfl ?_ ?_
    · exact Frame.refl _ _
    · intro x17 x18
      extract_lets x19
      clear_value x19
      refine Frame.step (frame_modPwr _ _) rfl ?_
      assumption
  · refine OptFramed.some ?_
    unfold regHeldLo
    refine framed_regAt _ _ (fun q20 v21 s22 => ?_)
    beta_reduce
    refine Frame.ite ?_ ?_
    · refine Frame.step (frame_holdWrite _ _ _ _) rfl ?_
      exact Frame.refl _ _
    · refine Frame.step (frame_refuseWrite _ _ _ _) rfl ?_
      exact Frame.refl _ _
  · refine OptFramed.some ?_
    unfold regHeldHi
    refine framed_regAt _ _ (fun q23 v24 s25 => ?_)
    beta_reduce
    refine Frame.ite ?_ ?_
    · refine Frame.step (frame_refuseWrite _ _ _ _) rfl ?_
      exact Frame.refl _ _
    · split
      · refine Frame.step (frame_modPwr _ _) rfl ?_
        refine Frame.step (frame_dropHeld _ _) rfl ?_
        exact Frame.refl _ _
      · refine Frame.step (frame_reservedWrite _ _ _) rfl ?_
        exact Frame.refl _ _
  · refine OptFramed.some ?_
    refine framed_regAt _ _ (fun q26 v27 s28 => ?_)
    refine Frame.step (frame_opWrite _ _ _) rfl ?_
    exact Frame.refl _ _
  · refine OptFramed.some ?_
    unfold regKeeper
    refine framed_regAt _ _ (fun q29 v30 s31 => ?_)
    beta_reduce
    refine frame_wr _ _ _ _ _ _ _ _ rfl ?_ ?_
    · exact Frame.refl _ _
    · intro x32 x33
      refine Frame.step (frame_modPwr _ _) rfl ?_
      assumption
  · refine OptFramed.some ?_
    unfold regHeldLo
    refine framed_regAt _ _ (fun q34 v35 s36 => ?_)
    refine Frame.ite ?_ ?_
    · refine Frame.step (frame_holdWrite _ _ _ _) rfl ?_
      exact Frame.refl _ _
    · refine Frame.step (frame_refuseWrite _ _ _ _) rfl ?_
      exact Frame.refl _ _
  · refine OptFramed.some ?_
    unfold regHeldHi
    refine framed_regAt _ _ (fun q37 v38 s39 => ?_)
    beta_reduce
    refine Frame.ite ?_ ?_
    · refine Frame.step (frame_refuseWrite _ _ _ _) rfl ?_
      exact Frame.refl _ _
    · split
      · refine Frame.step (frame_modPwr _ _) rfl ?_
        refine Frame.step (frame_dropHeld _ _) rfl ?_
        exact Frame.refl _ _
      · refine Frame.step (frame_reservedWrite _ _ _) rfl ?_
        exact Frame.refl _ _
  · refine OptFramed.some ?_
    unfold regRo
    refine framed_regAt _ _ (fun q40 v41 s42 => ?_)
    refine frame_wr _ _ _ _ _ _ _ _ rfl ?_ ?_
    · exact Frame.refl _ _
    · intro x43 x44
      unfold id
      assumption
  · refine OptFramed.some ?_
    unfold regRo
    refine framed_regAt _ _ (fun q45 v46 s47 => ?_)
    refine frame_wr _ _ _ _ _ _ _ _ rfl ?_ ?_
    · exact Frame.refl _ _
    · intro x48 x49
      unfold id
      assumption
  · refine OptFramed.some ?_
    refine framed_regAt _ _ (fun q50 v51 s52 => ?_)
    refine Frame.step (frame_nsCtrlWrite _ _ _) rfl ?_
    exact Frame.refl _ _
  · refine OptFramed.some ?_
    unfold regCheck
    refine framed_regAt _ _ (fun q53 v54 s55 => ?_)
    beta_reduce
    refine frame_wrIf _ _ _ _ _ _ _ rfl ?_ ?_
    · exact Frame.refl _ _
    · intro x56 x57
      refine Frame.step (frame_modPwr _ _) rfl ?_
      assumption
  · refine OptFramed.some ?_
    unfold regCheck
    refine framed_regAt _ _ (fun q58 v59 s60 => ?_)
    beta_reduce
    refine frame_wrIf _ _ _ _ _ _ _ rfl ?_ ?_
    · exact Frame.refl _ _
    · intro x61 x62
      refine Frame.step (frame_modPwr _ _) rfl ?_
      assumption
  · refine OptFramed.some ?_
    unfold regRo
    refine framed_regAt _ _ (fun q63 v64 s65 => ?_)
    refine frame_wr _ _ _ _ _ _ _ _ rfl ?_ ?_
    · exact Frame.refl _ _
    · intro x66 x67
      unfold id
      assumption
  · refine OptFramed.some ?_
    unfold regRo
    refine framed_regAt _ _ (fun q68 v69 s70 => ?_)
    refine frame_wr _ _ _ _ _ _ _ _ rfl ?_ ?_
    · exact Frame.refl _ _
    · intro x71 x72
      unfold id
      assumption
  · refine OptFramed.some ?_
    unfold regRo
    refine framed_regAt _ _ (fun q73 v74 s75 => ?_)
    refine frame_wr _ _ _ _ _ _ _ _ rfl ?_ ?_
    · exact Frame.refl _ _
    · intro x76 x77
      unfold id
      assumption
  · refine OptFramed.some ?_
    unfold regCount
    unfold regCounter
    refine ⟨fun q78 s79 => ?_, fun q80 v81 s82 => ?_⟩
    · dsimp only
      exact Frame.refl _ _
    · dsimp only
      refine frame_wr _ _ _ _ _ _ _ _ rfl ?_ ?_
      · exact Frame.refl _ _
      · intro x83 x84
        refine frame_storeCount _ _ _ _ _ _ rfl ?_ ?_
        · assumption
        · intro x85 x86 x87
          refine Frame.step (frame_modPwr _ _) rfl ?_
          assumption
  · exact OptFramed.none _

/-- Leaves pending, cfg as it was. -/
theorem frame_updReg : ∀ (off : Nat), OptFramed 2147481598 (updReg off) := by
  intro off
  unfold updReg
  split
  · refine OptFramed.some ?_
    refine framed_regAt _ _ (fun q1 v2 s3 => ?_)
    refine Frame.step (frame_updCtrlWrite _ _ _) rfl ?_
    exact Frame.refl _ _
  · refine OptFramed.some ?_
    unfold regRo
    refine framed_regAt _ _ (fun q4 v5 s6 => ?_)
    refine frame_wr _ _ _ _ _ _ _ _ rfl ?_ ?_
    · exact Frame.refl _ _
    · intro x7 x8
      unfold id
      assumption
  · refine OptFramed.some ?_
    unfold regRo
    refine framed_regAt _ _ (fun q9 v10 s11 => ?_)
    refine frame_wr _ _ _ _ _ _ _ _ rfl ?_ ?_
    · exact Frame.refl _ _
    · intro x12 x13
      unfold id
      assumption
  · refine OptFramed.some ?_
    unfold regHeldLo
    refine framed_regAt _ _ (fun q14 v15 s16 => ?_)
    refine Frame.ite ?_ ?_
    · refine Frame.step (frame_holdWrite _ _ _ _) rfl ?_
      exact Frame.refl _ _
    · refine Frame.step (frame_refuseWrite _ _ _ _) rfl ?_
      exact Frame.refl _ _
  · refine OptFramed.some ?_
    unfold regHeldHi
    refine framed_regAt _ _ (fun q17 v18 s19 => ?_)
    beta_reduce
    refine Frame.ite ?_ ?_
    · refine Frame.step (frame_refuseWrite _ _ _ _) rfl ?_
      exact Frame.refl _ _
    · split
      · refine Frame.step (frame_modUpd _ _) rfl ?_
        refine Frame.step (frame_dropHeld _ _) rfl ?_
        exact Frame.refl _ _
      · refine Frame.step (frame_reservedWrite _ _ _) rfl ?_
        exact Frame.refl _ _
  · refine OptFramed.some ?_
    unfold regRo
    refine framed_regAt _ _ (fun q20 v21 s22 => ?_)
    refine frame_wr _ _ _ _ _ _ _ _ rfl ?_ ?_
    · exact Frame.refl _ _
    · intro x23 x24
      unfold id
      assumption
  · refine OptFramed.some ?_
    unfold regRo
    refine framed_regAt _ _ (fun q25 v26 s27 => ?_)
    refine frame_wr _ _ _ _ _ _ _ _ rfl ?_ ?_
    · exact Frame.refl _ _
    · intro x28 x29
      unfold id
      assumption
  · refine OptFramed.some ?_
    unfold regRo
    refine framed_regAt _ _ (fun q30 v31 s32 => ?_)
    refine frame_wr _ _ _ _ _ _ _ _ rfl ?_ ?_
    · exact Frame.refl _ _
    · intro x33 x34
      unfold id
      assumption
  · refine OptFramed.some ?_
    unfold regRo
    refine framed_regAt _ _ (fun q35 v36 s37 => ?_)
    refine frame_wr _ _ _ _ _ _ _ _ rfl ?_ ?_
    · exact Frame.refl _ _
    · intro x38 x39
      unfold id
      assumption
  · refine OptFramed.some ?_
    unfold regRo
    refine framed_regAt _ _ (fun q40 v41 s42 => ?_)
    refine frame_wr _ _ _ _ _ _ _ _ rfl ?_ ?_
    · exact Frame.refl _ _
    · intro x43 x44
      unfold id
      assumption
  · refine OptFramed.some ?_
    unfold regRo
    refine framed_regAt _ _ (fun q45 v46 s47 => ?_)
    refine frame_wr _ _ _ _ _ _ _ _ rfl ?_ ?_
    · exact Frame.refl _ _
    · intro x48 x49
      unfold id
      assumption
  · refine OptFramed.some ?_
    refine framed_regAt _ _ (fun q50 v51 s52 => ?_)
    refine Frame.step (frame_tploadWrite _ _ _) rfl ?_
    exact Frame.refl _ _
  · refine OptFramed.some ?_
    unfold regRo
    refine framed_regAt _ _ (fun q53 v54 s55 => ?_)
    refine frame_wr _ _ _ _ _ _ _ _ rfl ?_ ?_
    · exact Frame.refl _ _
    · intro x56 x57
      unfold id
      assumption
  · refine OptFramed.some ?_
    unfold regCount
    unfold regCounter
    refine ⟨fun q58 s59 => ?_, fun q60 v61 s62 => ?_⟩
    · dsimp only
      exact Frame.refl _ _
    · dsimp only
      refine frame_wr _ _ _ _ _ _ _ _ rfl ?_ ?_
      · exact Frame.refl _ _
      · intro x63 x64
        refine frame_storeCount _ _ _ _ _ _ rfl ?_ ?_
        · assumption
        · intro x65 x66 x67
          refine Frame.step (frame_modUpd _ _) rfl ?_
          assumption
  · exact OptFramed.none _

/-- Leaves pending, cfg as it was. -/
theorem frame_pertReg : ∀ (off : Nat), OptFramed 2147481598 (pertReg off) := by
  intro off
  unfold pertReg
  split
  · refine OptFramed.some ?_
    unfold regEmpty
    unfold regRo
    refine framed_regAt _ _ (fun q1 v2 s3 => ?_)
    refine frame_wr _ _ _ _ _ _ _ _ rfl ?_ ?_
    · exact Frame.refl _ _
    · intro x4 x5
      unfold id
      assumption
  · refine OptFramed.some ?_
    unfold regRo
    refine framed_regAt _ _ (fun q6 v7 s8 => ?_)
    refine frame_wr _ _ _ _ _ _ _ _ rfl ?_ ?_
    · exact Frame.refl _ _
    · intro x9 x10
      unfold id
      assumption
  · refine OptFramed.some ?_
    refine framed_regAt _ _ (fun q11 v12 s13 => ?_)
    refine Frame.step (frame_doPertEnable _ _ _) rfl ?_
    exact Frame.refl _ _
  · refine OptFramed.some ?_
    unfold regPert
    refine framed_regAt _ _ (fun q14 v15 s16 => ?_)
    beta_reduce
    refine frame_wrIf _ _ _ _ _ _ _ rfl ?_ ?_
    · exact Frame.refl _ _
    · intro x17 x18
      refine Frame.step (frame_pertWrite _ _ _ _) rfl ?_
      assumption
  · refine OptFramed.some ?_
    unfold regPert
    refine framed_regAt _ _ (fun q19 v20 s21 => ?_)
    beta_reduce
    refine frame_wrIf _ _ _ _ _ _ _ rfl ?_ ?_
    · exact Frame.refl _ _
    · intro x22 x23
      refine Frame.step (frame_pertWrite _ _ _ _) rfl ?_
      assumption
  · refine OptFramed.some ?_
    unfold regPert
    refine framed_regAt _ _ (fun q24 v25 s26 => ?_)
    beta_reduce
    refine frame_wrIf _ _ _ _ _ _ _ rfl ?_ ?_
    · exact Frame.refl _ _
    · intro x27 x28
      refine Frame.step (frame_pertWrite _ _ _ _) rfl ?_
      assumption
  · refine OptFramed.some ?_
    unfold regPert
    refine framed_regAt _ _ (fun q29 v30 s31 => ?_)
    beta_reduce
    refine frame_wrIf _ _ _ _ _ _ _ rfl ?_ ?_
    · exact Frame.refl _ _
    · intro x32 x33
      refine Frame.step (frame_pertWrite _ _ _ _) rfl ?_
      assumption
  · refine OptFramed.some ?_
    unfold regPert
    refine framed_regAt _ _ (fun q34 v35 s36 => ?_)
    beta_reduce
    refine frame_wrIf _ _ _ _ _ _ _ rfl ?_ ?_
    · exact Frame.refl _ _
    · intro x37 x38
      refine Frame.step (frame_pertWrite _ _ _ _) rfl ?_
      assumption
  · refine OptFramed.some ?_
    unfold regPert
    refine framed_regAt _ _ (fun q39 v40 s41 => ?_)
    beta_reduce
    refine frame_wrIf _ _ _ _ _ _ _ rfl ?_ ?_
    · exact Frame.refl _ _
    · intro x42 x43
      refine Frame.step (frame_pertWrite _ _ _ _) rfl ?_
      assumption
  · refine OptFramed.some ?_
    unfold regPert
    refine framed_regAt _ _ (fun q44 v45 s46 => ?_)
    beta_reduce
    refine frame_wrIf _ _ _ _ _ _ _ rfl ?_ ?_
    · exact Frame.refl _ _
    · intro x47 x48
      refine Frame.step (frame_pertWrite _ _ _ _) rfl ?_
      assumption
  · refine OptFramed.some ?_
    unfold regPert
    refine framed_regAt _ _ (fun q49 v50 s51 => ?_)
    beta_reduce
    refine frame_wrIf _ _ _ _ _ _ _ rfl ?_ ?_
    · exact Frame.refl _ _
    · intro x52 x53
      refine Frame.step (frame_pertWrite _ _ _ _) rfl ?_
      assumption
  · refine OptFramed.some ?_
    refine framed_regAt _ _ (fun q54 v55 s56 => ?_)
    refine Frame.step (frame_doPertMemctlGo _ _ _) rfl ?_
    exact Frame.refl _ _
  · refine OptFramed.some ?_
    unfold regRo
    refine framed_regAt _ _ (fun q57 v58 s59 => ?_)
    refine frame_wr _ _ _ _ _ _ _ _ rfl ?_ ?_
    · exact Frame.refl _ _
    · intro x60 x61
      unfold id
      assumption
  · refine OptFramed.some ?_
    unfold regCount
    unfold regCounter
    refine ⟨fun q62 s63 => ?_, fun q64 v65 s66 => ?_⟩
    · dsimp only
      exact Frame.refl _ _
    · dsimp only
      refine frame_wr _ _ _ _ _ _ _ _ rfl ?_ ?_
      · exact Frame.refl _ _
      · intro x67 x68
        refine frame_storeCount _ _ _ _ _ _ rfl ?_ ?_
        · assumption
        · intro x69 x70 x71
          refine Frame.step (frame_modPert _ _) rfl ?_
          assumption
  · exact OptFramed.none _

/-- Changes what its operand changes, and heads, time. -/
theorem frame_turned : ∀ {M : Nat} (b : Block) (off : Nat) (d : RegDef), (131088 ||| M = M) → (d.framed M) → (turned b off d).framed M := by
  intro M b off d hM h
  exact ⟨h.1, fun rq v s => Frame.step (h.2 _ _ _) (Nat.or_self M) ((frame_inTurn _ _ _ _).mono hM)⟩

/-- Changes at most heads. -/
theorem frame_accessErr : ∀ (addr : Nat) (s : State), Frame 16 s (accessErr addr s) := by
  intro addr s
  unfold accessErr
  split
  · refine Frame.step (frame_setErr _ _ _) rfl ?_
    exact Frame.refl _ _
  · exact Frame.refl _ _

/-- Leaves pending, cfg as it was. -/
theorem frame_dwinReg : ∀ (off : Nat), RegDef.framed 2147481598 (dwinReg off) := by
  intro off
  unfold dwinReg
  refine ⟨fun q1 s2 => ?_, fun q3 v4 s5 => ?_⟩
  · dsimp only
    refine Frame.step (frame_dwinRead _ _ _ _) rfl ?_
    · exact Frame.refl _ _
  · dsimp only
    refine Frame.step (frame_dwinWrite _ _ _ _ _) rfl ?_
    exact Frame.refl _ _

/-- Leaves pending, cfg as it was. -/
theorem frame_blockReg : ∀ (b : Block) (off : Nat), OptFramed 2147481598 (blockReg b off) := by
  intro b off
  unfold blockReg
  split
  · exact frame_sysReg _
  · exact frame_tickReg _
  · exact frame_strctReg _
  · exact frame_hswReg _
  · exact frame_solReg _
  · exact frame_ledReg _
  · exact frame_dinReg _
  · exact frame_hurdleReg _
  · exact frame_timeReg _
  · exact frame_tallyReg _
  · exact frame_fabReg _
  · exact frame_mbusReg _
  · exact frame_audReg _
  · exact frame_accReg _
  · exact frame_keyReg _
  · exact frame_pwrReg _
  · exact frame_memReg _
  · exact frame_queReg _
  · refine OptFramed.some ?_
    exact frame_dwinReg _
  · exact frame_updReg _
  · exact frame_pertReg _

/-- Leaves pending, cfg as it was. -/
theorem frame_regDef : ∀ (b : Block) (off : Nat), RegDef.framed 2147481598 (regDef b off) := by
  intro b off
  unfold regDef
  split
  · refine frame_turned _ _ _ rfl ?_
    unfold regHead
    refine framed_regAt _ _ (fun q1 v2 s3 => ?_)
    refine Frame.step (frame_headWrite _ _ _ _ _ _) rfl ?_
    exact Frame.refl _ _
  split
  · rename_i d hd
    have hb := frame_blockReg b off d hd
    split
    · exact hb
    · exact frame_turned _ _ _ rfl hb
  · unfold regNone
    refine framed_regAt _ _ (fun q4 v5 s6 => ?_)
    refine Frame.step (frame_reservedWrite _ _ _) rfl ?_
    exact Frame.refl _ _

/-- Leaves pending, cfg as it was. -/
theorem frame_regRead : ∀ (rq : Requester) (addr : Nat) (s : State), Frame 2147481598 s (Prod.snd (regRead rq addr s)) := by
  intro rq addr s
  unfold regRead
  split
  · refine Frame.step ((frame_regDef _ _).1 _ _) rfl ?_
    exact Frame.refl _ _
  · exact Frame.refl _ _

/-- Leaves pending, cfg as it was. -/
theorem frame_accessRead : ∀ (rq : Requester) (addr width : Nat) (s : State), Frame 2147481598 s (Prod.snd (accessRead rq addr width s)) := by
  intro rq addr width s
  unfold accessRead
  split
  · refine Frame.step (frame_regRead _ _ _) rfl ?_
    exact Frame.refl _ _
  · dsimp only
    refine Frame.step (frame_accessErr _ _) rfl ?_
    exact Frame.refl _ _

/-- Leaves pending, cfg as it was. -/
theorem frame_regWrite : ∀ (rq : Requester) (addr : Nat) (v : Word) (s : State), Frame 2147481598 s (regWrite rq addr v s) := by
  intro rq addr v s
  unfold regWrite
  split
  · refine Frame.step ((frame_regDef _ _).2 _ _ _) rfl ?_
    exact Frame.refl _ _
  · refine Frame.step (frame_reservedWrite _ _ _) rfl ?_
    exact Frame.refl _ _

/-- Leaves pending, cfg as it was. -/
theorem frame_accessWrite : ∀ (rq : Requester) (addr width : Nat) (v : Word) (s : State), Frame 2147481598 s (accessWrite rq addr width v s) := by
  intro rq addr width v s
  unfold accessWrite
  refine Frame.ite ?_ ?_
  · refine Frame.step (frame_regWrite _ _ _ _) rfl ?_
    exact Frame.refl _ _
  · refine Frame.step (frame_accessErr _ _) rfl ?_
    exact Frame.refl _ _

/-- Leaves pending, cfg as it was. -/
theorem frame_doRegisterWrite : ∀ (rq : Requester) (addr width : Nat) (v : Word) (s : State), Frame 2147481598 s (doRegisterWrite rq addr width v s) := by
  intro rq addr width v s
  unfold doRegisterWrite
  refine Frame.ite ?_ ?_
  · exact Frame.refl _ _
  · refine Frame.step (frame_accessWrite _ _ _ _ _) rfl ?_
    exact Frame.refl _ _

/-- Leaves pending, cfg as it was. -/
theorem frame_svcPut : ∀ (addr : Nat) (ws : List Word) (s : State), Frame 2147481598 s (svcPut addr ws s) := by
  intro addr ws s
  unfold svcPut
  refine Frame.foldl (fun x1 k2 h3 => ?_) ?_
  · extract_lets x4
    clear_value x4
    refine Frame.ite ?_ ?_
    · refine Frame.step (frame_regWrite _ _ _ _) rfl ?_
      assumption
    · refine Frame.ite ?_ ?_
      · refine Frame.step (frame_accessErr _ _) rfl ?_
        assumption
      · refine Frame.step (frame_reservedWrite _ _ _) rfl ?_
        assumption
  · exact Frame.refl _ _

/-- Leaves pending, cfg as it was. -/
theorem frame_svcGet : ∀ (addr n : Nat) (s : State), Frame 2147481598 s (svcGet addr n s) := by
  intro addr n s
  unfold svcGet
  refine Frame.foldl (fun x1 k2 h3 => ?_) ?_
  · extract_lets x4
    have h5 : Frame 2147481598 s x4.2 := by
      subst x4
      refine Frame.step (frame_accessRead _ _ _ _) rfl ?_
      assumption
    clear_value x4
    refine Frame.step (frame_giveRead _ _ _) rfl ?_
    assumption
  · exact Frame.refl _ _

/-- Leaves pending, cfg as it was. -/
theorem frame_doSvcTransaction : ∀ (bs : List Byte) (s : State), Frame 2147481598 s (doSvcTransaction bs s) := by
  intro bs s
  unfold doSvcTransaction
  extract_lets x1
  clear_value x1
  refine Frame.ite ?_ ?_
  · exact Frame.refl _ _
  · split
    · refine Frame.step (frame_svcPut _ _ _) rfl ?_
      exact Frame.refl _ _
    · refine Frame.step (frame_svcGet _ _ _) rfl ?_
      exact Frame.refl _ _
    · exact Frame.refl _ _

/-- Changes at most core. -/
theorem frame_launch : ∀ (c : Fin 5) (unit lat : Nat) (act : OpAct) (s : State), Frame 1048576 s (launch c unit lat act s) := by
  intro c unit lat act s
  unfold launch
  refine Frame.step (frame_modCpu _ _ _) rfl ?_
  exact Frame.refl _ _

/-- Changes at most core. -/
theorem frame_launchRes : ∀ (c : Fin 5) (unit lat : Nat) (port : Fin 14) (v : Word) (s : State), Frame 1048576 s (launchRes c unit lat port v s) := by
  intro c unit lat port v s
  unfold launchRes
  refine Frame.step (frame_launch _ _ _ _ _) rfl ?_
  exact Frame.refl _ _

/-- Changes at most core. -/
theorem frame_brTrigger : ∀ (c : Fin 5) (dst : Nat) (v : Word) (s : State), Frame 1048576 s (brTrigger c dst v s) := by
  intro c dst v s
  unfold brTrigger
  extract_lets x1 x2
  clear_value x1
  have h3 : Frame 1048576 s x2 := by
    subst x2
    refine Frame.step (frame_modCpu _ _ _) rfl ?_
    exact Frame.refl _ _
  clear_value x2
  refine Frame.ite ?_ ?_
  · refine Frame.step (frame_launchRes _ _ _ _ _ _) rfl ?_
    assumption
  · assumption

/-- Changes at most evt. -/
theorem frame_clearLine : ∀ (n : Nat) (s : State), Frame 256 s (clearLine n s) := by
  intro n s
  unfold clearLine
  extract_lets x1 x2
  clear_value x1
  have h3 : Frame 256 s x2 := by
    subst x2
    refine Frame.ite ?_ ?_
    · exact Frame.refl _ _
    · refine Frame.step (frame_set_evt _ _) rfl ?_
      exact Frame.refl _ _
  clear_value x2
  split
  · refine Frame.step (frame_refreshLine _ _) rfl ?_
    assumption
  · assumption

/-- Changes at most core. -/
theorem frame_modSet : ∀ (c : Fin 5) (keeper : Bool) (f : LevelSet → LevelSet) (s : State), Frame 1048576 s (modSet c keeper f s) := by
  intro c keeper f s
  unfold modSet
  refine Frame.step (frame_modCpu _ _ _) rfl ?_
  exact Frame.refl _ _

/-- Leaves pending, cfg as it was. -/
theorem frame_coreStore : ∀ (c : Fin 5) (keeper : Bool) (size a : Nat) (v : Word) (u : Upset) (s : State),
  Frame 2147481598 s (coreStore c keeper size a v u s) := by
  intro c keeper size a v u s
  unfold coreStore
  split
  · refine Frame.step (frame_bankWrite _ _ _ _ _ _) rfl ?_
    exact Frame.refl _ _
  · refine Frame.step (frame_eccStore _ _ _ _ _ _) rfl ?_
    exact Frame.refl _ _
  · refine Frame.step (frame_accessWrite _ _ _ _ _) rfl ?_
    exact Frame.refl _ _
  · exact Frame.refl _ _

/-- Changes at most heads, evt, tally, mem. -/
theorem frame_mramLoad : ∀ (req a size : Nat) (u : Upset) (s : State), Frame 2359568 s (Prod.snd (mramLoad req a size u s)) := by
  intro req a size u s
  unfold mramLoad
  extract_lets x1 x2 x3
  clear_value x1
  have h4 : Frame 2359568 s x2 := by
    subst x2
    refine Frame.ite ?_ ?_
    · exact Frame.refl _ _
    · refine Frame.step (frame_bump _ _ _ _ _) rfl ?_
      refine Frame.step (frame_modMem _ _ (fun m hm => ⟨hm.1, hm.2⟩)) rfl ?_
      exact Frame.refl _ _
  clear_value x2
  have h5 : Frame 2359568 s x3 := by
    subst x3
    refine Frame.ite ?_ ?_
    · exact Frame.refl _ _
    · refine Frame.step (frame_modMem _ _ (fun m hm => ⟨hm.1, hm.2⟩)) rfl ?_
      exact Frame.refl _ _
  clear_value x3
  split
  · assumption
  · dsimp only
    refine Frame.step (frame_logUe _ _ _) rfl ?_
    assumption

/-- Leaves pending, cfg as it was. -/
theorem frame_coreLoad : ∀ (c : Fin 5) (keeper : Bool) (kind : LoadKind) (a : Nat) (u : Upset) (s : State),
  Frame 2147481598 s (Prod.snd (coreLoad c keeper kind a u s)) := by
  intro c keeper kind a u s
  unfold coreLoad
  split
  · refine Frame.step (frame_bankRead _ _ _ _ _) rfl ?_
    exact Frame.refl _ _
  · extract_lets x1
    have h2 : Frame 2147481598 s x1.2 := by
      subst x1
      refine Frame.step (frame_eccRead _ _ _ _) rfl ?_
      exact Frame.refl _ _
    clear_value x1
    assumption
  · refine Frame.step (frame_mramLoad _ _ _ _ _) rfl ?_
    exact Frame.refl _ _
  · extract_lets x3
    have h4 : Frame 2147481598 s x3.2 := by
      subst x3
      refine Frame.step (frame_accessRead _ _ _ _) rfl ?_
      exact Frame.refl _ _
    clear_value x3
    dsimp only
    refine Frame.step (frame_giveRead _ _ _) rfl ?_
    assumption
  · exact Frame.refl _ _

/-- Leaves pending, cfg as it was. -/
theorem frame_completeOp : ∀ (c : Fin 5) (f : Flight) (u : Upset) (s : State), Frame 2147481598 s (Prod.snd (completeOp c f u s)) := by
  intro c f u s
  unfold completeOp
  extract_lets x1
  have h2 : Frame 2147481598 s x1 := by
    subst x1
    refine Frame.ite ?_ ?_
    · refine Frame.step (frame_enginesNow _) rfl ?_
      exact Frame.refl _ _
    · exact Frame.refl _ _
  clear_value x1
  split
  · dsimp only
    refine Frame.step (frame_modSet _ _ _ _) rfl ?_
    assumption
  · dsimp only
    refine Frame.step (frame_coreStore _ _ _ _ _ _ _) rfl ?_
    assumption
  · extract_lets x3
    have h4 : Frame 2147481598 s x3.2 := by
      subst x3
      refine Frame.step (frame_coreLoad _ _ _ _ _ _) rfl ?_
      assumption
    clear_value x3
    split
    · dsimp only
      refine Frame.step (frame_modSet _ _ _ _) rfl ?_
      assumption
    · assumption

/-- Leaves pending, cfg as it was. -/
theorem frame_completeDue : ∀ (c : Fin 5) (d : Nat) (s : State), Frame 2147481598 s (Prod.snd (completeDue c d s)) := by
  intro c d s
  unfold completeDue
  extract_lets x1 x2
  clear_value x1
  have h3 : Frame 2147481598 s x2 := by
    subst x2
    refine Frame.step (frame_modCpu _ _ _) rfl ?_
    exact Frame.refl _ _
  clear_value x2
  refine Frame.foldlP (fun r4 k5 h6 => ?_) ?_
  · extract_lets x7
    have h8 : Frame 2147481598 s x7.2 := by
      subst x7
      refine Frame.step (frame_completeOp _ _ _ _) rfl ?_
      assumption
    clear_value x7
    assumption
  · assumption

/-- Changes at most time. -/
theorem frame_coreTime : ∀ (c : Fin 5) (n : Nat) (s : State), Frame 131072 s (coreTime c n s) := by
  intro c n s
  unfold coreTime
  refine Frame.ite ?_ ?_
  · exact Frame.refl _ _
  · refine Frame.ite ?_ ?_
    · refine Frame.step (frame_passTo _ _ _) rfl ?_
      exact Frame.refl _ _
    · refine Frame.step (frame_passTo _ _ _) rfl ?_
      exact Frame.refl _ _

/-- Changes at most time, core. -/
theorem frame_coreAt : ∀ (c : Fin 5) (n : Nat) (s : State), Frame 1179648 s (coreAt c n s) := by
  intro c n s
  unfold coreAt
  refine Frame.step (frame_modCpu _ _ _) rfl ?_
  refine Frame.step (frame_coreTime _ _ _) rfl ?_
  exact Frame.refl _ _

/-- Changes at most heads, evt, tally, mem. -/
theorem frame_readEntry : ∀ (c : Fin 5) (q a : Nat) (s : State), Frame 2359568 s (Prod.snd (readEntry c q a s)) := by
  intro c q a s
  unfold readEntry
  refine Frame.step (frame_eccSpan _ _ _ _) rfl ?_
  exact Frame.refl _ _

/-- Changes at most reports, heads, evt, time, tally, mem, que, pert. -/
theorem frame_corePush : ∀ (c : Fin 5) (q a : Nat) (s : State), Frame 23462164 s (Prod.snd (corePush c q a s)) := by
  intro c q a s
  unfold corePush
  extract_lets x1
  have h2 : Frame 23462164 s x1.2 := by
    subst x1
    split
    · refine Frame.step (frame_readEntry _ _ _ _) rfl ?_
      exact Frame.refl _ _
    · exact Frame.refl _ _
  clear_value x1
  split
  · refine Frame.step (frame_qPush _ _ _ _) rfl ?_
    assumption
  · assumption

/-- Leaves pending, cfg as it was. -/
theorem frame_settle : ∀ (c : Fin 5) (s : State), Frame 2147481598 s (Prod.snd (settle c s)) := by
  intro c s
  unfold settle
  extract_lets x1 x2
  clear_value x1
  have h3 : Frame 2147481598 s x2.2 := by
    subst x2
    refine Frame.foldlP (fun r4 k5 h6 => ?_) ?_
    · split
      · extract_lets x7
        have h8 : Frame 2147481598 s x7.2 := by
          subst x7
          refine Frame.step (frame_completeDue _ _ _) rfl ?_
          refine Frame.step (frame_coreAt _ _ _) rfl ?_
          assumption
        clear_value x7
        assumption
      · assumption
    · exact Frame.refl _ _
  clear_value x2
  dsimp only
  refine Frame.step (frame_modCpu _ _ _) rfl ?_
  assumption

/-- Leaves pending, cfg as it was. -/
theorem frame_tickException : ∀ (k : Fin 4) (cause addr : Nat) (s : State), Frame 2147481598 s (tickException k cause addr s) := by
  intro k cause addr s
  unfold tickException
  extract_lets x1
  have h2 : Frame 2147481598 s x1 := by
    subst x1
    refine Frame.step (frame_stopTickCore _ _) rfl ?_
    refine Frame.step (frame_settle _ _) rfl ?_
    exact Frame.refl _ _
  clear_value x1
  refine Frame.step (frame_setIrq _ _ _) rfl ?_
  refine Frame.step (frame_logEv _ _ _ _ _) rfl ?_
  assumption

/-- Changes at most core. -/
theorem frame_enterKeeper : ∀ (cause line : Nat) (info : Word) (addr : Nat) (br : Option (Nat × Nat)) (vector : Nat) (s : State),
  Frame 1048576 s (enterKeeper cause line info addr br vector s) := by
  intro cause line info addr br vector s
  unfold enterKeeper
  refine Frame.step (frame_modCpu _ _ _) rfl ?_
  exact Frame.refl _ _

/-- Leaves pending, cfg as it was. -/
theorem frame_raise : ∀ (c : Fin 5) (keeper : Bool) (cause addr : Nat) (info : Word) (br : Option (Nat × Nat)) (s : State),
  Frame 2147481598 s (raise c keeper cause addr info br s) := by
  intro c keeper cause addr info br s
  unfold raise
  split
  · refine Frame.step (frame_tickException _ _ _ _) rfl ?_
    exact Frame.refl _ _
  · refine Frame.ite ?_ ?_
    · refine Frame.step (frame_keeperFault _ _ _) rfl ?_
      refine Frame.step (frame_settle _ _) rfl ?_
      exact Frame.refl _ _
    · refine Frame.step (frame_enterKeeper _ _ _ _ _ _ _) rfl ?_
      refine Frame.step (frame_settle _ _) rfl ?_
      exact Frame.refl _ _

/-- Leaves pending, cfg as it was. -/
theorem frame_raiseEcc : ∀ (c : Fin 5) (a : Nat) (s : State), Frame 2147481598 s (raiseEcc c a s) := by
  intro c a s
  unfold raiseEcc
  extract_lets x1
  clear_value x1
  refine Frame.step (frame_raise _ _ _ _ _ _ _) rfl ?_
  exact Frame.refl _ _

/-- Changes what its operand changes, and freeCount, reports, rdata, heads, latches, held, sys, evt, tick, strct, hsw, sol, led, din, hurdle, time, tally, fab, core, mem, que, dwin, pert, key, mbus, aud, acc, pwr, upd. -/
theorem frame_issue : ∀ {M : Nat} {s0 : State} (c : Fin 5) (form : Nat → Bool) (run : DWord → State → State) (s : State), (2147481598 ||| M = M) → (Frame M s0 s) → (∀ w x, Frame M s0 x → Frame M s0 (run w x)) → Frame M s0 (issue c form run s) := by
  intro M s0 c form run s hM h hf
  have hr : Frame M s0 (completeDue c ((s.cpu c).cycle - 1) (coreTime c (s.cpu c).cycle s)).2 := by
    refine Frame.step (frame_completeDue _ _ _) ?_ (Frame.step (frame_coreTime _ _ _) ?_ h)
    · rw [← hM, ← Nat.or_assoc]
      rfl
    · rw [← hM, ← Nat.or_assoc]
      rfl
  unfold issue
  dsimp only
  refine Frame.ite h ?_
  split
  · refine Frame.step (frame_raiseEcc _ _ _) ?_ hr
    rw [← hM, ← Nat.or_assoc]
    rfl
  refine Frame.ite hr (Frame.ite (Frame.step (frame_raise _ _ _ _ _ _ _) ?_ hr) ?_)
  · rw [← hM, ← Nat.or_assoc]
    rfl
  have he : ∀ k n f, Frame M s0 (eccSpan c.val k n (modCpu c f (completeDue c ((s.cpu c).cycle - 1) (coreTime c (s.cpu c).cycle s)).2)).2 := by
    intro k n f
    refine Frame.step (frame_eccSpan _ _ _ _) ?_ (Frame.step (frame_modCpu _ _ _) ?_ hr)
    · rw [← hM, ← Nat.or_assoc]
      rfl
    · rw [← hM, ← Nat.or_assoc]
      rfl
  refine Frame.ite (hf _ _ (he _ _ _)) (Frame.step (frame_raise _ _ _ _ _ _ _) ?_ (Frame.step (frame_tickFree _) ?_ (he _ _ _)))
  · rw [← hM, ← Nat.or_assoc]
    rfl
  · rw [← hM, ← Nat.or_assoc]
    rfl

/-- Leaves pending, cfg as it was. -/
theorem frame_runBreak : ∀ (c : Fin 5) (w : DWord) (s : State), Frame 2147481598 s (runBreak c w s) := by
  intro c w s
  unfold runBreak
  extract_lets x1
  clear_value x1
  refine Frame.ite ?_ ?_
  · refine Frame.step (frame_raise _ _ _ _ _ _ _) rfl ?_
    exact Frame.refl _ _
  · refine Frame.ite ?_ ?_
    · refine Frame.step (frame_raise _ _ _ _ _ _ _) rfl ?_
      exact Frame.refl _ _
    · refine Frame.ite ?_ ?_
      · refine Frame.step (frame_modCpu _ _ _) rfl ?_
        exact Frame.refl _ _
      · refine Frame.step (frame_raise _ _ _ _ _ _ _) rfl ?_
        exact Frame.refl _ _

/-- Leaves pending, cfg as it was. -/
theorem frame_doBreak : ∀ (c : Fin 5) (s : State), Frame 2147481598 s (doBreak c s) := by
  intro c s
  unfold doBreak
  refine frame_issue _ _ _ _ rfl ?_ ?_
  · exact Frame.refl _ _
  · intro x1 x2 x3
    refine Frame.step (frame_runBreak _ _ _) rfl ?_
    assumption

/-- Leaves pending, cfg as it was. -/
theorem frame_doEventEntry : ∀ (s : State), Frame 2147481598 s (doEventEntry s) := by
  intro s
  unfold doEventEntry
  split
  · exact Frame.refl _ _
  · refine Frame.ite ?_ ?_
    · exact Frame.refl _ _
    · extract_lets x1 x2 x3
      clear_value x1
      have h4 : Frame 2147481598 s x2.2 := by
        subst x2
        refine Frame.step (frame_completeDue _ _ _) rfl ?_
        exact Frame.refl _ _
      clear_value x2
      have h5 : Frame 2147481598 s x3.2 := by
        subst x3
        refine Frame.step (frame_settle _ _) rfl ?_
        assumption
      clear_value x3
      split
      · refine Frame.step (frame_raiseEcc _ _ _) rfl ?_
        assumption
      · split
        · refine Frame.step (frame_enterKeeper _ _ _ _ _ _ _) rfl ?_
          assumption
        · refine Frame.step (frame_enterKeeper _ _ _ _ _ _ _) rfl ?_
          assumption

/-- Changes at most core. -/
theorem frame_lsuTrigger : ∀ (c : Fin 5) (port : Fin 14) (op : LsuOp) (data v : Word) (s : State), Frame 1048576 s (lsuTrigger c port op data v s) := by
  intro c port op data v s
  unfold lsuTrigger
  extract_lets x1 x2
  clear_value x1
  clear_value x2
  split
  · refine Frame.step (frame_launch _ _ _ _ _) rfl ?_
    exact Frame.refl _ _
  · refine Frame.step (frame_launch _ _ _ _ _) rfl ?_
    exact Frame.refl _ _

/-- Changes at most core. -/
theorem frame_timeTrigger : ∀ (c : Fin 5) (dst : Nat) (v : Word) (s : State), Frame 1048576 s (timeTrigger c dst v s) := by
  intro c dst v s
  unfold timeTrigger
  extract_lets x1
  clear_value x1
  refine Frame.step (frame_launch _ _ _ _ _) rfl ?_
  exact Frame.refl _ _

/-- Changes at most freeCount. -/
theorem frame_queStatus : ∀ (r : QRes) (s : State), Frame 2 s (Prod.snd (queStatus r s)) := by
  intro r s
  unfold queStatus
  split
  · exact Frame.refl _ _
  · exact Frame.refl _ _
  · exact Frame.refl _ _
  · dsimp only
    refine Frame.step (frame_tickFree _) rfl ?_
    exact Frame.refl _ _

/-- Changes at most core. -/
theorem frame_storeEntry : ∀ (c : Fin 5) (a : Nat) (data : List Byte) (s : State), Frame 1048576 s (storeEntry c a data s) := by
  intro c a data s
  unfold storeEntry
  refine Frame.foldl (fun x1 k2 h3 => ?_) ?_
  · refine Frame.step (frame_launch _ _ _ _ _) rfl ?_
    assumption
  · exact Frame.refl _ _

/-- Changes at most freeCount, reports, heads, evt, time, tally, core, mem, que, pert. -/
theorem frame_queTrigger : ∀ (c : Fin 5) (dst : Nat) (q v : Word) (s : State), Frame 24510742 s (queTrigger c dst q v s) := by
  intro c dst q v s
  unfold queTrigger
  extract_lets x1 x2 x3 x4 x5 x6
  clear_value x1
  have h7 : Frame 24510742 s x2 := by
    subst x2
    refine Frame.step (frame_qTurn _ _ _) rfl ?_
    exact Frame.refl _ _
  clear_value x2
  have h8 : Frame 24510742 s x3.2 := by
    subst x3
    refine Frame.step (frame_corePush _ _ _ _) rfl ?_
    assumption
  clear_value x3
  have h9 : Frame 24510742 s x4.2 := by
    subst x4
    refine Frame.step (frame_queStatus _ _) rfl ?_
    assumption
  clear_value x4
  have h10 : Frame 24510742 s x5.2.2 := by
    subst x5
    refine Frame.step (frame_qPop _ _ _) rfl ?_
    assumption
  clear_value x5
  have h11 : Frame 24510742 s x6.2 := by
    subst x6
    refine Frame.step (frame_queStatus _ _) rfl ?_
    assumption
  clear_value x6
  split
  · refine Frame.step (frame_launchRes _ _ _ _ _ _) rfl ?_
    assumption
  · refine Frame.step (frame_launchRes _ _ _ _ _ _) rfl ?_
    refine Frame.step (frame_storeEntry _ _ _ _) rfl ?_
    assumption
  · split
    · refine Frame.step (frame_launchRes _ _ _ _ _ _) rfl ?_
      assumption
    · refine Frame.step (frame_launchRes _ _ _ _ _ _) rfl ?_
      refine Frame.step (frame_qRefuse _ _ _ _) rfl ?_
      assumption

/-- Changes at most evt, core. -/
theorem frame_evtTrigger : ∀ (c : Fin 5) (dst : Nat) (lat v : Word) (s : State), Frame 1048832 s (evtTrigger c dst lat v s) := by
  intro c dst lat v s
  unfold evtTrigger
  split
  · refine Frame.step (frame_launchRes _ _ _ _ _ _) rfl ?_
    exact Frame.refl _ _
  · extract_lets x1 x2
    clear_value x1
    clear_value x2
    split
    · refine Frame.step (frame_set_evt _ _) rfl ?_
      exact Frame.refl _ _
    · refine Frame.step (frame_set_evt _ _) rfl ?_
      exact Frame.refl _ _
    · refine Frame.step (frame_set_evt _ _) rfl ?_
      exact Frame.refl _ _
    · refine Frame.step (frame_setLine _ _) rfl ?_
      exact Frame.refl _ _
    · refine Frame.step (frame_clearLine _ _) rfl ?_
      exact Frame.refl _ _
    · refine Frame.step (frame_modCpu _ _ _) rfl ?_
      exact Frame.refl _ _
    · refine Frame.step (frame_modCpu _ _ _) rfl ?_
      exact Frame.refl _ _
    · refine Frame.step (frame_modSet _ _ _ _) rfl ?_
      exact Frame.refl _ _

/-- Changes at most freeCount, reports, heads, evt, time, tally, core, mem, que, pert. -/
theorem frame_trigger : ∀ (c : Fin 5) (lat : Vector Word 11) (u : Nat) (m : Move) (s : State), Frame 24510742 s (trigger c lat u m s) := by
  intro c lat u m s
  unfold trigger
  split
  · extract_lets x1
    clear_value x1
    refine Frame.step (frame_launch _ _ _ _ _) rfl ?_
    exact Frame.refl _ _
  · extract_lets x2
    clear_value x2
    refine Frame.step (frame_launch _ _ _ _ _) rfl ?_
    exact Frame.refl _ _
  · refine Frame.step (frame_launchRes _ _ _ _ _ _) rfl ?_
    exact Frame.refl _ _
  · extract_lets x3
    clear_value x3
    refine Frame.step (frame_launch _ _ _ _ _) rfl ?_
    refine Frame.step (frame_modCpu _ _ _) rfl ?_
    exact Frame.refl _ _
  · refine Frame.step (frame_launchRes _ _ _ _ _ _) rfl ?_
    exact Frame.refl _ _
  · refine Frame.step (frame_launchRes _ _ _ _ _ _) rfl ?_
    exact Frame.refl _ _
  · refine Frame.step (frame_lsuTrigger _ _ _ _ _ _) rfl ?_
    exact Frame.refl _ _
  · refine Frame.step (frame_lsuTrigger _ _ _ _ _ _) rfl ?_
    exact Frame.refl _ _
  · refine Frame.step (frame_brTrigger _ _ _ _) rfl ?_
    exact Frame.refl _ _
  · refine Frame.step (frame_timeTrigger _ _ _ _) rfl ?_
    exact Frame.refl _ _
  · refine Frame.step (frame_queTrigger _ _ _ _ _) rfl ?_
    exact Frame.refl _ _
  · refine Frame.step (frame_evtTrigger _ _ _ _ _) rfl ?_
    exact Frame.refl _ _

/-- Changes at most freeCount, reports, heads, evt, time, tally, core, mem, que, pert. -/
theorem frame_runTriggers : ∀ (c : Fin 5) (lat : Vector Word 11) (ms : List Move) (s : State), Frame 24510742 s (runTriggers c lat ms s) := by
  intro c lat ms s
  unfold runTriggers
  extract_lets x1
  refine Frame.foldl (fun x2 k3 h4 => ?_) ?_
  · dsimp only [x1]
    split
    · refine Frame.step (frame_trigger _ _ _ _ _) rfl ?_
      assumption
    · assumption
  · refine Frame.foldl (fun x5 k6 h7 => ?_) ?_
    · dsimp only [x1]
      split
      · refine Frame.step (frame_trigger _ _ _ _ _) rfl ?_
        assumption
      · assumption
    · exact Frame.refl _ _

/-- Changes at most freeCount, core. -/
theorem frame_writeRegs : ∀ (c : Fin 5) (ms : List Move) (s : State), Frame 1048578 s (writeRegs c ms s) := by
  intro c ms s
  unfold writeRegs
  extract_lets x1 x2 x3
  clear_value x1
  have h4 : Frame 1048578 s x2 := by
    subst x2
    refine Frame.step (frame_modSet _ _ _ _) rfl ?_
    exact Frame.refl _ _
  clear_value x2
  have h5 : Frame 1048578 s x3 := by
    subst x3
    refine Frame.step (frame_modCpu _ _ _) rfl ?_
    assumption
  clear_value x3
  refine Frame.ite ?_ ?_
  · refine Frame.step (frame_tickFree _) rfl ?_
    assumption
  · assumption

/-- Changes at most core. -/
theorem frame_returnEntry : ∀ (s : State), Frame 1048576 s (returnEntry s) := by
  intro s
  unfold returnEntry
  refine Frame.step (frame_modCpu _ _ _) rfl ?_
  exact Frame.refl _ _

/-- Changes at most freeCount, reports, heads, evt, time, tally, core, mem, que, pert. -/
theorem frame_runMoves : ∀ (c : Fin 5) (ms : List Move) (s : State), Frame 24510742 s (runMoves c ms s) := by
  intro c ms s
  unfold runMoves
  extract_lets x1 x2 x3
  clear_value x1
  have h4 : Frame 24510742 s x2 := by
    subst x2
    refine Frame.step (frame_runTriggers _ _ _ _) rfl ?_
    refine Frame.step (frame_writeRegs _ _ _) rfl ?_
    exact Frame.refl _ _
  clear_value x2
  have h5 : Frame 24510742 s x3 := by
    subst x3
    refine Frame.step (frame_modCpu _ _ _) rfl ?_
    assumption
  clear_value x3
  refine Frame.ite ?_ ?_
  · refine Frame.step (frame_returnEntry _) rfl ?_
    assumption
  · assumption

/-- Leaves pending, cfg as it was. -/
theorem frame_runBundle : ∀ (c : Fin 5) (w : DWord) (s : State), Frame 2147481598 s (runBundle c w s) := by
  intro c w s
  unfold runBundle
  extract_lets x1 x2 x3
  clear_value x1
  clear_value x2
  clear_value x3
  split
  · refine Frame.step (frame_raise _ _ _ _ _ _ _) rfl ?_
    exact Frame.refl _ _
  · refine Frame.step (frame_runMoves _ _ _) rfl ?_
    exact Frame.refl _ _

/-- Leaves pending, cfg as it was. -/
theorem frame_doImm32 : ∀ (c : Fin 5) (s : State), Frame 2147481598 s (doImm32 c s) := by
  intro c s
  unfold doImm32
  refine frame_issue _ _ _ _ rfl ?_ ?_
  · exact Frame.refl _ _
  · intro x1 x2 x3
    refine Frame.step (frame_runBundle _ _ _) rfl ?_
    assumption

/-- Leaves pending, cfg as it was. -/
theorem frame_doLockstep : ∀ (s : State), Frame 2147481598 s (doLockstep s) := by
  intro s
  unfold doLockstep
  split
  · refine Frame.step (frame_beginRestart _) rfl ?_
    refine Frame.step (frame_logEv _ _ _ _ _) rfl ?_
    refine Frame.step (frame_settle _ _) rfl ?_
    exact Frame.refl _ _
  · exact Frame.refl _ _

/-- Leaves pending, cfg as it was. -/
theorem frame_doMove3 : ∀ (c : Fin 5) (s : State), Frame 2147481598 s (doMove3 c s) := by
  intro c s
  unfold doMove3
  refine frame_issue _ _ _ _ rfl ?_ ?_
  · exact Frame.refl _ _
  · intro x1 x2 x3
    refine Frame.step (frame_runBundle _ _ _) rfl ?_
    assumption

/-- Leaves pending, cfg as it was. -/
theorem frame_doOperationComplete : ∀ (c : Fin 5) (u : Upset) (s : State), Frame 2147481598 s (doOperationComplete c u s) := by
  intro c u s
  unfold doOperationComplete
  extract_lets x1
  clear_value x1
  split
  · exact Frame.refl _ _
  · refine Frame.ite ?_ ?_
    · exact Frame.refl _ _
    · refine Frame.ite ?_ ?_
      · exact Frame.refl _ _
      · extract_lets x2 x3
        have h4 : Frame 2147481598 s x2 := by
          subst x2
          refine Frame.step (frame_coreAt _ _ _) rfl ?_
          exact Frame.refl _ _
        clear_value x2
        have h5 : Frame 2147481598 s x3.2 := by
          subst x3
          refine Frame.step (frame_completeOp _ _ _ _) rfl ?_
          refine Frame.step (frame_modCpu _ _ _) rfl ?_
          assumption
        clear_value x3
        split
        · refine Frame.step (frame_raiseEcc _ _ _) rfl ?_
          assumption
        · assumption

/-- Leaves pending, cfg as it was. -/
theorem frame_doShepherdWaitResume : ∀ (s : State), Frame 2147481598 s (doShepherdWaitResume s) := by
  intro s
  unfold doShepherdWaitResume
  refine Frame.ite ?_ ?_
  · exact Frame.refl _ _
  · refine Frame.ite ?_ ?_
    · refine Frame.step (frame_modCpu _ _ _) rfl ?_
      exact Frame.refl _ _
    · refine Frame.step (frame_doEventEntry _) rfl ?_
      exact Frame.refl _ _

/-- Leaves pending, cfg as it was. -/
theorem frame_runWait : ∀ (c : Fin 5) (w : DWord) (s : State), Frame 2147481598 s (runWait c w s) := by
  intro c w s
  unfold runWait
  extract_lets x1
  clear_value x1
  refine Frame.ite ?_ ?_
  · refine Frame.step (frame_raise _ _ _ _ _ _ _) rfl ?_
    exact Frame.refl _ _
  · refine Frame.ite ?_ ?_
    · refine Frame.step (frame_raise _ _ _ _ _ _ _) rfl ?_
      exact Frame.refl _ _
    · refine Frame.step (frame_modCpu _ _ _) rfl ?_
      exact Frame.refl _ _

/-- Leaves pending, cfg as it was. -/
theorem frame_doWait : ∀ (c : Fin 5) (s : State), Frame 2147481598 s (doWait c s) := by
  intro c s
  unfold doWait
  refine frame_issue _ _ _ _ rfl ?_ ?_
  · exact Frame.refl _ _
  · intro x1 x2 x3
    refine Frame.step (frame_runWait _ _ _) rfl ?_
    assumption

/-- Changes at most time, pwr. -/
theorem frame_idleCycle : ∀ (s : State), Frame 537001984 s (idleCycle s) := by
  intro s
  unfold idleCycle
  split
  · exact Frame.refl _ _
  · refine Frame.step (frame_set_pwr _ _) rfl ?_
    exact Frame.refl _ _
  · refine Frame.step (frame_runCycles _ _) rfl ?_
    exact Frame.refl _ _

/-- Changes at most pending. -/
theorem frame_State_withFetchWord : ∀ (s : State) (nbits w : Nat), Frame 1 s (State.withFetchWord s nbits w) := by
  intro s nbits w
  unfold State.withFetchWord
  split
  · refine Frame.step (frame_set_pending _ _) rfl ?_
    exact Frame.refl _ _
  · exact Frame.refl _ _

end Sys2Proof.Machine
end

