-- ==== Sys2Proof/Laws/State.lean ====
section
/-! SUPPORT. What each update of the state leaves alone: one lemma for each operation that rewrites one part. -/

namespace Sys2Proof.Machine

/-- modAcc leaves every part of the state but `acc` as it was. -/
@[simp] theorem modAcc_keeps (f : AccBlk → AccBlk) (s : State) :
    (modAcc f s).pending = s.pending ∧ (modAcc f s).freeCount = s.freeCount ∧ (modAcc f s).reports = s.reports ∧
    (modAcc f s).rdata = s.rdata ∧ (modAcc f s).heads = s.heads ∧ (modAcc f s).latches = s.latches ∧
    (modAcc f s).held = s.held ∧ (modAcc f s).sys = s.sys ∧ (modAcc f s).evt = s.evt ∧
    (modAcc f s).tick = s.tick ∧ (modAcc f s).strct = s.strct ∧ (modAcc f s).cfg = s.cfg ∧
    (modAcc f s).hsw = s.hsw ∧ (modAcc f s).sol = s.sol ∧ (modAcc f s).led = s.led ∧ (modAcc f s).din = s.din ∧
    (modAcc f s).hurdle = s.hurdle ∧ (modAcc f s).time = s.time ∧ (modAcc f s).tally = s.tally ∧
    (modAcc f s).fab = s.fab ∧ (modAcc f s).core = s.core ∧ (modAcc f s).mem = s.mem ∧ (modAcc f s).que = s.que ∧
    (modAcc f s).dwin = s.dwin ∧ (modAcc f s).pert = s.pert ∧ (modAcc f s).key = s.key ∧
    (modAcc f s).mbus = s.mbus ∧ (modAcc f s).aud = s.aud ∧ (modAcc f s).pwr = s.pwr ∧ (modAcc f s).upd = s.upd :=
  ⟨rfl, rfl, rfl, rfl, rfl, rfl, rfl, rfl, rfl, rfl, rfl, rfl, rfl, rfl, rfl, rfl, rfl, rfl, rfl, rfl, rfl, rfl, rfl, rfl, rfl, rfl, rfl, rfl, rfl, rfl⟩

/-- modAcc rewrites `acc`. -/
@[simp] theorem modAcc_acc (f : AccBlk → AccBlk) (s : State) : (modAcc f s).acc = f s.acc := rfl

/-- modRd leaves every part of the state but `acc` as it was. -/
@[simp] theorem modRd_keeps (r : Fin 2) (f : Reader → Reader) (s : State) :
    (modRd r f s).pending = s.pending ∧ (modRd r f s).freeCount = s.freeCount ∧
    (modRd r f s).reports = s.reports ∧ (modRd r f s).rdata = s.rdata ∧ (modRd r f s).heads = s.heads ∧
    (modRd r f s).latches = s.latches ∧ (modRd r f s).held = s.held ∧ (modRd r f s).sys = s.sys ∧
    (modRd r f s).evt = s.evt ∧ (modRd r f s).tick = s.tick ∧ (modRd r f s).strct = s.strct ∧
    (modRd r f s).cfg = s.cfg ∧ (modRd r f s).hsw = s.hsw ∧ (modRd r f s).sol = s.sol ∧
    (modRd r f s).led = s.led ∧ (modRd r f s).din = s.din ∧ (modRd r f s).hurdle = s.hurdle ∧
    (modRd r f s).time = s.time ∧ (modRd r f s).tally = s.tally ∧ (modRd r f s).fab = s.fab ∧
    (modRd r f s).core = s.core ∧ (modRd r f s).mem = s.mem ∧ (modRd r f s).que = s.que ∧
    (modRd r f s).dwin = s.dwin ∧ (modRd r f s).pert = s.pert ∧ (modRd r f s).key = s.key ∧
    (modRd r f s).mbus = s.mbus ∧ (modRd r f s).aud = s.aud ∧ (modRd r f s).pwr = s.pwr ∧
    (modRd r f s).upd = s.upd :=
  ⟨rfl, rfl, rfl, rfl, rfl, rfl, rfl, rfl, rfl, rfl, rfl, rfl, rfl, rfl, rfl, rfl, rfl, rfl, rfl, rfl, rfl, rfl, rfl, rfl, rfl, rfl, rfl, rfl, rfl, rfl⟩

/-- modTok leaves every part of the state but `acc` as it was. -/
@[simp] theorem modTok_keeps (k : Fin 16) (f : TokenSlot → TokenSlot) (s : State) :
    (modTok k f s).pending = s.pending ∧ (modTok k f s).freeCount = s.freeCount ∧
    (modTok k f s).reports = s.reports ∧ (modTok k f s).rdata = s.rdata ∧ (modTok k f s).heads = s.heads ∧
    (modTok k f s).latches = s.latches ∧ (modTok k f s).held = s.held ∧ (modTok k f s).sys = s.sys ∧
    (modTok k f s).evt = s.evt ∧ (modTok k f s).tick = s.tick ∧ (modTok k f s).strct = s.strct ∧
    (modTok k f s).cfg = s.cfg ∧ (modTok k f s).hsw = s.hsw ∧ (modTok k f s).sol = s.sol ∧
    (modTok k f s).led = s.led ∧ (modTok k f s).din = s.din ∧ (modTok k f s).hurdle = s.hurdle ∧
    (modTok k f s).time = s.time ∧ (modTok k f s).tally = s.tally ∧ (modTok k f s).fab = s.fab ∧
    (modTok k f s).core = s.core ∧ (modTok k f s).mem = s.mem ∧ (modTok k f s).que = s.que ∧
    (modTok k f s).dwin = s.dwin ∧ (modTok k f s).pert = s.pert ∧ (modTok k f s).key = s.key ∧
    (modTok k f s).mbus = s.mbus ∧ (modTok k f s).aud = s.aud ∧ (modTok k f s).pwr = s.pwr ∧
    (modTok k f s).upd = s.upd :=
  ⟨rfl, rfl, rfl, rfl, rfl, rfl, rfl, rfl, rfl, rfl, rfl, rfl, rfl, rfl, rfl, rfl, rfl, rfl, rfl, rfl, rfl, rfl, rfl, rfl, rfl, rfl, rfl, rfl, rfl, rfl⟩

/-- modAud leaves every part of the state but `aud` as it was. -/
@[simp] theorem modAud_keeps (f : AudBlk → AudBlk) (s : State) :
    (modAud f s).pending = s.pending ∧ (modAud f s).freeCount = s.freeCount ∧ (modAud f s).reports = s.reports ∧
    (modAud f s).rdata = s.rdata ∧ (modAud f s).heads = s.heads ∧ (modAud f s).latches = s.latches ∧
    (modAud f s).held = s.held ∧ (modAud f s).sys = s.sys ∧ (modAud f s).evt = s.evt ∧
    (modAud f s).tick = s.tick ∧ (modAud f s).strct = s.strct ∧ (modAud f s).cfg = s.cfg ∧
    (modAud f s).hsw = s.hsw ∧ (modAud f s).sol = s.sol ∧ (modAud f s).led = s.led ∧ (modAud f s).din = s.din ∧
    (modAud f s).hurdle = s.hurdle ∧ (modAud f s).time = s.time ∧ (modAud f s).tally = s.tally ∧
    (modAud f s).fab = s.fab ∧ (modAud f s).core = s.core ∧ (modAud f s).mem = s.mem ∧ (modAud f s).que = s.que ∧
    (modAud f s).dwin = s.dwin ∧ (modAud f s).pert = s.pert ∧ (modAud f s).key = s.key ∧
    (modAud f s).mbus = s.mbus ∧ (modAud f s).acc = s.acc ∧ (modAud f s).pwr = s.pwr ∧ (modAud f s).upd = s.upd :=
  ⟨rfl, rfl, rfl, rfl, rfl, rfl, rfl, rfl, rfl, rfl, rfl, rfl, rfl, rfl, rfl, rfl, rfl, rfl, rfl, rfl, rfl, rfl, rfl, rfl, rfl, rfl, rfl, rfl, rfl, rfl⟩

/-- modAud rewrites `aud`. -/
@[simp] theorem modAud_aud (f : AudBlk → AudBlk) (s : State) : (modAud f s).aud = f s.aud := rfl

/-- modCh leaves every part of the state but `mbus` as it was. -/
@[simp] theorem modCh_keeps (k : Fin 6) (f : MbusChan → MbusChan) (s : State) :
    (modCh k f s).pending = s.pending ∧ (modCh k f s).freeCount = s.freeCount ∧
    (modCh k f s).reports = s.reports ∧ (modCh k f s).rdata = s.rdata ∧ (modCh k f s).heads = s.heads ∧
    (modCh k f s).latches = s.latches ∧ (modCh k f s).held = s.held ∧ (modCh k f s).sys = s.sys ∧
    (modCh k f s).evt = s.evt ∧ (modCh k f s).tick = s.tick ∧ (modCh k f s).strct = s.strct ∧
    (modCh k f s).cfg = s.cfg ∧ (modCh k f s).hsw = s.hsw ∧ (modCh k f s).sol = s.sol ∧
    (modCh k f s).led = s.led ∧ (modCh k f s).din = s.din ∧ (modCh k f s).hurdle = s.hurdle ∧
    (modCh k f s).time = s.time ∧ (modCh k f s).tally = s.tally ∧ (modCh k f s).fab = s.fab ∧
    (modCh k f s).core = s.core ∧ (modCh k f s).mem = s.mem ∧ (modCh k f s).que = s.que ∧
    (modCh k f s).dwin = s.dwin ∧ (modCh k f s).pert = s.pert ∧ (modCh k f s).key = s.key ∧
    (modCh k f s).aud = s.aud ∧ (modCh k f s).acc = s.acc ∧ (modCh k f s).pwr = s.pwr ∧
    (modCh k f s).upd = s.upd :=
  ⟨rfl, rfl, rfl, rfl, rfl, rfl, rfl, rfl, rfl, rfl, rfl, rfl, rfl, rfl, rfl, rfl, rfl, rfl, rfl, rfl, rfl, rfl, rfl, rfl, rfl, rfl, rfl, rfl, rfl, rfl⟩

/-- modCore leaves every part of the state but `core` as it was. -/
@[simp] theorem modCore_keeps (f : CoreBlk → CoreBlk) (s : State) :
    (modCore f s).pending = s.pending ∧ (modCore f s).freeCount = s.freeCount ∧
    (modCore f s).reports = s.reports ∧ (modCore f s).rdata = s.rdata ∧ (modCore f s).heads = s.heads ∧
    (modCore f s).latches = s.latches ∧ (modCore f s).held = s.held ∧ (modCore f s).sys = s.sys ∧
    (modCore f s).evt = s.evt ∧ (modCore f s).tick = s.tick ∧ (modCore f s).strct = s.strct ∧
    (modCore f s).cfg = s.cfg ∧ (modCore f s).hsw = s.hsw ∧ (modCore f s).sol = s.sol ∧
    (modCore f s).led = s.led ∧ (modCore f s).din = s.din ∧ (modCore f s).hurdle = s.hurdle ∧
    (modCore f s).time = s.time ∧ (modCore f s).tally = s.tally ∧ (modCore f s).fab = s.fab ∧
    (modCore f s).mem = s.mem ∧ (modCore f s).que = s.que ∧ (modCore f s).dwin = s.dwin ∧
    (modCore f s).pert = s.pert ∧ (modCore f s).key = s.key ∧ (modCore f s).mbus = s.mbus ∧
    (modCore f s).aud = s.aud ∧ (modCore f s).acc = s.acc ∧ (modCore f s).pwr = s.pwr ∧
    (modCore f s).upd = s.upd :=
  ⟨rfl, rfl, rfl, rfl, rfl, rfl, rfl, rfl, rfl, rfl, rfl, rfl, rfl, rfl, rfl, rfl, rfl, rfl, rfl, rfl, rfl, rfl, rfl, rfl, rfl, rfl, rfl, rfl, rfl, rfl⟩

/-- modCore rewrites `core`. -/
@[simp] theorem modCore_core (f : CoreBlk → CoreBlk) (s : State) : (modCore f s).core = f s.core := rfl

/-- modCpu leaves every part of the state but `core` as it was. -/
@[simp] theorem modCpu_keeps (c : Fin 5) (f : Cpu → Cpu) (s : State) :
    (modCpu c f s).pending = s.pending ∧ (modCpu c f s).freeCount = s.freeCount ∧
    (modCpu c f s).reports = s.reports ∧ (modCpu c f s).rdata = s.rdata ∧ (modCpu c f s).heads = s.heads ∧
    (modCpu c f s).latches = s.latches ∧ (modCpu c f s).held = s.held ∧ (modCpu c f s).sys = s.sys ∧
    (modCpu c f s).evt = s.evt ∧ (modCpu c f s).tick = s.tick ∧ (modCpu c f s).strct = s.strct ∧
    (modCpu c f s).cfg = s.cfg ∧ (modCpu c f s).hsw = s.hsw ∧ (modCpu c f s).sol = s.sol ∧
    (modCpu c f s).led = s.led ∧ (modCpu c f s).din = s.din ∧ (modCpu c f s).hurdle = s.hurdle ∧
    (modCpu c f s).time = s.time ∧ (modCpu c f s).tally = s.tally ∧ (modCpu c f s).fab = s.fab ∧
    (modCpu c f s).mem = s.mem ∧ (modCpu c f s).que = s.que ∧ (modCpu c f s).dwin = s.dwin ∧
    (modCpu c f s).pert = s.pert ∧ (modCpu c f s).key = s.key ∧ (modCpu c f s).mbus = s.mbus ∧
    (modCpu c f s).aud = s.aud ∧ (modCpu c f s).acc = s.acc ∧ (modCpu c f s).pwr = s.pwr ∧
    (modCpu c f s).upd = s.upd :=
  ⟨rfl, rfl, rfl, rfl, rfl, rfl, rfl, rfl, rfl, rfl, rfl, rfl, rfl, rfl, rfl, rfl, rfl, rfl, rfl, rfl, rfl, rfl, rfl, rfl, rfl, rfl, rfl, rfl, rfl, rfl⟩

/-- modSet leaves every part of the state but `core` as it was. -/
@[simp] theorem modSet_keeps (c : Fin 5) (keeper : Bool) (f : LevelSet → LevelSet) (s : State) :
    (modSet c keeper f s).pending = s.pending ∧ (modSet c keeper f s).freeCount = s.freeCount ∧
    (modSet c keeper f s).reports = s.reports ∧ (modSet c keeper f s).rdata = s.rdata ∧
    (modSet c keeper f s).heads = s.heads ∧ (modSet c keeper f s).latches = s.latches ∧
    (modSet c keeper f s).held = s.held ∧ (modSet c keeper f s).sys = s.sys ∧ (modSet c keeper f s).evt = s.evt ∧
    (modSet c keeper f s).tick = s.tick ∧ (modSet c keeper f s).strct = s.strct ∧
    (modSet c keeper f s).cfg = s.cfg ∧ (modSet c keeper f s).hsw = s.hsw ∧ (modSet c keeper f s).sol = s.sol ∧
    (modSet c keeper f s).led = s.led ∧ (modSet c keeper f s).din = s.din ∧
    (modSet c keeper f s).hurdle = s.hurdle ∧ (modSet c keeper f s).time = s.time ∧
    (modSet c keeper f s).tally = s.tally ∧ (modSet c keeper f s).fab = s.fab ∧
    (modSet c keeper f s).mem = s.mem ∧ (modSet c keeper f s).que = s.que ∧ (modSet c keeper f s).dwin = s.dwin ∧
    (modSet c keeper f s).pert = s.pert ∧ (modSet c keeper f s).key = s.key ∧
    (modSet c keeper f s).mbus = s.mbus ∧ (modSet c keeper f s).aud = s.aud ∧ (modSet c keeper f s).acc = s.acc ∧
    (modSet c keeper f s).pwr = s.pwr ∧ (modSet c keeper f s).upd = s.upd :=
  ⟨rfl, rfl, rfl, rfl, rfl, rfl, rfl, rfl, rfl, rfl, rfl, rfl, rfl, rfl, rfl, rfl, rfl, rfl, rfl, rfl, rfl, rfl, rfl, rfl, rfl, rfl, rfl, rfl, rfl, rfl⟩

/-- modFab leaves every part of the state but `fab` as it was. -/
@[simp] theorem modFab_keeps (f : FabBlk → FabBlk) (s : State) :
    (modFab f s).pending = s.pending ∧ (modFab f s).freeCount = s.freeCount ∧ (modFab f s).reports = s.reports ∧
    (modFab f s).rdata = s.rdata ∧ (modFab f s).heads = s.heads ∧ (modFab f s).latches = s.latches ∧
    (modFab f s).held = s.held ∧ (modFab f s).sys = s.sys ∧ (modFab f s).evt = s.evt ∧
    (modFab f s).tick = s.tick ∧ (modFab f s).strct = s.strct ∧ (modFab f s).cfg = s.cfg ∧
    (modFab f s).hsw = s.hsw ∧ (modFab f s).sol = s.sol ∧ (modFab f s).led = s.led ∧ (modFab f s).din = s.din ∧
    (modFab f s).hurdle = s.hurdle ∧ (modFab f s).time = s.time ∧ (modFab f s).tally = s.tally ∧
    (modFab f s).core = s.core ∧ (modFab f s).mem = s.mem ∧ (modFab f s).que = s.que ∧
    (modFab f s).dwin = s.dwin ∧ (modFab f s).pert = s.pert ∧ (modFab f s).key = s.key ∧
    (modFab f s).mbus = s.mbus ∧ (modFab f s).aud = s.aud ∧ (modFab f s).acc = s.acc ∧ (modFab f s).pwr = s.pwr ∧
    (modFab f s).upd = s.upd :=
  ⟨rfl, rfl, rfl, rfl, rfl, rfl, rfl, rfl, rfl, rfl, rfl, rfl, rfl, rfl, rfl, rfl, rfl, rfl, rfl, rfl, rfl, rfl, rfl, rfl, rfl, rfl, rfl, rfl, rfl, rfl⟩

/-- modFab rewrites `fab`. -/
@[simp] theorem modFab_fab (f : FabBlk → FabBlk) (s : State) : (modFab f s).fab = f s.fab := rfl

/-- modPort leaves every part of the state but `fab` as it was. -/
@[simp] theorem modPort_keeps (p : Fin 2) (f : PortState → PortState) (s : State) :
    (modPort p f s).pending = s.pending ∧ (modPort p f s).freeCount = s.freeCount ∧
    (modPort p f s).reports = s.reports ∧ (modPort p f s).rdata = s.rdata ∧ (modPort p f s).heads = s.heads ∧
    (modPort p f s).latches = s.latches ∧ (modPort p f s).held = s.held ∧ (modPort p f s).sys = s.sys ∧
    (modPort p f s).evt = s.evt ∧ (modPort p f s).tick = s.tick ∧ (modPort p f s).strct = s.strct ∧
    (modPort p f s).cfg = s.cfg ∧ (modPort p f s).hsw = s.hsw ∧ (modPort p f s).sol = s.sol ∧
    (modPort p f s).led = s.led ∧ (modPort p f s).din = s.din ∧ (modPort p f s).hurdle = s.hurdle ∧
    (modPort p f s).time = s.time ∧ (modPort p f s).tally = s.tally ∧ (modPort p f s).core = s.core ∧
    (modPort p f s).mem = s.mem ∧ (modPort p f s).que = s.que ∧ (modPort p f s).dwin = s.dwin ∧
    (modPort p f s).pert = s.pert ∧ (modPort p f s).key = s.key ∧ (modPort p f s).mbus = s.mbus ∧
    (modPort p f s).aud = s.aud ∧ (modPort p f s).acc = s.acc ∧ (modPort p f s).pwr = s.pwr ∧
    (modPort p f s).upd = s.upd :=
  ⟨rfl, rfl, rfl, rfl, rfl, rfl, rfl, rfl, rfl, rfl, rfl, rfl, rfl, rfl, rfl, rfl, rfl, rfl, rfl, rfl, rfl, rfl, rfl, rfl, rfl, rfl, rfl, rfl, rfl, rfl⟩

/-- modRa leaves every part of the state but `fab` as it was. -/
@[simp] theorem modRa_keeps (c : Fin 4) (f : RaChan → RaChan) (s : State) :
    (modRa c f s).pending = s.pending ∧ (modRa c f s).freeCount = s.freeCount ∧
    (modRa c f s).reports = s.reports ∧ (modRa c f s).rdata = s.rdata ∧ (modRa c f s).heads = s.heads ∧
    (modRa c f s).latches = s.latches ∧ (modRa c f s).held = s.held ∧ (modRa c f s).sys = s.sys ∧
    (modRa c f s).evt = s.evt ∧ (modRa c f s).tick = s.tick ∧ (modRa c f s).strct = s.strct ∧
    (modRa c f s).cfg = s.cfg ∧ (modRa c f s).hsw = s.hsw ∧ (modRa c f s).sol = s.sol ∧
    (modRa c f s).led = s.led ∧ (modRa c f s).din = s.din ∧ (modRa c f s).hurdle = s.hurdle ∧
    (modRa c f s).time = s.time ∧ (modRa c f s).tally = s.tally ∧ (modRa c f s).core = s.core ∧
    (modRa c f s).mem = s.mem ∧ (modRa c f s).que = s.que ∧ (modRa c f s).dwin = s.dwin ∧
    (modRa c f s).pert = s.pert ∧ (modRa c f s).key = s.key ∧ (modRa c f s).mbus = s.mbus ∧
    (modRa c f s).aud = s.aud ∧ (modRa c f s).acc = s.acc ∧ (modRa c f s).pwr = s.pwr ∧
    (modRa c f s).upd = s.upd :=
  ⟨rfl, rfl, rfl, rfl, rfl, rfl, rfl, rfl, rfl, rfl, rfl, rfl, rfl, rfl, rfl, rfl, rfl, rfl, rfl, rfl, rfl, rfl, rfl, rfl, rfl, rfl, rfl, rfl, rfl, rfl⟩

/-- modRun leaves every part of the state but `fab` as it was. -/
@[simp] theorem modRun_keeps (f : MusterRun → MusterRun) (s : State) :
    (modRun f s).pending = s.pending ∧ (modRun f s).freeCount = s.freeCount ∧ (modRun f s).reports = s.reports ∧
    (modRun f s).rdata = s.rdata ∧ (modRun f s).heads = s.heads ∧ (modRun f s).latches = s.latches ∧
    (modRun f s).held = s.held ∧ (modRun f s).sys = s.sys ∧ (modRun f s).evt = s.evt ∧
    (modRun f s).tick = s.tick ∧ (modRun f s).strct = s.strct ∧ (modRun f s).cfg = s.cfg ∧
    (modRun f s).hsw = s.hsw ∧ (modRun f s).sol = s.sol ∧ (modRun f s).led = s.led ∧ (modRun f s).din = s.din ∧
    (modRun f s).hurdle = s.hurdle ∧ (modRun f s).time = s.time ∧ (modRun f s).tally = s.tally ∧
    (modRun f s).core = s.core ∧ (modRun f s).mem = s.mem ∧ (modRun f s).que = s.que ∧
    (modRun f s).dwin = s.dwin ∧ (modRun f s).pert = s.pert ∧ (modRun f s).key = s.key ∧
    (modRun f s).mbus = s.mbus ∧ (modRun f s).aud = s.aud ∧ (modRun f s).acc = s.acc ∧ (modRun f s).pwr = s.pwr ∧
    (modRun f s).upd = s.upd :=
  ⟨rfl, rfl, rfl, rfl, rfl, rfl, rfl, rfl, rfl, rfl, rfl, rfl, rfl, rfl, rfl, rfl, rfl, rfl, rfl, rfl, rfl, rfl, rfl, rfl, rfl, rfl, rfl, rfl, rfl, rfl⟩

/-- modDi leaves every part of the state but `din` as it was. -/
@[simp] theorem modDi_keeps (k : Fin 128) (f : DiState → DiState) (s : State) :
    (modDi k f s).pending = s.pending ∧ (modDi k f s).freeCount = s.freeCount ∧
    (modDi k f s).reports = s.reports ∧ (modDi k f s).rdata = s.rdata ∧ (modDi k f s).heads = s.heads ∧
    (modDi k f s).latches = s.latches ∧ (modDi k f s).held = s.held ∧ (modDi k f s).sys = s.sys ∧
    (modDi k f s).evt = s.evt ∧ (modDi k f s).tick = s.tick ∧ (modDi k f s).strct = s.strct ∧
    (modDi k f s).cfg = s.cfg ∧ (modDi k f s).hsw = s.hsw ∧ (modDi k f s).sol = s.sol ∧
    (modDi k f s).led = s.led ∧ (modDi k f s).hurdle = s.hurdle ∧ (modDi k f s).time = s.time ∧
    (modDi k f s).tally = s.tally ∧ (modDi k f s).fab = s.fab ∧ (modDi k f s).core = s.core ∧
    (modDi k f s).mem = s.mem ∧ (modDi k f s).que = s.que ∧ (modDi k f s).dwin = s.dwin ∧
    (modDi k f s).pert = s.pert ∧ (modDi k f s).key = s.key ∧ (modDi k f s).mbus = s.mbus ∧
    (modDi k f s).aud = s.aud ∧ (modDi k f s).acc = s.acc ∧ (modDi k f s).pwr = s.pwr ∧
    (modDi k f s).upd = s.upd :=
  ⟨rfl, rfl, rfl, rfl, rfl, rfl, rfl, rfl, rfl, rfl, rfl, rfl, rfl, rfl, rfl, rfl, rfl, rfl, rfl, rfl, rfl, rfl, rfl, rfl, rfl, rfl, rfl, rfl, rfl, rfl⟩

/-- modHsIn leaves every part of the state but `hsw` as it was. -/
@[simp] theorem modHsIn_keeps (k : Fin 96) (f : DiState → DiState) (s : State) :
    (modHsIn k f s).pending = s.pending ∧ (modHsIn k f s).freeCount = s.freeCount ∧
    (modHsIn k f s).reports = s.reports ∧ (modHsIn k f s).rdata = s.rdata ∧ (modHsIn k f s).heads = s.heads ∧
    (modHsIn k f s).latches = s.latches ∧ (modHsIn k f s).held = s.held ∧ (modHsIn k f s).sys = s.sys ∧
    (modHsIn k f s).evt = s.evt ∧ (modHsIn k f s).tick = s.tick ∧ (modHsIn k f s).strct = s.strct ∧
    (modHsIn k f s).cfg = s.cfg ∧ (modHsIn k f s).sol = s.sol ∧ (modHsIn k f s).led = s.led ∧
    (modHsIn k f s).din = s.din ∧ (modHsIn k f s).hurdle = s.hurdle ∧ (modHsIn k f s).time = s.time ∧
    (modHsIn k f s).tally = s.tally ∧ (modHsIn k f s).fab = s.fab ∧ (modHsIn k f s).core = s.core ∧
    (modHsIn k f s).mem = s.mem ∧ (modHsIn k f s).que = s.que ∧ (modHsIn k f s).dwin = s.dwin ∧
    (modHsIn k f s).pert = s.pert ∧ (modHsIn k f s).key = s.key ∧ (modHsIn k f s).mbus = s.mbus ∧
    (modHsIn k f s).aud = s.aud ∧ (modHsIn k f s).acc = s.acc ∧ (modHsIn k f s).pwr = s.pwr ∧
    (modHsIn k f s).upd = s.upd :=
  ⟨rfl, rfl, rfl, rfl, rfl, rfl, rfl, rfl, rfl, rfl, rfl, rfl, rfl, rfl, rfl, rfl, rfl, rfl, rfl, rfl, rfl, rfl, rfl, rfl, rfl, rfl, rfl, rfl, rfl, rfl⟩

/-- modKey leaves every part of the state but `key` as it was. -/
@[simp] theorem modKey_keeps (f : KeyBlk → KeyBlk) (s : State) :
    (modKey f s).pending = s.pending ∧ (modKey f s).freeCount = s.freeCount ∧ (modKey f s).reports = s.reports ∧
    (modKey f s).rdata = s.rdata ∧ (modKey f s).heads = s.heads ∧ (modKey f s).latches = s.latches ∧
    (modKey f s).held = s.held ∧ (modKey f s).sys = s.sys ∧ (modKey f s).evt = s.evt ∧
    (modKey f s).tick = s.tick ∧ (modKey f s).strct = s.strct ∧ (modKey f s).cfg = s.cfg ∧
    (modKey f s).hsw = s.hsw ∧ (modKey f s).sol = s.sol ∧ (modKey f s).led = s.led ∧ (modKey f s).din = s.din ∧
    (modKey f s).hurdle = s.hurdle ∧ (modKey f s).time = s.time ∧ (modKey f s).tally = s.tally ∧
    (modKey f s).fab = s.fab ∧ (modKey f s).core = s.core ∧ (modKey f s).mem = s.mem ∧ (modKey f s).que = s.que ∧
    (modKey f s).dwin = s.dwin ∧ (modKey f s).pert = s.pert ∧ (modKey f s).mbus = s.mbus ∧
    (modKey f s).aud = s.aud ∧ (modKey f s).acc = s.acc ∧ (modKey f s).pwr = s.pwr ∧ (modKey f s).upd = s.upd :=
  ⟨rfl, rfl, rfl, rfl, rfl, rfl, rfl, rfl, rfl, rfl, rfl, rfl, rfl, rfl, rfl, rfl, rfl, rfl, rfl, rfl, rfl, rfl, rfl, rfl, rfl, rfl, rfl, rfl, rfl, rfl⟩

/-- modKey rewrites `key`. -/
@[simp] theorem modKey_key (f : KeyBlk → KeyBlk) (s : State) : (modKey f s).key = f s.key := rfl

/-- modSlot leaves every part of the state but `key` as it was. -/
@[simp] theorem modSlot_keeps (k : Nat) (f : KeySlot → KeySlot) (s : State) :
    (modSlot k f s).pending = s.pending ∧ (modSlot k f s).freeCount = s.freeCount ∧
    (modSlot k f s).reports = s.reports ∧ (modSlot k f s).rdata = s.rdata ∧ (modSlot k f s).heads = s.heads ∧
    (modSlot k f s).latches = s.latches ∧ (modSlot k f s).held = s.held ∧ (modSlot k f s).sys = s.sys ∧
    (modSlot k f s).evt = s.evt ∧ (modSlot k f s).tick = s.tick ∧ (modSlot k f s).strct = s.strct ∧
    (modSlot k f s).cfg = s.cfg ∧ (modSlot k f s).hsw = s.hsw ∧ (modSlot k f s).sol = s.sol ∧
    (modSlot k f s).led = s.led ∧ (modSlot k f s).din = s.din ∧ (modSlot k f s).hurdle = s.hurdle ∧
    (modSlot k f s).time = s.time ∧ (modSlot k f s).tally = s.tally ∧ (modSlot k f s).fab = s.fab ∧
    (modSlot k f s).core = s.core ∧ (modSlot k f s).mem = s.mem ∧ (modSlot k f s).que = s.que ∧
    (modSlot k f s).dwin = s.dwin ∧ (modSlot k f s).pert = s.pert ∧ (modSlot k f s).mbus = s.mbus ∧
    (modSlot k f s).aud = s.aud ∧ (modSlot k f s).acc = s.acc ∧ (modSlot k f s).pwr = s.pwr ∧
    (modSlot k f s).upd = s.upd :=
  ⟨rfl, rfl, rfl, rfl, rfl, rfl, rfl, rfl, rfl, rfl, rfl, rfl, rfl, rfl, rfl, rfl, rfl, rfl, rfl, rfl, rfl, rfl, rfl, rfl, rfl, rfl, rfl, rfl, rfl, rfl⟩

/-- modPos leaves every part of the state but `led` as it was. -/
@[simp] theorem modPos_keeps (k : Fin 128) (f : LampState → LampState) (s : State) :
    (modPos k f s).pending = s.pending ∧ (modPos k f s).freeCount = s.freeCount ∧
    (modPos k f s).reports = s.reports ∧ (modPos k f s).rdata = s.rdata ∧ (modPos k f s).heads = s.heads ∧
    (modPos k f s).latches = s.latches ∧ (modPos k f s).held = s.held ∧ (modPos k f s).sys = s.sys ∧
    (modPos k f s).evt = s.evt ∧ (modPos k f s).tick = s.tick ∧ (modPos k f s).strct = s.strct ∧
    (modPos k f s).cfg = s.cfg ∧ (modPos k f s).hsw = s.hsw ∧ (modPos k f s).sol = s.sol ∧
    (modPos k f s).din = s.din ∧ (modPos k f s).hurdle = s.hurdle ∧ (modPos k f s).time = s.time ∧
    (modPos k f s).tally = s.tally ∧ (modPos k f s).fab = s.fab ∧ (modPos k f s).core = s.core ∧
    (modPos k f s).mem = s.mem ∧ (modPos k f s).que = s.que ∧ (modPos k f s).dwin = s.dwin ∧
    (modPos k f s).pert = s.pert ∧ (modPos k f s).key = s.key ∧ (modPos k f s).mbus = s.mbus ∧
    (modPos k f s).aud = s.aud ∧ (modPos k f s).acc = s.acc ∧ (modPos k f s).pwr = s.pwr ∧
    (modPos k f s).upd = s.upd :=
  ⟨rfl, rfl, rfl, rfl, rfl, rfl, rfl, rfl, rfl, rfl, rfl, rfl, rfl, rfl, rfl, rfl, rfl, rfl, rfl, rfl, rfl, rfl, rfl, rfl, rfl, rfl, rfl, rfl, rfl, rfl⟩

/-- modStr leaves every part of the state but `led` as it was. -/
@[simp] theorem modStr_keeps (k : Fin 8) (f : StringState → StringState) (s : State) :
    (modStr k f s).pending = s.pending ∧ (modStr k f s).freeCount = s.freeCount ∧
    (modStr k f s).reports = s.reports ∧ (modStr k f s).rdata = s.rdata ∧ (modStr k f s).heads = s.heads ∧
    (modStr k f s).latches = s.latches ∧ (modStr k f s).held = s.held ∧ (modStr k f s).sys = s.sys ∧
    (modStr k f s).evt = s.evt ∧ (modStr k f s).tick = s.tick ∧ (modStr k f s).strct = s.strct ∧
    (modStr k f s).cfg = s.cfg ∧ (modStr k f s).hsw = s.hsw ∧ (modStr k f s).sol = s.sol ∧
    (modStr k f s).din = s.din ∧ (modStr k f s).hurdle = s.hurdle ∧ (modStr k f s).time = s.time ∧
    (modStr k f s).tally = s.tally ∧ (modStr k f s).fab = s.fab ∧ (modStr k f s).core = s.core ∧
    (modStr k f s).mem = s.mem ∧ (modStr k f s).que = s.que ∧ (modStr k f s).dwin = s.dwin ∧
    (modStr k f s).pert = s.pert ∧ (modStr k f s).key = s.key ∧ (modStr k f s).mbus = s.mbus ∧
    (modStr k f s).aud = s.aud ∧ (modStr k f s).acc = s.acc ∧ (modStr k f s).pwr = s.pwr ∧
    (modStr k f s).upd = s.upd :=
  ⟨rfl, rfl, rfl, rfl, rfl, rfl, rfl, rfl, rfl, rfl, rfl, rfl, rfl, rfl, rfl, rfl, rfl, rfl, rfl, rfl, rfl, rfl, rfl, rfl, rfl, rfl, rfl, rfl, rfl, rfl⟩

/-- modChain leaves every part of the state but `led` as it was. -/
@[simp] theorem modChain_keeps (l : Fin 4) (f : ChainState → ChainState) (s : State) :
    (modChain l f s).pending = s.pending ∧ (modChain l f s).freeCount = s.freeCount ∧
    (modChain l f s).reports = s.reports ∧ (modChain l f s).rdata = s.rdata ∧ (modChain l f s).heads = s.heads ∧
    (modChain l f s).latches = s.latches ∧ (modChain l f s).held = s.held ∧ (modChain l f s).sys = s.sys ∧
    (modChain l f s).evt = s.evt ∧ (modChain l f s).tick = s.tick ∧ (modChain l f s).strct = s.strct ∧
    (modChain l f s).cfg = s.cfg ∧ (modChain l f s).hsw = s.hsw ∧ (modChain l f s).sol = s.sol ∧
    (modChain l f s).din = s.din ∧ (modChain l f s).hurdle = s.hurdle ∧ (modChain l f s).time = s.time ∧
    (modChain l f s).tally = s.tally ∧ (modChain l f s).fab = s.fab ∧ (modChain l f s).core = s.core ∧
    (modChain l f s).mem = s.mem ∧ (modChain l f s).que = s.que ∧ (modChain l f s).dwin = s.dwin ∧
    (modChain l f s).pert = s.pert ∧ (modChain l f s).key = s.key ∧ (modChain l f s).mbus = s.mbus ∧
    (modChain l f s).aud = s.aud ∧ (modChain l f s).acc = s.acc ∧ (modChain l f s).pwr = s.pwr ∧
    (modChain l f s).upd = s.upd :=
  ⟨rfl, rfl, rfl, rfl, rfl, rfl, rfl, rfl, rfl, rfl, rfl, rfl, rfl, rfl, rfl, rfl, rfl, rfl, rfl, rfl, rfl, rfl, rfl, rfl, rfl, rfl, rfl, rfl, rfl, rfl⟩

/-- modMem leaves every part of the state but `mem` as it was. -/
@[simp] theorem modMem_keeps (f : MemBlk → MemBlk) (s : State) :
    (modMem f s).pending = s.pending ∧ (modMem f s).freeCount = s.freeCount ∧ (modMem f s).reports = s.reports ∧
    (modMem f s).rdata = s.rdata ∧ (modMem f s).heads = s.heads ∧ (modMem f s).latches = s.latches ∧
    (modMem f s).held = s.held ∧ (modMem f s).sys = s.sys ∧ (modMem f s).evt = s.evt ∧
    (modMem f s).tick = s.tick ∧ (modMem f s).strct = s.strct ∧ (modMem f s).cfg = s.cfg ∧
    (modMem f s).hsw = s.hsw ∧ (modMem f s).sol = s.sol ∧ (modMem f s).led = s.led ∧ (modMem f s).din = s.din ∧
    (modMem f s).hurdle = s.hurdle ∧ (modMem f s).time = s.time ∧ (modMem f s).tally = s.tally ∧
    (modMem f s).fab = s.fab ∧ (modMem f s).core = s.core ∧ (modMem f s).que = s.que ∧
    (modMem f s).dwin = s.dwin ∧ (modMem f s).pert = s.pert ∧ (modMem f s).key = s.key ∧
    (modMem f s).mbus = s.mbus ∧ (modMem f s).aud = s.aud ∧ (modMem f s).acc = s.acc ∧ (modMem f s).pwr = s.pwr ∧
    (modMem f s).upd = s.upd :=
  ⟨rfl, rfl, rfl, rfl, rfl, rfl, rfl, rfl, rfl, rfl, rfl, rfl, rfl, rfl, rfl, rfl, rfl, rfl, rfl, rfl, rfl, rfl, rfl, rfl, rfl, rfl, rfl, rfl, rfl, rfl⟩

/-- modMem rewrites `mem`. -/
@[simp] theorem modMem_mem (f : MemBlk → MemBlk) (s : State) : (modMem f s).mem = f s.mem := rfl

/-- modBank leaves every part of the state but `mem` as it was. -/
@[simp] theorem modBank_keeps (b : Nat) (f : BankState → BankState) (s : State) :
    (modBank b f s).pending = s.pending ∧ (modBank b f s).freeCount = s.freeCount ∧
    (modBank b f s).reports = s.reports ∧ (modBank b f s).rdata = s.rdata ∧ (modBank b f s).heads = s.heads ∧
    (modBank b f s).latches = s.latches ∧ (modBank b f s).held = s.held ∧ (modBank b f s).sys = s.sys ∧
    (modBank b f s).evt = s.evt ∧ (modBank b f s).tick = s.tick ∧ (modBank b f s).strct = s.strct ∧
    (modBank b f s).cfg = s.cfg ∧ (modBank b f s).hsw = s.hsw ∧ (modBank b f s).sol = s.sol ∧
    (modBank b f s).led = s.led ∧ (modBank b f s).din = s.din ∧ (modBank b f s).hurdle = s.hurdle ∧
    (modBank b f s).time = s.time ∧ (modBank b f s).tally = s.tally ∧ (modBank b f s).fab = s.fab ∧
    (modBank b f s).core = s.core ∧ (modBank b f s).que = s.que ∧ (modBank b f s).dwin = s.dwin ∧
    (modBank b f s).pert = s.pert ∧ (modBank b f s).key = s.key ∧ (modBank b f s).mbus = s.mbus ∧
    (modBank b f s).aud = s.aud ∧ (modBank b f s).acc = s.acc ∧ (modBank b f s).pwr = s.pwr ∧
    (modBank b f s).upd = s.upd :=
  ⟨rfl, rfl, rfl, rfl, rfl, rfl, rfl, rfl, rfl, rfl, rfl, rfl, rfl, rfl, rfl, rfl, rfl, rfl, rfl, rfl, rfl, rfl, rfl, rfl, rfl, rfl, rfl, rfl, rfl, rfl⟩

/-- modHead leaves every part of the state but `heads` as it was. -/
@[simp] theorem modHead_keeps (b : Block) (f : Head → Head) (s : State) :
    (modHead b f s).pending = s.pending ∧ (modHead b f s).freeCount = s.freeCount ∧
    (modHead b f s).reports = s.reports ∧ (modHead b f s).rdata = s.rdata ∧ (modHead b f s).latches = s.latches ∧
    (modHead b f s).held = s.held ∧ (modHead b f s).sys = s.sys ∧ (modHead b f s).evt = s.evt ∧
    (modHead b f s).tick = s.tick ∧ (modHead b f s).strct = s.strct ∧ (modHead b f s).cfg = s.cfg ∧
    (modHead b f s).hsw = s.hsw ∧ (modHead b f s).sol = s.sol ∧ (modHead b f s).led = s.led ∧
    (modHead b f s).din = s.din ∧ (modHead b f s).hurdle = s.hurdle ∧ (modHead b f s).time = s.time ∧
    (modHead b f s).tally = s.tally ∧ (modHead b f s).fab = s.fab ∧ (modHead b f s).core = s.core ∧
    (modHead b f s).mem = s.mem ∧ (modHead b f s).que = s.que ∧ (modHead b f s).dwin = s.dwin ∧
    (modHead b f s).pert = s.pert ∧ (modHead b f s).key = s.key ∧ (modHead b f s).mbus = s.mbus ∧
    (modHead b f s).aud = s.aud ∧ (modHead b f s).acc = s.acc ∧ (modHead b f s).pwr = s.pwr ∧
    (modHead b f s).upd = s.upd :=
  ⟨rfl, rfl, rfl, rfl, rfl, rfl, rfl, rfl, rfl, rfl, rfl, rfl, rfl, rfl, rfl, rfl, rfl, rfl, rfl, rfl, rfl, rfl, rfl, rfl, rfl, rfl, rfl, rfl, rfl, rfl⟩

/-- modPert leaves every part of the state but `pert` as it was. -/
@[simp] theorem modPert_keeps (f : PertBlk → PertBlk) (s : State) :
    (modPert f s).pending = s.pending ∧ (modPert f s).freeCount = s.freeCount ∧
    (modPert f s).reports = s.reports ∧ (modPert f s).rdata = s.rdata ∧ (modPert f s).heads = s.heads ∧
    (modPert f s).latches = s.latches ∧ (modPert f s).held = s.held ∧ (modPert f s).sys = s.sys ∧
    (modPert f s).evt = s.evt ∧ (modPert f s).tick = s.tick ∧ (modPert f s).strct = s.strct ∧
    (modPert f s).cfg = s.cfg ∧ (modPert f s).hsw = s.hsw ∧ (modPert f s).sol = s.sol ∧
    (modPert f s).led = s.led ∧ (modPert f s).din = s.din ∧ (modPert f s).hurdle = s.hurdle ∧
    (modPert f s).time = s.time ∧ (modPert f s).tally = s.tally ∧ (modPert f s).fab = s.fab ∧
    (modPert f s).core = s.core ∧ (modPert f s).mem = s.mem ∧ (modPert f s).que = s.que ∧
    (modPert f s).dwin = s.dwin ∧ (modPert f s).key = s.key ∧ (modPert f s).mbus = s.mbus ∧
    (modPert f s).aud = s.aud ∧ (modPert f s).acc = s.acc ∧ (modPert f s).pwr = s.pwr ∧
    (modPert f s).upd = s.upd :=
  ⟨rfl, rfl, rfl, rfl, rfl, rfl, rfl, rfl, rfl, rfl, rfl, rfl, rfl, rfl, rfl, rfl, rfl, rfl, rfl, rfl, rfl, rfl, rfl, rfl, rfl, rfl, rfl, rfl, rfl, rfl⟩

/-- modPert rewrites `pert`. -/
@[simp] theorem modPert_pert (f : PertBlk → PertBlk) (s : State) : (modPert f s).pert = f s.pert := rfl

/-- modPwr leaves every part of the state but `pwr` as it was. -/
@[simp] theorem modPwr_keeps (f : PwrBlk → PwrBlk) (s : State) :
    (modPwr f s).pending = s.pending ∧ (modPwr f s).freeCount = s.freeCount ∧ (modPwr f s).reports = s.reports ∧
    (modPwr f s).rdata = s.rdata ∧ (modPwr f s).heads = s.heads ∧ (modPwr f s).latches = s.latches ∧
    (modPwr f s).held = s.held ∧ (modPwr f s).sys = s.sys ∧ (modPwr f s).evt = s.evt ∧
    (modPwr f s).tick = s.tick ∧ (modPwr f s).strct = s.strct ∧ (modPwr f s).cfg = s.cfg ∧
    (modPwr f s).hsw = s.hsw ∧ (modPwr f s).sol = s.sol ∧ (modPwr f s).led = s.led ∧ (modPwr f s).din = s.din ∧
    (modPwr f s).hurdle = s.hurdle ∧ (modPwr f s).time = s.time ∧ (modPwr f s).tally = s.tally ∧
    (modPwr f s).fab = s.fab ∧ (modPwr f s).core = s.core ∧ (modPwr f s).mem = s.mem ∧ (modPwr f s).que = s.que ∧
    (modPwr f s).dwin = s.dwin ∧ (modPwr f s).pert = s.pert ∧ (modPwr f s).key = s.key ∧
    (modPwr f s).mbus = s.mbus ∧ (modPwr f s).aud = s.aud ∧ (modPwr f s).acc = s.acc ∧ (modPwr f s).upd = s.upd :=
  ⟨rfl, rfl, rfl, rfl, rfl, rfl, rfl, rfl, rfl, rfl, rfl, rfl, rfl, rfl, rfl, rfl, rfl, rfl, rfl, rfl, rfl, rfl, rfl, rfl, rfl, rfl, rfl, rfl, rfl, rfl⟩

/-- modPwr rewrites `pwr`. -/
@[simp] theorem modPwr_pwr (f : PwrBlk → PwrBlk) (s : State) : (modPwr f s).pwr = f s.pwr := rfl

/-- modQ leaves every part of the state but `que` as it was. -/
@[simp] theorem modQ_keeps (q : Nat) (f : QueState → QueState) (s : State) :
    (modQ q f s).pending = s.pending ∧ (modQ q f s).freeCount = s.freeCount ∧ (modQ q f s).reports = s.reports ∧
    (modQ q f s).rdata = s.rdata ∧ (modQ q f s).heads = s.heads ∧ (modQ q f s).latches = s.latches ∧
    (modQ q f s).held = s.held ∧ (modQ q f s).sys = s.sys ∧ (modQ q f s).evt = s.evt ∧
    (modQ q f s).tick = s.tick ∧ (modQ q f s).strct = s.strct ∧ (modQ q f s).cfg = s.cfg ∧
    (modQ q f s).hsw = s.hsw ∧ (modQ q f s).sol = s.sol ∧ (modQ q f s).led = s.led ∧ (modQ q f s).din = s.din ∧
    (modQ q f s).hurdle = s.hurdle ∧ (modQ q f s).time = s.time ∧ (modQ q f s).tally = s.tally ∧
    (modQ q f s).fab = s.fab ∧ (modQ q f s).core = s.core ∧ (modQ q f s).mem = s.mem ∧
    (modQ q f s).dwin = s.dwin ∧ (modQ q f s).pert = s.pert ∧ (modQ q f s).key = s.key ∧
    (modQ q f s).mbus = s.mbus ∧ (modQ q f s).aud = s.aud ∧ (modQ q f s).acc = s.acc ∧ (modQ q f s).pwr = s.pwr ∧
    (modQ q f s).upd = s.upd :=
  ⟨rfl, rfl, rfl, rfl, rfl, rfl, rfl, rfl, rfl, rfl, rfl, rfl, rfl, rfl, rfl, rfl, rfl, rfl, rfl, rfl, rfl, rfl, rfl, rfl, rfl, rfl, rfl, rfl, rfl, rfl⟩

/-- modHurdle leaves every part of the state but `hurdle` as it was. -/
@[simp] theorem modHurdle_keeps (f : HurdleBlk → HurdleBlk) (s : State) :
    (modHurdle f s).pending = s.pending ∧ (modHurdle f s).freeCount = s.freeCount ∧
    (modHurdle f s).reports = s.reports ∧ (modHurdle f s).rdata = s.rdata ∧ (modHurdle f s).heads = s.heads ∧
    (modHurdle f s).latches = s.latches ∧ (modHurdle f s).held = s.held ∧ (modHurdle f s).sys = s.sys ∧
    (modHurdle f s).evt = s.evt ∧ (modHurdle f s).tick = s.tick ∧ (modHurdle f s).strct = s.strct ∧
    (modHurdle f s).cfg = s.cfg ∧ (modHurdle f s).hsw = s.hsw ∧ (modHurdle f s).sol = s.sol ∧
    (modHurdle f s).led = s.led ∧ (modHurdle f s).din = s.din ∧ (modHurdle f s).time = s.time ∧
    (modHurdle f s).tally = s.tally ∧ (modHurdle f s).fab = s.fab ∧ (modHurdle f s).core = s.core ∧
    (modHurdle f s).mem = s.mem ∧ (modHurdle f s).que = s.que ∧ (modHurdle f s).dwin = s.dwin ∧
    (modHurdle f s).pert = s.pert ∧ (modHurdle f s).key = s.key ∧ (modHurdle f s).mbus = s.mbus ∧
    (modHurdle f s).aud = s.aud ∧ (modHurdle f s).acc = s.acc ∧ (modHurdle f s).pwr = s.pwr ∧
    (modHurdle f s).upd = s.upd :=
  ⟨rfl, rfl, rfl, rfl, rfl, rfl, rfl, rfl, rfl, rfl, rfl, rfl, rfl, rfl, rfl, rfl, rfl, rfl, rfl, rfl, rfl, rfl, rfl, rfl, rfl, rfl, rfl, rfl, rfl, rfl⟩

/-- modHurdle rewrites `hurdle`. -/
@[simp] theorem modHurdle_hurdle (f : HurdleBlk → HurdleBlk) (s : State) : (modHurdle f s).hurdle = f s.hurdle := rfl

/-- modTick leaves every part of the state but `tick` as it was. -/
@[simp] theorem modTick_keeps (f : TickBlk → TickBlk) (s : State) :
    (modTick f s).pending = s.pending ∧ (modTick f s).freeCount = s.freeCount ∧
    (modTick f s).reports = s.reports ∧ (modTick f s).rdata = s.rdata ∧ (modTick f s).heads = s.heads ∧
    (modTick f s).latches = s.latches ∧ (modTick f s).held = s.held ∧ (modTick f s).sys = s.sys ∧
    (modTick f s).evt = s.evt ∧ (modTick f s).strct = s.strct ∧ (modTick f s).cfg = s.cfg ∧
    (modTick f s).hsw = s.hsw ∧ (modTick f s).sol = s.sol ∧ (modTick f s).led = s.led ∧
    (modTick f s).din = s.din ∧ (modTick f s).hurdle = s.hurdle ∧ (modTick f s).time = s.time ∧
    (modTick f s).tally = s.tally ∧ (modTick f s).fab = s.fab ∧ (modTick f s).core = s.core ∧
    (modTick f s).mem = s.mem ∧ (modTick f s).que = s.que ∧ (modTick f s).dwin = s.dwin ∧
    (modTick f s).pert = s.pert ∧ (modTick f s).key = s.key ∧ (modTick f s).mbus = s.mbus ∧
    (modTick f s).aud = s.aud ∧ (modTick f s).acc = s.acc ∧ (modTick f s).pwr = s.pwr ∧
    (modTick f s).upd = s.upd :=
  ⟨rfl, rfl, rfl, rfl, rfl, rfl, rfl, rfl, rfl, rfl, rfl, rfl, rfl, rfl, rfl, rfl, rfl, rfl, rfl, rfl, rfl, rfl, rfl, rfl, rfl, rfl, rfl, rfl, rfl, rfl⟩

/-- modTick rewrites `tick`. -/
@[simp] theorem modTick_tick (f : TickBlk → TickBlk) (s : State) : (modTick f s).tick = f s.tick := rfl

/-- modSol leaves every part of the state but `sol` as it was. -/
@[simp] theorem modSol_keeps (k : Fin 16) (f : SolState → SolState) (s : State) :
    (modSol k f s).pending = s.pending ∧ (modSol k f s).freeCount = s.freeCount ∧
    (modSol k f s).reports = s.reports ∧ (modSol k f s).rdata = s.rdata ∧ (modSol k f s).heads = s.heads ∧
    (modSol k f s).latches = s.latches ∧ (modSol k f s).held = s.held ∧ (modSol k f s).sys = s.sys ∧
    (modSol k f s).evt = s.evt ∧ (modSol k f s).tick = s.tick ∧ (modSol k f s).strct = s.strct ∧
    (modSol k f s).cfg = s.cfg ∧ (modSol k f s).hsw = s.hsw ∧ (modSol k f s).led = s.led ∧
    (modSol k f s).din = s.din ∧ (modSol k f s).hurdle = s.hurdle ∧ (modSol k f s).time = s.time ∧
    (modSol k f s).tally = s.tally ∧ (modSol k f s).fab = s.fab ∧ (modSol k f s).core = s.core ∧
    (modSol k f s).mem = s.mem ∧ (modSol k f s).que = s.que ∧ (modSol k f s).dwin = s.dwin ∧
    (modSol k f s).pert = s.pert ∧ (modSol k f s).key = s.key ∧ (modSol k f s).mbus = s.mbus ∧
    (modSol k f s).aud = s.aud ∧ (modSol k f s).acc = s.acc ∧ (modSol k f s).pwr = s.pwr ∧
    (modSol k f s).upd = s.upd :=
  ⟨rfl, rfl, rfl, rfl, rfl, rfl, rfl, rfl, rfl, rfl, rfl, rfl, rfl, rfl, rfl, rfl, rfl, rfl, rfl, rfl, rfl, rfl, rfl, rfl, rfl, rfl, rfl, rfl, rfl, rfl⟩

/-- modStruct leaves every part of the state but `strct` as it was. -/
@[simp] theorem modStruct_keeps (f : StructBlk → StructBlk) (s : State) :
    (modStruct f s).pending = s.pending ∧ (modStruct f s).freeCount = s.freeCount ∧
    (modStruct f s).reports = s.reports ∧ (modStruct f s).rdata = s.rdata ∧ (modStruct f s).heads = s.heads ∧
    (modStruct f s).latches = s.latches ∧ (modStruct f s).held = s.held ∧ (modStruct f s).sys = s.sys ∧
    (modStruct f s).evt = s.evt ∧ (modStruct f s).tick = s.tick ∧ (modStruct f s).cfg = s.cfg ∧
    (modStruct f s).hsw = s.hsw ∧ (modStruct f s).sol = s.sol ∧ (modStruct f s).led = s.led ∧
    (modStruct f s).din = s.din ∧ (modStruct f s).hurdle = s.hurdle ∧ (modStruct f s).time = s.time ∧
    (modStruct f s).tally = s.tally ∧ (modStruct f s).fab = s.fab ∧ (modStruct f s).core = s.core ∧
    (modStruct f s).mem = s.mem ∧ (modStruct f s).que = s.que ∧ (modStruct f s).dwin = s.dwin ∧
    (modStruct f s).pert = s.pert ∧ (modStruct f s).key = s.key ∧ (modStruct f s).mbus = s.mbus ∧
    (modStruct f s).aud = s.aud ∧ (modStruct f s).acc = s.acc ∧ (modStruct f s).pwr = s.pwr ∧
    (modStruct f s).upd = s.upd :=
  ⟨rfl, rfl, rfl, rfl, rfl, rfl, rfl, rfl, rfl, rfl, rfl, rfl, rfl, rfl, rfl, rfl, rfl, rfl, rfl, rfl, rfl, rfl, rfl, rfl, rfl, rfl, rfl, rfl, rfl, rfl⟩

/-- modStruct rewrites `strct`. -/
@[simp] theorem modStruct_strct (f : StructBlk → StructBlk) (s : State) : (modStruct f s).strct = f s.strct := rfl

/-- modUpd leaves every part of the state but `upd` as it was. -/
@[simp] theorem modUpd_keeps (f : UpdBlk → UpdBlk) (s : State) :
    (modUpd f s).pending = s.pending ∧ (modUpd f s).freeCount = s.freeCount ∧ (modUpd f s).reports = s.reports ∧
    (modUpd f s).rdata = s.rdata ∧ (modUpd f s).heads = s.heads ∧ (modUpd f s).latches = s.latches ∧
    (modUpd f s).held = s.held ∧ (modUpd f s).sys = s.sys ∧ (modUpd f s).evt = s.evt ∧
    (modUpd f s).tick = s.tick ∧ (modUpd f s).strct = s.strct ∧ (modUpd f s).cfg = s.cfg ∧
    (modUpd f s).hsw = s.hsw ∧ (modUpd f s).sol = s.sol ∧ (modUpd f s).led = s.led ∧ (modUpd f s).din = s.din ∧
    (modUpd f s).hurdle = s.hurdle ∧ (modUpd f s).time = s.time ∧ (modUpd f s).tally = s.tally ∧
    (modUpd f s).fab = s.fab ∧ (modUpd f s).core = s.core ∧ (modUpd f s).mem = s.mem ∧ (modUpd f s).que = s.que ∧
    (modUpd f s).dwin = s.dwin ∧ (modUpd f s).pert = s.pert ∧ (modUpd f s).key = s.key ∧
    (modUpd f s).mbus = s.mbus ∧ (modUpd f s).aud = s.aud ∧ (modUpd f s).acc = s.acc ∧ (modUpd f s).pwr = s.pwr :=
  ⟨rfl, rfl, rfl, rfl, rfl, rfl, rfl, rfl, rfl, rfl, rfl, rfl, rfl, rfl, rfl, rfl, rfl, rfl, rfl, rfl, rfl, rfl, rfl, rfl, rfl, rfl, rfl, rfl, rfl, rfl⟩

/-- modUpd rewrites `upd`. -/
@[simp] theorem modUpd_upd (f : UpdBlk → UpdBlk) (s : State) : (modUpd f s).upd = f s.upd := rfl

/-- modHs leaves every part of the state but `hsw` as it was. -/
@[simp] theorem modHs_keeps (k : Fin 96) (f : HsState → HsState) (s : State) :
    (modHs k f s).pending = s.pending ∧ (modHs k f s).freeCount = s.freeCount ∧
    (modHs k f s).reports = s.reports ∧ (modHs k f s).rdata = s.rdata ∧ (modHs k f s).heads = s.heads ∧
    (modHs k f s).latches = s.latches ∧ (modHs k f s).held = s.held ∧ (modHs k f s).sys = s.sys ∧
    (modHs k f s).evt = s.evt ∧ (modHs k f s).tick = s.tick ∧ (modHs k f s).strct = s.strct ∧
    (modHs k f s).cfg = s.cfg ∧ (modHs k f s).sol = s.sol ∧ (modHs k f s).led = s.led ∧
    (modHs k f s).din = s.din ∧ (modHs k f s).hurdle = s.hurdle ∧ (modHs k f s).time = s.time ∧
    (modHs k f s).tally = s.tally ∧ (modHs k f s).fab = s.fab ∧ (modHs k f s).core = s.core ∧
    (modHs k f s).mem = s.mem ∧ (modHs k f s).que = s.que ∧ (modHs k f s).dwin = s.dwin ∧
    (modHs k f s).pert = s.pert ∧ (modHs k f s).key = s.key ∧ (modHs k f s).mbus = s.mbus ∧
    (modHs k f s).aud = s.aud ∧ (modHs k f s).acc = s.acc ∧ (modHs k f s).pwr = s.pwr ∧
    (modHs k f s).upd = s.upd :=
  ⟨rfl, rfl, rfl, rfl, rfl, rfl, rfl, rfl, rfl, rfl, rfl, rfl, rfl, rfl, rfl, rfl, rfl, rfl, rfl, rfl, rfl, rfl, rfl, rfl, rfl, rfl, rfl, rfl, rfl, rfl⟩

/-- modTb leaves every part of the state but `time` as it was. -/
@[simp] theorem modTb_keeps (n : Fin 4) (f : TimeBase → TimeBase) (s : State) :
    (modTb n f s).pending = s.pending ∧ (modTb n f s).freeCount = s.freeCount ∧
    (modTb n f s).reports = s.reports ∧ (modTb n f s).rdata = s.rdata ∧ (modTb n f s).heads = s.heads ∧
    (modTb n f s).latches = s.latches ∧ (modTb n f s).held = s.held ∧ (modTb n f s).sys = s.sys ∧
    (modTb n f s).evt = s.evt ∧ (modTb n f s).tick = s.tick ∧ (modTb n f s).strct = s.strct ∧
    (modTb n f s).cfg = s.cfg ∧ (modTb n f s).hsw = s.hsw ∧ (modTb n f s).sol = s.sol ∧
    (modTb n f s).led = s.led ∧ (modTb n f s).din = s.din ∧ (modTb n f s).hurdle = s.hurdle ∧
    (modTb n f s).tally = s.tally ∧ (modTb n f s).fab = s.fab ∧ (modTb n f s).core = s.core ∧
    (modTb n f s).mem = s.mem ∧ (modTb n f s).que = s.que ∧ (modTb n f s).dwin = s.dwin ∧
    (modTb n f s).pert = s.pert ∧ (modTb n f s).key = s.key ∧ (modTb n f s).mbus = s.mbus ∧
    (modTb n f s).aud = s.aud ∧ (modTb n f s).acc = s.acc ∧ (modTb n f s).pwr = s.pwr ∧
    (modTb n f s).upd = s.upd :=
  ⟨rfl, rfl, rfl, rfl, rfl, rfl, rfl, rfl, rfl, rfl, rfl, rfl, rfl, rfl, rfl, rfl, rfl, rfl, rfl, rfl, rfl, rfl, rfl, rfl, rfl, rfl, rfl, rfl, rfl, rfl⟩

/-- modTally leaves every part of the state but `tally` as it was. -/
@[simp] theorem modTally_keeps (f : TallyBlk → TallyBlk) (s : State) :
    (modTally f s).pending = s.pending ∧ (modTally f s).freeCount = s.freeCount ∧
    (modTally f s).reports = s.reports ∧ (modTally f s).rdata = s.rdata ∧ (modTally f s).heads = s.heads ∧
    (modTally f s).latches = s.latches ∧ (modTally f s).held = s.held ∧ (modTally f s).sys = s.sys ∧
    (modTally f s).evt = s.evt ∧ (modTally f s).tick = s.tick ∧ (modTally f s).strct = s.strct ∧
    (modTally f s).cfg = s.cfg ∧ (modTally f s).hsw = s.hsw ∧ (modTally f s).sol = s.sol ∧
    (modTally f s).led = s.led ∧ (modTally f s).din = s.din ∧ (modTally f s).hurdle = s.hurdle ∧
    (modTally f s).time = s.time ∧ (modTally f s).fab = s.fab ∧ (modTally f s).core = s.core ∧
    (modTally f s).mem = s.mem ∧ (modTally f s).que = s.que ∧ (modTally f s).dwin = s.dwin ∧
    (modTally f s).pert = s.pert ∧ (modTally f s).key = s.key ∧ (modTally f s).mbus = s.mbus ∧
    (modTally f s).aud = s.aud ∧ (modTally f s).acc = s.acc ∧ (modTally f s).pwr = s.pwr ∧
    (modTally f s).upd = s.upd :=
  ⟨rfl, rfl, rfl, rfl, rfl, rfl, rfl, rfl, rfl, rfl, rfl, rfl, rfl, rfl, rfl, rfl, rfl, rfl, rfl, rfl, rfl, rfl, rfl, rfl, rfl, rfl, rfl, rfl, rfl, rfl⟩

/-- modTally rewrites `tally`. -/
@[simp] theorem modTally_tally (f : TallyBlk → TallyBlk) (s : State) : (modTally f s).tally = f s.tally := rfl

/-- modW leaves every part of the state but `dwin` as it was. -/
@[simp] theorem modW_keeps (n : Fin 4) (f : WinState4 → WinState4) (s : State) :
    (modW n f s).pending = s.pending ∧ (modW n f s).freeCount = s.freeCount ∧ (modW n f s).reports = s.reports ∧
    (modW n f s).rdata = s.rdata ∧ (modW n f s).heads = s.heads ∧ (modW n f s).latches = s.latches ∧
    (modW n f s).held = s.held ∧ (modW n f s).sys = s.sys ∧ (modW n f s).evt = s.evt ∧
    (modW n f s).tick = s.tick ∧ (modW n f s).strct = s.strct ∧ (modW n f s).cfg = s.cfg ∧
    (modW n f s).hsw = s.hsw ∧ (modW n f s).sol = s.sol ∧ (modW n f s).led = s.led ∧ (modW n f s).din = s.din ∧
    (modW n f s).hurdle = s.hurdle ∧ (modW n f s).time = s.time ∧ (modW n f s).tally = s.tally ∧
    (modW n f s).fab = s.fab ∧ (modW n f s).core = s.core ∧ (modW n f s).mem = s.mem ∧ (modW n f s).que = s.que ∧
    (modW n f s).pert = s.pert ∧ (modW n f s).key = s.key ∧ (modW n f s).mbus = s.mbus ∧
    (modW n f s).aud = s.aud ∧ (modW n f s).acc = s.acc ∧ (modW n f s).pwr = s.pwr ∧ (modW n f s).upd = s.upd :=
  ⟨rfl, rfl, rfl, rfl, rfl, rfl, rfl, rfl, rfl, rfl, rfl, rfl, rfl, rfl, rfl, rfl, rfl, rfl, rfl, rfl, rfl, rfl, rfl, rfl, rfl, rfl, rfl, rfl, rfl, rfl⟩

/-- raiseLine leaves every part of the state but `evt` as it was. -/
@[simp] theorem raiseLine_keeps (n : Nat) (s : State) :
    (raiseLine n s).pending = s.pending ∧ (raiseLine n s).freeCount = s.freeCount ∧
    (raiseLine n s).reports = s.reports ∧ (raiseLine n s).rdata = s.rdata ∧ (raiseLine n s).heads = s.heads ∧
    (raiseLine n s).latches = s.latches ∧ (raiseLine n s).held = s.held ∧ (raiseLine n s).sys = s.sys ∧
    (raiseLine n s).tick = s.tick ∧ (raiseLine n s).strct = s.strct ∧ (raiseLine n s).cfg = s.cfg ∧
    (raiseLine n s).hsw = s.hsw ∧ (raiseLine n s).sol = s.sol ∧ (raiseLine n s).led = s.led ∧
    (raiseLine n s).din = s.din ∧ (raiseLine n s).hurdle = s.hurdle ∧ (raiseLine n s).time = s.time ∧
    (raiseLine n s).tally = s.tally ∧ (raiseLine n s).fab = s.fab ∧ (raiseLine n s).core = s.core ∧
    (raiseLine n s).mem = s.mem ∧ (raiseLine n s).que = s.que ∧ (raiseLine n s).dwin = s.dwin ∧
    (raiseLine n s).pert = s.pert ∧ (raiseLine n s).key = s.key ∧ (raiseLine n s).mbus = s.mbus ∧
    (raiseLine n s).aud = s.aud ∧ (raiseLine n s).acc = s.acc ∧ (raiseLine n s).pwr = s.pwr ∧
    (raiseLine n s).upd = s.upd :=
  ⟨rfl, rfl, rfl, rfl, rfl, rfl, rfl, rfl, rfl, rfl, rfl, rfl, rfl, rfl, rfl, rfl, rfl, rfl, rfl, rfl, rfl, rfl, rfl, rfl, rfl, rfl, rfl, rfl, rfl, rfl⟩

/-- giveRead leaves every part of the state but `rdata` as it was. -/
@[simp] theorem giveRead_keeps (rq : Requester) (v : Word) (s : State) :
    (giveRead rq v s).pending = s.pending ∧ (giveRead rq v s).freeCount = s.freeCount ∧
    (giveRead rq v s).reports = s.reports ∧ (giveRead rq v s).heads = s.heads ∧
    (giveRead rq v s).latches = s.latches ∧ (giveRead rq v s).held = s.held ∧ (giveRead rq v s).sys = s.sys ∧
    (giveRead rq v s).evt = s.evt ∧ (giveRead rq v s).tick = s.tick ∧ (giveRead rq v s).strct = s.strct ∧
    (giveRead rq v s).cfg = s.cfg ∧ (giveRead rq v s).hsw = s.hsw ∧ (giveRead rq v s).sol = s.sol ∧
    (giveRead rq v s).led = s.led ∧ (giveRead rq v s).din = s.din ∧ (giveRead rq v s).hurdle = s.hurdle ∧
    (giveRead rq v s).time = s.time ∧ (giveRead rq v s).tally = s.tally ∧ (giveRead rq v s).fab = s.fab ∧
    (giveRead rq v s).core = s.core ∧ (giveRead rq v s).mem = s.mem ∧ (giveRead rq v s).que = s.que ∧
    (giveRead rq v s).dwin = s.dwin ∧ (giveRead rq v s).pert = s.pert ∧ (giveRead rq v s).key = s.key ∧
    (giveRead rq v s).mbus = s.mbus ∧ (giveRead rq v s).aud = s.aud ∧ (giveRead rq v s).acc = s.acc ∧
    (giveRead rq v s).pwr = s.pwr ∧ (giveRead rq v s).upd = s.upd :=
  ⟨rfl, rfl, rfl, rfl, rfl, rfl, rfl, rfl, rfl, rfl, rfl, rfl, rfl, rfl, rfl, rfl, rfl, rfl, rfl, rfl, rfl, rfl, rfl, rfl, rfl, rfl, rfl, rfl, rfl, rfl⟩

/-- tickFree leaves every part of the state but `freeCount` as it was. -/
@[simp] theorem tickFree_keeps (s : State) :
    (tickFree s).pending = s.pending ∧ (tickFree s).reports = s.reports ∧ (tickFree s).rdata = s.rdata ∧
    (tickFree s).heads = s.heads ∧ (tickFree s).latches = s.latches ∧ (tickFree s).held = s.held ∧
    (tickFree s).sys = s.sys ∧ (tickFree s).evt = s.evt ∧ (tickFree s).tick = s.tick ∧
    (tickFree s).strct = s.strct ∧ (tickFree s).cfg = s.cfg ∧ (tickFree s).hsw = s.hsw ∧
    (tickFree s).sol = s.sol ∧ (tickFree s).led = s.led ∧ (tickFree s).din = s.din ∧
    (tickFree s).hurdle = s.hurdle ∧ (tickFree s).time = s.time ∧ (tickFree s).tally = s.tally ∧
    (tickFree s).fab = s.fab ∧ (tickFree s).core = s.core ∧ (tickFree s).mem = s.mem ∧ (tickFree s).que = s.que ∧
    (tickFree s).dwin = s.dwin ∧ (tickFree s).pert = s.pert ∧ (tickFree s).key = s.key ∧
    (tickFree s).mbus = s.mbus ∧ (tickFree s).aud = s.aud ∧ (tickFree s).acc = s.acc ∧ (tickFree s).pwr = s.pwr ∧
    (tickFree s).upd = s.upd :=
  ⟨rfl, rfl, rfl, rfl, rfl, rfl, rfl, rfl, rfl, rfl, rfl, rfl, rfl, rfl, rfl, rfl, rfl, rfl, rfl, rfl, rfl, rfl, rfl, rfl, rfl, rfl, rfl, rfl, rfl, rfl⟩

/-- latchRead leaves every part of the state but `latches` as it was. -/
@[simp] theorem latchRead_keeps (rq : Requester) (reg : Nat) (words : List Word) (s : State) :
    (latchRead rq reg words s).pending = s.pending ∧ (latchRead rq reg words s).freeCount = s.freeCount ∧
    (latchRead rq reg words s).reports = s.reports ∧ (latchRead rq reg words s).rdata = s.rdata ∧
    (latchRead rq reg words s).heads = s.heads ∧ (latchRead rq reg words s).held = s.held ∧
    (latchRead rq reg words s).sys = s.sys ∧ (latchRead rq reg words s).evt = s.evt ∧
    (latchRead rq reg words s).tick = s.tick ∧ (latchRead rq reg words s).strct = s.strct ∧
    (latchRead rq reg words s).cfg = s.cfg ∧ (latchRead rq reg words s).hsw = s.hsw ∧
    (latchRead rq reg words s).sol = s.sol ∧ (latchRead rq reg words s).led = s.led ∧
    (latchRead rq reg words s).din = s.din ∧ (latchRead rq reg words s).hurdle = s.hurdle ∧
    (latchRead rq reg words s).time = s.time ∧ (latchRead rq reg words s).tally = s.tally ∧
    (latchRead rq reg words s).fab = s.fab ∧ (latchRead rq reg words s).core = s.core ∧
    (latchRead rq reg words s).mem = s.mem ∧ (latchRead rq reg words s).que = s.que ∧
    (latchRead rq reg words s).dwin = s.dwin ∧ (latchRead rq reg words s).pert = s.pert ∧
    (latchRead rq reg words s).key = s.key ∧ (latchRead rq reg words s).mbus = s.mbus ∧
    (latchRead rq reg words s).aud = s.aud ∧ (latchRead rq reg words s).acc = s.acc ∧
    (latchRead rq reg words s).pwr = s.pwr ∧ (latchRead rq reg words s).upd = s.upd :=
  ⟨rfl, rfl, rfl, rfl, rfl, rfl, rfl, rfl, rfl, rfl, rfl, rfl, rfl, rfl, rfl, rfl, rfl, rfl, rfl, rfl, rfl, rfl, rfl, rfl, rfl, rfl, rfl, rfl, rfl, rfl⟩

/-- holdWrite leaves every part of the state but `held` as it was. -/
@[simp] theorem holdWrite_keeps (rq : Requester) (reg : Nat) (w : Word) (s : State) :
    (holdWrite rq reg w s).pending = s.pending ∧ (holdWrite rq reg w s).freeCount = s.freeCount ∧
    (holdWrite rq reg w s).reports = s.reports ∧ (holdWrite rq reg w s).rdata = s.rdata ∧
    (holdWrite rq reg w s).heads = s.heads ∧ (holdWrite rq reg w s).latches = s.latches ∧
    (holdWrite rq reg w s).sys = s.sys ∧ (holdWrite rq reg w s).evt = s.evt ∧
    (holdWrite rq reg w s).tick = s.tick ∧ (holdWrite rq reg w s).strct = s.strct ∧
    (holdWrite rq reg w s).cfg = s.cfg ∧ (holdWrite rq reg w s).hsw = s.hsw ∧ (holdWrite rq reg w s).sol = s.sol ∧
    (holdWrite rq reg w s).led = s.led ∧ (holdWrite rq reg w s).din = s.din ∧
    (holdWrite rq reg w s).hurdle = s.hurdle ∧ (holdWrite rq reg w s).time = s.time ∧
    (holdWrite rq reg w s).tally = s.tally ∧ (holdWrite rq reg w s).fab = s.fab ∧
    (holdWrite rq reg w s).core = s.core ∧ (holdWrite rq reg w s).mem = s.mem ∧
    (holdWrite rq reg w s).que = s.que ∧ (holdWrite rq reg w s).dwin = s.dwin ∧
    (holdWrite rq reg w s).pert = s.pert ∧ (holdWrite rq reg w s).key = s.key ∧
    (holdWrite rq reg w s).mbus = s.mbus ∧ (holdWrite rq reg w s).aud = s.aud ∧
    (holdWrite rq reg w s).acc = s.acc ∧ (holdWrite rq reg w s).pwr = s.pwr ∧
    (holdWrite rq reg w s).upd = s.upd :=
  ⟨rfl, rfl, rfl, rfl, rfl, rfl, rfl, rfl, rfl, rfl, rfl, rfl, rfl, rfl, rfl, rfl, rfl, rfl, rfl, rfl, rfl, rfl, rfl, rfl, rfl, rfl, rfl, rfl, rfl, rfl⟩

/-- dropHeld leaves every part of the state but `held` as it was. -/
@[simp] theorem dropHeld_keeps (rq : Requester) (s : State) :
    (dropHeld rq s).pending = s.pending ∧ (dropHeld rq s).freeCount = s.freeCount ∧
    (dropHeld rq s).reports = s.reports ∧ (dropHeld rq s).rdata = s.rdata ∧ (dropHeld rq s).heads = s.heads ∧
    (dropHeld rq s).latches = s.latches ∧ (dropHeld rq s).sys = s.sys ∧ (dropHeld rq s).evt = s.evt ∧
    (dropHeld rq s).tick = s.tick ∧ (dropHeld rq s).strct = s.strct ∧ (dropHeld rq s).cfg = s.cfg ∧
    (dropHeld rq s).hsw = s.hsw ∧ (dropHeld rq s).sol = s.sol ∧ (dropHeld rq s).led = s.led ∧
    (dropHeld rq s).din = s.din ∧ (dropHeld rq s).hurdle = s.hurdle ∧ (dropHeld rq s).time = s.time ∧
    (dropHeld rq s).tally = s.tally ∧ (dropHeld rq s).fab = s.fab ∧ (dropHeld rq s).core = s.core ∧
    (dropHeld rq s).mem = s.mem ∧ (dropHeld rq s).que = s.que ∧ (dropHeld rq s).dwin = s.dwin ∧
    (dropHeld rq s).pert = s.pert ∧ (dropHeld rq s).key = s.key ∧ (dropHeld rq s).mbus = s.mbus ∧
    (dropHeld rq s).aud = s.aud ∧ (dropHeld rq s).acc = s.acc ∧ (dropHeld rq s).pwr = s.pwr ∧
    (dropHeld rq s).upd = s.upd :=
  ⟨rfl, rfl, rfl, rfl, rfl, rfl, rfl, rfl, rfl, rfl, rfl, rfl, rfl, rfl, rfl, rfl, rfl, rfl, rfl, rfl, rfl, rfl, rfl, rfl, rfl, rfl, rfl, rfl, rfl, rfl⟩

/-- runCycles leaves every part of the state but `time` as it was. -/
@[simp] theorem runCycles_keeps (n : Nat) (s : State) :
    (runCycles n s).pending = s.pending ∧ (runCycles n s).freeCount = s.freeCount ∧
    (runCycles n s).reports = s.reports ∧ (runCycles n s).rdata = s.rdata ∧ (runCycles n s).heads = s.heads ∧
    (runCycles n s).latches = s.latches ∧ (runCycles n s).held = s.held ∧ (runCycles n s).sys = s.sys ∧
    (runCycles n s).evt = s.evt ∧ (runCycles n s).tick = s.tick ∧ (runCycles n s).strct = s.strct ∧
    (runCycles n s).cfg = s.cfg ∧ (runCycles n s).hsw = s.hsw ∧ (runCycles n s).sol = s.sol ∧
    (runCycles n s).led = s.led ∧ (runCycles n s).din = s.din ∧ (runCycles n s).hurdle = s.hurdle ∧
    (runCycles n s).tally = s.tally ∧ (runCycles n s).fab = s.fab ∧ (runCycles n s).core = s.core ∧
    (runCycles n s).mem = s.mem ∧ (runCycles n s).que = s.que ∧ (runCycles n s).dwin = s.dwin ∧
    (runCycles n s).pert = s.pert ∧ (runCycles n s).key = s.key ∧ (runCycles n s).mbus = s.mbus ∧
    (runCycles n s).aud = s.aud ∧ (runCycles n s).acc = s.acc ∧ (runCycles n s).pwr = s.pwr ∧
    (runCycles n s).upd = s.upd :=
  ⟨rfl, rfl, rfl, rfl, rfl, rfl, rfl, rfl, rfl, rfl, rfl, rfl, rfl, rfl, rfl, rfl, rfl, rfl, rfl, rfl, rfl, rfl, rfl, rfl, rfl, rfl, rfl, rfl, rfl, rfl⟩

/-- setErr leaves every part of the state but `heads` as it was. -/
@[simp] theorem setErr_keeps (b : Block) (i : Nat) (s : State) :
    (setErr b i s).pending = s.pending ∧ (setErr b i s).freeCount = s.freeCount ∧
    (setErr b i s).reports = s.reports ∧ (setErr b i s).rdata = s.rdata ∧ (setErr b i s).latches = s.latches ∧
    (setErr b i s).held = s.held ∧ (setErr b i s).sys = s.sys ∧ (setErr b i s).evt = s.evt ∧
    (setErr b i s).tick = s.tick ∧ (setErr b i s).strct = s.strct ∧ (setErr b i s).cfg = s.cfg ∧
    (setErr b i s).hsw = s.hsw ∧ (setErr b i s).sol = s.sol ∧ (setErr b i s).led = s.led ∧
    (setErr b i s).din = s.din ∧ (setErr b i s).hurdle = s.hurdle ∧ (setErr b i s).time = s.time ∧
    (setErr b i s).tally = s.tally ∧ (setErr b i s).fab = s.fab ∧ (setErr b i s).core = s.core ∧
    (setErr b i s).mem = s.mem ∧ (setErr b i s).que = s.que ∧ (setErr b i s).dwin = s.dwin ∧
    (setErr b i s).pert = s.pert ∧ (setErr b i s).key = s.key ∧ (setErr b i s).mbus = s.mbus ∧
    (setErr b i s).aud = s.aud ∧ (setErr b i s).acc = s.acc ∧ (setErr b i s).pwr = s.pwr ∧
    (setErr b i s).upd = s.upd :=
  ⟨rfl, rfl, rfl, rfl, rfl, rfl, rfl, rfl, rfl, rfl, rfl, rfl, rfl, rfl, rfl, rfl, rfl, rfl, rfl, rfl, rfl, rfl, rfl, rfl, rfl, rfl, rfl, rfl, rfl, rfl⟩

/-- setTc leaves every part of the state but `tick` as it was. -/
@[simp] theorem setTc_keeps (k : Fin 4) (t : TcState) (s : State) :
    (setTc k t s).pending = s.pending ∧ (setTc k t s).freeCount = s.freeCount ∧
    (setTc k t s).reports = s.reports ∧ (setTc k t s).rdata = s.rdata ∧ (setTc k t s).heads = s.heads ∧
    (setTc k t s).latches = s.latches ∧ (setTc k t s).held = s.held ∧ (setTc k t s).sys = s.sys ∧
    (setTc k t s).evt = s.evt ∧ (setTc k t s).strct = s.strct ∧ (setTc k t s).cfg = s.cfg ∧
    (setTc k t s).hsw = s.hsw ∧ (setTc k t s).sol = s.sol ∧ (setTc k t s).led = s.led ∧
    (setTc k t s).din = s.din ∧ (setTc k t s).hurdle = s.hurdle ∧ (setTc k t s).time = s.time ∧
    (setTc k t s).tally = s.tally ∧ (setTc k t s).fab = s.fab ∧ (setTc k t s).core = s.core ∧
    (setTc k t s).mem = s.mem ∧ (setTc k t s).que = s.que ∧ (setTc k t s).dwin = s.dwin ∧
    (setTc k t s).pert = s.pert ∧ (setTc k t s).key = s.key ∧ (setTc k t s).mbus = s.mbus ∧
    (setTc k t s).aud = s.aud ∧ (setTc k t s).acc = s.acc ∧ (setTc k t s).pwr = s.pwr ∧
    (setTc k t s).upd = s.upd :=
  ⟨rfl, rfl, rfl, rfl, rfl, rfl, rfl, rfl, rfl, rfl, rfl, rfl, rfl, rfl, rfl, rfl, rfl, rfl, rfl, rfl, rfl, rfl, rfl, rfl, rfl, rfl, rfl, rfl, rfl, rfl⟩

/-- modOut leaves every part of the state but `hurdle` as it was. -/
@[simp] theorem modOut_keeps (o : Nat) (f : OutState → OutState) (s : State) :
    (modOut o f s).pending = s.pending ∧ (modOut o f s).freeCount = s.freeCount ∧
    (modOut o f s).reports = s.reports ∧ (modOut o f s).rdata = s.rdata ∧ (modOut o f s).heads = s.heads ∧
    (modOut o f s).latches = s.latches ∧ (modOut o f s).held = s.held ∧ (modOut o f s).sys = s.sys ∧
    (modOut o f s).evt = s.evt ∧ (modOut o f s).tick = s.tick ∧ (modOut o f s).strct = s.strct ∧
    (modOut o f s).cfg = s.cfg ∧ (modOut o f s).hsw = s.hsw ∧ (modOut o f s).sol = s.sol ∧
    (modOut o f s).led = s.led ∧ (modOut o f s).din = s.din ∧ (modOut o f s).time = s.time ∧
    (modOut o f s).tally = s.tally ∧ (modOut o f s).fab = s.fab ∧ (modOut o f s).core = s.core ∧
    (modOut o f s).mem = s.mem ∧ (modOut o f s).que = s.que ∧ (modOut o f s).dwin = s.dwin ∧
    (modOut o f s).pert = s.pert ∧ (modOut o f s).key = s.key ∧ (modOut o f s).mbus = s.mbus ∧
    (modOut o f s).aud = s.aud ∧ (modOut o f s).acc = s.acc ∧ (modOut o f s).pwr = s.pwr ∧
    (modOut o f s).upd = s.upd :=
  ⟨rfl, rfl, rfl, rfl, rfl, rfl, rfl, rfl, rfl, rfl, rfl, rfl, rfl, rfl, rfl, rfl, rfl, rfl, rfl, rfl, rfl, rfl, rfl, rfl, rfl, rfl, rfl, rfl, rfl, rfl⟩

/-- modStream leaves every part of the state but `aud` as it was. -/
@[simp] theorem modStream_keeps (k : Nat) (f : StreamState → StreamState) (s : State) :
    (modStream k f s).pending = s.pending ∧ (modStream k f s).freeCount = s.freeCount ∧
    (modStream k f s).reports = s.reports ∧ (modStream k f s).rdata = s.rdata ∧
    (modStream k f s).heads = s.heads ∧ (modStream k f s).latches = s.latches ∧ (modStream k f s).held = s.held ∧
    (modStream k f s).sys = s.sys ∧ (modStream k f s).evt = s.evt ∧ (modStream k f s).tick = s.tick ∧
    (modStream k f s).strct = s.strct ∧ (modStream k f s).cfg = s.cfg ∧ (modStream k f s).hsw = s.hsw ∧
    (modStream k f s).sol = s.sol ∧ (modStream k f s).led = s.led ∧ (modStream k f s).din = s.din ∧
    (modStream k f s).hurdle = s.hurdle ∧ (modStream k f s).time = s.time ∧ (modStream k f s).tally = s.tally ∧
    (modStream k f s).fab = s.fab ∧ (modStream k f s).core = s.core ∧ (modStream k f s).mem = s.mem ∧
    (modStream k f s).que = s.que ∧ (modStream k f s).dwin = s.dwin ∧ (modStream k f s).pert = s.pert ∧
    (modStream k f s).key = s.key ∧ (modStream k f s).mbus = s.mbus ∧ (modStream k f s).acc = s.acc ∧
    (modStream k f s).pwr = s.pwr ∧ (modStream k f s).upd = s.upd :=
  ⟨rfl, rfl, rfl, rfl, rfl, rfl, rfl, rfl, rfl, rfl, rfl, rfl, rfl, rfl, rfl, rfl, rfl, rfl, rfl, rfl, rfl, rfl, rfl, rfl, rfl, rfl, rfl, rfl, rfl, rfl⟩

/-- modNext leaves every part of the state but `hurdle` as it was. -/
@[simp] theorem modNext_keeps (o : Nat) (f : Pending → Pending) (s : State) :
    (modNext o f s).pending = s.pending ∧ (modNext o f s).freeCount = s.freeCount ∧
    (modNext o f s).reports = s.reports ∧ (modNext o f s).rdata = s.rdata ∧ (modNext o f s).heads = s.heads ∧
    (modNext o f s).latches = s.latches ∧ (modNext o f s).held = s.held ∧ (modNext o f s).sys = s.sys ∧
    (modNext o f s).evt = s.evt ∧ (modNext o f s).tick = s.tick ∧ (modNext o f s).strct = s.strct ∧
    (modNext o f s).cfg = s.cfg ∧ (modNext o f s).hsw = s.hsw ∧ (modNext o f s).sol = s.sol ∧
    (modNext o f s).led = s.led ∧ (modNext o f s).din = s.din ∧ (modNext o f s).time = s.time ∧
    (modNext o f s).tally = s.tally ∧ (modNext o f s).fab = s.fab ∧ (modNext o f s).core = s.core ∧
    (modNext o f s).mem = s.mem ∧ (modNext o f s).que = s.que ∧ (modNext o f s).dwin = s.dwin ∧
    (modNext o f s).pert = s.pert ∧ (modNext o f s).key = s.key ∧ (modNext o f s).mbus = s.mbus ∧
    (modNext o f s).aud = s.aud ∧ (modNext o f s).acc = s.acc ∧ (modNext o f s).pwr = s.pwr ∧
    (modNext o f s).upd = s.upd :=
  ⟨rfl, rfl, rfl, rfl, rfl, rfl, rfl, rfl, rfl, rfl, rfl, rfl, rfl, rfl, rfl, rfl, rfl, rfl, rfl, rfl, rfl, rfl, rfl, rfl, rfl, rfl, rfl, rfl, rfl, rfl⟩

end Sys2Proof.Machine
end

