-- ==== Sys2Proof/Laws/Ops.lean ====
section
/-! SUPPORT. The laws of the operations that every block shares: what each rewrites, and what it leaves in it. -/

namespace Sys2Proof.Machine

/-! ### Powered and unpowered -/

/-- An operation of a powered domain runs as it stands. -/
theorem whenOn_powered (f : State → State) (s : State) (h : s.powered = true) : whenOn f s = f s := by
  unfold State.powered at h
  unfold whenOn
  cases hm : s.pwr.mode <;> simp_all

/-- In REST an operation of an unpowered domain does nothing. -/
theorem whenOn_rest (f : State → State) (s : State) (h : s.pwr.mode = .rest) : whenOn f s = s := by
  unfold whenOn
  rw [h]

/-- In OFF an operation of an unpowered domain does nothing. -/
theorem whenOn_off (f : State → State) (s : State) (h : s.pwr.mode = .off) : whenOn f s = s := by
  unfold whenOn
  rw [h]

/-- The blocks have different indices. -/
@[simp] theorem Block.idx_inj (b c : Block) : b.idx = c.idx ↔ b = c := by
  cases b <;> cases c <;> decide

/-! ### Bits -/

/-- A bit that is set reads 1. -/
@[simp] theorem bit_setBit_self (w : Word) (i : Nat) (h : i < 32) : bit (setBit w i) i = true := by
  simp [bit, setBit, h]

/-- A set bit of any width. -/
theorem getLsbD_setBit {n : Nat} (w : BitVec n) (i j : Nat) :
    (setBit w i).getLsbD j = (w.getLsbD j || (decide (j < n) && decide (j = i))) := by
  unfold setBit
  by_cases h : j = i
  · subst h
    by_cases hn : j < n
    · simp [hn]
    · simp [hn]
  · simp only [BitVec.getLsbD_or, BitVec.getLsbD_shiftLeft, BitVec.getLsbD_one]
    by_cases h2 : j < i
    · simp [h2, h]
    · have : j - i ≠ 0 := by omega
      simp [h, this]

/-- Setting one bit leaves a set bit set. -/
theorem bit_setBit_mono (w : Word) (i j : Nat) (h : bit w j = true) : bit (setBit w i) j = true := by
  simp only [bit] at *
  rw [getLsbD_setBit, h]
  rfl

/-! ### Head registers -/

/-- A rewritten head. -/
@[simp] theorem modHead_head (b : Block) (f : Head → Head) (s : State) : (modHead b f s).head b = f (s.head b) := by
  simp [modHead, State.head, upd]

/-- Another block's head. -/
@[simp] theorem modHead_head_other (b c : Block) (f : Head → Head) (s : State) (h : b ≠ c) :
    (modHead b f s).head c = s.head c := by
  have hi : b.idx.val ≠ c.idx.val := fun e => h ((Block.idx_inj b c).mp (Fin.ext e))
  simp [modHead, State.head, upd, hi]

/-- A line that is raised is pending. -/
@[simp] theorem raiseLine_pend (n : Nat) (s : State) (h : n < 128) : (raiseLine n s).evt.pend.getLsbD n = true := by
  simp [raiseLine, setLine, getLsbD_setBit, h]

/-- modNote rewrites nothing but `heads`. -/
@[simp] theorem modNote_keeps (b : Block) (f : CycNote → CycNote) (s : State) :
    (modNote b f s).pending = s.pending ∧ (modNote b f s).freeCount = s.freeCount ∧
    (modNote b f s).reports = s.reports ∧ (modNote b f s).rdata = s.rdata ∧ (modNote b f s).latches = s.latches ∧
    (modNote b f s).held = s.held ∧ (modNote b f s).sys = s.sys ∧ (modNote b f s).evt = s.evt ∧
    (modNote b f s).tick = s.tick ∧ (modNote b f s).strct = s.strct ∧ (modNote b f s).cfg = s.cfg ∧
    (modNote b f s).hsw = s.hsw ∧ (modNote b f s).sol = s.sol ∧ (modNote b f s).led = s.led ∧
    (modNote b f s).din = s.din ∧ (modNote b f s).hurdle = s.hurdle ∧ (modNote b f s).time = s.time ∧
    (modNote b f s).tally = s.tally ∧ (modNote b f s).fab = s.fab ∧ (modNote b f s).core = s.core ∧
    (modNote b f s).mem = s.mem ∧ (modNote b f s).que = s.que ∧ (modNote b f s).dwin = s.dwin ∧
    (modNote b f s).pert = s.pert ∧ (modNote b f s).key = s.key ∧ (modNote b f s).mbus = s.mbus ∧
    (modNote b f s).aud = s.aud ∧ (modNote b f s).acc = s.acc ∧ (modNote b f s).pwr = s.pwr ∧
    (modNote b f s).upd = s.upd := by
  exact ⟨rfl, rfl, rfl, rfl, rfl, rfl, rfl, rfl, rfl, rfl, rfl, rfl, rfl, rfl, rfl, rfl, rfl, rfl, rfl, rfl, rfl, rfl, rfl, rfl, rfl, rfl, rfl, rfl, rfl, rfl⟩

/-- modNote as an update of those parts. -/
theorem modNote_eq (b : Block) (f : CycNote → CycNote) (s : State) :
    modNote b f s =
      { s with heads := (modNote b f s).heads } := by
  have h := modNote_keeps b f s
  generalize modNote b f s = t at h ⊢
  cases t
  cases s
  simp_all

/-- hwBit rewrites nothing but `heads`. -/
@[simp] theorem hwBit_keeps (b : Block) (off : Nat) (m : Word) (s : State) :
    (hwBit b off m s).pending = s.pending ∧ (hwBit b off m s).freeCount = s.freeCount ∧
    (hwBit b off m s).reports = s.reports ∧ (hwBit b off m s).rdata = s.rdata ∧
    (hwBit b off m s).latches = s.latches ∧ (hwBit b off m s).held = s.held ∧ (hwBit b off m s).sys = s.sys ∧
    (hwBit b off m s).evt = s.evt ∧ (hwBit b off m s).tick = s.tick ∧ (hwBit b off m s).strct = s.strct ∧
    (hwBit b off m s).cfg = s.cfg ∧ (hwBit b off m s).hsw = s.hsw ∧ (hwBit b off m s).sol = s.sol ∧
    (hwBit b off m s).led = s.led ∧ (hwBit b off m s).din = s.din ∧ (hwBit b off m s).hurdle = s.hurdle ∧
    (hwBit b off m s).time = s.time ∧ (hwBit b off m s).tally = s.tally ∧ (hwBit b off m s).fab = s.fab ∧
    (hwBit b off m s).core = s.core ∧ (hwBit b off m s).mem = s.mem ∧ (hwBit b off m s).que = s.que ∧
    (hwBit b off m s).dwin = s.dwin ∧ (hwBit b off m s).pert = s.pert ∧ (hwBit b off m s).key = s.key ∧
    (hwBit b off m s).mbus = s.mbus ∧ (hwBit b off m s).aud = s.aud ∧ (hwBit b off m s).acc = s.acc ∧
    (hwBit b off m s).pwr = s.pwr ∧ (hwBit b off m s).upd = s.upd := by
  exact ⟨rfl, rfl, rfl, rfl, rfl, rfl, rfl, rfl, rfl, rfl, rfl, rfl, rfl, rfl, rfl, rfl, rfl, rfl, rfl, rfl, rfl, rfl, rfl, rfl, rfl, rfl, rfl, rfl, rfl, rfl⟩

/-- hwBit as an update of those parts. -/
theorem hwBit_eq (b : Block) (off : Nat) (m : Word) (s : State) :
    hwBit b off m s =
      { s with heads := (hwBit b off m s).heads } := by
  have h := hwBit_keeps b off m s
  generalize hwBit b off m s = t at h ⊢
  cases t
  cases s
  simp_all

/-- bump rewrites nothing but `heads`. -/
@[simp] theorem bump_keeps (b : Block) (off lo n : Nat) (s : State) :
    (bump b off lo n s).pending = s.pending ∧ (bump b off lo n s).freeCount = s.freeCount ∧
    (bump b off lo n s).reports = s.reports ∧ (bump b off lo n s).rdata = s.rdata ∧
    (bump b off lo n s).latches = s.latches ∧ (bump b off lo n s).held = s.held ∧
    (bump b off lo n s).sys = s.sys ∧ (bump b off lo n s).evt = s.evt ∧ (bump b off lo n s).tick = s.tick ∧
    (bump b off lo n s).strct = s.strct ∧ (bump b off lo n s).cfg = s.cfg ∧ (bump b off lo n s).hsw = s.hsw ∧
    (bump b off lo n s).sol = s.sol ∧ (bump b off lo n s).led = s.led ∧ (bump b off lo n s).din = s.din ∧
    (bump b off lo n s).hurdle = s.hurdle ∧ (bump b off lo n s).time = s.time ∧
    (bump b off lo n s).tally = s.tally ∧ (bump b off lo n s).fab = s.fab ∧ (bump b off lo n s).core = s.core ∧
    (bump b off lo n s).mem = s.mem ∧ (bump b off lo n s).que = s.que ∧ (bump b off lo n s).dwin = s.dwin ∧
    (bump b off lo n s).pert = s.pert ∧ (bump b off lo n s).key = s.key ∧ (bump b off lo n s).mbus = s.mbus ∧
    (bump b off lo n s).aud = s.aud ∧ (bump b off lo n s).acc = s.acc ∧ (bump b off lo n s).pwr = s.pwr ∧
    (bump b off lo n s).upd = s.upd := by
  exact ⟨rfl, rfl, rfl, rfl, rfl, rfl, rfl, rfl, rfl, rfl, rfl, rfl, rfl, rfl, rfl, rfl, rfl, rfl, rfl, rfl, rfl, rfl, rfl, rfl, rfl, rfl, rfl, rfl, rfl, rfl⟩

/-- bump as an update of those parts. -/
theorem bump_eq (b : Block) (off lo n : Nat) (s : State) :
    bump b off lo n s =
      { s with heads := (bump b off lo n s).heads } := by
  have h := bump_keeps b off lo n s
  generalize bump b off lo n s = t at h ⊢
  cases t
  cases s
  simp_all

/-- refreshLine rewrites nothing but `evt`. -/
@[simp] theorem refreshLine_keeps (b : Block) (s : State) :
    (refreshLine b s).pending = s.pending ∧ (refreshLine b s).freeCount = s.freeCount ∧
    (refreshLine b s).reports = s.reports ∧ (refreshLine b s).rdata = s.rdata ∧
    (refreshLine b s).heads = s.heads ∧ (refreshLine b s).latches = s.latches ∧ (refreshLine b s).held = s.held ∧
    (refreshLine b s).sys = s.sys ∧ (refreshLine b s).tick = s.tick ∧ (refreshLine b s).strct = s.strct ∧
    (refreshLine b s).cfg = s.cfg ∧ (refreshLine b s).hsw = s.hsw ∧ (refreshLine b s).sol = s.sol ∧
    (refreshLine b s).led = s.led ∧ (refreshLine b s).din = s.din ∧ (refreshLine b s).hurdle = s.hurdle ∧
    (refreshLine b s).time = s.time ∧ (refreshLine b s).tally = s.tally ∧ (refreshLine b s).fab = s.fab ∧
    (refreshLine b s).core = s.core ∧ (refreshLine b s).mem = s.mem ∧ (refreshLine b s).que = s.que ∧
    (refreshLine b s).dwin = s.dwin ∧ (refreshLine b s).pert = s.pert ∧ (refreshLine b s).key = s.key ∧
    (refreshLine b s).mbus = s.mbus ∧ (refreshLine b s).aud = s.aud ∧ (refreshLine b s).acc = s.acc ∧
    (refreshLine b s).pwr = s.pwr ∧ (refreshLine b s).upd = s.upd := by
  unfold refreshLine
  split <;> exact ⟨rfl, rfl, rfl, rfl, rfl, rfl, rfl, rfl, rfl, rfl, rfl, rfl, rfl, rfl, rfl, rfl, rfl, rfl, rfl, rfl, rfl, rfl, rfl, rfl, rfl, rfl, rfl, rfl, rfl, rfl⟩

/-- refreshLine as an update of those parts. -/
theorem refreshLine_eq (b : Block) (s : State) :
    refreshLine b s =
      { s with evt := (refreshLine b s).evt } := by
  have h := refreshLine_keeps b s
  generalize refreshLine b s = t at h ⊢
  cases t
  cases s
  simp_all

/-- setIrq rewrites nothing but `evt`, `heads`. -/
@[simp] theorem setIrq_keeps (b : Block) (i : Nat) (s : State) :
    (setIrq b i s).pending = s.pending ∧ (setIrq b i s).freeCount = s.freeCount ∧
    (setIrq b i s).reports = s.reports ∧ (setIrq b i s).rdata = s.rdata ∧ (setIrq b i s).latches = s.latches ∧
    (setIrq b i s).held = s.held ∧ (setIrq b i s).sys = s.sys ∧ (setIrq b i s).tick = s.tick ∧
    (setIrq b i s).strct = s.strct ∧ (setIrq b i s).cfg = s.cfg ∧ (setIrq b i s).hsw = s.hsw ∧
    (setIrq b i s).sol = s.sol ∧ (setIrq b i s).led = s.led ∧ (setIrq b i s).din = s.din ∧
    (setIrq b i s).hurdle = s.hurdle ∧ (setIrq b i s).time = s.time ∧ (setIrq b i s).tally = s.tally ∧
    (setIrq b i s).fab = s.fab ∧ (setIrq b i s).core = s.core ∧ (setIrq b i s).mem = s.mem ∧
    (setIrq b i s).que = s.que ∧ (setIrq b i s).dwin = s.dwin ∧ (setIrq b i s).pert = s.pert ∧
    (setIrq b i s).key = s.key ∧ (setIrq b i s).mbus = s.mbus ∧ (setIrq b i s).aud = s.aud ∧
    (setIrq b i s).acc = s.acc ∧ (setIrq b i s).pwr = s.pwr ∧ (setIrq b i s).upd = s.upd := by
  simp [setIrq]

/-- setIrq as an update of those parts. -/
theorem setIrq_eq (b : Block) (i : Nat) (s : State) :
    setIrq b i s =
      { s with heads := (setIrq b i s).heads, evt := (setIrq b i s).evt } := by
  have h := setIrq_keeps b i s
  generalize setIrq b i s = t at h ⊢
  cases t
  cases s
  simp_all

/-- sysFlag rewrites nothing but `evt`, `heads`, `sys`. -/
@[simp] theorem sysFlag_keeps (i : Nat) (s : State) :
    (sysFlag i s).pending = s.pending ∧ (sysFlag i s).freeCount = s.freeCount ∧
    (sysFlag i s).reports = s.reports ∧ (sysFlag i s).rdata = s.rdata ∧ (sysFlag i s).latches = s.latches ∧
    (sysFlag i s).held = s.held ∧ (sysFlag i s).tick = s.tick ∧ (sysFlag i s).strct = s.strct ∧
    (sysFlag i s).cfg = s.cfg ∧ (sysFlag i s).hsw = s.hsw ∧ (sysFlag i s).sol = s.sol ∧
    (sysFlag i s).led = s.led ∧ (sysFlag i s).din = s.din ∧ (sysFlag i s).hurdle = s.hurdle ∧
    (sysFlag i s).time = s.time ∧ (sysFlag i s).tally = s.tally ∧ (sysFlag i s).fab = s.fab ∧
    (sysFlag i s).core = s.core ∧ (sysFlag i s).mem = s.mem ∧ (sysFlag i s).que = s.que ∧
    (sysFlag i s).dwin = s.dwin ∧ (sysFlag i s).pert = s.pert ∧ (sysFlag i s).key = s.key ∧
    (sysFlag i s).mbus = s.mbus ∧ (sysFlag i s).aud = s.aud ∧ (sysFlag i s).acc = s.acc ∧
    (sysFlag i s).pwr = s.pwr ∧ (sysFlag i s).upd = s.upd := by
  simp [sysFlag]

/-- sysFlag as an update of those parts. -/
theorem sysFlag_eq (i : Nat) (s : State) :
    sysFlag i s =
      { s with heads := (sysFlag i s).heads, sys := (sysFlag i s).sys, evt := (sysFlag i s).evt } := by
  have h := sysFlag_keeps i s
  generalize sysFlag i s = t at h ⊢
  cases t
  cases s
  simp_all

/-- inTurn rewrites nothing but `heads`, `time`. -/
@[simp] theorem inTurn_keeps (b : Block) (what rank : Nat) (s : State) :
    (inTurn b what rank s).pending = s.pending ∧ (inTurn b what rank s).freeCount = s.freeCount ∧
    (inTurn b what rank s).reports = s.reports ∧ (inTurn b what rank s).rdata = s.rdata ∧
    (inTurn b what rank s).latches = s.latches ∧ (inTurn b what rank s).held = s.held ∧
    (inTurn b what rank s).sys = s.sys ∧ (inTurn b what rank s).evt = s.evt ∧
    (inTurn b what rank s).tick = s.tick ∧ (inTurn b what rank s).strct = s.strct ∧
    (inTurn b what rank s).cfg = s.cfg ∧ (inTurn b what rank s).hsw = s.hsw ∧ (inTurn b what rank s).sol = s.sol ∧
    (inTurn b what rank s).led = s.led ∧ (inTurn b what rank s).din = s.din ∧
    (inTurn b what rank s).hurdle = s.hurdle ∧ (inTurn b what rank s).tally = s.tally ∧
    (inTurn b what rank s).fab = s.fab ∧ (inTurn b what rank s).core = s.core ∧
    (inTurn b what rank s).mem = s.mem ∧ (inTurn b what rank s).que = s.que ∧
    (inTurn b what rank s).dwin = s.dwin ∧ (inTurn b what rank s).pert = s.pert ∧
    (inTurn b what rank s).key = s.key ∧ (inTurn b what rank s).mbus = s.mbus ∧
    (inTurn b what rank s).aud = s.aud ∧ (inTurn b what rank s).acc = s.acc ∧ (inTurn b what rank s).pwr = s.pwr ∧
    (inTurn b what rank s).upd = s.upd := by
  unfold inTurn
  dsimp only
  split <;> simp [modNote, modHead, runCycles]

/-- inTurn as an update of those parts. -/
theorem inTurn_eq (b : Block) (what rank : Nat) (s : State) :
    inTurn b what rank s =
      { s with heads := (inTurn b what rank s).heads, time := (inTurn b what rank s).time } := by
  have h := inTurn_keeps b what rank s
  generalize inTurn b what rank s = t at h ⊢
  cases t
  cases s
  simp_all

/-- reservedWrite rewrites nothing but `evt`, `heads`, `sys`, `time`. -/
@[simp] theorem reservedWrite_keeps (rq : Requester) (addr : Nat) (s : State) :
    (reservedWrite rq addr s).pending = s.pending ∧ (reservedWrite rq addr s).freeCount = s.freeCount ∧
    (reservedWrite rq addr s).reports = s.reports ∧ (reservedWrite rq addr s).rdata = s.rdata ∧
    (reservedWrite rq addr s).latches = s.latches ∧ (reservedWrite rq addr s).held = s.held ∧
    (reservedWrite rq addr s).tick = s.tick ∧ (reservedWrite rq addr s).strct = s.strct ∧
    (reservedWrite rq addr s).cfg = s.cfg ∧ (reservedWrite rq addr s).hsw = s.hsw ∧
    (reservedWrite rq addr s).sol = s.sol ∧ (reservedWrite rq addr s).led = s.led ∧
    (reservedWrite rq addr s).din = s.din ∧ (reservedWrite rq addr s).hurdle = s.hurdle ∧
    (reservedWrite rq addr s).tally = s.tally ∧ (reservedWrite rq addr s).fab = s.fab ∧
    (reservedWrite rq addr s).core = s.core ∧ (reservedWrite rq addr s).mem = s.mem ∧
    (reservedWrite rq addr s).que = s.que ∧ (reservedWrite rq addr s).dwin = s.dwin ∧
    (reservedWrite rq addr s).pert = s.pert ∧ (reservedWrite rq addr s).key = s.key ∧
    (reservedWrite rq addr s).mbus = s.mbus ∧ (reservedWrite rq addr s).aud = s.aud ∧
    (reservedWrite rq addr s).acc = s.acc ∧ (reservedWrite rq addr s).pwr = s.pwr ∧
    (reservedWrite rq addr s).upd = s.upd := by
  unfold reservedWrite
  dsimp only
  split <;> simp

/-- reservedWrite as an update of those parts. -/
theorem reservedWrite_eq (rq : Requester) (addr : Nat) (s : State) :
    reservedWrite rq addr s =
      { s with heads := (reservedWrite rq addr s).heads, sys := (reservedWrite rq addr s).sys, evt := (reservedWrite rq addr s).evt, time := (reservedWrite rq addr s).time } := by
  have h := reservedWrite_keeps rq addr s
  generalize reservedWrite rq addr s = t at h ⊢
  cases t
  cases s
  simp_all

/-- putOrDrop rewrites nothing but `evt`, `heads`, `tally`. -/
@[simp] theorem putOrDrop_keeps (e : Entry) (s : State) :
    (putOrDrop e s).pending = s.pending ∧ (putOrDrop e s).freeCount = s.freeCount ∧
    (putOrDrop e s).reports = s.reports ∧ (putOrDrop e s).rdata = s.rdata ∧ (putOrDrop e s).latches = s.latches ∧
    (putOrDrop e s).held = s.held ∧ (putOrDrop e s).sys = s.sys ∧ (putOrDrop e s).tick = s.tick ∧
    (putOrDrop e s).strct = s.strct ∧ (putOrDrop e s).cfg = s.cfg ∧ (putOrDrop e s).hsw = s.hsw ∧
    (putOrDrop e s).sol = s.sol ∧ (putOrDrop e s).led = s.led ∧ (putOrDrop e s).din = s.din ∧
    (putOrDrop e s).hurdle = s.hurdle ∧ (putOrDrop e s).time = s.time ∧ (putOrDrop e s).fab = s.fab ∧
    (putOrDrop e s).core = s.core ∧ (putOrDrop e s).mem = s.mem ∧ (putOrDrop e s).que = s.que ∧
    (putOrDrop e s).dwin = s.dwin ∧ (putOrDrop e s).pert = s.pert ∧ (putOrDrop e s).key = s.key ∧
    (putOrDrop e s).mbus = s.mbus ∧ (putOrDrop e s).aud = s.aud ∧ (putOrDrop e s).acc = s.acc ∧
    (putOrDrop e s).pwr = s.pwr ∧ (putOrDrop e s).upd = s.upd := by
  unfold putOrDrop
  dsimp only
  (repeat' split) <;> simp

/-- putOrDrop as an update of those parts. -/
theorem putOrDrop_eq (e : Entry) (s : State) :
    putOrDrop e s =
      { s with heads := (putOrDrop e s).heads, evt := (putOrDrop e s).evt, tally := (putOrDrop e s).tally } := by
  have h := putOrDrop_keeps e s
  generalize putOrDrop e s = t at h ⊢
  cases t
  cases s
  simp_all

/-- tallyWrite rewrites nothing but `evt`, `heads`, `tally`. -/
@[simp] theorem tallyWrite_keeps (e : Entry) (s : State) :
    (tallyWrite e s).pending = s.pending ∧ (tallyWrite e s).freeCount = s.freeCount ∧
    (tallyWrite e s).reports = s.reports ∧ (tallyWrite e s).rdata = s.rdata ∧
    (tallyWrite e s).latches = s.latches ∧ (tallyWrite e s).held = s.held ∧ (tallyWrite e s).sys = s.sys ∧
    (tallyWrite e s).tick = s.tick ∧ (tallyWrite e s).strct = s.strct ∧ (tallyWrite e s).cfg = s.cfg ∧
    (tallyWrite e s).hsw = s.hsw ∧ (tallyWrite e s).sol = s.sol ∧ (tallyWrite e s).led = s.led ∧
    (tallyWrite e s).din = s.din ∧ (tallyWrite e s).hurdle = s.hurdle ∧ (tallyWrite e s).time = s.time ∧
    (tallyWrite e s).fab = s.fab ∧ (tallyWrite e s).core = s.core ∧ (tallyWrite e s).mem = s.mem ∧
    (tallyWrite e s).que = s.que ∧ (tallyWrite e s).dwin = s.dwin ∧ (tallyWrite e s).pert = s.pert ∧
    (tallyWrite e s).key = s.key ∧ (tallyWrite e s).mbus = s.mbus ∧ (tallyWrite e s).aud = s.aud ∧
    (tallyWrite e s).acc = s.acc ∧ (tallyWrite e s).pwr = s.pwr ∧ (tallyWrite e s).upd = s.upd := by
  unfold tallyWrite
  dsimp only
  split <;> simp

/-- tallyWrite as an update of those parts. -/
theorem tallyWrite_eq (e : Entry) (s : State) :
    tallyWrite e s =
      { s with heads := (tallyWrite e s).heads, evt := (tallyWrite e s).evt, tally := (tallyWrite e s).tally } := by
  have h := tallyWrite_keeps e s
  generalize tallyWrite e s = t at h ⊢
  cases t
  cases s
  simp_all

/-- logAt rewrites nothing but `evt`, `heads`, `tally`. -/
@[simp] theorem logAt_keeps (time : DWord) (age code sev : Nat) (loc : Word) (payload : DWord) (s : State) :
    (logAt time age code sev loc payload s).pending = s.pending ∧
    (logAt time age code sev loc payload s).freeCount = s.freeCount ∧
    (logAt time age code sev loc payload s).reports = s.reports ∧
    (logAt time age code sev loc payload s).rdata = s.rdata ∧
    (logAt time age code sev loc payload s).latches = s.latches ∧
    (logAt time age code sev loc payload s).held = s.held ∧ (logAt time age code sev loc payload s).sys = s.sys ∧
    (logAt time age code sev loc payload s).tick = s.tick ∧
    (logAt time age code sev loc payload s).strct = s.strct ∧
    (logAt time age code sev loc payload s).cfg = s.cfg ∧ (logAt time age code sev loc payload s).hsw = s.hsw ∧
    (logAt time age code sev loc payload s).sol = s.sol ∧ (logAt time age code sev loc payload s).led = s.led ∧
    (logAt time age code sev loc payload s).din = s.din ∧
    (logAt time age code sev loc payload s).hurdle = s.hurdle ∧
    (logAt time age code sev loc payload s).time = s.time ∧ (logAt time age code sev loc payload s).fab = s.fab ∧
    (logAt time age code sev loc payload s).core = s.core ∧ (logAt time age code sev loc payload s).mem = s.mem ∧
    (logAt time age code sev loc payload s).que = s.que ∧ (logAt time age code sev loc payload s).dwin = s.dwin ∧
    (logAt time age code sev loc payload s).pert = s.pert ∧ (logAt time age code sev loc payload s).key = s.key ∧
    (logAt time age code sev loc payload s).mbus = s.mbus ∧ (logAt time age code sev loc payload s).aud = s.aud ∧
    (logAt time age code sev loc payload s).acc = s.acc ∧ (logAt time age code sev loc payload s).pwr = s.pwr ∧
    (logAt time age code sev loc payload s).upd = s.upd := by
  simp [logAt]

/-- logAt as an update of those parts. -/
theorem logAt_eq (time : DWord) (age code sev : Nat) (loc : Word) (payload : DWord) (s : State) :
    logAt time age code sev loc payload s =
      { s with heads := (logAt time age code sev loc payload s).heads, evt := (logAt time age code sev loc payload s).evt, tally := (logAt time age code sev loc payload s).tally } := by
  have h := logAt_keeps time age code sev loc payload s
  generalize logAt time age code sev loc payload s = t at h ⊢
  cases t
  cases s
  simp_all

/-- logEv rewrites nothing but `evt`, `heads`, `tally`. -/
@[simp] theorem logEv_keeps (code sev : Nat) (loc : Word) (payload : DWord) (s : State) :
    (logEv code sev loc payload s).pending = s.pending ∧ (logEv code sev loc payload s).freeCount = s.freeCount ∧
    (logEv code sev loc payload s).reports = s.reports ∧ (logEv code sev loc payload s).rdata = s.rdata ∧
    (logEv code sev loc payload s).latches = s.latches ∧ (logEv code sev loc payload s).held = s.held ∧
    (logEv code sev loc payload s).sys = s.sys ∧ (logEv code sev loc payload s).tick = s.tick ∧
    (logEv code sev loc payload s).strct = s.strct ∧ (logEv code sev loc payload s).cfg = s.cfg ∧
    (logEv code sev loc payload s).hsw = s.hsw ∧ (logEv code sev loc payload s).sol = s.sol ∧
    (logEv code sev loc payload s).led = s.led ∧ (logEv code sev loc payload s).din = s.din ∧
    (logEv code sev loc payload s).hurdle = s.hurdle ∧ (logEv code sev loc payload s).time = s.time ∧
    (logEv code sev loc payload s).fab = s.fab ∧ (logEv code sev loc payload s).core = s.core ∧
    (logEv code sev loc payload s).mem = s.mem ∧ (logEv code sev loc payload s).que = s.que ∧
    (logEv code sev loc payload s).dwin = s.dwin ∧ (logEv code sev loc payload s).pert = s.pert ∧
    (logEv code sev loc payload s).key = s.key ∧ (logEv code sev loc payload s).mbus = s.mbus ∧
    (logEv code sev loc payload s).aud = s.aud ∧ (logEv code sev loc payload s).acc = s.acc ∧
    (logEv code sev loc payload s).pwr = s.pwr ∧ (logEv code sev loc payload s).upd = s.upd := by
  simp [logEv]

/-- logEv as an update of those parts. -/
theorem logEv_eq (code sev : Nat) (loc : Word) (payload : DWord) (s : State) :
    logEv code sev loc payload s =
      { s with heads := (logEv code sev loc payload s).heads, evt := (logEv code sev loc payload s).evt, tally := (logEv code sev loc payload s).tally } := by
  have h := logEv_keeps code sev loc payload s
  generalize logEv code sev loc payload s = t at h ⊢
  cases t
  cases s
  simp_all

/-- logTb0 rewrites nothing but `evt`, `heads`, `tally`. -/
@[simp] theorem logTb0_keeps (time code sev : Nat) (loc : Word) (payload : DWord) (s : State) :
    (logTb0 time code sev loc payload s).pending = s.pending ∧
    (logTb0 time code sev loc payload s).freeCount = s.freeCount ∧
    (logTb0 time code sev loc payload s).reports = s.reports ∧
    (logTb0 time code sev loc payload s).rdata = s.rdata ∧
    (logTb0 time code sev loc payload s).latches = s.latches ∧
    (logTb0 time code sev loc payload s).held = s.held ∧ (logTb0 time code sev loc payload s).sys = s.sys ∧
    (logTb0 time code sev loc payload s).tick = s.tick ∧ (logTb0 time code sev loc payload s).strct = s.strct ∧
    (logTb0 time code sev loc payload s).cfg = s.cfg ∧ (logTb0 time code sev loc payload s).hsw = s.hsw ∧
    (logTb0 time code sev loc payload s).sol = s.sol ∧ (logTb0 time code sev loc payload s).led = s.led ∧
    (logTb0 time code sev loc payload s).din = s.din ∧ (logTb0 time code sev loc payload s).hurdle = s.hurdle ∧
    (logTb0 time code sev loc payload s).time = s.time ∧ (logTb0 time code sev loc payload s).fab = s.fab ∧
    (logTb0 time code sev loc payload s).core = s.core ∧ (logTb0 time code sev loc payload s).mem = s.mem ∧
    (logTb0 time code sev loc payload s).que = s.que ∧ (logTb0 time code sev loc payload s).dwin = s.dwin ∧
    (logTb0 time code sev loc payload s).pert = s.pert ∧ (logTb0 time code sev loc payload s).key = s.key ∧
    (logTb0 time code sev loc payload s).mbus = s.mbus ∧ (logTb0 time code sev loc payload s).aud = s.aud ∧
    (logTb0 time code sev loc payload s).acc = s.acc ∧ (logTb0 time code sev loc payload s).pwr = s.pwr ∧
    (logTb0 time code sev loc payload s).upd = s.upd := by
  simp [logTb0]

/-- logTb0 as an update of those parts. -/
theorem logTb0_eq (time code sev : Nat) (loc : Word) (payload : DWord) (s : State) :
    logTb0 time code sev loc payload s =
      { s with heads := (logTb0 time code sev loc payload s).heads, evt := (logTb0 time code sev loc payload s).evt, tally := (logTb0 time code sev loc payload s).tally } := by
  have h := logTb0_keeps time code sev loc payload s
  generalize logTb0 time code sev loc payload s = t at h ⊢
  cases t
  cases s
  simp_all

/-- passTo rewrites nothing but `time`. -/
@[simp] theorem passTo_keeps (i : Fin 4) (raw : Nat) (s : State) :
    (passTo i raw s).pending = s.pending ∧ (passTo i raw s).freeCount = s.freeCount ∧
    (passTo i raw s).reports = s.reports ∧ (passTo i raw s).rdata = s.rdata ∧ (passTo i raw s).heads = s.heads ∧
    (passTo i raw s).latches = s.latches ∧ (passTo i raw s).held = s.held ∧ (passTo i raw s).sys = s.sys ∧
    (passTo i raw s).evt = s.evt ∧ (passTo i raw s).tick = s.tick ∧ (passTo i raw s).strct = s.strct ∧
    (passTo i raw s).cfg = s.cfg ∧ (passTo i raw s).hsw = s.hsw ∧ (passTo i raw s).sol = s.sol ∧
    (passTo i raw s).led = s.led ∧ (passTo i raw s).din = s.din ∧ (passTo i raw s).hurdle = s.hurdle ∧
    (passTo i raw s).tally = s.tally ∧ (passTo i raw s).fab = s.fab ∧ (passTo i raw s).core = s.core ∧
    (passTo i raw s).mem = s.mem ∧ (passTo i raw s).que = s.que ∧ (passTo i raw s).dwin = s.dwin ∧
    (passTo i raw s).pert = s.pert ∧ (passTo i raw s).key = s.key ∧ (passTo i raw s).mbus = s.mbus ∧
    (passTo i raw s).aud = s.aud ∧ (passTo i raw s).acc = s.acc ∧ (passTo i raw s).pwr = s.pwr ∧
    (passTo i raw s).upd = s.upd := by
  exact ⟨rfl, rfl, rfl, rfl, rfl, rfl, rfl, rfl, rfl, rfl, rfl, rfl, rfl, rfl, rfl, rfl, rfl, rfl, rfl, rfl, rfl, rfl, rfl, rfl, rfl, rfl, rfl, rfl, rfl, rfl⟩

/-- passTo as an update of those parts. -/
theorem passTo_eq (i : Fin 4) (raw : Nat) (s : State) :
    passTo i raw s =
      { s with time := (passTo i raw s).time } := by
  have h := passTo_keeps i raw s
  generalize passTo i raw s = t at h ⊢
  cases t
  cases s
  simp_all

/-- passToNs rewrites nothing but `time`. -/
@[simp] theorem passToNs_keeps (ns : Nat) (s : State) :
    (passToNs ns s).pending = s.pending ∧ (passToNs ns s).freeCount = s.freeCount ∧
    (passToNs ns s).reports = s.reports ∧ (passToNs ns s).rdata = s.rdata ∧ (passToNs ns s).heads = s.heads ∧
    (passToNs ns s).latches = s.latches ∧ (passToNs ns s).held = s.held ∧ (passToNs ns s).sys = s.sys ∧
    (passToNs ns s).evt = s.evt ∧ (passToNs ns s).tick = s.tick ∧ (passToNs ns s).strct = s.strct ∧
    (passToNs ns s).cfg = s.cfg ∧ (passToNs ns s).hsw = s.hsw ∧ (passToNs ns s).sol = s.sol ∧
    (passToNs ns s).led = s.led ∧ (passToNs ns s).din = s.din ∧ (passToNs ns s).hurdle = s.hurdle ∧
    (passToNs ns s).tally = s.tally ∧ (passToNs ns s).fab = s.fab ∧ (passToNs ns s).core = s.core ∧
    (passToNs ns s).mem = s.mem ∧ (passToNs ns s).que = s.que ∧ (passToNs ns s).dwin = s.dwin ∧
    (passToNs ns s).pert = s.pert ∧ (passToNs ns s).key = s.key ∧ (passToNs ns s).mbus = s.mbus ∧
    (passToNs ns s).aud = s.aud ∧ (passToNs ns s).acc = s.acc ∧ (passToNs ns s).pwr = s.pwr ∧
    (passToNs ns s).upd = s.upd := by
  exact ⟨rfl, rfl, rfl, rfl, rfl, rfl, rfl, rfl, rfl, rfl, rfl, rfl, rfl, rfl, rfl, rfl, rfl, rfl, rfl, rfl, rfl, rfl, rfl, rfl, rfl, rfl, rfl, rfl, rfl, rfl⟩

/-- passToNs as an update of those parts. -/
theorem passToNs_eq (ns : Nat) (s : State) :
    passToNs ns s =
      { s with time := (passToNs ns s).time } := by
  have h := passToNs_keeps ns s
  generalize passToNs ns s = t at h ⊢
  cases t
  cases s
  simp_all

/-- passInTick rewrites nothing but `time`. -/
@[simp] theorem passInTick_keeps (num den : Nat) (s : State) :
    (passInTick num den s).pending = s.pending ∧ (passInTick num den s).freeCount = s.freeCount ∧
    (passInTick num den s).reports = s.reports ∧ (passInTick num den s).rdata = s.rdata ∧
    (passInTick num den s).heads = s.heads ∧ (passInTick num den s).latches = s.latches ∧
    (passInTick num den s).held = s.held ∧ (passInTick num den s).sys = s.sys ∧
    (passInTick num den s).evt = s.evt ∧ (passInTick num den s).tick = s.tick ∧
    (passInTick num den s).strct = s.strct ∧ (passInTick num den s).cfg = s.cfg ∧
    (passInTick num den s).hsw = s.hsw ∧ (passInTick num den s).sol = s.sol ∧ (passInTick num den s).led = s.led ∧
    (passInTick num den s).din = s.din ∧ (passInTick num den s).hurdle = s.hurdle ∧
    (passInTick num den s).tally = s.tally ∧ (passInTick num den s).fab = s.fab ∧
    (passInTick num den s).core = s.core ∧ (passInTick num den s).mem = s.mem ∧
    (passInTick num den s).que = s.que ∧ (passInTick num den s).dwin = s.dwin ∧
    (passInTick num den s).pert = s.pert ∧ (passInTick num den s).key = s.key ∧
    (passInTick num den s).mbus = s.mbus ∧ (passInTick num den s).aud = s.aud ∧
    (passInTick num den s).acc = s.acc ∧ (passInTick num den s).pwr = s.pwr ∧
    (passInTick num den s).upd = s.upd := by
  unfold passInTick
  dsimp only
  split <;> exact ⟨rfl, rfl, rfl, rfl, rfl, rfl, rfl, rfl, rfl, rfl, rfl, rfl, rfl, rfl, rfl, rfl, rfl, rfl, rfl, rfl, rfl, rfl, rfl, rfl, rfl, rfl, rfl, rfl, rfl, rfl⟩

/-- passInTick as an update of those parts. -/
theorem passInTick_eq (num den : Nat) (s : State) :
    passInTick num den s =
      { s with time := (passInTick num den s).time } := by
  have h := passInTick_keeps num den s
  generalize passInTick num den s = t at h ⊢
  cases t
  cases s
  simp_all

/-- ramPut rewrites nothing but `mem`. -/
@[simp] theorem ramPut_keeps (k : Nat) (bs : List Byte) (s : State) :
    (ramPut k bs s).pending = s.pending ∧ (ramPut k bs s).freeCount = s.freeCount ∧
    (ramPut k bs s).reports = s.reports ∧ (ramPut k bs s).rdata = s.rdata ∧ (ramPut k bs s).heads = s.heads ∧
    (ramPut k bs s).latches = s.latches ∧ (ramPut k bs s).held = s.held ∧ (ramPut k bs s).sys = s.sys ∧
    (ramPut k bs s).evt = s.evt ∧ (ramPut k bs s).tick = s.tick ∧ (ramPut k bs s).strct = s.strct ∧
    (ramPut k bs s).cfg = s.cfg ∧ (ramPut k bs s).hsw = s.hsw ∧ (ramPut k bs s).sol = s.sol ∧
    (ramPut k bs s).led = s.led ∧ (ramPut k bs s).din = s.din ∧ (ramPut k bs s).hurdle = s.hurdle ∧
    (ramPut k bs s).time = s.time ∧ (ramPut k bs s).tally = s.tally ∧ (ramPut k bs s).fab = s.fab ∧
    (ramPut k bs s).core = s.core ∧ (ramPut k bs s).que = s.que ∧ (ramPut k bs s).dwin = s.dwin ∧
    (ramPut k bs s).pert = s.pert ∧ (ramPut k bs s).key = s.key ∧ (ramPut k bs s).mbus = s.mbus ∧
    (ramPut k bs s).aud = s.aud ∧ (ramPut k bs s).acc = s.acc ∧ (ramPut k bs s).pwr = s.pwr ∧
    (ramPut k bs s).upd = s.upd := by
  exact ⟨rfl, rfl, rfl, rfl, rfl, rfl, rfl, rfl, rfl, rfl, rfl, rfl, rfl, rfl, rfl, rfl, rfl, rfl, rfl, rfl, rfl, rfl, rfl, rfl, rfl, rfl, rfl, rfl, rfl, rfl⟩

/-- mramPut rewrites nothing but `mem`. -/
@[simp] theorem mramPut_keeps (off : Nat) (bs : List Byte) (s : State) :
    (mramPut off bs s).pending = s.pending ∧ (mramPut off bs s).freeCount = s.freeCount ∧
    (mramPut off bs s).reports = s.reports ∧ (mramPut off bs s).rdata = s.rdata ∧
    (mramPut off bs s).heads = s.heads ∧ (mramPut off bs s).latches = s.latches ∧
    (mramPut off bs s).held = s.held ∧ (mramPut off bs s).sys = s.sys ∧ (mramPut off bs s).evt = s.evt ∧
    (mramPut off bs s).tick = s.tick ∧ (mramPut off bs s).strct = s.strct ∧ (mramPut off bs s).cfg = s.cfg ∧
    (mramPut off bs s).hsw = s.hsw ∧ (mramPut off bs s).sol = s.sol ∧ (mramPut off bs s).led = s.led ∧
    (mramPut off bs s).din = s.din ∧ (mramPut off bs s).hurdle = s.hurdle ∧ (mramPut off bs s).time = s.time ∧
    (mramPut off bs s).tally = s.tally ∧ (mramPut off bs s).fab = s.fab ∧ (mramPut off bs s).core = s.core ∧
    (mramPut off bs s).que = s.que ∧ (mramPut off bs s).dwin = s.dwin ∧ (mramPut off bs s).pert = s.pert ∧
    (mramPut off bs s).key = s.key ∧ (mramPut off bs s).mbus = s.mbus ∧ (mramPut off bs s).aud = s.aud ∧
    (mramPut off bs s).acc = s.acc ∧ (mramPut off bs s).pwr = s.pwr ∧ (mramPut off bs s).upd = s.upd := by
  exact ⟨rfl, rfl, rfl, rfl, rfl, rfl, rfl, rfl, rfl, rfl, rfl, rfl, rfl, rfl, rfl, rfl, rfl, rfl, rfl, rfl, rfl, rfl, rfl, rfl, rfl, rfl, rfl, rfl, rfl, rfl⟩

/-- setFlips rewrites nothing but `mem`. -/
@[simp] theorem setFlips_keeps (k : Nat) (f : BitVec 39) (s : State) :
    (setFlips k f s).pending = s.pending ∧ (setFlips k f s).freeCount = s.freeCount ∧
    (setFlips k f s).reports = s.reports ∧ (setFlips k f s).rdata = s.rdata ∧ (setFlips k f s).heads = s.heads ∧
    (setFlips k f s).latches = s.latches ∧ (setFlips k f s).held = s.held ∧ (setFlips k f s).sys = s.sys ∧
    (setFlips k f s).evt = s.evt ∧ (setFlips k f s).tick = s.tick ∧ (setFlips k f s).strct = s.strct ∧
    (setFlips k f s).cfg = s.cfg ∧ (setFlips k f s).hsw = s.hsw ∧ (setFlips k f s).sol = s.sol ∧
    (setFlips k f s).led = s.led ∧ (setFlips k f s).din = s.din ∧ (setFlips k f s).hurdle = s.hurdle ∧
    (setFlips k f s).time = s.time ∧ (setFlips k f s).tally = s.tally ∧ (setFlips k f s).fab = s.fab ∧
    (setFlips k f s).core = s.core ∧ (setFlips k f s).que = s.que ∧ (setFlips k f s).dwin = s.dwin ∧
    (setFlips k f s).pert = s.pert ∧ (setFlips k f s).key = s.key ∧ (setFlips k f s).mbus = s.mbus ∧
    (setFlips k f s).aud = s.aud ∧ (setFlips k f s).acc = s.acc ∧ (setFlips k f s).pwr = s.pwr ∧
    (setFlips k f s).upd = s.upd := by
  exact ⟨rfl, rfl, rfl, rfl, rfl, rfl, rfl, rfl, rfl, rfl, rfl, rfl, rfl, rfl, rfl, rfl, rfl, rfl, rfl, rfl, rfl, rfl, rfl, rfl, rfl, rfl, rfl, rfl, rfl, rfl⟩

/-- unmark rewrites nothing but `mem`. -/
@[simp] theorem unmark_keeps (k : Nat) (s : State) :
    (unmark k s).pending = s.pending ∧ (unmark k s).freeCount = s.freeCount ∧ (unmark k s).reports = s.reports ∧
    (unmark k s).rdata = s.rdata ∧ (unmark k s).heads = s.heads ∧ (unmark k s).latches = s.latches ∧
    (unmark k s).held = s.held ∧ (unmark k s).sys = s.sys ∧ (unmark k s).evt = s.evt ∧
    (unmark k s).tick = s.tick ∧ (unmark k s).strct = s.strct ∧ (unmark k s).cfg = s.cfg ∧
    (unmark k s).hsw = s.hsw ∧ (unmark k s).sol = s.sol ∧ (unmark k s).led = s.led ∧ (unmark k s).din = s.din ∧
    (unmark k s).hurdle = s.hurdle ∧ (unmark k s).time = s.time ∧ (unmark k s).tally = s.tally ∧
    (unmark k s).fab = s.fab ∧ (unmark k s).core = s.core ∧ (unmark k s).que = s.que ∧
    (unmark k s).dwin = s.dwin ∧ (unmark k s).pert = s.pert ∧ (unmark k s).key = s.key ∧
    (unmark k s).mbus = s.mbus ∧ (unmark k s).aud = s.aud ∧ (unmark k s).acc = s.acc ∧ (unmark k s).pwr = s.pwr ∧
    (unmark k s).upd = s.upd := by
  exact ⟨rfl, rfl, rfl, rfl, rfl, rfl, rfl, rfl, rfl, rfl, rfl, rfl, rfl, rfl, rfl, rfl, rfl, rfl, rfl, rfl, rfl, rfl, rfl, rfl, rfl, rfl, rfl, rfl, rfl, rfl⟩

/-- refuseWrite rewrites nothing but `evt`, `heads`, `sys`, `time`. -/
@[simp] theorem refuseWrite_keeps (b : Block) (rq : Requester) (addr : Nat) (s : State) :
    (refuseWrite b rq addr s).pending = s.pending ∧ (refuseWrite b rq addr s).freeCount = s.freeCount ∧
    (refuseWrite b rq addr s).reports = s.reports ∧ (refuseWrite b rq addr s).rdata = s.rdata ∧
    (refuseWrite b rq addr s).latches = s.latches ∧ (refuseWrite b rq addr s).held = s.held ∧
    (refuseWrite b rq addr s).tick = s.tick ∧ (refuseWrite b rq addr s).strct = s.strct ∧
    (refuseWrite b rq addr s).cfg = s.cfg ∧ (refuseWrite b rq addr s).hsw = s.hsw ∧
    (refuseWrite b rq addr s).sol = s.sol ∧ (refuseWrite b rq addr s).led = s.led ∧
    (refuseWrite b rq addr s).din = s.din ∧ (refuseWrite b rq addr s).hurdle = s.hurdle ∧
    (refuseWrite b rq addr s).tally = s.tally ∧ (refuseWrite b rq addr s).fab = s.fab ∧
    (refuseWrite b rq addr s).core = s.core ∧ (refuseWrite b rq addr s).mem = s.mem ∧
    (refuseWrite b rq addr s).que = s.que ∧ (refuseWrite b rq addr s).dwin = s.dwin ∧
    (refuseWrite b rq addr s).pert = s.pert ∧ (refuseWrite b rq addr s).key = s.key ∧
    (refuseWrite b rq addr s).mbus = s.mbus ∧ (refuseWrite b rq addr s).aud = s.aud ∧
    (refuseWrite b rq addr s).acc = s.acc ∧ (refuseWrite b rq addr s).pwr = s.pwr ∧
    (refuseWrite b rq addr s).upd = s.upd := by
  unfold refuseWrite
  split <;> simp

/-- refuseWrite as an update of those parts. -/
theorem refuseWrite_eq (b : Block) (rq : Requester) (addr : Nat) (s : State) :
    refuseWrite b rq addr s =
      { s with heads := (refuseWrite b rq addr s).heads, sys := (refuseWrite b rq addr s).sys, evt := (refuseWrite b rq addr s).evt, time := (refuseWrite b rq addr s).time } := by
  have h := refuseWrite_keeps b rq addr s
  generalize refuseWrite b rq addr s = t at h ⊢
  cases t
  cases s
  simp_all

/-- accessErr rewrites nothing but `heads`. -/
@[simp] theorem accessErr_keeps (addr : Nat) (s : State) :
    (accessErr addr s).pending = s.pending ∧ (accessErr addr s).freeCount = s.freeCount ∧
    (accessErr addr s).reports = s.reports ∧ (accessErr addr s).rdata = s.rdata ∧
    (accessErr addr s).latches = s.latches ∧ (accessErr addr s).held = s.held ∧ (accessErr addr s).sys = s.sys ∧
    (accessErr addr s).evt = s.evt ∧ (accessErr addr s).tick = s.tick ∧ (accessErr addr s).strct = s.strct ∧
    (accessErr addr s).cfg = s.cfg ∧ (accessErr addr s).hsw = s.hsw ∧ (accessErr addr s).sol = s.sol ∧
    (accessErr addr s).led = s.led ∧ (accessErr addr s).din = s.din ∧ (accessErr addr s).hurdle = s.hurdle ∧
    (accessErr addr s).time = s.time ∧ (accessErr addr s).tally = s.tally ∧ (accessErr addr s).fab = s.fab ∧
    (accessErr addr s).core = s.core ∧ (accessErr addr s).mem = s.mem ∧ (accessErr addr s).que = s.que ∧
    (accessErr addr s).dwin = s.dwin ∧ (accessErr addr s).pert = s.pert ∧ (accessErr addr s).key = s.key ∧
    (accessErr addr s).mbus = s.mbus ∧ (accessErr addr s).aud = s.aud ∧ (accessErr addr s).acc = s.acc ∧
    (accessErr addr s).pwr = s.pwr ∧ (accessErr addr s).upd = s.upd := by
  unfold accessErr
  split <;> simp

/-- accessErr as an update of those parts. -/
theorem accessErr_eq (addr : Nat) (s : State) :
    accessErr addr s =
      { s with heads := (accessErr addr s).heads } := by
  have h := accessErr_keeps addr s
  generalize accessErr addr s = t at h ⊢
  cases t
  cases s
  simp_all

/-- setOos rewrites nothing but `evt`, `fab`, `heads`, `mbus`, `tally`, `time`. -/
@[simp] theorem setOos_keeps (n : Fin 4) (oos : Bool) (cause : Nat) (s : State) :
    (setOos n oos cause s).pending = s.pending ∧ (setOos n oos cause s).freeCount = s.freeCount ∧
    (setOos n oos cause s).reports = s.reports ∧ (setOos n oos cause s).rdata = s.rdata ∧
    (setOos n oos cause s).latches = s.latches ∧ (setOos n oos cause s).held = s.held ∧
    (setOos n oos cause s).sys = s.sys ∧ (setOos n oos cause s).tick = s.tick ∧
    (setOos n oos cause s).strct = s.strct ∧ (setOos n oos cause s).cfg = s.cfg ∧
    (setOos n oos cause s).hsw = s.hsw ∧ (setOos n oos cause s).sol = s.sol ∧ (setOos n oos cause s).led = s.led ∧
    (setOos n oos cause s).din = s.din ∧ (setOos n oos cause s).hurdle = s.hurdle ∧
    (setOos n oos cause s).core = s.core ∧ (setOos n oos cause s).mem = s.mem ∧
    (setOos n oos cause s).que = s.que ∧ (setOos n oos cause s).dwin = s.dwin ∧
    (setOos n oos cause s).pert = s.pert ∧ (setOos n oos cause s).key = s.key ∧
    (setOos n oos cause s).aud = s.aud ∧ (setOos n oos cause s).acc = s.acc ∧ (setOos n oos cause s).pwr = s.pwr ∧
    (setOos n oos cause s).upd = s.upd := by
  unfold setOos
  dsimp only
  split
  · simp
  · split <;> split <;> simp

/-- logPwr rewrites nothing but `evt`, `heads`, `tally`. -/
@[simp] theorem logPwr_keeps (code sev : Nat) (payload : List (Nat × Nat)) (s : State) :
    (logPwr code sev payload s).pending = s.pending ∧ (logPwr code sev payload s).freeCount = s.freeCount ∧
    (logPwr code sev payload s).reports = s.reports ∧ (logPwr code sev payload s).rdata = s.rdata ∧
    (logPwr code sev payload s).latches = s.latches ∧ (logPwr code sev payload s).held = s.held ∧
    (logPwr code sev payload s).sys = s.sys ∧ (logPwr code sev payload s).tick = s.tick ∧
    (logPwr code sev payload s).strct = s.strct ∧ (logPwr code sev payload s).cfg = s.cfg ∧
    (logPwr code sev payload s).hsw = s.hsw ∧ (logPwr code sev payload s).sol = s.sol ∧
    (logPwr code sev payload s).led = s.led ∧ (logPwr code sev payload s).din = s.din ∧
    (logPwr code sev payload s).hurdle = s.hurdle ∧ (logPwr code sev payload s).time = s.time ∧
    (logPwr code sev payload s).fab = s.fab ∧ (logPwr code sev payload s).core = s.core ∧
    (logPwr code sev payload s).mem = s.mem ∧ (logPwr code sev payload s).que = s.que ∧
    (logPwr code sev payload s).dwin = s.dwin ∧ (logPwr code sev payload s).pert = s.pert ∧
    (logPwr code sev payload s).key = s.key ∧ (logPwr code sev payload s).mbus = s.mbus ∧
    (logPwr code sev payload s).aud = s.aud ∧ (logPwr code sev payload s).acc = s.acc ∧
    (logPwr code sev payload s).pwr = s.pwr ∧ (logPwr code sev payload s).upd = s.upd := by
  simp [logPwr]

/-- logPwr as an update of those parts. -/
theorem logPwr_eq (code sev : Nat) (payload : List (Nat × Nat)) (s : State) :
    logPwr code sev payload s =
      { s with heads := (logPwr code sev payload s).heads, evt := (logPwr code sev payload s).evt, tally := (logPwr code sev payload s).tally } := by
  have h := logPwr_keeps code sev payload s
  generalize logPwr code sev payload s = t at h ⊢
  cases t
  cases s
  simp_all

/-- logUpd rewrites nothing but `evt`, `heads`, `tally`. -/
@[simp] theorem logUpd_keeps (code sev : Nat) (payload : List (Nat × Nat)) (s : State) :
    (logUpd code sev payload s).pending = s.pending ∧ (logUpd code sev payload s).freeCount = s.freeCount ∧
    (logUpd code sev payload s).reports = s.reports ∧ (logUpd code sev payload s).rdata = s.rdata ∧
    (logUpd code sev payload s).latches = s.latches ∧ (logUpd code sev payload s).held = s.held ∧
    (logUpd code sev payload s).sys = s.sys ∧ (logUpd code sev payload s).tick = s.tick ∧
    (logUpd code sev payload s).strct = s.strct ∧ (logUpd code sev payload s).cfg = s.cfg ∧
    (logUpd code sev payload s).hsw = s.hsw ∧ (logUpd code sev payload s).sol = s.sol ∧
    (logUpd code sev payload s).led = s.led ∧ (logUpd code sev payload s).din = s.din ∧
    (logUpd code sev payload s).hurdle = s.hurdle ∧ (logUpd code sev payload s).time = s.time ∧
    (logUpd code sev payload s).fab = s.fab ∧ (logUpd code sev payload s).core = s.core ∧
    (logUpd code sev payload s).mem = s.mem ∧ (logUpd code sev payload s).que = s.que ∧
    (logUpd code sev payload s).dwin = s.dwin ∧ (logUpd code sev payload s).pert = s.pert ∧
    (logUpd code sev payload s).key = s.key ∧ (logUpd code sev payload s).mbus = s.mbus ∧
    (logUpd code sev payload s).aud = s.aud ∧ (logUpd code sev payload s).acc = s.acc ∧
    (logUpd code sev payload s).pwr = s.pwr ∧ (logUpd code sev payload s).upd = s.upd := by
  simp [logUpd]

/-- logUpd as an update of those parts. -/
theorem logUpd_eq (code sev : Nat) (payload : List (Nat × Nat)) (s : State) :
    logUpd code sev payload s =
      { s with heads := (logUpd code sev payload s).heads, evt := (logUpd code sev payload s).evt, tally := (logUpd code sev payload s).tally } := by
  have h := logUpd_keeps code sev payload s
  generalize logUpd code sev payload s = t at h ⊢
  cases t
  cases s
  simp_all

/-- updIrq rewrites nothing but `evt`, `heads`. -/
@[simp] theorem updIrq_keeps (i : Nat) (s : State) :
    (updIrq i s).pending = s.pending ∧ (updIrq i s).freeCount = s.freeCount ∧ (updIrq i s).reports = s.reports ∧
    (updIrq i s).rdata = s.rdata ∧ (updIrq i s).latches = s.latches ∧ (updIrq i s).held = s.held ∧
    (updIrq i s).sys = s.sys ∧ (updIrq i s).tick = s.tick ∧ (updIrq i s).strct = s.strct ∧
    (updIrq i s).cfg = s.cfg ∧ (updIrq i s).hsw = s.hsw ∧ (updIrq i s).sol = s.sol ∧ (updIrq i s).led = s.led ∧
    (updIrq i s).din = s.din ∧ (updIrq i s).hurdle = s.hurdle ∧ (updIrq i s).time = s.time ∧
    (updIrq i s).tally = s.tally ∧ (updIrq i s).fab = s.fab ∧ (updIrq i s).core = s.core ∧
    (updIrq i s).mem = s.mem ∧ (updIrq i s).que = s.que ∧ (updIrq i s).dwin = s.dwin ∧
    (updIrq i s).pert = s.pert ∧ (updIrq i s).key = s.key ∧ (updIrq i s).mbus = s.mbus ∧
    (updIrq i s).aud = s.aud ∧ (updIrq i s).acc = s.acc ∧ (updIrq i s).pwr = s.pwr ∧
    (updIrq i s).upd = s.upd := by
  simp [updIrq]

/-- updIrq as an update of those parts. -/
theorem updIrq_eq (i : Nat) (s : State) :
    updIrq i s =
      { s with heads := (updIrq i s).heads, evt := (updIrq i s).evt } := by
  have h := updIrq_keeps i s
  generalize updIrq i s = t at h ⊢
  cases t
  cases s
  simp_all

/-- updErr rewrites nothing but `heads`. -/
@[simp] theorem updErr_keeps (i : Nat) (s : State) :
    (updErr i s).pending = s.pending ∧ (updErr i s).freeCount = s.freeCount ∧ (updErr i s).reports = s.reports ∧
    (updErr i s).rdata = s.rdata ∧ (updErr i s).latches = s.latches ∧ (updErr i s).held = s.held ∧
    (updErr i s).sys = s.sys ∧ (updErr i s).evt = s.evt ∧ (updErr i s).tick = s.tick ∧
    (updErr i s).strct = s.strct ∧ (updErr i s).cfg = s.cfg ∧ (updErr i s).hsw = s.hsw ∧
    (updErr i s).sol = s.sol ∧ (updErr i s).led = s.led ∧ (updErr i s).din = s.din ∧
    (updErr i s).hurdle = s.hurdle ∧ (updErr i s).time = s.time ∧ (updErr i s).tally = s.tally ∧
    (updErr i s).fab = s.fab ∧ (updErr i s).core = s.core ∧ (updErr i s).mem = s.mem ∧ (updErr i s).que = s.que ∧
    (updErr i s).dwin = s.dwin ∧ (updErr i s).pert = s.pert ∧ (updErr i s).key = s.key ∧
    (updErr i s).mbus = s.mbus ∧ (updErr i s).aud = s.aud ∧ (updErr i s).acc = s.acc ∧ (updErr i s).pwr = s.pwr ∧
    (updErr i s).upd = s.upd := by
  simp [updErr]

/-- updErr as an update of those parts. -/
theorem updErr_eq (i : Nat) (s : State) :
    updErr i s =
      { s with heads := (updErr i s).heads } := by
  have h := updErr_keeps i s
  generalize updErr i s = t at h ⊢
  cases t
  cases s
  simp_all

/-- logSol rewrites nothing but `evt`, `heads`, `tally`. -/
@[simp] theorem logSol_keeps (k : Fin 16) (code sev : Nat) (payload : DWord) (s : State) :
    (logSol k code sev payload s).pending = s.pending ∧ (logSol k code sev payload s).freeCount = s.freeCount ∧
    (logSol k code sev payload s).reports = s.reports ∧ (logSol k code sev payload s).rdata = s.rdata ∧
    (logSol k code sev payload s).latches = s.latches ∧ (logSol k code sev payload s).held = s.held ∧
    (logSol k code sev payload s).sys = s.sys ∧ (logSol k code sev payload s).tick = s.tick ∧
    (logSol k code sev payload s).strct = s.strct ∧ (logSol k code sev payload s).cfg = s.cfg ∧
    (logSol k code sev payload s).hsw = s.hsw ∧ (logSol k code sev payload s).sol = s.sol ∧
    (logSol k code sev payload s).led = s.led ∧ (logSol k code sev payload s).din = s.din ∧
    (logSol k code sev payload s).hurdle = s.hurdle ∧ (logSol k code sev payload s).time = s.time ∧
    (logSol k code sev payload s).fab = s.fab ∧ (logSol k code sev payload s).core = s.core ∧
    (logSol k code sev payload s).mem = s.mem ∧ (logSol k code sev payload s).que = s.que ∧
    (logSol k code sev payload s).dwin = s.dwin ∧ (logSol k code sev payload s).pert = s.pert ∧
    (logSol k code sev payload s).key = s.key ∧ (logSol k code sev payload s).mbus = s.mbus ∧
    (logSol k code sev payload s).aud = s.aud ∧ (logSol k code sev payload s).acc = s.acc ∧
    (logSol k code sev payload s).pwr = s.pwr ∧ (logSol k code sev payload s).upd = s.upd := by
  simp [logSol]

/-- logSol as an update of those parts. -/
theorem logSol_eq (k : Fin 16) (code sev : Nat) (payload : DWord) (s : State) :
    logSol k code sev payload s =
      { s with heads := (logSol k code sev payload s).heads, evt := (logSol k code sev payload s).evt, tally := (logSol k code sev payload s).tally } := by
  have h := logSol_keeps k code sev payload s
  generalize logSol k code sev payload s = t at h ⊢
  cases t
  cases s
  simp_all

/-! ### What they leave -/

/-- The head registers of a block depend on `heads` alone. -/
theorem head_congr (b : Block) (s t : State) (h : t.heads = s.heads) : t.head b = s.head b := by
  simp [State.head, h]

/-- Raising a line leaves every head. -/
@[simp] theorem raiseLine_head (n : Nat) (b : Block) (s : State) : (raiseLine n s).head b = s.head b := rfl

/-- Refreshing a line leaves every head. -/
@[simp] theorem refreshLine_head (b c : Block) (s : State) : (refreshLine b s).head c = s.head c :=
  head_congr c _ _ (by simp)

/-- A note of the cycle in progress changes no register of the head. -/
@[simp] theorem modNote_head (b : Block) (f : CycNote → CycNote) (s : State) :
    (modNote b f s).head b = { s.head b with cyc := f (s.cycNote b) } := by
  simp [modNote]

/-- The other blocks' heads stand. -/
@[simp] theorem modNote_head_other (b c : Block) (f : CycNote → CycNote) (s : State) (h : b ≠ c) :
    (modNote b f s).head c = s.head c := by
  simp [modNote, h]

/-- An interrupt bit that hardware sets. -/
@[simp] theorem setIrq_irq (b : Block) (i : Nat) (s : State) :
    ((setIrq b i s).head b).irq = setBit (s.head b).irq i := by
  simp [setIrq, hwBit]

/-- It leaves the enable mask. -/
@[simp] theorem setIrq_en (b : Block) (i : Nat) (s : State) : ((setIrq b i s).head b).en = (s.head b).en := by
  simp [setIrq, hwBit]

/-- It leaves the error bits. -/
@[simp] theorem setIrq_err (b : Block) (i : Nat) (s : State) : ((setIrq b i s).head b).err = (s.head b).err := by
  simp [setIrq, hwBit]

/-- The other blocks' heads stand. -/
@[simp] theorem setIrq_head_other (b c : Block) (i : Nat) (s : State) (h : b ≠ c) :
    (setIrq b i s).head c = s.head c := by
  simp [setIrq, hwBit, h]

/-- An error bit that hardware sets. -/
@[simp] theorem setErr_err (b : Block) (i : Nat) (s : State) :
    ((setErr b i s).head b).err = setBit (s.head b).err i := by
  simp [setErr, hwBit]

/-- It leaves the interrupt bits. -/
@[simp] theorem setErr_irq (b : Block) (i : Nat) (s : State) : ((setErr b i s).head b).irq = (s.head b).irq := by
  simp [setErr, hwBit]

/-- It leaves the enable mask. -/
@[simp] theorem setErr_en (b : Block) (i : Nat) (s : State) : ((setErr b i s).head b).en = (s.head b).en := by
  simp [setErr, hwBit]

/-- The other blocks' heads stand. -/
@[simp] theorem setErr_head_other (b c : Block) (i : Nat) (s : State) (h : b ≠ c) :
    (setErr b i s).head c = s.head c := by
  simp [setErr, hwBit, h]

/-- A counter that rises touches no other block's head. -/
@[simp] theorem bump_head_other (b c : Block) (off lo n : Nat) (s : State) (h : b ≠ c) :
    (bump b off lo n s).head c = s.head c := by
  simp [bump, h]

/-- An entry touches no head but the tally's. -/
@[simp] theorem putOrDrop_head (e : Entry) (c : Block) (s : State) (h : c ≠ .tally) :
    (putOrDrop e s).head c = s.head c := by
  have h' : Block.tally ≠ c := fun e => h e.symm
  have k : ∀ (i : Nat) (u : State), (setIrq .tally i u).head c = u.head c := fun i u => setIrq_head_other _ _ _ _ h'
  unfold putOrDrop
  dsimp only
  split
  · split
    · split
      · exact k 0 { s with tally := s.tally.put s.cycle e }
      · exact k 0 { s with tally := s.tally.put s.cycle e }
    · split <;> rfl
  · exact (k 2 _).trans (bump_head_other _ _ _ _ _ _ h')

/-- An entry touches no head but the tally's. -/
@[simp] theorem tallyWrite_head (e : Entry) (c : Block) (s : State) (h : c ≠ .tally) :
    (tallyWrite e s).head c = s.head c := by
  unfold tallyWrite
  dsimp only
  split
  · rw [putOrDrop_head _ _ _ h]
    exact (head_congr c _ _ rfl).trans (putOrDrop_head _ _ _ h)
  · exact putOrDrop_head _ _ _ h

/-- An engine's entry touches no head but the tally's. -/
@[simp] theorem logAt_head (time : DWord) (age code sev : Nat) (loc : Word) (p : DWord) (c : Block) (s : State)
    (h : c ≠ .tally) : (logAt time age code sev loc p s).head c = s.head c := by
  simp [logAt, h]

/-- An engine's entry touches no head but the tally's. -/
@[simp] theorem logEv_head (code sev : Nat) (loc : Word) (p : DWord) (c : Block) (s : State) (h : c ≠ .tally) :
    (logEv code sev loc p s).head c = s.head c := by
  simp [logEv, h]

/-- An entry on TB0 touches no head but the tally's. -/
@[simp] theorem logTb0_head (time code sev : Nat) (loc : Word) (p : DWord) (c : Block) (s : State) (h : c ≠ .tally) :
    (logTb0 time code sev loc p s).head c = s.head c :=
  (head_congr c _ _ rfl).trans ((tallyWrite_head _ _ _ h).trans (head_congr c _ _ rfl))

/-- The event line of a block whose enabled status bits are not all 0 is pending after a refresh. -/
theorem refreshLine_pend (b : Block) (s : State) (h : (s.head b).irq &&& (s.head b).en ≠ 0) :
    (refreshLine b s).evt.pend.getLsbD b.idx.val = true := by
  unfold refreshLine
  rw [if_neg h]
  exact raiseLine_pend _ _ (by omega)

end Sys2Proof.Machine
end

