-- ==== Sys2Proof/Tests/Slice0.lean ====
section
/-! SUPPORT. The author's tests: the ill-formed commands that well-formedness refuses, worked examples of the manual,
  and
for every statement with hypotheses a state and operands that meet them, clause by clause. -/

namespace Sys2Proof.Tests

open Sys2Proof
open Sys2Proof.Machine

set_option Elab.async false

/-! ### States for the tests -/

/-- A key slot whose two copies hold a key for a use, under the root of a life-cycle state. -/
def live (flag : Nat) (key : BitVec 256) (root : Nat) : KeySlot :=
  ⟨some ⟨true, flag, key, root, 1, 0⟩, some ⟨true, flag, key, root, 1, 0⟩, 0⟩

/-- A tick in progress under an image in force, at a phase. -/
def ticking (p : Phase) : State :=
  { State.reset with
    strct := { State.reset.strct with inForce := true }
    tick := { State.reset.tick with phase := p, count := 1000, executed := 1000 }
    pwr := { State.reset.pwr with starting := false } }

/-- The module in a power mode. -/
def inMode (m : PwrMode) : State := { ticking .off with pwr := { (ticking .off).pwr with mode := m } }

/-- A member at position 2 of a fabric of 5, in the core window. -/
def member (bw : Nat) : State :=
  { ticking .core with
    fab := { State.reset.fab with
      state := .member, mustered := true, pos := 2, n := 5, bw := bw, gen := 7, serial := 77, roll := [5, 77, 9]
      port := State.reset.fab.port.map fun p => { p with up := true, link := true } }
    cfg := { Image.empty with slotBody := [1, 0, 0, 0xFF, 0, 0, 9, 7, 1, 4, 100, 0, 200, 0, 0, 0] } }

/-- A frame of the fabric from a position, of a kind and with a payload. -/
def frame (src kind : Nat) (payload : List Byte) : List Byte :=
  header 0xFF src kind 9 7 payload.length false 1000 3 ++ payload

/-- Bytes of one value. -/
def rep (n : Nat) (b : Byte) : List Byte := List.replicate n b

/-- The buses running, each in a role, with its transmit queue 7. -/
def buses (role : Nat) (wake : Bool) : State :=
  { ticking .measure with
    cfg := { Image.empty with
      filterBody := [6, 0, 0, 0, 0, 0, 0, 0] ++ (List.range 6).flatMap fun k =>
        [1, BitVec.ofNat 8 k, BitVec.ofNat 8 (role * 8 + 4 + if wake then 32 else 0), 0, 0, 0, 0, 0, 0, 0, 0, 0, 0, 7,
          5, 8] }
    mbus := { State.reset.mbus with
      ch := State.reset.mbus.ch.map fun c => { c with initReq := false, inInit := false, trx := 0 } } }

/-- Access enabled: a driver reader and a depot reader, with their key released. -/
def readers (locked : Bool) : State :=
  { ticking .measure with
    cfg := { Image.empty with
      accessBody := [3, 5, 1, 2, 10, 3, 20, 0] ++ ([1, 1, 0, 100, 5, 0, 1, 0] ++ rep 20 0) ++
        ([2, 1, 0, 9, 6, 0, 1, 0] ++ rep 20 0) }
    key := { State.reset.key with
      released := true
      slot := Vector.replicate 64 (live 2 0 State.reset.key.lcs) }
    acc := { State.reset.acc with lockUntil := if locked then some 5 else none } }

/-- A key core that takes commands in a life cycle state, all slots live with a flag. -/
def keys (lcs flag : Nat) (arg : Word) : State :=
  { ticking .core with
    key := { State.reset.key with
      state := .idle, lcs := lcs, arg := arg
      slot := Vector.replicate 64 (live flag 0 lcs) } }

/-- The update engine in a state, its activation at tick 1001 with its boot record written or not. -/
def update (p : Phase) (u : UpdState) (written : Bool) : State :=
  { ticking p with upd := { State.reset.upd with state := u, armed := 1001, written := written } }

/-- TB1 in service and driving the tick. -/
def tb1 (s : State) : State :=
  { s with
    time := { s.time with tb := s.time.tb.map fun b => { b with oos := false } }
    tick := { s.tick with src := true } }

/-- The word `w` at the start of the shepherd core's program. -/
def prog (w : DWord) : State :=
  ramPut (progKey 0 0) (leBytes 8 w.toNat) (modCpu 0 (fun x => { x with run := .running, pc := 0 }) (ticking .core))

/-- A member that authenticates its frames with key slot 0. -/
def authMember : State :=
  { member 1 with
    cfg := { Image.empty with slotBody := [1, 0, 0, 0, 0, 0, 9, 7, 1, 4, 100, 0, 200, 0, 0, 0] }
    key := { State.reset.key with
      released := true, slot := State.reset.key.slot.set 0 (live 8 5 State.reset.key.lcs) } }

/-- A frame from position 1 of generation 7, before its tag. -/
def untagged (kind : Nat) (payload : List Byte) : List Byte :=
  header 0xFF 1 kind 9 7 payload.length true 1000 3 ++ payload

/-- The frame with its tag. -/
def tagged (kind : Nat) (payload : List Byte) : List Byte :=
  untagged kind payload ++ authMember.frameTag (untagged kind payload)

/-- Everything that a frame must satisfy but the value of its tag and the length it gives it. -/
def takesBut (s : State) (kind : Nat) (f : List Byte) : Bool :=
  headerOk f && frKind f == kind && s.consumes f && s.authOn && s.authKey && frTag f && frGen f == s.ownGen &&
  frKind f != 1 && frKind f != 2 && frKind f != 6 && frKind f != 7 && frKind f != 8

/-- A frame is taken that carries its own tag of 8 bytes. -/
theorem test_tagged (s : State) (kind n : Nat) (g t : List Byte) (len : g.length = 16 + n)
    (lenF : frLen (g ++ t) = n) (lenG : frLen g = n) (kindF : frKind (g ++ t) = kind) (kindG : frKind g = kind)
    (genF : frGen (g ++ t) = frGen g) (tag : s.frameTag g = t) (size : t.length = 8) (not6 : kind ≠ 6)
    (ok : takesBut s kind (g ++ t) = true) : s.takesFrame kind (g ++ t) = true := by
  have same : s.frameTag (g ++ t) = slice (g ++ t) (16 + frLen (g ++ t)) 8 := by
    have e : s.frameTag (g ++ t) = s.frameTag g := by
      simp only [State.frameTag, lenF, lenG, kindF, kindG, genF, not6, if_false, ← len, List.take_left,
        List.take_length]
    rw [e, tag, lenF, slice, ← len]
    refine List.ext_getElem (by simp [size]) fun i h _ => ?_
    simp [byteAt, List.getD_eq_getElem?_getD, List.getElem?_append_right, h]
  simp only [takesBut, Bool.and_eq_true, bne_iff_ne] at ok
  have sized : frSize (g ++ t) = (g ++ t).length := by
    rw [frSize, lenF, List.length_append, len, size]
    simp only [ok, if_true]
  simp [State.takesFrame, State.accepts, State.tagOk, same, sized, ok]

/-- The member's key for either length. -/
theorem test_member_key :
    authMember.aesKey authMember.cfg.authSlot = leBytes (if Config.aes256 0 then 32 else 16) 5 := by
  have slot : authMember.cfg.authSlot = 0 := by decide +kernel
  have key : (authMember.slot 0).key.toNat = 5 := by decide +kernel
  rw [State.aesKey, slot, key]

/-- The tags are 8 bytes for either length of the key. -/
theorem test_tag_length (f : List Byte)
    (ok : ∀ long : Bool,
      ((cmac (kdf (leBytes (if long then 32 else 16) 5) [0x64, 0x72, 0x6F, 0x76, 0x65]
        (leBytes 2 (if frKind f = 1 then 0 else (frGen f).toNat)))
        (if frKind f = 6 then (f.take (16 + frLen f)).take 24 ++ (f.take (16 + frLen f)).drop 32
          else f.take (16 + frLen f))).take 8).length = 8) :
    (authMember.frameTag f).length = 8 := by
  have derived (g : Nat) : authMember.sessionKey g = kdf (authMember.aesKey authMember.cfg.authSlot)
      [0x64, 0x72, 0x6F, 0x76, 0x65] (leBytes 2 g) := rfl
  rw [State.frameTag, derived, test_member_key]
  exact ok _

/-- No transaction fits before those that wait. -/
def busy64 (s : State) : State := { s with dwin := { s.dwin with inuse := 64 } }

/-- A member whose MSGTXQ, queue 7, holds one entry of zeros. -/
def sender : State :=
  { member 1 with
    que := { State.reset.que with
      bind := State.reset.que.bind.set 7 (some ⟨3, 4, 2, 0, 1, 5⟩)
      q := State.reset.que.q.set 7 { State.reset.que.q[7] with count := 1 } } }

/-- A perturbation tile with MEMCTL to enable, in a life cycle state. -/
def pert (lcs : Nat) : State :=
  { ticking .core with
    key := { State.reset.key with lcs := lcs }
    pert := { State.reset.pert with enable := 0x40, live := 0x40, memaddr := 0x100 } }

/-- Key slots 0 and 1 hold the base point of the curve as an image key, in a life cycle state. -/
def imageKey : KeyBlk :=
  { State.reset.key with
    slot := (State.reset.key.slot.set 0 (live 1 (BitVec.ofNat 256 p256gx) 2)).set 1
      (live 1 (BitVec.ofNat 256 p256gy) 2)
    lcs := 2 }

/-- The smallest image that passes every check, with the sections PINS, OUTPUTS, HURDLE, BANKS and PROOF, and KEYSLOT 0:
its header and directory (Tables 3.2, 3.3), its signature, and its sections. -/
def smallImage : List Byte :=
  [0x4B, 0x4F, 0x52, 0x58, 0x01, 0x00, 0x00, 0x00, 0x24, 0x00, 0x80, 0x04, 0xB8, 0x02, 0x00, 0x00, 0x05, 0x00, 0x00,
  0x00, 0x05] ++ rep 11 0 ++ [0x02, 0x00, 0x01, 0x00, 0xB0, 0x00, 0x00, 0x00, 0x00, 0x01] ++ rep 6 0 ++ [0x07, 0x00,
  0x01, 0x00, 0xB0, 0x01, 0x00, 0x00, 0x10] ++ rep 7 0 ++ [0x08, 0x00, 0x01, 0x00, 0xC0, 0x01, 0x00, 0x00, 0x10] ++
  rep 7 0 ++ [0x0D, 0x00, 0x01, 0x00, 0xD0, 0x01, 0x00, 0x00, 0x18] ++ rep 7 0 ++ [0x0F, 0x00, 0x01, 0x00, 0xE8,
  0x01, 0x00, 0x00, 0xD0] ++ rep 7 0 ++ beBytes 32 0x3ed7a28ec648edce5d5b7e252f6b2aafbb44835114a24b3caa8f710f64993bc2
  ++ beBytes 32 0xa7fad5da17a65f035a09164cc0ea50e220bac3b77526afe4f422c551e69665f3 ++ [0x02, 0x00, 0x01, 0x00, 0x00,
  0x01] ++ rep 250 0 ++ [0x07, 0x00, 0x01, 0x00, 0x10] ++ rep 11 0 ++ [0x08, 0x00, 0x01, 0x00, 0x10] ++ rep 7 0 ++
  [0x01, 0x00, 0x00, 0x00, 0x0D, 0x00, 0x01, 0x00, 0x18] ++ rep 19 0 ++ [0x0F, 0x00, 0x01, 0x00, 0xD0] ++ rep 203 0

/-- The small image in slot A, its key in the key store. -/
def imaged : State := mramPut 0x700000 smallImage { ticking .core with key := imageKey }

/-- A ticket of the module's serial 0 and nonce 0 in KEY_SIG, signed with the image key. -/
def ticketed : State :=
  let sig := beBytes 32 0x3ed7a28ec648edce5d5b7e252f6b2aafbb44835114a24b3caa8f710f64993bc2 ++
    beBytes 32 0x9707621a6bf37f5c68eb63217d54620b1f48ea319319876e7ea07d63a7eb16a6
  { ticking .core with
    key := { imageKey with sig := Vector.ofFn fun i => BitVec.ofNat 32 (leAt sig (4 * i.val) 4) } }

/-- The base point of the curve. -/
def basePoint : Option (Nat × Nat) := some (p256gx, p256gy)

/-- A signature verifies under the base point as the key when both products and their sum are as stated. -/
theorem test_ecdsa (digest sig : List Byte) (u v : Nat) (p q : Option (Nat × Nat)) (x : Nat × Nat)
    (curve : onCurve p256gx p256gy = true)
    (range : 1 ≤ ofBe (sig.take 32) ∧ ofBe (sig.take 32) < p256n ∧ 1 ≤ ofBe ((sig.drop 32).take 32) ∧
      ofBe ((sig.drop 32).take 32) < p256n)
    (first : ofBe digest * invMod p256n (ofBe ((sig.drop 32).take 32)) % p256n = u)
    (second : ofBe (sig.take 32) * invMod p256n (ofBe ((sig.drop 32).take 32)) % p256n = v)
    (mulFirst : ecMul 256 u basePoint = p) (mulSecond : ecMul 256 v basePoint = q) (sum : ecAdd p q = some x)
    (same : x.1 % p256n = ofBe (sig.take 32)) : ecdsaOk p256gx p256gy digest sig = true := by
  rw [basePoint] at mulFirst mulSecond
  simp only [ecdsaOk, curve, range, first, second, mulFirst, mulSecond, sum, same, decide_true, Bool.not_true,
    Bool.or_self, and_self, Bool.false_eq_true, if_false]

/-- The chaining values of SHA-256 over the signed bytes of the small image, block by block. -/
def imageHash : Nat → List Word
  | 0 => [0x6A09E667, 0xBB67AE85, 0x3C6EF372, 0xA54FF53A, 0x510E527F, 0x9B05688C, 0x1F83D9AB, 0x5BE0CD19]
  | 1 => [0xF5C5CAC9, 0x75F5C902, 0x00283CD6, 0x17C64027, 0xA37E9FE4, 0x3579C239, 0x7E43C3F5, 0xA7DAF8AB]
  | 2 => [0x5453A549, 0x80499FA7, 0x41B2BE68, 0x5AA65032, 0x9F8C8B38, 0x17C65084, 0x277CC212, 0x3E491C5E]
  | 3 => [0x27C1B789, 0xC728B0F7, 0xA0BE8F1D, 0x992DEBBB, 0x9C4D411B, 0x8897A450, 0x2E0CBFB7, 0x58B23DFD]
  | 4 => [0x8FF6D574, 0x337A3D06, 0x131B5C47, 0x40542708, 0xD3496485, 0xDAD71C1E, 0x4E4EBA8D, 0x513929F1]
  | 5 => [0xF3140A1D, 0x1065666E, 0x466C06D2, 0x515BF347, 0x355C5A14, 0x2AFACFCF, 0x95B9DB11, 0xE07EECDB]
  | 6 => [0x2DC8A9EA, 0x1FF2A780, 0x756BF2B1, 0x28029F0D, 0x922CB9DA, 0xABB8661E, 0x4FA3BE5B, 0x38BB07FE]
  | 7 => [0xB4F3ACE8, 0x43664AB7, 0xB8D13F9C, 0x07F5B352, 0x86374C8D, 0x76975B15, 0x61B9320C, 0x5EC620AC]
  | 8 => [0x108541C6, 0x0ECB87AA, 0x8F728F45, 0x27399273, 0x1815B893, 0x897280E7, 0x489EEEE4, 0x7FB94CFD]
  | 9 => [0x073F3543, 0x3196CFCE, 0x6A3C02B2, 0x998F07D4, 0x480B8F53, 0xAC45E84D, 0x8D6B52F9, 0x535D8286]
  | 10 => [0xB1F34163, 0xC4DDE1C2, 0x0C44C066, 0x7C148BC0, 0xFB77DEDC, 0x2EF30E4D, 0x7846218A, 0x1994BEC7]
  | _ => [0x88552080, 0x2F488525, 0xE46A8A10, 0xB5AFD034, 0x03C69C5F, 0xAB47231C, 0x2676D006, 0x2128ED74]

/-- A block of the padded bytes. -/
def imageBlock (i : Nat) : List Byte := ((shaPad (imgSigned smallImage)).drop (64 * i)).take 64

theorem test_image_block0 : shaBlock (imageHash 0) (imageBlock 0) = imageHash 1 := by decide +kernel
theorem test_image_block1 : shaBlock (imageHash 1) (imageBlock 1) = imageHash 2 := by decide +kernel
theorem test_image_block2 : shaBlock (imageHash 2) (imageBlock 2) = imageHash 3 := by decide +kernel
theorem test_image_block3 : shaBlock (imageHash 3) (imageBlock 3) = imageHash 4 := by decide +kernel
theorem test_image_block4 : shaBlock (imageHash 4) (imageBlock 4) = imageHash 5 := by decide +kernel
theorem test_image_block5 : shaBlock (imageHash 5) (imageBlock 5) = imageHash 6 := by decide +kernel
theorem test_image_block6 : shaBlock (imageHash 6) (imageBlock 6) = imageHash 7 := by decide +kernel
theorem test_image_block7 : shaBlock (imageHash 7) (imageBlock 7) = imageHash 8 := by decide +kernel
theorem test_image_block8 : shaBlock (imageHash 8) (imageBlock 8) = imageHash 9 := by decide +kernel
theorem test_image_block9 : shaBlock (imageHash 9) (imageBlock 9) = imageHash 10 := by decide +kernel
theorem test_image_block10 : shaBlock (imageHash 10) (imageBlock 10) = imageHash 11 := by decide +kernel

/-- The digest of the small image. -/
theorem test_image_digest : imgDigest smallImage = (imageHash 11).flatMap fun w => beBytes 4 w.toNat := by
  have n : (shaPad (imgSigned smallImage)).length / 64 = 11 := by decide +kernel
  have start : shaInit = imageHash 0 := by decide +kernel
  have r : List.range 11 = [0, 1, 2, 3, 4, 5, 6, 7, 8, 9, 10] := rfl
  rw [imgDigest, sha256]
  simp only [n, r, start, List.foldl_cons, List.foldl_nil]
  simp only [← imageBlock.eq_1, test_image_block0, test_image_block1, test_image_block2, test_image_block3,
    test_image_block4, test_image_block5, test_image_block6, test_image_block7, test_image_block8, test_image_block9,
    test_image_block10]

/-- The product of the digest's factor. -/
theorem test_image_mul1 : ecMul 256 0xF62754E0A2ABF326525ADFD082D79883F8FCF3CA9950D2A33CDD0FEC81C2AC4D basePoint =
    some (0xBA5D31B5290CA8A53429D2B8BD484F28563A6BA436A9578476D4EA7273442786,
      0x772A9E49C0B914237DA6984484043740F24305160EBF183AEF1BF2CA63186097) := by
  decide +kernel

/-- The product of the signature's factor. -/
theorem test_image_mul2 : ecMul 256 0x09D8AB1E5D540CDAADA5202F7D28677BC3EA06E30DC6CBE26231646365BF83D6 basePoint =
    some (0xDB1EB50B15B0220BD0C9836DF705108102E19BA09CFA3813F01CBF793876C662,
      0xC0214E1235513505DF7A3991853BE2A6E94AEFBD60B88E42AC9482E987A71FC2) := by
  decide +kernel

/-- Its signature verifies. -/
theorem test_image_signature :
    imaged.pairVerifies 0 ((imageHash 11).flatMap fun w => beBytes 4 w.toNat) (imgSig smallImage) = true := by
  have pair : imaged.imgPair 0 = true := by decide +kernel
  have x : (imaged.slot 0).key.toNat = p256gx := by decide +kernel
  have y : (imaged.slot (0 + 1)).key.toNat = p256gy := by decide +kernel
  rw [State.pairVerifies, pair, x, y, Bool.true_and]
  exact test_ecdsa _ _ _ _ _ _ _ (by decide +kernel) (by decide +kernel) (by decide +kernel) (by decide +kernel)
    test_image_mul1 test_image_mul2 rfl (by decide +kernel)

/-- It passes every other check. -/
theorem test_image_checks :
    imageReason smallImage ((imageHash 11).flatMap fun w => beBytes 4 w.toNat) true true = 0 := by
  decide +kernel

/-- The small image passes every check. -/
theorem image_passes : imaged.slotReasonOf false = 0 := by
  have bytes : imaged.slotImage false = smallImage := by decide +kernel
  have slot : imgKeySlot smallImage = 0 := by decide +kernel
  have keys : imaged.imageKeys 0 = true := by decide +kernel
  simp only [State.slotReasonOf, bytes, slot, keys, test_image_digest, test_image_signature, test_image_checks]

/-- The digest of the ticket's message. -/
theorem test_ticket_digest : sha256 (ticketed.ticketMsg false) =
    beBytes 32 0x374708FFF7719DD5979EC875D56CD2286F6D3CF7EC317A3B25632AAB28EC37BB := by
  decide +kernel

/-- The product of the digest's factor. -/
theorem test_ticket_mul1 : ecMul 256 0xD8237C42D0D673520597665ED49B410535BB7CFB5AD2487300D307A3C9B86F5B basePoint =
    some (0x3775AA21DBAB8C23752F2F423D3E8CA47367783D6A589972E4C00754CED78606,
      0x58D2A4D69A315388BDB7F51F3FE6E6D88A3E8C21F3171024630EDA2634B66588) := by
  decide +kernel

/-- The product of the signature's factor. -/
theorem test_ticket_mul2 : ecMul 256 0x27DC83BC2F298CAEFA6899A12B64BEFA872B7DB24C4556129E3B6CAC1DC9C0C8 basePoint =
    some (0x817B353BA0121A02FFE6E2CC9F78A58CEC97CCFBC507DFE23FC777A58FAF4FEE,
      0xF2FB37331D1F8A10F4EEF3C14F857B9859DEDBC6E4DF99366EE03961FF3A9BE0) := by
  decide +kernel

/-- The ticket's signature verifies. -/
theorem ticket_signed : ticketed.signedBy (ticketed.ticketMsg (bit ticketed.key.arg 0)) 64 = true := by
  have arg : bit ticketed.key.arg 0 = false := by decide +kernel
  have pair : ticketed.imgPair 0 = true := by decide +kernel
  have x : (ticketed.slot 0).key.toNat = p256gx := by decide +kernel
  have y : (ticketed.slot (2 * 0 + 1)).key.toNat = p256gy := by decide +kernel
  simp only [State.signedBy, arg, test_ticket_digest, List.any_eq_true, List.mem_range, Bool.and_eq_true]
  refine ⟨0, by decide, by decide, ?_⟩
  simp only [State.pairVerifies, Nat.mul_zero, pair, x, y, Bool.true_and]
  exact test_ecdsa _ _ _ _ _ _ _ (by decide +kernel) (by decide +kernel) (by decide +kernel) (by decide +kernel)
    test_ticket_mul1 test_ticket_mul2 rfl (by decide +kernel)

/-- An authenticated RA_REQ is taken. -/
theorem auth_taken : authMember.takesFrame 9 (tagged 9 (rep 16 0)) = true :=
  test_tagged _ 9 16 _ _ (by decide +kernel) (by decide +kernel) (by decide +kernel) (by decide +kernel)
    (by decide +kernel) (by decide +kernel) rfl (test_tag_length _ (by decide +kernel)) (by decide) (by decide +kernel)

/-- Likewise when no transaction fits. -/
theorem auth_taken_busy : (busy64 authMember).takesFrame 9 (tagged 9 (rep 16 0)) = true := auth_taken

/-- A member with a verified bundle. -/
def verifiedMember : State :=
  { authMember with
    strct := { (ticking .core).strct with shadow := .ready, shImage := some Image.empty }
    upd := { State.reset.upd with state := .verified, allowRst := true, actAt := 1002 } }

/-- An authenticated ACTIVATE is taken. -/
theorem act_taken : verifiedMember.takesFrame 13 (tagged 13 ([2] ++ rep 23 0)) = true :=
  test_tagged _ 13 24 _ _ (by decide +kernel) (by decide +kernel) (by decide +kernel) (by decide +kernel)
    (by decide +kernel) (by decide +kernel) rfl (test_tag_length _ (by decide +kernel)) (by decide) (by decide +kernel)

/-- The smallest firmware image that passes every check, its 8 program bytes 0 and its KEYSLOT 0 (Table 20.1). -/
def smallFirmware : List Byte :=
  [0x46, 0x57, 0x49, 0x4D, 0x01, 0x00, 0x58, 0x02, 0x24, 0x00, 0x80, 0x04, 0xA8, 0x00, 0x00, 0x00, 0x05, 0x00, 0x00,
  0x00, 0x00, 0x00, 0x01, 0x00, 0x08] ++ rep 71 0 ++
  beBytes 32 0x3988322ab9f52c7f11d5d1aa92a2ac0b00275bcad8e934682257323fda672482 ++
  beBytes 32 0xf6665e4b48cb61e3a833aec647b5bc625498ad48bbefa1318b4bf50f5b8298cc ++ rep 8 0

/-- The small firmware image in slot A, its key in the key store, and the shepherd core at a reload after a failure. -/
def firm : State :=
  mramPut 0x100000 smallFirmware
    { ticking .core with
      key := imageKey
      core := { State.reset.core with restartAt := some 5, reload := .restart }
      evt := { State.reset.evt with pend := 32 } }

/-- The digest of the small firmware image. -/
theorem test_firmware_digest : fwDigest smallFirmware =
    beBytes 32 0xDF79A77A27E5562A2E2639BB2AF93F80E647AA39A41F7B8974F52748C6633CA2 := by
  decide +kernel

/-- The product of the digest's factor. -/
theorem test_firmware_mul1 : ecMul 256 0xC3C420DE0B178FF31B0B3B58856E5AC24B763AE68002B21B8092D1829B46C63F basePoint =
    some (0x4AA3CE22F79A84978CD582D6F19A8C6A5C6F0228861F2C9FAC6FEB900C34E43D,
      0x659C31991F029575AC6BA28D093D101BF7A39832D038DA035894CC2BBDB1D148) := by
  decide +kernel

/-- The product of the signature's factor. -/
theorem test_firmware_mul2 : ecMul 256 0x3C3BDF20F4E8700DE4F4C4A77A91A53D7170BFC72714EC69744A3EA7EAC82D01 basePoint =
    some (0xE2243541DCDCC3506A19491CD6193EDB9E3766CDBF61F8592D4AD13F09E13174,
      0x6221D268FD18EF8055BC3DC01719C539691B173D6D408FE7A9CDBC9D203CBA06) := by
  decide +kernel

/-- Its signature verifies. -/
theorem test_firmware_signature :
    firm.pairVerifies 0 (beBytes 32 0xDF79A77A27E5562A2E2639BB2AF93F80E647AA39A41F7B8974F52748C6633CA2)
      (slice (smallFirmware.take 0xA0) 0x60 64) = true := by
  have pair : firm.imgPair 0 = true := by decide +kernel
  have x : (firm.slot 0).key.toNat = p256gx := by decide +kernel
  have y : (firm.slot (0 + 1)).key.toNat = p256gy := by decide +kernel
  rw [State.pairVerifies, pair, x, y, Bool.true_and]
  exact test_ecdsa _ _ _ _ _ _ _ (by decide +kernel) (by decide +kernel) (by decide +kernel) (by decide +kernel)
    test_firmware_mul1 test_firmware_mul2 rfl (by decide +kernel)

/-- The small firmware image passes every check. -/
theorem firmware_passes : firm.fwReason firm.upd.boot.act = 0 := by
  have act : firm.upd.boot.act = false := rfl
  have head : mramGet (fwSlot false) 0xA0 firm = smallFirmware.take 0xA0 := by decide +kernel
  have bytes : firm.fwImage false = smallFirmware := by decide +kernel
  have magic : (smallFirmware.take 0xA0).take 4 = [0x46, 0x57, 0x49, 0x4D] := by decide +kernel
  have format : leAt (smallFirmware.take 0xA0) 4 2 = 1 := by decide +kernel
  have target : leAt (smallFirmware.take 0xA0) 8 4 = 0x04800024 := by decide +kernel
  have len : leAt (smallFirmware.take 0xA0) 0xC 4 = 168 := by decide +kernel
  have slot : leAt (smallFirmware.take 0xA0) 0x14 1 = 0 := by decide +kernel
  have keys : firm.imageKeys 0 = true := by decide +kernel
  have fields : fwFields (smallFirmware.take 0xA0) 168 = true := by decide +kernel
  simp [State.fwReason, act, head, bytes, magic, format, target, len, slot, keys, fields, test_firmware_digest,
    test_firmware_signature]

/-- Between its thresholds an input of class 1 has room. -/
theorem test_hysteresis : fallAt 0 1 < riseAt 0 1 - 1 ∧ riseAt 0 1 - 1 < riseAt 0 1 := by
  have low : fallAt 0 1 ≤ riseAt 0 1 - 2 := by unfold fallAt; exact Int.min_le_right ..
  omega

/-- A poll of reader 0 is at reply slot 2, and every token slot holds ID 0x04030201 with counter 5. -/
def tokens : State :=
  { readers false with
    time := { State.reset.time with tb := State.reset.time.tb.map fun b => { b with value := 30000000 <<< 32 } }
    acc := { State.reset.acc with
      poll := some ⟨0, 20000000, false, 0, 0, false, 0⟩
      tok := Vector.replicate 16 ⟨0x04030201, 5, 15, true, none, 0, 0⟩ } }

/-- The record of that token with a counter, its MAC under a key of zeros of either length (Table 17.4). -/
def telegram (long : Bool) (cnt : Nat) : List Byte :=
  [0xA5, 17, 1, 2, 3, 4] ++ leBytes 4 cnt ++ [1] ++
    (cmac (kdf (leBytes (if long then 32 else 16) 0) [0x74, 0x6F, 0x6B, 0x65, 0x6E] [1, 2, 3, 4])
      ([1, 2, 3, 4] ++ leBytes 4 cnt ++ [1])).take 8 ++ [0]

/-- Its fields, whatever its MAC. -/
theorem test_telegram_parts (cnt : Nat) (two : cnt = 5 ∨ cnt = 6) (mac : List Byte) (size : mac.length = 8) :
    recBad ([0xA5, 17, 1, 2, 3, 4] ++ leBytes 4 cnt ++ [1] ++ mac ++ [0]) = false ∧
    recStatus ([0xA5, 17, 1, 2, 3, 4] ++ leBytes 4 cnt ++ [1] ++ mac ++ [0]) = 0 ∧
    recId ([0xA5, 17, 1, 2, 3, 4] ++ leBytes 4 cnt ++ [1] ++ mac ++ [0]) = 0x04030201 ∧
    recCmd ([0xA5, 17, 1, 2, 3, 4] ++ leBytes 4 cnt ++ [1] ++ mac ++ [0]) = 1 ∧
    recCnt ([0xA5, 17, 1, 2, 3, 4] ++ leBytes 4 cnt ++ [1] ++ mac ++ [0]) = BitVec.ofNat 32 cnt ∧
    slice ([0xA5, 17, 1, 2, 3, 4] ++ leBytes 4 cnt ++ [1] ++ mac ++ [0]) 2 4 = [1, 2, 3, 4] ∧
    slice ([0xA5, 17, 1, 2, 3, 4] ++ leBytes 4 cnt ++ [1] ++ mac ++ [0]) 2 9 = [1, 2, 3, 4] ++ leBytes 4 cnt ++ [1] ∧
    slice ([0xA5, 17, 1, 2, 3, 4] ++ leBytes 4 cnt ++ [1] ++ mac ++ [0]) 11 8 = mac := by
  match mac, size with
  | [a, b, c, d, e, f, g, h], _ => 
    have id : slice ([0xA5, 17, 1, 2, 3, 4] ++ leBytes 4 cnt ++ [1] ++ [a, b, c, d, e, f, g, h] ++ [0]) 2 4 =
      [1, 2, 3, 4] := by obtain rfl | rfl := two <;> rfl
    have five : ofLe [1, 2, 3, 4] = 0x04030201 := by decide
    refine ⟨?_, ?_, (congrArg ofLe id).trans five, ?_, ?_, id, ?_, ?_⟩ <;> obtain rfl | rfl := two <;> rfl

/-- The MAC is 8 bytes for either length of the key. -/
theorem test_telegram_length (long : Bool) (cnt : Nat) (two : cnt = 5 ∨ cnt = 6) :
    ((cmac (kdf (leBytes (if long then 32 else 16) 0) [0x74, 0x6F, 0x6B, 0x65, 0x6E] [1, 2, 3, 4])
      ([1, 2, 3, 4] ++ leBytes 4 cnt ++ [1])).take 8).length = 8 := by
  obtain rfl | rfl := two <;> cases long <;> decide +kernel

/-- The record is one of the token, and its MAC verifies. -/
theorem test_telegram (cnt : Nat) (two : cnt = 5 ∨ cnt = 6) :
    recBad (telegram (Config.aes256 tokens.cfg.tokKey) cnt) = false ∧
    recStatus (telegram (Config.aes256 tokens.cfg.tokKey) cnt) ≠ 1 ∧
    recId (telegram (Config.aes256 tokens.cfg.tokKey) cnt) = 0x04030201 ∧
    recCmd (telegram (Config.aes256 tokens.cfg.tokKey) cnt) = 1 ∧
    tokens.macOk (telegram (Config.aes256 tokens.cfg.tokKey) cnt) = true ∧
    recCnt (telegram (Config.aes256 tokens.cfg.tokKey) cnt) = BitVec.ofNat 32 cnt := by
  have key : (tokens.slot tokens.cfg.tokKey).key.toNat = 0 := by decide +kernel
  obtain ⟨bad, status, id, cmd, count, label, body, mac⟩ :=
    test_telegram_parts cnt two _ (test_telegram_length (Config.aes256 tokens.cfg.tokKey) cnt two)
  refine ⟨bad, ?_, id, cmd, ?_, count⟩
  · intro one
    have zero := status.symm.trans one
    omega
  · rw [State.macOk, State.aesKey, key, telegram, label, body, mac]
    exact beq_self_eq_true _

/-- No envelope phase has passed. -/
theorem test_no_next : (ticking .core).hurdle.out[(0 : Fin 256)].next = none := by decide +kernel

/-- No follow-up waits. -/
theorem test_no_follow : (buses 2 false).mbus.ch[(0 : Fin 6)].refTx = .none := by decide +kernel

/-- The next counter is no failure. -/
theorem test_telegram_next :
    cntRule 5 (recCnt (telegram (Config.aes256 tokens.cfg.tokKey) 6)) none ≠ .failure := by
  rw [(test_telegram 6 (.inr rfl)).2.2.2.2.2]
  decide

/-- The counter of the token is one. -/
theorem test_telegram_same :
    cntRule 5 (recCnt (telegram (Config.aes256 tokens.cfg.tokKey) 5)) none = .failure := by
  rw [(test_telegram 5 (.inl rfl)).2.2.2.2.2]
  decide

/-! ### Well-formedness -/

/-- One ill-formed command for each check, which the check refuses. -/
theorem test_ill_formed_refused :
    (Instr.registerWrite .keeper 0x100000000 4 0).wellFormed = false ∧
      (Instr.registerWrite .keeper 0x20000000 3 0).wellFormed = false ∧
      (Instr.svcTransaction []).wellFormed = false ∧
      (Instr.mwFail 65536 false).wellFormed = false ∧
      (Instr.linkRx 0 (rep 15 0)).wellFormed = false ∧
      (Instr.frameForward 0 [] 0 0).wellFormed = false ∧
      (Instr.audioTx 0 [List.replicate 13 0]).wellFormed = false ∧
      (Instr.canRxFrame 0 ⟨5, false, false, false, false, false, 9, rep 9 0⟩ 0).wellFormed = false ∧
      (Instr.canRxFrame 0 ⟨5, false, false, false, false, true, 1, rep 1 0⟩ 0).wellFormed = false ∧
      (Instr.wakeAddress 0 ⟨0, 50000, List.replicate 10 (50000, 50000)⟩).wellFormed = false := by
  decide +kernel

/-- Commands at the edge of each check, which it admits. -/
theorem test_well_formed_admitted :
    (Instr.registerWrite .keeper 0xFFFFFFFF 1 0).wellFormed = true ∧
      (Instr.svcTransaction [2]).wellFormed = true ∧
      (Instr.mwFail 65535 false).wellFormed = true ∧
      (Instr.linkRx 0 (rep 16 0)).wellFormed = true ∧
      (Instr.audioTx 0 [List.replicate 96 0]).wellFormed = true ∧
      (Instr.canRxFrame 0 ⟨5, false, true, false, false, false, 15, rep 64 0⟩ 0).wellFormed = true ∧
      (Instr.wakeAddress 0 ⟨0, 50000, List.replicate 9 (50000, 50000)⟩).wellFormed = true := by
  decide +kernel

/-- No row of the table has bits, so no word spells a command. -/
theorem test_no_table_word : decodeTableWord 16 0 = none ∧ decodeTableWord 32 5 = none := by decide

/-! ### Worked examples of the manual -/

/-- The sense cell of HS70 and the channel as a whole ("Architecture", the example of the location code). -/
theorem test_location_code : locCode 1 2 0 8 0x46 0x10 = 0x28084610#32 := by decide

/-- The budget of the example image: 656.25 µs at 300 MHz ("Structure image", R72). -/
theorem test_tick_budget : tickBudget 2 48 2 = 196712 := by decide

/-- The bouncing button of Table 7.2: the state rises at the tenth sample, 7 samples after the last departure. -/
theorem test_bouncing_button :
    let run := [true, false, true, true, false, true, true, false, true].foldl
      (fun f h => (filterStep 4 h f).1) ⟨0, false, 0, true⟩
    run = ⟨3, false, 6, true⟩ ∧ filterStep 4 true run = (⟨4, true, 7, true⟩, .rise) := by
  decide

/-- The fade of "Lighting": steps 1, 1,000 and 2,000 of 2,000 towards level 3,000, and their duties. -/
theorem test_fade :
    fadeLevel 0 3000 1 2000 = 1 ∧ d16 1 = 2 ∧ fadeLevel 0 3000 1000 2000 = 1500 ∧ d16 1500 = 6121 ∧
      fadeLevel 0 3000 2000 2000 = 3000 ∧ d16 3000 = 29859 := by
  decide

/-- The example of R283: −7 divided by 2. -/
theorem test_division : divOp 0x69 0xFFFFFFF9#32 2#32 = ⟨0xFFFFFFFD#32, 0xFFFFFFFF#32, false, false⟩ := by decide

/-- The example of R286: a field that passes bit 31 is cut there. -/
theorem test_bit_fields :
    bitOp 0x77 0 0x00000C1A 0xDC000000 = 0x37 ∧ bitOp 0x78 0 0x00000C1A 0xDC000000 = 0xFFFFFFF7#32 ∧
      bitOp 0x79 0 0x00000C1A 0x000000FF = 0xFC000000#32 := by
  decide

/-- The byte swap of R287. -/
theorem test_byte_swap :
    (List.range 4).map (permByte 0x11223344#32 0x53#32) = [0x11, 0x22, 0x33, 0x44] := by
  decide

/-- The bundle words of "Processor cores": the IMM32 move into a2, the no-operation, and the bundle 0x0049. -/
theorem test_bundle_words :
    formOf 0x1000042007138000#64 = 1 ∧ immOf 0x1000042007138000#64 = 0x20071380#32 ∧
      (moveSlot 0x1000042007138000#64 0).dst = 2 ∧
      (State.reset.enabled 1 0x0800008000080000#64 = []) ∧
      (List.range 3).map (fun k => ((moveSlot 0x0081000070408008#64 k).src, (moveSlot 0x0081000070408008#64 k).dst)) =
        [(0x40, 0x80), (0x03, 0x82), (0x40, 0x04)] := by
  decide +kernel

/-- The division bundle of "Units": a5 into DIV.o, a6 into DIV.t.div, and a slot that never moves. -/
theorem test_division_bundle :
    (State.reset.enabled 1 0x000AD000CD280000#64).map (fun m => (m.src, m.dst)) = [(5, 0x68), (6, 0x69)] := by
  decide +kernel

/-- The train of Table 15.7, address 0x2C with a short parity pulse. -/
theorem test_wake_train :
    trainAddr ⟨200000, 50000, [(50000, 50000), (50000, 50000), (50000, 150000), (50000, 50000), (50000, 150000),
      (50000, 150000), (50000, 50000), (50000, 50000), (50000, 50000)]⟩ false = some 0x2C := by
  decide

/-- The example of "Scope": TICK_COUNT is read low word first; a tick later the latched high word is returned. -/
theorem test_latched_count :
    let s := { State.reset with tick := { State.reset.tick with count := 0xFFFFFFFF } }
    let r := accessRead .keeper 0x20010020 4 s
    let t := { r.2 with tick := { r.2.tick with count := 0x100000000 } }
    r.1 = 0xFFFFFFFF#32 ∧ (accessRead .keeper 0x20010024 4 t).1 = 0 := by
  decide +kernel

/-- The example of "Register map": a slot beyond HS95 reads 0, and a write there sets RSVD_WR. -/
theorem test_slot_beyond_hs95 :
    (accessRead .keeper 0x20032A04 4 State.reset).1 = 0 ∧
      bit (accessWrite .keeper 0x20032A04 4 5 State.reset).sys.errstat 0 = true := by
  decide +kernel

/-- SHA-256 of "abc" (FIPS 180-4), and the CMAC of the empty message under the key of RFC 4493. -/
theorem test_digests :
    (sha256 [0x61, 0x62, 0x63]).take 4 = [0xBA, 0x78, 0x16, 0xBF] ∧
      (cmac [0x2B, 0x7E, 0x15, 0x16, 0x28, 0xAE, 0xD2, 0xA6, 0xAB, 0xF7, 0x15, 0x88, 0x09, 0xCF, 0x4F, 0x3C] []).take
        4 =
        [0xBB, 0x1D, 0x69, 0x29] := by
  decide +kernel

/-! ### Witnesses -/

/-- A module in OFF and dark steps to a state. -/
theorem test_witness_OffStaysDark : ∃ (s t : State), s.offInv ∧ step s = .next t :=
  ⟨inMode .off, inMode .off, ⟨by decide +kernel, by decide +kernel, by decide +kernel⟩, rfl⟩

/-- A state with both memories in form steps to a state. -/
theorem test_witness_MemoryFormKept : ∃ (s t : State), s.memOk = true ∧ step s = .next t :=
  ⟨inMode .off, inMode .off, by decide +kernel, rfl⟩

/-- A command answers a state. -/
theorem test_witness_CommandsLeaveTheQueue : ∃ (c : Instr) (s t : State), exec c s = .next t :=
  ⟨.tickStart, inMode .off, inMode .off, rfl⟩

theorem test_witness_QuietModule :
    (∃ (s : State), s.pending = [] ∧ s.powered = true) ∧
    (∃ (s : State), s.pending = [] ∧ s.pwr.mode = PwrMode.off) ∧
    (∃ (s : State), s.pending = [] ∧ s.pwr.mode = PwrMode.rest) ∧
    (∃ (s : State) (c : Instr), s.pwr.mode = PwrMode.off ∧ isOffCell c = false) ∧
    (∃ (s : State) (c : Instr), s.pwr.mode = PwrMode.rest ∧ isAlwaysOn c = false) :=
  ⟨
    ⟨State.reset, by decide +kernel⟩,
    ⟨inMode .off, by decide +kernel⟩,
    ⟨inMode .rest, by decide +kernel⟩,
    ⟨inMode .off, .tickStart, by decide +kernel⟩,
    ⟨inMode .rest, .tickStart, by decide +kernel⟩⟩

theorem test_witness_ResetLeaves :
    ∃ (n : Fin 4), n ≠ 0 :=
    ⟨1, by decide +kernel⟩

theorem test_witness_EntriesAndInterrupts :
    (∃ (s : State) (i : ℕ), s.tally.free = true ∧ s.tally.dropped = 0 ∧
       (s.tally.sameN = 0 ∨ s.tally.sameAt ≠ s.cycle) ∧ i ≠ BitVec.toNat s.tally.seq % 8192) ∧
    (∃ (s : State) (e : Entry) (a : JEntry) (rest : List JEntry), s.tally.free = true ∧ s.tally.dropped = 0 ∧
       s.tally.sameAt = s.cycle ∧ s.tally.sameN = 1 ∧ s.tally.journal = a :: rest ∧ a.archived = false ∧
       BitVec.toNat s.tally.seq % 8192 ≠ BitVec.toNat a.e.seq % 8192 ∧ e.writer < a.e.writer) ∧
    (∃ (s : State) (e : Entry) (a : JEntry) (rest : List JEntry), s.tally.free = true ∧ s.tally.dropped = 0 ∧
       s.tally.sameAt = s.cycle ∧ s.tally.sameN = 1 ∧ s.tally.journal = a :: rest ∧ a.archived = false ∧
       BitVec.toNat s.tally.seq % 8192 ≠ BitVec.toNat a.e.seq % 8192 ∧ a.e.writer ≤ e.writer) ∧
    (∃ (s : State), s.tally.free = false) ∧
    (∃ (s : State) (b : Block) (i : ℕ), i < 32 ∧ ((setIrq b i s).head b).irq &&& ((setIrq b i s).head b).en ≠ 0) ∧
    (∃ (s : State) (b : Block) (i : ℕ), i < 32 ∧ ((setIrq b i s).head b).irq &&& ((setIrq b i s).head b).en = 0) ∧
    (∃ (b : Block) (i : ℕ) (b' : Block), i < 32 ∧ b'.idx ≠ b.idx) :=
  ⟨
    ⟨State.reset, 1, by decide +kernel⟩,
    ⟨{ ticking .core with
       tally := { State.reset.tally with
         journal := [⟨{ (default : Entry) with code := 0x1000 }, false⟩]
         sameAt := (ticking .core).cycle
         sameN := 1
         seq := 1 } }, { (default : Entry) with code := 5 }, ⟨{ (default : Entry) with code := 0x1000 }, false⟩, [],
     by decide +kernel⟩,
    ⟨{ ticking .core with
       tally := { State.reset.tally with
         journal := [⟨{ (default : Entry) with code := 0x1000 }, false⟩]
         sameAt := (ticking .core).cycle
         sameN := 1
         seq := 1 } }, { (default : Entry) with code := 0x1000 }, ⟨{ (default : Entry) with code := 0x1000 }, false⟩,
     [], by decide +kernel⟩,
    ⟨{ State.reset with tally := { State.reset.tally with journal := [⟨default, false⟩] } }, by decide +kernel⟩,
    ⟨{ State.reset with heads := State.reset.heads.map fun _ => ⟨0, 1, 0, CycNote.start (0, 0, 0)⟩ }, .sys, 0,
     by decide +kernel⟩,
    ⟨State.reset, .sys, 0, by decide +kernel⟩,
    ⟨.sys, 0, .hsw, by decide +kernel⟩⟩

theorem test_witness_WrongWidthIsNotPerformed :
    ∃ (s : State) (rq : Requester) (addr : ℕ) (width : ℕ) (b : Block), blockOf addr = some b ∧
       wholeWord addr width = false ∧ s.powered = true ∧ rq ≠ Requester.fabric :=
    ⟨State.reset, .keeper, 0x20000000, 2, .sys, by decide +kernel⟩

theorem test_witness_UnassignedAddress :
    (∃ (s : State) (rq : Requester) (addr : ℕ) (b : Block), s.powered = true ∧ rq ≠ Requester.fabric ∧
       wholeWord addr 4 = true ∧ blockOf addr = some b ∧ unassigned b (addr % 65536) = true ∧ b ≠ Block.dwin) ∧
    (∃ (s : State) (rq : Requester) (addr : ℕ) (b : Block), s.powered = true ∧ rq ≠ Requester.fabric ∧
       wholeWord addr 4 = true ∧ blockOf addr = some b ∧ unassigned b (addr % 65536) = true ∧ b = Block.dwin) :=
  ⟨
    ⟨State.reset, .keeper, 0x2000FFFC, .sys, by decide +kernel⟩,
    ⟨State.reset, .keeper, 0x2012FFFC, .dwin, by decide +kernel⟩⟩

theorem test_witness_ReservedWritesAndLatches :
    (∃ (s : State) (rq : Requester), (inTurn Block.sys 40 rq.place s).rsvdCleared = true) ∧
    (∃ (s : State), bit s.sys.errstat 0 = false ∧ s.rsvdCleared = false) ∧
    (∃ (s : State), bit s.sys.errstat 0 = true) ∧
    (∃ (s : State) (b : Block) (what : ℕ) (rank : ℕ), (∃ x ∈ (s.cycNote b).turn, x.1 = what ∧ rank < x.2)) ∧
    (∃ (s : State) (b : Block) (what : ℕ) (rank : ℕ), (∀ x ∈ (s.cycNote b).turn, x.1 = what → x.2 ≤ rank)) ∧
    (∃ (rq : Requester) (rq' : Requester), rq'.slot ≠ rq.slot) :=
  ⟨
    ⟨{ State.reset with
       heads := State.reset.heads.map fun _ => ⟨0, 0, 0, { CycNote.start State.reset.cycle with
         wrote := [(0x24, 1)] }⟩ }, .keeper, by decide +kernel⟩,
    ⟨State.reset, by decide +kernel⟩,
    ⟨{ State.reset with sys := { State.reset.sys with errstat := 1 } }, by decide +kernel⟩,
    ⟨{ State.reset with
       heads := State.reset.heads.map fun _ => ⟨0, 0, 0, { CycNote.start State.reset.cycle with turn := [(9, 5)] }⟩ },
     .sys, 9, 1, by decide +kernel⟩,
    ⟨State.reset, .sys, 9, 1, by decide +kernel⟩,
    ⟨.keeper, .task, by decide +kernel⟩⟩

theorem test_witness_TicksBegin :
    (∃ (s : State), s.pwr.mode = PwrMode.run ∧ s.strct.inForce = true ∧ s.tick.phase = Phase.guard ∧
       s.jumping = false ∧ s.recordDue = false) ∧
    (∃ (s : State), s.powered = true ∧ s.tick.phase = Phase.guard ∧ s.jumping = true ∧ s.recordDue = false) :=
  ⟨
    ⟨ticking .guard, by decide +kernel⟩,
    ⟨{ ticking .guard with tick := { (ticking .guard).tick with stepped := true } }, by decide +kernel⟩⟩

theorem test_witness_PhasesFollow :
    (∃ (s : State), s.powered = true ∧ s.tick.phase = Phase.begun ∧ s.swapDue = false ∧ s.activationDue = false) ∧
    (∃ (s : State) (k : Fin 4), s.powered = true ∧ s.tick.phase = Phase.engine ∧
       (s.tick.tc[k] ≠ TcState.notLoaded ∨ s.upd.tpStat[k] = 2)) ∧
    (∃ (s : State) (o : Fin 256), s.powered = true ∧ s.tick.phase = Phase.core ∧ (o.val < 96 ∨ 112 ≤ o.val)) ∧
    (∃ (s : State) (ok : Vector Bool 5) (d : Fin 5), s.powered = true ∧ s.tick.phase = Phase.envelope ∧
       s.recordDue = false ∧ 1 ≤ d.val ∧ ok[d] = true) ∧
    (∃ (s : State) (ok : Vector Bool 5) (d : Fin 5), s.powered = true ∧ s.tick.phase = Phase.envelope ∧
       s.recordDue = false ∧ 1 ≤ d.val ∧ ok[d] = false) ∧
    (∃ (s : State), s.powered = true ∧ s.tick.phase = Phase.measure ∧ s.resetDue = false ∧ s.entryDue = false) :=
  ⟨
    ⟨ticking .begun, by decide +kernel⟩,
    ⟨{ ticking .engine with tick := { (ticking .engine).tick with tc := (ticking .engine).tick.tc.set 0 .running } },
     0, by decide +kernel⟩,
    ⟨ticking .core, 0, by decide +kernel⟩,
    ⟨ticking .envelope, Vector.replicate 5 true, 1, by decide +kernel⟩,
    ⟨ticking .envelope, Vector.replicate 5 false, 1, by decide +kernel⟩,
    ⟨ticking .measure, by decide +kernel⟩⟩

theorem test_witness_TickProgramsAndHoldsEnd :
    (∃ (s : State) (k : Fin 4), s.powered = true ∧ s.tick.tc[k] = TcState.running ∧
       (s.cpu ⟨k.val + 1, by omega⟩).run = CoreRun.waiting ∧ (s.cpu ⟨k.val + 1, by omega⟩).flight = []) ∧
    (∃ (s : State) (k : Fin 4) (c : Fin 5), s.powered = true ∧ s.tick.tc[k] = TcState.running ∧
       s.tick.phase = Phase.core ∧ c.val ≠ k.val + 1) ∧
    (∃ (s : State) (k : Fin 4), s.powered = true ∧ s.tick.tc[k] = TcState.running ∧ s.tick.phase = Phase.core ∧
       s.canLog = true) ∧
    (∃ (s : State) (src : Fin 16) (o : Fin 256) (p : Pending), s.powered = true ∧ s.hurdle.out[o].next = some p ∧
       p.expiring = true ∧ p.fell = src.val) ∧
    (∃ (s : State) (src : Fin 16) (o : Fin 256), s.powered = true ∧
       (∀ (p : Pending), s.hurdle.out[o].next = some p → p.expiring = false ∨ p.fell ≠ src.val)) ∧
    (∃ (s : State) (o : Fin 256) (j : ℕ), s.powered = true ∧ (s.out (s.leadOut o.val)).esc = true ∧
       (s.out (s.leadOut o.val)).escUntil = false ∧ (s.out (s.leadOut o.val)).escLeft = 0 ∧
       j ∈ s.groupOut (s.leadOut o.val)) ∧
    (∃ (s : State) (o : Fin 256) (j : ℕ), s.powered = true ∧ (s.out (s.leadOut o.val)).esc = true ∧
       (s.out (s.leadOut o.val)).escUntil = false ∧ (s.out (s.leadOut o.val)).escLeft = 0 ∧
       j ∉ s.groupOut (s.leadOut o.val)) ∧
    (∃ (s : State) (o : Fin 256), s.powered = true ∧ (s.out (s.leadOut o.val)).esc = true ∧
       (s.out (s.leadOut o.val)).escUntil = false ∧ (s.out (s.leadOut o.val)).escLeft = 0 ∧ s.canLog = true) ∧
    (∃ (s : State) (die : Fin 5) (k : Fin 96), s.powered = true ∧ 1 ≤ die.val ∧ s.dieServes = true ∧
       2 ≤ s.framesMissed die ∧ s.tick.dieRest[die] = false ∧ die.val ≠ 3 ∧ hsDie k.val ≠ die.val) ∧
    (∃ (s : State) (die : Fin 5) (k : Fin 96), s.powered = true ∧ 1 ≤ die.val ∧ s.dieServes = true ∧
       2 ≤ s.framesMissed die ∧ s.tick.dieRest[die] = false ∧ die.val ≠ 3 ∧ hsDie k.val = die.val ∧
       ((s.dieImage die.val).hs[k].fn = 1 ∨ (s.dieImage die.val).hs[k].fn = 2) ∧ s.pwr.noVbl = false) ∧
    (∃ (s : State) (die : Fin 5) (k : Fin 96), s.powered = true ∧ 1 ≤ die.val ∧ s.dieServes = true ∧
       2 ≤ s.framesMissed die ∧ s.tick.dieRest[die] = false ∧ die.val ≠ 3 ∧ hsDie k.val = die.val ∧
       bit ((s.dieImage die.val).restWord k.val) 0 = false) ∧
    (∃ (s : State) (die : Fin 5) (l : Fin 4), s.powered = true ∧ 1 ≤ die.val ∧ s.dieServes = true ∧
       2 ≤ s.framesMissed die ∧ s.tick.dieRest[die] = false ∧ die.val = 3 ∧ (s.dieImage 3).chain[l].fn = 1) ∧
    (∃ (s : State) (die : Fin 5) (l : Fin 4), s.powered = true ∧ 1 ≤ die.val ∧ s.dieServes = true ∧
       2 ≤ s.framesMissed die ∧ s.tick.dieRest[die] = false ∧ die.val = 3 ∧ (s.dieImage 3).chain[l].fn ≠ 1) ∧
    (∃ (s : State) (die : Fin 5) (k : Fin 128), s.powered = true ∧ 1 ≤ die.val ∧ s.dieServes = true ∧
       2 ≤ s.framesMissed die ∧ s.tick.dieRest[die] = false ∧ die.val = 3 ∧ (s.dieImage 3).lampAt k = true) ∧
    (∃ (s : State) (die : Fin 5) (k : Fin 128), s.powered = true ∧ 1 ≤ die.val ∧ s.dieServes = true ∧
       2 ≤ s.framesMissed die ∧ s.tick.dieRest[die] = false ∧ die.val = 3 ∧ (s.dieImage 3).lampAt k = false) ∧
    (∃ (s : State) (die : Fin 5) (k : Fin 16), s.powered = true ∧ 1 ≤ die.val ∧ s.dieServes = true ∧
       2 ≤ s.framesMissed die ∧ s.tick.dieRest[die] = false ∧ die.val = 3 ∧ (s.dieImage 3).sol[k].fn ≠ 1) :=
  ⟨
    ⟨modCpu 1 (fun x => { x with run := .waiting }) { ticking .core with
       tick := { (ticking .core).tick with tc := (ticking .core).tick.tc.set 0 .running } }, 0, by decide +kernel⟩,
    ⟨{ ticking .core with tick := { (ticking .core).tick with tc := (ticking .core).tick.tc.set 0 .running } }, 0, 0,
     by decide +kernel⟩,
    ⟨{ ticking .core with tick := { (ticking .core).tick with tc := (ticking .core).tick.tc.set 0 .running } }, 0,
     by decide +kernel⟩,
    ⟨modOut 0 (fun x => { x with next := some { (default : Sys2Proof.Machine.Pending) with expiring := true, fell := 1 } }) (ticking .envelope),
     1, 0, { (default : Sys2Proof.Machine.Pending) with expiring := true, fell := 1 }, by decide +kernel⟩,
    ⟨ticking .core, 0, 0, ⟨by decide +kernel, fun _ h => absurd (test_no_next.symm.trans h) nofun⟩⟩,
    ⟨modOut 0 (fun x => { x with esc := true }) (ticking .core), 0, 0, by decide +kernel⟩,
    ⟨modOut 0 (fun x => { x with esc := true }) (ticking .core), 0, 1, by decide +kernel⟩,
    ⟨modOut 0 (fun x => { x with esc := true }) (ticking .core), 0, by decide +kernel⟩,
    ⟨{ ticking .core with tick := { (ticking .core).tick with missed := (ticking .core).tick.missed.set 1 2 } }, 1,
     95, by decide +kernel⟩,
    ⟨{ ticking .core with
       tick := { (ticking .core).tick with missed := (ticking .core).tick.missed.set 1 2 }
       cfg := { Image.empty with
         hs := Image.empty.hs.map fun _ => { HsCfg.unused with fn := 1, octh := 100 }
         chain := Image.empty.chain.map fun _ => ⟨1, 0, 1⟩
         outs := Image.empty.outs.map fun _ => some ⟨1, 5, 0, [(1, 0)]⟩
         str := Image.empty.str.set 0 ⟨true, 0, 0xFFFF⟩ } }, 1, 0, by decide +kernel⟩,
    ⟨{ ticking .core with tick := { (ticking .core).tick with missed := (ticking .core).tick.missed.set 1 2 } }, 1,
     0, by decide +kernel⟩,
    ⟨{ ticking .core with
       tick := { (ticking .core).tick with missed := (ticking .core).tick.missed.set 3 2 }
       cfg := { Image.empty with
         hs := Image.empty.hs.map fun _ => { HsCfg.unused with fn := 1, octh := 100 }
         chain := Image.empty.chain.map fun _ => ⟨1, 0, 1⟩
         outs := Image.empty.outs.map fun _ => some ⟨1, 5, 0, [(1, 0)]⟩
         str := Image.empty.str.set 0 ⟨true, 0, 0xFFFF⟩ } }, 3, 0, by decide +kernel⟩,
    ⟨{ ticking .core with
       tick := { (ticking .core).tick with missed := (ticking .core).tick.missed.set 3 2 }
       cfg := Image.empty }, 3, 0, by decide +kernel⟩,
    ⟨{ ticking .core with
       tick := { (ticking .core).tick with missed := (ticking .core).tick.missed.set 3 2 }
       cfg := { Image.empty with
         hs := Image.empty.hs.map fun _ => { HsCfg.unused with fn := 1, octh := 100 }
         chain := Image.empty.chain.map fun _ => ⟨1, 0, 1⟩
         outs := Image.empty.outs.map fun _ => some ⟨1, 5, 0, [(1, 0)]⟩
         str := Image.empty.str.set 0 ⟨true, 0, 0xFFFF⟩ } }, 3, 0, by decide +kernel⟩,
    ⟨{ ticking .core with
       tick := { (ticking .core).tick with missed := (ticking .core).tick.missed.set 3 2 }
       cfg := Image.empty }, 3, 0, by decide +kernel⟩,
    ⟨{ ticking .core with
       tick := { (ticking .core).tick with missed := (ticking .core).tick.missed.set 3 2 }
       cfg := Image.empty }, 3, 0, by decide +kernel⟩⟩

theorem test_witness_FieldInputs :
    (∃ (s : State), s.powered = true ∧ s.tick.phase ≠ Phase.off ∧ 16 ≤ s.din.sampleIdx ∧ s.jumping = false) ∧
    (∃ (s : State) (k : Fin 128), s.powered = true ∧ s.tick.phase ≠ Phase.off ∧
       (s.din.sampleIdx < 16 ∨ s.jumping = true) ∧ s.cfg.di[k].fn = 0) ∧
    (∃ (s : State) (x : InputReadings) (k : Fin 128), s.powered = true ∧ s.tick.phase ≠ Phase.off ∧
       (s.din.sampleIdx < 16 ∨ s.jumping = true) ∧ s.cfg.di[k].fn ≠ 0 ∧
       (classBands (getNat s.cfg.diClass (k.val / 16) 1)).1.1 + (classBands (getNat s.cfg.diClass (k.val / 16) 1)).1.2
         ≤ x.di[k].mv) ∧
    (∃ (s : State) (x : InputReadings) (k : Fin 128), s.powered = true ∧ s.tick.phase ≠ Phase.off ∧
       (s.din.sampleIdx < 16 ∨ s.jumping = true) ∧ s.cfg.di[k].fn ≠ 0 ∧
       x.di[k].mv ≤ (classBands (getNat s.cfg.diClass (k.val / 16) 1)).2.1 - (classBands (getNat s.cfg.diClass (k.val
         / 16) 1)).2.2) ∧
    (∃ (s : State) (x : InputReadings) (k : Fin 128), s.powered = true ∧ s.tick.phase ≠ Phase.off ∧
       (s.din.sampleIdx < 16 ∨ s.jumping = true) ∧ s.cfg.di[k].fn ≠ 0 ∧
       fallAt k.val (getNat s.cfg.diClass (k.val / 16) 1) < x.di[k].mv ∧
       x.di[k].mv < riseAt k.val (getNat s.cfg.diClass (k.val / 16) 1)) ∧
    (∃ (s : State) (k : Fin 96), s.powered = true ∧ s.tick.phase ≠ Phase.off ∧
       (s.din.sampleIdx < 16 ∨ s.jumping = true) ∧ s.cfg.hs[k].fn ≠ 4) ∧
    (∃ (s : State) (x : InputReadings) (k : Fin 96), s.powered = true ∧ s.tick.phase ≠ Phase.off ∧
       (s.din.sampleIdx < 16 ∨ s.jumping = true) ∧ 11000 ≤ x.hs[k]) ∧
    (∃ (s : State) (x : InputReadings) (k : Fin 96), s.powered = true ∧ s.tick.phase ≠ Phase.off ∧
       (s.din.sampleIdx < 16 ∨ s.jumping = true) ∧ x.hs[k] ≤ 5000) ∧
    (∃ (s : State) (rq : Requester), s.powered = true ∧ hsCtrlAllowed rq = true) ∧
    (∃ (s : State) (rq : Requester), s.powered = true ∧ hsCtrlAllowed rq = false) ∧
    (∃ (limit : ℕ) (f : Sys2Proof.Machine.Filter), f.started = true ∧ f.c ≤ limit) ∧
    (∃ (f : Sys2Proof.Machine.Filter), f.started = false) ∧
    (∃ (limit : ℕ) (high : Bool) (f : Sys2Proof.Machine.Filter), f.started = true ∧
       (filterStep limit high f).2 = EdgeAt.rise) ∧
    (∃ (limit : ℕ) (high : Bool) (f : Sys2Proof.Machine.Filter), f.started = true ∧
       (filterStep limit high f).2 = EdgeAt.fall) ∧
    (∃ (limit : ℕ) (high : Bool) (f : Sys2Proof.Machine.Filter), f.started = true ∧
       (filterStep limit high f).2 = EdgeAt.none) :=
  ⟨
    ⟨{ ticking .engine with din := { State.reset.din with sampleIdx := 16 } }, by decide +kernel⟩,
    ⟨ticking .engine, 0, by decide +kernel⟩,
    ⟨{ ticking .engine with cfg := { Image.empty with di := Vector.replicate 128 ⟨1, 0⟩ } },
     { (default : InputReadings) with di := Vector.replicate 128 ⟨13500, false, 0⟩ }, 0, by decide +kernel⟩,
    ⟨{ ticking .engine with cfg := { Image.empty with di := Vector.replicate 128 ⟨1, 0⟩ } }, default, 0,
     by decide +kernel⟩,
    ⟨{ ticking .engine with cfg := { Image.empty with di := Vector.replicate 128 ⟨1, 0⟩ } },
     { (default : InputReadings) with di := Vector.replicate 128 ⟨riseAt 0 1 - 1, false, 0⟩ }, 0,
     ⟨by decide +kernel, by decide +kernel, .inl (by decide +kernel), by decide +kernel, test_hysteresis.1,
       test_hysteresis.2⟩⟩,
    ⟨ticking .engine, 0, by decide +kernel⟩,
    ⟨ticking .engine, { (default : InputReadings) with hs := Vector.replicate 96 20000 }, 0, by decide +kernel⟩,
    ⟨ticking .engine, default, 0, by decide +kernel⟩,
    ⟨ticking .engine, .keeper, by decide +kernel⟩,
    ⟨ticking .engine, .tick 0, by decide +kernel⟩,
    ⟨0, ⟨0, false, 0, true⟩, by decide +kernel⟩,
    ⟨⟨0, false, 0, false⟩, by decide +kernel⟩,
    ⟨0, false, ⟨0, false, 0, true⟩, by decide +kernel⟩,
    ⟨0, false, ⟨0, true, 0, true⟩, by decide +kernel⟩,
    ⟨1, false, ⟨0, false, 0, true⟩, by decide +kernel⟩⟩

theorem test_witness_OutputCommands :
    (∃ (s : State) (o : Fin 448), s.powered = true ∧ outNumber o.val = false) ∧
    (∃ (s : State) (rq : Requester) (o : Fin 448) (w : Word), s.powered = true ∧ outNumber o.val = true ∧
       sourceOf rq = none ∧ s.writtenOk o.val w = true) ∧
    (∃ (s : State) (rq : Requester) (o : Fin 448) (w : Word), s.powered = true ∧ outNumber o.val = true ∧
       sourceOf rq = none ∧ s.writtenOk o.val w = false) ∧
    (∃ (s : State) (rq : Requester) (o : Fin 448) (w : Word) (src : Fin 16) (r : OutCfg), s.powered = true ∧
       outNumber o.val = true ∧ sourceOf rq = some src ∧ s.outCfg o.val = some r ∧ s.wordOk o.val w = false) ∧
    (∃ (s : State) (rq : Requester) (o : Fin 448) (w : Word) (src : Fin 16) (r : OutCfg), s.powered = true ∧
       outNumber o.val = true ∧ sourceOf rq = some src ∧ s.wordOk o.val w = true ∧ s.outCfg o.val = some r ∧
       r.permits src.val = true ∧ (o.val < 96 ∨ 112 ≤ o.val ∨ solDelay w = 0)) ∧
    (∃ (s : State) (rq : Requester) (o : Fin 448) (w : Word) (src : Fin 16) (r : OutCfg) (k : Fin 16),
       s.powered = true ∧ outNumber o.val = true ∧ sourceOf rq = some src ∧ s.wordOk o.val w = true ∧
       s.outCfg o.val = some r ∧ r.permits src.val = true ∧ o.val = 96 + k.val ∧ 0 < solDelay w) ∧
    (∃ (s : State) (rq : Requester) (o : Fin 448) (w : Word) (src : Fin 16), s.powered = true ∧
       outNumber o.val = true ∧ sourceOf rq = some src ∧
       (s.outCfg o.val = none ∨ ∃ r, s.outCfg o.val = some r ∧ r.permits src.val = false ∧ s.wordOk o.val w = true) ∧
       s.outCfg o.val = none ∧ s.writtenOk o.val w = false) ∧
    (∃ (s : State) (rq : Requester) (o : Fin 448) (src : Fin 16), s.powered = true ∧ outNumber o.val = true ∧
       sourceOf rq = some src ∧ (∀ r ∈ s.outCfg o.val, r.permits src.val = false)) ∧
    (∃ (s : State) (rq : Requester) (o : Fin 448), s.powered = true ∧ outNumber o.val = true ∧
       rq ≠ Requester.keeper ∧ ((s.outCfg o.val).isSome = true ∨ sourceOf rq = none)) ∧
    (∃ (s : State) (rq : Requester) (o : Fin 448), s.powered = true ∧ outNumber o.val = true ∧
       s.outCfg o.val = none ∧ sourceOf rq ≠ none ∧ rq ≠ Requester.keeper) ∧
    (∃ (s : State) (rq : Requester) (o : Fin 448) (r : OutCfg), s.powered = true ∧ outNumber o.val = true ∧
       rq = Requester.keeper ∧ s.outCfg o.val = some r ∧ (s.out (s.leadOut o.val)).esc = false) ∧
    (∃ (s : State) (rq : Requester) (o : Fin 448) (r : OutCfg) (j : ℕ), s.powered = true ∧ outNumber o.val = true ∧
       rq = Requester.keeper ∧ s.outCfg o.val = some r ∧ (s.out (s.leadOut o.val)).esc = true ∧
       j ∈ s.groupOut (s.leadOut o.val)) ∧
    (∃ (s : State) (rq : Requester) (o : Fin 448) (r : OutCfg) (j : ℕ), s.powered = true ∧ outNumber o.val = true ∧
       rq = Requester.keeper ∧ s.outCfg o.val = some r ∧ (s.out (s.leadOut o.val)).esc = true ∧
       j ∉ s.groupOut (s.leadOut o.val)) ∧
    (∃ (s : State) (rq : Requester) (o : Fin 448) (r : OutCfg), s.powered = true ∧ outNumber o.val = true ∧
       rq = Requester.keeper ∧ s.outCfg o.val = some r ∧ (s.out (s.leadOut o.val)).esc = true ∧ s.canLog = true) ∧
    (∃ (s : State) (k : Fin 16) (src : Fin 16) (d : Delayed), s.powered = true ∧ s.sol.ch[k].delayed[src] = some d ∧
       d.tick ≤ s.intakeTick ∧ (s.out (96 + k.val)).fresh[src] = Fresh.none) ∧
    (∃ (s : State) (k : Fin 16) (src : Fin 16) (d : Delayed), s.powered = true ∧ s.sol.ch[k].delayed[src] = some d ∧
       d.tick ≤ s.intakeTick ∧ (s.out (96 + k.val)).fresh[src] ≠ Fresh.none) ∧
    (∃ (s : State) (k : Fin 16) (src : Fin 16) (d : Delayed) (o : ℕ), s.powered = true ∧
       s.sol.ch[k].delayed[src] = some d ∧ d.tick ≤ s.intakeTick ∧ o ≠ 96 + k.val) :=
  ⟨
    ⟨State.reset, 256, by decide +kernel⟩,
    ⟨State.reset, .service, 0, 0, by decide +kernel⟩,
    ⟨State.reset, .service, 0, 0x00100000, by decide +kernel⟩,
    ⟨{ ticking .core with
       cfg := { Image.empty with outs := Image.empty.outs.map fun _ => some ⟨0, 5, 0, [(1, 0)]⟩ } }, .keeper, 0,
     0x00100000, 1, ⟨0, 5, 0, [(1, 0)]⟩, by decide +kernel⟩,
    ⟨{ ticking .core with
       cfg := { Image.empty with outs := Image.empty.outs.map fun _ => some ⟨0, 5, 0, [(1, 0)]⟩ } }, .keeper, 0, 0,
     1, ⟨0, 5, 0, [(1, 0)]⟩, by decide +kernel⟩,
    ⟨{ ticking .core with
       cfg := { Image.empty with outs := Image.empty.outs.map fun _ => some ⟨0, 5, 0, [(1, 0)]⟩ } }, .keeper, 96,
     0x00100000, 1, ⟨0, 5, 0, [(1, 0)]⟩, 0, by decide +kernel⟩,
    ⟨State.reset, .keeper, 0, 0x00100000, 1, by decide +kernel⟩,
    ⟨State.reset, .keeper, 0, 1, by decide +kernel⟩,
    ⟨State.reset, .service, 0, by decide +kernel⟩,
    ⟨State.reset, .task, 0, by decide +kernel⟩,
    ⟨{ ticking .core with
       cfg := { Image.empty with outs := Image.empty.outs.map fun _ => some ⟨0, 5, 0, [(1, 0)]⟩ } }, .keeper, 0,
     ⟨0, 5, 0, [(1, 0)]⟩, by decide +kernel⟩,
    ⟨modOut 0 (fun x => { x with esc := true }) ({ ticking .core with
       cfg := { Image.empty with outs := Image.empty.outs.map fun _ => some ⟨0, 5, 0, [(1, 0)]⟩ } }), .keeper, 0,
     ⟨0, 5, 0, [(1, 0)]⟩, 0, by decide +kernel⟩,
    ⟨modOut 0 (fun x => { x with esc := true }) ({ ticking .core with
       cfg := { Image.empty with outs := Image.empty.outs.map fun _ => some ⟨0, 5, 0, [(1, 0)]⟩ } }), .keeper, 0,
     ⟨0, 5, 0, [(1, 0)]⟩, 1, by decide +kernel⟩,
    ⟨modOut 0 (fun x => { x with esc := true }) ({ ticking .core with
       cfg := { Image.empty with outs := Image.empty.outs.map fun _ => some ⟨0, 5, 0, [(1, 0)]⟩ } }), .keeper, 0,
     ⟨0, 5, 0, [(1, 0)]⟩, by decide +kernel⟩,
    ⟨modSol 0 (fun c => { c with delayed := c.delayed.set 0 (some ⟨1, 1000⟩) }) (ticking .core), 0, 0, ⟨1, 1000⟩,
     by decide +kernel⟩,
    ⟨modOut 96 (fun x => { x with fresh := x.fresh.set 0 (.cmd 1) }) (modSol 0 (fun c => { c with delayed := c.delayed.set 0 (some ⟨1, 1000⟩) }) (ticking .core)),
     0, 0, ⟨1, 1000⟩, by decide +kernel⟩,
    ⟨modSol 0 (fun c => { c with delayed := c.delayed.set 0 (some ⟨1, 1000⟩) }) (ticking .core), 0, 0, ⟨1, 1000⟩, 0,
     by decide +kernel⟩⟩

theorem test_witness_StructureWritesAreKeepersOnly :
    (∃ (s : State) (rq : Requester) (v : Word), s.powered = true ∧ rq ≠ Requester.keeper ∧ rq ≠ Requester.fabric ∧
       BitVec.toNat v < 8 ∧ (¬(bit v 1 = true ∧ bit v 2 = true))) ∧
    (∃ (s : State) (rq : Requester) (v : Word), s.powered = true ∧ rq ≠ Requester.keeper ∧ rq ≠ Requester.fabric ∧
       (8 ≤ BitVec.toNat v ∨ bit v 1 = true ∧ bit v 2 = true)) :=
  ⟨
    ⟨State.reset, .task, 0, by decide +kernel⟩,
    ⟨State.reset, .task, 0x80000000, by decide +kernel⟩⟩

theorem test_witness_StructureLoads :
    (∃ (s : State), s.powered = true ∧ (s.upd.state ≠ UpdState.verified) ∧ s.upd.state ≠ UpdState.scheduled ∧
       s.upd.state ≠ UpdState.trial ∧ (s.strct.shadow = Shadow.loading ∨ s.strct.shadow = Shadow.scheduled)) ∧
    (∃ (s : State) (slot : Bool), s.powered = true ∧ (s.upd.state ≠ UpdState.verified) ∧
       s.upd.state ≠ UpdState.scheduled ∧ s.upd.state ≠ UpdState.trial ∧ s.strct.shadow ≠ Shadow.loading ∧
       s.strct.shadow ≠ Shadow.scheduled ∧ s.slotReasonOf slot = 0) ∧
    (∃ (s : State) (slot : Bool), s.powered = true ∧ (s.upd.state ≠ UpdState.verified) ∧
       s.upd.state ≠ UpdState.scheduled ∧ s.upd.state ≠ UpdState.trial ∧ s.strct.shadow ≠ Shadow.loading ∧
       s.strct.shadow ≠ Shadow.scheduled ∧ s.slotReasonOf slot ≠ 0 ∧ s.canLog = true ∧ s.slotReasonOf slot ≠ 8) ∧
    (∃ (s : State) (g : Image), s.powered = true ∧ s.strct.shadow = Shadow.loading ∧ s.strct.shImage = some g ∧
       (s.key.waiting = none ∨ s.acc.write ≠ none) ∧ s.canLog = true) ∧
    (∃ (s : State), s.powered = true ∧ s.strct.shadow = Shadow.loading ∧ s.strct.loadTicks + 4 ≤ s.tick.executed ∧
       s.canLog = true) :=
  ⟨
    ⟨{ ticking .core with strct := { (ticking .core).strct with shadow := .loading } }, by decide +kernel⟩,
    ⟨imaged, false,
     ⟨rfl, by decide +kernel, by decide +kernel, by decide +kernel, by decide +kernel, by decide +kernel,
       image_passes⟩⟩,
    ⟨State.reset, false, by decide +kernel⟩,
    ⟨{ ticking .core with strct := { (ticking .core).strct with shadow := .loading, shImage := some Image.empty } },
     Image.empty, by decide +kernel⟩,
    ⟨{ ticking .core with strct := { (ticking .core).strct with shadow := .loading } }, by decide +kernel⟩⟩

theorem test_witness_StructureSwaps :
    (∃ (s : State), s.powered = true ∧ s.strct.inForce = true ∧ heldWord Requester.keeper 537002024 s = none) ∧
    (∃ (s : State) (hi : Word) (lo : Word), s.powered = true ∧ s.strct.inForce = true ∧
       heldWord Requester.keeper 537002024 s = some lo ∧ (s.tick.phase ≠ Phase.off ∨ s.tick.executed ≠ 0) ∧
       s.armRefused (s.swapTarget (join64 lo hi)) = none) ∧
    (∃ (s : State) (lo : Word) (g : Image), s.powered = true ∧ s.strct.inForce = true ∧
       heldWord Requester.keeper 537002024 s = some lo ∧ s.tick.phase = Phase.off ∧ s.tick.executed = 0 ∧
       s.strct.shImage = some g ∧ (s.strct.shadow = Shadow.ready ∨ s.strct.shadow = Shadow.scheduled)) ∧
    (∃ (s : State) (hi : Word) (lo : Word) (i : ℕ), s.powered = true ∧ s.strct.inForce = true ∧
       heldWord Requester.keeper 537002024 s = some lo ∧ (s.tick.phase ≠ Phase.off ∨ s.tick.executed ≠ 0) ∧
       s.armRefused (s.swapTarget (join64 lo hi)) = some i) ∧
    (∃ (s : State), s.powered = true ∧ s.strct.inForce = true ∧ (s.upd.state ≠ UpdState.verified) ∧
       s.upd.state ≠ UpdState.scheduled ∧ s.upd.state ≠ UpdState.trial ∧ s.strct.shadow = Shadow.scheduled ∧
       s.envOpened (BitVec.toNat s.strct.target - 1) = false) ∧
    (∃ (s : State) (g : Image), s.powered = true ∧ s.strct.shImage = some g ∧ s.swapDue = true ∧
       (Vector.map (fun n => n != 0) s.tick.missed = Vector.replicate 5 false)) ∧
    (∃ (s : State) (g : Image), s.powered = true ∧ s.strct.shImage = some g ∧ s.swapDue = true ∧
       ((Vector.map (fun n => n != 0) s.tick.missed).toList.any id = true) ∧ s.strct.late = none) ∧
    (∃ (s : State) (g : Image) (old : Image) (new : Image), s.powered = true ∧ s.strct.shImage = some g ∧
       s.swapDue = true ∧ s.strct.late = some (old, new)) ∧
    (∃ (s : State) (g : Image), s.powered = true ∧ s.strct.shImage = some g ∧ s.strct.inForce = false ∧
       s.strct.shadow = Shadow.scheduled) :=
  ⟨
    ⟨ticking .core, by decide +kernel⟩,
    ⟨holdWrite .keeper 0x20020028 1002 ({ ticking .core with
       strct := { (ticking .core).strct with shadow := .ready, shImage := some Image.empty } }), 0, 1002,
     by decide +kernel⟩,
    ⟨holdWrite .keeper 0x20020028 1000 { ticking .off with
       tick := { (ticking .off).tick with executed := 0 }
       strct := { (ticking .off).strct with shadow := .ready, shImage := some Image.empty } }, 1000, Image.empty,
     by decide +kernel⟩,
    ⟨holdWrite .keeper 0x20020028 1000 ({ ticking .core with
       strct := { (ticking .core).strct with shadow := .ready, shImage := some Image.empty } }), 0, 1000, 4,
     by decide +kernel⟩,
    ⟨{ ticking .core with strct := { (ticking .core).strct with shadow := .scheduled, target := 1002 } },
     by decide +kernel⟩,
    ⟨{ ticking .begun with
       strct := { (ticking .begun).strct with shadow := .scheduled, target := 1000, shImage := some Image.empty } },
     Image.empty, by decide +kernel⟩,
    ⟨{ ticking .begun with
       strct := { (ticking .begun).strct with shadow := .scheduled, target := 1000, shImage := some Image.empty }
       tick := { (ticking .begun).tick with missed := (ticking .begun).tick.missed.set 2 1 } }, Image.empty,
     by decide +kernel⟩,
    ⟨{ ticking .begun with
       strct := { (ticking .begun).strct with
         shadow := .scheduled
         target := 1000
         shImage := some Image.empty
         late := some (Image.empty, Image.empty) }
       tick := { (ticking .begun).tick with missed := (ticking .begun).tick.missed.set 2 1 } }, Image.empty,
     Image.empty, Image.empty, ⟨by decide +kernel, rfl, by decide +kernel, rfl⟩⟩,
    ⟨{ ticking .off with
       strct := { (ticking .off).strct with inForce := false, shadow := .scheduled, shImage := some Image.empty } },
     Image.empty, by decide +kernel⟩⟩

theorem test_witness_SwitchTrips :
    (∃ (s : State) (k : Fin 96) (i : Half) (j : Fin 96), s.powered = true ∧ s.hsw.ch[s.cfg.leader k].gate = true ∧
       overTripLevel k.val (BitVec.toInt i) = true ∧ j ∈ s.cfg.members k ∧
       s.hsw.ch[s.cfg.leader k].r < s.cfg.hs[s.cfg.leader k].n) ∧
    (∃ (s : State) (k : Fin 96) (i : Half) (j : Fin 96), s.powered = true ∧ s.hsw.ch[s.cfg.leader k].gate = true ∧
       overTripLevel k.val (BitVec.toInt i) = true ∧ j ∈ s.cfg.members k ∧
       s.cfg.hs[s.cfg.leader k].n ≤ s.hsw.ch[s.cfg.leader k].r) ∧
    (∃ (s : State) (k : Fin 96) (i : Half) (j : Fin 96), s.powered = true ∧ s.hsw.ch[s.cfg.leader k].gate = true ∧
       overTripLevel k.val (BitVec.toInt i) = true ∧ j ∉ s.cfg.members k) ∧
    (∃ (s : State) (k : Fin 96) (i : Half), s.powered = true ∧ s.hsw.ch[s.cfg.leader k].gate = true ∧
       overTripLevel k.val (BitVec.toInt i) = false) ∧
    (∃ (s : State) (k : Fin 96) (i : Half), s.powered = true ∧ s.hsw.ch[s.cfg.leader k].gate = true ∧
       ((if k.val < 64 then 17250 else 12937) < BitVec.toInt i)) ∧
    (∃ (s : State) (k : Fin 96) (i : Half), s.powered = true ∧ s.hsw.ch[s.cfg.leader k].gate = true ∧
       (BitVec.toInt i ≤ if k.val < 64 then 12750 else 9562)) ∧
    (∃ (s : State) (k : Fin 96) (i : Half) (j : Fin 96), s.powered = true ∧ s.hsw.ch[s.cfg.leader k].gate = true ∧
       ((if s.hsw.ch[s.cfg.leader k].prot = Prot.inrush then s.cfg.hs[k].inth else s.cfg.hs[k].octh).cast <
         BitVec.toInt i) ∧
       j ∈ s.cfg.members k ∧ s.hsw.ch[s.cfg.leader k].r < s.cfg.hs[s.cfg.leader k].n) ∧
    (∃ (s : State) (k : Fin 96) (i : Half) (j : Fin 96), s.powered = true ∧ s.hsw.ch[s.cfg.leader k].gate = true ∧
       ((if s.hsw.ch[s.cfg.leader k].prot = Prot.inrush then s.cfg.hs[k].inth else s.cfg.hs[k].octh).cast <
         BitVec.toInt i) ∧
       j ∈ s.cfg.members k ∧ s.cfg.hs[s.cfg.leader k].n ≤ s.hsw.ch[s.cfg.leader k].r) ∧
    (∃ (s : State) (k : Fin 96) (i : Half) (j : Fin 96), s.powered = true ∧ s.hsw.ch[s.cfg.leader k].gate = true ∧
       ((if s.hsw.ch[s.cfg.leader k].prot = Prot.inrush then s.cfg.hs[k].inth else s.cfg.hs[k].octh).cast <
         BitVec.toInt i) ∧
       j ∉ s.cfg.members k) ∧
    (∃ (s : State) (k : Fin 96) (i : Half), s.powered = true ∧ s.hsw.ch[s.cfg.leader k].gate = true ∧
       (BitVec.toInt i ≤ (if s.hsw.ch[s.cfg.leader k].prot = Prot.inrush then s.cfg.hs[k].inth else
         s.cfg.hs[k].octh).cast)) ∧
    (∃ (s : State) (k : Fin 96) (temp : Half) (j : Fin 96), s.powered = true ∧ 2800 ≤ BitVec.toInt temp ∧
       s.hsw.ch[s.cfg.leader k].prot ≠ Prot.latchTh ∧ j ∈ s.cfg.members k) ∧
    (∃ (s : State) (k : Fin 96) (temp : Half) (j : Fin 96), s.powered = true ∧ 2800 ≤ BitVec.toInt temp ∧
       s.hsw.ch[s.cfg.leader k].prot ≠ Prot.latchTh ∧ j ∉ s.cfg.members k) ∧
    (∃ (s : State) (temp : Half), s.powered = true ∧ BitVec.toInt temp < 2800) :=
  ⟨
    ⟨modHs 0 (fun h => { h with prot := .on, cmd := true, r := 1 }) ({ ticking .core with
       cfg := { Image.empty with
         hs := Image.empty.hs.set 0 { HsCfg.unused with fn := 1, octh := 100, inth := 200, n := 2 } } }), 0, 17251,
     0, by decide +kernel⟩,
    ⟨modHs 0 (fun h => { h with prot := .on, cmd := true, r := 2 }) ({ ticking .core with
       cfg := { Image.empty with
         hs := Image.empty.hs.set 0 { HsCfg.unused with fn := 1, octh := 100, inth := 200, n := 2 } } }), 0, 17251,
     0, by decide +kernel⟩,
    ⟨modHs 0 (fun h => { h with prot := .on, cmd := true, r := 2 }) ({ ticking .core with
       cfg := { Image.empty with
         hs := Image.empty.hs.set 0 { HsCfg.unused with fn := 1, octh := 100, inth := 200, n := 2 } } }), 0, 17251,
     95, by decide +kernel⟩,
    ⟨modHs 0 (fun h => { h with prot := .on, cmd := true, r := 2 }) ({ ticking .core with
       cfg := { Image.empty with
         hs := Image.empty.hs.set 0 { HsCfg.unused with fn := 1, octh := 100, inth := 200, n := 2 } } }), 0, 101,
     by decide +kernel⟩,
    ⟨modHs 0 (fun h => { h with prot := .on, cmd := true, r := 2 }) ({ ticking .core with
       cfg := { Image.empty with
         hs := Image.empty.hs.set 0 { HsCfg.unused with fn := 1, octh := 100, inth := 200, n := 2 } } }), 0, 17251,
     by decide +kernel⟩,
    ⟨modHs 0 (fun h => { h with prot := .on, cmd := true, r := 2 }) ({ ticking .core with
       cfg := { Image.empty with
         hs := Image.empty.hs.set 0 { HsCfg.unused with fn := 1, octh := 100, inth := 200, n := 2 } } }), 0, 101,
     by decide +kernel⟩,
    ⟨modHs 0 (fun h => { h with prot := .on, cmd := true, r := 1 }) ({ ticking .core with
       cfg := { Image.empty with
         hs := Image.empty.hs.set 0 { HsCfg.unused with fn := 1, octh := 100, inth := 200, n := 2 } } }), 0, 101, 0,
     by decide +kernel⟩,
    ⟨modHs 0 (fun h => { h with prot := .on, cmd := true, r := 2 }) ({ ticking .core with
       cfg := { Image.empty with
         hs := Image.empty.hs.set 0 { HsCfg.unused with fn := 1, octh := 100, inth := 200, n := 2 } } }), 0, 101, 0,
     by decide +kernel⟩,
    ⟨modHs 0 (fun h => { h with prot := .on, cmd := true, r := 2 }) ({ ticking .core with
       cfg := { Image.empty with
         hs := Image.empty.hs.set 0 { HsCfg.unused with fn := 1, octh := 100, inth := 200, n := 2 } } }), 0, 101, 95,
     by decide +kernel⟩,
    ⟨modHs 0 (fun h => { h with prot := .on, cmd := true, r := 2 }) ({ ticking .core with
       cfg := { Image.empty with
         hs := Image.empty.hs.set 0 { HsCfg.unused with fn := 1, octh := 100, inth := 200, n := 2 } } }), 0, 100,
     by decide +kernel⟩,
    ⟨modHs 0 (fun h => { h with prot := .on, cmd := true, r := 2 }) ({ ticking .core with
       cfg := { Image.empty with
         hs := Image.empty.hs.set 0 { HsCfg.unused with fn := 1, octh := 100, inth := 200, n := 2 } } }), 0, 2800, 0,
     by decide +kernel⟩,
    ⟨modHs 0 (fun h => { h with prot := .on, cmd := true, r := 2 }) ({ ticking .core with
       cfg := { Image.empty with
         hs := Image.empty.hs.set 0 { HsCfg.unused with fn := 1, octh := 100, inth := 200, n := 2 } } }), 0, 2800,
     95, by decide +kernel⟩,
    ⟨modHs 0 (fun h => { h with prot := .on, cmd := true, r := 2 }) ({ ticking .core with
       cfg := { Image.empty with
         hs := Image.empty.hs.set 0 { HsCfg.unused with fn := 1, octh := 100, inth := 200, n := 2 } } }), 0,
     by decide +kernel⟩⟩

theorem test_witness_SwitchTimersAndControl :
    (∃ (s : State) (j : Fin 96), s.powered = true ∧ s.commitNext = true ∧ (s.cfg.hs[j].fn = 1 ∨ s.cfg.hs[j].fn = 2)) ∧
    (∃ (s : State) (k : Fin 96) (j : Fin 96), s.powered = true ∧ s.commitNext = true ∧
       s.hsw.ch[s.cfg.leader k].prot = Prot.inrush ∧ s.hsw.ch[s.cfg.leader k].left ≤ 1 ∧
       s.hsw.ch[s.cfg.leader k].done = false ∧ j ∉ s.cfg.members k) ∧
    (∃ (s : State) (k : Fin 96) (j : Fin 96), s.powered = true ∧ s.commitNext = true ∧
       s.hsw.ch[s.cfg.leader k].prot = Prot.inrush ∧ s.hsw.ch[s.cfg.leader k].left ≤ 1 ∧
       s.hsw.ch[s.cfg.leader k].done = false ∧ j ∈ s.cfg.members k ∧ s.hsw.ch[j].prot = Prot.inrush ∧
       s.hsw.ch[j].left ≤ 1 ∧ ((fun j => (passInTick s.cfg.commit 64 s).commitValue j && !s.pwr.noVbl) j = true)) ∧
    (∃ (s : State) (k : Fin 96) (j : Fin 96), s.powered = true ∧ s.commitNext = true ∧
       s.hsw.ch[s.cfg.leader k].prot = Prot.inrush ∧ s.hsw.ch[s.cfg.leader k].left ≤ 1 ∧
       s.hsw.ch[s.cfg.leader k].done = false ∧ j ∈ s.cfg.members k ∧ s.hsw.ch[j].prot = Prot.inrush ∧
       s.hsw.ch[j].left ≤ 1 ∧ ((fun j => (passInTick s.cfg.commit 64 s).commitValue j && !s.pwr.noVbl) j = false)) ∧
    (∃ (s : State) (k : Fin 96) (j : Fin 96), s.powered = true ∧ s.commitNext = true ∧
       s.hsw.ch[s.cfg.leader k].prot = Prot.pause ∧ s.hsw.ch[s.cfg.leader k].left ≤ 1 ∧
       s.hsw.ch[s.cfg.leader k].done = false ∧ j ∉ s.cfg.members k) ∧
    (∃ (s : State) (k : Fin 96) (j : Fin 96), s.powered = true ∧ s.commitNext = true ∧
       s.hsw.ch[s.cfg.leader k].prot = Prot.pause ∧ s.hsw.ch[s.cfg.leader k].left ≤ 1 ∧
       s.hsw.ch[s.cfg.leader k].done = false ∧ j ∈ s.cfg.members k ∧ s.hsw.ch[j].prot = Prot.pause ∧
       s.hsw.ch[j].left ≤ 1 ∧ ((fun j => (passInTick s.cfg.commit 64 s).commitValue j && !s.pwr.noVbl) j = true)) ∧
    (∃ (s : State) (k : Fin 96) (j : Fin 96), s.powered = true ∧ s.commitNext = true ∧
       s.hsw.ch[s.cfg.leader k].prot = Prot.pause ∧ s.hsw.ch[s.cfg.leader k].left ≤ 1 ∧
       s.hsw.ch[s.cfg.leader k].done = false ∧ j ∈ s.cfg.members k ∧ s.hsw.ch[j].prot = Prot.pause ∧
       s.hsw.ch[j].left ≤ 1 ∧ ((fun j => (passInTick s.cfg.commit 64 s).commitValue j && !s.pwr.noVbl) j = false)) ∧
    (∃ (s : State) (k : Fin 96), s.powered = true ∧ s.commitNext = true ∧
       s.hsw.ch[s.cfg.leader k].prot = Prot.pause ∧ s.hsw.ch[s.cfg.leader k].left ≤ 1 ∧
       s.hsw.ch[s.cfg.leader k].done = false ∧ s.canLog = true ∧
       ((fun j => (passInTick s.cfg.commit 64 s).commitValue j && !s.pwr.noVbl) (s.cfg.leader k) = true)) ∧
    (∃ (s : State) (k : Fin 96) (j : Fin 96), s.powered = true ∧ s.commitNext = true ∧
       (s.hsw.ch[s.cfg.leader k].prot = Prot.inrush ∨ s.hsw.ch[s.cfg.leader k].prot = Prot.on) ∧
       0 < s.hsw.ch[s.cfg.leader k].r ∧ s.ticksOfMs 5000 ≤ s.hsw.ch[s.cfg.leader k].clean + 1 ∧
       s.hsw.ch[s.cfg.leader k].done = false ∧ j ∉ s.cfg.members k) ∧
    (∃ (s : State) (k : Fin 96) (j : Fin 96), s.powered = true ∧ s.commitNext = true ∧
       (s.hsw.ch[s.cfg.leader k].prot = Prot.inrush ∨ s.hsw.ch[s.cfg.leader k].prot = Prot.on) ∧
       0 < s.hsw.ch[s.cfg.leader k].r ∧ s.ticksOfMs 5000 ≤ s.hsw.ch[s.cfg.leader k].clean + 1 ∧
       s.hsw.ch[s.cfg.leader k].done = false ∧ j ∈ s.cfg.members k ∧
       (s.hsw.ch[j].prot = Prot.inrush ∨ s.hsw.ch[j].prot = Prot.on) ∧ s.ticksOfMs 5000 ≤ s.hsw.ch[j].clean + 1 ∧
       ((fun j => (passInTick s.cfg.commit 64 s).commitValue j && !s.pwr.noVbl) j = true)) ∧
    (∃ (s : State) (k : Fin 96) (j : Fin 96), s.powered = true ∧ s.commitNext = true ∧
       (s.hsw.ch[s.cfg.leader k].prot = Prot.inrush ∨ s.hsw.ch[s.cfg.leader k].prot = Prot.on) ∧
       0 < s.hsw.ch[s.cfg.leader k].r ∧ s.ticksOfMs 5000 ≤ s.hsw.ch[s.cfg.leader k].clean + 1 ∧
       s.hsw.ch[s.cfg.leader k].done = false ∧ j ∈ s.cfg.members k ∧
       (s.hsw.ch[j].prot = Prot.inrush ∨ s.hsw.ch[j].prot = Prot.on) ∧ s.ticksOfMs 5000 ≤ s.hsw.ch[j].clean + 1 ∧
       ((fun j => (passInTick s.cfg.commit 64 s).commitValue j && !s.pwr.noVbl) j = false)) ∧
    (∃ (s : State) (k : Fin 96), s.powered = true ∧ s.commitNext = true ∧
       (s.hsw.ch[s.cfg.leader k].prot = Prot.inrush ∨ s.hsw.ch[s.cfg.leader k].prot = Prot.on) ∧
       0 < s.hsw.ch[s.cfg.leader k].r ∧ s.ticksOfMs 5000 ≤ s.hsw.ch[s.cfg.leader k].clean + 1 ∧
       s.hsw.ch[s.cfg.leader k].done = false ∧ s.canLog = true ∧
       ((fun j => (passInTick s.cfg.commit 64 s).commitValue j && !s.pwr.noVbl) (s.cfg.leader k) = true)) ∧
    (∃ (s : State) (k : Fin 96), s.powered = true ∧ (s.commitNext = false ∨ 1 < s.hsw.ch[s.cfg.leader k].left)) ∧
    (∃ (s : State) (k : Fin 96), s.powered = true ∧
       (s.commitNext = false ∨ s.hsw.ch[s.cfg.leader k].clean + 1 < s.ticksOfMs 5000)) ∧
    (∃ (s : State) (rq : Requester), s.powered = true ∧ hsCtrlAllowed rq = false) ∧
    (∃ (s : State) (rq : Requester) (k : Fin 96) (j : Fin 96), s.powered = true ∧ hsCtrlAllowed rq = true ∧
       (s.hsw.ch[s.cfg.leader k].prot = Prot.latchOc ∨ s.hsw.ch[s.cfg.leader k].prot = Prot.latchTh ∧ ∀ j ∈
         s.cfg.members k, BitVec.toInt s.hsw.ch[j].sensed < 2480) ∧
       j ∈ s.cfg.members k) ∧
    (∃ (s : State) (rq : Requester) (k : Fin 96) (j : Fin 96), s.powered = true ∧ hsCtrlAllowed rq = true ∧
       (s.hsw.ch[s.cfg.leader k].prot = Prot.latchOc ∨ s.hsw.ch[s.cfg.leader k].prot = Prot.latchTh ∧ ∀ j ∈
         s.cfg.members k, BitVec.toInt s.hsw.ch[j].sensed < 2480) ∧
       j ∉ s.cfg.members k) ∧
    (∃ (s : State) (rq : Requester) (k : Fin 96), s.powered = true ∧ hsCtrlAllowed rq = true ∧
       s.hsw.ch[s.cfg.leader k].prot = Prot.latchTh ∧ (∃ j ∈ s.cfg.members k, 2480 ≤ BitVec.toInt s.hsw.ch[j].sensed))
         :=
  ⟨
    ⟨modHs 0 (fun h => { h with prot := .inrush, left := 1, cmd := true }) ({ ticking .envelope with
       cfg := { Image.empty with
         hs := Image.empty.hs.set 0 { HsCfg.unused with fn := 1, octh := 100, inth := 200, n := 2 } } }), 0,
     by decide +kernel⟩,
    ⟨modHs 0 (fun h => { h with prot := .inrush, left := 1, cmd := true }) ({ ticking .envelope with
       cfg := { Image.empty with
         hs := Image.empty.hs.set 0 { HsCfg.unused with fn := 1, octh := 100, inth := 200, n := 2 } } }), 0, 1,
     by decide +kernel⟩,
    ⟨modOut 0 (fun x => { x with next := some { (default : Sys2Proof.Machine.Pending) with word := 1 } }) (modHs 0 (fun h => { h with prot := .inrush, left := 1, cmd := true }) ({ ticking .envelope with
       cfg := { Image.empty with
         hs := Image.empty.hs.set 0 { HsCfg.unused with fn := 1, octh := 100, inth := 200, n := 2 } } })), 0, 0,
     by decide +kernel⟩,
    ⟨modHs 0 (fun h => { h with prot := .inrush, left := 1, cmd := true }) ({ ticking .envelope with
       cfg := { Image.empty with
         hs := Image.empty.hs.set 0 { HsCfg.unused with fn := 1, octh := 100, inth := 200, n := 2 } } }), 0, 0,
     by decide +kernel⟩,
    ⟨modHs 0 (fun h => { h with prot := .pause, left := 1, cmd := true }) ({ ticking .envelope with
       cfg := { Image.empty with
         hs := Image.empty.hs.set 0 { HsCfg.unused with fn := 1, octh := 100, inth := 200, n := 2 } } }), 0, 1,
     by decide +kernel⟩,
    ⟨modOut 0 (fun x => { x with next := some { (default : Sys2Proof.Machine.Pending) with word := 1 } }) (modHs 0 (fun h => { h with prot := .pause, left := 1, cmd := true }) ({ ticking .envelope with
       cfg := { Image.empty with
         hs := Image.empty.hs.set 0 { HsCfg.unused with fn := 1, octh := 100, inth := 200, n := 2 } } })), 0, 0,
     by decide +kernel⟩,
    ⟨modHs 0 (fun h => { h with prot := .pause, left := 1, cmd := true }) ({ ticking .envelope with
       cfg := { Image.empty with
         hs := Image.empty.hs.set 0 { HsCfg.unused with fn := 1, octh := 100, inth := 200, n := 2 } } }), 0, 0,
     by decide +kernel⟩,
    ⟨modOut 0 (fun x => { x with next := some { (default : Sys2Proof.Machine.Pending) with word := 1 } }) (modHs 0 (fun h => { h with prot := .pause, left := 1, cmd := true }) ({ ticking .envelope with
       cfg := { Image.empty with
         hs := Image.empty.hs.set 0 { HsCfg.unused with fn := 1, octh := 100, inth := 200, n := 2 } } })), 0,
     by decide +kernel⟩,
    ⟨modHs 0 (fun h => { h with prot := .on, r := 1, clean := 1000000 }) ({ ticking .envelope with
       cfg := { Image.empty with
         hs := Image.empty.hs.set 0 { HsCfg.unused with fn := 1, octh := 100, inth := 200, n := 2 } } }), 0, 1,
     by decide +kernel⟩,
    ⟨modOut 0 (fun x => { x with next := some { (default : Sys2Proof.Machine.Pending) with word := 1 } }) (modHs 0 (fun h => { h with prot := .on, r := 1, clean := 1000000, cmd := true }) ({ ticking .envelope with
       cfg := { Image.empty with
         hs := Image.empty.hs.set 0 { HsCfg.unused with fn := 1, octh := 100, inth := 200, n := 2 } } })), 0, 0,
     by decide +kernel⟩,
    ⟨modHs 0 (fun h => { h with prot := .on, r := 1, clean := 1000000 }) ({ ticking .envelope with
       cfg := { Image.empty with
         hs := Image.empty.hs.set 0 { HsCfg.unused with fn := 1, octh := 100, inth := 200, n := 2 } } }), 0, 0,
     by decide +kernel⟩,
    ⟨modOut 0 (fun x => { x with next := some { (default : Sys2Proof.Machine.Pending) with word := 1 } }) (modHs 0 (fun h => { h with prot := .on, r := 1, clean := 1000000, cmd := true }) ({ ticking .envelope with
       cfg := { Image.empty with
         hs := Image.empty.hs.set 0 { HsCfg.unused with fn := 1, octh := 100, inth := 200, n := 2 } } })), 0,
     by decide +kernel⟩,
    ⟨modHs 0 (fun h => { h with prot := .inrush, left := 0 }) (ticking .core), 0, by decide +kernel⟩,
    ⟨modHs 0 (fun h => { h with prot := .inrush, left := 0 }) (ticking .core), 0, by decide +kernel⟩,
    ⟨modHs 0 (fun h => { h with prot := .inrush, left := 0 }) (ticking .core), .tick 0, by decide +kernel⟩,
    ⟨modHs 0 (fun h => { h with prot := .latchOc }) (ticking .core), .keeper, 0, 0, by decide +kernel⟩,
    ⟨modHs 0 (fun h => { h with prot := .latchOc }) (ticking .core), .keeper, 0, 1, by decide +kernel⟩,
    ⟨modHs 0 (fun h => { h with prot := .latchTh, sensed := 2480 }) (ticking .core), .keeper, 0, by decide +kernel⟩⟩

theorem test_witness_SwitchDiagnostics :
    (∃ (s : State) (k : Fin 96) (i : Half) (node : ℕ) (res : Bool), s.powered = true ∧ s.tick.phase = Phase.measure ∧
       s.hsw.ch[k].windowed = false ∧ s.windowFits = true ∧ s.hsw.fold[k.val / 8].uv = false ∧
       (s.disturbed k = false ∨ 8 ≤ s.hsw.ch[k].distRun) ∧
       olResult s.cfg.hs[k] s.hsw.ch[k] k.val (s.adc (k.val / 8) i) node = some res) ∧
    (∃ (s : State), s.powered = true ∧ s.windowFits = false) ∧
    (∃ (s : State) (k : Fin 96), s.powered = true ∧ s.hsw.ch[k].gate = false) ∧
    (∃ (s : State) (k : Fin 96), s.powered = true ∧ s.disturbed k = true ∧ 8 ≤ s.hsw.ch[k].distRun ∧
       s.hsw.ch[k].forcedRd = none ∧ s.hsw.ch[k].forced = true) ∧
    (∃ (s : State) (f : Fin 12), s.powered = true ∧ s.hsw.fold[f].uv = false) ∧
    (∃ (s : State) (f : Fin 12), s.powered = true ∧ s.hsw.fold[f].uv = true) :=
  ⟨
    ⟨modHs 0 (fun h => { h with prot := .on, onFor := 1 }) ({ ticking .measure with
       cfg := { Image.empty with
         hs := Image.empty.hs.set 0 { HsCfg.unused with fn := 1, octh := 100, olOn := true, olOff := true } } }), 0,
     0, 0, true, by decide +kernel⟩,
    ⟨{ ticking .measure with cfg := { Image.empty with period := 0, commit := 60 } }, by decide +kernel⟩,
    ⟨modHs 0 (fun h => { h with prot := .on, onFor := 1 }) ({ ticking .measure with
       cfg := { Image.empty with
         hs := Image.empty.hs.set 0 { HsCfg.unused with fn := 1, octh := 100, olOn := true, olOff := true } } }), 0,
     by decide +kernel⟩,
    ⟨modHs 1 (fun h => { h with inrushed := true }) (modHs 0 (fun h => { h with distRun := 9, forced := true }) (ticking .measure)),
     0, by decide +kernel⟩,
    ⟨modHs 0 (fun h => { h with prot := .on, onFor := 1 }) ({ ticking .measure with
       cfg := { Image.empty with
         hs := Image.empty.hs.set 0 { HsCfg.unused with fn := 1, octh := 100, olOn := true, olOff := true } } }), 0,
     by decide +kernel⟩,
    ⟨{ ticking .measure with
       hsw := { State.reset.hsw with fold := State.reset.hsw.fold.map fun f => { f with uv := true } } }, 0,
     by decide +kernel⟩⟩

theorem test_witness_SolenoidEvents :
    (∃ (s : State) (k : Fin 16) (ev : SolEvent), s.powered = true ∧ s.sol.ch[k].chainWait = none ∧
       s.sol.ch[k].queued = some ev ∧ s.sol.ch[k].phase = SolPhase.idle ∧ (s.feedState (s.feedOf k)).gate = true ∧
       (passToNs (BitVec.toNat (getNat s.sol.feedOnAt (s.feedOf k) 0) + 20000) (passToNs (BitVec.toNat ev.due)
         s)).otherPeak k = false ∧
       (passToNs (BitVec.toNat (getNat s.sol.feedOnAt (s.feedOf k) 0) + 20000) (passToNs (BitVec.toNat ev.due)
         s)).firstInLine k (BitVec.toNat ev.due) = true ∧
       (ev.prof.late = 65535 ∨ BitVec.toNat ((passToNs (BitVec.toNat (getNat s.sol.feedOnAt (s.feedOf k) 0) + 20000)
         (passToNs (BitVec.toNat ev.due) s)).now - ev.due) ≤ ev.prof.late * 10000 + 5)) ∧
    (∃ (s : State) (k : Fin 16), s.powered = true ∧ s.sol.ch[k].phase = SolPhase.peak ∧
       (s.sol.ch[k].prof s.sol.ch[k].profile).thold ≠ 0) ∧
    (∃ (s : State) (k : Fin 16), s.powered = true ∧ s.sol.ch[k].phase = SolPhase.hold ∧
       s.sol.ch[k].chainWait = none ∧ (s.sol.ch[k].prof s.sol.ch[k].profile).thold = 0 ∧ s.sol.ch[k].cmdLive = true) ∧
    (∃ (s : State) (k : Fin 16), s.powered = true ∧ s.sol.ch[k].phase = SolPhase.hold ∧
       s.sol.ch[k].chainWait = none ∧
       ((s.sol.ch[k].prof s.sol.ch[k].profile).thold ≠ 0 ∨ s.sol.ch[k].cmdLive = false) ∧
       (s.sol.ch[k].prof s.sol.ch[k].profile).chains = false ∧ s.canLog = true) ∧
    (∃ (s : State) (k : Fin 16), s.powered = true ∧ s.sol.ch[k].phase = SolPhase.hold ∧
       s.sol.ch[k].chainWait = none ∧
       ((s.sol.ch[k].prof s.sol.ch[k].profile).thold ≠ 0 ∨ s.sol.ch[k].cmdLive = false) ∧
       (s.sol.ch[k].prof s.sol.ch[k].profile).chains = true ∧ s.otherPeak k = true) ∧
    (∃ (s : State) (k : Fin 16), s.powered = true ∧ s.sol.ch[k].phase = SolPhase.hold ∧
       s.sol.ch[k].chainWait = none ∧
       ((s.sol.ch[k].prof s.sol.ch[k].profile).thold ≠ 0 ∨ s.sol.ch[k].cmdLive = false) ∧
       (s.sol.ch[k].prof s.sol.ch[k].profile).chains = true ∧ s.otherPeak k = false) ∧
    (∃ (s : State) (k : Fin 16), s.powered = true ∧ s.sol.ch[k].phase = SolPhase.minoff) ∧
    (∃ (s : State) (k : Fin 16) (ev : SolEvent), s.powered = true ∧ s.sol.ch[k].queued = some ev ∧
       ev.prof.late ≠ 65535) :=
  ⟨
    ⟨modSol 0 (fun c => { c with phase := .idle, queued := some ⟨0, 5000000, [⟨60, 10, 20, 5, false, 0, 5, 10, 100⟩]⟩ }) (modHs 0 (fun h => { h with prot := .on, cmd := true }) { ticking .core with
       cfg := { Image.empty with
         sol := Image.empty.sol.map fun c => { c with feed := 0 }
         hs := Image.empty.hs.set 0 { HsCfg.unused with fn := 3 } }
       time := { State.reset.time with tb := State.reset.time.tb.map fun b => { b with value := 5000000 <<< 32 } } }),
     0, ⟨0, 5000000, [⟨60, 10, 20, 5, false, 0, 5, 10, 100⟩]⟩, by decide +kernel⟩,
    ⟨modSol 0 (fun c => { c with phase := .peak, profs := [⟨60, 10, 20, 5, false, 0, 5, 10, 100⟩] }) (ticking .core),
     0, by decide +kernel⟩,
    ⟨modSol 0 (fun c => { c with phase := .hold, cmdLive := true, profs := [⟨60, 10, 20, 0, false, 0, 5, 10, 100⟩] }) (ticking .core),
     0, by decide +kernel⟩,
    ⟨modSol 0 (fun c => { c with phase := .hold, profs := [⟨60, 10, 20, 5, false, 0, 5, 10, 100⟩] }) (ticking .core),
     0, by decide +kernel⟩,
    ⟨modSol 1 (fun c => { c with phase := .peak }) (modSol 0 (fun c => { c with phase := .hold, profs := [⟨60, 10, 20, 5, true, 1, 5, 10, 100⟩, ⟨60, 10, 20, 5, false, 0, 5, 10, 100⟩] }) (ticking .core)),
     0, by decide +kernel⟩,
    ⟨modSol 0 (fun c => { c with phase := .hold, profs := [⟨60, 10, 20, 5, true, 1, 5, 10, 100⟩, ⟨60, 10, 20, 5, false, 0, 5, 10, 100⟩] }) (ticking .core),
     0, by decide +kernel⟩,
    ⟨modSol 0 (fun c => { c with phase := .minoff }) (ticking .core), 0, by decide +kernel⟩,
    ⟨modSol 0 (fun c => { c with phase := .idle, queued := some ⟨0, 5000000, [⟨60, 10, 20, 5, false, 0, 5, 10, 100⟩]⟩ }) (modHs 0 (fun h => { h with prot := .on, cmd := true }) { ticking .core with
       cfg := { Image.empty with
         sol := Image.empty.sol.map fun c => { c with feed := 0 }
         hs := Image.empty.hs.set 0 { HsCfg.unused with fn := 3 } }
       time := { State.reset.time with tb := State.reset.time.tb.map fun b => { b with value := 5000000 <<< 32 } } }),
     0, ⟨0, 5000000, [⟨60, 10, 20, 5, false, 0, 5, 10, 100⟩]⟩, by decide +kernel⟩⟩

theorem test_witness_SolenoidDetection :
    (∃ (s : State) (k : Fin 16) (tmin : Word) (imax : Half) (imin : Half) (v0 : Half) (v1 : Half), s.powered = true ∧
       s.sol.ch[k].phase = SolPhase.peak ∧ s.sol.ch[k].detect = true ∧
       BitVec.toNat imin + (s.sol.ch[k].prof s.sol.ch[k].profile).dip ≤ BitVec.toNat imax ∧
       BitVec.toNat imax < (s.sol.ch[k].prof s.sol.ch[k].profile).ipeak ∧
       BitVec.toNat tmin ≤ (s.sol.ch[k].prof s.sol.ch[k].profile).moveto * 10 ∧
       BitVec.toNat v0 * 9 ≤ BitVec.toNat v1 * 10) ∧
    (∃ (s : State) (v0 : Half) (v1 : Half), s.powered = true ∧ BitVec.toNat v1 * 10 < BitVec.toNat v0 * 9) ∧
    (∃ (s : State) (k : Fin 16), s.powered = true ∧ s.sol.ch[k].active = true ∧ s.sol.ch[k].detect = true) ∧
    (∃ (s : State) (k : Fin 16) (imax : Half), s.powered = true ∧
       (s.sol.ch[k].phase = SolPhase.peak ∧ BitVec.toNat imax < (s.sol.ch[k].prof s.sol.ch[k].profile).ipeak ∨
         s.sol.ch[k].phase = SolPhase.hold ∧ BitVec.toNat imax * 2 < (s.sol.ch[k].prof s.sol.ch[k].profile).ihold)) ∧
    (∃ (s : State) (k : Fin 16) (i : Half), s.powered = true ∧ s.sol.ch[k].active = false ∧
       (s.feedState (s.feedOf k)).gate = true ∧ 20 ≤ BitVec.toNat i ∧
       BitVec.toNat s.sol.ch[k].offAt + 2000000 ≤ s.tb0) ∧
    (∃ (s : State) (i : Half) (hs : Fin 96), s.powered = true ∧ s.cfg.hs[hs].fn = 3 ∧ s.hsw.ch[hs].gate = true ∧
       ((if hs.val < 64 then 100 else 25) < BitVec.toInt (s.adc (hs.val / 8) i)) ∧
       (∀ (j : Fin 16), s.feedOf j = hs.val → s.sol.ch[j].active = false ∧ BitVec.toNat s.sol.ch[j].offAt + 2000000 ≤
         s.tb0)) ∧
    (∃ (s : State) (rq : Requester), s.powered = true ∧ hsCtrlAllowed rq = true) ∧
    (∃ (s : State) (rq : Requester), s.powered = true ∧ hsCtrlAllowed rq = false) :=
  ⟨
    ⟨modSol 0 (fun c => { c with phase := .peak, detect := true, profs := [⟨60, 10, 20, 5, false, 0, 5, 10, 100⟩] }) (ticking .core),
     0, 100, 59, 54, 100, 90, by decide +kernel⟩,
    ⟨modSol 0 (fun c => { c with phase := .peak, detect := true, profs := [⟨60, 10, 20, 5, false, 0, 5, 10, 100⟩] }) (ticking .core),
     100, 89, by decide +kernel⟩,
    ⟨modSol 0 (fun c => { c with phase := .peak, detect := true, profs := [⟨60, 10, 20, 5, false, 0, 5, 10, 100⟩] }) (ticking .core),
     0, by decide +kernel⟩,
    ⟨modSol 0 (fun c => { c with phase := .peak, detect := true, profs := [⟨60, 10, 20, 5, false, 0, 5, 10, 100⟩] }) (ticking .core),
     0, 59, by decide +kernel⟩,
    ⟨modHs 0 (fun h => { h with prot := .on, cmd := true }) { ticking .core with
       cfg := { Image.empty with
         sol := Image.empty.sol.map fun c => { c with feed := 0 }
         hs := Image.empty.hs.set 0 { HsCfg.unused with fn := 3 } }
       time := { State.reset.time with tb := State.reset.time.tb.map fun b => { b with value := 5000000 <<< 32 } } },
     0, 20, by decide +kernel⟩,
    ⟨modHs 0 (fun h => { h with prot := .on, cmd := true }) { ticking .core with
       cfg := { Image.empty with
         sol := Image.empty.sol.map fun c => { c with feed := 0 }
         hs := Image.empty.hs.set 0 { HsCfg.unused with fn := 3 } }
       time := { State.reset.time with tb := State.reset.time.tb.map fun b => { b with value := 5000000 <<< 32 } } },
     101, 0, by decide +kernel⟩,
    ⟨modSol 0 (fun c => { c with phase := .peak, detect := true, profs := [⟨60, 10, 20, 5, false, 0, 5, 10, 100⟩] }) (ticking .core),
     .keeper, by decide +kernel⟩,
    ⟨modSol 0 (fun c => { c with phase := .peak, detect := true, profs := [⟨60, 10, 20, 5, false, 0, 5, 10, 100⟩] }) (ticking .core),
     .tick 0, by decide +kernel⟩⟩

theorem test_witness_LampsAndStrings :
    (∃ (s : State) (k : Fin 8) (j : Fin 128), s.powered = true ∧ (s.led.shift = true) ∧ s.cfg.str[k].enable = true ∧
       j.val / 16 = k.val) ∧
    (∃ (s : State) (k : Fin 8) (j : Fin 128), s.powered = true ∧ (s.led.shift = true) ∧ s.cfg.str[k].enable = true ∧
       j.val / 16 ≠ k.val) ∧
    (∃ (s : State) (k : Fin 128), s.powered = true ∧ s.lampAt k = true ∧ s.windowFits = false) ∧
    (∃ (s : State) (k : Fin 128) (m : LampReading), s.powered = true ∧ s.lampAt k = true ∧
       s.tick.phase = Phase.measure ∧ s.led.pos[k].windowed = false ∧ s.windowFits = true ∧
       BitVec.toNat s.tick.count % 32 = 2 * (k.val % 16) ∧
       lampResult (getNat s.led.str (k.val / 16) default).hot ((passWindow s).sinkCurrent k) m = 0) ∧
    (∃ (s : State) (k : Fin 128) (m : LampReading), s.powered = true ∧ s.lampAt k = true ∧
       s.tick.phase = Phase.measure ∧ s.led.pos[k].windowed = false ∧ s.windowFits = true ∧
       BitVec.toNat s.tick.count % 32 = 2 * (k.val % 16) ∧
       lampResult (getNat s.led.str (k.val / 16) default).hot ((passWindow s).sinkCurrent k) m ≠ 0) ∧
    (∃ (s : State) (k : Fin 128) (m : LampReading), s.powered = true ∧ s.lampAt k = true ∧
       s.tick.phase = Phase.measure ∧ s.led.pos[k].windowed = false ∧ s.windowFits = true ∧
       BitVec.toNat s.tick.count % 32 = 2 * (k.val % 16) ∧
       lampResult (getNat s.led.str (k.val / 16) default).hot ((passWindow s).sinkCurrent k) m = 1) ∧
    (∃ (s : State) (k : Fin 128) (m : LampReading), s.powered = true ∧ s.lampAt k = true ∧
       s.tick.phase = Phase.measure ∧ s.led.pos[k].windowed = false ∧ s.windowFits = true ∧
       BitVec.toNat s.tick.count % 32 = 2 * (k.val % 16) ∧
       lampResult (getNat s.led.str (k.val / 16) default).hot ((passWindow s).sinkCurrent k) m = 2) ∧
    (∃ (s : State) (k : Fin 128) (m : LampReading), s.powered = true ∧ s.lampAt k = true ∧
       s.tick.phase = Phase.measure ∧ s.led.pos[k].windowed = false ∧ s.windowFits = true ∧
       BitVec.toNat s.tick.count % 32 = 2 * (k.val % 16) ∧
       lampResult (getNat s.led.str (k.val / 16) default).hot ((passWindow s).sinkCurrent k) m = 3) ∧
    (∃ (s : State) (k : Fin 128), s.powered = true ∧ s.lampAt k = true ∧ s.led.pos[k].open_ = false) ∧
    (∃ (s : State) (k : Fin 8) (i : ℕ), s.powered = true ∧ s.cfg.str[k].enable = true ∧ s.led.str[k].lowNow = false ∧
       i * 4 < 180 + 45 * s.cfg.str[k].code ∧ s.led.str[k].lowRun = 3) ∧
    (∃ (s : State) (k : Fin 8) (i : ℕ), s.powered = true ∧ s.cfg.str[k].enable = true ∧ s.led.str[k].lowNow = false ∧
       i * 4 < 180 + 45 * s.cfg.str[k].code ∧ s.led.str[k].lowRun ≠ 3) ∧
    (∃ (s : State) (k : Fin 8) (temp : Half), s.powered = true ∧ 2640 ≤ BitVec.toInt temp ∧ s.led.str[k].hot = false) ∧
    (∃ (s : State) (k : Fin 8) (rq : Requester), s.powered = true ∧ hsCtrlAllowed rq = true ∧
       s.led.str[k].hot = true ∧ BitVec.toInt s.led.str[k].sensed < 2320) ∧
    (∃ (s : State) (k : Fin 8) (rq : Requester), s.powered = true ∧ hsCtrlAllowed rq = true ∧
       s.led.str[k].hot = true ∧ 2320 ≤ BitVec.toInt s.led.str[k].sensed ∧ s.canLog = true) :=
  ⟨
    ⟨{ ticking .measure with
       cfg := { Image.empty with str := Image.empty.str.set 0 ⟨true, 0, 0xFFFF⟩ }
       led := { State.reset.led with shift := true } }, 0, 0, by decide +kernel⟩,
    ⟨{ ticking .measure with
       cfg := { Image.empty with str := Image.empty.str.set 0 ⟨true, 0, 0xFFFF⟩ }
       led := { State.reset.led with shift := true } }, 0, 16, by decide +kernel⟩,
    ⟨{ ticking .measure with
       cfg := { Image.empty with period := 0, commit := 60, str := Image.empty.str.set 0 ⟨true, 0, 0xFFFF⟩ } }, 0,
     by decide +kernel⟩,
    ⟨{ ticking .measure with
       tick := { (ticking .measure).tick with count := 64 }
       cfg := { Image.empty with str := Image.empty.str.set 0 ⟨true, 0, 0xFFFF⟩ } }, 0, ⟨false, 0, 0⟩,
     by decide +kernel⟩,
    ⟨{ ticking .measure with
       tick := { (ticking .measure).tick with count := 64 }
       cfg := { Image.empty with str := Image.empty.str.set 0 ⟨true, 0, 0xFFFF⟩ } }, 0, ⟨true, 0, 0⟩,
     by decide +kernel⟩,
    ⟨{ ticking .measure with
       tick := { (ticking .measure).tick with count := 64 }
       cfg := { Image.empty with str := Image.empty.str.set 0 ⟨true, 0, 0xFFFF⟩ } }, 0, ⟨false, 3000, 50⟩,
     by decide +kernel⟩,
    ⟨{ ticking .measure with
       tick := { (ticking .measure).tick with count := 64 }
       cfg := { Image.empty with str := Image.empty.str.set 0 ⟨true, 0, 0xFFFF⟩ } }, 0, ⟨true, 0, 0⟩,
     by decide +kernel⟩,
    ⟨{ ticking .measure with
       tick := { (ticking .measure).tick with count := 64 }
       cfg := { Image.empty with str := Image.empty.str.set 0 ⟨true, 0, 0xFFFF⟩ } }, 0, ⟨false, 0, 50⟩,
     by decide +kernel⟩,
    ⟨{ ticking .measure with cfg := { Image.empty with str := Image.empty.str.set 0 ⟨true, 0, 0xFFFF⟩ } }, 0,
     by decide +kernel⟩,
    ⟨modStr 0 (fun x => { x with lowRun := 3 }) ({ ticking .measure with
       cfg := { Image.empty with str := Image.empty.str.set 0 ⟨true, 0, 0xFFFF⟩ } }), 0, 44, by decide +kernel⟩,
    ⟨{ ticking .measure with cfg := { Image.empty with str := Image.empty.str.set 0 ⟨true, 0, 0xFFFF⟩ } }, 0, 44,
     by decide +kernel⟩,
    ⟨{ ticking .measure with cfg := { Image.empty with str := Image.empty.str.set 0 ⟨true, 0, 0xFFFF⟩ } }, 0, 2640,
     by decide +kernel⟩,
    ⟨modStr 0 (fun x => { x with hot := true, temp := 2319 }) ({ ticking .measure with
       cfg := { Image.empty with str := Image.empty.str.set 0 ⟨true, 0, 0xFFFF⟩ } }), 0, .keeper, by decide +kernel⟩,
    ⟨modStr 0 (fun x => { x with hot := true, sensed := 2320 }) ({ ticking .measure with
       cfg := { Image.empty with str := Image.empty.str.set 0 ⟨true, 0, 0xFFFF⟩ } }), 0, .keeper, by decide +kernel⟩⟩

theorem test_witness_LightingControl :
    (∃ (s : State) (rq : Requester) (reg : Fin 3) (v : Word), s.powered = true ∧ hsCtrlAllowed rq = false ∧
       peValueOk reg v = true) ∧
    (∃ (s : State) (rq : Requester) (reg : Fin 3) (v : Word), s.powered = true ∧ hsCtrlAllowed rq = false ∧
       peValueOk reg v = false) ∧
    (∃ (s : State) (rq : Requester) (v : Word) (reg : Fin 3), s.powered = true ∧ hsCtrlAllowed rq = true ∧
       peValueOk reg v = true ∧ reg = 0) ∧
    (∃ (s : State) (rq : Requester) (v : Word) (reg : Fin 3), s.powered = true ∧ hsCtrlAllowed rq = true ∧
       peValueOk reg v = true ∧ reg = 1) ∧
    (∃ (s : State) (rq : Requester) (v : Word) (reg : Fin 3), s.powered = true ∧ hsCtrlAllowed rq = true ∧
       peValueOk reg v = true ∧ reg = 2) ∧
    (∃ (s : State) (rq : Requester) (v : Word) (reg : Fin 3), s.powered = true ∧ hsCtrlAllowed rq = true ∧
       peValueOk reg v = false) ∧
    (∃ (s : State) (rq : Requester) (l : Fin 4), s.powered = true ∧ hsCtrlAllowed rq = true ∧ s.cfg.chain[l].fn = 1) ∧
    (∃ (s : State) (rq : Requester) (l : Fin 4), s.powered = true ∧ hsCtrlAllowed rq = true ∧ s.cfg.chain[l].fn ≠ 1) ∧
    (∃ (s : State) (l : Fin 4), s.powered = true ∧ s.led.chain[l].busy = true) ∧
    (∃ (s : State) (l : Fin 4), s.powered = true ∧ s.led.chain[l].busy = false) :=
  ⟨
    ⟨ticking .core, .tick 0, 0, 0, by decide +kernel⟩,
    ⟨ticking .core, .tick 0, 0, 0xFFFFFFFF, by decide +kernel⟩,
    ⟨ticking .core, .keeper, 0, 0, by decide +kernel⟩,
    ⟨ticking .core, .keeper, 0, 1, by decide +kernel⟩,
    ⟨ticking .core, .keeper, 0xFFFFFFFF, 2, by decide +kernel⟩,
    ⟨ticking .core, .keeper, 0, 2, by decide +kernel⟩,
    ⟨{ ticking .core with cfg := { Image.empty with chain := Image.empty.chain.map fun _ => ⟨1, 0, 1⟩ } }, .keeper,
     0, by decide +kernel⟩,
    ⟨ticking .core, .keeper, 0, by decide +kernel⟩,
    ⟨modChain 0 (fun h => { h with busy := true }) (ticking .core), 0, by decide +kernel⟩,
    ⟨ticking .core, 0, by decide +kernel⟩⟩

theorem test_witness_DivisionAndBitFields :
    (∃ (a : Word), 0 ≤ BitVec.toInt a) ∧
    (∃ (a : Word), BitVec.toInt a < 0) ∧
    (∃ (a : Word) (b : Word), b ≠ 0 ∧ (¬(a = BitVec.ofNat 32 2147483648 ∧ b = BitVec.ofNat 32 4294967295))) ∧
    (∃ (i : ℕ), i < 32) :=
  ⟨
    ⟨7, by decide +kernel⟩,
    ⟨0x80000000, by decide +kernel⟩,
    ⟨7, 2, by decide +kernel⟩,
    ⟨31, by decide +kernel⟩⟩

theorem test_witness_BytePermute :
    (∃ (b : Word) (i : ℕ), i < 4 ∧ BitVec.toNat b / 2 ^ (3 * i) % 8 < 4) ∧
    (∃ (b : Word) (i : ℕ), i < 4 ∧ BitVec.toNat b / 2 ^ (3 * i) % 8 = 4) ∧
    (∃ (b : Word) (i : ℕ), i < 4 ∧ BitVec.toNat b / 2 ^ (3 * i) % 8 = 5) ∧
    (∃ (b : Word), (∃ i < 4, 6 ≤ BitVec.toNat b / 2 ^ (3 * i) % 8)) :=
  ⟨
    ⟨0x53, 0, by decide +kernel⟩,
    ⟨0b100, 0, by decide +kernel⟩,
    ⟨0b101, 0, by decide +kernel⟩,
    ⟨0b110, by decide +kernel⟩⟩

theorem test_witness_BundleIssues :
    (∃ (s : State) (c : Fin 5), s.powered = true ∧ s.mayIssue c = true ∧ (s.cpu c).pc ≤ 16383 ∧
       (∀ f ∈ (s.cpu c).flight, (s.cpu c).cycle - 1 < f.due) ∧
       (∀ i : ℕ, i < 2 → s.isMarked (progKey c.val (s.cpu c).pc + 4 * i) = false ∧ s.flipsAt (progKey c.val (s.cpu
         c).pc + 4 * i) = 0 ∧ ∀ x ∈ s.mem.wrote, x.key ≠ progKey c.val (s.cpu c).pc + 4 * i) ∧
       formOf (s.fetch c) ≠ 1 ∧ formOf (s.fetch c) ≠ 14 ∧ formOf (s.fetch c) ≠ 15) ∧
    (∃ (s : State) (c : Fin 5), s.powered = true ∧ s.mayIssue c = true ∧ (s.cpu c).pc ≤ 16383 ∧
       (∀ f ∈ (s.cpu c).flight, (s.cpu c).cycle - 1 < f.due) ∧
       (∀ i : ℕ, i < 2 → s.isMarked (progKey c.val (s.cpu c).pc + 4 * i) = false ∧ s.flipsAt (progKey c.val (s.cpu
         c).pc + 4 * i) = 0 ∧ ∀ x ∈ s.mem.wrote, x.key ≠ progKey c.val (s.cpu c).pc + 4 * i) ∧
       formOf (s.fetch c) = 1) ∧
    (∃ (s : State) (c : Fin 5), s.powered = true ∧ s.mayIssue c = true ∧ (s.cpu c).pc ≤ 16383 ∧
       (∀ f ∈ (s.cpu c).flight, (s.cpu c).cycle - 1 < f.due) ∧
       (∀ i : ℕ, i < 2 → s.isMarked (progKey c.val (s.cpu c).pc + 4 * i) = false ∧ s.flipsAt (progKey c.val (s.cpu
         c).pc + 4 * i) = 0 ∧ ∀ x ∈ s.mem.wrote, x.key ≠ progKey c.val (s.cpu c).pc + 4 * i) ∧
       BitVec.toNat (s.fetch c) = 14 * 2 ^ 60 ∧ (s.cpu c).branch = none) ∧
    (∃ (s : State) (c : Fin 5), s.powered = true ∧ s.mayIssue c = true ∧ (s.cpu c).pc ≤ 16383 ∧
       (∀ f ∈ (s.cpu c).flight, (s.cpu c).cycle - 1 < f.due) ∧
       (∀ i : ℕ, i < 2 → s.isMarked (progKey c.val (s.cpu c).pc + 4 * i) = false ∧ s.flipsAt (progKey c.val (s.cpu
         c).pc + 4 * i) = 0 ∧ ∀ x ∈ s.mem.wrote, x.key ≠ progKey c.val (s.cpu c).pc + 4 * i) ∧
       BitVec.toNat (s.fetch c) = 15 * 2 ^ 60 ∧ (s.cpu c).branch = none ∧ s.debugOpen = true) :=
  ⟨
    ⟨modCpu 0 (fun x => { x with run := .running, pc := 0 }) (ticking .core), 0,
     ⟨by decide +kernel, by decide +kernel, by decide +kernel, by decide +kernel, by decide +kernel,
       by decide +kernel, by decide +kernel, by decide +kernel⟩⟩,
    ⟨prog 0x1000042007138000, 0,
     ⟨by decide +kernel, by decide +kernel, by decide +kernel, by decide +kernel, by decide +kernel,
       by decide +kernel⟩⟩,
    ⟨prog 0xE000000000000000, 0,
     ⟨by decide +kernel, by decide +kernel, by decide +kernel, by decide +kernel, by decide +kernel,
       by decide +kernel, by decide +kernel⟩⟩,
    ⟨{ prog 0xF000000000000000 with key := { State.reset.key with debug := true } }, 0,
     ⟨by decide +kernel, by decide +kernel, by decide +kernel, by decide +kernel, by decide +kernel,
       by decide +kernel, by decide +kernel, by decide +kernel⟩⟩⟩

theorem test_witness_MovesTakeEffectTogether :
    (∃ (s : State) (c : Fin 5) (w : DWord) (r : Fin 32),
       (bundleExc c w (s.enabled c w) (List.map (fun a : MoveSlot => (⟨a.dst, s.slotVal c w a⟩ : Move)) (s.enabled c
         w)) s = none) ∧
       (∀ m ∈ List.map (fun a : MoveSlot => (⟨a.dst, s.slotVal c w a⟩ : Move)) (s.enabled c w), m.dst ≠ r.val)) ∧
    (∃ (s : State) (c : Fin 5) (w : DWord) (r : Fin 32) (m : Move),
       (bundleExc c w (s.enabled c w) (List.map (fun a : MoveSlot => (⟨a.dst, s.slotVal c w a⟩ : Move)) (s.enabled c
         w)) s = none) ∧
       r ≠ 0 ∧ (m ∈ List.map (fun a : MoveSlot => (⟨a.dst, s.slotVal c w a⟩ : Move)) (s.enabled c w)) ∧ m.dst = r.val) ∧
    (∃ (s : State) (c : Fin 5) (w : DWord),
       (bundleExc c w (s.enabled c w) (List.map (fun a : MoveSlot => (⟨a.dst, s.slotVal c w a⟩ : Move)) (s.enabled c
         w)) s = none) ∧
       (s.cpu c).branch = none ∧
       (∀ m ∈ List.map (fun a : MoveSlot => (⟨a.dst, s.slotVal c w a⟩ : Move)) (s.enabled c w), unitOf m.dst ≠ some 8
         ∧ m.dst ≠ 245)) ∧
    (∃ (s : State) (c : Fin 5) (w : DWord) (tgt : ℕ),
       (bundleExc c w (s.enabled c w) (List.map (fun a : MoveSlot => (⟨a.dst, s.slotVal c w a⟩ : Move)) (s.enabled c
         w)) s = none) ∧
       (s.cpu c).branch = some (tgt, 1) ∧
       (∀ m ∈ List.map (fun a : MoveSlot => (⟨a.dst, s.slotVal c w a⟩ : Move)) (s.enabled c w), m.dst ≠ 245)) :=
  ⟨
    ⟨ticking .core, 0, 0x1000042007138000, 1, by decide +kernel⟩,
    ⟨ticking .core, 0, 0x1000042007138000, 2, ⟨2, 0x20071380⟩, by decide +kernel⟩,
    ⟨ticking .core, 0, 0x1000042007138000, by decide +kernel⟩,
    ⟨modCpu 0 (fun x => { x with branch := some (5, 1) }) (ticking .core), 0, 0x1000042007138000, 5,
     by decide +kernel⟩⟩

theorem test_witness_ExceptionsAndEvents :
    (∃ (s : State) (c : Fin 5) (w : DWord) (e : Exc) (k : Fin 4),
       (bundleExc c w (s.enabled c w) (List.map (fun a : MoveSlot => (⟨a.dst, s.slotVal c w a⟩ : Move)) (s.enabled c
         w)) s = some e) ∧
       (s.cpu c).flight = [] ∧ tickOf c = some k ∧ s.canLog = true) ∧
    (∃ (s : State) (c : Fin 5) (w : DWord) (e : Exc),
       (bundleExc c w (s.enabled c w) (List.map (fun a : MoveSlot => (⟨a.dst, s.slotVal c w a⟩ : Move)) (s.enabled c
         w)) s = some e) ∧
       (s.cpu c).flight = [] ∧ c = 0 ∧ (s.cpu 0).keeper = false) ∧
    (∃ (s : State) (c : Fin 5) (w : DWord) (e : Exc),
       (bundleExc c w (s.enabled c w) (List.map (fun a : MoveSlot => (⟨a.dst, s.slotVal c w a⟩ : Move)) (s.enabled c
         w)) s = some e) ∧
       (s.cpu c).flight = [] ∧ c = 0 ∧ (s.cpu 0).keeper = true) ∧
    (∃ (s : State) (n : Fin 128), s.powered = true ∧ s.topLine = some n ∧ (s.cpu 0).flight = [] ∧
       s.takesEvent = true ∧ (s.cpu 0).run = CoreRun.waiting) ∧
    (∃ (s : State) (n : Fin 128), s.powered = true ∧ s.topLine = some n ∧ (s.cpu 0).flight = [] ∧
       (s.cpu 0).run = CoreRun.waiting ∧ (s.cpu 0).keeper = true) ∧
    (∃ (s : State) (n : Fin 128) (m : Fin 128), s.topLine = some n ∧ s.evt.pend.getLsbD m.val = true ∧
       s.evt.en.getLsbD m.val = true) ∧
    (∃ (s : State), s.topLine = none) :=
  ⟨
    ⟨ticking .core, 1, 0x2000000000000000, ⟨1, 0⟩, 0, by decide +kernel⟩,
    ⟨ticking .core, 0, 0x2000000000000000, ⟨1, 0⟩, by decide +kernel⟩,
    ⟨modCpu 0 (fun x => { x with keeper := true }) (ticking .core), 0, 0x2000000000000000, ⟨1, 0⟩, by decide +kernel⟩,
    ⟨modCpu 0 (fun x => { x with run := .waiting, keeper := false }) ({ ticking .core with
       evt := { State.reset.evt with en := 32, pend := 32 } }), 5, by decide +kernel⟩,
    ⟨modCpu 0 (fun x => { x with run := .waiting, keeper := true }) ({ ticking .core with
       evt := { State.reset.evt with en := 32, pend := 32 } }), 5, by decide +kernel⟩,
    ⟨modCpu 0 (fun x => { x with run := .waiting, keeper := false }) ({ ticking .core with
       evt := { State.reset.evt with en := 32, pend := 32 } }), 5, 5, by decide +kernel⟩,
    ⟨ticking .core, by decide +kernel⟩⟩

theorem test_witness_CompletionsAndRestarts :
    (∃ (s : State) (c : Fin 5) (f : Flight) (port : Fin 14) (v : Word), s.powered = true ∧
       nextDue (s.cpu c).flight = some f ∧ f.act = OpAct.res [(port, v)] false false ∧
       ((s.cpu c).run ≠ CoreRun.running ∨ f.due < (s.cpu c).cycle) ∧ (c = 0 ∨ s.inWindow (f.due + 1) = true)) ∧
    (∃ (s : State), s.powered = true ∧ s.compared = none) ∧
    (∃ (s : State), s.powered = true ∧ (s.cpu 0).run = CoreRun.stopped) ∧
    (∃ (s : State), s.powered = true ∧ (s.cpu 0).run = CoreRun.running ∧ s.takesEvent = false) ∧
    (∃ (s : State), s.powered = true ∧ (s.cpu 0).run = CoreRun.waiting) ∧
    (∃ (s : State) (b : ℕ × Bool), s.powered = true ∧ s.compared = some b ∧ (s.cpu 0).flight = [] ∧ s.canLog = true) ∧
    (∃ (s : State) (b : ℕ × Bool) (c : Fin 5), s.powered = true ∧ s.compared = some b ∧ (s.cpu 0).flight = [] ∧ c ≠ 0) ∧
    (∃ (s : State) (at_ : ℕ), s.powered = true ∧ s.core.restartAt = some at_ ∧ s.core.reload = Reload.restart ∧
       (s.fwReason s.upd.boot.act ≠ 0 ∨ s.core.spoiled = true)) ∧
    (∃ (s : State) (at_ : ℕ) (n : ℕ), s.powered = true ∧ s.core.restartAt = some at_ ∧
       s.core.reload = Reload.restart ∧ s.fwReason s.upd.boot.act = 0 ∧ s.core.spoiled = false ∧
       s.core.halted = false ∧ s.evt.pend.getLsbD n = true) ∧
    (∃ (s : State) (at_ : ℕ) (c : Fin 5), s.powered = true ∧ s.core.restartAt = some at_ ∧
       s.core.reload = Reload.restart ∧ s.fwReason s.upd.boot.act = 0 ∧ s.core.spoiled = false ∧
       s.core.halted = false ∧ c ≠ 0) :=
  ⟨
    ⟨modCpu 0 (fun x => { x with flight := [⟨0, 7, 3, true, .res [(7, 99)] false false⟩], cycle := 5 }) (ticking .core),
     0, ⟨0, 7, 3, true, .res [(7, 99)] false false⟩, 7, 99, by decide +kernel⟩,
    ⟨modCpu 0 (fun x => { x with flight := [⟨0, 7, 3, true, .res [(7, 99)] false false⟩], cycle := 5 }) (ticking .core),
     by decide +kernel⟩,
    ⟨modCpu 0 (fun x => { x with flight := [⟨0, 7, 3, true, .res [(7, 99)] false false⟩], cycle := 5 }) (ticking .core),
     by decide +kernel⟩,
    ⟨modCpu 0 (fun x => { x with run := .running, pc := 9, keeper := true }) (ticking .core), by decide +kernel⟩,
    ⟨modCpu 0 (fun x => { x with run := .waiting, keeper := false }) (ticking .core), by decide +kernel⟩,
    ⟨modCpu 0 (fun x => { x with run := .waiting, keeper := false }) (ticking .core), (0, false), by decide +kernel⟩,
    ⟨modCpu 0 (fun x => { x with run := .waiting, keeper := false }) (ticking .core), (0, false), 1,
     by decide +kernel⟩,
    ⟨{ ticking .core with
       core := { State.reset.core with restartAt := some 5, reload := .restart }
       evt := { State.reset.evt with pend := 32 } }, 5, by decide +kernel⟩,
    ⟨firm, 5, 5,
     ⟨by decide +kernel, by decide +kernel, by decide +kernel, firmware_passes, by decide +kernel, by decide +kernel,
       by decide +kernel⟩⟩,
    ⟨firm, 5, 1,
     ⟨by decide +kernel, by decide +kernel, by decide +kernel, firmware_passes, by decide +kernel, by decide +kernel,
       by decide +kernel⟩⟩⟩

theorem test_witness_BanksAndKeepBank :
    (∃ (s : State) (b : Fin 18), s.powered = true ∧ 16 ≤ b.val) ∧
    (∃ (s : State) (rq : Requester) (b : Fin 18) (v : Word), s.powered = true ∧ b.val < 16 ∧
       ownerWriter rq (s.ownerFor rq.owner b.val) = false ∧ (BitVec.toNat v < 10 ∨ BitVec.toNat v = 15)) ∧
    (∃ (s : State) (rq : Requester) (b : Fin 18) (v : Word), s.powered = true ∧ b.val < 16 ∧
       ownerWriter rq (s.ownerFor rq.owner b.val) = false ∧ 10 ≤ BitVec.toNat v ∧ BitVec.toNat v ≠ 15) ∧
    (∃ (s : State) (rq : Requester) (b : Fin 18) (v : Word) (h : Handover), s.powered = true ∧ b.val < 16 ∧
       ownerWriter rq (s.ownerFor rq.owner b.val) = true ∧ (BitVec.toNat v < 10 ∨ BitVec.toNat v = 15) ∧
       s.mem.bank[b].handover = some h ∧ s.handsNow rq.owner h = true ∧ rq.owner < h.core) ∧
    (∃ (s : State) (rq : Requester) (b : Fin 18) (v : Word), s.powered = true ∧ b.val < 16 ∧
       ownerWriter rq (s.ownerFor rq.owner b.val) = true ∧ (BitVec.toNat v < 10 ∨ BitVec.toNat v = 15) ∧
       s.canLog = true) ∧
    (∃ (s : State) (rq : Requester) (b : Fin 18) (v : Word), s.powered = true ∧ b.val < 16 ∧
       ownerWriter rq (s.ownerFor rq.owner b.val) = true ∧ 10 ≤ BitVec.toNat v ∧ BitVec.toNat v ≠ 15) ∧
    (∃ (s : State) (rq : Requester) (x : ℕ), s.powered = true ∧ (rq = Requester.keeper ∨ rq = Requester.service) ∧
       Memory.wf s.mem.ram = true ∧ (x < 9437184 + s.mem.keepWord ∨ 9437184 + s.mem.keepWord + 4 ≤ x)) ∧
    (∃ (s : State) (rq : Requester), s.powered = true ∧ rq ≠ Requester.keeper ∧ rq ≠ Requester.service) ∧
    (∃ (s : State) (rq : Requester), s.powered = true ∧ (rq.isShepherd = true ∨ rq = Requester.service) ∧
       s.isMarked (9437184 + s.mem.keepWord) = false ∧ popCount (s.flipsAt (9437184 + s.mem.keepWord)) ≤ 1 ∧
       (∀ x ∈ s.mem.wrote, x.key ≠ 9437184 + s.mem.keepWord)) ∧
    (∃ (s : State) (rq : Requester), s.powered = true ∧ rq.isShepherd = false ∧ rq ≠ Requester.service) :=
  ⟨
    ⟨State.reset, 16, by decide +kernel⟩,
    ⟨State.reset, .tick 0, 0, 3, by decide +kernel⟩,
    ⟨State.reset, .tick 0, 0, 10, by decide +kernel⟩,
    ⟨{ ticking .core with
       mem := { State.reset.mem with
         bank := State.reset.mem.bank.map fun b => { b with handover := some ⟨9, 7, (ticking .core).cycle, 0⟩ } } },
     .keeper, 0, 3, ⟨9, 7, (ticking .core).cycle, 0⟩, by decide +kernel⟩,
    ⟨State.reset, .keeper, 0, 3, by decide +kernel⟩,
    ⟨State.reset, .keeper, 0, 10, by decide +kernel⟩,
    ⟨State.reset, .keeper, 0x900004, by decide +kernel⟩,
    ⟨State.reset, .task, by decide +kernel⟩,
    ⟨State.reset, .keeper, by decide +kernel⟩,
    ⟨State.reset, .tick 0, by decide +kernel⟩⟩

theorem test_witness_WriteEngine :
    (∃ (s : State) (rq : Requester), s.powered = true ∧
       (rq = Requester.keeper ∨ rq = Requester.service ∧ s.upd.recovery = true) ∧ s.mem.mw ≠ MwState.busy ∧
       mwRange s.mem.mwDst s.mem.mwLen = true ∧ s.mwBarred s.mem.mwDst (s.mem.mwDst + 8 * s.mem.mwLen) = false) ∧
    (∃ (s : State) (rq : Requester), s.powered = true ∧
       (rq = Requester.keeper ∨ rq = Requester.service ∧ s.upd.recovery = true) ∧ s.mem.mw = MwState.busy) ∧
    (∃ (s : State) (rq : Requester), s.powered = true ∧
       (rq = Requester.keeper ∨ rq = Requester.service ∧ s.upd.recovery = true) ∧ s.mem.mw ≠ MwState.busy ∧
       (mwRange s.mem.mwDst s.mem.mwLen = false ∨ s.mwBarred s.mem.mwDst (s.mem.mwDst + 8 * s.mem.mwLen) = true)) ∧
    (∃ (s : State) (rq : Requester), s.powered = true ∧ rq ≠ Requester.keeper ∧ s.upd.recovery = false) ∧
    (∃ (s : State) (i : ℕ) (j : ℕ) (k : ℕ), s.powered = true ∧ s.mem.mw = MwState.busy ∧
       Memory.wf s.mem.mram = true ∧ s.mem.mwWords ≤ s.mem.mwJob.2.2 ∧ (∀ (w : Fin 4), s.dwin.w[w].job = none) ∧
       (∀ (b : Fin 18), s.mem.bank[b].handover = none) ∧ s.mem.flips = [] ∧ s.mem.marked = [] ∧ s.mem.wrote = [] ∧
       (∀ (i : ℕ), s.mem.mwWords ≤ i → i < s.mem.mwJob.2.2 → ((fun i => s.mwKey (s.mem.mwJob.2.1 + 8 * i)) i).isSome =
         true) ∧
       s.mem.mwWords ≤ i ∧ i < s.mem.mwJob.2.2 ∧ j < 8 ∧ ((fun i => s.mwKey (s.mem.mwJob.2.1 + 8 * i)) i = some k)) ∧
    (∃ (s : State) (x : ℕ), s.powered = true ∧ s.mem.mw = MwState.busy ∧ Memory.wf s.mem.mram = true ∧
       s.mem.mwWords ≤ s.mem.mwJob.2.2 ∧ (∀ (w : Fin 4), s.dwin.w[w].job = none) ∧
       (∀ (b : Fin 18), s.mem.bank[b].handover = none) ∧ s.mem.flips = [] ∧ s.mem.marked = [] ∧ s.mem.wrote = [] ∧
       (∀ (i : ℕ), s.mem.mwWords ≤ i → i < s.mem.mwJob.2.2 → ((fun i => s.mwKey (s.mem.mwJob.2.1 + 8 * i)) i).isSome =
         true) ∧
       (x < s.mem.mwJob.1 + 8 * s.mem.mwWords ∨ s.mem.mwJob.1 + 8 * s.mem.mwJob.2.2 ≤ x)) ∧
    (∃ (s : State), s.powered = true ∧ s.mem.mw = MwState.busy ∧ Memory.wf s.mem.mram = true ∧
       s.mem.mwWords ≤ s.mem.mwJob.2.2 ∧ (∀ (w : Fin 4), s.dwin.w[w].job = none) ∧
       (∀ (b : Fin 18), s.mem.bank[b].handover = none) ∧ s.mem.flips = [] ∧ s.mem.marked = [] ∧ s.mem.wrote = [] ∧
       (∀ (i : ℕ), s.mem.mwWords ≤ i → i < s.mem.mwJob.2.2 → ((fun i => s.mwKey (s.mem.mwJob.2.1 + 8 * i)) i).isSome =
         true) ∧
       s.mem.mwWords < s.mem.mwJob.2.2) ∧
    (∃ (s : State) (m : ℕ) (words : ℕ) (x : ℕ), s.powered = true ∧ s.mem.mw = MwState.busy ∧
       Memory.wf s.mem.mram = true ∧ s.mem.mwWords ≤ s.mem.mwJob.2.2 ∧ (∀ (w : Fin 4), s.dwin.w[w].job = none) ∧
       (∀ (b : Fin 18), s.mem.bank[b].handover = none) ∧ s.mem.flips = [] ∧ s.mem.marked = [] ∧ s.mem.wrote = [] ∧
       s.mem.mwWords ≤ m ∧ m < s.mem.mwJob.2.2 ∧
       (∀ (i : ℕ), s.mem.mwWords ≤ i → i < m → ((fun i => s.mwKey (s.mem.mwJob.2.1 + 8 * i)) i).isSome = true) ∧
       ((fun i => s.mwKey (s.mem.mwJob.2.1 + 8 * i)) m = none) ∧ m ≤ words ∧
       (x < s.mem.mwJob.1 + 8 * s.mem.mwWords ∨ s.mem.mwJob.1 + 8 * m ≤ x)) :=
  ⟨
    ⟨{ ticking .core with mem := { State.reset.mem with mwDst := 0x820000, mwLen := 1 } }, .keeper,
     by decide +kernel⟩,
    ⟨{ ticking .core with mem := { State.reset.mem with mw := .busy, mwJob := (0x900000, 0x800000, 2) } }, .keeper,
     by decide +kernel⟩,
    ⟨{ ticking .core with mem := { State.reset.mem with mwDst := 0x900000, mwLen := 1 } }, .keeper,
     by decide +kernel⟩,
    ⟨{ ticking .core with mem := { State.reset.mem with mwDst := 0x820000, mwLen := 1 } }, .task, by decide +kernel⟩,
    ⟨{ ticking .core with mem := { State.reset.mem with mw := .busy, mwJob := (0x900000, 0x800000, 2) } }, 0, 0,
     localKey 0 0x800000, by decide +kernel⟩,
    ⟨{ ticking .core with mem := { State.reset.mem with mw := .busy, mwJob := (0x900000, 0x800000, 2) } }, 0,
     by decide +kernel⟩,
    ⟨{ ticking .core with mem := { State.reset.mem with mw := .busy, mwJob := (0x900000, 0x800000, 2) } },
     by decide +kernel⟩,
    ⟨{ ticking .core with mem := { State.reset.mem with mw := .busy, mwJob := (0x900000, 0x61000000, 2) } }, 0, 0, 0,
     by decide +kernel⟩⟩

theorem test_witness_WindowHolders :
    (∃ (s : State) (rq : Requester) (n : Fin 4), s.powered = true ∧ rq.std = true ∧
       (burstsNow (inTurn Block.dwin (4096 + n.val * 64) rq.rank s)).dwin.w[n].holder = Holder.none) ∧
    (∃ (s : State) (rq : Requester) (n : Fin 4), s.powered = true ∧ rq.std = true ∧
       (burstsNow (inTurn Block.dwin (4096 + n.val * 64) rq.rank s)).dwin.w[n].holder ≠ Holder.none) ∧
    (∃ (s : State) (rq : Requester), s.powered = true ∧ rq.std = false) ∧
    (∃ (s : State) (rq : Requester) (n : Fin 4), s.powered = true ∧
       (burstsNow (inTurn Block.dwin (4096 + n.val * 64) rq.rank s)).holds rq 0 n = true) ∧
    (∃ (s : State) (rq : Requester) (n : Fin 4), s.powered = true ∧
       (burstsNow (inTurn Block.dwin (4096 + n.val * 64) rq.rank s)).holds rq 0 n = false) ∧
    (∃ (s : State) (rq : Requester) (n : Fin 4), s.powered = true ∧ (burstsNow s).holds rq 0 n = false) :=
  ⟨
    ⟨ticking .core, .keeper, 0, by decide +kernel⟩,
    ⟨modW 0 (fun w => { w with holder := .service }) (ticking .core), .keeper, 0, by decide +kernel⟩,
    ⟨ticking .core, .tick 0, by decide +kernel⟩,
    ⟨modW 0 (fun w => { w with holder := .service }) (ticking .core), .service, 0, by decide +kernel⟩,
    ⟨ticking .core, .keeper, 0, by decide +kernel⟩,
    ⟨ticking .core, .keeper, 0, by decide +kernel⟩⟩

theorem test_witness_WindowTransactions :
    (∃ (s : State) (rq : Requester) (n : Fin 4), s.powered = true ∧ (burstsNow s).holds rq 0 n = true ∧
       (burstsNow s).dwin.w[n].write = true ∧
       (burstsNow s).dwin.w[n].buf.length + 1 < (burstsNow s).dwin.w[n].burstLen ∧
       (burstsNow s).dwin.w[n].buf.length < 256) ∧
    (∃ (s : State) (rq : Requester) (n : Fin 4) (x : Word) (l : List Word), s.powered = true ∧
       (burstsNow s).holds rq 0 n = true ∧ (burstsNow s).dwin.w[n].write = false ∧
       (burstsNow s).dwin.w[n].buf = x :: l) ∧
    (∃ (s : State) (rq : Requester) (n : Fin 4), s.powered = true ∧ (burstsNow s).holds rq 0 n = true ∧
       (burstsNow s).dwin.w[n].write = false ∧ (burstsNow s).dwin.w[n].state = WinState.idle ∧
       (burstsNow s).dwin.w[n].buf = [] ∧ (burstsNow s).txnFits = true) ∧
    (∃ (s : State) (rq : Requester) (n : Fin 4), s.powered = true ∧ (burstsNow s).holds rq 0 n = true ∧
       (burstsNow s).dwin.w[n].write = false ∧ (burstsNow s).dwin.w[n].state = WinState.idle ∧
       (burstsNow s).dwin.w[n].buf = [] ∧ (burstsNow s).txnFits = false) ∧
    (∃ (s : State) (n : Fin 4) (l : List Waiter), s.powered = true ∧ s.dwin.waiters = Waiter.win n :: l ∧
       s.dwin.inuse < 64) ∧
    (∃ (s : State), s.powered = true ∧ 64 ≤ s.dwin.inuse) ∧
    (∃ (s : State) (n : Fin 4) (j : Burst), s.powered = true ∧ s.dwin.w[n].state = WinState.active ∧
       s.dwin.w[n].job = some j ∧ s.dwin.w[n].write = false ∧ j.write = false ∧
       (∀ (m : Fin 4), m ≠ n → s.dwin.w[m].job = none)) ∧
    (∃ (s : State) (n : Fin 4) (j : Burst) (m : Fin 4), s.powered = true ∧ s.dwin.w[n].state = WinState.active ∧
       s.dwin.w[n].job = some j ∧ s.dwin.w[n].write = false ∧ j.write = false ∧
       (∀ (m : Fin 4), m ≠ n → s.dwin.w[m].job = none)) :=
  ⟨
    ⟨modW 0 (fun w => { w with holder := .shepherd, write := true, burst := 3 }) (ticking .core), .keeper, 0,
     by decide +kernel⟩,
    ⟨modW 0 (fun w => { w with holder := .shepherd, write := false, buf := [5] }) (ticking .core), .keeper, 0, 5, [],
     by decide +kernel⟩,
    ⟨modW 0 (fun w => { w with holder := .shepherd, write := false }) (ticking .core), .keeper, 0, by decide +kernel⟩,
    ⟨modW 0 (fun w => { w with holder := .shepherd, write := false }) { ticking .core with
       dwin := { State.reset.dwin with inuse := 64 } }, .keeper, 0, by decide +kernel⟩,
    ⟨modW 0 (fun w => { w with holder := .shepherd }) { ticking .core with
       dwin := { State.reset.dwin with waiters := [.win 0], inuse := 63 } }, 0, [], by decide +kernel⟩,
    ⟨modW 0 (fun w => { w with holder := .shepherd, write := false }) { ticking .core with
       dwin := { State.reset.dwin with inuse := 64 } }, by decide +kernel⟩,
    ⟨modW 0 (fun w => { w with write := false, state := .active, job := some ⟨0, 0, false, 2⟩ }) (ticking .core), 0,
     ⟨0, 0, false, 2⟩, by decide +kernel⟩,
    ⟨modW 0 (fun w => { w with write := false, state := .active, job := some ⟨0, 0, false, 2⟩ }) (ticking .core), 0,
     ⟨0, 0, false, 2⟩, 0, by decide +kernel⟩⟩

theorem test_witness_Queues :
    (∃ (s : State) (rq : Requester), s.powered = true ∧ rq ≠ Requester.keeper) ∧
    (∃ (s : State) (rq : Requester), s.powered = true ∧ rq.std = true) ∧
    (∃ (s : State) (rq : Requester), s.powered = true ∧ rq.std = false) ∧
    (∃ (s : State) (q : Fin 128) (c : QueueCfg) (data : List Byte), s.que.bind[q] = some c ∧ 0 < c.slots ∧
       data.length = c.bytes ∧ c.bytes % 4 = 0 ∧ Memory.wf s.mem.ram = true ∧ s.mem.flips = [] ∧ s.mem.marked = [] ∧
       s.mem.wrote = [] ∧ s.pert.injected = none ∧ s.pertFull q.val = false ∧ s.que.q[q].count = 0 ∧
       s.que.q[q].head = s.que.q[q].tail) :=
  ⟨
    ⟨ticking .core, .task, by decide +kernel⟩,
    ⟨ticking .core, .keeper, by decide +kernel⟩,
    ⟨ticking .core, .tick 0, by decide +kernel⟩,
    ⟨{ ticking .core with
       que := { State.reset.que with bind := State.reset.que.bind.set 7 (some ⟨3, 4, 2, 0, 1, 9⟩) } }, 7,
     ⟨3, 4, 2, 0, 1, 9⟩, rep 32 1, by decide +kernel⟩⟩

theorem test_witness_TimeBases :
    (∃ (s : State) (rq : Requester) (n : Fin 4), s.powered = true ∧ s.tbWriter rq n = true ∧
       heldWord rq (tbAddr n.val 24) s = none) ∧
    (∃ (s : State) (rq : Requester) (n : Fin 4) (lo : Word), s.powered = true ∧ s.tbWriter rq n = true ∧
       heldWord rq (tbAddr n.val 24) s = some lo ∧ s.time.tb[n].stepOk = true) ∧
    (∃ (s : State) (rq : Requester) (n : Fin 4) (lo : Word), s.powered = true ∧ s.tbWriter rq n = true ∧
       heldWord rq (tbAddr n.val 24) s = some lo ∧ s.time.tb[n].stepOk = false) ∧
    (∃ (s : State) (rq : Requester) (n : Fin 4) (v : Word), s.powered = true ∧ s.tbWriter rq n = false ∧
       -10737418 ≤ BitVec.toInt v ∧ BitVec.toInt v ≤ 10737418) ∧
    (∃ (s : State) (rq : Requester) (n : Fin 4) (v : Word), s.powered = true ∧ s.tbWriter rq n = false ∧
       (BitVec.toInt v < -10737418 ∨ 10737418 < BitVec.toInt v)) ∧
    (∃ (s : State) (rq : Requester) (n : Fin 4) (v : Word), s.powered = true ∧ s.tbWriter rq n = true ∧
       -10737418 ≤ BitVec.toInt v ∧ BitVec.toInt v ≤ 10737418) ∧
    (∃ (s : State) (rq : Requester) (n : Fin 4) (v : Word), s.powered = true ∧ s.tbWriter rq n = true ∧
       (BitVec.toInt v < -10737418 ∨ 10737418 < BitVec.toInt v)) ∧
    (∃ (s : State) (n : Fin 4), s.powered = true ∧ n = 0) ∧
    (∃ (s : State) (rq : Requester) (n : Fin 4) (v : Bool), s.powered = true ∧ n ≠ 0 ∧
       (v = true ∧ rq = Requester.keeper ∨ v = false ∧ s.tbWriter rq n = true) ∧ s.time.tb[n].oos ≠ v) ∧
    (∃ (s : State) (rq : Requester) (n : Fin 4) (v : Bool), s.powered = true ∧ n ≠ 0 ∧
       (v = true ∧ rq ≠ Requester.keeper ∨ v = false ∧ s.tbWriter rq n = false)) ∧
    (∃ (s : State) (rq : Requester) (n : Fin 4), s.powered = true ∧ n ≠ 0 ∧ rq ≠ Requester.keeper) ∧
    (∃ (s : State) (n : Fin 4), s.powered = true ∧ n ≠ 0 ∧ s.time.tb[n].oos = true) ∧
    (∃ (s : State) (n : Fin 4), s.powered = true ∧ n ≠ 0 ∧ s.time.tb[n].oos = false) ∧
    (∃ (s : State) (rq : Requester), s.powered = true ∧ rq.isShepherd = true) ∧
    (∃ (s : State) (rq : Requester), s.powered = true ∧ rq.isShepherd = false) ∧
    (∃ (s : State), s.powered = true ∧ 65536 ≤ s.time.mapTicks ∧ s.time.tb[1].oos = false ∧ s.tally.free = true ∧
       s.tally.dropped = 0 ∧ (s.tally.sameN = 0 ∨ s.tally.sameAt ≠ s.cycle)) ∧
    (∃ (s : State), s.powered = true ∧ s.time.mapTicks < 65536) :=
  ⟨
    ⟨ticking .core, .keeper, 3, by decide +kernel⟩,
    ⟨holdWrite .keeper (tbAddr 3 0x18) 5 (modTb 3 (fun b => { b with stepOk := true }) (ticking .core)), .keeper, 3,
     5, by decide +kernel⟩,
    ⟨holdWrite .keeper (tbAddr 3 0x18) 5 (modTb 3 (fun b => { b with stepOk := false }) (ticking .core)), .keeper, 3,
     5, by decide +kernel⟩,
    ⟨ticking .core, .keeper, 0, 10737418, by decide +kernel⟩,
    ⟨ticking .core, .keeper, 0, 10737419, by decide +kernel⟩,
    ⟨ticking .core, .keeper, 3, 10737418, by decide +kernel⟩,
    ⟨ticking .core, .keeper, 3, 10737419, by decide +kernel⟩,
    ⟨ticking .core, 0, by decide +kernel⟩,
    ⟨ticking .core, .keeper, 3, false, by decide +kernel⟩,
    ⟨ticking .core, .keeper, 1, false, by decide +kernel⟩,
    ⟨ticking .core, .task, 1, by decide +kernel⟩,
    ⟨ticking .core, 1, by decide +kernel⟩,
    ⟨modTb 1 (fun b => { b with oos := false }) (ticking .core), 1, by decide +kernel⟩,
    ⟨ticking .core, .keeper, by decide +kernel⟩,
    ⟨ticking .core, .tick 0, by decide +kernel⟩,
    ⟨modTb 1 (fun b => { b with oos := false }) { ticking .core with
       time := { State.reset.time with mapTicks := 65536 } }, by decide +kernel⟩,
    ⟨ticking .core, by decide +kernel⟩⟩

theorem test_witness_TallyAndArchive :
    (∃ (s : State) (rq : Requester), s.powered = true ∧ rq.std = false) ∧
    (∃ (s : State) (rq : Requester), s.powered = true ∧ rq.std = true ∧
       (s.tally.fwCode = 0 ∨ locValid s.tally.fwLoc = false)) ∧
    (∃ (s : State) (rq : Requester), s.powered = true ∧ rq.std = true ∧ s.tally.fwCode ≠ 0 ∧
       locValid s.tally.fwLoc = true ∧ s.tally.free = true ∧ s.tally.dropped = 0 ∧
       (s.tally.sameN = 0 ∨ s.tally.sameAt ≠ (inTurn Block.tally 112 rq.rank s).cycle)) ∧
    (∃ (s : State) (rq : Requester), s.powered = true ∧ rq ≠ Requester.keeper) ∧
    (∃ (s : State), s.powered = true ∧ s.tally.unarch ≠ 0) ∧
    (∃ (s : State) (x : JEntry) (i : ℕ), s.powered = true ∧ s.tally.archiving = true ∧ s.tally.oldest = some x ∧
       Memory.wf s.mem.mram = true ∧ i < 32) ∧
    (∃ (s : State) (x : JEntry) (a : ℕ), s.powered = true ∧ s.tally.archiving = true ∧ s.tally.oldest = some x ∧
       Memory.wf s.mem.mram = true ∧
       (a < 9437184 + s.tally.archSlot.toNat * 32 ∨ 9437184 + s.tally.archSlot.toNat * 32 + 32 ≤ a)) ∧
    (∃ (s : State) (i : ℕ), s.powered = true ∧ i < 8) :=
  ⟨
    ⟨ticking .core, .tick 0, by decide +kernel⟩,
    ⟨ticking .core, .keeper, by decide +kernel⟩,
    ⟨{ ticking .core with tally := { State.reset.tally with fwCode := 1, fwLoc := locTile 0 9 } }, .keeper,
     by decide +kernel⟩,
    ⟨ticking .core, .tick 0, by decide +kernel⟩,
    ⟨{ ticking .core with
       tally := { State.reset.tally with archiving := true, journal := [⟨default, false⟩], seq := 1 } },
     by decide +kernel⟩,
    ⟨{ ticking .core with
       tally := { State.reset.tally with archiving := true, journal := [⟨default, false⟩], seq := 1 } },
     ⟨default, false⟩, 0, by decide +kernel⟩,
    ⟨{ ticking .core with
       tally := { State.reset.tally with archiving := true, journal := [⟨default, false⟩], seq := 1 } },
     ⟨default, false⟩, 0, by decide +kernel⟩,
    ⟨ticking .core, 0, by decide +kernel⟩⟩

theorem test_witness_PortsAndLinks :
    (∃ (s : State) (f : List Byte), s.powered = true ∧ headerOk f = false) ∧
    (∃ (s : State) (p : Fin 2) (f : List Byte), s.powered = true ∧ headerOk f = true ∧ frSize f = f.length ∧
       s.tagOk f = true ∧ s.forwards p f = true ∧ frKind f ≤ 8) ∧
    (∃ (s : State) (p : Fin 2) (f : List Byte) (fcs : Word), s.powered = true ∧ headerOk f = true ∧
       frSize f = f.length ∧ s.forwards p f = true ∧ frKind f ≤ 8 ∧ fcs ≠ crc32 f ∧ fcs ≠ ~~~crc32 f) ∧
    (∃ (s : State) (p : Fin 2) (f : List Byte), s.powered = true ∧ headerOk f = true ∧ frSize f = f.length ∧
       s.tagOk f = true ∧ s.forwards p f = false ∧ s.consumes f = false ∧ (s.unplaced = false ∨ frDst f ≠ 255)) ∧
    (∃ (s : State) (p : Fin 2) (f : List Byte), s.powered = true ∧ headerOk f = true ∧ frSize f = f.length ∧
       s.tagOk f = true ∧ s.forwards p f = false ∧ s.consumes f = false ∧ s.unplaced = true ∧ frDst f = 255) ∧
    (∃ (s : State) (p : Fin 2) (o : OutFrame) (l : List OutFrame), s.powered = true ∧ s.fab.port[p].store = o :: l ∧
       s.fab.port[p].closing = true) ∧
    (∃ (s : State) (p : Fin 2) (o : OutFrame) (l : List OutFrame), s.powered = true ∧ s.fab.port[p].store = o :: l ∧
       s.fab.port[p].up = true ∧ s.tick.phase ≠ Phase.off ∧ o.txn = false ∧ s.fab.port[p].closing = false ∧
       ((BitVec.toNat s.now).cast - (BitVec.toNat s.tick.startDrv).cast + ((o.bytes.length + 24) * 8).cast + 1000 ≤ if
         (BitVec.toNat s.now).cast - (BitVec.toNat s.tick.startDrv).cast < s.cfg.rstart.cast * s.T.cast / 1024 then
           s.cfg.rstart.cast * s.T.cast / 1024 else s.T.cast)) ∧
    (∃ (s : State) (p : Fin 2), s.powered = true ∧ s.fab.port[p].up = true ∧ s.fab.port[otherPort p].up = false) ∧
    (∃ (s : State) (p : Fin 2) (f : List Byte), s.powered = true ∧ s.takesFrame 1 f = true ∧ s.fab.port[p].up = true) ∧
    (∃ (s : State) (f : List Byte), s.powered = true ∧ s.takesFrame 11 f = true ∧ s.cfg.msgRxq ≠ 255 ∧
       within 1 28 (frLen f) = true) :=
  ⟨
    ⟨member 1, rep 16 0, by decide +kernel⟩,
    ⟨member 1, 0, frame 1 1 (rep 40 1), by decide +kernel⟩,
    ⟨member 1, 0, frame 1 1 (rep 40 1), 0, by decide +kernel⟩,
    ⟨member 1, 0, frame 2 6 (rep 24 1), by decide +kernel⟩,
    ⟨{ member 1 with fab := { (member 1).fab with pos := 0 } }, 0, header 0xFF 1 7 1 7 8 false 1000 3 ++ rep 8 1,
     by decide +kernel⟩,
    ⟨{ member 1 with
       fab := { (member 1).fab with
         port := Vector.replicate 2 { PortState.start with
           up := true
           closing := true
           store := [⟨rep 40 3, false, false⟩] } } }, 0, ⟨rep 40 3, false, false⟩, [], by decide +kernel⟩,
    ⟨{ member 1 with
       fab := { (member 1).fab with
         port := Vector.replicate 2 { PortState.start with up := true, store := [⟨rep 40 3, false, false⟩] } } }, 0,
     ⟨rep 40 3, false, false⟩, [], by decide +kernel⟩,
    ⟨{ member 1 with
       fab := { (member 1).fab with
         port := (Vector.replicate 2 PortState.start).set 0 { PortState.start with up := true } } }, 0,
     by decide +kernel⟩,
    ⟨member 1, 0, frame 1 1 (rep 40 1), by decide +kernel⟩,
    ⟨member 1, frame 1 11 (rep 8 1), by decide +kernel⟩⟩

theorem test_witness_PortsAndLinksPop :
    ∃ (s : State) (u : State) (e : List Byte), s.powered = true ∧ s.fab.pos ≠ 0 ∧ s.cfg.msgTxq ≠ 255 ∧
       (s.q s.cfg.msgTxq).count ≠ 0 ∧ qPop 5 s.cfg.msgTxq s = (QRes.done, e, u) ∧ msgBad e = true :=
    ⟨sender, (qPop 5 (sender).cfg.msgTxq (sender)).2.2, (qPop 5 (sender).cfg.msgTxq (sender)).2.1,
     ⟨rfl, by decide +kernel, by decide +kernel, by decide +kernel, Prod.ext (by decide +kernel) rfl,
       by decide +kernel⟩⟩

theorem test_witness_PortsAndLinksPush :
    ∃ (s : State) (u : State) (e : List Byte), s.powered = true ∧ s.fab.pos ≠ 0 ∧ s.cfg.msgTxq ≠ 255 ∧
       (s.q s.cfg.msgTxq).count ≠ 0 ∧ qPop 5 s.cfg.msgTxq s = (QRes.done, e, u) ∧ msgBad e = false :=
    ⟨ramPut 0xC0000 [3, 0, 4, 0, 1, 2, 3, 4] sender,
     (qPop 5 (ramPut 0xC0000 [3, 0, 4, 0, 1, 2, 3, 4] sender).cfg.msgTxq (ramPut 0xC0000 [3, 0, 4, 0, 1, 2, 3, 4]
       sender)).2.2,
     (qPop 5 (ramPut 0xC0000 [3, 0, 4, 0, 1, 2, 3, 4] sender).cfg.msgTxq (ramPut 0xC0000 [3, 0, 4, 0, 1, 2, 3, 4]
       sender)).2.1,
     ⟨rfl, by decide +kernel, by decide +kernel, by decide +kernel, Prod.ext (by decide +kernel) rfl,
       by decide +kernel⟩⟩

theorem test_witness_MusterBeginsAndEnds :
    (∃ (s : State) (rq : Requester), s.powered = true ∧ rq ≠ Requester.keeper) ∧
    (∃ (s : State) (f : List Byte), s.powered = true ∧ s.takesFrame 2 f = true ∧ newerGen (frGen f) s.ownGen = true) ∧
    (∃ (s : State) (at_ : ℕ), s.powered = true ∧ s.fab.recallAt = some at_ ∧ at_ ≤ s.tick.executed ∧ s.upPorts ≠ []) ∧
    (∃ (s : State) (r : MusterRun) (l : List DWord), s.powered = true ∧ s.fab.run = some r ∧ r.done = some l ∧
       r.ready = true ∧ r.badToken = false ∧ s.fab.serial ∈ l ∧ r.pos = 0) ∧
    (∃ (s : State) (r : MusterRun), s.powered = true ∧ s.fab.run = some r ∧
       (r.badToken = true ∨ 4 ≤ r.marks ∧ r.done = none)) :=
  ⟨
    ⟨member 1, .task, by decide +kernel⟩,
    ⟨member 1, header 0xFF 1 2 9 8 16 false 1000 3 ++ rep 16 1, by decide +kernel⟩,
    ⟨{ member 1 with fab := { (member 1).fab with recallAt := some 5 } }, 5, by decide +kernel⟩,
    ⟨{ member 1 with
       fab := { (member 1).fab with
         pos := 0
         state := .muster
         run := some ⟨7, true, 0, 4, true, [], 0, 0, false, some [5, 77], true, false, false⟩ } },
     ⟨7, true, 0, 4, true, [], 0, 0, false, some [5, 77], true, false, false⟩, [5, 77], by decide +kernel⟩,
    ⟨{ member 1 with
       fab := { (member 1).fab with
         pos := 0
         state := .muster
         run := some ⟨7, true, 0, 4, true, [], 0, 0, false, none, true, false, false⟩ } },
     ⟨7, true, 0, 4, true, [], 0, 0, false, none, true, false, false⟩, by decide +kernel⟩⟩

theorem test_witness_MusterGivesPositions :
    (∃ (s : State), s.fab.run = none) ∧
    (∃ (s : State) (r : MusterRun) (p : Fin 2), s.powered = true ∧ s.fab.run = some r ∧ 1 ≤ r.marks ∧
       r.rollSent = false ∧ s.fab.port[p].up = true ∧ s.maySend = true) ∧
    (∃ (s : State) (r : MusterRun) (f : List Byte) (q : Roll), s.powered = true ∧ s.fab.run = some r ∧
       s.takesFrame 3 f = true ∧ ((r.rolls.any fun x => x.serial == (rollOf f q).serial) = false)) ∧
    (∃ (s : State) (r : MusterRun) (f : List Byte) (q : Roll), s.powered = true ∧ s.fab.run = some r ∧
       s.takesFrame 3 f = true ∧ ((r.rolls.any fun x => x.serial == (rollOf f q).serial) = true)) ∧
    (∃ (s : State) (r : MusterRun), s.powered = true ∧ s.fab.run = some r ∧
       ((if s.tick.src = true then 2 else 3) ≤ r.marks) ∧ r.tokenSent = false ∧ r.rollSent = true ∧
       r.starter = some (BitVec.toNat s.fab.serial) ∧ r.pos = 0 ∧ 1 < r.rolls.length) ∧
    (∃ (s : State) (r : MusterRun), s.powered = true ∧ s.fab.run = some r ∧
       ((if s.tick.src = true then 2 else 3) ≤ r.marks) ∧ r.tokenSent = false ∧ r.rollSent = true ∧
       r.starter = some (BitVec.toNat s.fab.serial) ∧ r.pos = 0 ∧ r.rolls.length = 1) ∧
    (∃ (s : State) (r : MusterRun) (f : List Byte), s.powered = true ∧ s.fab.run = some r ∧ s.takesFrame 4 f = true ∧
       r.pos = 0 ∧ leAt f 17 1 = r.rolls.length) ∧
    (∃ (s : State) (r : MusterRun) (f : List Byte), s.powered = true ∧ s.fab.run = some r ∧ s.takesFrame 4 f = true ∧
       r.pos = 0 ∧ leAt f 17 1 ≠ r.rolls.length) ∧
    (∃ (s : State) (r : MusterRun) (f : List Byte), s.powered = true ∧ s.fab.run = some r ∧ s.takesFrame 4 f = true ∧
       r.pos ≠ 0) ∧
    (∃ (s : State) (r : MusterRun) (f : List Byte), s.powered = true ∧ s.fab.run = some r ∧ s.takesFrame 5 f = true) :=
  ⟨
    ⟨member 1, by decide +kernel⟩,
    ⟨{ member 1 with
       fab := { (member 1).fab with
         pos := 0
         state := .muster
         run := some ⟨7, true, 0, 1, false, [], 0, 0, false, none, false, false, false⟩ } },
     ⟨7, true, 0, 1, false, [], 0, 0, false, none, false, false, false⟩, 0, by decide +kernel⟩,
    ⟨{ member 1 with
       fab := { (member 1).fab with
         pos := 0
         state := .muster
         run := some ⟨7, true, 0, 1, false, [], 0, 0, false, none, false, false, false⟩ } },
     ⟨7, true, 0, 1, false, [], 0, 0, false, none, false, false, false⟩, frame 1 3 (rep 16 1),
     ⟨77, false, false, false, 0⟩, by decide +kernel⟩,
    ⟨{ member 1 with
       fab := { (member 1).fab with
         pos := 0
         state := .muster
         run := some ⟨7, true, 0, 3, true, [⟨1, false, false, false, 0⟩], 0, 0, false, none, false, false, false⟩ } },
     ⟨7, true, 0, 3, true, [⟨1, false, false, false, 0⟩], 0, 0, false, none, false, false, false⟩,
     frame 1 3 (rep 16 1), ⟨77, false, false, false, 0⟩, by decide +kernel⟩,
    ⟨{ member 1 with
       fab := { (member 1).fab with
         pos := 0
         state := .muster
         run := some ⟨7, true, 0, 3, true, [⟨77, false, false, false, 0⟩, ⟨90, false, false, false, 0⟩], 0, 0, false,
           none, false, false, false⟩ } },
     ⟨7, true, 0, 3, true, [⟨77, false, false, false, 0⟩, ⟨90, false, false, false, 0⟩], 0, 0, false, none, false,
       false, false⟩,
     by decide +kernel⟩,
    ⟨{ member 1 with
       fab := { (member 1).fab with
         pos := 0
         state := .muster
         run := some ⟨7, true, 0, 5, true, [⟨77, false, false, false, 0⟩], 0, 0, false, none, false, false, false⟩ } },
     ⟨7, true, 0, 5, true, [⟨77, false, false, false, 0⟩], 0, 0, false, none, false, false, false⟩,
     by decide +kernel⟩,
    ⟨{ member 1 with
       fab := { (member 1).fab with
         pos := 0
         state := .muster
         run := some ⟨7, true, 0, 3, true, [⟨77, false, false, false, 0⟩, ⟨90, false, false, false, 0⟩], 0, 0, false,
           none, false, false, false⟩ } },
     ⟨7, true, 0, 3, true, [⟨77, false, false, false, 0⟩, ⟨90, false, false, false, 0⟩], 0, 0, false, none, false,
       false, false⟩,
     frame 1 4 [1, 2], by decide +kernel⟩,
    ⟨{ member 1 with
       fab := { (member 1).fab with
         pos := 0
         state := .muster
         run := some ⟨7, true, 0, 1, false, [], 0, 0, false, none, false, false, false⟩ } },
     ⟨7, true, 0, 1, false, [], 0, 0, false, none, false, false, false⟩, frame 1 4 [1, 2], by decide +kernel⟩,
    ⟨{ member 1 with
       fab := { (member 1).fab with
         pos := 0
         state := .muster
         run := some ⟨7, true, 0, 5, true, [⟨77, false, false, false, 0⟩], 2, 0, true, none, false, false, false⟩ } },
     ⟨7, true, 0, 5, true, [⟨77, false, false, false, 0⟩], 2, 0, true, none, false, false, false⟩, frame 1 4 [1, 2],
     by decide +kernel⟩,
    ⟨{ member 1 with
       fab := { (member 1).fab with
         pos := 0
         state := .muster
         run := some ⟨7, true, 0, 1, false, [], 0, 0, false, none, false, false, false⟩ } },
     ⟨7, true, 0, 1, false, [], 0, 0, false, none, false, false, false⟩, frame 1 5 ([1] ++ rep 8 0),
     by decide +kernel⟩⟩

theorem test_witness_FabricTimeAndState :
    (∃ (s : State), s.powered = true ∧ s.bellwether = true ∧ s.fab.state = FabState.member ∧
       s.time.tb[1].oos = false ∧ s.fab.timeSeq ≠ s.tick.executed ∧ s.tick.phase ≠ Phase.off) ∧
    (∃ (s : State) (f : List Byte), s.powered = true ∧ s.takesFrame 6 f = true ∧ s.bellwether = false ∧
       s.fab.bw = frSrc f ∧ s.fab.bw ≠ 0) ∧
    (∃ (s : State) (f : List Byte), s.powered = true ∧ s.takesFrame 6 f = true ∧ s.fab.bw ≠ frSrc f) ∧
    (∃ (s : State) (m : Fin 4), s.powered = true ∧ s.fab.mustered = true ∧ s.bellwether = false ∧
       5 ≤ BitVec.toNat s.fab.tmiss ∧ s.fab.tstale = false ∧ m ≠ 1) ∧
    (∃ (s : State), s.powered = true ∧ s.fab.state = FabState.member ∧ s.tick.phase ≠ Phase.off ∧
       s.cfg.maxPos < s.fab.pos ∧ s.fab.overpos = false) ∧
    (∃ (s : State), s.powered = true ∧ s.carries1 = true ∧ s.fab.stateSeq ≠ s.tick.executed ∧
       s.tick.phase ≠ Phase.off ∧ s.fab.pos ≤ s.cfg.maxPos) ∧
    (∃ (s : State) (f : List Byte) (a : ℕ), s.powered = true ∧ s.carries1 = true ∧ s.takesFrame 7 f = true ∧
       frSrc f ≠ 0 ∧ frSrc f ≤ 64 ∧ s.beforeEnvelope = true ∧ Memory.wf s.mem.ram = true ∧
       (frPayload f).length = 256 ∧ (a < 4259840 + 256 * frSrc f ∨ 4259840 + 256 * frSrc f + 256 ≤ a)) ∧
    (∃ (s : State) (f : List Byte), s.powered = true ∧ s.carries1 = true ∧ s.takesFrame 7 f = true ∧ frSrc f ≠ 0 ∧
       frSrc f ≤ 64 ∧ s.beforeEnvelope = false) :=
  ⟨
    ⟨tb1 (member 2), by decide +kernel⟩,
    ⟨member 1, frame 1 6 (rep 24 1), by decide +kernel⟩,
    ⟨member 2, frame 1 6 (rep 24 1), by decide +kernel⟩,
    ⟨{ member 1 with fab := { (member 1).fab with tmiss := 5 } }, 0, by decide +kernel⟩,
    ⟨tb1 ({ member 1 with fab := { (member 1).fab with pos := 5 } }), by decide +kernel⟩,
    ⟨tb1 (member 2), by decide +kernel⟩,
    ⟨tb1 (member 2), frame 1 7 (rep 256 1), 0, by decide +kernel⟩,
    ⟨{ tb1 (member 1) with tick := { (tb1 (member 1)).tick with phase := .envelope } }, frame 1 7 (rep 256 1),
     by decide +kernel⟩⟩

theorem test_witness_Audio :
    (∃ (s : State) (k : Fin 32), s.powered = true ∧ s.cfg.isLocal k.val = true ∧ (s.str k.val).sender = 0 ∧
       s.tick.phase ≠ Phase.off ∧ s.tick.phase ≠ Phase.begun ∧
       BitVec.setWidth 32 s.tick.lastCount + BitVec.ofNat 32 s.cfg.lat ∉ (s.str k.val).held ∧
       (0 < tickDiff (BitVec.setWidth 32 s.tick.lastCount + BitVec.ofNat 32 s.cfg.lat) s.tickLo) ∧
       (tickDiff (BitVec.setWidth 32 s.tick.lastCount + BitVec.ofNat 32 s.cfg.lat) s.tickLo ≤ s.cfg.lat.cast)) ∧
    (∃ (s : State) (k : Fin 32), s.powered = true ∧ s.cfg.isLocal k.val = true ∧ (s.str k.val).sender = 0 ∧
       s.tick.phase ≠ Phase.off ∧ s.tick.phase ≠ Phase.begun ∧
       BitVec.setWidth 32 s.tick.lastCount + BitVec.ofNat 32 s.cfg.lat ∉ (s.str k.val).held ∧
       (tickDiff (BitVec.setWidth 32 s.tick.lastCount + BitVec.ofNat 32 s.cfg.lat) s.tickLo ≤ 0 ∨ s.cfg.lat.cast <
         tickDiff (BitVec.setWidth 32 s.tick.lastCount + BitVec.ofNat 32 s.cfg.lat) s.tickLo)) ∧
    (∃ (s : State) (f : List Byte), s.powered = true ∧ s.takesFrame 8 f = true ∧ s.carries1 = true ∧
       leAt (frPayload f) 0 1 < 32 ∧ (s.cfg.stream (leAt (frPayload f) 0 1)).isSome = true ∧
       s.announcer (leAt (frPayload f) 0 1) = frSrc f ∧ frSrc f ≠ 0 ∧
       (tickDiff (BitVec.ofNat 32 (leAt (frPayload f) 4 4)) s.tickLo ≤ 0)) ∧
    (∃ (s : State) (f : List Byte), s.powered = true ∧ s.takesFrame 8 f = true ∧ s.carries1 = true ∧
       leAt (frPayload f) 0 1 < 32 ∧ (s.cfg.stream (leAt (frPayload f) 0 1)).isSome = true ∧
       s.announcer (leAt (frPayload f) 0 1) = frSrc f ∧ frSrc f ≠ 0 ∧
       (0 < tickDiff (BitVec.ofNat 32 (leAt (frPayload f) 4 4)) s.tickLo) ∧
       (tickDiff (BitVec.ofNat 32 (leAt (frPayload f) 4 4)) s.tickLo ≤ s.cfg.lat.cast) ∧
       (tickDiff (BitVec.ofNat 32 (leAt (frPayload f) 4 4)) (frTick f + BitVec.ofNat 32 s.cfg.lat - 1) = 0) ∧
       leAt (frPayload f) 2 2 = s.cfg.ns) ∧
    (∃ (s : State) (rq : Requester) (v : Word), s.powered = true ∧ rq.isShepherd = false ∧ BitVec.toNat v < 2) ∧
    (∃ (s : State) (rq : Requester) (v : Word), s.powered = true ∧ rq.isShepherd = false ∧ 2 ≤ BitVec.toNat v) ∧
    (∃ (s : State) (rq : Requester) (v : Word), s.powered = true ∧ rq.isShepherd = true ∧ 2 ≤ BitVec.toNat v) ∧
    (∃ (s : State) (rq : Requester) (k : Fin 32) (v : Word), s.powered = true ∧ rq.isShepherd = true ∧
       BitVec.toNat v < 2 ∧ s.cfg.isLocal k.val = false) ∧
    (∃ (s : State) (rq : Requester) (k : Fin 32) (v : Word) (j : ℕ), s.powered = true ∧ rq.isShepherd = true ∧
       BitVec.toNat v < 2 ∧ s.cfg.isLocal k.val = true ∧ j ≠ k.val) ∧
    (∃ (s : State) (rq : Requester) (k : Fin 32) (v : Word), s.powered = true ∧ rq.isShepherd = true ∧
       BitVec.toNat v < 2 ∧ s.cfg.isLocal k.val = true ∧ (s.str k.val).active = bit v 0) :=
  ⟨
    ⟨{ { tb1 (member 1) with cfg := { (member 1).cfg with audioBody := [2, 0, 3, 0, 0, 0, 0, 0, 1, 4, 0, 0, 0, 0, 0, 0, 1, 5, 0xFF, 0, 0, 0, 0, 0] }, fab := { (member 1).fab with rolls := [⟨5, false, false, false, 0xFFFFFFFF⟩] } } with
       tick := { (ticking .core).tick with src := true, lastCount := 999 } }, 4, by decide +kernel⟩,
    ⟨{ tb1 (member 1) with
       cfg := { (member 1).cfg with
         audioBody := [2, 0, 3, 0, 0, 0, 0, 0, 1, 4, 0, 0, 0, 0, 0, 0, 1, 5, 0xFF, 0, 0, 0, 0, 0] }
       fab := { (member 1).fab with rolls := [⟨5, false, false, false, 0xFFFFFFFF⟩] } }, 4, by decide +kernel⟩,
    ⟨{ tb1 (member 1) with
       cfg := { (member 1).cfg with
         audioBody := [2, 0, 3, 0, 0, 0, 0, 0, 1, 4, 0, 0, 0, 0, 0, 0, 1, 5, 0xFF, 0, 0, 0, 0, 0] }
       fab := { (member 1).fab with rolls := [⟨5, false, false, false, 0xFFFFFFFF⟩] } },
     header 0xFF 1 8 9 7 52 false 1000 3 ++ ([4, 0, 0, 0, 232, 3, 0, 0] ++ rep 44 9), by decide +kernel⟩,
    ⟨{ tb1 (member 1) with
       cfg := { (member 1).cfg with
         audioBody := [2, 0, 3, 0, 0, 0, 0, 0, 1, 4, 0, 0, 0, 0, 0, 0, 1, 5, 0xFF, 0, 0, 0, 0, 0] }
       fab := { (member 1).fab with rolls := [⟨5, false, false, false, 0xFFFFFFFF⟩] } },
     header 0xFF 1 8 9 7 52 false 1000 3 ++ ([4, 0, 48, 0, 234, 3, 0, 0] ++ rep 44 9), by decide +kernel⟩,
    ⟨{ tb1 (member 1) with
       cfg := { (member 1).cfg with
         audioBody := [2, 0, 3, 0, 0, 0, 0, 0, 1, 4, 0, 0, 0, 0, 0, 0, 1, 5, 0xFF, 0, 0, 0, 0, 0] }
       fab := { (member 1).fab with rolls := [⟨5, false, false, false, 0xFFFFFFFF⟩] } }, .tick 0, 0,
     by decide +kernel⟩,
    ⟨{ tb1 (member 1) with
       cfg := { (member 1).cfg with
         audioBody := [2, 0, 3, 0, 0, 0, 0, 0, 1, 4, 0, 0, 0, 0, 0, 0, 1, 5, 0xFF, 0, 0, 0, 0, 0] }
       fab := { (member 1).fab with rolls := [⟨5, false, false, false, 0xFFFFFFFF⟩] } }, .tick 0, 2,
     by decide +kernel⟩,
    ⟨{ tb1 (member 1) with
       cfg := { (member 1).cfg with
         audioBody := [2, 0, 3, 0, 0, 0, 0, 0, 1, 4, 0, 0, 0, 0, 0, 0, 1, 5, 0xFF, 0, 0, 0, 0, 0] }
       fab := { (member 1).fab with rolls := [⟨5, false, false, false, 0xFFFFFFFF⟩] } }, .keeper, 2,
     by decide +kernel⟩,
    ⟨{ tb1 (member 1) with
       cfg := { (member 1).cfg with
         audioBody := [2, 0, 3, 0, 0, 0, 0, 0, 1, 4, 0, 0, 0, 0, 0, 0, 1, 5, 0xFF, 0, 0, 0, 0, 0] }
       fab := { (member 1).fab with rolls := [⟨5, false, false, false, 0xFFFFFFFF⟩] } }, .keeper, 5, 0,
     by decide +kernel⟩,
    ⟨{ tb1 (member 1) with
       cfg := { (member 1).cfg with
         audioBody := [2, 0, 3, 0, 0, 0, 0, 0, 1, 4, 0, 0, 0, 0, 0, 0, 1, 5, 0xFF, 0, 0, 0, 0, 0] }
       fab := { (member 1).fab with rolls := [⟨5, false, false, false, 0xFFFFFFFF⟩] } }, .keeper, 4, 0, 0,
     by decide +kernel⟩,
    ⟨{ tb1 (member 1) with
       cfg := { (member 1).cfg with
         audioBody := [2, 0, 3, 0, 0, 0, 0, 0, 1, 4, 0, 0, 0, 0, 0, 0, 1, 5, 0xFF, 0, 0, 0, 0, 0] }
       fab := { (member 1).fab with rolls := [⟨5, false, false, false, 0xFFFFFFFF⟩] } }, .keeper, 4, 0,
     by decide +kernel⟩⟩

theorem test_witness_RemoteAccess :
    (∃ (s : State) (rq : Requester), s.powered = true ∧ rq ≠ Requester.keeper) ∧
    (∃ (s : State) (c : Fin 4), s.powered = true ∧
       (s.fab.ra[c].state = RaState.idle ∨ s.fab.ra[c].state = RaState.done) ∧ s.authOn = true ∧ s.fab.pos ≠ 0 ∧
       s.fab.ra[c].dst ≤ s.fab.n ∧ s.txnFits = true) ∧
    (∃ (s : State) (c : Fin 4), s.powered = true ∧
       (s.fab.ra[c].state = RaState.idle ∨ s.fab.ra[c].state = RaState.done) ∧ s.authOn = true ∧ s.fab.pos ≠ 0 ∧
       s.fab.ra[c].dst ≤ s.fab.n ∧ s.txnFits = false) ∧
    (∃ (s : State) (c : Fin 4), s.powered = true ∧ s.fab.ra[c].state = RaState.sent ∧
       s.fab.ra[c].sentAt + 8 ≤ s.tick.executed) ∧
    (∃ (s : State) (c : Fin 4) (f : List Byte) (r : RaRsp), s.powered = true ∧ s.fab.ra[c].state = RaState.sent ∧
       s.takesFrame 10 f = true ∧ r.chan = c.val ∧ s.fab.ra[c].dst = frSrc f ∧ s.fab.ra[c].op = 0) ∧
    (∃ (s : State) (c : Fin 4) (f : List Byte) (r : RaRsp), s.powered = true ∧ s.takesFrame 10 f = true ∧
       r.chan = c.val ∧ (s.fab.ra[c].state ≠ RaState.sent ∨ s.fab.ra[c].dst ≠ frSrc f)) ∧
    (∃ (s : State) (f : List Byte), s.powered = true ∧ s.takesFrame 9 f = true ∧ s.authOn = false) ∧
    (∃ (s : State) (f : List Byte), s.powered = true ∧ s.takesFrame 9 f = true ∧ s.authOn = true ∧ s.txnFits = false) ∧
    (∃ (s : State) (f : List Byte), s.powered = true ∧ s.takesFrame 9 f = true ∧ s.authOn = true ∧ s.txnFits = true) :=
  ⟨
    ⟨member 1, .task, by decide +kernel⟩,
    ⟨authMember, 0, by decide +kernel⟩,
    ⟨busy64 authMember, 0, by decide +kernel⟩,
    ⟨{ member 1 with
       fab := { (member 1).fab with
         ra := (member 1).fab.ra.set 0 { (member 1).fab.ra[0] with state := .sent, dst := 1, op := 0 } } }, 0,
     by decide +kernel⟩,
    ⟨{ member 1 with
       fab := { (member 1).fab with
         ra := (member 1).fab.ra.set 0 { (member 1).fab.ra[0] with state := .sent, dst := 1, op := 0 } } }, 0,
     frame 1 10 (rep 8 0), ⟨0, 0, 0, []⟩, by decide +kernel⟩,
    ⟨member 1, 0, frame 1 10 (rep 8 0), ⟨0, 0, 0, []⟩, by decide +kernel⟩,
    ⟨member 1, frame 1 9 (rep 16 0), by decide +kernel⟩,
    ⟨busy64 authMember, tagged 9 (rep 16 0), ⟨rfl, auth_taken_busy, by decide +kernel⟩⟩,
    ⟨authMember, tagged 9 (rep 16 0), ⟨rfl, auth_taken, by decide +kernel⟩⟩⟩

theorem test_witness_BusFrames :
    (∃ (s : State) (k : Fin 6) (f : CanFrame) (age : ℕ), s.powered = true ∧ s.mbus.ch[k].waits = false ∧
       (s.configured k.val && (s.atStart k age).up && s.carries k f) = false) ∧
    (∃ (s : State) (k : Fin 6) (f : CanFrame) (age : ℕ), s.powered = true ∧ s.mbus.ch[k].waits = false ∧
       (s.configured k.val && (s.atStart k age).up && s.carries k f) = true ∧ s.bitHit k = true ∧
       bitInside false (field s.pert.par[4] 8 13) f = true) ∧
    (∃ (s : State) (k : Fin 6) (f : CanFrame) (age : ℕ), s.powered = true ∧ s.mbus.ch[k].waits = false ∧
       (s.configured k.val && (s.atStart k age).up && s.carries k f) = true ∧
       (s.bitHit k = false ∨ bitInside false (field s.pert.par[4] 8 13) f = false) ∧
       (List.find? (fun x => flMatch k.val f x.1) s.cfg.filters.zipIdx = none)) ∧
    (
       ∃ (s : State) (k : Fin 6) (f : CanFrame) (age : ℕ) (delay : ℕ) (tx : Bool) (special : Bool) (code : Fin 7) (c :
         Instr) (v : Fin 4),
       s.powered = true ∧
       (c = Instr.canRxFrame k f age ∨ c = Instr.txFrame k age delay ∨ c = Instr.canBusError k tx special code age) ∧
       s.mbus.ch[k].waits = true ∧ s.mbus.ch[k].trxWait = some v) ∧
    (∃ (s : State) (k : Fin 6) (q : Fin 128) (c : QueueCfg), s.powered = true ∧ s.mbus.ch[k].waits = false ∧
       chTxq (s.chRec k.val) = q.val ∧ s.que.bind[q] = some c ∧ c.consumer = 9 ∧ s.canSend k = true ∧
       s.mbus.ch[k].pend = none ∧ s.mbus.ch[k].refTx = RefTx.none ∧ s.mem.flips = [] ∧ s.mem.marked = [] ∧
       s.mem.wrote = [] ∧
       entryCount (dataLen ((leAt (s.qPeek c q.val 0) 4 1).testBit 4) ((leAt (s.qPeek c q.val 0) 0 4).testBit 30)
         (leAt (s.qPeek c q.val 0) 4 1 % 16)) ≤ s.que.q[q].count ∧
       txBad s k (s.qPeek c q.val 0) = true) ∧
    (∃ (s : State) (k : Fin 6) (q : Fin 128) (c : QueueCfg), s.powered = true ∧ s.mbus.ch[k].waits = false ∧
       chTxq (s.chRec k.val) = q.val ∧ s.que.bind[q] = some c ∧ c.consumer = 9 ∧ s.canSend k = true ∧
       s.mbus.ch[k].pend = none ∧ s.mbus.ch[k].refTx = RefTx.none ∧ s.mem.flips = [] ∧ s.mem.marked = [] ∧
       s.mem.wrote = [] ∧
       entryCount (dataLen ((leAt (s.qPeek c q.val 0) 4 1).testBit 4) ((leAt (s.qPeek c q.val 0) 0 4).testBit 30)
         (leAt (s.qPeek c q.val 0) 4 1 % 16)) ≤ s.que.q[q].count ∧
       txBad s k (s.qPeek c q.val 0) = false) ∧
    (∃ (s : State) (k : Fin 6) (age : ℕ), s.powered = true ∧ s.mbus.ch[k].waits = false ∧
       (s.configured k.val && (s.atStart k age).sends) = false) ∧
    (∃ (s : State) (k : Fin 6) (age : ℕ), s.powered = true ∧ s.mbus.ch[k].waits = false ∧
       (s.configured k.val && (s.atStart k age).sends) = true ∧
       (s.bitHit k && Option.any (bitInside true (field s.pert.par[4] 8 13)) (s.nextTx k (s.atStart k age))) = true) ∧
    (∃ (s : State) (k : Fin 6) (age : ℕ) (st : DWord), s.powered = true ∧ s.mbus.ch[k].waits = false ∧
       (s.configured k.val && (s.atStart k age).sends) = true ∧
       (s.bitHit k && Option.any (bitInside true (field s.pert.par[4] 8 13)) (s.nextTx k (s.atStart k age))) = false ∧
       s.mbus.ch[k].refTx = RefTx.follow st) ∧
    (∃ (s : State) (k : Fin 6) (age : ℕ) (p : TxPend), s.powered = true ∧ s.mbus.ch[k].waits = false ∧
       (s.configured k.val && (s.atStart k age).sends) = true ∧
       (s.bitHit k && Option.any (bitInside true (field s.pert.par[4] 8 13)) (s.nextTx k (s.atStart k age))) = false ∧
       (s.mbus.ch[k].refTx = RefTx.none ∨ s.mbus.ch[k].refTx = RefTx.ref) ∧ s.mbus.ch[k].pend = some p) ∧
    (∃ (s : State) (k : Fin 6) (age : ℕ), s.powered = true ∧ s.mbus.ch[k].waits = false ∧
       (s.configured k.val && (s.atStart k age).sends) = true ∧
       (s.bitHit k && Option.any (bitInside true (field s.pert.par[4] 8 13)) (s.nextTx k (s.atStart k age))) = false ∧
       s.mbus.ch[k].refTx = RefTx.ref ∧ s.mbus.ch[k].pend = none) :=
  ⟨
    ⟨ticking .core, 0, ⟨5, false, false, false, false, false, 1, [7]⟩, 0, by decide +kernel⟩,
    ⟨modCh 0 (fun c => { c with pend := some ⟨⟨5, false, false, false, false, false, 1, [7]⟩, false⟩ }) { buses 0 false with
       pert := { State.reset.pert with live := 16, frames := 1 } }, 0,
     ⟨5, false, false, false, false, false, 1, [7]⟩, 0, by decide +kernel⟩,
    ⟨buses 0 false, 0, ⟨5, false, false, false, false, false, 1, [7]⟩, 0, by decide +kernel⟩,
    ⟨modCh 0 (fun c => { c with trxWait := some 1 }) (buses 0 false), 0,
     ⟨5, false, false, false, false, false, 1, [7]⟩, 0, 0, false, false, 0,
     .canRxFrame (0) (⟨5, false, false, false, false, false, 1, [7]⟩) (0), 1, by decide +kernel⟩,
    ⟨{ buses 0 false with
       que := { State.reset.que with
         bind := State.reset.que.bind.set 7 (some ⟨3, 4, 2, 0, 1, 9⟩)
         q := State.reset.que.q.set 7 { State.reset.que.q[7] with count := 4 } } }, 1, 7, ⟨3, 4, 2, 0, 1, 9⟩,
     by decide +kernel⟩,
    ⟨{ buses 0 false with
       que := { State.reset.que with
         bind := State.reset.que.bind.set 7 (some ⟨3, 4, 2, 0, 1, 9⟩)
         q := State.reset.que.q.set 7 { State.reset.que.q[7] with count := 4 } } }, 0, 7, ⟨3, 4, 2, 0, 1, 9⟩,
     by decide +kernel⟩,
    ⟨ticking .core, 0, 0, by decide +kernel⟩,
    ⟨modCh 0 (fun c => { c with pend := some ⟨⟨5, false, false, false, false, false, 1, [7]⟩, false⟩ }) { buses 0 false with
       pert := { State.reset.pert with live := 16, frames := 1 } }, 0, 0, by decide +kernel⟩,
    ⟨modCh 0 (fun c => { c with refTx := .follow 5 }) (buses 0 false), 0, 0, 5, by decide +kernel⟩,
    ⟨modCh 0 (fun c => { c with pend := some ⟨⟨5, false, false, false, false, false, 1, [7]⟩, false⟩ }) (buses 0 false),
     0, 0, ⟨⟨5, false, false, false, false, false, 1, [7]⟩, false⟩, by decide +kernel⟩,
    ⟨modCh 0 (fun c => { c with refTx := .ref }) (buses 0 false), 0, 0, by decide +kernel⟩⟩

theorem test_witness_BusTimersAndErrors :
    (∃ (s : State) (k : Fin 6) (st : DWord), s.powered = true ∧ chRole (s.chRec k.val) = 2 ∧
       BitVec.toNat s.tick.count % s.refTicks k.val = 0 ∧
       (s.tick.phase = Phase.measure ∨ s.tick.phase = Phase.guard) ∧ s.mbus.ch[k].refAt ≠ some s.tick.executed ∧
       s.mbus.ch[k].refTx = RefTx.follow st) ∧
    (∃ (s : State) (k : Fin 6), s.powered = true ∧ chRole (s.chRec k.val) = 2 ∧
       BitVec.toNat s.tick.count % s.refTicks k.val = 0 ∧
       (s.tick.phase = Phase.measure ∨ s.tick.phase = Phase.guard) ∧ s.mbus.ch[k].refAt ≠ some s.tick.executed ∧
       (∀ (st : DWord), s.mbus.ch[k].refTx ≠ RefTx.follow st)) ∧
    (∃ (s : State) (k : Fin 6), s.powered = true ∧ chRole (s.chRec k.val) ≠ 2) ∧
    (∃ (s : State) (k : Fin 6) (at_ : ℕ) (n : Fin 4), s.powered = true ∧ s.mbus.ch[k].pairAt = some at_ ∧
       chRole (s.chRec k.val) = 1 ∧ s.mbus.tb2lock = true ∧ 4 * s.refTicks k.val < s.tick.executed - at_ ∧ n ≠ 2) ∧
    (∃ (s : State) (o : Fin 256), s.powered = true ∧ s.hurdle.mapLive[o] = true ∧ s.mapExpired o.val = true ∧
       (∀ x ∈ s.reports, x.1 ≠ 7340032 + o.val) ∧ s.canLog = true) ∧
    (∃ (s : State) (k : Fin 6) (code : Fin 7) (age : ℕ), s.powered = true ∧ s.mbus.ch[k].waits = false ∧
       (s.configured k.val && (s.atStart k age).sends) = true ∧ code ≠ 0) ∧
    (∃ (s : State) (k : Fin 6) (code : Fin 7) (age : ℕ), s.powered = true ∧ s.mbus.ch[k].waits = false ∧
       ((s.configured k.val && (s.atStart k age).sends) = false ∨ code = 0)) ∧
    (∃ (s : State) (k : Fin 6), s.powered = true ∧ s.mbus.ch[k].busoff = true) ∧
    (∃ (s : State) (k : Fin 6), s.powered = true ∧ s.mbus.ch[k].trx = 0) ∧
    (∃ (s : State) (k : Fin 6), s.powered = true ∧ s.mbus.ch[k].trx ≠ 0) :=
  ⟨
    ⟨{ buses 2 false with
       tick := { (buses 2 false).tick with count := 0 }
       mbus := { (buses 2 false).mbus with ch := (buses 2 false).mbus.ch.map fun c => { c with refTx := .follow 5 } } },
     0, 5, by decide +kernel⟩,
    ⟨buses 2 false, 0,
     ⟨by decide +kernel, by decide +kernel, by decide +kernel, by decide +kernel, by decide +kernel, fun _ h => absurd
       (test_no_follow.symm.trans h) nofun⟩⟩,
    ⟨buses 0 false, 0, by decide +kernel⟩,
    ⟨{ buses 1 false with
       tick := { (buses 1 false).tick with executed := 1000000 }
       mbus := { (buses 1 false).mbus with
         tb2lock := true
         ch := (buses 1 false).mbus.ch.map fun c => { c with pairAt := some 5 } } }, 0, 5, 1, by decide +kernel⟩,
    ⟨{ buses 0 false with hurdle := { State.reset.hurdle with mapLive := State.reset.hurdle.mapLive.set 0 true } },
     0, by decide +kernel⟩,
    ⟨buses 0 false, 0, 1, 0, by decide +kernel⟩,
    ⟨modCh 0 (fun c => { c with busoff := true }) (buses 0 false), 0, 1, 0, by decide +kernel⟩,
    ⟨modCh 0 (fun c => { c with busoff := true }) (buses 0 false), 0, by decide +kernel⟩,
    ⟨buses 0 false, 0, by decide +kernel⟩,
    ⟨modCh 0 (fun c => { c with trx := 1 }) (buses 0 false), 0, by decide +kernel⟩⟩

theorem test_witness_BusControlAndWake :
    (∃ (s : State) (rq : Requester), s.powered = true ∧ rq.isShepherd = false) ∧
    (∃ (s : State) (rq : Requester) (k : Fin 6), s.powered = true ∧ rq.isShepherd = true ∧
       s.mbus.ch[k].busoff = false ∧ s.mbus.ch[k].up = false) ∧
    (∃ (s : State) (rq : Requester) (k : Fin 6), s.powered = true ∧ rq.isShepherd = true ∧
       s.configured k.val = true ∧ s.mbus.ch[k].inInit = true ∧ s.mbus.ch[k].initReq = true) ∧
    (∃ (s : State) (rq : Requester) (k : Fin 6) (v : Fin 4), s.powered = true ∧ rq.isShepherd = true ∧
       (s.configured k.val = true ∨ v = 2) ∧ s.mbus.ch[k].up = false) ∧
    (∃ (s : State) (rq : Requester) (k : Fin 6) (v : Fin 4), s.powered = true ∧ rq.isShepherd = true ∧
       s.configured k.val = false ∧ v ≠ 2) ∧
    (∃ (s : State) (k : Fin 6), s.pwr.mode ≠ PwrMode.off ∧ 2 ≤ s.mbus.ch[k].trx.val ∧
       (s.pwr.mode = PwrMode.rest → 4 ≤ k.val) ∧ s.mbus.ch[k].waits = false ∧ chWakeMode (s.chRec k.val) = true ∧
       4 ≤ k.val) ∧
    (∃ (s : State) (k : Fin 6), s.pwr.mode ≠ PwrMode.off ∧ 2 ≤ s.mbus.ch[k].trx.val ∧
       (s.pwr.mode = PwrMode.rest → 4 ≤ k.val) ∧ s.mbus.ch[k].waits = false ∧
       (¬(chWakeMode (s.chRec k.val) = true ∧ 4 ≤ k.val))) ∧
    (∃ (s : State) (k : Fin 6), s.pwr.mode ≠ PwrMode.off ∧ 2 ≤ s.mbus.ch[k].trx.val ∧
       (s.pwr.mode = PwrMode.rest → 4 ≤ k.val) ∧ s.mbus.ch[k].waits = false ∧ s.pwr.mode = PwrMode.rest) ∧
    (∃ (s : State) (k : Fin 6), s.pwr.mode ≠ PwrMode.off ∧ s.mbus.ch[k].trx.val < 2 ∧ s.mbus.ch[k].waits = false) ∧
    (∃ (s : State) (ct : Fin 2) (tr : Train) (a : Byte), s.pwr.mode ≠ PwrMode.off ∧
       s.mbus.ch[trunk ct].armed = true ∧ trainAddr tr (BitVec.getLsbD s.freeVal 0) = some a ∧ s.addrMatch a ≠ 0) ∧
    (∃ (s : State) (ct : Fin 2) (tr : Train) (a : Byte), s.pwr.mode ≠ PwrMode.off ∧
       s.mbus.ch[trunk ct].armed = true ∧ trainAddr tr (BitVec.getLsbD s.freeVal 0) = some a ∧ s.addrMatch a = 0) :=
  ⟨
    ⟨buses 0 false, .tick 0, by decide +kernel⟩,
    ⟨ticking .core, .keeper, 0, by decide +kernel⟩,
    ⟨modCh 0 (fun c => { c with inInit := true, initReq := true }) (buses 0 false), .keeper, 0, by decide +kernel⟩,
    ⟨ticking .core, .keeper, 0, 2, by decide +kernel⟩,
    ⟨ticking .core, .keeper, 0, 0, by decide +kernel⟩,
    ⟨modCh 4 (fun c => { c with trx := 2 }) (buses 0 true), 4, by decide +kernel⟩,
    ⟨ticking .core, 0, by decide +kernel⟩,
    ⟨modCh 4 (fun c => { c with trx := 2 }) (inMode .rest), 4, by decide +kernel⟩,
    ⟨buses 0 false, 0, by decide +kernel⟩,
    ⟨modCh 4 (fun c => { c with armed := true }) { ticking .core with
       mbus := { State.reset.mbus with wakeaddr := 5 } }, 0,
     ⟨0, 50000, [(50000, 50000), (50000, 50000), (50000, 50000), (50000, 50000), (50000, 50000), (50000, 150000),
       (50000, 50000), (50000, 150000), (50000, 150000)]⟩,
     5, by decide +kernel⟩,
    ⟨modCh 4 (fun c => { c with armed := true }) { ticking .core with
       mbus := { State.reset.mbus with wakeaddr := 5 } }, 0,
     ⟨0, 50000, [(50000, 50000), (50000, 50000), (50000, 50000), (50000, 50000), (50000, 50000), (50000, 50000),
       (50000, 50000), (50000, 50000), (50000, 150000)]⟩,
     0, by decide +kernel⟩⟩

theorem test_witness_ReadersAndTimes :
    (∃ (s : State) (r : Fin 2) (a : Half) (b : Half), s.powered = true ∧ rdClass (s.rdRec r) = 1 ∧
       (rdThr (s.rdRec r)).cast < s16 a ∧ (rdThr (s.rdRec r)).cast < s16 b ∧ s.acc.rd[r].touch = false ∧
       s.accEnabled = true ∧ s.accLocked = false) ∧
    (∃ (s : State) (r : Fin 2) (a : Half) (b : Half), s.powered = true ∧ rdClass (s.rdRec r) = 1 ∧
       (rdThr (s.rdRec r)).cast < s16 a ∧ (rdThr (s.rdRec r)).cast < s16 b ∧ s.acc.rd[r].touch = false ∧
       s.accLocked = true) ∧
    (∃ (s : State) (r : Fin 2) (a : Half) (b : Half), s.powered = true ∧
       (¬(rdClass (s.rdRec r) = 1 ∧ (rdThr (s.rdRec r)).cast < s16 a ∧ (rdThr (s.rdRec r)).cast < s16 b) ∨
         s.acc.rd[r].touch = true)) ∧
    (∃ (s : State) (r : Fin 2), s.powered = true ∧ s.acc.rd[r].touch = true ∧ s.acc.rd[r].touchPolls < 8 ∧
       s.accEnabled = true ∧ s.accLocked = false ∧ rdClass (s.rdRec r) ≠ 0) ∧
    (∃ (s : State) (r : Fin 2), s.powered = true ∧ s.acc.rd[r].touch = true ∧ 8 ≤ s.acc.rd[r].touchPolls) ∧
    (∃ (s : State) (r : Fin 2) (a : Half) (b : Half), s.powered = true ∧ s.acc.rd[r].touch = true ∧
       2 * s16 a < (rdThr (s.rdRec r)).cast ∧ 2 * s16 b < (rdThr (s.rdRec r)).cast) ∧
    (∃ (s : State) (r : Fin 2) (a : Half) (b : Half), s.powered = true ∧
       (¬(2 * s16 a < (rdThr (s.rdRec r)).cast ∧ 2 * s16 b < (rdThr (s.rdRec r)).cast))) ∧
    (∃ (s : State) (rq : Requester), s.powered = true ∧ rq ≠ Requester.keeper) ∧
    (∃ (s : State) (r : Fin 2), s.powered = true ∧ s.accEnabled = true ∧ s.accLocked = false ∧
       rdClass (s.rdRec r) = 2) ∧
    (∃ (s : State) (r : Fin 2), s.powered = true ∧ s.acc.rd[r].armed = true ∧ s.tick.phase = Phase.measure ∧
       s.accEnabled = true ∧ s.accLocked = false ∧ s.acc.poll = none ∧ s.pollFirst r = true ∧ s.learnsOther r = false) ∧
    (∃ (s : State) (r : Fin 2), s.powered = true ∧ (s.accLocked = true ∨ s.acc.rd[r].armed = false)) ∧
    (∃ (s : State) (p : Poll), s.powered = true ∧ s.acc.poll = some p ∧ (p.coll = 0 ∨ p.learn = true) ∧
       p.learn = false) ∧
    (∃ (s : State) (k : Fin 16) (c : Word) (at_ : ℕ), s.powered = true ∧ s.acc.tok[k].cand = some (c, at_) ∧
       s.canLog = true) ∧
    (∃ (s : State) (at_ : ℕ), s.acc.lockUntil = some at_ ∧ s.powered = true ∧ s.canLog = true) ∧
    (∃ (s : State) (at_ : ℕ), s.acc.lockUntil = some at_ ∧ s.pwr.mode = PwrMode.rest) ∧
    (∃ (s : State) (r : Fin 2) (c : Fin 4) (n : ℕ), s.powered = true ∧ s.acc.rd[r].sess = some n ∧
       ((match c.val with | 1 => s.doorEdge r | 2 => s.sessDue r | 3 => s.acc.learn.isSome || s.pwr.mode != PwrMode.run | x => false) = true) ∧
       s.canLog = true) ∧
    (∃ (s : State) (r : Fin 2) (c : Fin 4) (n : ℕ), s.powered = true ∧ s.acc.rd[r].sess = some n ∧
       ((match c.val with | 1 => s.doorEdge r | 2 => s.sessDue r | 3 => s.acc.learn.isSome || s.pwr.mode != PwrMode.run | x => false) = false)) ∧
    (∃ (s : State) (rq : Requester), s.powered = true ∧ rq ≠ Requester.keeper) ∧
    (∃ (s : State) (v : Word), s.powered = true ∧ BitVec.toNat v < 64 ∧ bit v 3 = false ∧ field v 4 2 ≠ 0 ∧
       s.accLocked = true) ∧
    (∃ (s : State) (v : Word), s.powered = true ∧ BitVec.toNat v < 64 ∧ bit v 3 = false ∧ field v 4 2 ≠ 0 ∧
       s.accLocked = false ∧ s.acc.learn.isSome = true) ∧
    (∃ (s : State) (v : Word), s.powered = true ∧ BitVec.toNat v < 64 ∧ bit v 3 = false ∧ field v 4 2 ≠ 0 ∧
       s.accEnabled = true ∧ s.accLocked = false ∧ s.acc.learn = none) ∧
    (∃ (s : State) (l : LearnRun), s.powered = true ∧ s.acc.learn = some l ∧ s.tb0 < l.since + 120000000000 ∧
       l.armed = true ∧ s.tick.phase = Phase.measure ∧ s.accEnabled = true ∧ s.acc.poll = none ∧
       rdClass (s.rdRec l.reader) ≠ 0) ∧
    (∃ (s : State) (l : LearnRun), s.powered = true ∧ s.acc.learn = some l ∧ s.tb0 < l.since + 120000000000 ∧
       (l.armed = false ∨ s.tick.phase ≠ Phase.measure ∨ s.accEnabled = false ∨ rdClass (s.rdRec l.reader) = 0)) ∧
    (∃ (s : State) (l : LearnRun), s.powered = true ∧ s.acc.learn = some l ∧ s.canLog = true) ∧
    (∃ (s : State), s.pwr.mode = PwrMode.rest ∧ s.accIn = true) :=
  ⟨
    ⟨readers false, 0, 101, 101, by decide +kernel⟩,
    ⟨readers true, 0, 101, 101, by decide +kernel⟩,
    ⟨readers false, 0, 0, 0, by decide +kernel⟩,
    ⟨modRd 0 (fun x => { x with touch := true, touchPolls := 7 }) (readers false), 0, by decide +kernel⟩,
    ⟨modRd 0 (fun x => { x with touch := true, touchPolls := 8 }) (readers false), 0, by decide +kernel⟩,
    ⟨modRd 0 (fun x => { x with touch := true, touchPolls := 7 }) (readers false), 0, 0, 0, by decide +kernel⟩,
    ⟨readers false, 0, 0, 100, by decide +kernel⟩,
    ⟨readers false, .task, by decide +kernel⟩,
    ⟨readers false, 1, by decide +kernel⟩,
    ⟨modRd 0 (fun x => { x with armed := true }) (readers false), 0, by decide +kernel⟩,
    ⟨readers false, 0, by decide +kernel⟩,
    ⟨{ readers false with acc := { (readers false).acc with poll := some ⟨0, 0, false, 0, 0, false, 0⟩ } },
     ⟨0, 0, false, 0, 0, false, 0⟩, by decide +kernel⟩,
    ⟨{ readers false with
       acc := { State.reset.acc with tok := State.reset.acc.tok.map fun t => { t with cand := some (5, 5) } } }, 0,
     5, 5, by decide +kernel⟩,
    ⟨readers true, 5, by decide +kernel⟩,
    ⟨{ inMode .rest with acc := { State.reset.acc with lockUntil := some 5 } }, 5, by decide +kernel⟩,
    ⟨{ modRd 0 (fun x => { x with sess := some 2 }) (readers false) with
       din := { State.reset.din with
         ch := State.reset.din.ch.set 5 { State.reset.din.ch[5] with
           snap := { State.reset.din.ch[5].snap with edge := true, lastRise := true } } } }, 0, 5, 2,
     by decide +kernel⟩,
    ⟨modRd 0 (fun x => { x with sess := some 0 }) (readers false), 0, 5, 0, by decide +kernel⟩,
    ⟨readers false, .task, by decide +kernel⟩,
    ⟨readers true, 0x10, by decide +kernel⟩,
    ⟨{ readers false with acc := { (readers false).acc with learn := some ⟨0, 1, 0, 0, true⟩ } }, 0x10,
     by decide +kernel⟩,
    ⟨readers false, 0x10, by decide +kernel⟩,
    ⟨{ readers false with acc := { (readers false).acc with learn := some ⟨0, 1, 0, 0, true⟩ } }, ⟨0, 1, 0, 0, true⟩,
     by decide +kernel⟩,
    ⟨{ readers false with acc := { (readers false).acc with learn := some ⟨0, 1, 0, 0, false⟩ } },
     ⟨0, 1, 0, 0, false⟩, by decide +kernel⟩,
    ⟨{ readers false with acc := { (readers false).acc with learn := some ⟨0, 1, 0, 0, true⟩ } }, ⟨0, 1, 0, 0, true⟩,
     by decide +kernel⟩,
    ⟨{ readers false with pwr := { (readers false).pwr with mode := .rest } }, by decide +kernel⟩⟩

theorem test_witness_TokensAreJudged :
    (∃ (s : State) (age : ℕ), s.powered = true ∧ (s.accIn && !s.accKeys) = false ∧
       ((s.acc.ended.bind fun p => p.slotAt (s.tb0.cast - age.cast - s.cfg.tkrLat.cast * 10000)) = none) ∧
       ((s.acc.poll.bind fun p => p.slotAt (s.tb0.cast - age.cast - s.cfg.tkrLat.cast * 10000)) = none)) ∧
    (∃ (s : State) (b : List Byte) (age : ℕ) (p : Poll) (k : Fin 16), s.powered = true ∧
       (s.accIn && !s.accKeys) = false ∧
       ((s.acc.ended.bind fun p => p.slotAt (s.tb0.cast - age.cast - s.cfg.tkrLat.cast * 10000)) = none) ∧
       s.acc.poll = some p ∧ p.slotAt (s.tb0.cast - age.cast - s.cfg.tkrLat.cast * 10000) = some k ∧
       s.acc.write = none ∧ p.learn = false ∧ p.seen.getLsbD k.val = false ∧ (recBad b = true ∨ recStatus b = 1) ∧
       p.coll.getLsbD k.val = false) ∧
    (∃ (s : State) (b : List Byte) (age : ℕ) (p : Poll) (k : Fin 16), s.powered = true ∧
       (s.accIn && !s.accKeys) = false ∧
       ((s.acc.ended.bind fun p => p.slotAt (s.tb0.cast - age.cast - s.cfg.tkrLat.cast * 10000)) = none) ∧
       s.acc.poll = some p ∧ p.slotAt (s.tb0.cast - age.cast - s.cfg.tkrLat.cast * 10000) = some k ∧
       s.acc.write = none ∧ p.learn = false ∧ p.seen.getLsbD k.val = false ∧ recBad b = false ∧ recStatus b ≠ 1 ∧
       s.acc.tok[k].valid = true ∧ recId b = BitVec.toNat s.acc.tok[k].id ∧ recCmd b = 1 ∧ s.macOk b = true ∧
       s.acc.tok[k].cand = none ∧ cntRule s.acc.tok[k].cnt (recCnt b) none ≠ CntRule.failure) ∧
    (∃ (s : State) (b : List Byte) (age : ℕ) (p : Poll) (k : Fin 16), s.powered = true ∧
       (s.accIn && !s.accKeys) = false ∧
       ((s.acc.ended.bind fun p => p.slotAt (s.tb0.cast - age.cast - s.cfg.tkrLat.cast * 10000)) = none) ∧
       s.acc.poll = some p ∧ p.slotAt (s.tb0.cast - age.cast - s.cfg.tkrLat.cast * 10000) = some k ∧
       s.acc.write = none ∧ p.learn = false ∧ p.seen.getLsbD k.val = false ∧ recBad b = false ∧ recStatus b ≠ 1 ∧
       s.acc.tok[k].valid = true ∧ recId b = BitVec.toNat s.acc.tok[k].id ∧ recCmd b = 1 ∧ s.macOk b = true ∧
       s.acc.tok[k].cand = none ∧ cntRule s.acc.tok[k].cnt (recCnt b) none = CntRule.failure) ∧
    (∃ (s : State) (b : List Byte) (age : ℕ) (p : Poll) (k : Fin 16), s.powered = true ∧
       (s.accIn && !s.accKeys) = false ∧
       ((s.acc.ended.bind fun p => p.slotAt (s.tb0.cast - age.cast - s.cfg.tkrLat.cast * 10000)) = none) ∧
       s.acc.poll = some p ∧ p.slotAt (s.tb0.cast - age.cast - s.cfg.tkrLat.cast * 10000) = some k ∧
       s.acc.write = none ∧ p.learn = false ∧ p.seen.getLsbD k.val = false ∧ recBad b = false ∧ recStatus b ≠ 1 ∧
       (¬(s.acc.tok[k].valid = true ∧ recId b = BitVec.toNat s.acc.tok[k].id ∧ recCmd b = 1 ∧ s.macOk b = true))) ∧
    (∃ (s : State) (w : CntWrite) (j : Fin 16), s.powered = true ∧ (s.accIn && !s.accKeys) = false ∧
       s.acc.write = some w ∧ w.kind = CntKind.success ∧ s.key.waiting = none ∧ j ≠ w.slot) ∧
    (∃ (s : State) (w : CntWrite), s.powered = true ∧ (s.accIn && !s.accKeys) = false ∧ s.acc.write = some w ∧
       w.kind = CntKind.success ∧ s.key.waiting = none ∧ s.canLog = true) ∧
    (∃ (last : Word) (cnt : Word) (cand : Option Word), cand = none ∧ 65536 < BitVec.toNat (cnt - last)) ∧
    (∃ (last : Word) (cnt : Word) (cand : Option Word), cntRule last cnt cand = CntRule.success) ∧
    (∃ (last : Word) (cnt : Word) (cand : Option Word), cntRule last cnt cand = CntRule.resync) ∧
    (∃ (cand : Option Word) (c : Word), cand = some c) :=
  ⟨
    ⟨readers false, 0, by decide +kernel⟩,
    ⟨{ readers false with
       time := { State.reset.time with tb := State.reset.time.tb.map fun b => { b with value := 30000000 <<< 32 } }
       acc := { State.reset.acc with poll := some ⟨0, 20000000, false, 0, 0, false, 0⟩ } }, rep 3 0, 0,
     ⟨0, 20000000, false, 0, 0, false, 0⟩, 2, by decide +kernel⟩,
    ⟨tokens, telegram (Config.aes256 tokens.cfg.tokKey) 6, 0, ⟨0, 20000000, false, 0, 0, false, 0⟩, 2,
     ⟨by decide +kernel, by decide +kernel, by decide +kernel, by decide +kernel, by decide +kernel,
       by decide +kernel, by decide +kernel, by decide +kernel, (test_telegram 6 (.inr rfl)).1, (test_telegram 6 (.inr
         rfl)).2.1, by decide +kernel, (test_telegram 6 (.inr rfl)).2.2.1, (test_telegram 6 (.inr rfl)).2.2.2.1,
           (test_telegram 6 (.inr rfl)).2.2.2.2.1, by decide +kernel, test_telegram_next⟩⟩,
    ⟨tokens, telegram (Config.aes256 tokens.cfg.tokKey) 5, 0, ⟨0, 20000000, false, 0, 0, false, 0⟩, 2,
     ⟨by decide +kernel, by decide +kernel, by decide +kernel, by decide +kernel, by decide +kernel,
       by decide +kernel, by decide +kernel, by decide +kernel, (test_telegram 5 (.inl rfl)).1, (test_telegram 5 (.inl
         rfl)).2.1, by decide +kernel, (test_telegram 5 (.inl rfl)).2.2.1, (test_telegram 5 (.inl rfl)).2.2.2.1,
           (test_telegram 5 (.inl rfl)).2.2.2.2.1, by decide +kernel, test_telegram_same⟩⟩,
    ⟨{ readers false with
       time := { State.reset.time with tb := State.reset.time.tb.map fun b => { b with value := 30000000 <<< 32 } }
       acc := { State.reset.acc with poll := some ⟨0, 20000000, false, 0, 0, false, 0⟩ } }, [0xA5, 17] ++ rep 18 0,
     0, ⟨0, 20000000, false, 0, 0, false, 0⟩, 2, by decide +kernel⟩,
    ⟨{ readers false with acc := { (readers false).acc with write := some ⟨0, 0, 5, .success, 0⟩ } },
     ⟨0, 0, 5, .success, 0⟩, 1, by decide +kernel⟩,
    ⟨{ readers false with acc := { (readers false).acc with write := some ⟨0, 0, 5, .success, 0⟩ } },
     ⟨0, 0, 5, .success, 0⟩, by decide +kernel⟩,
    ⟨5, 65542, none, by decide +kernel⟩,
    ⟨5, 6, none, by decide +kernel⟩,
    ⟨5, 262, none, by decide +kernel⟩,
    ⟨some 5, 5, by decide +kernel⟩⟩

theorem test_witness_KeyCommands :
    (∃ (s : State) (rq : Requester) (arg : Word) (h : BitVec 5) (op : ℕ) (c : Instr), s.powered = true ∧
       (op, c) ∈ [(1, Instr.keyWrite rq arg), (2, Instr.keyErase rq arg), (3, Instr.attest rq arg), (4, Instr.cmac rq
         arg), (5, Instr.encrypt rq arg), (6, Instr.decrypt rq arg), (7, Instr.sha256 rq arg), (8, Instr.random rq
           arg), (9, Instr.advance rq arg), (10, Instr.ticket rq arg), (11, Instr.tclear rq arg h)] ∧
       s.keyWriter rq = false) ∧
    (∃ (s : State) (rq : Requester) (arg : Word) (h : BitVec 5) (op : ℕ) (c : Instr), s.powered = true ∧
       (op, c) ∈ [(1, Instr.keyWrite rq arg), (2, Instr.keyErase rq arg), (3, Instr.attest rq arg), (4, Instr.cmac rq
         arg), (5, Instr.encrypt rq arg), (6, Instr.decrypt rq arg), (7, Instr.sha256 rq arg), (8, Instr.random rq
           arg), (9, Instr.advance rq arg), (10, Instr.ticket rq arg), (11, Instr.tclear rq arg h)] ∧
       s.keyWriter rq = true ∧ s.keyBad op arg = true) ∧
    (∃ (s : State) (rq : Requester) (arg : Word) (h : BitVec 5) (op : ℕ) (c : Instr), s.powered = true ∧
       (op, c) ∈ [(1, Instr.keyWrite rq arg), (2, Instr.keyErase rq arg), (3, Instr.attest rq arg), (4, Instr.cmac rq
         arg), (5, Instr.encrypt rq arg), (6, Instr.decrypt rq arg), (7, Instr.sha256 rq arg), (8, Instr.random rq
           arg), (9, Instr.advance rq arg), (10, Instr.ticket rq arg), (11, Instr.tclear rq arg h)] ∧
       s.keyWriter rq = true ∧ s.keyBad op arg = false ∧ s.key.state = KeyState.busy) ∧
    (∃ (s : State) (rq : Requester) (arg : Word) (h : BitVec 5) (op : ℕ) (c : Instr), s.powered = true ∧
       (op, c) ∈ [(1, Instr.keyWrite rq arg), (2, Instr.keyErase rq arg), (3, Instr.attest rq arg), (4, Instr.cmac rq
         arg), (5, Instr.encrypt rq arg), (6, Instr.decrypt rq arg), (7, Instr.sha256 rq arg), (8, Instr.random rq
           arg), (9, Instr.advance rq arg), (10, Instr.ticket rq arg), (11, Instr.tclear rq arg h)] ∧
       s.takesKeyCmd rq op arg = true ∧ s.keyServing = true) ∧
    (∃ (s : State) (rq : Requester) (arg : Word), s.powered = true ∧ s.keyServing = false ∧
       s.takesKeyCmd rq 7 arg = true) ∧
    (∃ (s : State) (rq : Requester) (arg : Word), s.powered = true ∧ s.keyServing = false ∧
       s.takesKeyCmd rq 8 arg = true ∧ s.key.trngFailed = false) ∧
    (∃ (s : State) (rq : Requester) (arg : Word), s.powered = true ∧ s.keyServing = false ∧
       s.takesKeyCmd rq 8 arg = true ∧ s.key.trngFailed = true) ∧
    (∃ (s : State) (rq : Requester) (arg : Word), s.powered = true ∧ s.keyServing = false ∧
       s.takesKeyCmd rq 9 arg = true ∧ BitVec.toNat s.key.arg % 16 ∈ nextStates s.key.lcs ∧
       (s.key.lcs ≠ 4 ∨ s.key.provision = true ∨ s.signedBy (s.endorseMsg 0 0 [BitVec.ofNat 8 (BitVec.toNat s.key.arg
         % 16)]) 64 = true)) ∧
    (∃ (s : State) (rq : Requester) (arg : Word), s.powered = true ∧ s.keyServing = false ∧
       s.takesKeyCmd rq 9 arg = true ∧ BitVec.toNat s.key.arg % 16 ∉ nextStates s.key.lcs) ∧
    (∃ (s : State) (rq : Requester) (arg : Word), s.powered = true ∧ s.keyServing = false ∧
       s.takesKeyCmd rq 10 arg = true ∧ s.key.trngFailed = false ∧
       (¬(bit s.key.arg 0 = true ∧ s.key.lcs = 4 ∧ unsafeMask s.pert.mask = true)) ∧
       s.signedBy (s.ticketMsg (bit s.key.arg 0)) 64 = true) ∧
    (∃ (s : State) (rq : Requester) (arg : Word), s.powered = true ∧ s.keyServing = false ∧
       s.takesKeyCmd rq 10 arg = true ∧ s.key.trngFailed = false ∧
       (¬(bit s.key.arg 0 = true ∧ s.key.lcs = 4 ∧ unsafeMask s.pert.mask = true)) ∧
       s.signedBy (s.ticketMsg (bit s.key.arg 0)) 64 = false) ∧
    (∃ (s : State) (rq : Requester) (arg : Word) (h : BitVec 5), s.powered = true ∧ s.keyServing = false ∧
       s.takesKeyCmd rq 11 arg = true ∧ h ≠ 0) ∧
    (∃ (s : State) (rq : Requester) (arg : Word), s.powered = true ∧ s.keyServing = false ∧
       s.takesKeyCmd rq 3 arg = true ∧ s.slotReason (field arg 8 6) 4 = 0) ∧
    (∃ (s : State) (rq : Requester) (arg : Word), s.powered = true ∧ s.keyServing = false ∧
       s.takesKeyCmd rq 3 arg = true ∧ s.slotReason (field arg 8 6) 4 ≠ 0 ∧ s.canLog = true) ∧
    (∃ (s : State) (rq : Requester) (arg : Word), s.powered = true ∧ s.keyServing = false ∧
       s.takesKeyCmd rq 4 arg = true ∧ s.slotReason (field arg 8 6) 16 = 0) ∧
    (∃ (s : State) (rq : Requester) (arg : Word), s.powered = true ∧ s.keyServing = false ∧
       s.takesKeyCmd rq 4 arg = true ∧ s.slotReason (field arg 8 6) 16 ≠ 0 ∧ s.canLog = true) ∧
    (∃ (s : State) (rq : Requester) (arg : Word), s.powered = true ∧ s.keyServing = false ∧
       s.takesKeyCmd rq 5 arg = true ∧ s.slotReason (field arg 8 6) 16 = 0) ∧
    (∃ (s : State) (rq : Requester) (arg : Word), s.powered = true ∧ s.keyServing = false ∧
       s.takesKeyCmd rq 5 arg = true ∧ s.slotReason (field arg 8 6) 16 ≠ 0 ∧ s.canLog = true) ∧
    (∃ (s : State) (rq : Requester) (arg : Word), s.powered = true ∧ s.keyServing = false ∧
       s.takesKeyCmd rq 6 arg = true ∧ s.slotReason (field arg 8 6) 16 = 0) ∧
    (∃ (s : State) (rq : Requester) (arg : Word), s.powered = true ∧ s.keyServing = false ∧
       s.takesKeyCmd rq 6 arg = true ∧ s.slotReason (field arg 8 6) 16 ≠ 0 ∧ s.canLog = true) :=
  ⟨
    ⟨keys 4 1 0, .tick 0, 0, 0, 7, .sha256 (.tick 0) (0), by decide +kernel⟩,
    ⟨keys 4 1 0, .keeper, 0x100, 0, 7, .sha256 (.keeper) (0x100), by decide +kernel⟩,
    ⟨{ keys 2 4 0 with key := { (keys 2 4 0).key with state := .busy } }, .keeper, 0, 0, 7, .sha256 (.keeper) (0),
     by decide +kernel⟩,
    ⟨{ keys 2 4 0 with acc := { State.reset.acc with write := some ⟨0, 0, 5, .success, 0⟩ } }, .keeper, 0, 0, 7,
     .sha256 (.keeper) (0), by decide +kernel⟩,
    ⟨keys 4 1 0, .keeper, 0, by decide +kernel⟩,
    ⟨keys 2 4 3, .keeper, 0, by decide +kernel⟩,
    ⟨{ keys 2 4 0 with key := { (keys 2 4 0).key with arg := 1, trngFailed := true } }, .keeper, 0,
     by decide +kernel⟩,
    ⟨keys 2 4 3, .keeper, 0, by decide +kernel⟩,
    ⟨keys 4 1 0, .keeper, 0, by decide +kernel⟩,
    ⟨ticketed, .keeper, 0, ⟨rfl, by decide +kernel, by decide +kernel, rfl, by decide +kernel, ticket_signed⟩⟩,
    ⟨keys 4 1 0, .keeper, 0, by decide +kernel⟩,
    ⟨keys 4 1 0, .keeper, 0, 1, by decide +kernel⟩,
    ⟨keys 2 4 0, .keeper, 0, by decide +kernel⟩,
    ⟨keys 4 1 0, .keeper, 0, by decide +kernel⟩,
    ⟨keys 2 16 0, .keeper, 0, by decide +kernel⟩,
    ⟨keys 4 1 0, .keeper, 0, by decide +kernel⟩,
    ⟨keys 2 16 0, .keeper, 0, by decide +kernel⟩,
    ⟨keys 4 1 0, .keeper, 0, by decide +kernel⟩,
    ⟨keys 2 16 0, .keeper, 0, by decide +kernel⟩,
    ⟨keys 4 1 0, .keeper, 0, by decide +kernel⟩⟩

theorem test_witness_KeyStore :
    (∃ (s : State) (rq : Requester) (arg : Word), s.powered = true ∧ s.keyServing = false ∧
       s.takesKeyCmd rq 1 arg = true ∧ oneFlag (field arg 16 5) = true ∧
       s.needsEndorse (field arg 8 6) (field arg 16 5) = false) ∧
    (∃ (s : State) (rq : Requester) (arg : Word), s.powered = true ∧ s.keyServing = false ∧
       s.takesKeyCmd rq 1 arg = true ∧ oneFlag (field arg 16 5) = false) ∧
    (∃ (s : State) (rq : Requester) (arg : Word), s.powered = true ∧ s.keyServing = false ∧
       s.takesKeyCmd rq 2 arg = true ∧ s.needsEndorse (field arg 8 6) 0 = false) ∧
    (∃ (s : State) (rq : Requester) (arg : Word), s.powered = true ∧ s.keyServing = false ∧
       s.takesKeyCmd rq 2 arg = true ∧ s.needsEndorse (field arg 8 6) 0 = true ∧
       s.signedBy (s.endorseMsg (field arg 8 6) 0 (leBytes 32 0)) (field arg 8 6) = false) ∧
    (∃ (s : State) (j : KeyJob), s.powered = true ∧ s.key.job = some j ∧ s.key.waiting = none ∧ j.op = 1 ∧
       j.slot < 64) ∧
    (∃ (s : State) (j : KeyJob), s.powered = true ∧ s.key.job = some j ∧ s.key.waiting = none ∧ j.op = 2 ∧
       j.slot < 64) ∧
    (∃ (s : State) (j : KeyJob) (k : ℕ), s.powered = true ∧ s.key.job = some j ∧ s.key.waiting = none ∧
       (j.op = 1 ∨ j.op = 2 → k ≠ j.slot)) ∧
    (∃ (s : State) (j : KeyJob), s.powered = true ∧ s.key.job = some j ∧ s.key.waiting = none ∧ j.op = 11) ∧
    (∃ (s : State) (src : BitVec 5), src ≠ 0 ∧ s.pwr.mode = PwrMode.run ∧ s.canLog = true) ∧
    (∃ (s : State) (src : BitVec 5), s.pwr.mode = PwrMode.rest ∧ src &&& 23 ≠ 0) ∧
    (∃ (s : State) (src : BitVec 5), s.pwr.mode = PwrMode.rest ∧ src &&& 23 = 0) ∧
    (∃ (s : State) (f : Bool), s.powered = true ∧ s.key.trngFailed ≠ f) :=
  ⟨
    ⟨keys 2 4 0, .keeper, 0x00010000, by decide +kernel⟩,
    ⟨keys 4 1 0, .keeper, 0x00030000, by decide +kernel⟩,
    ⟨keys 2 4 0, .keeper, 0x00010000, by decide +kernel⟩,
    ⟨keys 4 1 0, .keeper, 0x00010000, by decide +kernel⟩,
    ⟨{ keys 2 4 0 with key := { (keys 2 4 0).key with job := some ⟨1, 63, 4, 0, 5, []⟩ } }, ⟨1, 63, 4, 0, 5, []⟩,
     by decide +kernel⟩,
    ⟨{ keys 2 4 0 with key := { (keys 2 4 0).key with job := some ⟨2, 63, 4, 0, 5, []⟩ } }, ⟨2, 63, 4, 0, 5, []⟩,
     by decide +kernel⟩,
    ⟨{ keys 2 4 0 with key := { (keys 2 4 0).key with job := some ⟨1, 63, 4, 0, 5, []⟩ } }, ⟨1, 63, 4, 0, 5, []⟩, 0,
     by decide +kernel⟩,
    ⟨{ keys 2 4 0 with key := { (keys 2 4 0).key with job := some ⟨11, 63, 4, 0, 5, []⟩ } }, ⟨11, 63, 4, 0, 5, []⟩,
     by decide +kernel⟩,
    ⟨keys 4 1 0, 1, by decide +kernel⟩,
    ⟨inMode .rest, 1, by decide +kernel⟩,
    ⟨inMode .rest, 8, by decide +kernel⟩,
    ⟨keys 4 1 0, true, by decide +kernel⟩⟩

theorem test_witness_PowerRequests :
    (∃ (s : State) (rq : Requester), s.powered = true ∧ rq ≠ Requester.keeper) ∧
    (∃ (s : State) (sched : Bool), s.powered = true ∧ s.pwr.req = PwrReq.none ∧
       (sched = true → s.envOpened (BitVec.toNat s.pwr.at_) = false)) ∧
    (∃ (s : State) (sched : Bool), s.powered = true ∧
       (s.pwr.req ≠ PwrReq.none ∨ sched = true ∧ s.envOpened (BitVec.toNat s.pwr.at_) = true) ∧ s.canLog = true) ∧
    (∃ (s : State) (v : Fin 4), s.powered = true ∧ s.pwr.req = PwrReq.none ∧ s.cfg.minOp ≤ v.val) ∧
    (∃ (s : State) (v : Fin 4), s.powered = true ∧ s.pwr.req = PwrReq.none ∧ v.val < s.cfg.minOp) ∧
    (∃ (s : State), s.powered = true ∧ s.pwr.req ≠ PwrReq.none) ∧
    (∃ (s : State), s.powered = true ∧ s.pwr.req = PwrReq.op s.pwr.opCur ∧ s.canLog = true) ∧
    (∃ (s : State) (v : Fin 4), s.powered = true ∧ s.pwr.req = PwrReq.op v ∧ v ≠ s.pwr.opCur) :=
  ⟨
    ⟨ticking .core, .task, by decide +kernel⟩,
    ⟨ticking .core, false, by decide +kernel⟩,
    ⟨ticking .core, true, by decide +kernel⟩,
    ⟨ticking .core, 0, by decide +kernel⟩,
    ⟨{ ticking .core with cfg := { Image.empty with minOp := 2 } }, 0, by decide +kernel⟩,
    ⟨{ ticking .core with pwr := { (ticking .core).pwr with req := .off none } }, by decide +kernel⟩,
    ⟨{ ticking .core with pwr := { (ticking .core).pwr with req := .op 3 } }, by decide +kernel⟩,
    ⟨{ ticking .core with pwr := { (ticking .core).pwr with req := .op 2 } }, 2, by decide +kernel⟩⟩

theorem test_witness_RestIsEnteredAndLeft :
    (∃ (s : State) (sources : Half) (pins : BitVec 4), s.pwr.req.isRest = true ∧ s.powered = true ∧
       (s.wakeRequests sources pins = 0 ∨ s.entryWindow = true)) ∧
    (∃ (s : State) (sources : Half) (pins : BitVec 4), s.pwr.req.isRest = true ∧ s.wakeRequests sources pins ≠ 0 ∧
       s.entryWindow = false ∧
       (s.pwr.mode = PwrMode.run ∧ s.cancelLate = false ∨ (s.pwr.mode = PwrMode.run ∨ s.pwr.mode = PwrMode.entry) ∧
         BitVec.getLsbD (s.wakeRequests sources pins) 8 = true)) ∧
    (∃ (s : State) (sources : Half) (pins : BitVec 4), s.pwr.req.isRest = true ∧ s.wakeRequests sources pins ≠ 0 ∧
       BitVec.getLsbD (s.wakeRequests sources pins) 8 = false ∧ s.entryWindow = false ∧
       (s.pwr.mode = PwrMode.entry ∨ s.pwr.mode = PwrMode.run ∧ s.cancelLate = true)) ∧
    (∃ (s : State) (src : BitVec 5), s.pwr.req.isRest = true ∧ s.pwr.mode = PwrMode.entry ∧ src ≠ 0 ∧
       s.entryWindow = false) ∧
    (∃ (s : State) (src : BitVec 5), s.pwr.req.isRest = true ∧ s.pwr.mode = PwrMode.entry ∧ src ≠ 0 ∧
       s.entryWindow = true) ∧
    (∃ (s : State), s.pwr.mode = PwrMode.run ∧ s.tick.phase = Phase.measure ∧ s.entryDue = true) ∧
    (∃ (s : State), s.pwr.mode = PwrMode.entry ∧ s.tally.unarch = 0 ∧ s.pwr.offEntry = true) ∧
    (∃ (s : State), s.pwr.mode = PwrMode.entry ∧ s.tally.unarch = 0 ∧ s.pwr.offEntry = false) ∧
    (∃ (s : State), s.pwr.mode = PwrMode.entry ∧ s.tally.unarch ≠ 0) ∧
    (∃ (s : State) (sources : Half) (pins : BitVec 4), s.pwr.mode = PwrMode.rest ∧ s.wakeCauses sources pins = 0) ∧
    (∃ (s : State) (sources : Half) (pins : BitVec 4), s.pwr.mode = PwrMode.rest ∧ s.wakeCauses sources pins ≠ 0) ∧
    (∃ (s : State), s.pwr.mode = PwrMode.wake ∧ s.pwr.regRetry = false ∧ s.canLog = true) ∧
    (∃ (s : State), s.pwr.mode = PwrMode.wake ∧ s.pwr.degraded = false ∧ s.canLog = true) :=
  ⟨
    ⟨{ ticking .core with
       pwr := { (ticking .core).pwr with req := .rest none false false, wakeCfg := 0xFFFF, entryTick := 1000 } }, 0,
     0, by decide +kernel⟩,
    ⟨{ ticking .core with
       pwr := { (ticking .core).pwr with req := .rest none false false, wakeCfg := 0xFFFF, entryTick := 1000 } }, 0,
     1, by decide +kernel⟩,
    ⟨{ ticking .envelope with
       pwr := { (ticking .envelope).pwr with req := .rest none false false, wakeCfg := 0xFFFF, entryTick := 1000 } },
     0, 1, by decide +kernel⟩,
    ⟨{ inMode .entry with pwr := { (inMode .entry).pwr with req := .rest none false false, entryAt := 0 } }, 1,
     by decide +kernel⟩,
    ⟨{ { inMode .entry with pwr := { (inMode .entry).pwr with req := .rest none false false, entryAt := 0 } } with
       time := { State.reset.time with tb := State.reset.time.tb.map fun b => { b with value := 30000000 <<< 32 } } },
     1, by decide +kernel⟩,
    ⟨{ ticking .measure with
       pwr := { (ticking .measure).pwr with req := .rest none false false, wakeCfg := 0xFFFF, entryTick := 1000 } },
     by decide +kernel⟩,
    ⟨{ ticking .off with pwr := { (ticking .off).pwr with mode := .entry, offEntry := true } }, by decide +kernel⟩,
    ⟨{ ticking .off with pwr := { (ticking .off).pwr with mode := .entry, offEntry := false } }, by decide +kernel⟩,
    ⟨{ inMode .entry with tally := { State.reset.tally with journal := [⟨default, false⟩] } }, by decide +kernel⟩,
    ⟨inMode .rest, 0, 0, by decide +kernel⟩,
    ⟨{ inMode .rest with pwr := { (inMode .rest).pwr with wakeCfg := 0xFFFF } }, 0, 1, by decide +kernel⟩,
    ⟨inMode .wake, by decide +kernel⟩,
    ⟨inMode .wake, by decide +kernel⟩⟩

theorem test_witness_SupplyAndStart :
    (∃ (s : State), s.pwr.vblLow = true ∧ s.pwr.mode ≠ PwrMode.off ∧ s.pwr.mode ≠ PwrMode.rest) ∧
    (∃ (s : State) (vbl : Half), s.powered = true ∧ BitVec.toNat vbl ≤ 1330 ∧ s.pwr.vblLow = false ∧ vbl ≠ 0) ∧
    (∃ (s : State) (vbl : Half), s.powered = true ∧ BitVec.toNat vbl ≤ 1330 ∧ s.pwr.vblLow = false ∧ vbl = 0 ∧
       s.pwr.noVbl = false) ∧
    (∃ (s : State) (vbl : Half), s.powered = true ∧ 1400 < BitVec.toNat vbl ∧ s.pwr.vblLow = true ∧
       s.tb0 < s.pwr.vblAt + 10000000) ∧
    (∃ (s : State), s.powered = true ∧ s.pwr.vblLow = true ∧ s.pwr.vblAt + 10000000 ≤ s.tb0) ∧
    (∃ (s : State) (vbl : Half), s.powered = true ∧ 1330 < BitVec.toNat vbl ∧ s.pwr.noVbl = false ∧
       (s.pwr.vblLow = false ∨ BitVec.toNat vbl ≤ 1400 ∧ s.tb0 < s.pwr.vblAt + 10000000)) ∧
    (∃ (s : State) (pins : BitVec 4) (vbl : Half), s.pwr.mode = PwrMode.off ∧ s.leavesOff pins vbl = true) ∧
    (∃ (s : State) (pins : BitVec 4) (vbl : Half), s.pwr.mode = PwrMode.off ∧ s.leavesOff pins vbl = false) ∧
    (∃ (s : State), s.pwr.starting = true ∧ s.pwr.mode ≠ PwrMode.off ∧ s.tick.phase = Phase.off) ∧
    (∃ (s : State), s.pwr.mode ≠ PwrMode.off ∧ s.pwr.starting = false) :=
  ⟨
    ⟨{ ticking .core with pwr := { (ticking .core).pwr with vblLow := true } }, by decide +kernel⟩,
    ⟨ticking .core, 1330, by decide +kernel⟩,
    ⟨ticking .core, 0, by decide +kernel⟩,
    ⟨{ ticking .core with pwr := { (ticking .core).pwr with vblLow := true } }, 1401, by decide +kernel⟩,
    ⟨{ { ticking .core with pwr := { (ticking .core).pwr with vblLow := true, vblAt := 5 } } with
       time := { State.reset.time with tb := State.reset.time.tb.map fun b => { b with value := 30000000 <<< 32 } } },
     by decide +kernel⟩,
    ⟨ticking .core, 1331, by decide +kernel⟩,
    ⟨{ inMode .off with pwr := { (inMode .off).pwr with vblLow := true } }, 0, 1441, by decide +kernel⟩,
    ⟨inMode .off, 0, 1330, by decide +kernel⟩,
    ⟨State.reset, by decide +kernel⟩,
    ⟨ticking .core, by decide +kernel⟩⟩

theorem test_witness_NetworkSleep :
    (∃ (s : State), s.powered = true ∧ s.fab.state = FabState.member ∧ s.pwr.nsEnable = true ∧
       s.pwr.voteAt + 64 ≤ s.tick.executed) ∧
    (∃ (s : State), s.powered = true ∧ s.fab.state ≠ FabState.member) ∧
    (∃ (s : State) (f : List Byte) (k : Fin 65), s.powered = true ∧ s.takesFrame 12 f = true ∧
       sleepOk 1 (frPayload f) = true ∧ frSrc f ≤ 64 ∧ s.bellwether = true ∧ k.val ≠ frSrc f) ∧
    (∃ (s : State) (f : List Byte), s.powered = true ∧ s.takesFrame 12 f = true ∧ sleepOk 1 (frPayload f) = true ∧
       frSrc f ≤ 64 ∧ s.bellwether = false) ∧
    (∃ (s : State) (pos : Fin 65) (a : Bool) (at_ : ℕ), s.powered = true ∧ s.bellwether = true ∧ pos ≠ 0 ∧
       pos.val ≠ s.fab.pos ∧ s.pwr.votes[pos] = some (a, at_) ∧ at_ + 256 ≤ s.tick.executed) ∧
    (∃ (s : State), s.powered = true ∧ s.mayCommand = true ∧
       s.envOpened (BitVec.toNat (s.tick.count + BitVec.ofNat 64 s.pwr.lead) - 1) = false) ∧
    (∃ (s : State), s.powered = true ∧ s.mayCommand = false) ∧
    (∃ (s : State) (f : List Byte), s.powered = true ∧ s.takesFrame 12 f = true ∧ sleepOk 2 (frPayload f) = true ∧
       s.fab.state = FabState.member ∧ s.pwr.nsEnable = true ∧ s.fab.bw ≠ 0 ∧ frSrc f = s.fab.bw ∧
       s.pwr.nsState = 0 ∧ s.pwr.sawC = none ∧ s.pwr.req = PwrReq.none ∧
       s.envOpened (BitVec.toNat (s.tickNear (BitVec.ofNat 32 (leAt (frPayload f) 4 4))) - 1) = false) ∧
    (∃ (s : State) (f : List Byte), s.powered = true ∧ s.takesFrame 12 f = true ∧ sleepOk 2 (frPayload f) = true ∧
       s.fab.state = FabState.member ∧ s.pwr.nsEnable = true ∧ s.fab.bw ≠ 0 ∧ frSrc f = s.fab.bw ∧
       s.pwr.nsState = 0 ∧ s.pwr.sawC = none ∧
       (s.pwr.req ≠ PwrReq.none ∨ s.envOpened (BitVec.toNat (s.tickNear (BitVec.ofNat 32 (leAt (frPayload f) 4 4))) -
         1) = true)) ∧
    (∃ (s : State) (f : List Byte), s.powered = true ∧ s.takesFrame 12 f = true ∧ frSrc f ≠ s.fab.bw) ∧
    (∃ (s : State) (f : List Byte), s.powered = true ∧ s.takesFrame 12 f = true ∧ sleepOk 3 (frPayload f) = true ∧
       s.pwr.req.isNet = true ∧ s.pwr.mode = PwrMode.run ∧ s.pwr.nsC = BitVec.ofNat 32 (leAt (frPayload f) 4 4) ∧
       s.envOpened (BitVec.toNat (s.tickNear s.pwr.nsC)) = false) ∧
    (∃ (s : State) (c : Word), s.powered = true ∧ s.pwr.sawC = some c ∧
       s.envOpened (BitVec.toNat (s.tickNear c) - 1) = true) ∧
    (∃ (s : State) (rq : Requester), s.powered = true ∧ rq ≠ Requester.keeper) ∧
    (∃ (s : State) (v : Word), s.powered = true ∧ 8 ≤ BitVec.toNat v) ∧
    (∃ (s : State) (v : Word), s.powered = true ∧ BitVec.toNat v < 8 ∧ s.pwr.nsAwake = bit v 1) ∧
    (∃ (s : State) (v : Word), s.powered = true ∧ BitVec.toNat v < 8 ∧ s.pwr.nsAwake ≠ bit v 1) ∧
    (∃ (s : State), s.powered = true ∧ s.pwr.woke = true ∧ s.pwr.mode = PwrMode.run ∧ s.quiet = true ∧
       s.tick.phase ≠ Phase.off) ∧
    (∃ (s : State), s.powered = true ∧ s.quiet = false) :=
  ⟨
    ⟨{ member 1 with pwr := { (member 1).pwr with nsEnable := true } }, by decide +kernel⟩,
    ⟨ticking .core, by decide +kernel⟩,
    ⟨member 2, frame 3 12 [1, 0, 0, 0, 0, 0, 0, 0], 0, by decide +kernel⟩,
    ⟨member 1, frame 3 12 [1, 0, 0, 0, 0, 0, 0, 0], by decide +kernel⟩,
    ⟨{ member 2 with
       pwr := { (member 2).pwr with nsEnable := true, votes := State.reset.pwr.votes.set 3 (some (false, 5)) } }, 3,
     false, 5, by decide +kernel⟩,
    ⟨{ member 2 with pwr := { (member 2).pwr with nsEnable := true, nsKeyOn := false } }, by decide +kernel⟩,
    ⟨ticking .core, by decide +kernel⟩,
    ⟨{ member 1 with pwr := { (member 1).pwr with nsEnable := true } }, frame 1 12 [2, 0, 0, 0, 40, 4, 0, 0],
     by decide +kernel⟩,
    ⟨{ member 1 with pwr := { (member 1).pwr with nsEnable := true, req := .op 3 } },
     frame 1 12 [2, 0, 0, 0, 40, 4, 0, 0], by decide +kernel⟩,
    ⟨member 1, frame 3 12 [1, 0, 0, 0, 0, 0, 0, 0], by decide +kernel⟩,
    ⟨{ member 1 with pwr := { (member 1).pwr with nsC := 1064, req := .rest (some 1064) true false } },
     frame 1 12 [3, 0, 0, 0, 40, 4, 0, 0], by decide +kernel⟩,
    ⟨{ member 1 with pwr := { (member 1).pwr with sawC := some 990 } }, 990, by decide +kernel⟩,
    ⟨ticking .core, .task, by decide +kernel⟩,
    ⟨ticking .core, 8, by decide +kernel⟩,
    ⟨ticking .core, 0, by decide +kernel⟩,
    ⟨ticking .core, 2, by decide +kernel⟩,
    ⟨{ ticking .core with pwr := { (ticking .core).pwr with woke := true } }, by decide +kernel⟩,
    ⟨member 1, by decide +kernel⟩⟩

theorem test_witness_UpdateStates :
    (∃ (s : State) (rq : Requester) (c : Instr), s.powered = true ∧ rq ≠ Requester.keeper ∧
       (c ∈ [Instr.begin rq, Instr.verify rq, Instr.schedule rq, Instr.updCancel rq, Instr.confirm rq, Instr.migfail
         rq, Instr.actsend rq])) ∧
    (∃ (s : State), s.powered = true ∧ s.upd.state ≠ UpdState.idle ∧ s.upd.state ≠ UpdState.confirmed ∧
       s.upd.state ≠ UpdState.fallback ∧ (s.upd.state ≠ UpdState.verified)) ∧
    (∃ (s : State), s.powered = true ∧ s.upd.state ≠ UpdState.loading) ∧
    (∃ (s : State), s.powered = true ∧ s.upd.state ≠ UpdState.scheduled) ∧
    (∃ (s : State), s.powered = true ∧ s.upd.state ≠ UpdState.trial) ∧
    (∃ (s : State), s.powered = true ∧
       (s.upd.state = UpdState.idle ∨ s.upd.state = UpdState.confirmed ∨ s.upd.state = UpdState.fallback ∨ s.upd.state
         = UpdState.verified) ∧
       s.canLog = true) ∧
    (∃ (s : State), s.powered = true ∧ s.upd.state = UpdState.loading ∧ (s.pairReason !s.upd.boot.act) ≠ 0) ∧
    (∃ (s : State), s.powered = true ∧ (s.upd.verifying = some 0) ∧ s.strct.shadow = Shadow.ready) ∧
    (∃ (s : State) (r : ℕ), s.powered = true ∧ (s.upd.verifying = some r) ∧ r ≠ 0) ∧
    (∃ (s : State), s.powered = true ∧ (s.upd.verifying = none)) ∧
    (∃ (s : State) (f : List Byte), s.powered = true ∧ s.takesFrame 13 f = true ∧
       (s.upd.state ≠ UpdState.loading ∨ s.upd.rxen = false ∨ frSrc f ≠ s.fab.bw ∨ s.fab.bw = 0)) ∧
    (∃ (s : State) (f : List Byte), s.powered = true ∧ s.takesFrame 13 f = true ∧ leAt f 16 1 = 1 ∧
       s.upd.state = UpdState.loading ∧ s.upd.rxen = true ∧ s.fab.bw ≠ 0 ∧ frSrc f = s.fab.bw ∧ s.upd.rx = none ∧
       dataBad (frPayload f) = true) ∧
    (∃ (s : State) (f : List Byte), s.powered = true ∧ s.takesFrame 13 f = true ∧ leAt f 16 1 = 1 ∧
       s.upd.state = UpdState.loading ∧ s.upd.rxen = true ∧ s.fab.bw ≠ 0 ∧ frSrc f = s.fab.bw ∧ s.upd.rx = none ∧
       dataBad (frPayload f) = false ∧ leAt (frPayload f) 4 4 + (List.drop 16 (frPayload f)).length ≤ 24) ∧
    (∃ (s : State), s.powered = true ∧ (s.upd.state = UpdState.loading ∨ s.upd.state = UpdState.verified) ∧
       s.fab.state = FabState.member ∧ s.upd.statusAt + 64 ≤ s.tick.executed) ∧
    (∃ (s : State), s.powered = true ∧ s.tick.executed < s.upd.statusAt + 64) :=
  ⟨
    ⟨ticking .core, .task, .verify .task, by decide +kernel⟩,
    ⟨{ ticking .core with upd := { State.reset.upd with state := .loading } }, by decide +kernel⟩,
    ⟨ticking .core, by decide +kernel⟩,
    ⟨ticking .core, by decide +kernel⟩,
    ⟨ticking .core, by decide +kernel⟩,
    ⟨ticking .core, by decide +kernel⟩,
    ⟨{ ticking .core with upd := { State.reset.upd with state := .loading } }, by decide +kernel⟩,
    ⟨{ ticking .core with
       upd := { State.reset.upd with verifying := some 0 }
       strct := { (ticking .core).strct with shadow := .ready } }, by decide +kernel⟩,
    ⟨{ ticking .core with upd := { State.reset.upd with verifying := some 5 } }, 5, by decide +kernel⟩,
    ⟨ticking .core, by decide +kernel⟩,
    ⟨member 1, frame 1 13 ([1] ++ rep 23 9), by decide +kernel⟩,
    ⟨{ member 1 with upd := { State.reset.upd with state := .loading, rxen := true } }, frame 1 13 ([1] ++ rep 23 9),
     by decide +kernel⟩,
    ⟨{ member 1 with upd := { State.reset.upd with state := .loading, rxen := true } },
     frame 1 13 ([1, 0, 8, 0, 0, 0, 0, 0, 5] ++ rep 7 0 ++ rep 8 9), by decide +kernel⟩,
    ⟨{ member 1 with upd := { State.reset.upd with state := .loading } }, by decide +kernel⟩,
    ⟨{ ticking .core with upd := { State.reset.upd with statusAt := 1000 } }, by decide +kernel⟩⟩

theorem test_witness_ActivationAndTrial :
    (∃ (s : State) (g : Image), s.powered = true ∧ s.strct.shImage = some g ∧ s.strct.shadow = Shadow.ready ∧
       (s.upd.state = UpdState.verified) ∧ (needsRestart s.cfg g = false ∨ s.upd.allowRst = true) ∧
       s.envOpened (s.swapTarget s.upd.actAt - 1) = false ∧ s.bellwether = true) ∧
    (∃ (s : State) (g : Image) (f : List Byte), s.powered = true ∧ s.strct.shImage = some g ∧
       s.strct.shadow = Shadow.ready ∧ (s.upd.state = UpdState.verified) ∧
       (needsRestart s.cfg g = false ∨ s.upd.allowRst = true) ∧ s.takesFrame 13 f = true ∧
       activateOk (frPayload f) = true ∧ s.fab.bw ≠ 0 ∧ frSrc f = s.fab.bw ∧ s.authOn = true ∧
       leAt (frPayload f) 8 4 = BitVec.toNat s.upd.serial ∧
       s.envOpened (s.swapTarget (BitVec.ofNat 64 (leAt (frPayload f) 16 8)) - 1) = false) ∧
    (∃ (s : State) (g : Image) (f : List Byte), s.powered = true ∧ s.strct.shImage = some g ∧
       s.strct.shadow = Shadow.ready ∧ (s.upd.state = UpdState.verified) ∧
       (needsRestart s.cfg g = false ∨ s.upd.allowRst = true) ∧ s.takesFrame 13 f = true ∧ frSrc f ≠ s.fab.bw) ∧
    (∃ (s : State), s.powered = true ∧ s.upd.state = UpdState.scheduled ∧
       s.envOpened (BitVec.toNat s.upd.armed - 1) = false ∧ s.strct.shadow = Shadow.scheduled) ∧
    (∃ (s : State), s.powered = true ∧ s.upd.state = UpdState.scheduled ∧
       s.envOpened (BitVec.toNat s.upd.armed - 1) = true) ∧
    (∃ (s : State), s.powered = true ∧ s.upd.state = UpdState.trial ∧ s.upd.migFail = false ∧
       s.envOpenedExec (s.upd.fAt - 1) = false) ∧
    (∃ (s : State), s.powered = true ∧ s.recordDue = true ∧ s.upd.state = UpdState.scheduled ∧
       s.upd.restart = false ∧ s.tick.phase = Phase.guard) ∧
    (∃ (s : State), s.powered = true ∧ s.recordDue = false) ∧
    (∃ (s : State), s.powered = true ∧ s.activationDue = true ∧ s.upd.state = UpdState.scheduled ∧
       s.core.halted = false) ∧
    (∃ (s : State), s.powered = true ∧ s.activationDue = true ∧ s.upd.state = UpdState.trial) ∧
    (∃ (s : State), s.powered = true ∧ s.activationDue = false) :=
  ⟨
    ⟨{ member 2 with
       strct := { (ticking .core).strct with shadow := .ready, shImage := some Image.empty }
       upd := { State.reset.upd with state := .verified, allowRst := true, actAt := 1002 } }, Image.empty,
     by decide +kernel⟩,
    ⟨{ authMember with
       strct := { (ticking .core).strct with shadow := .ready, shImage := some Image.empty }
       upd := { State.reset.upd with state := .verified, allowRst := true, actAt := 1002 } }, Image.empty,
     tagged 13 ([2] ++ rep 23 0),
     ⟨by decide +kernel, rfl, rfl, rfl, .inr rfl, act_taken, by decide +kernel, by decide +kernel, by decide +kernel,
       by decide +kernel, by decide +kernel, by decide +kernel⟩⟩,
    ⟨{ member 1 with
       strct := { (ticking .core).strct with shadow := .ready, shImage := some Image.empty }
       upd := { State.reset.upd with state := .verified, allowRst := true, actAt := 1002 } }, Image.empty,
     frame 3 13 ([2] ++ rep 23 0), by decide +kernel⟩,
    ⟨{ update .core .scheduled false with strct := { (ticking .core).strct with shadow := .scheduled } },
     by decide +kernel⟩,
    ⟨update .envelope .scheduled false, by decide +kernel⟩,
    ⟨{ ticking .core with upd := { State.reset.upd with state := .trial, fAt := 2000 } }, by decide +kernel⟩,
    ⟨update .guard .scheduled false, by decide +kernel⟩,
    ⟨{ member 1 with
       strct := { (ticking .core).strct with shadow := .ready, shImage := some Image.empty }
       upd := { State.reset.upd with state := .verified, allowRst := true, actAt := 1002 } }, by decide +kernel⟩,
    ⟨{ ticking .begun with upd := { State.reset.upd with state := .scheduled, armed := 1000, written := true } },
     by decide +kernel⟩,
    ⟨{ ticking .begun with upd := { State.reset.upd with state := .trial, fAt := 1000, written := true } },
     by decide +kernel⟩,
    ⟨{ member 1 with
       strct := { (ticking .core).strct with shadow := .ready, shImage := some Image.empty }
       upd := { State.reset.upd with state := .verified, allowRst := true, actAt := 1002 } }, by decide +kernel⟩⟩

theorem test_witness_TickProgramsAndPerturbation :
    (∃ (s : State) (k : Fin 4), s.powered = true ∧ s.pert.bistFail.getLsbD (k.val + 1) = false) ∧
    (∃ (s : State) (k : Fin 4) (a : ℕ), s.powered = true ∧ s.upd.tpStat[k] = 1 ∧
       ((match s.proofImage with | some g => decide (sha256 (ramGet (progKey (k.val + 1) 0) (min 131072 (s.tickProgram k.val).length) s) = g.proof[k].digest) | none => decide (sha256 (ramGet (progKey (k.val + 1) 0) (min 131072 (s.tickProgram k.val).length) s) = [])) = true) ∧
       localKey (k.val + 1) 8388608 ≤ a ∧ a < localKey (k.val + 1) 8388608 + 65536) ∧
    (∃ (s : State) (k : Fin 4), s.powered = true ∧ s.upd.tpStat[k] = 1 ∧
       ((match s.proofImage with | some g => decide (sha256 (ramGet (progKey (k.val + 1) 0) (min 131072 (s.tickProgram k.val).length) s) = g.proof[k].digest) | none => decide (sha256 (ramGet (progKey (k.val + 1) 0) (min 131072 (s.tickProgram k.val).length) s) = [])) = false)) ∧
    (∃ (s : State) (k : Fin 4), s.powered = true ∧ s.upd.tpStat[k] ≠ 1) ∧
    (∃ (s : State) (rq : Requester), s.powered = true ∧ rq ≠ Requester.keeper ∧ rq ≠ Requester.service) ∧
    (∃ (s : State) (rq : Requester) (v : Word), s.powered = true ∧ (rq = Requester.keeper ∨ rq = Requester.service) ∧
       128 ≤ BitVec.toNat v) ∧
    (∃ (s : State) (rq : Requester) (v : Word), s.powered = true ∧ (rq = Requester.keeper ∨ rq = Requester.service) ∧
       (decide (1024 ≤ BitVec.toNat v) || bit v 6 || bit v 7 || decide (38 < field v 0 6) || bit v 8 && decide (37 <
         field v 0 6) || bit v 9 && !inBanks (BitVec.toNat s.pert.memaddr)) = true) ∧
    (∃ (s : State) (rq : Requester) (v : Word) (k : ℕ), s.powered = true ∧
       (rq = Requester.keeper ∨ rq = Requester.service) ∧ BitVec.toNat v < 128 ∧
       deniedKind s ({ s.pert with enable := v.setWidth 7 }) = some k) ∧
    (∃ (s : State) (rq : Requester) (v : Word), s.powered = true ∧ (rq = Requester.keeper ∨ rq = Requester.service) ∧
       BitVec.toNat v < 128 ∧ deniedKind s ({ s.pert with enable := v.setWidth 7 }) = none) ∧
    (∃ (s : State) (rq : Requester) (v : Word) (k : ℕ), s.powered = true ∧
       (rq = Requester.keeper ∨ rq = Requester.service) ∧ BitVec.toNat v < 1024 ∧ bit v 6 = false ∧ bit v 7 = false ∧
       field v 0 6 ≤ 37 ∧ bit v 9 = false ∧
       deniedKind s (({ s.pert with memctl := v &&& 0x1FF#32 }).counting 6) = some k) ∧
    (∃ (s : State) (rq : Requester) (v : Word), s.powered = true ∧ (rq = Requester.keeper ∨ rq = Requester.service) ∧
       BitVec.toNat v < 1024 ∧ bit v 6 = false ∧ bit v 7 = false ∧ field v 0 6 ≤ 37 ∧ bit v 9 = true ∧
       inBanks (BitVec.toNat s.pert.memaddr) = true ∧
       deniedKind s (({ s.pert with memctl := v &&& 0x1FF#32 }).counting 6) = none ∧ s.pert.live.getLsbD 6 = true) ∧
    (∃ (s : State) (rq : Requester) (v : Word), s.powered = true ∧ (rq = Requester.keeper ∨ rq = Requester.service) ∧
       BitVec.toNat v < 1024 ∧ bit v 6 = false ∧ bit v 7 = false ∧ field v 0 6 ≤ 37 ∧ bit v 9 = false ∧
       deniedKind s (({ s.pert with memctl := v &&& 0x1FF#32 }).counting 6) = none) :=
  ⟨
    ⟨ticking .core, 0, by decide +kernel⟩,
    ⟨{ { ticking .core with upd := { State.reset.upd with tpStat := Vector.replicate 4 1 } } with
       cfg := { Image.empty with proof := Image.empty.proof.map fun p => { p with digest := sha256 [] } } }, 0,
     localKey 1 0x800000, by decide +kernel⟩,
    ⟨{ ticking .core with upd := { State.reset.upd with tpStat := Vector.replicate 4 1 } }, 0, by decide +kernel⟩,
    ⟨ticking .core, 0, by decide +kernel⟩,
    ⟨ticking .core, .task, by decide +kernel⟩,
    ⟨ticking .core, .keeper, 128, by decide +kernel⟩,
    ⟨ticking .core, .keeper, 128, by decide +kernel⟩,
    ⟨ticking .core, .keeper, 1, 0, by decide +kernel⟩,
    ⟨ticking .core, .keeper, 0, by decide +kernel⟩,
    ⟨ticking .core, .keeper, 1, 6, by decide +kernel⟩,
    ⟨pert 2, .keeper, 0x201, by decide +kernel⟩,
    ⟨pert 2, .keeper, 1, by decide +kernel⟩⟩

theorem test_witness_ResetsAndServicePort :
    (∃ (s : State) (rq : Requester), s.powered = true ∧ (rq = Requester.keeper ∨ rq = Requester.service)) ∧
    (∃ (s : State) (rq : Requester) (v : Word), s.powered = true ∧
       (v ≠ 0 ∧ v ≠ 23041 ∨ rq ≠ Requester.keeper ∧ rq ≠ Requester.service)) ∧
    (∃ (s : State), s.powered = true ∧ s.tick.phase = Phase.measure ∧ s.sys.resetPending = true) ∧
    (∃ (s : State), s.powered = true ∧ s.resetDue = false) ∧
    (∃ (s : State), s.powered = true ∧ s.debugOpen = true) ∧
    (∃ (s : State), s.powered = true ∧ s.debugOpen = false) ∧
    (∃ (s : State) (bs : List Byte), s.powered = true ∧ bs.length < 9) ∧
    (∃ (s : State) (a : Word), s.powered = true ∧ BitVec.toNat a % 4 = 0) ∧
    (∃ (s : State) (b : Byte), s.powered = true ∧ b ≠ 2 ∧ b ≠ 11) ∧
    (∃ (s : State) (rq : Requester) (b : Block) (v : Word), s.powered = true ∧ rq ≠ Requester.fabric ∧
       b.writer rq = true ∧ BitVec.toNat v < 2 ^ b.irqBits ∧ (s.head b).irq &&& v ≠ 0) ∧
    (∃ (s : State) (rq : Requester) (b : Block) (v : Word) (c : Block), s.powered = true ∧ rq ≠ Requester.fabric ∧
       b.writer rq = true ∧ BitVec.toNat v < 2 ^ b.irqBits ∧ c.idx ≠ b.idx) :=
  ⟨
    ⟨{ ticking .measure with sys := { State.reset.sys with resetPending := true } }, .keeper, by decide +kernel⟩,
    ⟨{ ticking .measure with sys := { State.reset.sys with resetPending := true } }, .keeper, 1, by decide +kernel⟩,
    ⟨{ ticking .measure with sys := { State.reset.sys with resetPending := true } }, by decide +kernel⟩,
    ⟨ticking .core, by decide +kernel⟩,
    ⟨{ ticking .measure with sys := { State.reset.sys with resetPending := true } }, by decide +kernel⟩,
    ⟨keys 4 4 0, by decide +kernel⟩,
    ⟨{ ticking .measure with sys := { State.reset.sys with resetPending := true } }, [2, 0x20, 0, 0],
     by decide +kernel⟩,
    ⟨{ ticking .measure with sys := { State.reset.sys with resetPending := true } }, 0x20000010, by decide +kernel⟩,
    ⟨{ ticking .measure with sys := { State.reset.sys with resetPending := true } }, 0, by decide +kernel⟩,
    ⟨{ ticking .core with heads := State.reset.heads.map fun _ => ⟨1, 0, 0, CycNote.start (0, 0, 0)⟩ }, .keeper,
     .sys, 1, by decide +kernel⟩,
    ⟨{ ticking .measure with sys := { State.reset.sys with resetPending := true } }, .keeper, .hsw, 1, .sys,
     by decide +kernel⟩⟩

end Sys2Proof.Tests
end

section
/-! SUPPORT. The laws of a register access by its address (R10, R14, R554), and the two statements of 00_scope.md that
rest on them. -/

namespace Sys2Proof.Machine

/-! ### The command and the access -/

/-- A register write by a requester other than the fabric (R16) is the access, in a powered module. -/
theorem exec_registerWrite (rq : Requester) (addr width : Nat) (v : Word) (s : State) (hp : s.powered = true)
    (hf : rq ≠ .fabric) : exec (.registerWrite rq addr width v) s = .next (accessWrite rq addr width v s) := by
  change execRegisterWrite rq addr width v s = _
  rw [execRegisterWrite, whenOn_powered _ _ hp, doRegisterWrite, if_neg hf]

/-- A read of a whole aligned word is the read of the register at its address. -/
theorem accessRead_of_wholeWord (rq : Requester) {addr width : Nat} {b : Block} (s : State)
    (hw : wholeWord addr width = true) (hb : blockOf addr = some b) :
    accessRead rq addr width s = (regDef b (addr % 0x10000)).read rq s := by
  simp only [accessRead, hw, if_true, regRead, hb]

/-- A write of a whole aligned word is the write of the register at its address. -/
theorem accessWrite_of_wholeWord (rq : Requester) {addr width : Nat} {b : Block} (v : Word) (s : State)
    (hw : wholeWord addr width = true) (hb : blockOf addr = some b) :
    accessWrite rq addr width v s = (regDef b (addr % 0x10000)).write rq v s := by
  simp only [accessWrite, hw, if_true, regWrite, hb]

/-! ### An access of another width or alignment -/

/-- ERR.ACCESS of an access in a block. -/
theorem accessErr_of_blockOf {addr : Nat} {b : Block} (s : State) (hb : blockOf addr = some b) :
    accessErr addr s = setErr b 0 s := by
  simp only [accessErr, hb]

/-- A read that is no whole aligned word returns 0. -/
theorem accessRead_of_not_wholeWord (rq : Requester) {addr width : Nat} {b : Block} (s : State)
    (hw : wholeWord addr width = false) (hb : blockOf addr = some b) :
    accessRead rq addr width s = (0, setErr b 0 s) := by
  simp only [accessRead, hw, Bool.false_eq_true, if_false, accessErr_of_blockOf s hb]

/-- A write that is no whole aligned word sets ERR.ACCESS alone. -/
theorem accessWrite_of_not_wholeWord (rq : Requester) {addr width : Nat} {b : Block} (v : Word) (s : State)
    (hw : wholeWord addr width = false) (hb : blockOf addr = some b) :
    accessWrite rq addr width v s = setErr b 0 s := by
  simp only [accessWrite, hw, Bool.false_eq_true, if_false, accessErr_of_blockOf s hb]

/-! ### Unassigned addresses -/

/-- An unassigned offset is none of the head registers. -/
theorem isHead_of_unassigned {b : Block} {off : Nat} (h : unassigned b off = true) : isHead off = false := by
  unfold unassigned at h
  rw [Bool.and_eq_true, Bool.not_eq_true'] at h
  exact h.1

/-- Outside DWIN an unassigned offset is one that the block's own map does not have. -/
theorem blockReg_of_unassigned {b : Block} {off : Nat} (hd : b ≠ .dwin) (h : unassigned b off = true) :
    blockReg b off = none := by
  unfold unassigned at h
  rw [Bool.and_eq_true] at h
  obtain ⟨_, hnone⟩ := h
  split at hnone
  · exact absurd rfl hd
  · exact Option.isNone_iff_eq_none.mp hnone

/-- Outside DWIN an unassigned offset holds no register (R14). -/
theorem regDef_of_unassigned {b : Block} {off : Nat} (hd : b ≠ .dwin) (h : unassigned b off = true) :
    regDef b off = regNone (b.base + off) := by
  simp only [regDef, isHead_of_unassigned h, blockReg_of_unassigned hd h, Bool.false_eq_true, if_false]

/-- In DWIN an offset beyond the head goes to the rules of the windows. -/
theorem regDef_dwin {off : Nat} (h : isHead off = false) : regDef .dwin off = dwinReg off := by
  simp only [regDef, h, Bool.false_eq_true, if_false, blockReg, if_true]

/-- The unassigned offsets of DWIN lie outside the head, the block's own registers and the first 0x20 bytes of each
window's slot (Tables 12.3 and 12.4). -/
theorem unassigned_dwin_iff (off : Nat) : unassigned .dwin off = true ↔
    (off ≠ 0x000 ∧ off ≠ 0x00C ∧ off ≠ 0x010 ∧ off ≠ 0x014) ∧
      (off ≠ 0x004 ∧ off ≠ 0x008 ∧ off ≠ 0x020 ∧ off ≠ 0x024) ∧
      ¬(0x1000 ≤ off ∧ off < 0x1100 ∧ off % 0x40 < 0x20) := by
  simp only [unassigned, isHead, Bool.and_eq_true, Bool.not_eq_true', Bool.or_eq_false_iff, beq_eq_false_iff_ne,
    decide_eq_false_iff_not, List.contains_eq_mem, List.mem_cons, List.not_mem_nil, not_or, or_false]
  tauto

/-- A head read at an offset that is no head register returns 0. -/
theorem headRead_of_not_isHead (b : Block) {off : Nat} (s : State) (h : isHead off = false) : headRead b off s = 0 := by
  unfold headRead
  split
  case h_5 => rfl
  all_goals exact absurd h (by decide)

/-- The address of a window's register is that of its offset in the block. -/
theorem winAddr_eq_base_add {off : Nat} (h : 0x1000 ≤ off) :
    winAddr ((off - 0x1000) / 0x40) (off % 0x40) = Block.dwin.base + off := by
  have hbase : Block.dwin.base = 0x20120000 := rfl
  rw [hbase, winAddr]
  omega

/-- A write in a window's slot behind its registers is a reserved write. -/
theorem winWrite_of_unassigned (rq : Requester) (peer : Nat) (n : Fin 4) {off : Nat} (v : Word) (s : State)
    (h : 0x20 ≤ off) : winWrite rq peer n off v s = (false, reservedWrite rq (winAddr n.val off) s) := by
  unfold winWrite
  split
  case h_9 => rfl
  all_goals omega

/-- An unassigned offset of DWIN reads 0; the bursts in progress have moved their words. -/
theorem dwinRead_of_unassigned (rq : Requester) (peer : Nat) {off : Nat} (s : State)
    (h : unassigned .dwin off = true) : dwinRead rq peer off s = (0, true, burstsNow s) := by
  have hhead := headRead_of_not_isHead .dwin (burstsNow s) (isHead_of_unassigned h)
  obtain ⟨-, ⟨-, h8, h20, h24⟩, hwin⟩ := (unassigned_dwin_iff off).mp h
  simp only [dwinRead, h8, h20, h24, if_false, hhead]
  split
  · rfl
  · split
    · split
      case h_8 => rfl
      all_goals omega
    · rfl

/-- A write to an unassigned offset of DWIN is a reserved write in its turn. -/
theorem dwinWrite_of_unassigned (rq : Requester) (peer : Nat) {off : Nat} (v : Word) (s : State)
    (h : unassigned .dwin off = true) : dwinWrite rq peer off v s =
      (false, reservedWrite rq (Block.dwin.base + off) (inTurn .dwin off rq.rank (burstsNow s))) := by
  obtain ⟨⟨h0, hC, h10, h14⟩, ⟨h4, h8, h20, h24⟩, hwin⟩ := (unassigned_dwin_iff off).mp h
  unfold dwinWrite
  split
  next hin =>
    have hslot : 0x20 ≤ off % 0x40 := by omega
    rw [winWrite_of_unassigned _ _ _ _ _ hslot, winAddr_eq_base_add hin.1]
  next =>
    split
    case h_5 => simp only [h0, hC, h10, h14, or_self, if_false]
    all_goals contradiction

end Sys2Proof.Machine

/-! ### The statements -/

namespace Sys2Proof.Proofs

open Sys2Proof.Machine

/-- Settles O8: the width and the alignment are judged before the register is looked up. -/
theorem wrongWidthIsNotPerformed : Obligations.WrongWidthIsNotPerformed := by
  intro rq addr width v b s hb hw
  have hwrite := accessWrite_of_not_wholeWord rq v s hw hb
  refine ⟨accessRead_of_not_wholeWord rq s hw hb, hwrite, fun hp hf => ?_⟩
  rw [exec_registerWrite rq addr width v s hp hf, hwrite]

/-- Settles O9: outside DWIN the register map has no entry there; DWIN answers through its window rules. -/
theorem unassignedAddress : Obligations.UnassignedAddress := by
  intro rq addr v b s hp hf hw hb hun
  rw [exec_registerWrite rq addr 4 v s hp hf, accessWrite_of_wholeWord rq v s hw hb,
    accessRead_of_wholeWord rq s hw hb]
  constructor
  · intro hd
    rw [regDef_of_unassigned hd hun]
    exact ⟨rfl, rfl⟩
  · rintro rfl
    rw [regDef_dwin (isHead_of_unassigned hun)]
    simp only [dwinReg, dwinRead_of_unassigned rq 0 s hun, dwinWrite_of_unassigned rq 0 v s hun, and_self]

end Sys2Proof.Proofs
end

section
/-! SUPPORT. The writes of STRUCT_LOAD and STRUCT_SWAPAT, by command and by address (R76), and the first statement of
03_structure_image.md that rests on them. -/

namespace Sys2Proof.Machine

/-! ### A register beyond the head, by its address -/

/-- Outside DWIN a register beyond the head has its writes in turn. -/
theorem regDef_of_blockReg {b : Block} {off : Nat} {d : RegDef} (hd : b ≠ .dwin) (hh : isHead off = false)
    (hr : blockReg b off = some d) : regDef b off = turned b off d := by
  simp only [regDef, hh, hr, hd, Bool.false_eq_true, if_false]

/-- A register write by a core or the service port to a block's own register is the register's write in its turn. -/
theorem exec_registerWrite_of_blockReg {rq : Requester} {addr : Nat} {b : Block} {d : RegDef} (v : Word) {s : State}
    (hp : s.powered = true) (hf : rq ≠ .fabric) (hw : wholeWord addr 4 = true) (hb : blockOf addr = some b)
    (hd : b ≠ .dwin) (hh : isHead (addr % 0x10000) = false) (hr : blockReg b (addr % 0x10000) = some d) :
    exec (.registerWrite rq addr 4 v) s = .next (d.write rq v (inTurn b (addr % 0x10000) rq.rank s)) := by
  rw [exec_registerWrite rq addr 4 v s hp hf, accessWrite_of_wholeWord rq v s hw hb,
    regDef_of_blockReg hd hh hr, turned]

/-- A write of STRUCT_LOAD by its address. -/
theorem exec_registerWrite_structLoad {rq : Requester} (v : Word) {s : State} (hp : s.powered = true)
    (hf : rq ≠ .fabric) : exec (.registerWrite rq 0x20020020 4 v) s =
      .next (structLoadWrite rq v (inTurn .strct 0x020 rq.rank s)) :=
  exec_registerWrite_of_blockReg (b := .strct) (d := regAt _ structLoadWrite) v hp hf rfl rfl nofun rfl rfl

/-- A write of STRUCT_SWAPAT_LO by its address. -/
theorem exec_registerWrite_swapatLo {rq : Requester} (v : Word) {s : State} (hp : s.powered = true)
    (hf : rq ≠ .fabric) : exec (.registerWrite rq 0x20020028 4 v) s =
      .next (swapatLoWrite rq v (inTurn .strct 0x028 rq.rank s)) :=
  exec_registerWrite_of_blockReg (b := .strct) (d := regAt _ swapatLoWrite) v hp hf rfl rfl nofun rfl rfl

/-- A write of STRUCT_SWAPAT_HI by its address. -/
theorem exec_registerWrite_swapatHi {rq : Requester} (v : Word) {s : State} (hp : s.powered = true)
    (hf : rq ≠ .fabric) : exec (.registerWrite rq 0x2002002C 4 v) s =
      .next (doSwapatArm rq v (inTurn .strct 0x02C rq.rank s)) :=
  exec_registerWrite_of_blockReg (b := .strct) (d := regAt _ doSwapatArm) v hp hf rfl rfl nofun rfl rfl

/-! ### The commands of a powered module -/

/-- STRUCT_LOAD_GO is the write of STRUCT_LOAD with GO and the slot. -/
theorem exec_structLoadGo (rq : Requester) (slot : Bool) {s : State} (hp : s.powered = true) :
    exec (.structLoadGo rq slot) s = .next (structLoadWrite rq (BitVec.ofNat 32 (2 + b01 slot)) s) := by
  change execStructLoadGo rq slot s = _
  rw [execStructLoadGo, whenOn_powered _ _ hp, doStructLoadGo]

/-- STRUCT_CANCEL is the write of STRUCT_LOAD with CANCEL and the slot as it stands. -/
theorem exec_structCancel (rq : Requester) {s : State} (hp : s.powered = true) :
    exec (.structCancel rq) s = .next (structLoadWrite rq (BitVec.ofNat 32 (4 + b01 s.strct.slot)) s) := by
  change execStructCancel rq s = _
  rw [execStructCancel, whenOn_powered _ _ hp, doStructCancel]

/-- SWAPAT_ARM is the write of STRUCT_SWAPAT_HI. -/
theorem exec_swapatArm (rq : Requester) (hi : Word) {s : State} (hp : s.powered = true) :
    exec (.swapatArm rq hi) s = .next (doSwapatArm rq hi s) := by
  change execSwapatArm rq hi s = _
  rw [execSwapatArm, whenOn_powered _ _ hp]

/-! ### The permission of the writes -/

/-- GO and CANCEL each come without the other and without a reserved bit. -/
theorem structLoad_commands_valid (b : Bool) :
    ((BitVec.ofNat 32 (2 + b01 b)).toNat < 8 ∧
      ¬(bit (BitVec.ofNat 32 (2 + b01 b)) 1 = true ∧ bit (BitVec.ofNat 32 (2 + b01 b)) 2 = true)) ∧
    ((BitVec.ofNat 32 (4 + b01 b)).toNat < 8 ∧
      ¬(bit (BitVec.ofNat 32 (4 + b01 b)) 1 = true ∧ bit (BitVec.ofNat 32 (4 + b01 b)) 2 = true)) := by
  cases b <;> decide

/-- Without permission a write is refused, after the reserved write that a reserved bit or encoding makes of it. -/
theorem wrIf_of_not_permitted (b : Block) (bad : Bool) (rq : Requester) (addr : Nat) (f : State → State) (s : State) :
    wrIf b false bad rq addr f s = refuseWrite b rq addr (if bad then reservedWrite rq addr s else s) := by
  simp only [wrIf, Bool.not_false, if_true]

/-- STRUCT refuses a write with ERR.PRIV, its bit 1. -/
theorem refuseWrite_strct (rq : Requester) (addr : Nat) (s : State) :
    refuseWrite .strct rq addr s = setErr .strct 1 s := rfl

/-- Outside keeper level a write of STRUCT_LOAD sets ERR.PRIV, beside the reserved write of a reserved bit or
encoding. -/
theorem structLoadWrite_of_ne_keeper {rq : Requester} (v : Word) (s : State) (hq : rq ≠ .keeper) :
    structLoadWrite rq v s = setErr .strct 1
      (if 8 ≤ v.toNat ∨ (bit v 1 = true ∧ bit v 2 = true) then reservedWrite rq 0x20020020 s else s) := by
  simp only [structLoadWrite, beq_eq_false_iff_ne.mpr hq, wrIf_of_not_permitted, refuseWrite_strct, decide_eq_true_eq]

/-- With no reserved bit or encoding, it sets ERR.PRIV alone. -/
theorem structLoadWrite_of_valid {rq : Requester} {v : Word} (s : State) (hq : rq ≠ .keeper)
    (hv : v.toNat < 8 ∧ ¬(bit v 1 = true ∧ bit v 2 = true)) : structLoadWrite rq v s = setErr .strct 1 s := by
  rw [structLoadWrite_of_ne_keeper v s hq, if_neg (not_or.mpr ⟨Nat.not_le.mpr hv.1, hv.2⟩)]

/-- With a reserved bit or encoding, it is a reserved write and sets ERR.PRIV. -/
theorem structLoadWrite_of_reserved {rq : Requester} {v : Word} (s : State) (hq : rq ≠ .keeper)
    (hv : 8 ≤ v.toNat ∨ (bit v 1 = true ∧ bit v 2 = true)) :
    structLoadWrite rq v s = setErr .strct 1 (reservedWrite rq 0x20020020 s) := by
  rw [structLoadWrite_of_ne_keeper v s hq, if_pos hv]

/-- Outside keeper level a write of STRUCT_SWAPAT_LO is not held. -/
theorem swapatLoWrite_of_ne_keeper {rq : Requester} (v : Word) (s : State) (hq : rq ≠ .keeper) :
    swapatLoWrite rq v s = setErr .strct 1 s := if_neg hq

/-- Keeper level's low word is held. -/
theorem swapatLoWrite_keeper (v : Word) (s : State) :
    swapatLoWrite .keeper v s = holdWrite .keeper 0x20020028 v s := if_pos rfl

/-- Outside keeper level a write of STRUCT_SWAPAT_HI arms nothing. -/
theorem doSwapatArm_of_ne_keeper {rq : Requester} (hi : Word) (s : State) (hq : rq ≠ .keeper) :
    doSwapatArm rq hi s = setErr .strct 1 s := if_pos hq

end Sys2Proof.Machine

/-! ### The statement -/

namespace Sys2Proof.Proofs

open Sys2Proof.Machine

/-- Settles O16: each command and each address leads to one of three writes, and each of these asks for keeper level
first. -/
theorem structureWritesAreKeepersOnly : Obligations.StructureWritesAreKeepersOnly := by
  intro rq slot hi v s hp
  refine ⟨fun hq => ⟨?go, ?cancel, ?arm, fun hf => ⟨⟨fun hv hb => ?valid, fun hv => ?reserved⟩, ?lo, ?hi⟩⟩, ?held⟩
  case go => rw [exec_structLoadGo rq slot hp, structLoadWrite_of_valid s hq (structLoad_commands_valid slot).1]
  case cancel =>
    rw [exec_structCancel rq hp, structLoadWrite_of_valid s hq (structLoad_commands_valid s.strct.slot).2]
  case arm => rw [exec_swapatArm rq hi hp, doSwapatArm_of_ne_keeper hi s hq]
  case valid => rw [exec_registerWrite_structLoad v hp hf, structLoadWrite_of_valid _ hq ⟨hv, hb⟩]
  case reserved => rw [exec_registerWrite_structLoad v hp hf, structLoadWrite_of_reserved _ hq hv]
  case lo => rw [exec_registerWrite_swapatLo v hp hf, swapatLoWrite_of_ne_keeper v _ hq]
  case hi => rw [exec_registerWrite_swapatHi v hp hf, doSwapatArm_of_ne_keeper v _ hq]
  case held =>
    rw [exec_registerWrite_swapatLo (rq := .keeper) v hp nofun, swapatLoWrite_keeper]
    rfl

end Sys2Proof.Proofs
end

section
/-! SUPPORT. Register a0 (R245): a move into it drops out of a bundle, whatever moves stand beside it, and a bundle
without moves writes and triggers nothing; and the statement of 09_processor.md that rests on them. -/

namespace Sys2Proof.Machine

/-! ### Rewriting by what is there already -/

/-- To replace an entry by itself changes nothing. -/
theorem upd_of_fixed {α : Type} {n : Nat} {v : Vector α n} {i : Fin n} {f : α → α} (h : f v[i] = v[i]) :
    upd v i f = v := by
  rw [upd, h]
  exact Vector.set_getElem_self i.isLt

/-- A rewriting that leaves the core as it is leaves the state as it is. -/
theorem modCpu_of_fixed {c : Fin 5} {f : Cpu → Cpu} {s : State} (h : f (s.cpu c) = s.cpu c) : modCpu c f s = s := by
  have hcpu : upd s.core.cpu c f = s.core.cpu := upd_of_fixed h
  simp only [modCpu, modCore, hcpu]

/-- A rewriting that leaves the level's register set as it is leaves the state as it is. -/
theorem modSet_of_fixed {c : Fin 5} {keeper : Bool} {f : LevelSet → LevelSet} {s : State}
    (h : f (s.cpu c).set[lvl keeper] = (s.cpu c).set[lvl keeper]) : modSet c keeper f s = s := by
  have hset : upd (s.cpu c).set (lvl keeper) f = (s.cpu c).set := upd_of_fixed h
  exact modCpu_of_fixed (by simp only [hset])

/-! ### A bundle without moves -/

/-- A bundle without moves changes no guard. -/
theorem guardsAfter_nil (free : Word) (g : Vector Bool 3) : guardsAfter free [] g = g := by
  ext i hi
  simp [guardsAfter, mapUnits, guardFree]

/-- A bundle without moves writes no register, latch or guard. -/
theorem writeRegs_nil (c : Fin 5) (s : State) : writeRegs c [] s = s := by
  have hset : modSet c (s.cpu c).keeper (fun l => { l with
      b := l.b, lat := latAfter l.lat [], g := guardsAfter (s.freeVal.setWidth 32) [] l.g }) s = s :=
    modSet_of_fixed (by simp only [guardsAfter_nil, latAfter, List.foldl_nil])
  have hcpu : modCpu c (fun x => { x with a := x.a }) s = s := modCpu_of_fixed rfl
  simp only [writeRegs, List.foldl_nil, hset, hcpu]
  rfl

/-- A bundle without moves triggers nothing. -/
theorem runTriggers_nil (c : Fin 5) (lat : Vector Word 11) (s : State) : runTriggers c lat [] s = s := rfl

/-! ### The destination a0 -/

/-- a0 is no trigger port. -/
theorem unitOf_a0 : unitOf 0 = none := rfl

/-- A move into a0 is a move into no operand latch. -/
theorem latAfter_cons_a0 (lat : Vector Word 11) (v : Word) (ms : List Move) :
    latAfter lat (⟨0, v⟩ :: ms) = latAfter lat ms := rfl

/-- A move into a0 is a move into no guard port, so it leaves no guard without a value. -/
theorem guardFree_cons_a0 (v : Word) (ms : List Move) (i : Nat) : guardFree (⟨0, v⟩ :: ms) i = guardFree ms i := by
  have hport : ((0 : Nat) == 0xF0 + i) = false := beq_eq_false_iff_ne.mpr (by omega)
  have hall : ((0 : Nat) == 0xF3) = false := rfl
  simp only [guardFree, List.any_cons, hport, hall, Bool.false_or]

/-- A move into a0 changes no guard. -/
theorem guardsAfter_cons_a0 (free : Word) (v : Word) (ms : List Move) (g : Vector Bool 3) :
    guardsAfter free (⟨0, v⟩ :: ms) g = guardsAfter free ms g := by
  simp only [guardsAfter, guardFree_cons_a0, List.foldl_cons]
  rfl

/-- What a bundle writes is what it writes without a move into a0. -/
theorem writeRegs_cons_a0 (c : Fin 5) (v : Word) (ms : List Move) (s : State) :
    writeRegs c (⟨0, v⟩ :: ms) s = writeRegs c ms s := by
  have hfree : guardFree (⟨0, v⟩ :: ms) = guardFree ms := funext (guardFree_cons_a0 v ms)
  simp only [writeRegs, hfree, guardsAfter_cons_a0, latAfter_cons_a0, List.foldl_cons]
  rfl

/-- What a bundle triggers is what it triggers without a move into a0. -/
theorem runTriggers_cons_a0 (c : Fin 5) (lat : Vector Word 11) (v : Word) (ms : List Move) (s : State) :
    runTriggers c lat (⟨0, v⟩ :: ms) s = runTriggers c lat ms s := rfl

/-- a0 is a destination of every core and level. -/
theorem destOk_a0 (shepherd keeper : Bool) : destOk shepherd keeper 0 = true := rfl

/-- A move into a0 clashes with no move, whatever its destination: a0 is exempt as a common destination, and has no
unit. -/
theorem clash_a0 (v : Word) (m : Move) : clash ⟨0, v⟩ m = false := by
  simp only [clash, unitOf_a0, bne_self_eq_false, Bool.and_false, Option.isSome_none, Bool.false_and, Bool.or_false]

/-- No unit detects an exception at a move into a0. -/
theorem unitExc_a0 (c : Fin 5) (s : State) (lat : Vector Word 11) (v : Word) : unitExc c s lat ⟨0, v⟩ = none := rfl

/-- The source a0 reads 0. -/
theorem srcVal_a0 (s : State) (c : Fin 5) : s.srcVal c 0 = 0 := rfl

end Sys2Proof.Machine

/-! ### The statement -/

namespace Sys2Proof.Proofs

open Sys2Proof.Machine

/-- Settles O26: a move into a0 drops out of its bundle, and the bundle left behind has no move. -/
theorem registerA0 : Obligations.RegisterA0 := by
  intro c v lat s
  have hwrite : writeRegs c [⟨0, v⟩] s = s := (writeRegs_cons_a0 c v [] s).trans (writeRegs_nil c s)
  have htrigger : runTriggers c lat [⟨0, v⟩] s = s := (runTriggers_cons_a0 c lat v [] s).trans (runTriggers_nil c lat s)
  exact ⟨srcVal_a0 s c, hwrite, htrigger, destOk_a0, fun w => clash_a0 v ⟨0, w⟩, unitExc_a0 c s lat v⟩

end Sys2Proof.Proofs
end

section
/-! SUPPORT. The bytes of a permute and its reserved selectors (R287), and the statement of 10_processor_units.md that
rests on them. -/

namespace Sys2Proof.Machine

/-! ### Fields and bytes -/

/-- A field as quotient and remainder. -/
theorem field_eq_div_mod (w : Word) (lo width : Nat) : field w lo width = w.toNat / 2 ^ lo % 2 ^ width := by
  rw [field, Nat.shiftRight_eq_div_pow]

/-- A field is below 2 to its width. -/
theorem field_lt (w : Word) (lo width : Nat) : field w lo width < 2 ^ width := Nat.mod_lt _ (Nat.two_pow_pos width)

/-- A register packed from four bytes holds each of them at its place. -/
theorem byte_of_pack {f : Nat → Nat} (hf : ∀ i, f i < 256) {i : Nat} (hi : i < 4) :
    (pack [(0, f 0), (8, f 1), (16, f 2), (24, f 3)]).toNat / 2 ^ (8 * i) % 256 = f i := by
  have h0 := hf 0
  have h1 := hf 1
  have h2 := hf 2
  have h3 := hf 3
  simp only [pack, List.foldr, BitVec.toNat_ofNat]
  interval_cases i <;> omega

/-! ### The permute -/

/-- A selector below 4 takes its byte of A. -/
theorem permByte_of_lt_four (a : Word) {b : Word} {i : Nat} (h : field b (3 * i) 3 < 4) :
    permByte a b i = field a (8 * field b (3 * i) 3) 8 := by
  unfold permByte
  generalize field b (3 * i) 3 = sel at h ⊢
  interval_cases sel <;> rfl

/-- Selector 4 gives 0x00. -/
theorem permByte_of_four (a : Word) {b : Word} {i : Nat} (h : field b (3 * i) 3 = 4) : permByte a b i = 0 := by
  simp only [permByte, h]

/-- Selector 5 gives 0xFF. -/
theorem permByte_of_five (a : Word) {b : Word} {i : Nat} (h : field b (3 * i) 3 = 5) : permByte a b i = 0xFF := by
  simp only [permByte, h]

/-- A permute byte is a byte, whatever the selector. -/
theorem permByte_lt (a b : Word) (i : Nat) : permByte a b i < 256 := by
  unfold permByte
  split
  case h_5 => decide
  case h_6 => decide
  all_goals exact field_lt a _ 8

/-- Byte `i` of the result of t.perm is the byte that selector `i` names. -/
theorem byte_of_bitOp_perm (a p b : Word) {i : Nat} (hi : i < 4) :
    (bitOp 0x7D a p b).toNat / 2 ^ (8 * i) % 256 = permByte a b i :=
  byte_of_pack (permByte_lt a b) hi

/-- An operand of a permute is reserved when one of its four selectors is 6 or 7. -/
theorem permBad_iff (b : Word) : permBad b = true ↔ ∃ i, i < 4 ∧ 6 ≤ field b (3 * i) 3 := by
  simp only [permBad, List.any_eq_true, List.mem_range, decide_eq_true_eq]

/-- At its trigger t.perm raises ILLEGAL_OPERAND, cause 4, for a reserved operand and raises nothing for any other. -/
theorem unitExc_perm (c : Fin 5) (s : State) (lat : Vector Word 11) (b : Word) :
    unitExc c s lat ⟨0x7D, b⟩ = excIf (permBad b) 4 0 := rfl

end Sys2Proof.Machine

/-! ### The statement -/

namespace Sys2Proof.Proofs

open Sys2Proof.Machine

/-- Settles O28: the result is packed from the four permute bytes, each the one of its selector, and a reserved selector
makes the operand one that the unit refuses in every core. -/
theorem bytePermute : Obligations.BytePermute := by
  intro a p b
  have hsel (i : Nat) : b.toNat / 2 ^ (3 * i) % 8 = field b (3 * i) 3 := (field_eq_div_mod b (3 * i) 3).symm
  simp only [hsel]
  constructor
  · intro i hi
    rw [byte_of_bitOp_perm a p b hi]
    exact ⟨fun h => (permByte_of_lt_four a h).trans (field_eq_div_mod a _ 8), permByte_of_four a, permByte_of_five a⟩
  · intro hbad c s lat
    rw [unitExc_perm, (permBad_iff b).mpr hbad]
    rfl

end Sys2Proof.Proofs
end

section
/-! SUPPORT. What every command keeps: the queue and the form of both memories; what an unpowered module does with a command;
and the statements about the machine as a whole that rest on them. -/

namespace Sys2Proof.Machine

/-! ### The frame of every command -/

/-- Every field but the queue of waiting commands. -/
abbrev allButQueue : Nat := 2147483646

/-- A command that acts in every power state has the frame of its operation. -/
theorem framed_next {m : Nat} {f : State → State} (hf : ∀ s, Frame m s (f s)) (hm : m ||| allButQueue = allButQueue)
    {s : State} : ∃ t, (.next (f s) : Host.Outcome State Fault Refusal) = .next t ∧ Frame allButQueue s t :=
  ⟨f s, rfl, (hf s).mono hm⟩

/-- A command of a domain that REST and OFF leave unpowered has the frame of its operation. -/
theorem framed_whenOn {m : Nat} {f : State → State} (hf : ∀ s, Frame m s (f s)) (hm : m ||| allButQueue = allButQueue)
    {s : State} : ∃ t, (.next (whenOn f s) : Host.Outcome State Fault Refusal) = .next t ∧ Frame allButQueue s t :=
  framed_next (fun s => frame_whenOn f s (Frame.refl _ s) fun x hx => (hf x).step hm hx) rfl

/-- A command that is a write in its turn among the writes of its register has the frame of the write. -/
theorem framed_written {m : Nat} {b : Block} {off : Nat} {rq : Requester} {f : State → State}
    (hf : ∀ s, Frame m s (f s)) (hm : m ||| allButQueue = allButQueue) {s : State} :
    ∃ t, (.next (whenOn (written b off rq f) s) : Host.Outcome State Fault Refusal) = .next t ∧
      Frame allButQueue s t :=
  framed_whenOn (fun s => frame_written b off rq f s rfl (Frame.refl _ s) fun x hx => (hf x).step hm hx) rfl

/-- Every command answers a next state, in which the queue is as it was and the memories keep their form. -/
theorem exec_framed (c : Instr) (s : State) : ∃ t, exec c s = .next t ∧ Frame allButQueue s t := by
  cases c with
  | tickStart => exact framed_whenOn frame_doTickStartRow rfl
  | tickStretch => exact framed_whenOn frame_doStretch rfl
  | sampleMark _ => exact framed_whenOn (frame_doSampleMarkRow _) rfl
  | coreWindowOpen => exact framed_whenOn frame_doCoreWindowOpen rfl
  | tickProgramFinish _ => exact framed_whenOn (frame_doTickProgramFinish _) rfl
  | overrun _ => exact framed_whenOn (frame_doOverrun _) rfl
  | envelopePhase => exact framed_whenOn frame_doEnvelopePhase rfl
  | holdExpire _ => exact framed_whenOn (frame_doHoldExpire _) rfl
  | escEnd _ => exact framed_whenOn (frame_doEscEnd _) rfl
  | commitMark _ => exact framed_whenOn (frame_doCommit _) rfl
  | deckRestPattern _ => exact framed_whenOn (frame_doDeckRestPattern _) rfl
  | guardBand _ => exact framed_whenOn (frame_doGuardBand _) rfl
  | inputSample _ => exact framed_whenOn (frame_doInputSample _) rfl
  | outCmd _ _ _ => exact framed_whenOn (frame_doOutCmd _ _ _) rfl
  | wdraw _ _ => exact framed_whenOn (frame_doWdraw _ _) rfl
  | escclr _ _ => exact framed_whenOn (frame_doEscclr _ _) rfl
  | delayedCmdRelease _ _ => exact framed_whenOn (frame_doDelayedCmdRelease _ _) rfl
  | structLoadGo _ _ => exact framed_whenOn (frame_doStructLoadGo _ _) rfl
  | shadowReady => exact framed_whenOn frame_doShadowReady rfl
  | shadowAckTimeout => exact framed_whenOn frame_doShadowAckTimeout rfl
  | swapatArm _ _ => exact framed_whenOn (frame_doSwapatArm _ _) rfl
  | structCancel _ => exact framed_whenOn (frame_doStructCancel _) rfl
  | swap => exact framed_whenOn frame_doSwap rfl
  | fastScTrip _ _ => exact framed_whenOn (frame_doFastScTrip _ _) rfl
  | ocTrip _ _ => exact framed_whenOn (frame_doOcTrip _ _) rfl
  | thermalTrip _ _ => exact framed_whenOn (frame_doThermalTrip _ _) rfl
  | inrushEnd _ => exact framed_whenOn (frame_doInrushEnd _) rfl
  | retry _ => exact framed_whenOn (frame_doRetry _) rfl
  | retryClear _ => exact framed_whenOn (frame_doRetryClear _) rfl
  | reenable _ _ => exact framed_whenOn (frame_doReenable _ _) rfl
  | hswClrcnt _ _ => exact framed_whenOn (frame_doHswClrcnt _ _) rfl
  | openLoadWindow _ _ _ => exact framed_whenOn (frame_doOpenLoadWindow _ _ _) rfl
  | fwMissing _ _ => exact framed_whenOn (frame_doFwMissing _ _) rfl
  | distForced _ _ _ => exact framed_whenOn (frame_doDistForced _ _ _) rfl
  | foldUv _ _ => exact framed_whenOn (frame_doFoldUv _ _) rfl
  | solEventStart _ => exact framed_whenOn (frame_doSolEventStart _) rfl
  | peakEnd _ => exact framed_whenOn (frame_doPeakEnd _) rfl
  | eventEnd _ => exact framed_whenOn (frame_doEventEnd _) rfl
  | minoffEnd _ => exact framed_whenOn (frame_doMinoffEnd _) rfl
  | lateDrop _ => exact framed_whenOn (frame_doLateDrop _) rfl
  | move _ _ _ _ _ _ _ => exact framed_whenOn (frame_doMove _ _ _ _ _ _ _) rfl
  | noMove _ _ => exact framed_whenOn (frame_doNoMove _ _) rfl
  | coilOpen _ _ => exact framed_whenOn (frame_doCoilOpen _ _) rfl
  | drvShort _ _ => exact framed_whenOn (frame_doDrvShort _ _) rfl
  | feedLeak _ _ => exact framed_whenOn (frame_doFeedLeak _ _) rfl
  | solFwMissing _ _ => exact framed_whenOn (frame_doSolFwMissing _ _) rfl
  | solClrcnt _ _ => exact framed_whenOn (frame_doSolClrcnt _ _) rfl
  | dimmingPeriodStart _ => exact framed_whenOn (frame_doDimmingPeriodStart _) rfl
  | lampWindow _ _ => exact framed_whenOn (frame_doLampWindow _ _) rfl
  | lampClamp _ _ => exact framed_whenOn (frame_doLampClamp _ _) rfl
  | stringLow _ _ _ => exact framed_whenOn (frame_doStringLow _ _ _) rfl
  | stringHot _ _ => exact framed_whenOn (frame_doStringHot _ _) rfl
  | stringReenable _ _ => exact framed_whenOn (frame_doStringReenable _ _) rfl
  | posClrcnt _ _ => exact framed_whenOn (frame_doPosClrcnt _ _) rfl
  | peCtrlWrite _ _ _ _ => exact framed_written (frame_doPeCtrlWrite _ _ _ _) rfl
  | chainSend _ _ => exact framed_whenOn (frame_doChainSend _ _) rfl
  | chainFrameDone _ => exact framed_whenOn (frame_doChainFrameDone _) rfl
  | chainFault _ _ => exact framed_whenOn (frame_doChainFault _ _) rfl
  | dinClrcnt _ _ => exact framed_whenOn (frame_doDinClrcnt _ _) rfl
  | move3 _ => exact framed_whenOn (frame_doMove3 _) rfl
  | imm32 _ => exact framed_whenOn (frame_doImm32 _) rfl
  | wait _ => exact framed_whenOn (frame_doWait _) rfl
  | shepherdWaitResume => exact framed_whenOn frame_doShepherdWaitResume rfl
  | brk _ => exact framed_whenOn (frame_doBreak _) rfl
  | eventEntry => exact framed_whenOn frame_doEventEntry rfl
  | operationComplete _ _ => exact framed_whenOn (frame_doOperationComplete _ _) rfl
  | lockstep => exact framed_whenOn frame_doLockstep rfl
  | shepherdRestart => exact framed_whenOn frame_doShepherdRestart rfl
  | bankOwnerWrite _ _ _ => exact framed_whenOn (frame_bankOwnerWrite _ _ _) rfl
  | keepdataAccess _ _ => exact framed_whenOn (frame_doKeepdataRow _ _) rfl
  | mwGo _ => exact framed_whenOn (frame_doMwGo _) rfl
  | mwDone => exact framed_whenOn frame_doMwDone rfl
  | mwFail _ _ => exact framed_whenOn (frame_doMwFail _ _) rfl
  | wOpen _ _ => exact framed_written (frame_doWOpen _ _) rfl
  | wClose _ _ => exact framed_written (frame_doWClose _ _) rfl
  | wGo _ _ => exact framed_whenOn (frame_doWGo _ _) rfl
  | wClrcnt _ _ => exact framed_whenOn (frame_doWClrcnt _ _) rfl
  | wDataWrite _ _ _ => exact framed_whenOn (frame_doWDataWrite _ _ _) rfl
  | wDataRead _ _ => exact framed_whenOn (frame_doWDataRead _ _) rfl
  | txnStart => exact framed_whenOn frame_doTxnStart rfl
  | burstDone _ _ => exact framed_whenOn (frame_doBurstDone _ _) rfl
  | qFlush _ _ => exact framed_whenOn (frame_doQFlush _ _) rfl
  | qClrcnt _ _ => exact framed_whenOn (frame_doQClrcnt _ _) rfl
  | tbStep _ _ _ => exact framed_whenOn (frame_doTbStep _ _ _) rfl
  | tbRateWrite _ _ _ => exact framed_whenOn (frame_doTbRateWrite _ _ _) rfl
  | tbOos _ _ _ => exact framed_whenOn (frame_doTbOos _ _ _) rfl
  | tbArm _ _ => exact framed_whenOn (frame_doTbArm _ _) rfl
  | timeCapture _ => exact framed_whenOn (frame_doTimeCapture _) rfl
  | timeMap => exact framed_whenOn frame_doTimeMap rfl
  | tallyFwGo _ => exact framed_written (frame_doTallyFwGo _) rfl
  | tallyFlush _ => exact framed_whenOn (frame_doTallyFlush _) rfl
  | tallyEntryRead _ => exact framed_whenOn (frame_doTallyEntryRead _) rfl
  | archiveCopy _ => exact framed_whenOn (frame_doArchiveCopy _) rfl
  | portLinkChange _ _ _ _ => exact framed_whenOn (frame_doPortLinkChange _ _ _ _) rfl
  | linkRx _ _ => exact framed_whenOn (frame_doLinkRx _ _) rfl
  | frameForward _ _ _ _ => exact framed_whenOn (frame_doFrameForward _ _ _ _) rfl
  | frameSend _ => exact framed_whenOn (frame_doFrameSend _) rfl
  | remuster _ => exact framed_whenOn (frame_doRemuster _) rfl
  | callRx _ _ => exact framed_whenOn (frame_doCallRx _ _) rfl
  | rollTx => exact framed_whenOn frame_doRollTx rfl
  | rollRx _ _ _ => exact framed_whenOn (frame_doRollRx _ _ _) rfl
  | tokenTx => exact framed_whenOn frame_doTokenTx rfl
  | tokenRx _ _ => exact framed_whenOn (frame_doTokenRx _ _) rfl
  | doneRx _ _ => exact framed_whenOn (frame_doDoneRx _ _) rfl
  | musterDone => exact framed_whenOn frame_doMusterDone rfl
  | musterFail => exact framed_whenOn frame_doMusterFail rfl
  | musterRecall => exact framed_whenOn frame_doMusterRecall rfl
  | timeTx => exact framed_whenOn frame_doTimeTx rfl
  | timeRx _ _ => exact framed_whenOn (frame_doTimeRx _ _) rfl
  | timeLost => exact framed_whenOn frame_doTimeLost rfl
  | stateTx => exact framed_whenOn frame_doStateTx rfl
  | stateRx _ _ => exact framed_whenOn (frame_doStateRx _ _) rfl
  | audioTx _ _ => exact framed_whenOn (frame_doAudioTx _ _) rfl
  | audioRx _ _ => exact framed_whenOn (frame_doAudioRx _ _) rfl
  | msgTx => exact framed_whenOn frame_doMsgTx rfl
  | msgRx _ _ => exact framed_whenOn (frame_doMsgRx _ _) rfl
  | raGo _ _ => exact framed_whenOn (frame_doRaGo _ _) rfl
  | raAbandon _ _ => exact framed_whenOn (frame_doRaAbandon _ _) rfl
  | raReqRx _ _ _ => exact framed_whenOn (frame_doRaReqRx _ _ _) rfl
  | raRspRx _ _ _ => exact framed_whenOn (frame_doRaRspRx _ _ _) rfl
  | raTimeout _ => exact framed_whenOn (frame_doRaTimeout _) rfl
  | canRxFrame _ _ _ => exact framed_whenOn (frame_doCanRxFrame _ _ _) rfl
  | canTxTake _ => exact framed_whenOn (frame_doCanTxTake _) rfl
  | txFrame _ _ _ => exact framed_whenOn (frame_doTxFrame _ _ _) rfl
  | refSend => exact framed_whenOn frame_doRefSend rfl
  | refLost => exact framed_whenOn frame_doRefLost rfl
  | mapTimeout _ => exact framed_whenOn (frame_doMapTimeout _) rfl
  | canBusError _ _ _ _ _ => exact framed_whenOn (frame_doCanBusError _ _ _ _ _) rfl
  | busOn _ => exact framed_whenOn (frame_doBusOn _) rfl
  | chInit _ _ _ => exact framed_whenOn (frame_doChInit _ _ _) rfl
  | mbusClrcnt _ _ => exact framed_whenOn (frame_doMbusClrcnt _ _) rfl
  | trxReq _ _ _ => exact framed_whenOn (frame_doTrxReq _ _ _) rfl
  | txdTimeout _ => exact framed_whenOn (frame_doTxdTimeout _) rfl
  | wakePattern _ => exact framed_next (frame_doWakePattern _) rfl
  | wakeAddress _ _ => exact framed_next (frame_doWakeAddress _ _) rfl
  | activeWrite _ _ _ => exact framed_whenOn (frame_doActiveWrite _ _ _) rfl
  | handleTouch _ _ _ => exact framed_whenOn (frame_doHandleTouch _ _ _) rfl
  | touchRepeat _ => exact framed_whenOn (frame_doTouchRepeat _) rfl
  | pollStart _ => exact framed_whenOn (frame_doPollStart _) rfl
  | rdPoll _ _ => exact framed_whenOn (frame_doRdPoll _ _) rfl
  | depotPoll _ => exact framed_whenOn (frame_doDepotPoll _) rfl
  | tokenRecord _ _ => exact framed_whenOn (frame_doTokenRecord _ _) rfl
  | counterWriteDone => exact framed_whenOn frame_doCounterWriteDone rfl
  | pollEnd => exact framed_whenOn frame_doPollEnd rfl
  | resyncLapsed _ => exact framed_whenOn (frame_doResyncLapsed _) rfl
  | lockoutEnd => exact framed_next frame_doLockoutEnd rfl
  | sessionEnd _ _ => exact framed_whenOn (frame_doSessionEnd _ _) rfl
  | learnStart _ _ => exact framed_whenOn (frame_doLearnStart _ _) rfl
  | learnEnd _ => exact framed_whenOn (frame_doLearnEnd _) rfl
  | learnPoll => exact framed_whenOn frame_doLearnPoll rfl
  | parkStop => exact framed_next frame_doParkStop rfl
  | keyWrite _ _ => exact framed_written (frame_doKeyWrite _ _) rfl
  | keyErase _ _ => exact framed_written (frame_doKeyErase _ _) rfl
  | attest _ _ => exact framed_written (frame_doAttest _ _) rfl
  | cmac _ _ => exact framed_written (frame_doCmac _ _) rfl
  | encrypt _ _ => exact framed_written (frame_doEncrypt _ _) rfl
  | decrypt _ _ => exact framed_written (frame_doDecrypt _ _) rfl
  | sha256 _ _ => exact framed_written (frame_doSha256 _ _) rfl
  | random _ _ => exact framed_written (frame_doRandom _ _) rfl
  | advance _ _ => exact framed_written (frame_doAdvance _ _) rfl
  | ticket _ _ => exact framed_written (frame_doTicket _ _) rfl
  | tclear _ _ _ => exact framed_written (frame_doTclear _ _ _) rfl
  | keyCmdDone => exact framed_whenOn frame_doKeyCmdDone rfl
  | tamper _ _ => exact framed_next (frame_doTamperRow _ _) rfl
  | trngFail _ => exact framed_whenOn (frame_doTrngFail _) rfl
  | restReq _ _ => exact framed_whenOn (frame_doRestReq _ _) rfl
  | offReq _ _ => exact framed_whenOn (frame_doOffReq _ _) rfl
  | opReq _ _ => exact framed_whenOn (frame_doOpReq _ _) rfl
  | opChange => exact framed_whenOn frame_doOpChange rfl
  | reqCancelled _ _ => exact framed_whenOn (frame_doReqCancelled _ _) rfl
  | restEnter => exact framed_whenOn frame_doRestEnter rfl
  | restEntryComplete => exact framed_whenOn frame_doRestEntryComplete rfl
  | wake _ _ => exact framed_next (frame_doWake _ _) rfl
  | regRetry _ => exact framed_whenOn (frame_doRegRetry _) rfl
  | clockDegraded => exact framed_whenOn frame_doClockDegraded rfl
  | vblLow _ => exact framed_next (frame_doVblLow _) rfl
  | vblOff => exact framed_next frame_doVblOff rfl
  | coldStart _ _ _ _ => exact framed_next (frame_doColdStart _ _ _ _) rfl
  | nsVoteTx => exact framed_whenOn frame_doNsVoteTx rfl
  | nsVoteRx _ _ => exact framed_whenOn (frame_doNsVoteRx _ _) rfl
  | nsVoteExpired _ => exact framed_whenOn (frame_doNsVoteExpired _) rfl
  | nsCommand => exact framed_whenOn frame_doNsCommand rfl
  | nsCommandRx _ _ => exact framed_whenOn (frame_doNsCommandRx _ _) rfl
  | nsAbort _ _ => exact framed_whenOn (frame_doNsAbort _ _) rfl
  | nsMissed => exact framed_whenOn frame_doNsMissed rfl
  | nsCtrlWrite _ _ => exact framed_whenOn (frame_doNsCtrlWrite _ _) rfl
  | falseWake => exact framed_whenOn frame_doFalseWake rfl
  | begin _ => exact framed_whenOn (frame_doBegin _) rfl
  | verify _ => exact framed_whenOn (frame_doVerify _) rfl
  | verified => exact framed_whenOn frame_doVerified rfl
  | schedule _ => exact framed_whenOn (frame_doSchedule _) rfl
  | updCancel _ => exact framed_whenOn (frame_doUpdCancel _) rfl
  | confirm _ => exact framed_whenOn (frame_doConfirm _) rfl
  | migfail _ => exact framed_whenOn (frame_doMigfail _) rfl
  | actsend _ => exact framed_whenOn (frame_doActsend _) rfl
  | bundleDataRx _ _ => exact framed_whenOn (frame_doBundleDataRx _ _) rfl
  | activateRx _ _ => exact framed_whenOn (frame_doActivateRx _ _) rfl
  | updStatusTx => exact framed_whenOn frame_doUpdStatusTx rfl
  | bootRecordWrite => exact framed_whenOn frame_doBootRecordWrite rfl
  | activated => exact framed_whenOn frame_doActivated rfl
  | fallback => exact framed_whenOn frame_doFallback rfl
  | tpload _ _ => exact framed_whenOn (frame_doTpload _ _) rfl
  | tploadDone _ => exact framed_whenOn (frame_doTploadDone _) rfl
  | pertEnable _ _ => exact framed_written (frame_doPertEnable _ _) rfl
  | pertMemctlGo _ _ => exact framed_written (frame_doPertMemctlGo _ _) rfl
  | sysReset _ _ => exact framed_whenOn (frame_doSysReset _ _) rfl
  | moduleReset => exact framed_whenOn frame_doModuleReset rfl
  | svcTransaction _ => exact framed_whenOn (frame_doSvcTransaction _) rfl
  | registerWrite _ _ _ _ => exact framed_whenOn (frame_doRegisterWrite _ _ _ _) rfl
  | touchRelease _ _ _ => exact framed_whenOn (frame_doTouchRelease _ _ _) rfl
  | trainDiscarded _ => exact framed_next (frame_doTrainDiscarded _) rfl
  | resetThroughJtag => exact framed_whenOn frame_doResetThroughJtag rfl

/-- The state that a command answers differs in anything but the queue, and keeps the form of the memories. -/
theorem frame_exec {c : Instr} {s t : State} (h : exec c s = .next t) : Frame allButQueue s t := by
  obtain ⟨u, hu, hframe⟩ := exec_framed c s
  cases h.symm.trans hu
  exact hframe

/-! ### An unpowered module -/

/-- In REST and OFF an operation of an unpowered domain does nothing. -/
theorem whenOn_of_not_powered {s : State} (hs : s.powered = false) (f : State → State) : whenOn f s = s := by
  unfold State.powered at hs
  unfold whenOn
  split
  case h_1 => rfl
  case h_2 => rfl
  case h_3 hrest hoff => simp only [Bool.true_eq_false] at hs

/-- In REST and OFF a command outside the domains that stay powered in REST does nothing (R481). -/
theorem exec_of_not_powered {c : Instr} {s : State} (hs : s.powered = false) (hc : isAlwaysOn c = false) :
    exec c s = .next s := by
  cases c
  case tamper | wakePattern | wakeAddress | trainDiscarded | wake | parkStop | lockoutEnd | vblLow | vblOff | coldStart =>
    exact nomatch hc
  all_goals exact congrArg Host.Outcome.next (whenOn_of_not_powered hs _)

/-- OFF is unpowered. -/
theorem not_powered_of_off {s : State} (h : s.pwr.mode = .off) : s.powered = false := by
  simp only [State.powered, h]

/-- REST is unpowered. -/
theorem not_powered_of_rest {s : State} (h : s.pwr.mode = .rest) : s.powered = false := by
  simp only [State.powered, h]

/-- A tamper source is not seen in OFF. -/
theorem doTamperRow_off (sources : BitVec 5) (elapsed : Nat) {s : State} (h : s.pwr.mode = .off) :
    doTamperRow sources elapsed s = s := by
  have hwin : s.entryWindow = false := by simp [State.entryWindow, h]
  have htamper : doTamper sources elapsed s = s := by simp [doTamper, hwin, h]
  simp [doTamperRow, htamper, tamperCancel, h]

/-- In OFF nothing but the OFF cell acts (R484). -/
theorem exec_off {c : Instr} {s : State} (h : s.pwr.mode = .off) (hc : isOffCell c = false) : exec c s = .next s := by
  cases c
  case coldStart | vblLow => exact nomatch hc
  case tamper sources elapsed => exact congrArg Host.Outcome.next (doTamperRow_off sources elapsed h)
  case wakePattern ch => exact congrArg Host.Outcome.next (if_pos (.inl h))
  case wakeAddress ct t => exact congrArg Host.Outcome.next (if_pos (.inr h))
  case trainDiscarded ct => exact congrArg Host.Outcome.next (if_pos h)
  case wake sources pins =>
    exact congrArg Host.Outcome.next (if_pos (.inl (by rw [h]; decide)))
  case parkStop =>
    exact congrArg Host.Outcome.next (if_neg (by simp [h]))
  case lockoutEnd =>
    refine congrArg Host.Outcome.next ?_
    unfold doLockoutEnd
    split
    · rfl
    · exact if_pos h
  case vblOff => exact congrArg Host.Outcome.next (if_neg (by simp [h]))
  all_goals exact congrArg Host.Outcome.next (whenOn_off _ _ h)

/-- In OFF the supply monitor notes that VBL fell, and nothing else. -/
theorem exec_vblLow_off (vbl : Half) {s : State} (h : s.pwr.mode = .off) :
    exec (.vblLow vbl) s =
      .next (if vbl.toNat ≤ 1330 then { s with pwr := { s.pwr with vblLow := true } } else s) := by
  change execVblLow vbl s = _
  rw [execVblLow, doVblLow, if_pos h]
  rfl

/-- A command of the OFF cell that is no cold start is the supply monitor's. -/
theorem exists_vblLow_of_isOffCell {c : Instr} (hoff : isOffCell c = true) (hcold : isColdStart c = false) :
    ∃ vbl, c = .vblLow vbl := by
  unfold isOffCell at hoff
  split at hoff
  case h_1 => exact nomatch hcold
  case h_2 vbl => exact ⟨vbl, rfl⟩
  case h_3 => exact nomatch hoff

/-! ### A step -/

/-- With no command waiting the clock runs. -/
theorem step_of_pending_nil {s : State} (h : s.pending = []) : step s = .next (idleCycle s) := by
  simp only [step, h]

/-- A powered module passes one cycle of the timer clock. -/
theorem idleCycle_powered {s : State} (h : s.powered = true) : idleCycle s = runCycles 1 s := by
  unfold State.powered at h
  unfold idleCycle
  split
  case h_1 hm => simp [hm] at h
  case h_2 hm => simp [hm] at h
  case h_3 => rfl

/-- In OFF no clock runs. -/
theorem idleCycle_off {s : State} (h : s.pwr.mode = .off) : idleCycle s = s := by
  simp only [idleCycle, h]

/-- In REST the 32.768 kHz clock runs. -/
theorem idleCycle_rest {s : State} (h : s.pwr.mode = .rest) :
    idleCycle s = { s with pwr := { s.pwr with restCycles := s.pwr.restCycles + 1 } } := by
  simp only [idleCycle, h]

/-- Every step keeps the form of the memories. -/
theorem memOk_step {s t : State} (hs : s.memOk = true) (h : step s = .next t) : t.memOk = true := by
  unfold step at h
  split at h
  case h_1 =>
    cases h
    exact (frame_idleCycle s).form hs
  case h_2 c cs _ =>
    exact (frame_exec h).form hs

/-! ### Reset -/

/-- The head registers of every block at reset. -/
theorem head_reset (b : Block) : State.reset.head b = Head.start := Vector.getElem_replicate b.idx.isLt

/-- Every lane is off at reset. -/
theorem isDark_reset : State.reset.isDark = true := by decide

/-! ### Off and dark -/

/-- Whether the lanes are dark depends on the lanes alone. -/
theorem isDark_congr {s t : State} (hhsw : t.hsw = s.hsw) (hsol : t.sol = s.sol) (hled : t.led = s.led) :
    t.isDark = s.isDark := by
  simp only [State.isDark, hhsw, hsol, hled]

/-- The invariant speaks of the power state, the lanes and the queue. -/
theorem offInv_of_eq {s t : State} (hs : s.offInv) (hmode : t.pwr.mode = s.pwr.mode) (hhsw : t.hsw = s.hsw)
    (hsol : t.sol = s.sol) (hled : t.led = s.led) (hq : ∀ c ∈ t.pending, c ∈ s.pending) : t.offInv := by
  obtain ⟨hoff, hdark, hcold⟩ := hs
  exact ⟨hmode.trans hoff, (isDark_congr hhsw hsol hled).trans hdark, fun c hc => hcold c (hq c hc)⟩

/-- A command other than a cold start keeps a module off and dark. -/
theorem offInv_exec {c : Instr} {s t : State} (hs : s.offInv) (hc : isColdStart c = false) (h : exec c s = .next t) :
    t.offInv := by
  have hoff : s.pwr.mode = .off := hs.1
  cases hcell : isOffCell c with
  | false =>
    cases (exec_off hoff hcell).symm.trans h
    exact hs
  | true =>
    obtain ⟨vbl, rfl⟩ := exists_vblLow_of_isOffCell hcell hc
    cases (exec_vblLow_off vbl hoff).symm.trans h
    split
    · exact offInv_of_eq hs rfl rfl rfl rfl fun _ => id
    · exact hs

end Sys2Proof.Machine

/-! ### The statements -/

namespace Sys2Proof.Proofs

open Sys2Proof.Machine

/-- Settles O1: it is the second equation of step. -/
theorem stepRunsFront : Obligations.StepRunsFront := by
  intro c cs s
  rfl

/-- Settles O2: the idle step by the power state, and a command of an unpowered domain by its dispatch. -/
theorem quietModule : Obligations.QuietModule := by
  refine ⟨fun s hnil => ⟨fun hp => ?powered, fun hoff => ?off, fun hrest => ?rest⟩, fun c s => exec_off,
    fun vbl s => exec_vblLow_off vbl, fun c s hrest => exec_of_not_powered (not_powered_of_rest hrest)⟩
  case powered => rw [step_of_pending_nil hnil, idleCycle_powered hp, runCycles]
  case off => rw [step_of_pending_nil hnil, idleCycle_off hoff]
  case rest => rw [step_of_pending_nil hnil, idleCycle_rest hrest]

/-- Settles O3: each value is read off the state after reset. -/
theorem resetLeaves : Obligations.ResetLeaves := by
  have htb : (∀ n : Fin 4, n ≠ 0 → State.reset.time.tb[n].oos = true) ∧
      ∀ n : Fin 4, State.reset.time.tb[n].rate = 0 ∧ State.reset.time.tb[n].value = 0 := by decide
  obtain ⟨hoos, hzero⟩ := htb
  exact ⟨⟨rfl, rfl, rfl, rfl, rfl, isDark_reset, rfl, hoos, hzero, rfl, rfl, rfl, rfl, rfl, rfl, rfl,
    fun b => by rw [head_reset]; exact ⟨rfl, rfl, rfl⟩, rfl, rfl, rfl⟩, rfl, rfl, rfl⟩

/-- Settles O4: with a command at the front, by what the command does in OFF; with none, no clock runs. -/
theorem offStaysDark : Obligations.OffStaysDark := by
  intro s t hs h
  cases hq : s.pending with
  | nil =>
    rw [step_of_pending_nil hq, idleCycle_off hs.1] at h
    cases h
    exact hs
  | cons c cs =>
    have hstep : step s = exec c { s with pending := cs } := by simp only [step, hq]
    have hmem : ∀ x ∈ cs, x ∈ s.pending := fun x hx => hq ▸ List.mem_cons_of_mem c hx
    have hrest : ({ s with pending := cs } : State).offInv := offInv_of_eq hs rfl rfl rfl rfl hmem
    have hc : isColdStart c = false := hs.2.2 c (hq ▸ List.mem_cons_self)
    exact offInv_exec hrest hc (hstep.symm.trans h)

/-- Settles O5: by the frame of every command. -/
theorem memoryFormKept : Obligations.MemoryFormKept := fun _ _ => memOk_step

/-- Settles O6: no command's frame has the queue. -/
theorem commandsLeaveTheQueue : Obligations.CommandsLeaveTheQueue := fun _ _ _ h => (frame_exec h).pending rfl

end Sys2Proof.Proofs
end

section
/-! SUPPORT. The laws of the operations that every block shares: an operation within a mask as an update, the head registers,
the tally, time, latches and held words; and the statements about them (R10 to R20, R348 to R352, R561). -/

namespace Sys2Proof.Machine

/-! ### An operation as an update -/

/-- `s` with the fields of the mask `m` taken from `t`. -/
def State.patch (m : Nat) (s t : State) : State where
  pending := bif m.testBit 0 then t.pending else s.pending
  freeCount := bif m.testBit 1 then t.freeCount else s.freeCount
  reports := bif m.testBit 2 then t.reports else s.reports
  rdata := bif m.testBit 3 then t.rdata else s.rdata
  heads := bif m.testBit 4 then t.heads else s.heads
  latches := bif m.testBit 5 then t.latches else s.latches
  held := bif m.testBit 6 then t.held else s.held
  sys := bif m.testBit 7 then t.sys else s.sys
  evt := bif m.testBit 8 then t.evt else s.evt
  tick := bif m.testBit 9 then t.tick else s.tick
  strct := bif m.testBit 10 then t.strct else s.strct
  cfg := bif m.testBit 11 then t.cfg else s.cfg
  hsw := bif m.testBit 12 then t.hsw else s.hsw
  sol := bif m.testBit 13 then t.sol else s.sol
  led := bif m.testBit 14 then t.led else s.led
  din := bif m.testBit 15 then t.din else s.din
  hurdle := bif m.testBit 16 then t.hurdle else s.hurdle
  time := bif m.testBit 17 then t.time else s.time
  tally := bif m.testBit 18 then t.tally else s.tally
  fab := bif m.testBit 19 then t.fab else s.fab
  core := bif m.testBit 20 then t.core else s.core
  mem := bif m.testBit 21 then t.mem else s.mem
  que := bif m.testBit 22 then t.que else s.que
  dwin := bif m.testBit 23 then t.dwin else s.dwin
  pert := bif m.testBit 24 then t.pert else s.pert
  key := bif m.testBit 25 then t.key else s.key
  mbus := bif m.testBit 26 then t.mbus else s.mbus
  aud := bif m.testBit 27 then t.aud else s.aud
  acc := bif m.testBit 28 then t.acc else s.acc
  pwr := bif m.testBit 29 then t.pwr else s.pwr
  upd := bif m.testBit 30 then t.upd else s.upd

/-- A field of the mask is the new state's; another is as it was. -/
theorem eq_bif_of_frame {α : Type} {x y : α} {b : Bool} (h : b = false → x = y) : x = bif b then x else y := by
  cases b
  · exact h rfl
  · rfl

/-- An operation within a mask, as an update of the fields of the mask. -/
theorem Frame.eq_patch {m : Nat} {s t : State} (h : Frame m s t) : t = s.patch m t := by
  obtain ⟨hpending, hfreeCount, hreports, hrdata, hheads, hlatches, hheld, hsys, hevt, htick, hstrct, hcfg, hhsw, hsol, hled,
      hdin, hhurdle, htime, htally, hfab, hcore, hmem, hque, hdwin, hpert, hkey, hmbus, haud, hacc, hpwr, hupd, -⟩ := h
  obtain ⟨pending, freeCount, reports, rdata, heads, latches, held, sys, evt, tick, strct, cfg, hsw, sol, led, din, hurdle,
      time, tally, fab, core, mem, que, dwin, pert, key, mbus, aud, acc, pwr, upd⟩ := t
  rw [State.patch, State.mk.injEq]
  exact ⟨eq_bif_of_frame hpending, eq_bif_of_frame hfreeCount, eq_bif_of_frame hreports, eq_bif_of_frame hrdata,
      eq_bif_of_frame hheads, eq_bif_of_frame hlatches, eq_bif_of_frame hheld, eq_bif_of_frame hsys, eq_bif_of_frame hevt,
      eq_bif_of_frame htick, eq_bif_of_frame hstrct, eq_bif_of_frame hcfg, eq_bif_of_frame hhsw, eq_bif_of_frame hsol,
      eq_bif_of_frame hled, eq_bif_of_frame hdin, eq_bif_of_frame hhurdle, eq_bif_of_frame htime, eq_bif_of_frame htally,
      eq_bif_of_frame hfab, eq_bif_of_frame hcore, eq_bif_of_frame hmem, eq_bif_of_frame hque, eq_bif_of_frame hdwin,
      eq_bif_of_frame hpert, eq_bif_of_frame hkey, eq_bif_of_frame hmbus, eq_bif_of_frame haud, eq_bif_of_frame hacc,
      eq_bif_of_frame hpwr, eq_bif_of_frame hupd⟩

/-! ### Interrupt bits and event lines -/

/-- A refresh leaves the event lines when no enabled bit is set. -/
theorem refreshLine_of_masked {b : Block} {s : State} (h : (s.head b).irq &&& (s.head b).en = 0) : refreshLine b s = s :=
  if_pos h

/-- An interrupt bit that hardware sets is set. -/
theorem bit_setIrq {b : Block} {i : Nat} (s : State) (hi : i < 32) : bit ((setIrq b i s).head b).irq i = true := by
  rw [setIrq_irq, bit_setBit_self _ _ hi]

/-- An interrupt bit that is set and enabled makes the block's line pending. -/
theorem setIrq_pend {b : Block} {i : Nat} {s : State}
    (h : ((setIrq b i s).head b).irq &&& ((setIrq b i s).head b).en ≠ 0) :
    (setIrq b i s).evt.pend.getLsbD b.idx.val = true := by
  unfold setIrq at h ⊢
  rw [refreshLine_head] at h
  exact refreshLine_pend b _ h

/-- With every set bit masked the event lines stand. -/
theorem setIrq_evt_of_masked {b : Block} {i : Nat} {s : State}
    (h : ((setIrq b i s).head b).irq &&& ((setIrq b i s).head b).en = 0) : (setIrq b i s).evt = s.evt := by
  unfold setIrq at h ⊢
  rw [refreshLine_head] at h
  rw [refreshLine_of_masked h]
  rfl

/-! ### The journal -/

/-- The engine that writes an entry does not depend on its number. -/
@[simp] theorem Entry.writer_seq (e : Entry) (n : Word) : ({ e with seq := n } : Entry).writer = e.writer := rfl

/-- The order within a cycle moves entries and their numbers, so what an entry says besides stays in the journal. -/
theorem any_inOrder {p : JEntry → Bool} (hp : ∀ (e : Entry) (n : Word) (a a' : Bool), p ⟨{ e with seq := n }, a⟩ = p ⟨e, a'⟩)
    (n : Nat) (js : List JEntry) : (inOrder n js).any p = js.any p := by
  induction n generalizing js with
  | zero => rw [inOrder]; exact nofun
  | succ n ih =>
    match js with
    | [] => rfl
    | [a] => rfl
    | a :: b :: js =>
      rw [inOrder]
      split
      · rw [List.any_cons, ih, List.any_cons, List.any_cons, List.any_cons, hp b.e a.e.seq false b.archived,
          hp a.e b.e.seq a.archived a.archived, Bool.or_left_comm]
      · rfl

/-- An entry at an index is the newest with that index. -/
theorem find?_filter_of_imp {α : Type} {p q : α → Bool} (h : ∀ x, p x = true → q x = true) (l : List α) :
    (l.filter q).find? p = l.find? p := by
  induction l with
  | nil => rfl
  | cons x l ih =>
    rw [List.filter_cons, List.find?_cons]
    cases hp : p x with
    | true => rw [if_pos (h x hp), List.find?_cons_of_pos hp]
    | false =>
      split
      · rw [List.find?_cons_of_neg (by simp [hp]), ih]
      · exact ih

/-- No entry is of the cycle that begins with this one. -/
theorem put_journal_of_fresh {c : Nat × Nat × Nat} {t : TallyBlk} (e : Entry) (h : t.sameN = 0 ∨ t.sameAt ≠ c) :
    (t.put c e).journal = ⟨{ e with seq := t.seq }, false⟩ ::
      t.journal.filter fun x => x.e.seq.toNat % 8192 != t.seq.toNat % 8192 := by
  have hn : (if t.sameAt = c then t.sameN else 0) = 0 := by
    rcases h with h | h
    · split
      · exact h
      · rfl
    · exact if_neg h
  rw [TallyBlk.put]
  simp only [hn]
  rw [inOrder]
  exact nofun

/-- With no other entry of its cycle, an entry stands at the index of its number. -/
theorem at_put_self {c : Nat × Nat × Nat} {t : TallyBlk} (e : Entry) (h : t.sameN = 0 ∨ t.sameAt ≠ c) :
    (t.put c e).at_ (t.seq.toNat % 8192) = some ⟨{ e with seq := t.seq }, false⟩ := by
  rw [TallyBlk.at_, put_journal_of_fresh e h]
  exact List.find?_cons_of_pos (beq_self_eq_true _)

/-- Every other index keeps its entry. -/
theorem at_put_other {c : Nat × Nat × Nat} {t : TallyBlk} (e : Entry) (h : t.sameN = 0 ∨ t.sameAt ≠ c) {i : Nat}
    (hi : i ≠ t.seq.toNat % 8192) : (t.put c e).at_ i = t.at_ i := by
  rw [TallyBlk.at_, put_journal_of_fresh e h, List.find?_cons_of_neg (by simpa using hi.symm), find?_filter_of_imp]
  · rfl
  · intro x hx
    rw [beq_iff_eq] at hx
    rw [bne_iff_ne, hx]
    exact hi

/-! ### An entry is written or dropped -/

/-- With its index free an entry is written. -/
theorem putOrDrop_tally_of_free {e : Entry} {s : State} (h : s.tally.free = true) :
    (putOrDrop e s).tally.journal = (s.tally.put s.cycle e).journal ∧
      (putOrDrop e s).tally.seq = s.tally.seq + 1 := by
  rw [putOrDrop, if_pos h]
  extract_lets s1 s2
  have htally : s2.tally = s.tally.put s.cycle e := by
    subst s2
    split
    · simp [s1]
    · rfl
  clear_value s2
  have hjournal : s2.tally.journal = (s.tally.put s.cycle e).journal := congrArg TallyBlk.journal htally
  have hseq : s2.tally.seq = s.tally.seq + 1 := congrArg TallyBlk.seq htally
  split
  · exact ⟨hjournal, hseq⟩
  · exact ⟨hjournal, hseq⟩

/-- The entry at an index is read off the journal. -/
theorem at_congr {t u : TallyBlk} (h : t.journal = u.journal) (i : Nat) : t.at_ i = u.at_ i := by
  rw [TallyBlk.at_, TallyBlk.at_, h]

/-- With no drop to report an entry is all that the tally engine takes. -/
theorem tallyWrite_of_no_drops {e : Entry} {s : State} (h : s.tally.dropped = 0) : tallyWrite e s = putOrDrop e s :=
  if_neg fun hc => hc.1 h

/-- With its index not free an entry is all that the tally engine takes. -/
theorem tallyWrite_of_not_free {e : Entry} {s : State} (h : s.tally.free = false) : tallyWrite e s = putOrDrop e s :=
  if_neg fun hc => Bool.false_ne_true (h.symm.trans hc.2)

/-- An entry that finds its index taken is dropped. -/
theorem putOrDrop_of_not_free {e : Entry} {s : State} (h : s.tally.free = false) :
    putOrDrop e s = setIrq .tally 2 (bump .tally 0x02C 0 1 { s with tally := s.tally.drop }) :=
  if_neg fun hc => Bool.false_ne_true (h.symm.trans hc)

/-! ### What an entry says -/

/-- The severity of the flags of Table 13.4. -/
theorem sev_entryFlags {base sev : Nat} (oos fw : Bool) (hb : base < 4) (hs : sev < 8) :
    (entryFlags base sev oos fw).toNat / 4 % 8 = sev := by
  have h64 : base + 4 * sev + 32 * b01 oos + 64 * b01 fw < 256 := by
    cases oos <;> cases fw <;> simp only [b01, Bool.false_eq_true, if_false, if_true] <;> omega
  rw [entryFlags, BitVec.toNat_ofNat, Nat.mod_eq_of_lt h64]
  cases oos <;> cases fw <;> simp only [b01, Bool.false_eq_true, if_false, if_true] <;> omega

/-- An entry that the tally takes is in the journal. -/
theorem hasEntry_putOrDrop {e : Entry} {s : State} (h : s.tally.free = true) :
    (putOrDrop e s).hasEntry e.code.toNat e.sev e.loc e.payload = true := by
  rw [State.hasEntry, (putOrDrop_tally_of_free h).1]
  simp only [TallyBlk.put]
  rw [any_inOrder (fun _ _ _ _ => rfl), List.any_cons]
  simp [Entry.sev]

/-- An engine's entry that reaches the journal is there with its code, severity, location and payload. -/
theorem hasEntry_logAt {time : DWord} {age code sev : Nat} {loc : Word} {p : DWord} {s : State} (h : s.canLog = true)
    (hc : code < 65536) (hs : sev < 8) : (logAt time age code sev loc p s).hasEntry code sev loc p = true := by
  rw [State.canLog, Bool.and_eq_true, beq_iff_eq] at h
  obtain ⟨hfree, hdrop⟩ := h
  rw [logAt, tallyWrite_of_no_drops hdrop]
  have hmem := hasEntry_putOrDrop
    (e := mkEntry s time (entryFlags s.drvIdx.val sev (s.oosAgo s.drvIdx age) false) code loc p) hfree
  have hsev : (mkEntry s time (entryFlags s.drvIdx.val sev (s.oosAgo s.drvIdx age) false) code loc p).sev = sev :=
    sev_entryFlags _ _ s.drvIdx.isLt hs
  have hcode : (mkEntry s time (entryFlags s.drvIdx.val sev (s.oosAgo s.drvIdx age) false) code loc p).code.toNat = code := by
    rw [mkEntry, BitVec.toNat_ofNat]
    exact Nat.mod_eq_of_lt hc
  rw [hsev, hcode] at hmem
  exact hmem

/-- An engine's entry stamped now. -/
theorem hasEntry_logEv {code sev : Nat} {loc : Word} {p : DWord} {s : State} (h : s.canLog = true) (hc : code < 65536)
    (hs : sev < 8) : (logEv code sev loc p s).hasEntry code sev loc p = true := hasEntry_logAt h hc hs

/-- Whether the journal has an entry depends on the tally alone. -/
theorem hasEntry_congr {s t : State} (h : t.tally = s.tally) (code sev : Nat) (loc : Word) (p : DWord) :
    t.hasEntry code sev loc p = s.hasEntry code sev loc p := by
  rw [State.hasEntry, State.hasEntry, h]

/-- Whether the next entry reaches the journal depends on the tally alone. -/
theorem canLog_congr {s t : State} (h : t.tally = s.tally) : t.canLog = s.canLog := by
  rw [State.canLog, State.canLog, h]

end Sys2Proof.Machine

/-! ### The statement about entries -/

namespace Sys2Proof.Proofs

open Sys2Proof.Machine

/-- An entry that finds its index free. -/
theorem entry_reaches_the_tally (time : DWord) (age code sev : Nat) (loc : Word) (p : DWord) (s : State)
    (hfree : s.tally.free = true) (hdrop : s.tally.dropped = 0) (hsame : s.tally.sameN = 0 ∨ s.tally.sameAt ≠ s.cycle) :
    let e := mkEntry s time (entryFlags s.drvIdx.val sev (s.oosAgo s.drvIdx age) false) code loc p
    let t := logAt time age code sev loc p s
    t.tally.at_ (s.tally.seq.toNat % 8192) = some ⟨{ e with seq := s.tally.seq }, false⟩ ∧
      t.tally.seq = s.tally.seq + 1 ∧
      (∀ i, i ≠ s.tally.seq.toNat % 8192 → t.tally.at_ i = s.tally.at_ i) ∧
      t = { s with tally := t.tally, heads := t.heads, evt := t.evt } := by
  intro e t
  have ht : t = putOrDrop e s := tallyWrite_of_no_drops hdrop
  obtain ⟨hjournal, hseq⟩ := putOrDrop_tally_of_free (e := e) hfree
  rw [← ht] at hjournal hseq
  refine ⟨?_, hseq, fun i hi => ?_, (frame_logAt time age code sev loc p s).eq_patch⟩
  · rw [at_congr hjournal]
    exact at_put_self e hsame
  · rw [at_congr hjournal]
    exact at_put_other e hsame hi

/-- Two entries of one cycle. -/
theorem entries_of_a_cycle_in_order (e : Entry) (a : JEntry) (rest : List JEntry) (s : State)
    (hfree : s.tally.free = true) (hdrop : s.tally.dropped = 0) (hat : s.tally.sameAt = s.cycle)
    (hn : s.tally.sameN = 1) (hj : s.tally.journal = a :: rest) (harch : a.archived = false)
    (hidx : s.tally.seq.toNat % 8192 ≠ a.e.seq.toNat % 8192) :
    let t := tallyWrite e s
    (e.writer < a.e.writer →
      ∃ more, t.tally.journal = ⟨{ a.e with seq := s.tally.seq }, false⟩ :: ⟨{ e with seq := a.e.seq }, false⟩ :: more) ∧
    (a.e.writer ≤ e.writer → ∃ more, t.tally.journal = ⟨{ e with seq := s.tally.seq }, false⟩ :: a :: more) := by
  intro t
  have ht : t = putOrDrop e s := tallyWrite_of_no_drops hdrop
  have hput : t.tally.journal = inOrder 1 (⟨{ e with seq := s.tally.seq }, false⟩ :: a ::
      rest.filter fun x => x.e.seq.toNat % 8192 != s.tally.seq.toNat % 8192) := by
    have hkeep : (a.e.seq.toNat % 8192 != s.tally.seq.toNat % 8192) = true := by simpa using hidx.symm
    rw [ht, (putOrDrop_tally_of_free hfree).1]
    simp only [TallyBlk.put, hat, if_true, hn, hj]
    rw [List.filter_cons, if_pos hkeep]
  rw [hput, inOrder]
  constructor
  · intro hlt
    rw [if_pos ⟨by simp [harch], hlt⟩, inOrder]
    · exact ⟨_, rfl⟩
    · exact nofun
  · intro hle
    rw [if_neg fun h => absurd h.2 (Nat.not_lt.mpr hle)]
    exact ⟨_, rfl⟩

/-- An entry that finds its index taken. -/
theorem entry_is_dropped (e : Entry) (s : State) (h : s.tally.free = false) :
    let t := tallyWrite e s
    t.tally.journal = s.tally.journal ∧ t.tally.seq = s.tally.seq + 1 ∧ t.tally.lost = satInc s.tally.lost ∧
      t.tally.dropped = s.tally.dropped + 1 ∧ bit (t.head .tally).irq 2 = true := by
  intro t
  have ht : t = setIrq .tally 2 (bump .tally 0x02C 0 1 { s with tally := s.tally.drop }) :=
    (tallyWrite_of_not_free h).trans (putOrDrop_of_not_free h)
  have htally : t.tally = s.tally.drop := by rw [ht]; simp
  rw [htally, ht]
  exact ⟨rfl, rfl, rfl, rfl, bit_setIrq _ (by decide)⟩

/-- Settles O7: an entry by the place that is free for it, an interrupt bit by its mask. -/
theorem entriesAndInterrupts : Obligations.EntriesAndInterrupts := by
  refine ⟨entry_reaches_the_tally, entries_of_a_cycle_in_order, entry_is_dropped, fun b i s _ => ?_⟩
  refine ⟨setIrq_irq b i s, setIrq_en b i s, setIrq_err b i s, setIrq_pend, setIrq_evt_of_masked,
    fun b' hb => setIrq_head_other b b' i s fun h => hb (h ▸ rfl), setIrq_eq b i s⟩

end Sys2Proof.Proofs
end

section
/-! SUPPORT. What acts in turn within a cycle, the record of reserved writes, and the latches and held words of a requester
(R13 to R20, R560); and the statement about them. -/

namespace Sys2Proof.Machine

/-! ### What acts in turn -/

/-- Something of a later place has acted already in the cycle in progress. -/
def State.behind (s : State) (b : Block) (what rank : Nat) : Bool :=
  (s.cycNote b).turn.any fun x => x.1 == what && decide (rank < x.2)

/-- It stands behind one that acts later in the order. -/
theorem behind_iff (s : State) (b : Block) (what rank : Nat) :
    s.behind b what rank = true ↔ ∃ x ∈ (s.cycNote b).turn, x.1 = what ∧ rank < x.2 := by
  simp only [State.behind, List.any_eq_true, Bool.and_eq_true, beq_iff_eq, decide_eq_true_eq]

/-- One that stands behind a later one of the order waits for the next cycle. -/
theorem inTurn_time_of_behind {b : Block} {what rank : Nat} {s : State} (h : s.behind b what rank = true) :
    (inTurn b what rank s).time = { s.time with tb := s.time.tb.map (TimeBase.run 1) } := by
  rw [State.behind] at h
  rw [inTurn, if_pos h]
  rfl

/-- One that stands in its place acts at once. -/
theorem inTurn_time_of_not_behind {b : Block} {what rank : Nat} {s : State} (h : s.behind b what rank = false) :
    (inTurn b what rank s).time = s.time := by
  rw [State.behind] at h
  rw [inTurn, if_neg (by rw [h]; exact Bool.false_ne_true)]
  rfl

/-! ### The note of a cycle -/

/-- The note of the cycle in progress is of that cycle. -/
theorem cycNote_at (s : State) (b : Block) : (s.cycNote b).at_ = s.cycle := by
  unfold State.cycNote
  split
  case isTrue h => exact h
  case isFalse => rfl

/-- A note made in the cycle in progress stands in it. -/
theorem cycNote_modNote {b : Block} {f : CycNote → CycNote} (s : State) (hf : ∀ n, (f n).at_ = n.at_) :
    (modNote b f s).cycNote b = f (s.cycNote b) := by
  have hcycle : (modNote b f s).cycle = s.cycle := rfl
  rw [State.cycNote, modNote_head, hcycle]
  exact if_pos ((hf _).trans (cycNote_at s b))

/-- The note of a cycle that no note was made in is empty. -/
theorem wrote_cycNote_runCycles {b : Block} {n : Nat} {s : State} (h : (s.head b).cyc.at_ = s.cycle) {x : Nat × Word}
    (hx : x ∈ ((runCycles n s).cycNote b).wrote) : x ∈ (s.cycNote b).wrote := by
  rw [State.cycNote, if_pos h]
  unfold State.cycNote at hx
  split at hx
  case isTrue => exact hx
  case isFalse => exact nomatch hx

/-- One that stands behind another finds the note of the cycle in progress. -/
theorem cyc_at_of_behind {b : Block} {what rank : Nat} {s : State} (h : s.behind b what rank = true) :
    (s.head b).cyc.at_ = s.cycle := by
  by_contra hne
  rw [State.behind, State.cycNote, if_neg hne] at h
  exact Bool.false_ne_true h

/-- What is written in the cycle of one that acts in its turn was written in the cycle in which it came. -/
theorem wrote_inTurn {b : Block} {what rank : Nat} {s : State} {x : Nat × Word}
    (hx : x ∈ ((inTurn b what rank s).cycNote b).wrote) : x ∈ (s.cycNote b).wrote := by
  rw [inTurn, cycNote_modNote] at hx
  case hf => exact fun _ => rfl
  split at hx
  case isTrue h => exact wrote_cycNote_runCycles (cyc_at_of_behind (what := what) (rank := rank) h) hx
  case isFalse => exact hx

/-- No write of the cycle clears RSVD_WR, in its turn either. -/
theorem rsvdCleared_inTurn {what rank : Nat} {s : State} (h : s.rsvdCleared = false) :
    (inTurn .sys what rank s).rsvdCleared = false := by
  rw [State.rsvdCleared, List.any_eq_false] at h ⊢
  exact fun x hx => h x (wrote_inTurn hx)

/-! ### The record of a reserved write -/

/-- A flag of SYS_ERRSTAT that hardware sets, with its interrupt bit. -/
theorem sysFlag_sys (i : Nat) (s : State) :
    (sysFlag i s).sys = { s.sys with errstat := setBit s.sys.errstat i } := by
  simp [sysFlag]

/-- The record after a reserved write. -/
theorem reservedWrite_sys (rq : Requester) (addr : Nat) (s : State) :
    (reservedWrite rq addr s).sys =
      { (if bit s.sys.errstat 0 || (inTurn .sys 0x028 rq.place s).rsvdCleared then s.sys else
          { s.sys with errAddr := BitVec.ofNat 32 addr, errSrc := pack [(0, rq.code), (2, rq.core)] }) with
        errstat := setBit s.sys.errstat 0 } := by
  have hsys : (inTurn .sys 0x028 rq.place s).sys = s.sys := by simp
  rw [reservedWrite, sysFlag_sys, hsys]
  split
  · rw [hsys]
  · rfl

/-- It sets RSVD_WR. -/
theorem bit_errstat_reservedWrite (rq : Requester) (addr : Nat) (s : State) :
    bit (reservedWrite rq addr s).sys.errstat 0 = true := by
  rw [reservedWrite_sys]
  exact bit_setBit_self _ _ (by decide)

/-- It sets the interrupt bit of RSVD_WR. -/
theorem bit_irq_reservedWrite (rq : Requester) (addr : Nat) (s : State) :
    bit ((reservedWrite rq addr s).head .sys).irq 0 = true := by
  rw [reservedWrite, sysFlag]
  exact bit_setIrq _ (by decide)

/-- With RSVD_WR set or cleared in the same cycle the record of the first stands. -/
theorem reservedWrite_record_kept {rq : Requester} {addr : Nat} {s : State}
    (h : (bit s.sys.errstat 0 || (inTurn .sys 0x028 rq.place s).rsvdCleared) = true) :
    (reservedWrite rq addr s).sys.errAddr = s.sys.errAddr ∧ (reservedWrite rq addr s).sys.errSrc = s.sys.errSrc := by
  rw [reservedWrite_sys, if_pos h]
  exact ⟨rfl, rfl⟩

/-- With RSVD_WR clear the address and the writer are recorded. -/
theorem reservedWrite_recorded {rq : Requester} {addr : Nat} {s : State} (hclear : bit s.sys.errstat 0 = false)
    (hcycle : s.rsvdCleared = false) :
    (reservedWrite rq addr s).sys.errAddr = BitVec.ofNat 32 addr ∧
      (reservedWrite rq addr s).sys.errSrc = pack [(0, rq.code), (2, rq.core)] := by
  rw [reservedWrite_sys, hclear, rsvdCleared_inTurn hcycle]
  exact ⟨rfl, rfl⟩

/-! ### Latches and held words -/

/-- A requester's latch holds the words of its latest read of a low word. -/
theorem latches_latchRead_self (rq : Requester) (reg : Nat) (words : List Word) (s : State) :
    (latchRead rq reg words s).latches[rq.slot] = some ⟨reg, words⟩ := Vector.getElem_set_self rq.slot.isLt

/-- The other requesters' latches stand. -/
theorem latches_latchRead_other {rq rq' : Requester} (reg : Nat) (words : List Word) (s : State)
    (h : rq'.slot ≠ rq.slot) : (latchRead rq reg words s).latches[rq'.slot] = s.latches[rq'.slot] :=
  Vector.getElem_set_ne rq.slot.isLt rq'.slot.isLt fun e => h (Fin.ext e.symm)

/-- The word held is the one that the requester wrote last. -/
theorem held_holdWrite_self (rq : Requester) (reg : Nat) (w : Word) (s : State) :
    (holdWrite rq reg w s).held[rq.slot] = some ⟨reg, w⟩ := Vector.getElem_set_self rq.slot.isLt

/-- The other requesters' held words stand. -/
theorem held_holdWrite_other {rq rq' : Requester} (reg : Nat) (w : Word) (s : State) (h : rq'.slot ≠ rq.slot) :
    (holdWrite rq reg w s).held[rq'.slot] = s.held[rq'.slot] :=
  Vector.getElem_set_ne rq.slot.isLt rq'.slot.isLt fun e => h (Fin.ext e.symm)

/-- The write of the high word leaves no word held. -/
theorem held_dropHeld_self (rq : Requester) (s : State) : (dropHeld rq s).held[rq.slot] = none :=
  Vector.getElem_set_self rq.slot.isLt

/-- It leaves the words of the other requesters. -/
theorem held_dropHeld_other {rq rq' : Requester} (s : State) (h : rq'.slot ≠ rq.slot) :
    (dropHeld rq s).held[rq'.slot] = s.held[rq'.slot] :=
  Vector.getElem_set_ne rq.slot.isLt rq'.slot.isLt fun e => h (Fin.ext e.symm)

/-- A word held for the register is the one returned. -/
theorem heldWord_holdWrite (rq : Requester) (reg : Nat) (w : Word) (s : State) :
    heldWord rq reg (holdWrite rq reg w s) = some w := by
  simp only [heldWord, held_holdWrite_self, if_true]

/-- A word latched with the register is the one returned. -/
theorem latchedWord_latchRead (rq : Requester) (reg i : Nat) (live : Word) (words : List Word) (s : State) :
    latchedWord rq reg i live (latchRead rq reg words s) = words.getD i live := by
  simp only [latchedWord, latches_latchRead_self, if_true]

end Sys2Proof.Machine

/-! ### The statement -/

namespace Sys2Proof.Proofs

open Sys2Proof.Machine

/-- Settles O10: the record by RSVD_WR as the write finds it, the turn by the note of the cycle, latches and held words by
their slots. -/
theorem reservedWritesAndLatches : Obligations.ReservedWritesAndLatches := by
  refine ⟨fun rq addr s => ?record, fun b what rank s => ⟨fun h => ?waits, fun h => ?atOnce, inTurn_eq b what rank s⟩,
    fun rq rq' reg i w live words s => ?latches⟩
  case record =>
    exact ⟨bit_errstat_reservedWrite rq addr s, bit_irq_reservedWrite rq addr s,
      fun h => reservedWrite_record_kept (by rw [h, Bool.or_true]), reservedWrite_recorded,
      fun h => reservedWrite_record_kept (by rw [h, Bool.true_or]), reservedWrite_eq rq addr s⟩
  case waits => exact congrArg TimeBlk.tb (inTurn_time_of_behind ((behind_iff s b what rank).mpr h))
  case atOnce =>
    refine inTurn_time_of_not_behind (Bool.eq_false_iff.mpr fun hb => ?_)
    obtain ⟨x, hx, hwhat, hrank⟩ := (behind_iff s b what rank).mp hb
    exact absurd (h x hx hwhat) (Nat.not_le.mpr hrank)
  case latches =>
    refine ⟨latchedWord_latchRead rq reg i live words s, fun reg' hreg => ?_, heldWord_holdWrite rq reg w s,
      fun reg' hreg => ?_, ?_, fun hslot => ⟨?_, ?_, ?_⟩⟩
    · simp only [latchedWord, latches_latchRead_self, if_neg hreg.symm]
    · simp only [heldWord, held_holdWrite_self, if_neg hreg.symm]
    · simp only [heldWord, held_dropHeld_self]
    · simp only [latchedWord, latches_latchRead_other reg words s hslot]
    · simp only [heldWord, held_holdWrite_other reg w s hslot]
    · simp only [heldWord, held_dropHeld_other s hslot]

end Sys2Proof.Proofs
end

section
/-! SUPPORT. Entries of a vector after one of them is rewritten, folds over units that each act on their own, and what
hardware adds to event lines, interrupt bits and the journal. -/

namespace Sys2Proof.Machine

/-! ### A command of a powered module -/

/-- A command of a powered domain answers its operation. -/
theorem next_whenOn {f : State → State} {s : State} (hp : s.powered = true) :
    (.next (whenOn f s) : Host.Outcome State Fault Refusal) = .next (f s) := congrArg Host.Outcome.next (whenOn_powered f s hp)

/-- A module in RUN is powered. -/
theorem powered_of_run {s : State} (h : s.pwr.mode = .run) : s.powered = true := by
  simp only [State.powered, h]

/-! ### Entries of a vector -/

section
variable {α β : Type} {n : Nat}

/-- The entry that is rewritten. -/
@[simp] theorem upd_self (v : Vector α n) (i : Fin n) (f : α → α) : (upd v i f)[i] = f v[i] :=
  Vector.getElem_set_self i.isLt

/-- The other entries stand. -/
theorem upd_other (v : Vector α n) {i j : Fin n} (f : α → α) (h : j ≠ i) : (upd v i f)[j] = v[j] :=
  Vector.getElem_set_ne i.isLt j.isLt fun e => h (Fin.ext e.symm)

/-- The entry that is replaced. -/
theorem set_self (v : Vector α n) (i : Fin n) (x : α) : (v.set i x)[i] = x := Vector.getElem_set_self i.isLt

/-- The other entries stand. -/
theorem set_other (v : Vector α n) {i j : Fin n} (x : α) (h : j ≠ i) : (v.set i x)[j] = v[j] :=
  Vector.getElem_set_ne i.isLt j.isLt fun e => h (Fin.ext e.symm)

/-- The entry that is rewritten, by its number. -/
theorem updNat_self (v : Vector α n) (i : Fin n) {k : Nat} (f : α → α) (h : k = i.val) : (updNat v k f)[i] = f v[i] := by
  subst h
  rw [updNat, dif_pos i.isLt]
  exact Vector.getElem_set_self i.isLt

/-- The other entries stand. -/
theorem updNat_other (v : Vector α n) (i : Fin n) {k : Nat} (f : α → α) (h : k ≠ i.val) : (updNat v k f)[i] = v[i] := by
  unfold updNat
  split
  case isTrue hk => exact Vector.getElem_set_ne hk i.isLt h
  case isFalse => rfl

/-- An entry of a vector whose entries are all rewritten, each by its place. -/
@[simp] theorem mapUnits_getElem (v : Vector α n) (f : Fin n → α → β) (i : Fin n) : (mapUnits v f)[i] = f i v[i] :=
  Vector.getElem_ofFn i.isLt

/-- An entry of a vector whose entries are all rewritten. -/
theorem map_getElem (v : Vector α n) (f : α → β) (i : Fin n) : (v.map f)[i] = f v[i] := Vector.getElem_map f i.isLt

/-- An entry by its number. -/
theorem getNat_fin (v : Vector α n) (i : Fin n) (d : α) : getNat v i.val d = v[i] := by
  have hlen : i.val < v.toList.length := by simp
  rw [getNat, List.getD_eq_getElem?_getD, List.getElem?_eq_getElem hlen]
  simp

end

/-! ### Folds -/

section
variable {σ ι : Type} {f : σ → ι → σ}

/-- What every action of a fold keeps, the fold keeps. -/
theorem foldl_keeps {α : Type} {g : σ → α} {l : List ι} (h : ∀ s, ∀ k ∈ l, g (f s k) = g s) (s : σ) :
    g (l.foldl f s) = g s := by
  induction l generalizing s with
  | nil => rfl
  | cons k l ih =>
    rw [List.foldl_cons, ih fun s j hj => h s j (List.mem_cons_of_mem k hj)]
    exact h s k List.mem_cons_self

/-- A predicate that every action of a fold keeps. -/
theorem foldl_invariant {P : σ → Prop} {l : List ι} (h : ∀ s, ∀ k ∈ l, P s → P (f s k)) {s : σ} (hs : P s) :
    P (l.foldl f s) := by
  induction l generalizing s with
  | nil => exact hs
  | cons k l ih => exact ih (fun s j hj => h s j (List.mem_cons_of_mem k hj)) (h s k List.mem_cons_self hs)

/-- In a fold over different units the action of a unit brings about what the others' leave. -/
theorem foldl_establishes {P Q : σ → Prop} {l : List ι} {k : ι} (hk : k ∈ l) (hnodup : l.Nodup)
    (hmake : ∀ s, Q s → P (f s k)) (hQ : ∀ s, ∀ j ∈ l, j ≠ k → Q s → Q (f s j))
    (hP : ∀ s, ∀ j ∈ l, j ≠ k → P s → P (f s j)) {s : σ} (hs : Q s) : P (l.foldl f s) := by
  induction l generalizing s with
  | nil => exact nomatch hk
  | cons a l ih =>
    obtain ⟨ha, hl⟩ := List.nodup_cons.mp hnodup
    rw [List.foldl_cons]
    rcases List.mem_cons.mp hk with rfl | hk
    · have hne : ∀ j ∈ l, j ≠ k := fun j hj e => ha (e ▸ hj)
      exact foldl_invariant (fun s j hj => hP s j (List.mem_cons_of_mem k hj) (hne j hj)) (hmake s hs)
    · have hne : a ≠ k := fun e => ha (e ▸ hk)
      exact ih hk hl (fun s j hj => hQ s j (List.mem_cons_of_mem a hj)) (fun s j hj => hP s j (List.mem_cons_of_mem a hj))
        (hQ s a List.mem_cons_self hne hs)

end

/-! ### What hardware adds -/

/-- A journal entry that says this. -/
def JEntry.says (code sev : Nat) (loc : Word) (p : DWord) (x : JEntry) : Bool :=
  x.e.code.toNat == code && x.e.sev == sev && x.e.loc == loc && x.e.payload == p

/-- The entries that no archived entry precedes: none of them gives its index to a newer entry (R352). -/
def recent (js : List JEntry) : List JEntry := js.takeWhile fun x => !x.archived

/-- Such an entry says this. -/
def State.logged (s : State) (code sev : Nat) (loc : Word) (p : DWord) : Prop :=
  (recent s.tally.journal).any (JEntry.says code sev loc p) = true

/-- The order within a cycle moves recent entries among recent entries. -/
theorem any_recent_inOrder (code sev : Nat) (loc : Word) (p : DWord) (n : Nat) (a : JEntry) (js : List JEntry)
    (ha : a.archived = false) : (recent (inOrder n (a :: js))).any (JEntry.says code sev loc p) =
      (JEntry.says code sev loc p a || (recent js).any (JEntry.says code sev loc p)) := by
  have hcons (b : JEntry) (l : List JEntry) (hb : b.archived = false) : recent (b :: l) = b :: recent l := by
    rw [recent, List.takeWhile_cons, hb]
    rfl
  induction n generalizing a js with
  | zero =>
    rw [inOrder, hcons a js ha, List.any_cons]
    exact nofun
  | succ n ih =>
    match js with
    | [] => simp [inOrder, hcons a [] ha]
    | b :: js =>
      rw [inOrder]
      split
      case isTrue h =>
        have hb : b.archived = false := by simpa using h.1
        rw [hcons _ _ rfl, List.any_cons, ih ⟨{ a.e with seq := b.e.seq }, a.archived⟩ js ha, hcons b js hb, List.any_cons]
        exact Bool.or_left_comm _ _ _
      case isFalse => rw [hcons a _ ha, List.any_cons]

/-- An entry that is put at a free index leaves the recent entries. -/
theorem recent_put {c : Nat × Nat × Nat} (e : Entry) {t : TallyBlk} (hfree : t.free = true) {code sev : Nat} {loc : Word}
    {p : DWord} (h : (recent t.journal).any (JEntry.says code sev loc p) = true) :
    (recent (t.put c e).journal).any (JEntry.says code sev loc p) = true := by
  obtain ⟨x, hx, hsays⟩ := List.any_eq_true.mp h
  have hidx : ∀ y ∈ recent t.journal, y.e.seq.toNat % 8192 ≠ t.seq.toNat % 8192 := by
    have hfirst (js : List JEntry) (y : JEntry) (hy : y ∈ recent js) (i : Nat) (hi : y.e.seq.toNat % 8192 = i) :
        ∃ z, js.find? (fun z => z.e.seq.toNat % 8192 == i) = some z ∧ z.archived = false := by
      induction js with
      | nil => exact nomatch hy
      | cons b js ih =>
        rw [recent, List.takeWhile_cons] at hy
        split at hy
        case isFalse => exact nomatch hy
        case isTrue hb =>
          by_cases hbi : b.e.seq.toNat % 8192 = i
          · exact ⟨b, List.find?_cons_of_pos (beq_iff_eq.mpr hbi), by simpa using hb⟩
          · rw [List.find?_cons_of_neg (by simpa using hbi)]
            rcases List.mem_cons.mp hy with rfl | hy
            · exact absurd hi hbi
            · exact ih hy
    intro y hy hi
    obtain ⟨z, hz, harch⟩ := hfirst t.journal y hy _ hi
    rw [TallyBlk.free, TallyBlk.at_, hz] at hfree
    exact Bool.false_ne_true (harch.symm.trans hfree)
  have hkeep (js : List JEntry) (hall : ∀ y ∈ recent js, y.e.seq.toNat % 8192 ≠ t.seq.toNat % 8192) (hx : x ∈ recent js) :
      x ∈ recent (js.filter fun y => y.e.seq.toNat % 8192 != t.seq.toNat % 8192) := by
    induction js with
    | nil => exact nomatch hx
    | cons b js ih =>
      rw [recent, List.takeWhile_cons] at hx hall
      split at hx
      case isFalse => exact nomatch hx
      case isTrue hb =>
        rw [if_pos hb] at hall
        have hbi := hall b List.mem_cons_self
        rw [List.filter_cons_of_pos (by simpa using hbi), recent, List.takeWhile_cons, if_pos hb]
        rcases List.mem_cons.mp hx with rfl | hx
        · exact List.mem_cons_self
        · exact List.mem_cons_of_mem _ (ih (fun y hy => hall y (List.mem_cons_of_mem _ hy)) hx)
  simp only [TallyBlk.put]
  rw [any_recent_inOrder _ _ _ _ _ _ _ rfl, List.any_eq_true.mpr ⟨x, hkeep _ hidx hx, hsays⟩, Bool.or_true]

/-- A recent entry is an entry of the journal. -/
theorem hasEntry_of_logged {s : State} {code sev : Nat} {loc : Word} {p : DWord} (h : s.logged code sev loc p) :
    s.hasEntry code sev loc p = true := by
  obtain ⟨x, hx, hsays⟩ := List.any_eq_true.mp h
  exact List.any_eq_true.mpr ⟨x, (List.takeWhile_sublist _).subset hx, hsays⟩

/-- An entry that reaches the journal is a recent one. -/
theorem logged_logAt {time : DWord} {age code sev : Nat} {loc : Word} {p : DWord} {s : State} (h : s.canLog = true)
    (hc : code < 65536) (hs : sev < 8) : (logAt time age code sev loc p s).logged code sev loc p := by
  rw [State.canLog, Bool.and_eq_true, beq_iff_eq] at h
  obtain ⟨hfree, hdrop⟩ := h
  unfold logAt
  rw [tallyWrite_of_no_drops hdrop, State.logged, (putOrDrop_tally_of_free hfree).1]
  simp only [TallyBlk.put]
  rw [any_recent_inOrder _ _ _ _ _ _ _ rfl, Bool.or_eq_true]
  refine .inl ?_
  have hsev : (mkEntry s time (entryFlags s.drvIdx.val sev (s.oosAgo s.drvIdx age) false) code loc p).sev = sev :=
    sev_entryFlags _ _ s.drvIdx.isLt hs
  have hcode : (mkEntry s time (entryFlags s.drvIdx.val sev (s.oosAgo s.drvIdx age) false) code loc p).code.toNat = code := by
    rw [mkEntry, BitVec.toNat_ofNat]
    exact Nat.mod_eq_of_lt hc
  simp only [JEntry.says, Bool.and_eq_true, beq_iff_eq]
  exact ⟨⟨⟨hcode, hsev⟩, rfl⟩, rfl⟩

/-- An engine's entry stamped now is a recent one. -/
theorem logged_logEv {code sev : Nat} {loc : Word} {p : DWord} {s : State} (h : s.canLog = true) (hc : code < 65536)
    (hs : sev < 8) : (logEv code sev loc p s).logged code sev loc p := logged_logAt h hc hs

/-- Every event line that is pending in `s` is pending in `t`, every interrupt bit set in `s` is set in `t`, and the recent
entries of `s` are recent entries of `t`. -/
structure Grows (s t : State) : Prop where
  pend : ∀ n, s.evt.pend.getLsbD n = true → t.evt.pend.getLsbD n = true
  irq : ∀ b i, bit (s.head b).irq i = true → bit (t.head b).irq i = true
  entries : ∀ {code sev loc p}, s.logged code sev loc p → t.logged code sev loc p

/-- An operation after another. -/
theorem Grows.step {s t u : State} (k : Grows t u) (h : Grows s t) : Grows s u :=
  ⟨fun n hn => k.pend n (h.pend n hn), fun b i hb => k.irq b i (h.irq b i hb), fun he => k.entries (h.entries he)⟩

/-- An operation that leaves the event lines, the interrupt bits and the journal. -/
theorem grows_of_irq {s t : State} (he : t.evt = s.evt) (hh : ∀ b, (t.head b).irq = (s.head b).irq)
    (hj : t.tally.journal = s.tally.journal) : Grows s t :=
  ⟨fun n hn => by rw [he]; exact hn, fun b i hb => by rw [hh]; exact hb, fun h => by rw [State.logged, hj]; exact h⟩

/-- An operation that leaves the event lines, the head registers and the journal. -/
theorem grows_of_same {s t : State} (he : t.evt = s.evt) (hh : t.heads = s.heads)
    (hj : t.tally.journal = s.tally.journal) : Grows s t :=
  grows_of_irq he (fun b => by rw [State.head, State.head, hh]) hj

/-- Such an operation after another. -/
theorem Grows.of_same {s t u : State} (h : Grows s t) (he : u.evt = t.evt) (hh : u.heads = t.heads)
    (hj : u.tally.journal = t.tally.journal) : Grows s u :=
  (grows_of_same he hh hj).step h

/-- An operation whose frame leaves them. -/
theorem Frame.grows {m : Nat} {s t : State} (h : Frame m s t) (hh : m.testBit 4 = false) (he : m.testBit 8 = false)
    (ht : m.testBit 18 = false) : Grows s t :=
  grows_of_same (h.evt he) (h.heads hh) (by rw [h.tally ht])

/-- Nothing happens. -/
theorem Grows.refl (s : State) : Grows s s := grows_of_same rfl rfl rfl

/-- Both branches. -/
theorem Grows.ite {c : Prop} [Decidable c] {s a b : State} (ha : Grows s a) (hb : Grows s b) :
    Grows s (if c then a else b) := by
  split
  · exact ha
  · exact hb

/-- A fold. -/
theorem Grows.foldl {ι : Type} {f : State → ι → State} (h : ∀ s k, Grows s (f s k)) (l : List ι) (s : State) :
    Grows s (l.foldl f s) :=
  foldl_invariant (P := Grows s) (fun t k _ ht => (h t k).step ht) (Grows.refl s)

/-- A note of the cycle in progress. -/
theorem grows_modNote (b : Block) (f : CycNote → CycNote) (s : State) : Grows s (modNote b f s) := by
  refine grows_of_irq rfl (fun c => ?_) rfl
  by_cases h : b = c
  · subst h
    rw [modNote_head]
  · rw [modNote_head_other b c f s h]

/-- A counter that rises. -/
theorem grows_bump (b : Block) (off lo n : Nat) (s : State) : Grows s (bump b off lo n s) := grows_modNote b _ s

/-- An error bit. -/
theorem grows_setErr (b : Block) (i : Nat) (s : State) : Grows s (setErr b i s) := by
  refine grows_of_irq rfl (fun c => ?_) rfl
  by_cases h : b = c
  · subst h
    exact setErr_irq b i s
  · rw [setErr_head_other b c i s h]

/-- Hardware that makes a line pending clears none. -/
theorem grows_raiseLine (n : Nat) (s : State) : Grows s (raiseLine n s) := by
  refine ⟨fun i hi => ?_, fun _ _ h => h, fun h => h⟩
  change (setBit s.evt.pend n).getLsbD i = true
  rw [getLsbD_setBit, hi, Bool.true_or]

/-- A refresh clears no line. -/
theorem grows_refreshLine (b : Block) (s : State) : Grows s (refreshLine b s) :=
  Grows.ite (Grows.refl s) (grows_raiseLine _ s)

/-- An interrupt bit clears none. -/
theorem grows_setIrq (b : Block) (i : Nat) (s : State) : Grows s (setIrq b i s) := by
  have htally : (setIrq b i s).tally.journal = s.tally.journal := by rw [(frame_setIrq b i s).tally rfl]
  refine ⟨fun n hn => ?_, fun c j h => ?_, fun h => ?_⟩
  · unfold setIrq
    exact (grows_refreshLine b _).pend n hn
  · by_cases hbc : b = c
    · subst hbc
      rw [setIrq_irq]
      exact bit_setBit_mono _ _ _ h
    · rw [setIrq_head_other b c i s hbc]
      exact h
  · rw [State.logged, htally]
    exact h

/-- An entry leaves the recent ones. -/
theorem grows_putOrDrop (e : Entry) (s : State) : Grows s (putOrDrop e s) := by
  unfold putOrDrop
  split
  case isFalse => exact (grows_setIrq .tally 2 _).step ((grows_bump _ _ _ _ _).step (grows_of_same rfl rfl rfl))
  case isTrue hfree =>
    extract_lets s1 s2
    have hs1 : Grows s s1 := ⟨fun _ h => h, fun _ _ h => h, fun h => recent_put e hfree h⟩
    have hs2 : Grows s s2 := Grows.ite ((grows_setIrq .tally 0 _).step hs1) hs1
    exact Grows.ite (hs2.of_same rfl rfl rfl) hs2

/-- So does an entry with the report of those dropped before it. -/
theorem grows_tallyWrite (e : Entry) (s : State) : Grows s (tallyWrite e s) := by
  refine Grows.ite ?_ (grows_putOrDrop e s)
  extract_lets s1
  have hs1 : Grows s s1 := (grows_putOrDrop _ _).step (grows_of_same rfl rfl rfl)
  clear_value s1
  exact (grows_putOrDrop e _).step (hs1.of_same rfl rfl rfl)

/-- An engine's entry leaves the recent ones. -/
theorem grows_logEv (code sev : Nat) (loc : Word) (p : DWord) (s : State) : Grows s (logEv code sev loc p s) :=
  grows_tallyWrite _ s

/-- So does a report limited to one in 1,000 ticks. -/
theorem grows_limited {key : Nat} {f : State → State} (h : ∀ s, Grows s (f s)) (s : State) :
    Grows s (limited key f s) :=
  Grows.ite (Grows.refl s) ((h _).step (grows_of_same rfl rfl rfl))

end Sys2Proof.Machine
end

section
/-! SUPPORT. The tick generator and the phases of a tick (R35 to R39, R70 to R75): the statements of 02_tick.md on them. -/

namespace Sys2Proof.Machine

/-! ### The start of a tick -/

/-- The reports of bursts of edges leave the channels. -/
theorem burstEntry_hsw (die : Nat) (loc : Word) (n : Nat) (s : State) : (burstEntry die loc n s).hsw = s.hsw :=
  (frame_burstEntry die loc n s).hsw rfl

/-- What counts the edges of a tick leaves the channels. -/
theorem burstAll_hsw_ch (s : State) : (burstAll s).hsw.ch = s.hsw.ch := by
  unfold burstAll
  extract_lets s1 s2
  have h1 : s1.hsw = s.hsw := foldl_keeps (g := State.hsw) (fun t k _ => burstEntry_hsw _ _ _ t) s
  have h2 : s2.hsw = s1.hsw := foldl_keeps (g := State.hsw) (fun t k _ => burstEntry_hsw _ _ _ t) s1
  have h : s2.hsw.ch = s.hsw.ch := congrArg HswBlk.ch (h2.trans h1)
  clear_value s2
  exact h

/-- The jitter that moves the start of a tick is that of the perturbation as the tick finds it. -/
theorem startTick_pert (n : Nat) (s : State) : (startTick n s).pert = (pertTick s).pert := by
  rw [startTick, (frame_beginTick n _ _).pert rfl, (frame_burstAll _).pert rfl, (frame_passToNs _ _).pert rfl]

/-- The record of the tick that starts. -/
theorem startTick_tick (n : Nat) (s : State) : ∃ start0,
    (startTick n s).tick = { s.tick with
      count := BitVec.ofNat 64 n
      startDrv := BitVec.ofNat 64 (((n * s.T : Int) + (pertTick s).pert.jit).toNat)
      startTb0 := start0, lastCount := s.tick.count, stepSum := 0, phase := .begun, stepped := false
      executed := s.tick.executed + 1 } := by
  have hcfg : (pertTick s).cfg = s.cfg := (frame_pertTick s).cfg rfl
  have htick (m : Nat) : (burstAll (passToNs m (pertTick s))).tick = s.tick := by
    rw [(frame_burstAll _).tick rfl, (frame_passToNs _ _).tick rfl, (frame_pertTick s).tick rfl]
  rw [startTick]
  simp only [beginTick, htick, State.T, hcfg]
  exact ⟨_, rfl⟩

/-- The start of a tick leaves the gates. -/
theorem startTick_hsw_ch (n : Nat) (s : State) : (startTick n s).hsw.ch = s.hsw.ch := by
  rw [startTick, (frame_beginTick n _ _).hsw rfl, burstAll_hsw_ch, (frame_passToNs _ _).hsw rfl, (frame_pertTick s).hsw rfl]

/-- In the guard band, with the driving base unmoved and no boot record due, the next tick starts. -/
theorem doTickStart_guard {s : State} (hforce : s.strct.inForce = true) (hphase : s.tick.phase = .guard)
    (hjump : s.jumping = false) (hrec : s.recordDue = false) :
    doTickStart s = startTick (s.tick.count.toNat + 1) s := by
  simp only [doTickStart, hforce, hphase, hjump, hrec, Bool.not_true, Bool.false_eq_true, if_false, or_self]

/-- The note of the first tick of a trial leaves what is neither the boot record nor the memories. -/
theorem doTickStartRow_run {s : State} (hrun : s.pwr.mode = .run) :
    Frame 1075838976 (doTickStart s) (doTickStartRow s) := by
  simp only [doTickStartRow, hrun]
  exact Frame.ite (frame_noteFirstTick _) (Frame.refl _ _)

/-! ### A stretched tick -/

/-- A base after some cycles of the timer clock. -/
theorem runCycles_tb (n : Nat) (s : State) (i : Fin 4) : (runCycles n s).time.tb[i] = TimeBase.run n s.time.tb[i] :=
  map_getElem s.time.tb (TimeBase.run n) i

/-- Time that passes takes no base out of service. -/
theorem runCycles_oos (n : Nat) (s : State) (i : Fin 4) : (runCycles n s).time.tb[i].oos = s.time.tb[i].oos := by
  rw [runCycles_tb]
  rfl

/-- A change of the driving base. -/
theorem takeSource_tick (src : Bool) (s : State) : (takeSource src s).tick = { s.tick with src := src } := by
  unfold takeSource
  split
  case isTrue h => rw [← h]
  case isFalse => rw [(frame_logTimeMap _).tick rfl, (frame_logEv _ _ _ _ _).tick rfl]

/-- The record of the tick that starts after a jump of the driving base. -/
theorem doTickStretch_tick {s : State} (hphase : s.tick.phase = .guard) (hjump : s.jumping = true)
    (hrec : s.recordDue = false) :
    let u := passTo 0 ((s.tick.startTb0.toNat + s.T) * 2 ^ 32) s
    let n := ceilDiv (u.time.tb[if s.wantsTb1 then (1 : Fin 4) else 0]).value.toNat (s.T * 2 ^ 32)
    let t := doTickStretch s
    t.tick.phase = .begun ∧ t.tick.count = BitVec.ofNat 64 n ∧ t.tick.src = s.wantsTb1 ∧
      t.tick.stretch = satInc s.tick.stretch ∧ t.tick.stepped = false := by
  intro u n t
  have hcfg : u.cfg = s.cfg := (frame_passTo _ _ s).cfg rfl
  have hwants : u.wantsTb1 = s.wantsTb1 := by
    have hoos : u.time.tb[1].oos = s.time.tb[1].oos := runCycles_oos _ s 1
    simp only [State.wantsTb1, hoos, (frame_passTo _ _ s).fab rfl, u]
  have ht : t = doTickStretch s := rfl
  unfold doTickStretch at ht
  rw [if_pos ⟨hphase, hjump, by rw [hrec]; rfl⟩] at ht
  extract_lets old s1 src n1 s2 tick2 s3 s4 s5 at ht
  have hn : n1 = n := by
    have hT : s1.T = s.T := congrArg Image.periodNs hcfg
    have hsrc : src = s.wantsTb1 := hwants
    simp only [n1, n, hT, hsrc]
    rfl
  have h4 : s4.tick = { s3.tick with src := s.wantsTb1 } :=
    (takeSource_tick src s3).trans (by rw [show src = s.wantsTb1 from hwants])
  have h3 : s3.tick = { s.tick with stretch := satInc s.tick.stretch } := by
    have hs2 : s2.tick = s.tick := ((frame_passTo _ _ _).tick rfl).trans ((frame_passTo _ _ s).tick rfl)
    have hbump : s3.tick = { s2.tick with stretch := satInc s2.tick.stretch } := (frame_bump _ _ _ _ _).tick rfl
    rw [hbump, hs2]
  have h5 : (setIrq .tick 4 s5).tick = s4.tick :=
    ((frame_setIrq _ _ _).tick rfl).trans ((frame_logEv _ _ _ _ _).tick rfl)
  obtain ⟨start0, hstart⟩ := startTick_tick n1 (setIrq .tick 4 s5)
  have hfinal : t.tick = (startTick n1 (setIrq .tick 4 s5)).tick := by
    rw [ht]
    exact (frame_swapJump _ _ _).tick rfl
  rw [hfinal, hstart, h5, h4, h3, hn]
  exact ⟨rfl, rfl, rfl, rfl, rfl⟩

/-- The frames of audio that a jump strands leave the tick. -/
theorem doStretch_tick (s : State) : (doStretch s).tick = (doTickStretch s).tick := by
  rw [doStretch]
  split
  · rfl
  · exact (frame_strandFrames _).tick rfl

end Sys2Proof.Machine

/-! ### The statement about the next tick -/

namespace Sys2Proof.Proofs

open Sys2Proof.Machine

/-- Settles O11: the next tick by the record that startTick leaves, the stretched one by the base that drives it. -/
theorem ticksBegin : Obligations.TicksBegin := by
  constructor
  · intro s hrun hforce hphase hjump hrec
    refine ⟨doTickStartRow s, next_whenOn (powered_of_run hrun), ?_⟩
    have hrow := doTickStartRow_run hrun
    rw [doTickStart_guard hforce hphase hjump hrec] at hrow
    obtain ⟨start0, htick⟩ := startTick_tick (s.tick.count.toNat + 1) s
    rw [hrow.tick rfl, hrow.pert rfl, hrow.cfg rfl, hrow.hsw rfl, hrow.sol rfl, hrow.led rfl, htick, startTick_pert,
      startTick_hsw_ch]
    have hstart := frame_startTick (s.tick.count.toNat + 1) s
    exact ⟨rfl, rfl, rfl, rfl, rfl, hstart.cfg rfl, rfl, hstart.sol rfl, hstart.led rfl⟩
  · intro s hp hphase hjump hrec u n
    refine ⟨doStretch s, next_whenOn hp, ?_⟩
    rw [doStretch_tick]
    exact doTickStretch_tick hphase hjump hrec

end Sys2Proof.Proofs
end

section
/-! SUPPORT. The phases of a tick (R28 to R31, R70 to R75), and the statement of 02_tick.md that they follow each other. -/

namespace Sys2Proof.Machine

/-! ### What a frame, an access check and a load of the shadow add -/

/-- A perturbation that acts only adds. -/
theorem grows_pertHit (k n : Nat) (s : State) : Grows s (pertHit k n s) := by
  unfold pertHit
  refine Grows.ite (Grows.refl s) ?_
  extract_lets first t
  have ht : Grows s t := (grows_bump _ _ _ _ _).step (grows_of_same rfl rfl rfl)
  exact Grows.ite ((grows_logEv _ _ _ _ t).step ht) ht

/-- A frame that leaves on a port only adds. -/
theorem grows_wire (p : Fin 2) (stomp : Bool) (f : List Byte) (s : State) : Grows s (wire p stomp f s) := by
  unfold wire
  extract_lets fcs t
  have ht : Grows s t := grows_pertHit _ _ s
  clear_value t
  exact ht.of_same rfl rfl rfl

/-- A frame that waits to be sent, or finds no room, only adds. -/
theorem grows_storeFrame (p : Fin 2) (o : OutFrame) (s : State) : Grows s (storeFrame p o s) := by
  unfold storeFrame
  extract_lets x t u
  refine Grows.ite (grows_of_same rfl rfl rfl) ?_
  have hu : Grows s u := (grows_limited (fun v => grows_logEv _ _ _ _ v) t).step
    ((grows_bump _ _ _ _ _).step (grows_of_same rfl rfl rfl))
  exact Grows.ite (hu.of_same rfl rfl rfl) hu

/-- A frame that is sent only adds. -/
theorem grows_sendOn (ps : List (Fin 2)) (best txn : Bool) (dst kind : Nat) (gen : Half) (payload : List Byte)
    (s : State) : Grows s (sendOn ps best txn dst kind gen payload s) := by
  unfold sendOn
  refine Grows.ite ?_ (Grows.refl s)
  extract_lets f t
  have ht : Grows s t := ((frame_noteFrame f _).grows rfl rfl rfl).step (grows_of_same rfl rfl rfl)
  exact (Grows.foldl (fun u p => Grows.ite (grows_storeFrame _ _ u) (grows_wire _ _ _ u)) ps t).step ht

/-- The bellwether's COMMAND only adds. -/
theorem grows_sendCommand (s : State) : Grows s (sendCommand s) := by
  unfold sendCommand
  split
  · exact Grows.ite (grows_sendOn _ _ _ _ _ _ _ s) (grows_of_same rfl rfl rfl)
  · exact Grows.refl s

/-- The watch of a sample mark only adds. -/
theorem grows_powerMark (pins : BitVec 2) (s : State) : Grows s (powerMark pins s) := by
  unfold powerMark
  extract_lets t
  exact (grows_sendCommand _).step (Grows.ite (grows_of_same rfl rfl rfl) (grows_of_same rfl rfl rfl))

/-- A slot that refuses its use only adds. -/
theorem grows_refuseBlock (k flag : Nat) (s : State) : Grows s (refuseBlock k flag s) :=
  Grows.ite (Grows.refl s) ((grows_logEv _ _ _ _ _).step (grows_of_same rfl rfl rfl))

/-- The check of the access keys only adds. -/
theorem grows_accCheck (s : State) : Grows s (accCheck s) := by
  unfold accCheck
  extract_lets bad was t
  have ht : Grows s t := grows_of_same rfl rfl rfl
  clear_value t
  refine Grows.ite ht (Grows.of_same (Grows.ite ht ?_) rfl rfl rfl)
  exact (grows_refuseBlock _ _ _).step ((grows_logEv _ _ _ _ t).step ht)

/-- A controller that becomes error passive or active only adds. -/
theorem grows_notePassive (k : Fin 6) (was : Bool) (s : State) : Grows s (notePassive k was s) := by
  unfold notePassive
  extract_lets now t
  refine Grows.ite (Grows.refl s) ?_
  have ht : Grows s t := grows_logEv _ _ _ _ s
  exact Grows.ite ((grows_setIrq _ _ t).step ht) ht

/-- A change of a transceiver's state only adds. -/
theorem grows_setTrx (k : Fin 6) (v : Fin 4) (at_ : Nat) (s : State) : Grows s (setTrx k v at_ s) := by
  unfold setTrx
  extract_lets c t
  refine Grows.ite (Grows.refl s) ?_
  have ht : Grows s t := (grows_logEv _ _ _ _ _).step (grows_of_same rfl rfl rfl)
  exact Grows.ite ((grows_notePassive _ _ _).step (ht.of_same rfl rfl rfl)) ht

/-- The first commit of the message buses only adds. -/
theorem grows_mbusFirstCommit (s : State) : Grows s (mbusFirstCommit s) := by
  unfold mbusFirstCommit
  refine Grows.ite (Grows.refl s) ?_
  extract_lets t
  have ht : Grows s t := by
    refine Grows.foldl (fun u k => Grows.ite ?_ (Grows.refl u)) _ s
    exact (grows_setTrx _ _ _ _).step (grows_of_same rfl rfl rfl)
  clear_value t
  exact ht.of_same rfl rfl rfl

/-- A load of the shadow only adds. -/
theorem grows_loadShadow (slot : Bool) (s : State) : Grows s (loadShadow slot s) := by
  unfold loadShadow
  extract_lets b reason t
  have ht : Grows s t := grows_of_same rfl rfl rfl
  refine Grows.ite (ht.of_same rfl rfl rfl) ?_
  have himage (k : Nat) (u : State) : Grows u (refuseImage k u) :=
    Grows.ite (Grows.refl u) (Grows.ite (grows_refuseBlock _ _ u)
      (Grows.ite (grows_refuseBlock _ _ u) (Grows.refl u)))
  unfold rejectEntries
  extract_lets b' u
  have hu : Grows s u := (Grows.ite (himage _ _) (Grows.refl _)).step (ht.of_same rfl rfl rfl)
  exact (grows_setIrq _ _ _).step ((grows_logEv _ _ _ _ u).step hu)

/-! ### The sample mark -/

/-- The sample mark opens the engine phase and raises its line. -/
theorem doSampleMark_begun (m : Sample) {s : State} (hphase : s.tick.phase = .begun) (hswap : s.swapDue = false)
    (hact : s.activationDue = false) :
    (doSampleMark m s).tick.phase = .engine ∧ (doSampleMark m s).evt.pend.getLsbD 25 = true := by
  have hgo : ¬(s.tick.phase ≠ .begun ∨ s.swapDue = true ∨ s.activationDue = true) := by
    rw [hswap, hact]
    simp [hphase]
  unfold doSampleMark
  rw [if_neg hgo]
  exact ⟨rfl, raiseLine_pend 25 _ (by decide)⟩

/-! ### The core window -/

/-- The opening of the core window starts a loaded tick program at its entry. -/
theorem startTickCore_self {k : Fin 4} {s : State} (h : s.tick.tc[k] ≠ .notLoaded ∨ s.upd.tpStat[k] = 2) :
    (startTickCore s k).tick.tc[k] = .running ∧
      ((startTickCore s k).cpu ⟨k.val + 1, by omega⟩).pc = s.cfg.proof[k].entry := by
  rw [startTickCore, if_pos h]
  exact ⟨set_self _ _ _, congrArg Cpu.pc (upd_self s.core.cpu _ _)⟩

/-- It leaves the other cores' states. -/
theorem startTickCore_other {j k : Fin 4} (s : State) (h : j ≠ k) :
    (startTickCore s j).tick.tc[k] = s.tick.tc[k] ∧
      (startTickCore s j).cpu ⟨k.val + 1, by omega⟩ = s.cpu ⟨k.val + 1, by omega⟩ := by
  have hcpu : (⟨k.val + 1, by omega⟩ : Fin 5) ≠ ⟨j.val + 1, by omega⟩ := fun e => h (Fin.ext (by
    have hval := congrArg Fin.val e
    dsimp only at hval
    omega))
  unfold startTickCore
  split
  · exact ⟨set_other _ _ h.symm, upd_other s.core.cpu _ hcpu⟩
  · exact ⟨rfl, rfl⟩

/-- The tick cores start one after the other, each by its own program. -/
theorem foldl_startTickCore {g : Image} {k : Fin 4} {s : State}
    (h : (s.tick.tc[k] ≠ .notLoaded ∨ s.upd.tpStat[k] = 2) ∧ s.cfg = g) :
    ((List.finRange 4).foldl startTickCore s).tick.tc[k] = .running ∧
      (((List.finRange 4).foldl startTickCore s).cpu ⟨k.val + 1, by omega⟩).pc = g.proof[k].entry := by
  apply foldl_establishes (f := startTickCore) (k := k) (l := List.finRange 4)
    (Q := fun u => (u.tick.tc[k] ≠ .notLoaded ∨ u.upd.tpStat[k] = 2) ∧ u.cfg = g)
    (P := fun u => u.tick.tc[k] = .running ∧ (u.cpu ⟨k.val + 1, by omega⟩).pc = g.proof[k].entry)
    (List.mem_finRange k) (List.nodup_finRange 4) ?_ ?_ ?_ h
  · intro u ⟨hu, hc⟩
    rw [← hc]
    exact startTickCore_self hu
  · intro u j _ hj ⟨hu, hc⟩
    have hframe := frame_startTickCore u j
    rw [(startTickCore_other u hj).1, hframe.upd rfl, hframe.cfg rfl]
    exact ⟨hu, hc⟩
  · intro u j _ hj hu
    rw [(startTickCore_other u hj).1, (startTickCore_other u hj).2]
    exact hu

/-- The opening of the core window starts every loaded tick program at its entry. -/
theorem doCoreWindowOpen_starts {k : Fin 4} {s : State} (hphase : s.tick.phase = .engine)
    (h : s.tick.tc[k] ≠ .notLoaded ∨ s.upd.tpStat[k] = 2) :
    (doCoreWindowOpen s).tick.tc[k] = .running ∧
      ((doCoreWindowOpen s).cpu ⟨k.val + 1, by omega⟩).pc = s.cfg.proof[k].entry := by
  unfold doCoreWindowOpen
  rw [if_neg (not_not.mpr hphase)]
  extract_lets t
  have htick : t.tick = s.tick := (frame_passInTick 2 64 s).tick rfl
  have hupd : t.upd = s.upd := (frame_passInTick 2 64 s).upd rfl
  have hcfg : t.cfg = s.cfg := (frame_passInTick 2 64 s).cfg rfl
  clear_value t
  have htc : (t.tick.tc[k] ≠ .notLoaded ∨ t.upd.tpStat[k] = 2) ∧ t.cfg = s.cfg := by
    rw [hupd, htick]
    exact ⟨h, hcfg⟩
  exact foldl_startTickCore htc

/-- It opens the core phase. -/
theorem doCoreWindowOpen_phase {s : State} (hphase : s.tick.phase = .engine) :
    (doCoreWindowOpen s).tick.phase = .core := by
  unfold doCoreWindowOpen
  rw [if_neg (not_not.mpr hphase)]
  extract_lets t
  clear_value t
  refine (foldl_keeps (g := fun u : State => u.tick.phase) (fun u k _ => ?_) _).trans rfl
  unfold startTickCore
  split
  · rfl
  · rfl

/-! ### The envelope phase -/

/-- A tick program that overruns is stopped. -/
theorem overrun_tc (k : Fin 4) (s : State) : (overrun k s).tick.tc = s.tick.tc.set k .stopped := by
  unfold overrun
  extract_lets n t tick u
  have hu : u.tick.tc = s.tick.tc.set k .stopped := rfl
  rw [(frame_setIrq _ _ _).tick rfl, (frame_logEv _ _ _ _ u).tick rfl]
  exact hu

/-- The overrun of a core stops its program. -/
theorem overrun_tc_self (k : Fin 4) (s : State) : (overrun k s).tick.tc[k] = .stopped := by
  simp only [overrun_tc, set_self]

/-- The overrun of a core leaves the other cores' programs. -/
theorem overrun_tc_other {j k : Fin 4} (s : State) (h : j ≠ k) : (overrun j s).tick.tc[k] = s.tick.tc[k] := by
  simp only [overrun_tc, set_other _ _ h.symm]

/-- What stops the tick programs that still run when the envelope phase opens. -/
def stopRunning (s : State) (k : Fin 4) : State := if s.tick.tc[k] = .running then overrun k s else s

/-- No tick program runs behind it. -/
theorem foldl_stopRunning_tc (s : State) (k : Fin 4) : ((List.finRange 4).foldl stopRunning s).tick.tc[k] ≠ .running := by
  apply foldl_establishes (f := stopRunning) (k := k) (l := List.finRange 4) (Q := fun _ => True)
    (P := fun u => u.tick.tc[k] ≠ .running) (List.mem_finRange k)
    (List.nodup_finRange 4) (fun u _ => ?_) (fun _ _ _ _ h => h) (fun u j _ hj hu => ?_) trivial
  · unfold stopRunning
    split
    case isTrue =>
      rw [overrun_tc_self]
      decide
    case isFalse h => exact h
  · unfold stopRunning
    split
    · rw [overrun_tc_other u hj]
      exact hu
    · exact hu

/-- No withdrawal for an output is new, and a command is new for a solenoid alone. -/
def OutReleased (o : Nat) (x : OutState) : Prop :=
  ∀ src : Fin 16, x.fresh[src] ≠ .wdraw ∧ (o < 96 ∨ 112 ≤ o → x.fresh[src] = .none)

/-- The same of every output. -/
def OnlyReleased (s : State) : Prop := ∀ o : Fin 256, OutReleased o.val s.hurdle.out[o]

/-- The record of one output is rewritten, and the others stand. -/
theorem modOut_out (n : Nat) (f : OutState → OutState) (s : State) (o : Fin 256) :
    (modOut n f s).hurdle.out[o] = if n = o.val then f s.hurdle.out[o] else s.hurdle.out[o] := by
  split
  case isTrue h => exact updNat_self s.hurdle.out o f h
  case isFalse h => exact updNat_other s.hurdle.out o f h

/-- A command that is new for a solenoid. -/
theorem outReleased_cmd {o : Nat} {x : OutState} (src : Fin 16) (w : Word) (ho : 96 ≤ o ∧ o < 112) (h : OutReleased o x) :
    OutReleased o { x with fresh := x.fresh.set src (.cmd w) } := by
  intro src'
  refine ⟨?_, fun hne => absurd hne (by omega)⟩
  by_cases hsrc : src' = src
  · subst hsrc
    change (x.fresh.set src' (.cmd w))[src'] ≠ _
    rw [set_self]
    exact nofun
  · change (x.fresh.set src (.cmd w))[src'] ≠ _
    rw [set_other _ _ hsrc]
    exact (h src').1

/-- A delayed command that its tick releases is a solenoid's. -/
theorem onlyReleased_doDelayedCmdRelease (k src : Fin 16) {s : State} (h : OnlyReleased s) :
    OnlyReleased (doDelayedCmdRelease k src s) := by
  unfold doDelayedCmdRelease
  split
  · exact h
  · split
    case isFalse => exact h
    case isTrue =>
      intro o
      rw [modOut_out]
      split
      case isFalse => exact h o
      case isTrue ho =>
        split
        · exact outReleased_cmd src _ (by omega) (h o)
        · exact h o

/-- The delayed commands that their tick releases are the solenoids'. -/
theorem onlyReleased_releaseDelayed {s : State} (h : OnlyReleased s) : OnlyReleased (releaseDelayed s) := by
  apply foldl_invariant (P := OnlyReleased) _ h
  intro t k _ ht
  apply foldl_invariant (P := OnlyReleased) _ ht
  exact fun _ src _ => onlyReleased_doDelayedCmdRelease k src

/-- The record of an output whose records are all rewritten. -/
theorem mapOuts_out (f : Nat → OutState → OutState) (s : State) (o : Fin 256) :
    (mapOuts f s).hurdle.out[o] = f o.val s.hurdle.out[o] := mapUnits_getElem s.hurdle.out _ o

/-- With the intake closed no command is new. -/
theorem onlyReleased_cleared (s : State) :
    OnlyReleased (mapOuts (fun _ x => { x with fresh := Vector.replicate 16 .none }) s) := by
  intro o src
  rw [mapOuts_out]
  have hnone : (Vector.replicate 16 Fresh.none)[src] = .none := Vector.getElem_replicate src.isLt
  refine ⟨fun h => ?_, fun _ => hnone⟩
  exact nomatch hnone.symm.trans h

/-- Whether tick programs run is read off their states. -/
theorem tc_ne_running_congr {t u : TickBlk} (h : t.tc = u.tc) (hu : ∀ k : Fin 4, u.tc[k] ≠ .running) (k : Fin 4) :
    t.tc[k] ≠ .running := by
  simp only [h]
  exact hu k

/-- The record of the tick as the envelope phase leaves it. -/
theorem releaseDelayed_set_phase (s : State) (l : LedBlk) (t : TickBlk) (p : Phase) :
    (releaseDelayed { s with led := l, tick := { t with phase := p } }).tick = { t with phase := p } ∧
      (releaseDelayed { s with led := l, tick := { t with phase := p } }).tick.tc = t.tc := by
  have htick := (frame_releaseDelayed { s with led := l, tick := { t with phase := p } }).tick rfl
  exact ⟨htick, by rw [htick]⟩

/-- What is new for the outputs is read off the command path. -/
theorem onlyReleased_congr {s t : State} (e : t.hurdle = s.hurdle) (h : OnlyReleased s) : OnlyReleased t := by
  unfold OnlyReleased
  rw [e]
  exact h

/-- The envelope phase opens, stops every tick program that runs and closes the intake. -/
theorem doEnvelopePhase_core {s : State} (hphase : s.tick.phase = .core) :
    (doEnvelopePhase s).tick.phase = .envelope ∧ (∀ k : Fin 4, (doEnvelopePhase s).tick.tc[k] ≠ .running) ∧
      OnlyReleased (doEnvelopePhase s) := by
  generalize ht : doEnvelopePhase s = t
  unfold doEnvelopePhase at ht
  rw [if_neg (not_not.mpr hphase)] at ht
  extract_lets s1 s2 s3 s4 s5 s6 s7 s8 s9 s10 s11 s12 tick12 led12 at ht
  have hstop : s2 = (List.finRange 4).foldl stopRunning s1 := rfl
  have hs2 : ∀ k : Fin 4, s2.tick.tc[k] ≠ .running := by
    rw [hstop]
    exact foldl_stopRunning_tc s1
  clear_value s2
  have h3 : s3.tick = s2.tick := foldl_keeps (g := State.tick) (fun t l _ => (frame_chainTake l t).tick rfl) s2
  clear_value s3
  have h4 : s4.tick = s3.tick := foldl_keeps (g := State.tick) (fun t o _ => (frame_peerCmd o t).tick rfl) s3
  clear_value s4
  have h5 : s5.tick = s4.tick :=
    ((frame_closeIntake _).tick rfl).trans (((frame_sessionTick _).tick rfl).trans ((frame_mapTimeouts _).tick rfl))
  clear_value s5
  have h6 : s6.tick = s5.tick := (frame_endEscs _).tick rfl
  clear_value s6
  have h7 : s7.tick = s6.tick := foldl_keeps (g := State.tick) (fun t o _ => (frame_arbitrate o t).tick rfl) s6
  clear_value s7
  have h8 : s8.tick = s7.tick := (frame_copyGroups _).tick rfl
  clear_value s8
  have h10 : s10.tick = s8.tick := ((frame_logHold _ _ _ _ _).tick rfl).trans ((frame_logHold _ _ _ _ _).tick rfl)
  clear_value s9 s10
  have h11 : s11.tick = s10.tick := ((frame_copyGroups _).tick rfl).trans ((frame_hurdle _).tick rfl)
  clear_value s11
  have h12 : s12.tick = s2.tick :=
    ((frame_mapOuts _ _).tick rfl).trans (h11.trans (h10.trans (h8.trans (h7.trans (h6.trans (h5.trans (h4.trans h3)))))))
  have hcleared : OnlyReleased s12 := onlyReleased_cleared s11
  have htc : tick12.tc = s2.tick.tc := congrArg TickBlk.tc h12
  clear_value tick12 led12 s12
  subst ht
  refine ⟨?_, fun k => ?_,
    onlyReleased_releaseDelayed (onlyReleased_congr ((frame_set_tick_led s12 _ _).hurdle rfl) hcleared)⟩
  · rw [(releaseDelayed_set_phase s12 _ tick12 .envelope).1]
  · exact tc_ne_running_congr ((releaseDelayed_set_phase s12 _ tick12 .envelope).2.trans htc) hs2 k

/-! ### The commit mark -/

/-- The frame of the commit mark that comes to a die whole, and one that does not. -/
theorem dieFrame_missed (ok : Bool) (die : Fin 5) (s : State) :
    (dieFrame ok die s).tick.missed = upd s.tick.missed die (fun n => if ok then 0 else n + 1) := by
  unfold dieFrame
  split
  case isTrue => rfl
  case isFalse h => rw [(frame_logDeck _ _).tick rfl]

/-- What the frame of a commit mark leaves of the count of the frames that a die has missed. -/
theorem foldl_dieFrame_missed (ok : Vector Bool 5) {d : Fin 5} (hd : 1 ≤ d.val) (s : State) :
    (([1, 2, 3, 4] : List (Fin 5)).foldl (fun s d => dieFrame ok[d] d s) s).tick.missed[d] =
      if ok[d] then 0 else s.tick.missed[d] + 1 := by
  have hmem : d ∈ ([1, 2, 3, 4] : List (Fin 5)) := by
    revert d
    decide
  apply foldl_establishes (f := fun s d => dieFrame ok[d] d s) (k := d) (l := [1, 2, 3, 4])
    (Q := fun u => u.tick.missed[d] = s.tick.missed[d])
    (P := fun u => u.tick.missed[d] = if ok[d] then 0 else s.tick.missed[d] + 1) hmem (by decide) ?_ ?_ ?_ rfl
  · intro u hu
    simp only [dieFrame_missed, upd_self, hu]
  · intro u j _ hj hu
    simp only [dieFrame_missed, upd_other _ _ hj.symm, hu]
  · intro u j _ hj hu
    simp only [dieFrame_missed, upd_other _ _ hj.symm, hu]

/-- The summary of the outputs in HOLD and REST leaves the dies' frames. -/
theorem holdSummary_missed (s : State) : (holdSummary s).tick.missed = s.tick.missed := by
  unfold holdSummary
  extract_lets os held rest flag was tick sys t
  have ht : t.tick.missed = s.tick.missed := rfl
  clear_value t
  split
  · rw [(frame_setIrq _ _ t).tick rfl]
    exact ht
  · exact ht

/-- The commit mark opens the measurement phase, raises its line and counts the frames that each die has missed. -/
theorem doCommitMark_envelope (ok : Vector Bool 5) {s : State} (hphase : s.tick.phase = .envelope) :
    (doCommitMark ok s).tick.phase = .measure ∧ (doCommitMark ok s).evt.pend.getLsbD 26 = true ∧
      ∀ d : Fin 5, 1 ≤ d.val →
        (doCommitMark ok s).tick.missed[d] = if ok[d] then 0 else s.tick.missed[d] + 1 := by
  unfold doCommitMark
  rw [if_pos hphase]
  extract_lets s1 s2 nf s3 s4 s5 s6 s7 tick hurdle s8
  have h3 : s3.tick = s.tick := ((frame_commitOutputs _).tick rfl).trans
    (((frame_expireHold _ _).tick rfl).trans ((frame_passInTick _ _ s).tick rfl))
  clear_value s3
  have h4 (d : Fin 5) (hd : 1 ≤ d.val) : s4.tick.missed[d] = if ok[d] then 0 else s.tick.missed[d] + 1 := by
    have hfold := foldl_dieFrame_missed ok hd s3
    simp only [h3] at hfold
    exact hfold
  clear_value s4
  have h5 : s5.tick = s4.tick := ((frame_applyDies _ _ _ _).tick rfl).trans ((frame_modeCommit _).tick rfl)
  clear_value s5
  have h6 : s6.tick.missed = s4.tick.missed := (holdSummary_missed s5).trans (congrArg TickBlk.missed h5)
  clear_value s6
  have h7 : s7.tick.missed = s4.tick.missed :=
    (congrArg TickBlk.missed ((frame_estimate s6).tick rfl)).trans h6
  clear_value s7
  have h8 : s8.tick.missed = s7.tick.missed := rfl
  have h8phase : s8.tick.phase = .measure := rfl
  clear_value s8
  refine ⟨h8phase, raiseLine_pend 26 s8 (by decide), fun d hd => ?_⟩
  change s8.tick.missed[d] = _
  simp only [h8, h7]
  exact h4 d hd

/-- What the commit mark brings besides leaves the tick, and only adds. -/
theorem doCommit_envelope (ok : Vector Bool 5) {s : State} (hphase : s.tick.phase = .envelope)
    (hrec : s.recordDue = false) :
    (doCommit ok s).tick = (doCommitMark ok s).tick ∧ Grows (doCommitMark ok s) (doCommit ok s) := by
  have hgo : s.tick.phase = .envelope ∧ (!(decide (s.recordDue = true ∧ s.upd.restart = true))) = true := by
    rw [hrec]
    exact ⟨hphase, rfl⟩
  have hshadow (t : State) : Grows t (trialShadow t) := Grows.ite (grows_loadShadow _ t) (Grows.refl t)
  unfold doCommit
  rw [if_pos (by simpa [hphase] using hgo.2)]
  constructor
  · rw [(frame_trialShadow _).tick rfl, (frame_audioCommit _).tick rfl, (frame_accCommit _).tick rfl,
      (frame_mbusFirstCommit _).tick rfl]
  · refine (hshadow _).step (((frame_audioCommit _).grows rfl rfl rfl).step ?_)
    exact (grows_accCheck _).step (Grows.of_same (grows_mbusFirstCommit _) rfl rfl rfl)

/-! ### The guard band -/

/-- The write-back of the row under test ends the test. -/
theorem rowWriteBack_testing (rowOk : Bool) (s : State) : (rowWriteBack rowOk s).mem.testing = false := by
  unfold rowWriteBack
  split
  case isTrue h => simpa using h
  case isFalse => rfl

/-- The guard band ends the tick and the test of the row. -/
theorem doGuardBand_measure (rowOk : Bool) {s : State} (hphase : s.tick.phase = .measure) (hreset : s.resetDue = false)
    (hentry : s.entryDue = false) :
    (doGuardBand rowOk s).tick.phase = .guard ∧ (doGuardBand rowOk s).mem.testing = false := by
  have hgo : ¬(s.tick.phase ≠ .measure ∨ s.resetDue = true ∨ s.entryDue = true) := by
    rw [hreset, hentry]
    simp [hphase]
  unfold doGuardBand
  rw [if_neg hgo]
  extract_lets t
  have ht : t.mem.testing = false := (congrArg MemBlk.testing ((frame_opGuard _).mem rfl)).trans (rowWriteBack_testing _ _)
  clear_value t
  exact ⟨rfl, ht⟩

end Sys2Proof.Machine

/-! ### The statement -/

namespace Sys2Proof.Proofs

open Sys2Proof.Machine

/-- Settles O12: each mark by the operation that it is, and what follows it within its command by what that leaves. -/
theorem phasesFollow : Obligations.PhasesFollow := by
  intro s hp
  refine ⟨fun m hphase hswap hact => ⟨doSampleMarkRow m s, next_whenOn hp, ?sample⟩,
    fun hphase => ⟨doCoreWindowOpen s, next_whenOn hp, doCoreWindowOpen_phase hphase,
      fun k hk => doCoreWindowOpen_starts hphase hk⟩,
    fun hphase => ⟨doEnvelopePhase s, next_whenOn hp, ?envelope⟩,
    fun ok hphase hrec => ⟨doCommit ok s, next_whenOn hp, ?commit⟩,
    fun rowOk hphase hreset hentry => ⟨doGuardBand rowOk s, next_whenOn hp, doGuardBand_measure rowOk hphase hreset hentry⟩⟩
  case sample =>
    obtain ⟨hengine, hpend⟩ := doSampleMark_begun m hphase hswap hact
    rw [doSampleMarkRow, if_pos ⟨hphase, hengine⟩]
    exact ⟨((frame_powerMark _ _).tick rfl).symm ▸ hengine, (grows_powerMark _ _).pend 25 hpend⟩
  case envelope =>
    obtain ⟨henv, hstopped, hreleased⟩ := doEnvelopePhase_core hphase
    exact ⟨henv, hstopped, hreleased⟩
  case commit =>
    obtain ⟨hmeasure, hpend, hmissed⟩ := doCommitMark_envelope ok hphase
    obtain ⟨htick, hkept⟩ := doCommit_envelope ok hphase hrec
    rw [htick]
    refine ⟨hmeasure, hkept.pend 26 hpend, fun d hd => ⟨fun hok => ?_, fun hok => ?_⟩⟩
    · rw [hmissed d hd, if_pos hok]
    · rw [hmissed d hd, if_neg (by rw [hok]; exact Bool.false_ne_true)]

end Sys2Proof.Proofs
end

section
/-! SUPPORT. Commands, withdrawals and the end of escalations (R133, R136, R217 to R220, R235), and the statement of
08_command_path.md about them. -/

namespace Sys2Proof.Machine

/-! ### The record of an output -/

/-- An entry by its number after the entry of a number is rewritten. -/
theorem getNat_updNat {α : Type} {n : Nat} (v : Vector α n) (i j : Nat) (f : α → α) (d : α) :
    getNat (updNat v i f) j d = if i = j ∧ j < n then f (getNat v j d) else getNat v j d := by
  by_cases hj : j < n
  · rw [getNat_fin (updNat v i f) ⟨j, hj⟩ d, getNat_fin v ⟨j, hj⟩ d]
    split
    case isTrue h => exact updNat_self v ⟨j, hj⟩ f h.1
    case isFalse h => exact updNat_other v ⟨j, hj⟩ f fun e => h ⟨e, hj⟩
  · have hout (u : Vector α n) : getNat u j d = d := by
      rw [getNat, List.getD_eq_default]
      simpa using Nat.not_lt.mp hj
    rw [hout, hout, if_neg fun h => hj h.2]

/-- The record of an output after that of another, or its own, is rewritten. -/
theorem out_modOut (o j : Nat) (f : OutState → OutState) (s : State) :
    (modOut o f s).out j = if o = j ∧ j < 256 then f (s.out j) else s.out j :=
  getNat_updNat s.hurdle.out o j f default

/-- The record that is rewritten. -/
theorem out_modOut_self {o : Nat} (f : OutState → OutState) (s : State) (ho : o < 256) :
    (modOut o f s).out o = f (s.out o) := by
  rw [out_modOut, if_pos ⟨rfl, ho⟩]

/-- The other outputs' records stand. -/
theorem out_modOut_other {o j : Nat} (f : OutState → OutState) (s : State) (h : j ≠ o) :
    (modOut o f s).out j = s.out j := by
  rw [out_modOut, if_neg fun hc => h hc.1.symm]

/-- A rewriting that is brought about for every unit of a fold, and that none undoes. -/
theorem foldl_brings {σ ι : Type} {f : σ → ι → σ} {P : σ → Prop} {l : List ι} {k : ι} (hk : k ∈ l)
    (hmake : ∀ s, P (f s k)) (hkeep : ∀ s j, P s → P (f s j)) (s : σ) : P (l.foldl f s) := by
  induction l generalizing s with
  | nil => exact nomatch hk
  | cons a l ih =>
    rcases List.mem_cons.mp hk with rfl | hk
    · rw [List.foldl_cons]
      apply foldl_invariant (f := f) (l := l) (P := P)
      · exact fun u j _ => hkeep u j
      · exact hmake s
    · exact ih hk _

/-! ### A refusal under R220 -/

/-- What a refused command does: it is counted, and OWN_ERR is set with both interrupt bits. -/
theorem refuseCmd_counts (code src o : Nat) (w : Word) (s : State) :
    (refuseCmd code src o w s).hurdle.ownErr = satInc s.hurdle.ownErr ∧
      (refuseCmd code src o w s).hurdle.out = s.hurdle.out ∧
      (refuseCmd code src o w s).sys.errstat = setBit s.sys.errstat 1 ∧
      bit ((refuseCmd code src o w s).head .hurdle).irq 6 = true := by
  unfold refuseCmd
  extract_lets l hur t u e recent keep _
  have hhurdle : u.hurdle = { s.hurdle with ownErr := satInc s.hurdle.ownErr } :=
    ((frame_setIrq _ _ t).hurdle rfl).trans (((frame_sysFlag _ _).hurdle rfl).trans ((frame_bump _ _ _ _ _).hurdle rfl))
  have hsys : u.sys.errstat = setBit s.sys.errstat 1 := by
    rw [(frame_setIrq .hurdle 6 t).sys rfl, show t.sys = _ from sysFlag_sys 1 _, (frame_bump _ _ _ _ _).sys rfl]
  have hirq : bit (u.head .hurdle).irq 6 = true := bit_setIrq t (by decide)
  clear_value u
  have hown : u.hurdle.ownErr = satInc s.hurdle.ownErr := by rw [hhurdle]
  have hout : u.hurdle.out = s.hurdle.out := by rw [hhurdle]
  split
  · exact ⟨hown, hout, hsys, hirq⟩
  · rw [(frame_logEv _ _ _ _ _).hurdle rfl, (frame_logEv _ _ _ _ _).sys rfl, logEv_head _ _ _ _ _ _ (by decide)]
    exact ⟨hown, hout, hsys, hirq⟩

/-- A refused command, with what it leaves. -/
theorem refuseCmd_spec (code src o : Nat) (w : Word) (s : State) :
    let t := refuseCmd code src o w s
    t.hurdle.ownErr = satInc s.hurdle.ownErr ∧ bit t.sys.errstat 1 = true ∧ bit (t.head .hurdle).irq 6 = true ∧
      t.hurdle.out = s.hurdle.out ∧ t.sol = s.sol ∧ t.hsw = s.hsw ∧ t.led = s.led ∧ t.mem = s.mem ∧ t.cfg = s.cfg ∧
      t.tick = s.tick := by
  intro t
  obtain ⟨hown, hout, hsys, hirq⟩ := refuseCmd_counts code src o w s
  have hframe := frame_refuseCmd code src o w s
  refine ⟨hown, ?_, hirq, hout, hframe.sol rfl, hframe.hsw rfl, hframe.led rfl, hframe.mem rfl, hframe.cfg rfl,
    hframe.tick rfl⟩
  rw [hsys]
  exact bit_setBit_self _ _ (by decide)

/-! ### A command word -/

/-- For an output with a record a word is judged by the check of its kind. -/
theorem writtenOk_of_some {s : State} {o : Nat} {r : OutCfg} (w : Word) (h : s.outCfg o = some r) :
    s.writtenOk o w = s.wordOk o w := by
  simp only [State.writtenOk, h, Option.isNone_some, Bool.false_and, Bool.false_eq_true, if_false]

/-- A word of a reserved output number goes to an unassigned address. -/
theorem doOutCmd_reserved (rq : Requester) {o : Fin 448} (w : Word) (s : State) (ho : outNumber o.val = false) :
    doOutCmd rq o w s = reservedWrite rq (outAddr o.val 0) s := by
  simp only [doOutCmd, ho, Bool.not_false, if_true]

/-- The service port and the fabric are no sources. -/
theorem doOutCmd_no_source {rq : Requester} {o : Fin 448} (w : Word) (s : State) (ho : outNumber o.val = true)
    (hsrc : sourceOf rq = none) : doOutCmd rq o w s =
      setErr .hurdle 1 (if s.writtenOk o.val w then s else reservedWrite rq (outAddr o.val 0) s) := by
  simp only [doOutCmd, ho, Bool.not_true, Bool.false_eq_true, if_false, hsrc]

/-- A source's word that fails the check of its kind is reported. -/
theorem doOutCmd_bad {rq : Requester} {o : Fin 448} {src : Fin 16} {r : OutCfg} {w : Word} {s : State}
    (ho : outNumber o.val = true) (hsrc : sourceOf rq = some src) (hr : s.outCfg o.val = some r)
    (hw : s.wordOk o.val w = false) :
    doOutCmd rq o w s = refusedWord o.val w (reservedWrite rq (outAddr o.val 0) s) := by
  simp only [doOutCmd, ho, Bool.not_true, Bool.false_eq_true, if_false, hsrc, writtenOk_of_some w hr, hw, hr,
    Option.isNone_some, or_self]

/-- A source's word that passes the check of its kind is judged by the output's record. -/
theorem doOutCmd_good {rq : Requester} {o : Fin 448} {src : Fin 16} {r : OutCfg} {w : Word} {s : State}
    (ho : outNumber o.val = true) (hsrc : sourceOf rq = some src) (hr : s.outCfg o.val = some r)
    (hw : s.wordOk o.val w = true) : doOutCmd rq o w s = acceptCmd src o.val w s := by
  simp only [doOutCmd, ho, Bool.not_true, Bool.false_eq_true, if_false, hsrc, writtenOk_of_some w hr, hw, if_true, or_true]

/-- A source's word for an output without a record is refused. -/
theorem doOutCmd_no_record {rq : Requester} {o : Fin 448} {src : Fin 16} {w : Word} {s : State}
    (ho : outNumber o.val = true) (hsrc : sourceOf rq = some src) (hr : s.outCfg o.val = none) :
    doOutCmd rq o w s = refuseCmd 0x600A src.val o.val w
      (if s.writtenOk o.val w then s else reservedWrite rq (outAddr o.val 0) s) := by
  have hcfg (t : State) (h : t.cfg = s.cfg) : t.outCfg o.val = none := by rw [State.outCfg, h]; exact hr
  have hkeep : (if s.writtenOk o.val w then s else reservedWrite rq (outAddr o.val 0) s).outCfg o.val = none := by
    split
    · exact hr
    · exact hcfg _ ((frame_reservedWrite _ _ s).cfg rfl)
  simp only [doOutCmd, ho, Bool.not_true, Bool.false_eq_true, if_false, hsrc, hr, Option.isNone_none, true_or, if_true,
    acceptCmd, hkeep]

/-- A command of a source that the output does not permit is refused. -/
theorem acceptCmd_not_permitted {src : Fin 16} {o : Nat} {r : OutCfg} (w : Word) {s : State} (hr : s.outCfg o = some r)
    (hp : r.permits src.val = false) : acceptCmd src o w s = refuseCmd 0x600B src.val o w s := by
  simp only [acceptCmd, hr, hp, Bool.not_false, if_true]

/-- A command without delay is the source's command of the tick. -/
theorem acceptCmd_direct {src : Fin 16} {o : Nat} {r : OutCfg} {w : Word} {s : State} (hr : s.outCfg o = some r)
    (hp : r.permits src.val = true) (hd : o < 96 ∨ 112 ≤ o ∨ solDelay w = 0) :
    acceptCmd src o w s = modOut (s.leadOut o) (fun x => { x with fresh := x.fresh.set src (.cmd w) }) s := by
  have hnot : ¬(96 ≤ o ∧ o < 112 ∧ 0 < solDelay w) := by omega
  simp only [acceptCmd, hr, hp, Bool.not_true, Bool.false_eq_true, if_false, hnot, dite_false]

/-- A delayed command is held for its tick. -/
theorem acceptCmd_delayed {src k : Fin 16} {o : Nat} {r : OutCfg} {w : Word} {s : State} (hr : s.outCfg o = some r)
    (hp : r.permits src.val = true) (ho : o = 96 + k.val) (hd : 0 < solDelay w) :
    acceptCmd src o w s = modSol k (fun c => { c with
      delayed := c.delayed.set src (some ⟨solClearDelay w, s.intakeTick + solDelay w⟩) }) s := by
  have hin : 96 ≤ o ∧ o < 112 ∧ 0 < solDelay w := by omega
  have hk : (⟨o - 96, by omega⟩ : Fin 16) = k := Fin.ext (by simp only; omega)
  simp only [acceptCmd, hr, hp, Bool.not_true, Bool.false_eq_true, if_false, hin, and_self, dite_true, hk]

/-! ### Withdrawals and the end of escalations -/

/-- The control register of a reserved output number is an unassigned address. -/
theorem outCtrlWrite_reserved (rq : Requester) {o : Nat} (v : Word) (s : State) (ho : outNumber o = false) :
    outCtrlWrite rq o v s = reservedWrite rq (outAddr o 4) s := by
  simp only [outCtrlWrite, ho, Bool.not_false, Bool.true_or, if_true]

/-- A withdrawal by what is no source. -/
theorem doWdraw_no_source {rq : Requester} {o : Fin 448} (s : State) (ho : outNumber o.val = true)
    (hsrc : sourceOf rq = none) : doWdraw rq o s = setErr .hurdle 1 s := by
  simp [doWdraw, outCtrlWrite, ho, hsrc, bit]

/-- A source's withdrawal. -/
theorem doWdraw_source {rq : Requester} {o : Fin 448} {src : Fin 16} (s : State) (ho : outNumber o.val = true)
    (hsrc : sourceOf rq = some src) : doWdraw rq o s = withdraw src o.val 1 s := by
  simp [doWdraw, outCtrlWrite, ho, hsrc, bit]

/-- ESCCLR of an output without a record is a refused command. -/
theorem doEscclr_no_record {rq : Requester} {o : Fin 448} {src : Fin 16} {s : State} (ho : outNumber o.val = true)
    (hsrc : sourceOf rq = some src) (hr : s.outCfg o.val = none) : doEscclr rq o s =
      if rq ≠ .keeper then setErr .hurdle 1 (refuseCmd 0x600A src.val o.val 2#32 s)
      else refuseCmd 0x600A src.val o.val 2#32 s := by
  have hcfg : (refuseCmd 0x600A src.val o.val 2#32 s).outCfg o.val = none := by
    rw [State.outCfg, (frame_refuseCmd _ _ _ _ s).cfg rfl]
    exact hr
  simp [doEscclr, outCtrlWrite, ho, hsrc, bit, hr, withdraw, hcfg]

/-- ESCCLR by another level than keeper level. -/
theorem doEscclr_of_ne_keeper {rq : Requester} {o : Fin 448} {s : State} (ho : outNumber o.val = true) (hq : rq ≠ .keeper)
    (h : (s.outCfg o.val).isSome = true ∨ sourceOf rq = none) : doEscclr rq o s = setErr .hurdle 1 s := by
  cases hsrc : sourceOf rq with
  | none => simp [doEscclr, outCtrlWrite, ho, hsrc, bit, hq]
  | some src =>
    have hsome : (s.outCfg o.val).isNone = false := by
      rw [hsrc] at h
      simpa using h
    simp [doEscclr, outCtrlWrite, ho, hsrc, bit, hq, hsome]

/-- ESCCLR by keeper level ends the escalation of the leader. -/
theorem doEscclr_keeper {o : Fin 448} {r : OutCfg} {s : State} (ho : outNumber o.val = true)
    (hr : s.outCfg o.val = some r) : doEscclr .keeper o s = endEscalation (s.leadOut o.val) 1 s := by
  have hsome : (s.outCfg o.val).isNone = false := by rw [hr]; rfl
  simp [doEscclr, outCtrlWrite, ho, sourceOf, bit, hsome]

/-- An output that leads is one of the 256. -/
theorem leadOut_lt {o : Nat} (s : State) (ho : outNumber o = true) : s.leadOut o < 256 := by
  unfold State.leadOut
  split
  · omega
  · simp only [outNumber, Bool.or_eq_true, Bool.and_eq_true, decide_eq_true_eq] at ho
    omega

/-- The members of a group are among the 256 outputs. -/
theorem lt_of_mem_groupOut {s : State} {l j : Nat} (hl : l < 256) (hj : j ∈ s.groupOut l) : j < 256 := by
  unfold State.groupOut at hj
  split at hj
  · obtain ⟨k, -, rfl⟩ := List.mem_map.mp hj
    omega
  · rw [List.mem_singleton.mp hj]
    exact hl

/-- No escalation stands for an output. -/
def OutState.calm (x : OutState) : Prop := x.esc = false ∧ x.escLeft = 0 ∧ x.escUntil = false

/-- The escalation of an output ends. -/
def clearEsc (s : State) (j : Nat) : State :=
  modOut j (fun x => { x with esc := false, escLeft := 0, escUntil := false }) s

/-- Where the escalations of outputs end, they end for each of them and for no other. -/
theorem foldl_clearEsc_out (l : List Nat) (s : State) (hl : ∀ j ∈ l, j < 256) :
    (∀ j ∈ l, ((l.foldl clearEsc s).out j).calm) ∧ ∀ j, j ∉ l → (l.foldl clearEsc s).out j = s.out j := by
  constructor
  · intro j hj
    apply foldl_brings (P := fun t : State => (t.out j).calm) hj
    · intro t
      rw [clearEsc, out_modOut_self _ _ (hl j hj)]
      exact ⟨rfl, rfl, rfl⟩
    · intro t i ht
      rw [clearEsc, out_modOut]
      split
      · exact ⟨rfl, rfl, rfl⟩
      · exact ht
  · intro j hj
    apply foldl_keeps (g := fun t : State => t.out j)
    intro t i hi
    exact out_modOut_other _ t fun e => hj (e ▸ hi)

/-- Nothing but the outputs' records changes where escalations end. -/
theorem frame_foldl_clearEsc (l : List Nat) (s : State) : Frame 65536 s (l.foldl clearEsc s) :=
  Frame.foldl (fun t j h => (frame_modOut j _ t).step rfl h) (Frame.refl _ s)

/-- The record of the command path where escalations end. -/
theorem foldl_clearEsc_hurdle (l : List Nat) (s : State) :
    (l.foldl clearEsc s).hurdle = { s.hurdle with out := (l.foldl clearEsc s).hurdle.out } := by
  induction l generalizing s with
  | nil => rfl
  | cons j l ih => exact ih (clearEsc s j)

/-- The end of an escalation, with its entry. -/
theorem endEscalation_spec {l : Nat} (bits : Nat) {s : State} (hl : l < 256) (hesc : (s.out l).esc = true) :
    let t := endEscalation l bits s
    (∀ j ∈ s.groupOut l, (t.out j).esc = false ∧ (t.out j).escLeft = 0 ∧ (t.out j).escUntil = false) ∧
      (∀ j, j ∉ s.groupOut l → t.out j = s.out j) ∧
      (s.canLog = true → t.hasEntry 0x6004 3 (locOut l) (BitVec.ofNat 64 bits) = true) ∧
      t = { s with
        hurdle := { s.hurdle with out := t.hurdle.out }, tally := t.tally, heads := t.heads, evt := t.evt } := by
  intro t
  have ht : t = logEv 0x6004 3 (locOut l) (BitVec.ofNat 64 bits) ((s.groupOut l).foldl clearEsc s) := if_pos hesc
  clear_value t
  obtain ⟨hcalm, hrest⟩ := foldl_clearEsc_out (s.groupOut l) s fun j hj => lt_of_mem_groupOut hl hj
  have hframe := frame_foldl_clearEsc (s.groupOut l) s
  have hhurdle := foldl_clearEsc_hurdle (s.groupOut l) s
  generalize (s.groupOut l).foldl clearEsc s = u at ht hcalm hrest hframe hhurdle
  have hth : t.hurdle = u.hurdle := by rw [ht]; exact (frame_logEv _ _ _ _ u).hurdle rfl
  have hout (j : Nat) : t.out j = u.out j := by rw [State.out, State.out, hth]
  refine ⟨fun j hj => ?_, fun j hj => ?_, fun hlog => ?_, ?_⟩
  · rw [hout]
    exact hcalm j hj
  · rw [hout, hrest j hj]
  · rw [ht]
    exact hasEntry_logEv ((canLog_congr (hframe.tally rfl)).trans hlog) (by decide) (by decide)
  · have hpatch : t = s.patch 327952 t := by
      refine Frame.eq_patch ?_
      rw [ht]
      exact (frame_logEv _ _ _ _ u).step rfl (hframe.mono rfl)
    rw [hth, ← hhurdle, ← hth]
    exact hpatch

/-! ### Delayed commands -/

/-- A delayed command whose tick has come is released. -/
theorem doDelayedCmdRelease_due {k src : Fin 16} {d : Delayed} {s : State} (hd : (s.sol.ch[k]).delayed[src] = some d)
    (hdue : d.tick ≤ s.intakeTick) : doDelayedCmdRelease k src s =
      modOut (96 + k.val) (fun x => if x.fresh[src] = .none then { x with fresh := x.fresh.set src (.cmd d.word) } else x)
        (modSol k (fun c => { c with delayed := c.delayed.set src none }) s) := by
  simp only [doDelayedCmdRelease, hd, hdue, if_true]

end Sys2Proof.Machine

/-! ### The statement -/

namespace Sys2Proof.Proofs

open Sys2Proof.Machine

/-- A delayed solenoid command whose tick has come. -/
theorem delayed_command_is_released (k src : Fin 16) (d : Delayed) (s : State) (hp : s.powered = true)
    (hd : (s.sol.ch[k]).delayed[src] = some d) (hdue : d.tick ≤ s.intakeTick) :
    ∃ t, exec (.delayedCmdRelease k src) s = .next t ∧ (t.sol.ch[k]).delayed[src] = none ∧
      ((s.out (96 + k.val)).fresh[src] = .none → (t.out (96 + k.val)).fresh[src] = .cmd d.word) ∧
      ((s.out (96 + k.val)).fresh[src] ≠ .none → (t.out (96 + k.val)).fresh[src] = (s.out (96 + k.val)).fresh[src]) ∧
      (∀ o, o ≠ 96 + k.val → t.out o = s.out o) ∧ (∀ j : Fin 16, j ≠ k → t.sol.ch[j] = s.sol.ch[j]) ∧
      t = { s with hurdle := t.hurdle, sol := t.sol } := by
  have hframe := frame_doDelayedCmdRelease k src s
  refine ⟨_, next_whenOn hp, ?_, ?_, ?_, ?_, ?_, hframe.eq_patch⟩
  all_goals rw [doDelayedCmdRelease_due hd hdue]
  · exact (congrArg (fun c : SolState => c.delayed[src]) (upd_self s.sol.ch k _)).trans (set_self _ src none)
  · intro hnone
    rw [out_modOut_self _ _ (by omega)]
    exact (congrArg (fun x : OutState => x.fresh[src]) (if_pos hnone)).trans (set_self _ src _)
  · intro hsome
    rw [out_modOut_self _ _ (by omega)]
    exact congrArg (fun x : OutState => x.fresh[src]) (if_neg hsome)
  · exact fun o ho => out_modOut_other _ _ ho
  · exact fun j hj => upd_other s.sol.ch _ hj

/-- Settles O15: a word by its number, its writer, its check and the record of the output; the control register by what it
asks for. -/
theorem outputCommands : Obligations.OutputCommands := by
  refine ⟨fun rq o w s hp => ⟨fun ho => ⟨?_, ?_, ?_⟩, fun ho hsrc => ⟨fun hw => ?_, fun hw => ?_, ?_⟩, ?_, ?_⟩,
    fun rq o w src s hp ho hsrc => ⟨?refused, ?withdrawn⟩, fun rq o s hp ho => ⟨?_, ?_, ?none, ?keeper⟩,
    delayed_command_is_released⟩
  · exact (next_whenOn hp).trans (congrArg _ (doOutCmd_reserved rq w s ho))
  · exact (next_whenOn hp).trans (congrArg _ (outCtrlWrite_reserved rq 1 s ho))
  · exact (next_whenOn hp).trans (congrArg _ (outCtrlWrite_reserved rq 2 s ho))
  · exact (next_whenOn hp).trans (congrArg _ ((doOutCmd_no_source w s ho hsrc).trans (by rw [if_pos hw])))
  · exact (next_whenOn hp).trans (congrArg _ ((doOutCmd_no_source w s ho hsrc).trans (by rw [hw]; rfl)))
  · exact (next_whenOn hp).trans (congrArg _ (doWdraw_no_source s ho hsrc))
  · intro src r ho hsrc hr hw
    exact (next_whenOn hp).trans (congrArg _ (doOutCmd_bad ho hsrc hr hw))
  · intro src r ho hsrc hw hr hperm
    have hgood := doOutCmd_good ho hsrc hr hw
    exact ⟨fun hd => (next_whenOn hp).trans (congrArg _ (hgood.trans (acceptCmd_direct hr hperm hd))),
      fun k hk hd => (next_whenOn hp).trans (congrArg _ (hgood.trans (acceptCmd_delayed hr hperm hk hd)))⟩
  case refused =>
    intro hcase
    refine ⟨_, next_whenOn hp, ?_⟩
    rcases hcase with hnone | ⟨r, hr, hperm, hw⟩
    · rw [doOutCmd_no_record ho hsrc hnone]
      have hrw := frame_reservedWrite rq (outAddr o.val 0) s
      obtain ⟨hown, h1, hirq, hout, hsol, hhsw, hled, hmem, hcfg, htick⟩ := refuseCmd_spec 0x600A src.val o.val w
        (if s.writtenOk o.val w then s else reservedWrite rq (outAddr o.val 0) s)
      have hkeep : Frame 131472 s (if s.writtenOk o.val w then s else reservedWrite rq (outAddr o.val 0) s) :=
        Frame.ite (Frame.refl _ s) hrw
      refine ⟨hown.trans (by rw [hkeep.hurdle rfl]), h1, hirq, hout.trans (by rw [hkeep.hurdle rfl]), fun _ hbad => ?_,
        hsol.trans (hkeep.sol rfl), hhsw.trans (hkeep.hsw rfl), hled.trans (hkeep.led rfl), hmem.trans (hkeep.mem rfl),
        hcfg.trans (hkeep.cfg rfl), htick.trans (hkeep.tick rfl)⟩
      obtain ⟨-, -, hsys, -⟩ := refuseCmd_counts 0x600A src.val o.val w
        (if s.writtenOk o.val w then s else reservedWrite rq (outAddr o.val 0) s)
      rw [hsys, hbad]
      exact bit_setBit_mono _ _ _ (bit_errstat_reservedWrite rq _ s)
    · rw [doOutCmd_good ho hsrc hr hw, acceptCmd_not_permitted w hr hperm]
      obtain ⟨hown, h1, hirq, hout, hrest⟩ := refuseCmd_spec 0x600B src.val o.val w s
      exact ⟨hown, h1, hirq, hout, fun hnone => (nomatch hr.symm.trans hnone), hrest⟩
  case withdrawn =>
    intro hperm
    refine ⟨_, next_whenOn hp, ?_⟩
    rw [doWdraw_source s ho hsrc]
    unfold withdraw
    split
    case h_1 => exact refuseCmd_spec _ _ _ _ s
    case h_2 r hr =>
      rw [hperm r hr]
      exact refuseCmd_spec _ _ _ _ s
  · intro src r hsrc hr hperm
    refine (next_whenOn hp).trans (congrArg _ ((doWdraw_source s ho hsrc).trans ?_))
    simp only [withdraw, hr, hperm, Bool.not_true, Bool.false_eq_true, if_false]
  · intro hq h
    exact (next_whenOn hp).trans (congrArg _ (doEscclr_of_ne_keeper ho hq h))
  case none =>
    intro hr hsome
    obtain ⟨src, hsrc⟩ := Option.ne_none_iff_exists'.mp hsome
    refine ⟨_, next_whenOn hp, ?_⟩
    rw [doEscclr_no_record ho hsrc hr]
    obtain ⟨hown, h1, hirq, hout, hsol, hhsw, hled, -⟩ := refuseCmd_spec 0x600A src.val o.val 2 s
    split
    case isTrue =>
      have herr := frame_setErr .hurdle 1 (refuseCmd 0x600A src.val o.val 2#32 s)
      rw [herr.hurdle rfl, herr.sys rfl, herr.sol rfl, herr.hsw rfl, herr.led rfl]
      refine ⟨hown, h1, fun _ => ?_, hout, hsol, hhsw, hled⟩
      rw [setErr_err]
      exact bit_setBit_self _ _ (by decide)
    case isFalse hq => exact ⟨hown, h1, fun hne => absurd hne hq, hout, hsol, hhsw, hled⟩
  case keeper =>
    rintro rfl r hr l
    have hclear := doEscclr_keeper ho hr
    refine ⟨fun hesc => (next_whenOn hp).trans (congrArg _ (hclear.trans ?_)), fun hesc => ⟨_, next_whenOn hp, ?_⟩⟩
    · exact if_neg (by rw [hesc]; exact Bool.false_ne_true)
    · rw [hclear]
      exact endEscalation_spec 1 (leadOut_lt s ho) hesc

end Sys2Proof.Proofs
end

section
/-! SUPPORT. What operations leave of the blocks' head registers, the load of an image into the shadow, and the statement of
03_structure_image.md about it. -/

namespace Sys2Proof.Machine

/-! ### The head registers of other blocks -/

/-- Nothing changes in the head registers of a block other than those listed. -/
def HeadsKept (bs : List Block) (s t : State) : Prop := ∀ b, b ∉ bs → t.head b = s.head b

section
variable {bs : List Block}

/-- The head registers stand. -/
theorem headsKept_of_heads {s t : State} (h : t.heads = s.heads) : HeadsKept bs s t := fun b _ => by
  rw [State.head, State.head, h]

/-- Nothing happens. -/
theorem HeadsKept.refl (s : State) : HeadsKept bs s s := fun _ _ => rfl

/-- One operation after another. -/
theorem HeadsKept.step {s t u : State} (htu : HeadsKept bs t u) (hst : HeadsKept bs s t) : HeadsKept bs s u :=
  fun b hb => (htu b hb).trans (hst b hb)

/-- Both branches. -/
theorem HeadsKept.ite {c : Prop} [Decidable c] {s a b : State} (ha : HeadsKept bs s a) (hb : HeadsKept bs s b) :
    HeadsKept bs s (if c then a else b) := by
  split
  · exact ha
  · exact hb

/-- A fold. -/
theorem HeadsKept.foldl {ι : Type} {f : State → ι → State} (h : ∀ s k, HeadsKept bs s (f s k)) (l : List ι) (s : State) :
    HeadsKept bs s (l.foldl f s) :=
  foldl_invariant (P := HeadsKept bs s) (fun t k _ ht => (h t k).step ht) (HeadsKept.refl s)

/-- An interrupt bit is one of its block. -/
theorem headsKept_setIrq {b : Block} (i : Nat) (s : State) (h : b ∈ bs) : HeadsKept bs s (setIrq b i s) :=
  fun c hc => setIrq_head_other b c i s fun e => hc (e ▸ h)

/-- An error bit is one of its block. -/
theorem headsKept_setErr {b : Block} (i : Nat) (s : State) (h : b ∈ bs) : HeadsKept bs s (setErr b i s) :=
  fun c hc => setErr_head_other b c i s fun e => hc (e ▸ h)

/-- A counter is one of its block. -/
theorem headsKept_bump {b : Block} (off lo n : Nat) (s : State) (h : b ∈ bs) : HeadsKept bs s (bump b off lo n s) :=
  fun c hc => bump_head_other b c off lo n s fun e => hc (e ▸ h)

/-- An entry touches the tally's head registers. -/
theorem headsKept_logEv (code sev : Nat) (loc : Word) (p : DWord) (s : State) (h : Block.tally ∈ bs) :
    HeadsKept bs s (logEv code sev loc p s) :=
  fun c hc => logEv_head code sev loc p c s fun e => hc (e ▸ h)

end

/-! ### A key command that waited begins -/

/-- What a key command touches of the head registers: its own and the tally's. -/
abbrev KeyHeads : State → State → Prop := HeadsKept [.key, .tally]

/-- A key command ends. -/
theorem keyHeads_keyEnd (code : Nat) (s : State) : KeyHeads s (keyEnd code s) :=
  (headsKept_setIrq 0 _ (by decide)).step (headsKept_of_heads rfl)

/-- A request that a slot does not serve. -/
theorem keyHeads_keyRefused (k who reason : Nat) (s : State) : KeyHeads s (keyRefused k who reason s) :=
  headsKept_logEv _ _ _ _ s (by decide)

/-- A refused key command ends. -/
theorem keyHeads_refuse (code k who reason : Nat) (s : State) : KeyHeads s (keyEnd code (keyRefused k who reason s)) :=
  (keyHeads_keyEnd _ _).step (keyHeads_keyRefused _ _ _ s)

/-- A command that uses a slot touches what it does behind the use. -/
theorem keyHeads_withSlot (op k flag : Nat) {f : State → State} (hf : ∀ s, KeyHeads s (f s)) (s : State) :
    KeyHeads s (withSlot op k flag f s) := by
  unfold withSlot
  split
  · exact (hf _).step ((headsKept_bump _ _ _ _ (by decide)).step (headsKept_of_heads rfl))
  · exact keyHeads_refuse _ _ _ _ s
  · exact keyHeads_refuse _ _ _ _ s

/-- WRITE and ERASE. -/
theorem keyHeads_startWrite (op k flag : Nat) (s : State) : KeyHeads s (startWrite op k flag s) := by
  unfold startWrite
  extract_lets bits t f msg
  have ht : KeyHeads s t := HeadsKept.ite (headsKept_of_heads rfl) (HeadsKept.refl s)
  clear_value t
  have hrefuse (code i reason : Nat) : KeyHeads s (keyEnd code (keyRefused k op reason (setErr .key i t))) :=
    (keyHeads_refuse _ _ _ _ _).step ((headsKept_setErr i t (by decide)).step ht)
  exact HeadsKept.ite (hrefuse _ _ _) (HeadsKept.ite (hrefuse _ _ _) ((headsKept_of_heads rfl).step ht))

/-- ATTEST. -/
theorem keyHeads_startAttest (k : Nat) (s : State) : KeyHeads s (startAttest k s) := by
  unfold startAttest
  apply keyHeads_withSlot
  exact fun _ => headsKept_of_heads rfl

/-- CMAC, ENCRYPT and DECRYPT. -/
theorem keyHeads_startCipher (op k : Nat) (s : State) : KeyHeads s (startCipher op k s) := by
  unfold startCipher
  apply keyHeads_withSlot
  exact fun _ => headsKept_of_heads rfl

/-- ADVANCE. -/
theorem keyHeads_startAdvance (s : State) : KeyHeads s (startAdvance s) := by
  have herr (i : Nat) : KeyHeads s (setErr .key i s) := headsKept_setErr i s (by decide)
  exact HeadsKept.ite ((keyHeads_keyEnd _ _).step (herr 5))
    (HeadsKept.ite ((keyHeads_refuse _ _ _ _ _).step (herr 4)) (headsKept_of_heads rfl))

/-- TICKET. -/
theorem keyHeads_startTicket (s : State) : KeyHeads s (startTicket s) := by
  have hno (p : DWord) : KeyHeads s (keyEnd 1 (logEv 0xC00B 7 locKeyCore p s)) :=
    (keyHeads_keyEnd _ _).step (headsKept_logEv _ _ _ _ s (by decide))
  exact HeadsKept.ite (keyHeads_keyEnd _ s) (HeadsKept.ite (hno _) (HeadsKept.ite (headsKept_of_heads rfl) (hno _)))

/-- A key command that begins touches its own head registers and the tally's. -/
theorem keyHeads_keyRun (v : Word) (holding : BitVec 5) (s : State) : KeyHeads s (keyRun v holding s) := by
  unfold keyRun
  extract_lets k
  split
  · exact keyHeads_startWrite _ _ _ s
  · exact keyHeads_startWrite _ _ _ s
  · exact keyHeads_startAttest _ s
  · exact headsKept_of_heads rfl
  · exact HeadsKept.ite (keyHeads_keyEnd _ s) (headsKept_of_heads rfl)
  · exact keyHeads_startAdvance s
  · exact keyHeads_startTicket s
  · exact HeadsKept.ite (headsKept_of_heads rfl) (keyHeads_keyEnd _ s)
  · exact keyHeads_startCipher _ _ s

/-- So does one that waited. -/
theorem keyHeads_keyBegin (s : State) : KeyHeads s (keyBegin s) := by
  unfold keyBegin
  split
  · exact HeadsKept.ite (HeadsKept.refl s) ((keyHeads_keyRun _ _ _).step (headsKept_of_heads rfl))
  · exact HeadsKept.refl s

/-- Without a waiting command, or while a code is checked, none begins. -/
theorem keyBegin_of_not_due {s : State} (h : s.key.waiting = none ∨ s.acc.write ≠ none) : keyBegin s = s := by
  unfold keyBegin
  split
  case h_1 hw =>
    rcases h with h | h
    · exact nomatch hw.symm.trans h
    · exact if_pos (Option.isSome_iff_ne_none.mpr h)
  case h_2 => rfl

/-! ### The load of the shadow -/

/-- Why a slot cannot be used is read in the key store. -/
theorem slotReason_congr {s t : State} (h : t.key = s.key) (k flag : Nat) : t.slotReason k flag = s.slotReason k flag := by
  have hslot (k : Nat) : t.slot k = s.slot k := by rw [State.slot, State.slot, h]
  have hlive : t.slotLive k = s.slotLive k := by rw [State.slotLive, State.slotLive, hslot, h]
  rw [State.slotReason, State.slotReason, hlive, hslot, h]

/-- What a slot holds, and why its image fails a check, are read in the MRAM and the key store. -/
theorem slotReasonOf_congr {s t : State} (slot : Bool) (hm : t.mem = s.mem) (hk : t.key = s.key) :
    t.slotImage slot = s.slotImage slot ∧ t.slotReasonOf slot = s.slotReasonOf slot := by
  have hrep : t.repairs = s.repairs := by rw [State.repairs, State.repairs, hm]
  have hbyte (a : Nat) : mramByte t a = mramByte s a := by rw [mramByte, mramByte, hrep, hm]
  have himg : t.slotImage slot = s.slotImage slot := by simp only [State.slotImage, mramGet, hbyte]
  have hslot (k : Nat) : t.slot k = s.slot k := by rw [State.slot, State.slot, hk]
  refine ⟨himg, ?_⟩
  simp only [State.slotReasonOf, himg, State.imageKeys, State.pairVerifies, State.imgPair, State.slotLive,
    slotReason_congr hk, hslot, hk]

/-- Outside an image update GO is refused while a swap is scheduled or a copy loads, and otherwise loads the slot. -/
theorem structLoadGo_keeper (slot : Bool) {s : State} (h1 : s.upd.state ≠ .verified) (h2 : s.upd.state ≠ .scheduled)
    (h3 : s.upd.state ≠ .trial) : structLoadWrite .keeper (BitVec.ofNat 32 (2 + b01 slot)) s =
      let t := modStruct (fun x => { x with slot := slot }) s
      if s.strct.shadow = .loading ∨ s.strct.shadow = .scheduled then setErr .strct 2 t else loadShadow slot t := by
  obtain ⟨hlt, hone⟩ := (structLoad_commands_valid slot).1
  have hgo : bit (BitVec.ofNat 32 (2 + b01 slot)) 1 = true := by cases slot <;> rfl
  have hslot : bit (BitVec.ofNat 32 (2 + b01 slot)) 0 = slot := by cases slot <;> rfl
  have hbad : decide (8 ≤ (BitVec.ofNat 32 (2 + b01 slot)).toNat ∨
      (bit (BitVec.ofNat 32 (2 + b01 slot)) 1 = true ∧ bit (BitVec.ofNat 32 (2 + b01 slot)) 2 = true)) = false :=
    decide_eq_false (not_or.mpr ⟨Nat.not_le.mpr hlt, hone⟩)
  have hbusy : ((modStruct (fun x => { x with slot := slot }) s).shadowBusy = true) =
      (s.strct.shadow = .loading ∨ s.strct.shadow = .scheduled) := by
    simp [State.shadowBusy, h1, h2, h3]
  have hload : structLoadWrite .keeper (BitVec.ofNat 32 (2 + b01 slot)) s = structLoad (BitVec.ofNat 32 (2 + b01 slot)) s := by
    simp only [structLoadWrite, wrIf, hbad, BEq.rfl, Bool.not_true, Bool.false_eq_true, if_false]
  rw [hload]
  simp only [structLoad, h1, h2, h3, or_self, if_false, hslot, hgo, if_true]
  simp only [hbusy]

/-- A rejected image: IRQ bit 1, entry 0xE101 unless its keys are the reason, and nothing of the block. -/
theorem rejectEntries_spec (slot : Bool) (reason : Nat) (s : State) :
    let t := rejectEntries slot reason s
    t.strct = s.strct ∧ bit (t.head .strct).irq 1 = true ∧
      (s.canLog = true → reason ≠ 8 → t.hasEntry 0xE101 5 locStruct
        (pack64 [(0, reason), (8, b01 slot), (32, leAt (s.slotImage slot) 0x10 4)]) = true) := by
  intro t
  refine ⟨(frame_rejectEntries slot reason s).strct rfl, bit_setIrq _ (by decide), fun hlog hne => ?_⟩
  have ht : t = setIrq .strct 1 (logEv 0xE101 5 locStruct
      (pack64 [(0, reason), (8, b01 slot), (32, leAt (s.slotImage slot) 0x10 4)]) s) := by
    simp only [t, rejectEntries, if_neg hne]
  rw [ht, hasEntry_congr ((frame_setIrq .strct 1 _).tally rfl)]
  exact hasEntry_logEv hlog (by decide) (by decide)

/-- A slot whose image passes every check is loaded. -/
theorem loadShadow_good {slot : Bool} {s : State} (h : s.slotReasonOf slot = 0) :
    loadShadow slot s = modStruct (fun x => { x with
      shadow := .loading, shSlot := slot, loadTicks := s.tick.executed,
      shImage := some (parseImage (s.slotImage slot) (imgDigest (s.slotImage slot))) }) s := by
  unfold loadShadow
  extract_lets b reason t
  exact (if_pos h).trans rfl

/-- A slot whose image fails a check leaves the shadow failed. -/
theorem loadShadow_bad {slot : Bool} {s : State} (h : s.slotReasonOf slot ≠ 0) :
    loadShadow slot s = rejectEntries slot (s.slotReasonOf slot) (modStruct (fun x => { x with
      shadow := .failed, reason := s.slotReasonOf slot, shImage := none, shSlot := slot,
      loadTicks := s.tick.executed }) s) := by
  unfold loadShadow
  extract_lets b reason t
  exact (if_neg h).trans rfl

/-- The load of a slot leaves the configuration in force, and its slot field, as they were. -/
theorem loadShadow_inForce (slot : Bool) (s : State) :
    (loadShadow slot s).strct.inForce = s.strct.inForce ∧ (loadShadow slot s).strct.slot = s.strct.slot := by
  by_cases h : s.slotReasonOf slot = 0
  · rw [loadShadow_good h]
    exact ⟨rfl, rfl⟩
  · rw [loadShadow_bad h, (frame_rejectEntries _ _ _).strct rfl]
    exact ⟨rfl, rfl⟩

end Sys2Proof.Machine

/-! ### The statement -/

namespace Sys2Proof.Proofs

open Sys2Proof.Machine

/-- GO of keeper level, busy or not. -/
theorem keeper_loads (slot : Bool) (s : State) (hp : s.powered = true) (h1 : s.upd.state ≠ .verified)
    (h2 : s.upd.state ≠ .scheduled) (h3 : s.upd.state ≠ .trial) :
    ∃ t, exec (.structLoadGo .keeper slot) s = .next t ∧ t.cfg = s.cfg ∧ t.strct.inForce = s.strct.inForce ∧
       t.strct.slot = slot ∧ t.hurdle = s.hurdle ∧ t.hsw = s.hsw ∧ t.sol = s.sol ∧ t.led = s.led ∧ t.mem = s.mem ∧
       (s.strct.shadow = .loading ∨ s.strct.shadow = .scheduled →
         t = setErr .strct 2 { s with strct := { s.strct with slot := slot } }) ∧
       (s.strct.shadow ≠ .loading → s.strct.shadow ≠ .scheduled → s.slotReasonOf slot = 0 →
         t.strct.shadow = .loading ∧ t.strct.shSlot = slot ∧ t.strct.loadTicks = s.tick.executed ∧
         t.strct.shImage = some (parseImage (s.slotImage slot) (imgDigest (s.slotImage slot)))) ∧
       (s.strct.shadow ≠ .loading → s.strct.shadow ≠ .scheduled → s.slotReasonOf slot ≠ 0 →
         t.strct.shadow = .failed ∧ t.strct.reason = s.slotReasonOf slot ∧ t.strct.shImage = none ∧
         bit (t.head .strct).irq 1 = true ∧
         (s.canLog = true → s.slotReasonOf slot ≠ 8 → t.hasEntry 0xE101 5 locStruct
           (pack64 [(0, s.slotReasonOf slot), (8, b01 slot), (32, leAt (s.slotImage slot) 0x10 4)]) = true)) := by
  have hframe := frame_structLoadWrite .keeper (BitVec.ofNat 32 (2 + b01 slot)) s
  refine ⟨_, exec_structLoadGo .keeper slot hp, hframe.cfg rfl, ?_, ?_, hframe.hurdle rfl, hframe.hsw rfl, hframe.sol rfl,
    hframe.led rfl, hframe.mem rfl, ?_, ?_, ?_⟩
  all_goals
    rw [structLoadGo_keeper slot h1 h2 h3]
    extract_lets u
    obtain ⟨himg, hreason⟩ : u.slotImage slot = s.slotImage slot ∧ u.slotReasonOf slot = s.slotReasonOf slot :=
      slotReasonOf_congr slot rfl rfl
  · split
    · rw [(frame_setErr _ _ _).strct rfl]
      rfl
    · rw [(loadShadow_inForce slot u).1]
      rfl
  · split
    · rw [(frame_setErr _ _ _).strct rfl]
      rfl
    · rw [(loadShadow_inForce slot u).2]
      rfl
  · exact fun hbusy => if_pos hbusy
  · intro hl hs hok
    rw [if_neg (not_or.mpr ⟨hl, hs⟩), loadShadow_good (hreason.trans hok), himg]
    exact ⟨rfl, rfl, rfl, rfl⟩
  · intro hl hs hbad
    rw [if_neg (not_or.mpr ⟨hl, hs⟩), loadShadow_bad (hreason ▸ hbad), hreason]
    generalize hv : modStruct _ u = v
    obtain ⟨hst, hirq, hentry⟩ := rejectEntries_spec slot (s.slotReasonOf slot) v
    have hmem : v.mem = s.mem := by rw [← hv]; rfl
    have hkey : v.key = s.key := by rw [← hv]; rfl
    have htally : v.tally = s.tally := by rw [← hv]; rfl
    have himg' : v.slotImage slot = s.slotImage slot := (slotReasonOf_congr (s := s) (t := v) slot hmem hkey).1
    have hlog : v.canLog = s.canLog := canLog_congr htally
    have hst' := (congrArg State.strct hv).symm
    rw [modStruct_strct] at hst'
    rw [hst, ← himg', ← hlog]
    exact ⟨by rw [hst'], by rw [hst'], by rw [hst'], hirq, hentry⟩

/-- Settles O17: GO by what its slot holds; the end of a load by what the dies answer. -/
theorem structureLoads : Obligations.StructureLoads := by
  refine ⟨keeper_loads, fun s hp hload => ⟨fun g hg => ?_, fun hlate => ?_⟩⟩
  · have hframe := frame_doShadowReady s
    have hready : doShadowReady s = keyBegin (setIrq .strct 0 (logEv 0xE102 2 locStruct
        (pack64 [(8, b01 s.strct.shSlot), (32, g.serial.toNat)]) (modStruct (fun x => { x with shadow := .ready }) s))) := by
      simp only [doShadowReady, hload, hg]
    have hidle (h : s.key.waiting = none ∨ s.acc.write ≠ none) : doShadowReady s = setIrq .strct 0 (logEv 0xE102 2 locStruct
        (pack64 [(8, b01 s.strct.shSlot), (32, g.serial.toNat)]) (modStruct (fun x => { x with shadow := .ready }) s)) := by
      rw [hready, keyBegin_of_not_due]
      rw [(frame_setIrq _ _ _).key rfl, (frame_setIrq _ _ _).acc rfl, (frame_logEv _ _ _ _ _).key rfl,
        (frame_logEv _ _ _ _ _).acc rfl]
      exact h
    refine ⟨_, next_whenOn hp, ?_, ?_, hframe.cfg rfl, hframe.mem rfl, hframe.hurdle rfl, fun hkey => ⟨fun hlog => ?_, ?_⟩⟩
    · rw [hready, (frame_keyBegin _).strct rfl, (frame_setIrq _ _ _).strct rfl, (frame_logEv _ _ _ _ _).strct rfl]
      rfl
    · rw [hready, keyHeads_keyBegin _ .strct (by decide)]
      exact bit_setIrq _ (by decide)
    · rw [hidle hkey, hasEntry_congr ((frame_setIrq _ _ _).tally rfl)]
      exact hasEntry_logEv hlog (by decide) (by decide)
    · refine Frame.eq_patch (m := 263440) ?_
      rw [hidle hkey]
      exact (frame_setIrq _ _ _).step rfl ((frame_logEv _ _ _ _ _).step rfl ((frame_modStruct _ s).mono rfl))
  · have hto : doShadowAckTimeout s = setIrq .strct 1 (logEv 0xE104 4 locStruct 3
        (modStruct (fun x => { x with shadow := .failed, shImage := none }) s)) := if_pos ⟨hload, hlate⟩
    refine ⟨_, next_whenOn hp, ?_, ?_, fun hlog => ?_, (frame_doShadowAckTimeout s).eq_patch⟩
    · rw [hto, (frame_setIrq _ _ _).strct rfl, (frame_logEv _ _ _ _ _).strct rfl]
      rfl
    · rw [hto]
      exact bit_setIrq _ (by decide)
    · rw [hto, hasEntry_congr ((frame_setIrq _ _ _).tally rfl)]
      exact hasEntry_logEv hlog (by decide) (by decide)

end Sys2Proof.Proofs
end

section
/-! SUPPORT. Arming, cancelling and doing a swap (R78 to R85, R511), and the statement of 03_structure_image.md about it. -/

namespace Sys2Proof.Machine

/-! ### Arming and cancelling -/

/-- Whether the envelope phase of a tick has opened is read in the tick generator. -/
theorem envOpened_congr {s t : State} (h : t.tick = s.tick) (n : Nat) : t.envOpened n = s.envOpened n := by
  rw [State.envOpened, State.envOpened, h]

/-- The tick for which a swap is armed is read in the tick generator. -/
theorem swapTarget_congr {s t : State} (h : t.tick = s.tick) (v : DWord) : t.swapTarget v = s.swapTarget v := by
  rw [State.swapTarget, State.swapTarget, envOpened_congr h, h]

/-- Why arming is refused is read in the two configurations and the tick generator. -/
theorem armRefused_congr {s t : State} (htick : t.tick = s.tick) (hcfg : t.cfg = s.cfg)
    (himg : t.strct.shImage = s.strct.shImage) (hsh : t.strct.shadow = s.strct.shadow)
    (htg : t.strct.target = s.strct.target) (n : Nat) : t.armRefused n = s.armRefused n := by
  rw [State.armRefused, State.armRefused, envOpened_congr htick, envOpened_congr htick, hcfg, himg, hsh, htg]

/-- An error bit depends on the head registers and the cycle alone. -/
theorem heads_setErr_congr {s t : State} (h : t.heads = s.heads) (hc : t.cycle = s.cycle) (b : Block) (i : Nat) :
    (setErr b i t).heads = (setErr b i s).heads := by
  have hnote : t.cycNote b = s.cycNote b := by
    rw [State.cycNote, State.cycNote, State.head, State.head, hc, h]
  simp only [setErr, hwBit, modNote, modHead, h, hnote]

/-- The high word of a target, with its low word held. -/
def takeTarget (v : DWord) (s : State) : State :=
  modStruct (fun x => { x with swapAt := v }) (dropHeld .keeper s)

/-- Keeper level arms with both words of the target. -/
theorem doSwapatArm_keeper {lo : Word} (hi : Word) {s : State} (h : heldWord .keeper 0x20020028 s = some lo) :
    doSwapatArm .keeper hi s = armSwap (join64 lo hi) (takeTarget (join64 lo hi) s) := by
  simp only [doSwapatArm, ne_eq, not_true_eq_false, if_false, h, takeTarget]

/-- Without the low word the write is a reserved one. -/
theorem doSwapatArm_keeper_none (hi : Word) {s : State} (h : heldWord .keeper 0x20020028 s = none) :
    doSwapatArm .keeper hi s = reservedWrite .keeper 0x2002002C s := by
  simp only [doSwapatArm, ne_eq, not_true_eq_false, if_false, h]

/-- While the tick runs arming is refused or scheduled. -/
theorem armSwap_running {v : DWord} {s : State} (hf : s.strct.inForce = true)
    (h : s.tick.phase ≠ .off ∨ s.tick.executed ≠ 0) : armSwap v s =
      match s.armRefused (s.swapTarget v) with
      | some i => setErr .strct i s
      | none => schedule (s.swapTarget v) s := by
  have hnot : ¬((!s.strct.inForce) = true ∨ s.tick.phase = .off ∧ s.tick.executed = 0) := by
    rw [hf]
    simpa [imp_iff_not_or] using h
  exact (if_neg hnot).trans rfl

/-- Before the first tick a shadow that is ready is scheduled. -/
theorem armSwap_start {v : DWord} {s : State} {g : Image} (hph : s.tick.phase = .off) (hex : s.tick.executed = 0)
    (hg : s.strct.shImage = some g) (h : s.strct.shadow = .ready ∨ s.strct.shadow = .scheduled) : armSwap v s =
      schedule (ceilDiv (s.time.tb[0].value.toNat + 2 * g.periodNs * 2 ^ 32) (g.periodNs * 2 ^ 32)) s := by
  refine (if_pos (.inr ⟨hph, hex⟩)).trans ?_
  simp only [armAtStart, hg, h, if_true]

/-- Arming leaves the words of the target as written. -/
theorem armSwap_swapAt (v : DWord) (s : State) : (armSwap v s).strct.swapAt = s.strct.swapAt := by
  unfold armSwap armAtStart
  split
  · split
    · split <;> rfl
    · rfl
  · extract_lets t
    split
    · rw [(frame_setErr _ _ _).strct rfl]
    · rfl

/-- CANCEL before the envelope phase of the tick before the target. -/
theorem structCancel_keeper {s : State} (h1 : s.upd.state ≠ .verified) (h2 : s.upd.state ≠ .scheduled)
    (h3 : s.upd.state ≠ .trial) (hs : s.strct.shadow = .scheduled) (hopen : s.envOpened (s.strct.target.toNat - 1) = false) :
    structLoadWrite .keeper (BitVec.ofNat 32 (4 + b01 s.strct.slot)) s = swapAbort 1 s := by
  obtain ⟨hlt, hone⟩ := (structLoad_commands_valid s.strct.slot).2
  have hgo : bit (BitVec.ofNat 32 (4 + b01 s.strct.slot)) 1 = false := by cases s.strct.slot <;> rfl
  have hcancel : bit (BitVec.ofNat 32 (4 + b01 s.strct.slot)) 2 = true := by cases s.strct.slot <;> rfl
  have hslot : bit (BitVec.ofNat 32 (4 + b01 s.strct.slot)) 0 = s.strct.slot := by cases s.strct.slot <;> rfl
  have hbad : decide (8 ≤ (BitVec.ofNat 32 (4 + b01 s.strct.slot)).toNat ∨
      (bit (BitVec.ofNat 32 (4 + b01 s.strct.slot)) 1 = true ∧ bit (BitVec.ofNat 32 (4 + b01 s.strct.slot)) 2 = true)) =
      false := decide_eq_false (not_or.mpr ⟨Nat.not_le.mpr hlt, hone⟩)
  have hload : structLoadWrite .keeper (BitVec.ofNat 32 (4 + b01 s.strct.slot)) s =
      structLoad (BitVec.ofNat 32 (4 + b01 s.strct.slot)) s := by
    simp only [structLoadWrite, wrIf, hbad, BEq.rfl, Bool.not_true, Bool.false_eq_true, if_false]
  have hsame : modStruct (fun x => { x with slot := s.strct.slot }) s = s := rfl
  rw [hload]
  simp only [structLoad, h1, h2, h3, or_self, if_false, hslot, hgo, hcancel, Bool.false_eq_true, hsame, hs, hopen,
    Bool.not_false, and_self, if_true]

/-! ### The exchange -/

/-- With no die that lags the image is the new one whole. -/
theorem withDies_none (new old : Image) : new.withDies old (Vector.replicate 5 false) = new := by
  have hflag (n : Nat) : getNat (Vector.replicate 5 false) n false = false := by
    by_cases h : n < 5
    · rw [getNat, Vector.toList_replicate, List.getD_replicate _ h]
    · rw [getNat, List.getD_eq_default]
      simpa using h
  have hhs : (Vector.ofFn fun k : Fin 96 =>
      if getNat (Vector.replicate 5 false) (hsDie k.val) false = true then old.hs[k] else new.hs[k]) = new.hs := by
    ext k hk : 1
    simp [hflag]
  unfold Image.withDies
  rw [hhs]
  rfl

/-- A die set with no die in it. -/
theorem eq_replicate_of_not_any {v : Vector Bool 5} (h : v.toList.any id = false) : v = Vector.replicate 5 false := by
  ext i hi : 1
  rw [Vector.getElem_replicate]
  have hall := List.any_eq_false.mp h v[i] (Vector.mem_toList_iff.mpr (Vector.getElem_mem hi))
  simpa using hall

/-- The exchange after the outputs have taken the image. -/
def exchanged (was : Bool) (old : Image) (oldSlot : Bool) (s : State) : State :=
  modStruct (fun x => { x with
    shadow := if was then .ready else .empty
    shImage := if was then some old else none
    active := x.shSlot, shSlot := oldSlot, inForce := true, gen := satInc x.gen }) s

/-- What the exchange leaves, by the state in which the outputs have taken the image. -/
theorem exchange_spec (lag : Vector Bool 5) (new : Image) (s : State) :
    let u := if s.strct.inForce then swapImage lag s.cfg new s else startImage new s
    let t := exchange lag new s
    t.strct = (exchanged s.strct.inForce s.inForceImage s.strct.active u).strct ∧ t.cfg = u.cfg ∧
      bit (t.head .strct).irq 2 = true := by
  intro u t
  have hmatch (w : State) : Frame 1074790912 w ((List.finRange 4).foldl matchProgram w) :=
    Frame.foldl (fun v k h => (frame_matchProgram v k).step rfl h) (Frame.refl _ w)
  refine ⟨?_, ?_, bit_setIrq _ (by decide)⟩
  · change (setIrq .strct 2 _).strct = _
    rw [(frame_setIrq _ _ _).strct rfl, (frame_logEv _ _ _ _ _).strct rfl, (hmatch _).strct rfl]
    rfl
  · change (setIrq .strct 2 _).cfg = _
    rw [(frame_setIrq _ _ _).cfg rfl, (frame_logEv _ _ _ _ _).cfg rfl, (hmatch _).cfg rfl]
    rfl

/-- A later swap gives the dies that lag the image before, and remembers it for them. -/
theorem swapImage_spec (lag : Vector Bool 5) (old new : Image) (s : State) :
    (swapImage lag old new s).cfg = new.withDies old lag ∧ (swapImage lag old new s).strct =
      { s.strct with late := if lag.toList.any id then some (old, new) else none, lateDies := lag } := by
  constructor
  · unfold swapImage
    rw [(frame_mbusSwap _ _ _).cfg rfl, (frame_audioSwap _ _ _).cfg rfl, (frame_swapDies _ _ _ _).cfg rfl]
  · have hv : (swapOutputs old new (accSwap old new s)).strct = s.strct :=
      ((frame_swapOutputs old new _).strct rfl).trans ((frame_accSwap old new s).strct rfl)
    have hswap : (swapImage lag old new s).strct = { (swapOutputs old new (accSwap old new s)).strct with
        late := if lag.toList.any id then some (old, new) else none, lateDies := lag } :=
      ((frame_mbusSwap _ _ _).strct rfl).trans (((frame_audioSwap _ _ _).strct rfl).trans
        ((frame_swapDies _ _ _ _).strct rfl))
    rw [hswap, hv]

/-- The first image of a start is in force whole, and leaves the shadow's records but the dies that acknowledged. -/
theorem startImage_spec (g : Image) (s : State) :
    (startImage g s).cfg = g ∧ (startImage g s).strct = { s.strct with dies := none } := by
  unfold startImage
  extract_lets
  split
  · exact ⟨rfl, rfl⟩
  · rw [(frame_queStart _ _).cfg rfl, (frame_queStart _ _).strct rfl]
    exact ⟨rfl, rfl⟩

/-- The report of the dies that lag leaves the configuration and the swap. -/
theorem lagging_spec (missed : Vector Bool 5) (s : State) :
    (lagging missed s).hurdle.lag = missed ∧ (lagging missed s).strct = s.strct ∧ (lagging missed s).cfg = s.cfg ∧
      (lagging missed s).head .strct = s.head .strct := by
  have hframe := frame_lagging missed s
  refine ⟨rfl, hframe.strct rfl, hframe.cfg rfl, ?_⟩
  have hheads : HeadsKept [.tally] s (lagging missed s) :=
    HeadsKept.step (headsKept_of_heads rfl)
      (HeadsKept.foldl (fun u d => HeadsKept.ite (headsKept_logEv _ _ _ _ u (by decide)) (HeadsKept.refl u)) _ s)
  exact hheads .strct (by decide)

/-- A die's late swap: with none late nothing; otherwise the dies that still lag keep the image before. -/
theorem lateSwap_spec (s : State) : (s.strct.late = none → lateSwap s = s) ∧
    (∀ old new, s.strct.late = some (old, new) → (lateSwap s).inForceImage = new) ∧
    ∃ late dies, (lateSwap s).strct = { s.strct with late := late, lateDies := dies } := by
  cases hl : s.strct.late with
  | none =>
    have hsame : lateSwap s = s := by simp only [lateSwap, hl]
    rw [hsame]
    exact ⟨fun _ => rfl, nofun, none, s.strct.lateDies, by rw [← hl]⟩
  | some x =>
    obtain ⟨old, new⟩ := x
    generalize ht : lateSwap s = t
    unfold lateSwap at ht
    simp only [hl] at ht
    have hcfg : t.cfg = new.withDies old (Vector.ofFn fun d : Fin 5 => s.strct.lateDies[d] && s.hurdle.lag[d]) := by
      rw [← ht, (frame_swapDies _ _ _ _).cfg rfl]
    have hst := ht ▸ (frame_swapDies _ _ _ _).strct rfl
    refine ⟨nofun, ?_, _, _, hst⟩
    rintro old' new' ⟨⟩
    simp only [State.inForceImage, hst, hcfg]
    split
    case h_1 heq =>
      split at heq
      · cases heq; rfl
      · cases heq
    case h_2 heq =>
      split at heq
      · cases heq
      case isFalse hany =>
        rw [eq_replicate_of_not_any (Bool.eq_false_iff.mpr hany), withDies_none]

end Sys2Proof.Machine

/-! ### The statement -/

namespace Sys2Proof.Proofs

open Sys2Proof.Machine

/-- Keeper level arms, with and without the low word of the target. -/
theorem keeper_arms (hi lo : Word) (s : State) (hp : s.powered = true) (hf : s.strct.inForce = true)
    (hlo : heldWord .keeper 0x20020028 s = some lo) :
    ∃ t, exec (.swapatArm .keeper hi) s = .next t ∧ heldWord .keeper 0x20020028 t = none ∧ t.cfg = s.cfg ∧
      t.strct.swapAt = join64 lo hi ∧ t.hurdle = s.hurdle ∧ t.mem = s.mem ∧
      (s.tick.phase ≠ .off ∨ s.tick.executed ≠ 0 → s.armRefused (s.swapTarget (join64 lo hi)) = none →
        t.strct.shadow = .scheduled ∧
        t.strct.target = BitVec.ofNat 64 (s.swapTarget (join64 lo hi)) ∧ t.heads = s.heads) ∧
      (s.tick.phase = .off → s.tick.executed = 0 → ∀ g, s.strct.shImage = some g →
        s.strct.shadow = .ready ∨ s.strct.shadow = .scheduled →
        t.strct.shadow = .scheduled ∧ t.heads = s.heads ∧ t.strct.target = BitVec.ofNat 64
          (ceilDiv (s.time.tb[0].value.toNat + 2 * g.periodNs * 2 ^ 32) (g.periodNs * 2 ^ 32))) ∧
      (s.tick.phase ≠ .off ∨ s.tick.executed ≠ 0 → ∀ i, s.armRefused (s.swapTarget (join64 lo hi)) = some i →
        t.strct.shadow = s.strct.shadow ∧ t.strct.target = s.strct.target ∧
        t.heads = (setErr .strct i s).heads) := by
  let u := takeTarget (join64 lo hi) s
  have hu : doSwapatArm .keeper hi s = armSwap (join64 lo hi) u := doSwapatArm_keeper hi hlo
  have hframe := frame_armSwap (join64 lo hi) u
  have htarget : u.swapTarget (join64 lo hi) = s.swapTarget (join64 lo hi) := swapTarget_congr rfl _
  have hrefused (n : Nat) : u.armRefused n = s.armRefused n := armRefused_congr rfl rfl rfl rfl rfl n
  have hrun (h : s.tick.phase ≠ .off ∨ s.tick.executed ≠ 0) := armSwap_running (v := join64 lo hi) (s := u) hf h
  rw [htarget, hrefused] at hrun
  refine ⟨_, exec_swapatArm .keeper hi hp, ?_, ?_, ?_, ?_, ?_, fun h hok => ?_, fun hph hex g hg hsh => ?_,
    fun h i hno => ?_⟩
  all_goals rw [hu]
  · have hheld : (armSwap (join64 lo hi) u).held[Requester.keeper.slot] = none := by
      simp only [hframe.held rfl]
      exact held_dropHeld_self .keeper s
    simp only [heldWord, hheld]
  · exact hframe.cfg rfl
  · exact armSwap_swapAt _ u
  · exact hframe.hurdle rfl
  · exact hframe.mem rfl
  · rw [hrun h, hok]
    exact ⟨rfl, rfl, rfl⟩
  · rw [armSwap_start (s := u) hph hex hg hsh]
    exact ⟨rfl, rfl, rfl⟩
  · rw [hrun h, hno]
    dsimp only
    have hst := (frame_setErr .strct i u).strct rfl
    rw [hst]
    exact ⟨rfl, rfl, heads_setErr_congr rfl rfl _ _⟩

/-- Settles O18: arming and CANCEL by what refuses them; the swap by the dies that lag. -/
theorem structureSwaps : Obligations.StructureSwaps := by
  refine ⟨fun hi lo s hp hf => ⟨fun hno => ?_, keeper_arms hi lo s hp hf, fun h1 h2 h3 hs hopen => ?cancel⟩,
    fun g s hp hg => ⟨fun hdue => ?swap, fun hf hs => ?start⟩⟩
  · rw [exec_swapatArm .keeper hi hp, doSwapatArm_keeper_none hi hno]
  case cancel =>
    refine ⟨_, exec_structCancel .keeper hp, ?_, ?_, ?_⟩
    all_goals rw [structCancel_keeper h1 h2 h3 hs hopen, swapAbort]
    · rw [(frame_setIrq _ _ _).strct rfl, (frame_logEv _ _ _ _ _).strct rfl]
      rfl
    · exact bit_setIrq _ (by decide)
    · rw [(frame_setIrq _ _ _).cfg rfl, (frame_logEv _ _ _ _ _).cfg rfl]
      rfl
  case swap =>
    intro missed
    have hswap : doSwap s = lagging missed (exchange missed g (lateSwap s)) := by
      simp only [doSwap, hg, hdue, if_true]
      rfl
    have hf : s.strct.inForce = true := by
      simp only [State.swapDue, Bool.and_eq_true] at hdue
      exact hdue.1.1.1
    obtain ⟨hnone, hlate, late, dies, hst⟩ := lateSwap_spec s
    have hf' : (lateSwap s).strct.inForce = true := by rw [hst, hf]
    obtain ⟨hxst, hxcfg, hirq⟩ := exchange_spec missed g (lateSwap s)
    obtain ⟨hlag, hlst, hlcfg, hhead⟩ := lagging_spec missed (exchange missed g (lateSwap s))
    obtain ⟨hicfg, hist⟩ := swapImage_spec missed (lateSwap s).cfg g (lateSwap s)
    rw [hf', if_pos rfl] at hxst hxcfg
    rw [hxcfg, hicfg] at hlcfg
    rw [hxst, exchanged, modStruct_strct, hist, hst] at hlst
    rw [← hhead] at hirq
    refine ⟨_, next_whenOn hp, ?_⟩
    rw [hswap, hlcfg, hlst]
    refine ⟨fun h => by rw [hnone h], fun hall => ⟨by rw [hall, withDies_none], ?_⟩, fun hany h => ⟨?_, rfl⟩, fun h => ?_,
      fun old new h => congrArg some (hlate old new h), rfl, rfl, rfl, rfl, rfl, hlag, hirq⟩
    · rw [hall]
      rfl
    · simp only [hany, if_true, hnone h]
    · simp only [if_true, hnone h, State.inForceImage, h]
  case start =>
    have hdue : s.swapDue = false := by simp only [State.swapDue, hf, Bool.false_and]
    generalize hu : passTo 0 (s.strct.target.toNat * g.periodNs * 2 ^ 32) s = u
    have hust : u.strct = s.strct := by rw [← hu]; exact (frame_passTo _ _ _).strct rfl
    have hswap : doSwap s = exchange (Vector.replicate 5 false) g u := by
      simp only [doSwap, hg, hdue, Bool.false_eq_true, if_false, hf, Bool.not_false, hs, and_self, if_true, hu]
    obtain ⟨hxst, hxcfg, hirq⟩ := exchange_spec (Vector.replicate 5 false) g u
    obtain ⟨hicfg, hist⟩ := startImage_spec g u
    rw [hust, hf, if_neg Bool.false_ne_true] at hxst
    rw [hust, hf, if_neg Bool.false_ne_true, hicfg] at hxcfg
    rw [exchanged, modStruct_strct, hist, hust] at hxst
    refine ⟨_, next_whenOn hp, ?_⟩
    rw [hswap, hxcfg, hxst]
    exact ⟨rfl, rfl, rfl, rfl, rfl, rfl, hirq⟩

end Sys2Proof.Proofs
end

section
/-! SUPPORT. The commit of a load switch and its group outside the commit mark, the control of a switch (R101 to R108, Table
4.3), and the statement of 04_switches.md about them. -/

namespace Sys2Proof.Machine

/-! ### Groups -/

/-- A channel is in its group. -/
theorem mem_members_self (g : Image) (k : Fin 96) : k ∈ g.members k := by
  unfold Image.members
  split
  case isTrue h => exact List.mem_filter.mpr ⟨List.mem_finRange k, by simpa using h⟩
  case isFalse => exact List.mem_singleton_self k

/-- The members of a group share it. -/
theorem members_of_mem {g : Image} {k j : Fin 96} (h : j ∈ g.members k) : g.members j = g.members k := by
  unfold Image.members at h ⊢
  split at h
  case isTrue hk =>
    simp only [List.mem_filter, List.mem_finRange, true_and, Bool.and_eq_true, beq_iff_eq] at h
    obtain ⟨hfn, hgroup⟩ := h
    simp only [hk, hfn, if_true, hgroup]
  case isFalse hk =>
    rw [List.mem_singleton.mp h, if_neg hk]

/-- No channel is twice in a group. -/
theorem nodup_members (g : Image) (k : Fin 96) : (g.members k).Nodup := by
  unfold Image.members
  split
  · exact (List.nodup_finRange 96).filter _
  · exact List.nodup_singleton k

/-- The members of a group have one leader. -/
theorem leader_of_mem {g : Image} {k j : Fin 96} (h : j ∈ g.members k) : g.leader j = g.leader k := by
  rw [Image.leader, Image.leader, members_of_mem h]
  cases hm : g.members k with
  | nil => exact nomatch hm ▸ h
  | cons => rfl

/-- The leader is a member. -/
theorem leader_mem (g : Image) (k : Fin 96) : g.leader k ∈ g.members k := by
  have hk := mem_members_self g k
  unfold Image.leader
  cases hm : g.members k with
  | nil => exact nomatch hm ▸ hk
  | cons a l => exact List.mem_cons_self

/-! ### The commit of one channel -/

/-- A channel's record after it is rewritten. -/
theorem modHs_ch_self (k : Fin 96) (f : HsState → HsState) (s : State) : (modHs k f s).hsw.ch[k] = f s.hsw.ch[k] :=
  upd_self s.hsw.ch k f

/-- The other channels' records stand. -/
theorem modHs_ch_other {k j : Fin 96} (f : HsState → HsState) (s : State) (h : j ≠ k) :
    (modHs k f s).hsw.ch[j] = s.hsw.ch[j] :=
  upd_other s.hsw.ch f h

/-- The stamp of a feed's gate leaves the drivers. -/
theorem stampFeed_sol_ch (k : Fin 96) (s : State) : (stampFeed k s).sol.ch = s.sol.ch := by
  unfold stampFeed
  split <;> rfl

/-- The value of a channel as the commit mark takes it (R540). -/
def State.committed (s : State) (k : Fin 96) (cmd : Bool) (h : HsState) : HsState :=
  hsCommitState (s.inrushTicks k) (s.ticksOfMs 5000) (cmd && !s.pwr.noVbl) h

/-- A commit reads the configuration and the supply. -/
theorem committed_congr {s t : State} (hc : t.cfg = s.cfg) (hp : t.pwr = s.pwr) (k : Fin 96) (cmd : Bool) (h : HsState) :
    t.committed k cmd h = s.committed k cmd h := by
  simp only [State.committed, State.inrushTicks, State.ticksOfMs, State.T, hc, hp]

/-- The commit of a channel: its record and its entry, with nothing of another channel, of the tally but by the leader's
entry, or of a driver. -/
theorem hsCommit_spec (k : Fin 96) (cmd : Bool) (s : State) :
    let t := hsCommit k cmd s
    let now := s.committed k cmd s.hsw.ch[k]
    t.hsw.ch[k] = now ∧ (∀ j, j ≠ k → t.hsw.ch[j] = s.hsw.ch[j]) ∧ t.sol.ch = s.sol.ch ∧
      t.tally = (logHsCommit k s.hsw.ch[k] now (modHs k (s.committed k cmd) s)).tally := by
  intro t now
  have hself : (modHs k (s.committed k cmd) s).hsw.ch[k] = now := modHs_ch_self k _ s
  let u := logHsCommit k s.hsw.ch[k] now (modHs k (s.committed k cmd) s)
  have ht : t = if !s.hsw.ch[k].gate && u.hsw.ch[k].gate then stampFeed k u else u := by
    simp only [t, u, ← hself]
    rfl
  have hu := frame_logHsCommit k s.hsw.ch[k] now (modHs k (s.committed k cmd) s)
  have hhsw : t.hsw = (modHs k (s.committed k cmd) s).hsw := by
    rw [ht, ← hu.hsw rfl]
    split
    · exact (frame_stampFeed k u).hsw rfl
    · rfl
  refine ⟨?_, fun j hj => ?_, ?_, ?_⟩
  · simp only [hhsw]
    exact hself
  · simp only [hhsw]
    exact modHs_ch_other _ s hj
  · rw [ht]
    have hsol : u.sol.ch = s.sol.ch := by rw [hu.sol rfl, (frame_modHs k _ s).sol rfl]
    split
    · exact (stampFeed_sol_ch k u).trans hsol
    · exact hsol
  · rw [ht]
    split
    · exact (frame_stampFeed k u).tally rfl
    · rfl

/-! ### The commit of a group -/

/-- The commit of a member, which then has had its commit of the tick. -/
def memberCommit (u t : State) (j : Fin 96) : State :=
  modHs j (fun h => { h with done := true }) (hsCommit j (u.commitValue j) t)

/-- The commit of a group is that of its members. -/
theorem hsGroupCommit_eq (k : Fin 96) (s : State) : hsGroupCommit k s =
    (s.cfg.members k).foldl (memberCommit (passInTick s.cfg.commit 64 s)) (passInTick s.cfg.commit 64 s) := by
  unfold hsGroupCommit
  extract_lets u
  rw [show u.cfg = s.cfg from (frame_passInTick _ _ s).cfg rfl]
  rfl

/-- What the commit of a member leaves. -/
theorem frame_memberCommit (u t : State) (j : Fin 96) : Frame 274704 t (memberCommit u t j) :=
  (frame_modHs j _ _).step rfl (frame_hsCommit j _ t)

/-- The member's record. -/
theorem memberCommit_self (u t : State) (j : Fin 96) :
    (memberCommit u t j).hsw.ch[j] = { t.committed j (u.commitValue j) t.hsw.ch[j] with done := true } := by
  rw [memberCommit, modHs_ch_self, (hsCommit_spec j _ t).1]

/-- The other channels' records stand. -/
theorem memberCommit_other {u t : State} {i j : Fin 96} (h : i ≠ j) : (memberCommit u t j).hsw.ch[i] = t.hsw.ch[i] := by
  rw [memberCommit, modHs_ch_other _ _ h, (hsCommit_spec j _ t).2.1 i h]

/-- Its entry, if it is the leader. -/
theorem memberCommit_tally (u t : State) (j : Fin 96) : (memberCommit u t j).tally =
    (logHsCommit j t.hsw.ch[j] (t.committed j (u.commitValue j) t.hsw.ch[j])
      (modHs j (t.committed j (u.commitValue j)) t)).tally :=
  ((frame_modHs _ _ _).tally rfl).trans (hsCommit_spec j _ t).2.2.2

/-- What the commit of a group leaves. -/
theorem frame_hsGroupCommit_members (k : Fin 96) (s : State) : Frame 405776 s (hsGroupCommit k s) := by
  rw [hsGroupCommit_eq]
  refine Frame.foldl (fun t j h => ?_) ((frame_passInTick _ _ s).mono rfl)
  exact (frame_memberCommit _ t j).step rfl h

/-- The record of a member after the commit of its group. -/
theorem hsGroupCommit_member {k j : Fin 96} {s : State} (hj : j ∈ s.cfg.members k) :
    (hsGroupCommit k s).hsw.ch[j] =
      { s.committed j ((passInTick s.cfg.commit 64 s).commitValue j) s.hsw.ch[j] with done := true } := by
  rw [hsGroupCommit_eq]
  generalize hu : passInTick s.cfg.commit 64 s = u
  have hus : Frame 131072 s u := by rw [← hu]; exact frame_passInTick _ _ s
  apply foldl_establishes (f := memberCommit u) (l := s.cfg.members k) (k := j)
    (P := fun t => t.hsw.ch[j] = { s.committed j (u.commitValue j) s.hsw.ch[j] with done := true })
    (Q := fun t => t.hsw.ch[j] = s.hsw.ch[j] ∧ t.cfg = s.cfg ∧ t.pwr = s.pwr) hj (nodup_members _ _)
  · rintro t ⟨hch, hcfg, hpwr⟩
    rw [memberCommit_self, hch, committed_congr hcfg hpwr]
  · rintro t i - hi ⟨hch, hcfg, hpwr⟩
    have hf := frame_memberCommit u t i
    exact ⟨(memberCommit_other hi.symm).trans hch, (hf.cfg rfl).trans hcfg, (hf.pwr rfl).trans hpwr⟩
  · intro t i _ hi ht
    exact (memberCommit_other hi.symm).trans ht
  · refine ⟨?_, hus.cfg rfl, hus.pwr rfl⟩
    simp only [hus.hsw rfl]

/-- The channels outside the group, and the drivers, stand. -/
theorem hsGroupCommit_keeps (k : Fin 96) (s : State) :
    (∀ j : Fin 96, j ∉ s.cfg.members k → (hsGroupCommit k s).hsw.ch[j] = s.hsw.ch[j]) ∧
      (hsGroupCommit k s).sol.ch = s.sol.ch := by
  rw [hsGroupCommit_eq]
  generalize hu : passInTick s.cfg.commit 64 s = u
  have hus : Frame 131072 s u := by rw [← hu]; exact frame_passInTick _ _ s
  constructor
  · intro j hj
    have hfold : ((s.cfg.members k).foldl (memberCommit u) u).hsw.ch[j] = u.hsw.ch[j] := by
      apply foldl_keeps (f := memberCommit u) (l := s.cfg.members k) (g := fun t : State => t.hsw.ch[j])
      exact fun t i hi => memberCommit_other fun e => hj (e ▸ hi)
    simp only [hfold, hus.hsw rfl]
  · have hfold : ((s.cfg.members k).foldl (memberCommit u) u).sol.ch = u.sol.ch := by
      apply foldl_keeps (f := memberCommit u) (l := s.cfg.members k) (g := fun t : State => t.sol.ch)
      exact fun t i _ => (hsCommit_spec i _ t).2.2.1
    rw [hfold, hus.sol rfl]

/-- A commit of the leader that is entered leaves its entry in the tally. -/
theorem hsGroupCommit_hasEntry {k : Fin 96} {s : State} {code sev : Nat} {p : DWord} (hlog : s.canLog = true)
    (hc : code < 65536) (hsev : sev < 8)
    (hentry : ∀ t : State, t.cfg = s.cfg → logHsCommit (s.cfg.leader k) s.hsw.ch[s.cfg.leader k]
      (s.committed (s.cfg.leader k) ((passInTick s.cfg.commit 64 s).commitValue (s.cfg.leader k)) s.hsw.ch[s.cfg.leader k]) t =
        logLead (s.cfg.leader k) code sev p t) :
    (hsGroupCommit k s).hasEntry code sev (locHs (s.cfg.leader k).val) p = true := by
  rw [hsGroupCommit_eq]
  generalize hu : passInTick s.cfg.commit 64 s = u at hentry
  have hus : Frame 131072 s u := by rw [← hu]; exact frame_passInTick _ _ s
  have hlead : s.cfg.leader (s.cfg.leader k) = s.cfg.leader k := leader_of_mem (leader_mem _ _)
  have hquiet (t : State) (hcfg : t.cfg = s.cfg) (i : Fin 96) (hi : i ∈ s.cfg.members k) (hne : i ≠ s.cfg.leader k) :
      (memberCommit u t i).tally = t.tally := by
    have hnot : (modHs i (t.committed i (u.commitValue i)) t).cfg.leader i ≠ i := by
      rw [(frame_modHs i _ t).cfg rfl, hcfg, leader_of_mem hi]
      exact hne.symm
    rw [memberCommit_tally, logHsCommit, if_pos hnot, (frame_modHs i _ _).tally rfl]
  suffices h : ((s.cfg.members k).foldl (memberCommit u) u).cfg = s.cfg ∧
      ((s.cfg.members k).foldl (memberCommit u) u).hasEntry code sev (locHs (s.cfg.leader k).val) p = true from h.2
  apply foldl_establishes (f := memberCommit u) (l := s.cfg.members k) (k := s.cfg.leader k)
    (P := fun t => t.cfg = s.cfg ∧ t.hasEntry code sev (locHs (s.cfg.leader k).val) p = true)
    (Q := fun t => t.hsw.ch[s.cfg.leader k] = s.hsw.ch[s.cfg.leader k] ∧ t.cfg = s.cfg ∧ t.pwr = s.pwr ∧ t.tally = s.tally)
    (leader_mem _ _) (nodup_members _ _)
  · rintro t ⟨hch, hcfg, hpwr, htally⟩
    refine ⟨((frame_memberCommit u t _).cfg rfl).trans hcfg, ?_⟩
    rw [hasEntry_congr (memberCommit_tally u t _), hch, committed_congr hcfg hpwr,
      hentry _ ((frame_modHs _ _ t).cfg rfl |>.trans hcfg), logLead, (frame_modHs _ _ t).cfg rfl, hcfg, hlead]
    exact hasEntry_logEv ((canLog_congr (((frame_modHs _ _ t).tally rfl).trans htally)).trans hlog) hc hsev
  · rintro t i hi hne ⟨hch, hcfg, hpwr, htally⟩
    have hf := frame_memberCommit u t i
    exact ⟨(memberCommit_other hne.symm).trans hch, (hf.cfg rfl).trans hcfg, (hf.pwr rfl).trans hpwr,
      (hquiet t hcfg i hi hne).trans htally⟩
  · rintro t i hi hne ⟨hcfg, ht⟩
    exact ⟨((frame_memberCommit u t i).cfg rfl).trans hcfg, (hasEntry_congr (hquiet t hcfg i hi hne) _ _ _ _).trans ht⟩
  · refine ⟨?_, hus.cfg rfl, hus.pwr rfl, hus.tally rfl⟩
    simp only [hus.hsw rfl]

/-! ### The transitions of Table 4.3 -/

/-- The inrush phase ends at its last commit. -/
theorem hsCommitState_inrush {n clear : Nat} {h : HsState} (hp : h.prot = .inrush) (hl : h.left ≤ 1) (cmd : Bool) :
    (cmd = true → (hsCommitState n clear cmd h).prot = .on ∧ (hsCommitState n clear cmd h).gate = true) ∧
      (cmd = false → (hsCommitState n clear cmd h).prot = .off ∧ (hsCommitState n clear cmd h).gate = false) := by
  have hleft : h.left - 1 = 0 := by omega
  constructor <;> rintro rfl <;> simp [hsCommitState, hp, hleft, HsState.gate]

/-- A pause ends at its last commit. -/
theorem hsCommitState_pause {n clear : Nat} {h : HsState} (hp : h.prot = .pause) (hl : h.left ≤ 1) (cmd : Bool) :
    (hsCommitState n clear cmd h).r = h.r ∧
      (cmd = true → (hsCommitState n clear cmd h).gate = true ∧ (hsCommitState n clear cmd h).left = n ∧
        (hsCommitState n clear cmd h).prot = if n = 0 then .on else .inrush) ∧
      (cmd = false → (hsCommitState n clear cmd h).prot = .off ∧ (hsCommitState n clear cmd h).gate = false) := by
  have hleft : h.left - 1 = 0 := by omega
  refine ⟨?_, ?_, ?_⟩
  · cases cmd <;> simp [hsCommitState, hp, hleft, hsTurnOn]
  · rintro rfl
    by_cases hn : n = 0 <;> simp [hsCommitState, hp, hleft, hsTurnOn, HsState.gate, hn]
  · rintro rfl
    simp [hsCommitState, hp, HsState.gate]

/-- The retry count clears after 5 s of commits without a trip. -/
theorem hsCommitState_clear {n clear : Nat} {h : HsState} (hp : h.prot = .inrush ∨ h.prot = .on)
    (hc : clear ≤ h.clean + 1) (cmd : Bool) : (cmd = true → (hsCommitState n clear cmd h).r = 0) ∧
      (cmd = false → (hsCommitState n clear cmd h).r = h.r) := by
  constructor <;> rintro rfl
  · rcases hp with hp | hp
    · by_cases hl : h.left - 1 = 0 <;> simp [hsCommitState, hp, hl, hc]
    · simp [hsCommitState, hp, hc]
  · rcases hp with hp | hp <;> simp [hsCommitState, hp]

/-- A commit counts no trip. -/
theorem hsCommitState_trips (n clear : Nat) (cmd : Bool) (h : HsState) : (hsCommitState n clear cmd h).trips = h.trips := by
  unfold hsCommitState hsTurnOn
  extract_lets
  split
  · split <;> rfl
  · split
    · rfl
    · split <;> rfl
  · split <;> rfl
  · split
    · rfl
    · split <;> rfl
  · rfl
  · rfl

/-! ### The committed value -/

/-- The word that the commit mark of the tick brings an output. -/
theorem commitOutputs_commit (s : State) {o : Nat} (ho : o < 256) : ((commitOutputs s).out o).commit = s.toCommit o := by
  have hout : (commitOutputs s).out o = outCommit o (s.out o) := by
    rw [State.out, State.out, getNat_fin (commitOutputs s).hurdle.out ⟨o, ho⟩, getNat_fin s.hurdle.out ⟨o, ho⟩]
    exact mapOuts_out outCommit s ⟨o, ho⟩
  rw [hout, outCommit, State.toCommit]
  cases (s.out o).next <;> rfl

/-- A switch's value at the commit mark is bit 0 of its output's word. -/
theorem commitValue_eq {s : State} {j : Fin 96} (h : (s.cfg.hs[j]).fn = 1 ∨ (s.cfg.hs[j]).fn = 2) :
    s.commitValue j = bit (s.toCommit j.val) 0 := by
  rw [State.commitValue]
  generalize hu : (List.finRange 16).foldl (fun s k => solApply true k s) (commitOutputs s) = u
  have hf : Frame 270608 (commitOutputs s) u := by
    rw [← hu]
    exact Frame.foldl (fun t k ht => (frame_solApply true k t).step rfl ht) (Frame.refl _ _)
  have hcfg : u.cfg = s.cfg := (hf.cfg rfl).trans ((frame_commitOutputs s).cfg rfl)
  have hout : (u.out j.val).commit = s.toCommit j.val := by
    rw [State.out, hf.hurdle rfl]
    exact commitOutputs_commit s (by omega)
  rcases h with h | h <;> simp only [State.hsValue, hcfg, h, State.dieValue, if_true, hout]

/-- Only the counter moves up to the commit mark. -/
theorem toCommit_passInTick (n d : Nat) (s : State) (o : Nat) : (passInTick n d s).toCommit o = s.toCommit o := by
  rw [State.toCommit, State.toCommit, State.out, State.out, (frame_passInTick n d s).hurdle rfl]

/-! ### CH_CTRL -/

/-- The records of a group after all are rewritten. -/
theorem modGroup_ch (k : Fin 96) (f : HsState → HsState) (s : State) :
    (∀ j ∈ s.cfg.members k, (modGroup k f s).hsw.ch[j] = f s.hsw.ch[j]) ∧
      ∀ j : Fin 96, j ∉ s.cfg.members k → (modGroup k f s).hsw.ch[j] = s.hsw.ch[j] := by
  unfold modGroup
  constructor
  · intro j hj
    apply foldl_establishes (f := fun t i => modHs i f t) (l := s.cfg.members k) (k := j)
      (P := fun t : State => t.hsw.ch[j] = f s.hsw.ch[j]) (Q := fun t : State => t.hsw.ch[j] = s.hsw.ch[j]) hj
      (nodup_members _ _)
    · intro t ht
      rw [modHs_ch_self, ht]
    · exact fun t i _ hi ht => (modHs_ch_other f t hi.symm).trans ht
    · exact fun t i _ hi ht => (modHs_ch_other f t hi.symm).trans ht
    · rfl
  · intro j hj
    apply foldl_keeps (f := fun t i => modHs i f t) (l := s.cfg.members k) (g := fun t : State => t.hsw.ch[j])
    exact fun t i hi => modHs_ch_other f t fun e => hj (e ▸ hi)

/-- The record of a channel that is free again (R107). -/
def freed (h : HsState) : HsState := { h with prot := .off, r := 0, left := 0, clean := 0 }

/-- REENABLE of a latch that may end. -/
theorem hsReenable_free {k : Fin 96} {s : State} (h : (s.hsw.ch[s.cfg.leader k]).prot = .latchOc ∨
      ((s.hsw.ch[s.cfg.leader k]).prot = .latchTh ∧ ∀ j ∈ s.cfg.members k, (s.hsw.ch[j]).sensed.toInt < 2480)) :
    (hsReenable k s).hsw = (modGroup k freed s).hsw := by
  rcases h with h | ⟨h, hcool⟩
  · simp only [hsReenable, h]
    exact (frame_logLead _ _ _ _ _).hsw rfl
  · have hall : ((s.cfg.members k).all fun j => decide (s.hsw.ch[j].sensed.toInt < 2480)) = true :=
      List.all_eq_true.mpr fun j hj => decide_eq_true (hcool j hj)
    simp only [hsReenable, h]
    rw [if_pos hall]
    exact (frame_logLead _ _ _ _ _).hsw rfl

/-- REENABLE of a latch that still is hot. -/
theorem hsReenable_hot {k : Fin 96} {s : State} (h : (s.hsw.ch[s.cfg.leader k]).prot = .latchTh)
    (hhot : ∃ j ∈ s.cfg.members k, 2480 ≤ (s.hsw.ch[j]).sensed.toInt) :
    hsReenable k s = setErr .hsw 1 (logLead k 0x2006 3 (pack64 [(0, 5), (3, 1)]) s) := by
  obtain ⟨j, hj, hhot⟩ := hhot
  have hall : ¬((s.cfg.members k).all fun j => decide (s.hsw.ch[j].sensed.toInt < 2480)) = true := fun hall =>
    absurd (of_decide_eq_true (List.all_eq_true.mp hall j hj)) (Int.not_lt.mpr hhot)
  simp only [hsReenable, h]
  rw [if_neg hall]

end Sys2Proof.Machine

/-! ### The statement -/

namespace Sys2Proof.Proofs

open Sys2Proof.Machine

/-- What a commit out of turn leaves of other channels and units. -/
theorem group_commit_stays (k : Fin 96) (s : State) :
    (∀ j : Fin 96, j ∉ s.cfg.members k → (hsGroupCommit k s).hsw.ch[j] = s.hsw.ch[j]) ∧
      (∀ j ∈ s.cfg.members k, ((hsGroupCommit k s).hsw.ch[j]).done = true ∧
        ((hsGroupCommit k s).hsw.ch[j]).trips = (s.hsw.ch[j]).trips) ∧
      (hsGroupCommit k s).hurdle = s.hurdle ∧ (hsGroupCommit k s).sol.ch = s.sol.ch ∧
      (hsGroupCommit k s).led = s.led ∧ (hsGroupCommit k s).mem = s.mem ∧ (hsGroupCommit k s).cfg = s.cfg ∧
      (hsGroupCommit k s).tick = s.tick := by
  obtain ⟨hother, hsol⟩ := hsGroupCommit_keeps k s
  have hf := frame_hsGroupCommit_members k s
  refine ⟨hother, fun j hj => ?_, hf.hurdle rfl, hsol, hf.led rfl, hf.mem rfl, hf.cfg rfl, hf.tick rfl⟩
  rw [hsGroupCommit_member hj]
  exact ⟨rfl, hsCommitState_trips _ _ _ _⟩

/-- Settles O20: a commit out of turn by the state of the group; CH_CTRL by its writer. -/
theorem switchTimersAndControl : Obligations.SwitchTimersAndControl := by
  refine ⟨fun k s hp hnext => ?commits, fun k s hp => ?waits, fun rq k s hp => ⟨fun hno => ?_, fun hok => ⟨?_, ?_, ?_⟩⟩⟩
  case commits =>
    intro lead u v stays
    have hstays : stays (hsGroupCommit k s) := group_commit_stays k s
    refine ⟨fun j hfn => ?value, fun hprot hleft hdone => ?inrush, fun hprot hleft hdone => ?retry,
      fun hprot hr hclean hdone => ?clear⟩
    case value =>
      have hcfg : u.cfg = s.cfg := (frame_passInTick _ _ s).cfg rfl
      rw [commitValue_eq (by rw [hcfg]; exact hfn), toCommit_passInTick]
    case inrush =>
      refine ⟨hsGroupCommit k s, (next_whenOn hp).trans (congrArg _ ?_), hstays, fun j hj hjp hjl => ?_⟩
      · exact if_pos ⟨hnext, by rw [hdone]; rfl, hprot, hleft⟩
      · rw [hsGroupCommit_member hj]
        exact hsCommitState_inrush hjp hjl _
    case retry =>
      refine ⟨hsGroupCommit k s, (next_whenOn hp).trans (congrArg _ ?_), hstays, fun j hj hjp hjl => ?_, fun hlog hv => ?_⟩
      · exact if_pos ⟨hnext, by rw [hdone]; rfl, hprot, hleft⟩
      · rw [hsGroupCommit_member hj]
        exact hsCommitState_pause hjp hjl _
      · have hlead : s.cfg.leader (s.cfg.leader k) = s.cfg.leader k := leader_of_mem (leader_mem _ _)
        refine hsGroupCommit_hasEntry hlog (by decide) (by decide) fun t ht => ?_
        rw [logHsCommit, ht, if_neg (not_not.mpr hlead), if_pos]
        exact ⟨hprot, ((hsCommitState_pause hprot hleft _).2.1 hv).1⟩
    case clear =>
      refine ⟨hsGroupCommit k s, (next_whenOn hp).trans (congrArg _ ?_), hstays, fun j hj hjp hjc => ?_, fun hlog hv => ?_⟩
      · exact if_pos ⟨hnext, by rw [hdone]; rfl, hprot, hr, hclean⟩
      · rw [hsGroupCommit_member hj]
        exact hsCommitState_clear hjp hjc _
      · have hlead : s.cfg.leader (s.cfg.leader k) = s.cfg.leader k := leader_of_mem (leader_mem _ _)
        refine hsGroupCommit_hasEntry hlog (by decide) (by decide) fun t ht => ?_
        have hzero : (s.committed (s.cfg.leader k) ((passInTick s.cfg.commit 64 s).commitValue (s.cfg.leader k))
            s.hsw.ch[s.cfg.leader k]).r = 0 := (hsCommitState_clear hprot hclean _).1 hv
        rw [logHsCommit, ht, if_neg (not_not.mpr hlead), if_neg, if_pos]
        · rw [hzero]
          exact hr
        · rintro ⟨hpause, -⟩
          rcases hprot with h | h <;> exact nomatch h.symm.trans hpause
  case waits =>
    refine ⟨fun h => ⟨(next_whenOn hp).trans (congrArg _ (if_neg ?_)), (next_whenOn hp).trans (congrArg _ (if_neg ?_))⟩,
      fun h => (next_whenOn hp).trans (congrArg _ (if_neg ?_))⟩
    · rintro ⟨hnext, -, -, hleft⟩
      rcases h with h | h
      · exact nomatch h.symm.trans hnext
      · omega
    · rintro ⟨hnext, -, -, hleft⟩
      rcases h with h | h
      · exact nomatch h.symm.trans hnext
      · omega
    · rintro ⟨hnext, -, -, -, hclean⟩
      rcases h with h | h
      · exact nomatch h.symm.trans hnext
      · omega
  · have hnot : ¬hsCtrlAllowed rq = true := Bool.eq_false_iff.mp hno
    exact ⟨(next_whenOn hp).trans (congrArg _ (if_neg hnot)), (next_whenOn hp).trans (congrArg _ (if_neg hnot))⟩
  · exact (next_whenOn hp).trans (congrArg _ (if_pos hok))
  · intro h
    refine ⟨hsReenable k s, (next_whenOn hp).trans (congrArg _ (if_pos hok)), ?_⟩
    obtain ⟨hin, hout⟩ := modGroup_ch k freed s
    simp only [hsReenable_free h]
    refine ⟨fun j hj => ?_, hout⟩
    rw [hin j hj]
    exact ⟨rfl, rfl, rfl, rfl⟩
  · intro hlatch hhot
    refine ⟨hsReenable k s, (next_whenOn hp).trans (congrArg _ (if_pos hok)), ?_⟩
    rw [hsReenable_hot hlatch hhot, setErr_err]
    exact ⟨((frame_setErr _ _ _).hsw rfl).trans ((frame_logLead _ _ _ _ s).hsw rfl), bit_setBit_self _ _ (by decide)⟩

end Sys2Proof.Proofs
end

section
/-! SUPPORT. The events of a solenoid driver (R131 to R145), and the statements of 05_solenoids.md about them and about what a
driver detects. -/

namespace Sys2Proof.Machine

/-! ### One driver -/

/-- A driver's record after it is rewritten. -/
theorem modSol_ch_self (k : Fin 16) (f : SolState → SolState) (s : State) : (modSol k f s).sol.ch[k] = f s.sol.ch[k] :=
  upd_self s.sol.ch k f

/-- The other drivers' records stand. -/
theorem modSol_ch_other {k j : Fin 16} (f : SolState → SolState) (s : State) (h : j ≠ k) :
    (modSol k f s).sol.ch[j] = s.sol.ch[j] :=
  upd_other s.sol.ch f h

/-- A feed whose gate is on is not tripped. -/
theorem not_tripped_of_gate {h : HsState} (hg : h.gate = true) : h.tripped = false := by
  simp only [HsState.gate, Bool.and_eq_true, Bool.or_eq_true, beq_iff_eq] at hg
  rcases hg.2 with hp | hp <;> simp [HsState.tripped, hp]

/-- Whether another driver of the feed is in its peak is read in the drivers and the configuration. -/
theorem otherPeak_congr {s t : State} (hs : t.sol = s.sol) (hc : t.cfg = s.cfg) (k : Fin 16) :
    t.otherPeak k = s.otherPeak k := by
  simp only [State.otherPeak, State.feedOf, hs, hc]

/-- The counter alone moves up to an instant. -/
theorem sol_passToNs (ns : Nat) (s : State) : (passToNs ns s).sol = s.sol := (frame_passToNs ns s).sol rfl

/-! ### The phases of an event -/

/-- An event that no rule holds back starts. -/
theorem doSolEventStart_starts {k : Fin 16} {ev : SolEvent} {s : State} (hw : (s.sol.ch[k]).chainWait = none)
    (hq : (s.sol.ch[k]).queued = some ev) (hph : (s.sol.ch[k]).phase = .idle)
    (hg : (s.feedState (s.feedOf k)).gate = true)
    (hpeak : (passToNs ((getNat s.sol.feedOnAt (s.feedOf k) 0).toNat + 20000) (passToNs ev.due.toNat s)).otherPeak k = false)
    (hline : (passToNs ((getNat s.sol.feedOnAt (s.feedOf k) 0).toNat + 20000) (passToNs ev.due.toNat s)).firstInLine k
      ev.due.toNat = true)
    (hlate : ev.prof.late = 0xFFFF ∨ ((passToNs ((getNat s.sol.feedOnAt (s.feedOf k) 0).toNat + 20000)
      (passToNs ev.due.toNat s)).now - ev.due).toNat ≤ ev.prof.late * 10000 + 5) :
    doSolEventStart k s =
      solStart k ev (passToNs ((getNat s.sol.feedOnAt (s.feedOf k) 0).toNat + 20000) (passToNs ev.due.toNat s)) := by
  generalize ht : passToNs ((getNat s.sol.feedOnAt (s.feedOf k) 0).toNat + 20000) (passToNs ev.due.toNat s) = t at *
  have hnot : ¬(ev.prof.late ≠ 0xFFFF ∧ ev.prof.late * 10000 + 5 < (t.now - ev.due).toNat) := by
    rintro ⟨h1, h2⟩
    rcases hlate with h | h
    · exact h1 h
    · omega
  simp only [doSolEventStart, hw, hq, not_tripped_of_gate hg, Bool.false_eq_true, if_false, hph, ne_eq, not_true_eq_false, hg,
    Bool.not_true, ht, hpeak, hline, Bool.or_self]
  exact if_neg hnot

/-- The record of a driver whose event starts; the other drivers' stand. -/
theorem solStart_spec (k : Fin 16) (ev : SolEvent) (s : State) :
    (∃ c, (solStart k ev s).sol.ch[k] = c ∧ c.phase = .peak ∧ c.profile = ev.profile ∧ c.profs = ev.profs ∧
      c.queued = none ∧ c.events = satInc (s.sol.ch[k]).events ∧ c.start = s.now) ∧
      ∀ j : Fin 16, j ≠ k → (solStart k ev s).sol.ch[j] = s.sol.ch[j] := by
  generalize hu : solStart k ev s = u
  unfold solStart at hu
  extract_lets s1 s2 at hu
  have hsol : u.sol = s2.sol := by
    rw [← hu]
    exact ((frame_logSol _ _ _ _ _).sol rfl).trans ((frame_bump _ _ _ _ _).sol rfl)
  have hself : s2.sol.ch[k] = _ := modSol_ch_self k _ s1
  have hself1 : s1.sol.ch[k] = _ := modSol_ch_self k _ (modSol k (fun c => { c with profs := ev.profs }) s)
  rw [modSol_ch_self] at hself1
  rw [hself1] at hself
  simp only [hsol]
  exact ⟨⟨_, hself, rfl, rfl, rfl, rfl, rfl, rfl⟩, fun j hj =>
    (modSol_ch_other _ s1 hj).trans ((modSol_ch_other _ _ hj).trans (modSol_ch_other _ s hj))⟩

/-- What the end of a hold does. -/
theorem solEndHold_spec (k : Fin 16) (s : State) (hph : (s.sol.ch[k]).phase = .hold) :
    let t := solEndHold k s
    let p := (s.sol.ch[k]).prof (s.sol.ch[k]).profile
    (p.chains = false → (t.sol.ch[k]).active = false ∧
       (s.canLog = true → t.hasEntry 0x3002 1 (locSol k.val) (pack64 [(0, (s.sol.ch[k]).profile)]) = true)) ∧
     (p.chains = true → s.otherPeak k = true → (t.sol.ch[k]).phase = .hold ∧ (t.sol.ch[k]).chainWait ≠ none) ∧
     (p.chains = true → s.otherPeak k = false →
       (t.sol.ch[k]).phase = .peak ∧ (t.sol.ch[k]).profile = p.chain ∧ (t.sol.ch[k]).profStart = t.now) ∧
     ∀ j : Fin 16, j ≠ k → t.sol.ch[j] = s.sol.ch[j] := by
  intro t p
  have ht : t = if p.chains then
      if s.otherPeak k then modSol k (fun c => { c with chainWait := some ⟨p.chain, s.now, c.profs⟩ }) s
      else solBeginPeak k p.chain s
    else logSol k 0x3002 1 (pack64 [(0, (s.sol.ch[k]).profile)]) (solTurnOff k s) := rfl
  clear_value t
  by_cases hchain : p.chains = true
  · rw [if_pos hchain] at ht
    by_cases hpeak : s.otherPeak k = true
    · rw [if_pos hpeak] at ht
      refine ⟨fun h => (nomatch hchain.symm.trans h), fun _ _ => ?_, fun _ h => (nomatch hpeak.symm.trans h), fun j hj => ?_⟩
      · simp only [ht, modSol_ch_self]
        exact ⟨hph, nofun⟩
      · rw [ht]
        exact modSol_ch_other _ s hj
    · rw [if_neg hpeak] at ht
      refine ⟨fun h => (nomatch hchain.symm.trans h), fun _ h => (hpeak h).elim, fun _ _ => ?_, fun j hj => ?_⟩
      · have hself : t.sol.ch[k] = _ := (congrArg (fun t : State => t.sol.ch[k]) ht).trans (modSol_ch_self k _ s)
        have hnow : t.now = s.now := by rw [ht]; rfl
        rw [hself, hnow]
        exact ⟨rfl, rfl, rfl⟩
      · rw [ht]
        exact modSol_ch_other _ s hj
  · rw [if_neg hchain] at ht
    refine ⟨fun _ => ⟨?_, fun hlog => ?_⟩, fun h => (hchain h).elim, fun h => (hchain h).elim, fun j hj => ?_⟩
    · have hsol : t.sol = (solTurnOff k s).sol := by rw [ht]; exact (frame_logSol _ _ _ _ _).sol rfl
      have hself : t.sol.ch[k] = _ := (by rw [hsol] : _ = (solTurnOff k s).sol.ch[k]).trans (modSol_ch_self k _ s)
      simp only [hself, SolState.active]
      split <;> rfl
    · rw [ht]
      exact hasEntry_logEv ((canLog_congr ((frame_solTurnOff k s).tally rfl)).trans hlog) (by decide) (by decide)
    · rw [ht]
      simp only [(frame_logSol _ _ _ _ _).sol rfl]
      exact modSol_ch_other _ s hj

/-- The end of an event: of a hold without end when the command has ended, of a timed one at its time. -/
theorem doEventEnd_ends {k : Fin 16} {s : State} (hph : (s.sol.ch[k]).phase = .hold) (hw : (s.sol.ch[k]).chainWait = none)
    (h : ((s.sol.ch[k]).prof (s.sol.ch[k]).profile).thold ≠ 0 ∨ (s.sol.ch[k]).cmdLive = false) :
    ∃ u, Frame 131072 s u ∧ doEventEnd k s = solEndHold k u := by
  by_cases hhold : ((s.sol.ch[k]).prof (s.sol.ch[k]).profile).thold = 0
  · have hlive : (s.sol.ch[k]).cmdLive = false := h.resolve_left (not_not.mpr hhold)
    refine ⟨s, Frame.refl _ s, ?_⟩
    simp only [doEventEnd, solHoldOver, hph, hw, hhold, hlive, and_self, if_true, Bool.not_false]
  · refine ⟨passToNs ((s.sol.ch[k]).profStart.toNat + ((s.sol.ch[k]).prof (s.sol.ch[k]).profile).tpeak * 10000 +
      ((s.sol.ch[k]).prof (s.sol.ch[k]).profile).thold * 1000000) s, frame_passToNs _ s, ?_⟩
    simp only [doEventEnd, hph, hw, hhold, and_self, if_true, if_false]

/-- A late event is dropped and counted. -/
theorem solLateDrop_spec (k : Fin 16) (ev : SolEvent) (s : State) :
    let t := solLateDrop k ev s
    (t.sol.ch[k]).queued = none ∧ (t.sol.ch[k]).drops = satInc (s.sol.ch[k]).drops ∧
      (t.sol.ch[k]).phase = (s.sol.ch[k]).phase ∧ bit (t.head .sol).irq 3 = true ∧
      ∀ j : Fin 16, j ≠ k → t.sol.ch[j] = s.sol.ch[j] := by
  intro t
  have hsol : t.sol = (modSol k (fun c => { c with queued := none, drops := satInc c.drops }) s).sol :=
    ((frame_setIrq _ _ _).sol rfl).trans (((frame_logSol _ _ _ _ _).sol rfl).trans ((frame_bumpDrop _ _).sol rfl))
  have hirq : bit (t.head .sol).irq 3 = true := bit_setIrq _ (by decide)
  simp only [hsol, modSol_ch_self, hirq, true_and]
  exact fun j hj => modSol_ch_other _ s hj

end Sys2Proof.Machine

/-! ### The statements -/

namespace Sys2Proof.Proofs

open Sys2Proof.Machine

/-- Settles O22: the start of an event by the rules that hold one back, its phases by the driver's. -/
theorem solenoidEvents : Obligations.SolenoidEvents := by
  refine ⟨fun k ev s hp hw hq hph hg => ?start, fun k s hp => ⟨fun hph hhold => ?_, fun hph hw => ?hold,
    fun hph => (next_whenOn hp).trans (congrArg _ (if_pos hph)), fun ev hq hl => ?late⟩⟩
  case start =>
    intro t hpeak hline hlate
    have hframe := frame_doSolEventStart k s
    obtain ⟨⟨c, hc, hphase, hprofile, hprofs, hqueued, hevents, hstart⟩, hother⟩ := solStart_spec k ev t
    have htsol : t.sol = s.sol := (sol_passToNs _ _).trans (sol_passToNs _ s)
    have hrun := doSolEventStart_starts hw hq hph hg hpeak hline hlate
    rw [htsol] at hother hevents
    rw [hrun] at hframe
    refine ⟨_, (next_whenOn hp).trans (congrArg _ hrun), ?_⟩
    rw [hc]
    exact ⟨hphase, by simp [SolState.active, hphase], hprofile, hprofs, hqueued, hevents, hstart, hother, hframe.hsw rfl,
      hframe.led rfl, hframe.hurdle rfl⟩
  · refine (next_whenOn hp).trans (congrArg _ ((if_pos hph).trans (if_neg ?_)))
    rintro ⟨-, -, hzero, -⟩
    simp only [modSol_ch_self, sol_passToNs] at hzero
    exact hhold hzero
  case hold =>
    intro p
    refine ⟨fun hhold hlive => (next_whenOn hp).trans (congrArg _ ?_), fun h => ?_⟩
    · have hhold' : ((s.sol.ch[k]).prof (s.sol.ch[k]).profile).thold = 0 := hhold
      simp only [doEventEnd, solHoldOver, hph, hw, hhold', hlive, and_self, if_true, Bool.not_true, Bool.false_eq_true,
        and_false, if_false]
    · obtain ⟨u, hu, hend⟩ := doEventEnd_ends hph hw h
      have hframe := frame_doEventEnd k s
      have hspec := solEndHold_spec k u (by simp only [hu.sol rfl]; exact hph)
      rw [← hend, otherPeak_congr (hu.sol rfl) (hu.cfg rfl), canLog_congr (hu.tally rfl)] at hspec
      simp only [hu.sol rfl] at hspec
      obtain ⟨hc1, hc2, hc3, hother⟩ := hspec
      exact ⟨_, next_whenOn hp, hc1, hc2, hc3, hother, hframe.hsw rfl, hframe.led rfl, hframe.hurdle rfl⟩
  case late =>
    have hdrop : doLateDrop k s = solLateDrop k ev (passToNs (ev.due.toNat + ev.prof.late * 10000) s) := by
      simp only [doLateDrop, hq, hl, if_false]
    obtain ⟨hc1, hc2, hc3, hc4, hother⟩ := solLateDrop_spec k ev (passToNs (ev.due.toNat + ev.prof.late * 10000) s)
    simp only [sol_passToNs] at hc2 hc3 hother
    have hframe := frame_doLateDrop k s
    rw [hdrop] at hframe
    exact ⟨_, (next_whenOn hp).trans (congrArg _ hdrop), hc1, hc2, hc3, (frame_solLateDrop k ev _).time rfl, hc4, hother,
      hframe.hsw rfl, hframe.led rfl, hframe.hurdle rfl⟩

/-- What the peak and the hold of an event show: a movement, none, an open coil. -/
theorem driver_detects (k : Fin 16) (s : State) (hp : s.powered = true) :
    let c := s.sol.ch[k]
    let p := c.prof c.profile
    (∀ (tmax tmin : Word) (imax imin v0 v1 : Half), c.phase = .peak → c.detect = true →
      imin.toNat + p.dip ≤ imax.toNat → imax.toNat < p.ipeak → tmin.toNat ≤ p.moveto * 10 →
      v0.toNat * 9 ≤ v1.toNat * 10 →
      ∃ t, exec (.move k tmax tmin imax imin v0 v1) s = .next t ∧
        t.sol.ch[k] = { c with detect := false, moved := true, tmax := moveTime tmax, tmin := moveTime tmin } ∧
        bit (t.head .sol).irq 0 = true ∧ t.hsw = s.hsw) ∧
    (∀ (tmax tmin : Word) (imax imin v0 v1 : Half), v1.toNat * 10 < v0.toNat * 9 →
      exec (.move k tmax tmin imax imin v0 v1) s = .next s) ∧
    (∀ imax : Half, c.active = true → c.detect = true →
      ∃ t, exec (.noMove k imax) s = .next t ∧ t.sol.ch[k] = { c with detect := false, noMove := true } ∧
        bit (t.head .sol).irq 1 = true ∧ t.hsw = s.hsw) ∧
    (∀ imax : Half, (c.phase = .peak ∧ imax.toNat < p.ipeak) ∨ (c.phase = .hold ∧ imax.toNat * 2 < p.ihold) →
      ∃ t, exec (.coilOpen k imax) s = .next t ∧ t.sol.ch[k] = { c with coilOpen := true } ∧
        bit (t.head .sol).irq 2 = true ∧ t.hsw = s.hsw) := by
  intro c p
  refine ⟨fun tmax tmin imax imin v0 v1 hph hdet hdip hpk hwin hsup => ?move, fun tmax tmin imax imin v0 v1 hsup => ?_,
    fun imax hact hdet => ?noMove, fun imax hopen => ?coilOpen⟩
  case move =>
    refine ⟨doMove k tmax tmin imax imin v0 v1 s, next_whenOn hp, ?_, ?_, (frame_doMove k _ _ _ _ _ _ s).hsw rfl⟩
    all_goals
      unfold doMove
      rw [if_pos ⟨hph, hdet, hdip, hpk, hwin, hsup⟩]
      extract_lets t at_
    · simp only [(frame_setIrq _ _ _).sol rfl, (frame_logAt _ _ _ _ _ _ _).sol rfl]
      exact modSol_ch_self k _ s
    · exact bit_setIrq _ (by decide)
  · refine (next_whenOn hp).trans (congrArg _ (if_neg ?_))
    rintro ⟨-, -, -, -, -, h⟩
    omega
  case noMove =>
    refine ⟨doNoMove k imax s, next_whenOn hp, ?_, ?_, (frame_doNoMove k imax s).hsw rfl⟩
    all_goals
      unfold doNoMove
      rw [if_pos ⟨hact, hdet⟩]
      extract_lets t u
      have ht : t.sol = s.sol := by
        simp only [t]
        split
        · exact sol_passToNs _ s
        · rfl
    · simp only [(frame_setIrq _ _ _).sol rfl, (frame_logSol _ _ _ _ _).sol rfl]
      refine (modSol_ch_self k _ t).trans ?_
      simp only [ht]
      rfl
    · exact bit_setIrq _ (by decide)
  case coilOpen =>
    refine ⟨doCoilOpen k imax s, next_whenOn hp, ?_, ?_, (frame_doCoilOpen k imax s).hsw rfl⟩
    all_goals
      unfold doCoilOpen
      rw [if_pos hopen]
      extract_lets t u
      have ht : t.sol = s.sol := by
        simp only [t]
        split
        · exact sol_passToNs _ s
        · rfl
    · simp only [(frame_setIrq _ _ _).sol rfl, (frame_logSol _ _ _ _ _).sol rfl, u, (frame_solFlag _ _ _).sol rfl]
      refine (modSol_ch_self k _ t).trans ?_
      simp only [ht]
      rfl
    · exact bit_setIrq _ (by decide)

/-- Settles O23: what a driver that conducts shows, and the reports on drivers that are off. -/
theorem solenoidDetection : Obligations.SolenoidDetection := by
  refine ⟨driver_detects, fun k i s hp => ⟨fun hoff hg hi hat => ?_, fun hs hfn hg hlim hquiet => ?leak, next_whenOn hp,
    fun rq hok => (next_whenOn hp).trans (congrArg _ (if_pos hok)),
    fun rq hno => (next_whenOn hp).trans (congrArg _ (if_neg (Bool.eq_false_iff.mp hno)))⟩⟩
  · exact (next_whenOn hp).trans (congrArg _ (if_pos ⟨by rw [hoff]; rfl, hg, hi, hat⟩))
  case leak =>
    have hall : ((List.finRange 16).all fun k => s.feedOf k != hs.val ||
        (!s.sol.ch[k].active && decide (s.sol.ch[k].offAt.toNat + 2000000 ≤ s.tb0))) = true := by
      refine List.all_eq_true.mpr fun j _ => ?_
      by_cases hj : s.feedOf j = hs.val
      · obtain ⟨hact, hat⟩ := hquiet j hj
        rw [hact, decide_eq_true hat]
        exact Bool.or_true _
      · simp [hj]
    exact (next_whenOn hp).trans (congrArg _ (if_pos ⟨hfn, hg, hall, hlim⟩))

end Sys2Proof.Proofs
end

section
/-! SUPPORT. Writes of a block's registers by permission and value (R13, R15, R557), and the statement of 06_lighting.md about
the lighting registers and chain frames. -/

namespace Sys2Proof.Machine

/-! ### Writes by permission and value -/

section
variable {b : Block} {rq : Requester} {addr : Nat} {f : State → State} {s : State}

/-- A permitted write of a legal value acts. -/
theorem wrIf_ok : wrIf b true false rq addr f s = f s := rfl

/-- A permitted write of a reserved value is a reserved write. -/
theorem wrIf_reserved : wrIf b true true rq addr f s = reservedWrite rq addr s := rfl

/-- A write of a legal value without permission is refused. -/
theorem wrIf_refused : wrIf b false false rq addr f s = refuseWrite b rq addr s := rfl

/-- A write of a reserved value without permission is refused as well. -/
theorem wrIf_refused_reserved : wrIf b false true rq addr f s = refuseWrite b rq addr (reservedWrite rq addr s) := rfl

end

/-! ### Pattern engines -/

/-- A pattern engine's register after a permitted write of a legal value. -/
theorem peCtrlWrite_permitted {rq : Requester} (hok : hsCtrlAllowed rq = true) (e : Fin 4) (reg : Fin 3) {v : Word}
    (hv : peValueOk reg v = true) (s : State) :
    let t := doPeCtrlWrite rq e reg v s
    (reg = 0 → t.led.pe[e] = { s.led.pe[e] with ctrl := v }) ∧
      (reg = 1 → t.led.pe[e] = { s.led.pe[e] with level := v }) ∧
      (reg = 2 → t.led.pe[e] = { s.led.pe[e] with time := v }) ∧
      (∀ j : Fin 4, j ≠ e → t.led.pe[j] = s.led.pe[j]) ∧
      t = { s with led := { s.led with pe := t.led.pe } } := by
  intro t
  have ht : doPeCtrlWrite rq e reg v s = t := rfl
  clear_value t
  simp only [doPeCtrlWrite, hok, hv, Bool.not_true, wrIf_ok] at ht
  rw [← ht]
  refine ⟨?_, ?_, ?_, fun j hj => ?_, rfl⟩
  · rintro rfl
    exact upd_self s.led.pe e _
  · rintro rfl
    exact upd_self s.led.pe e _
  · rintro rfl
    exact upd_self s.led.pe e _
  · exact upd_other s.led.pe _ hj

end Sys2Proof.Machine

/-! ### The statement -/

namespace Sys2Proof.Proofs

open Sys2Proof.Machine

/-- Settles O25: the registers by their writer and value, a chain line's frame by whether the line is busy. -/
theorem lightingControl : Obligations.LightingControl := by
  refine ⟨fun rq s hp => ⟨fun hno e reg v p l k => ⟨fun hv => ?_, fun hv => ?_, ?_, ?_, ?_⟩,
    fun hok e v => ⟨fun reg hv => ?engine, fun reg hv => ?_⟩, fun hok p => (next_whenOn hp).trans (congrArg _ (if_pos hok)),
    fun hok l => ⟨fun hfn => ?_, fun hfn => ?_⟩⟩,
    fun l share s hp => ⟨fun hbusy => ⟨?_, ?_⟩, fun hbusy => ⟨?_, ?_⟩⟩⟩
  · refine (next_whenOn hp).trans (congrArg _ ?_)
    simp only [written, doPeCtrlWrite, hno, hv, Bool.not_true, wrIf_refused]
    rfl
  · refine (next_whenOn hp).trans (congrArg _ ?_)
    simp only [written, doPeCtrlWrite, hno, hv, Bool.not_false, wrIf_refused_reserved]
    rfl
  · exact (next_whenOn hp).trans (congrArg _ (if_neg (Bool.eq_false_iff.mp hno)))
  · exact (next_whenOn hp).trans (congrArg _ (if_pos (by rw [hno]; rfl)))
  · exact (next_whenOn hp).trans (congrArg _ (if_pos (by rw [hno]; rfl)))
  case engine =>
    obtain ⟨h0, h1, h2, hother, ht⟩ := peCtrlWrite_permitted hok e reg hv (inTurn .led (peAddr e reg % 0x10000) rq.rank s)
    rw [(frame_inTurn .led (peAddr e reg % 0x10000) rq.rank s).led rfl] at h0 h1 h2 hother ht
    exact ⟨_, next_whenOn hp, h0, h1, h2, hother, ht⟩
  · refine (next_whenOn hp).trans (congrArg _ ?_)
    simp only [written, doPeCtrlWrite, hok, hv, Bool.not_false, wrIf_reserved]
  · refine (next_whenOn hp).trans (congrArg _ ?_)
    simp only [doChainSend, hok, hfn, Bool.not_true, Bool.false_eq_true, if_false, if_true]
  · refine (next_whenOn hp).trans (congrArg _ ?_)
    simp only [doChainSend, hok, hfn, Bool.not_true, Bool.false_eq_true, if_false]
  · exact (next_whenOn hp).trans (congrArg _ (if_pos hbusy))
  · exact (next_whenOn hp).trans (congrArg _ (if_pos hbusy))
  · exact (next_whenOn hp).trans (congrArg _ (if_neg (Bool.eq_false_iff.mp hbusy)))
  · exact (next_whenOn hp).trans (congrArg _ (if_neg (Bool.eq_false_iff.mp hbusy)))

end Sys2Proof.Proofs
end

section
/-! SUPPORT. The division edges and the bit fields of the arithmetic units (Table 10.5, R266), and the statement of
10_processor_units.md about them. -/

namespace Sys2Proof.Machine

/-! ### Division -/

/-- The signed quotient is the one rounded toward zero. -/
theorem toInt_sdiv_of_no_overflow {a b : Word} (h : ¬(a = 0x80000000#32 ∧ b = 0xFFFFFFFF#32)) :
    (a.sdiv b).toInt = Int.tdiv a.toInt b.toInt := by
  apply BitVec.toInt_sdiv_of_ne_or_ne
  by_cases ha : a = BitVec.intMin 32
  · exact .inr fun hb => h ⟨ha, hb⟩
  · exact .inl ha

/-- The remainder is what the quotient leaves of the dividend. -/
theorem ofInt_tmod (a b : Word) :
    BitVec.ofInt 32 (Int.tmod a.toInt b.toInt) = a - BitVec.ofInt 32 (Int.tdiv a.toInt b.toInt) * b := by
  rw [Int.tmod_def, Int.sub_eq_add_neg, BitVec.ofInt_add, BitVec.ofInt_neg, BitVec.ofInt_mul, BitVec.ofInt_toInt,
    BitVec.ofInt_toInt, BitVec.sub_eq_add_neg, BitVec.mul_comm b]

/-- Signed division away from its edges. -/
theorem divOp_signed {a b : Word} (hb : b ≠ 0) (h : ¬(a = 0x80000000#32 ∧ b = 0xFFFFFFFF#32)) :
    divOp 0x69 a b = ⟨a.sdiv b, a - a.sdiv b * b, false, false⟩ := by
  have hover : ¬(a = minWord ∧ b = BitVec.allOnes 32) := h
  rw [divOp, if_pos rfl, if_neg hb, if_neg hover, ofInt_tmod, ← toInt_sdiv_of_no_overflow h,
    BitVec.ofInt_toInt]

/-- Unsigned division by another divisor than zero. -/
theorem divOp_unsigned (a : Word) {b : Word} (hb : b ≠ 0) :
    divOp 0x6A a b = ⟨BitVec.ofNat 32 (a.toNat / b.toNat), BitVec.ofNat 32 (a.toNat % b.toNat), false, false⟩ := by
  rw [divOp, if_neg (by decide), if_neg hb]

/-! ### Bit fields -/

/-- The position of a field. -/
theorem fieldPos_eq (p : Word) : fieldPos p = p.toNat % 32 := by
  rw [fieldPos, field, Nat.shiftRight_zero]
  rfl

/-- The width of a field, cut at bit 31. -/
theorem fieldWidth_eq (p : Word) : fieldWidth p = min (p.toNat / 256 % 64) (32 - p.toNat % 32) := by
  rw [fieldWidth, fieldPos_eq, field, Nat.shiftRight_eq_div_pow]
  rfl

/-- The lowest bits of a word. -/
theorem getLsbD_maskOf (w : Nat) {i : Nat} (hi : i < 32) : (maskOf w).getLsbD i = decide (i < w) := by
  rw [maskOf, BitVec.getLsbD_ofNat, Nat.testBit_two_pow_sub_one, decide_eq_true hi, Bool.true_and]

/-- A bit of an extracted field. -/
theorem getLsbD_extract (b : Word) (pos w : Nat) {i : Nat} (hi : i < 32) :
    ((b >>> pos) &&& maskOf w).getLsbD i = (decide (i < w) && b.getLsbD (pos + i)) := by
  rw [BitVec.getLsbD_and, BitVec.getLsbD_ushiftRight, getLsbD_maskOf w hi, Bool.and_comm]

/-- A bit of a field that is extracted with its sign. -/
theorem getLsbD_extract_signed (b : Word) {pos w i : Nat} (hw : w ≠ 0) (hw32 : w ≤ 32) (hi : i < 32) :
    (if ((b >>> pos) &&& maskOf w).getLsbD (w - 1) then ((b >>> pos) &&& maskOf w) ||| ~~~(maskOf w)
      else (b >>> pos) &&& maskOf w).getLsbD i = if i < w then b.getLsbD (pos + i) else b.getLsbD (pos + w - 1) := by
  have htop : ((b >>> pos) &&& maskOf w).getLsbD (w - 1) = b.getLsbD (pos + w - 1) := by
    rw [getLsbD_extract b pos w (by omega), decide_eq_true (by omega), Bool.true_and, Nat.add_sub_assoc (by omega)]
  have hfield := getLsbD_extract b pos w hi
  have hor : (((b >>> pos) &&& maskOf w) ||| ~~~(maskOf w)).getLsbD i =
      (decide (i < w) && b.getLsbD (pos + i) || !decide (i < w)) := by
    rw [BitVec.getLsbD_or, BitVec.getLsbD_not, hfield, getLsbD_maskOf w hi, decide_eq_true hi, Bool.true_and]
  rw [htop]
  by_cases hin : i < w
  · rw [if_pos hin]
    split
    · rw [hor, decide_eq_true hin, Bool.true_and, Bool.not_true, Bool.or_false]
    · rw [hfield, decide_eq_true hin, Bool.true_and]
  · rw [if_neg hin]
    split
    case isTrue h => rw [hor, decide_eq_false hin, h, Bool.not_false, Bool.or_true]
    case isFalse h => rw [hfield, decide_eq_false hin, Bool.false_and, Bool.eq_false_iff.mpr h]

/-- A bit of a word into which a field is inserted. -/
theorem getLsbD_insert (a b : Word) (pos w : Nat) {i : Nat} (hi : i < 32) :
    ((a &&& ~~~(maskOf w <<< pos)) ||| ((b &&& maskOf w) <<< pos)).getLsbD i =
      if pos ≤ i ∧ i < pos + w then b.getLsbD (i - pos) else a.getLsbD i := by
  have hsub : i - pos < 32 := by omega
  simp only [BitVec.getLsbD_or, BitVec.getLsbD_and, BitVec.getLsbD_not, BitVec.getLsbD_shiftLeft, getLsbD_maskOf w hsub, hi]
  by_cases hlo : pos ≤ i
  · by_cases hup : i < pos + w
    · simp [hlo, hup, Nat.not_lt.mpr hlo, show i - pos < w by omega]
    · simp [hlo, hup, show ¬i - pos < w by omega]
  · simp [hlo, Nat.lt_of_not_le hlo]

end Sys2Proof.Machine

/-! ### The statement -/

namespace Sys2Proof.Proofs

open Sys2Proof.Machine

/-- Settles O27: a division by its operands, a bit of a field operation by its place. -/
theorem divisionAndBitFields : Obligations.DivisionAndBitFields := by
  refine ⟨fun a b => ⟨rfl, fun ha => ?_, fun ha => ?_, rfl, fun hb h => ?_, fun hb => ?_⟩, fun a p b i hi => ?fields⟩
  · have hslt : a.slt 0 = false := by
      rw [BitVec.slt_eq_decide]
      exact decide_eq_false (Int.not_lt.mpr ha)
    simp only [divOp, if_true, hslt, Bool.false_eq_true, if_false]
  · have hslt : a.slt 0 = true := by
      rw [BitVec.slt_eq_decide]
      exact decide_eq_true ha
    simp only [divOp, if_true, hslt, minWord]
  · rw [divOp_signed hb h]
    exact ⟨toInt_sdiv_of_no_overflow h, rfl, rfl, rfl⟩
  · rw [divOp_unsigned a hb, BitVec.toNat_ofNat, BitVec.toNat_ofNat]
    have hdiv : a.toNat / b.toNat < 2 ^ 32 := Nat.lt_of_le_of_lt (Nat.div_le_self _ _) a.isLt
    have hmod : a.toNat % b.toNat < 2 ^ 32 := Nat.lt_of_le_of_lt (Nat.mod_le _ _) a.isLt
    exact ⟨Nat.mod_eq_of_lt hdiv, Nat.mod_eq_of_lt hmod⟩
  case fields =>
    intro pos w
    simp only [bitOp, fieldPos_eq, fieldWidth_eq]
    refine ⟨getLsbD_extract b pos w hi, getLsbD_insert a b pos w hi, ?_⟩
    by_cases hw : w = 0
    · rw [if_pos hw, if_pos hw]
      exact BitVec.getLsbD_zero
    · rw [if_neg hw, if_neg hw]
      exact getLsbD_extract_signed b hw (by omega) hi

end Sys2Proof.Proofs
end

section
/-! SUPPORT. The issue of a bundle (R44 to R47, R253, R307), and the statement of 09_processor.md about it. -/

namespace Sys2Proof.Machine

/-! ### Cores -/

/-- A core's record after it is rewritten. -/
theorem modCpu_cpu_self (c : Fin 5) (f : Cpu → Cpu) (s : State) : (modCpu c f s).cpu c = f (s.cpu c) :=
  upd_self s.core.cpu c f

/-- The other cores' records stand. -/
theorem modCpu_cpu_other {c d : Fin 5} (f : Cpu → Cpu) (s : State) (h : d ≠ c) : (modCpu c f s).cpu d = s.cpu d :=
  upd_other s.core.cpu f h

/-- A core is rewritten by what its record becomes. -/
theorem modCpu_congr {c : Fin 5} {f g : Cpu → Cpu} {s : State} (h : f (s.cpu c) = g (s.cpu c)) :
    modCpu c f s = modCpu c g s := by
  have hupd : upd s.core.cpu c f = upd s.core.cpu c g := congrArg (fun x => s.core.cpu.set c x) h
  simp only [modCpu, modCore, hupd]

/-- A core's record is read in the cores. -/
theorem cpu_congr {s t : State} (h : t.core = s.core) (c : Fin 5) : t.cpu c = s.cpu c := by
  rw [State.cpu, State.cpu, h]

/-- The line that is taken is read in the event lines. -/
theorem topLine_congr {s t : State} (h : t.evt = s.evt) : t.topLine = s.topLine := by
  simp only [State.topLine, State.lines, h]

/-- Whether a core may issue is read in the cores, the event lines, the tick generator, the configuration and the operating
point. -/
theorem mayIssue_congr {s t : State} (hc : t.core = s.core) (he : t.evt = s.evt) (ht : t.tick = s.tick)
    (hcfg : t.cfg = s.cfg) (hpwr : t.pwr = s.pwr) (c : Fin 5) : t.mayIssue c = s.mayIssue c := by
  have htakes : t.takesEvent = s.takesEvent := by
    simp only [State.takesEvent, cpu_congr hc, topLine_congr he]
  have hwindow (n : Nat) : t.inWindow n = s.inWindow n := by
    rw [State.inWindow, State.inWindow, State.bundleAt_, State.bundleAt_, State.T, State.T, hcfg, hpwr]
  simp only [State.mayIssue, cpu_congr hc, htakes, hwindow, ht]

/-- With no operation due, none completes. -/
theorem completeDue_none {c : Fin 5} {d : Nat} {s : State} (h : ∀ f ∈ (s.cpu c).flight, d < f.due) :
    completeDue c d s = (none, s) := by
  have hkeep : (s.cpu c).flight.filter (fun f => decide (d < f.due)) = (s.cpu c).flight :=
    List.filter_eq_self.mpr fun f hf => decide_eq_true (h f hf)
  have hdue : (s.cpu c).flight.filter (fun f => decide (f.due ≤ d)) = [] :=
    List.filter_eq_nil_iff.mpr fun f hf hle => Nat.not_lt.mpr (of_decide_eq_true hle) (h f hf)
  have hsame : modCpu c (fun x => { x with flight := (s.cpu c).flight }) s = s := modCpu_of_fixed rfl
  simp only [completeDue, hkeep, hdue, hsame, List.foldl_nil]

/-! ### Words under ECC -/

/-- A word is whole, and no write of the cycle stands before its read. -/
def State.whole (s : State) (k : Nat) : Prop :=
  s.isMarked k = false ∧ s.flipsAt k = 0 ∧ ∀ x ∈ s.mem.wrote, x.key ≠ k

/-- Whether a word is whole is read in the memories. -/
theorem whole_congr {s t : State} (h : t.mem = s.mem) (k : Nat) : t.whole k = s.whole k := by
  simp only [State.whole, State.isMarked, State.flipsAt, h]

/-- A whole word is read without any effect. -/
theorem eccRead_whole {req k : Nat} {s : State} (h : s.whole k) : eccRead req k ⟨0, false, false⟩ s = (true, s) := by
  obtain ⟨hmark, hflips, hwrote⟩ := h
  have hnow : (s.wroteNow (!onPortB req)).find? (fun x => x.key == k) = none := by
    refine List.find?_eq_none.mpr fun x hx => ?_
    unfold State.wroteNow at hx
    split at hx
    · simpa using hwrote x (List.mem_filter.mp hx).1
    · exact nomatch hx
  simp [eccRead, hnow, hmark, hflips]

/-- So is a span of two whole words. -/
theorem eccSpan_two_whole {req k : Nat} {s : State} (h0 : s.whole k) (h1 : s.whole (k + 4)) :
    eccSpan req k 2 s = (true, s) := by
  simp only [eccSpan, List.range_succ, List.range_zero, List.nil_append, List.singleton_append, List.foldl_cons, List.foldl_nil,
    Nat.mul_zero, Nat.add_zero, Nat.mul_one, eccRead_whole h0, eccRead_whole h1, Bool.and_self]

/-! ### The issue of a bundle -/

/-- The core at the bundle it issues, in its place in the tick. -/
def atBundle (c : Fin 5) (s : State) : State :=
  modCpu c (fun y => { y with lastPc := y.pc, lastBranch := y.branch, lastKeeper := y.keeper })
    (coreTime c (s.cpu c).cycle s)

/-- The core's record at the bundle. -/
theorem atBundle_cpu (c : Fin 5) (s : State) : (atBundle c s).cpu c =
    { s.cpu c with lastPc := (s.cpu c).pc, lastBranch := (s.cpu c).branch, lastKeeper := (s.cpu c).keeper } := by
  rw [atBundle, modCpu_cpu_self, cpu_congr ((frame_coreTime c (s.cpu c).cycle s).core rfl) c]

/-- With nothing due and whole words, the bundle runs. -/
theorem issue_runs {c : Fin 5} {form : Nat → Bool} {run : DWord → State → State} {s : State} (hmay : s.mayIssue c = true)
    (hpc : (s.cpu c).pc ≤ 16383) (hdue : ∀ f ∈ (s.cpu c).flight, (s.cpu c).cycle - 1 < f.due)
    (h0 : s.whole (progKey c.val (s.cpu c).pc)) (h1 : s.whole (progKey c.val (s.cpu c).pc + 4))
    (hform : form (formOf (s.fetch c)) = true) : issue c form run s = run (s.fetch c) (atBundle c s) := by
  have htime := frame_coreTime c (s.cpu c).cycle s
  have hcore := htime.core rfl
  have hnone : completeDue c ((s.cpu c).cycle - 1) (coreTime c (s.cpu c).cycle s) =
      (none, coreTime c (s.cpu c).cycle s) := completeDue_none (by rw [cpu_congr hcore]; exact hdue)
  have hstill : (coreTime c (s.cpu c).cycle s).mayIssue c = true := by
    rw [mayIssue_congr hcore (htime.evt rfl) (htime.tick rfl) (htime.cfg rfl) (htime.pwr rfl), hmay]
  have hat : modCpu c (fun y => { y with
      lastPc := (s.cpu c).pc, lastBranch := (s.cpu c).branch, lastKeeper := (s.cpu c).keeper })
      (coreTime c (s.cpu c).cycle s) = atBundle c s := modCpu_congr (by rw [cpu_congr hcore])
  have hmem : (atBundle c s).mem = s.mem := htime.mem rfl
  rw [← whole_congr hmem] at h0 h1
  have hread := eccSpan_two_whole (req := c.val) h0 h1
  simp only [issue, hmay, Bool.not_true, Bool.false_eq_true, false_or, Nat.not_lt.mpr hpc, if_false, hform, hnone, hstill, hat,
    hread, if_true]

/-- The form of a bundle of four bits and nothing else. -/
theorem formOf_of_toNat {w : DWord} {n : Nat} (h : w.toNat = n * 2 ^ 60) : formOf w = n := by
  rw [formOf, h, Nat.mul_div_cancel _ (by decide)]

end Sys2Proof.Machine

/-! ### The statement -/

namespace Sys2Proof.Proofs

open Sys2Proof.Machine

/-- Settles O29: a bundle runs by its form. -/
theorem bundleIssues : Obligations.BundleIssues := by
  intro c s hp hmay hpc hdue hwhole u w
  have h0 : s.whole (progKey c.val (s.cpu c).pc) := hwhole 0 (by decide)
  have h1 : s.whole (progKey c.val (s.cpu c).pc + 4) := hwhole 1 (by decide)
  have hbranch : (u.cpu c).branch = (s.cpu c).branch := by
    have hu : u.cpu c = _ := atBundle_cpu c s
    rw [hu]
  refine ⟨fun hn1 hnE hnF => ?_, fun h1' => ?_, fun hw hb => ?_, fun hw hb hopen => ?_⟩
  · refine (next_whenOn hp).trans (congrArg _ (issue_runs hmay hpc hdue h0 h1 ?_))
    exact Bool.and_eq_true_iff.mpr ⟨Bool.and_eq_true_iff.mpr ⟨bne_iff_ne.mpr hn1, bne_iff_ne.mpr hnE⟩, bne_iff_ne.mpr hnF⟩
  · exact (next_whenOn hp).trans (congrArg _ (issue_runs hmay hpc hdue h0 h1 (beq_iff_eq.mpr h1')))
  · have hform : formOf w = 0xE := formOf_of_toNat hw
    have hgood : badForm w = false := by simp [badForm, hform, hw]
    have hrun (run : DWord → State → State) : issue c (· == 0xE) run s = run w u :=
      issue_runs hmay hpc hdue h0 h1 (beq_iff_eq.mpr hform)
    have hnone : (u.cpu c).branch.isSome = false := by rw [hbranch, hb]; rfl
    refine (next_whenOn hp).trans (congrArg _ ((hrun (runWait c)).trans ?_))
    simp only [runWait, hgood, hnone, Bool.false_eq_true, if_false]
  · have hform : formOf w = 0xF := formOf_of_toNat hw
    have hgood : badForm w = false := by simp [badForm, hform, hw]
    have hrun (run : DWord → State → State) : issue c (· == 0xF) run s = run w u :=
      issue_runs hmay hpc hdue h0 h1 (beq_iff_eq.mpr hform)
    have hnone : (u.cpu c).branch.isSome = false := by rw [hbranch, hb]; rfl
    have hopen' : u.debugOpen = true := by
      have hkey : u.key = s.key := (frame_coreTime c (s.cpu c).cycle s).key rfl
      rw [State.debugOpen, hkey]
      exact hopen
    refine (next_whenOn hp).trans (congrArg _ ((hrun (runBreak c)).trans ?_))
    simp only [runBreak, hgood, hnone, Bool.false_eq_true, if_false, hopen', if_true]

end Sys2Proof.Proofs
end

section
/-! SUPPORT. Exceptions, event entries and what stops a core (R260 to R275), and the statement of 09_processor.md about the
exceptions of a bundle and the event entries. -/

namespace Sys2Proof.Machine

/-! ### A core with nothing in flight -/

/-- With nothing in flight nothing completes. -/
theorem settle_idle {c : Fin 5} {s : State} (h : (s.cpu c).flight = []) :
    settle c s = (none, modCpu c (fun x => { x with flight := [], divAt := none }) s) := by
  have hfold : (List.range 25).foldl (fun (r : Option Nat × State) i =>
      if (r.2.cpu c).flight.any fun f => decide (f.due + 1 ≤ (s.cpu c).cycle + i) then
        let t := completeDue c ((s.cpu c).cycle + i - 1) (coreAt c ((s.cpu c).cycle + i) r.2)
        (r.1 <|> t.1, t.2)
      else r) (none, s) = (none, s) := by
    apply foldl_invariant (P := fun r : Option Nat × State => r = (none, s)) _ rfl
    rintro _ i - rfl
    exact if_neg (by simp only [h, List.any_nil]; exact Bool.false_ne_true)
  simp only [settle, hfold]

/-- The core's record when nothing is in flight any more. -/
def Cpu.settled (x : Cpu) : Cpu := { x with flight := [], divAt := none }

/-- The state of a core with nothing in flight after it has settled. -/
theorem settle_idle_state {c : Fin 5} {s : State} (h : (s.cpu c).flight = []) :
    (settle c s).2 = modCpu c Cpu.settled s := congrArg Prod.snd (settle_idle h)

/-! ### A core stops -/

/-- A tick core that is stopped: its run state, its program's, and its event line. -/
theorem stopTickCore_spec (k : Fin 4) (s : State) :
    (stopTickCore k s).cpu ⟨k.val + 1, by omega⟩ =
        { s.cpu ⟨k.val + 1, by omega⟩ with run := .stopped, flight := [], fresh := true } ∧
      (stopTickCore k s).tick.tc[k] = .stopped ∧ (stopTickCore k s).evt.pend.getLsbD (21 + k.val) = true := by
  let v := modCpu ⟨k.val + 1, by omega⟩ (fun c => { c with run := .stopped, flight := [], fresh := true }) s
  let u := discardFresh (tcSource k) v
  have ht : stopTickCore k s = raiseLine (21 + k.val) (setTc k .stopped u) := rfl
  have hcore : (stopTickCore k s).core = v.core := by
    rw [ht]
    exact ((frame_raiseLine _ _).core rfl).trans (((frame_setTc k _ u).core rfl).trans ((frame_discardFresh _ _).core rfl))
  refine ⟨(cpu_congr hcore _).trans (modCpu_cpu_self _ _ s), ?_, ?_⟩
  · rw [ht, (frame_raiseLine _ _).tick rfl]
    exact set_self u.tick.tc k .stopped
  · rw [ht]
    exact raiseLine_pend _ _ (by omega)

/-- The exception of a tick program with nothing in flight. -/
theorem tickException_spec {k : Fin 4} {c : Fin 5} (hc : c = ⟨k.val + 1, by omega⟩) (cause addr : Nat) {s : State}
    (h : (s.cpu c).flight = []) :
    let t := tickException k cause addr s
    (t.cpu c).run = .stopped ∧ t.tick.tc[k] = .stopped ∧ bit (t.head .tick).irq 1 = true ∧
      t.evt.pend.getLsbD (21 + k.val) = true ∧
      (s.canLog = true → t.hasEntry 0x1002 5 (locTc k.val) (pack64 [(0, k.val), (8, cause), (16, addr)]) = true) ∧
      (t.cpu c).a = (s.cpu c).a ∧ (t.cpu c).set = (s.cpu c).set := by
  subst hc
  intro t
  let u := stopTickCore k (modCpu ⟨k.val + 1, by omega⟩ Cpu.settled s)
  have ht : t = setIrq .tick 1 (logEv 0x1002 5 (locTc k.val) (pack64 [(0, k.val), (8, cause), (16, addr)]) u) := by
    simp only [t, tickException, settle_idle_state h]
    rfl
  obtain ⟨hcpu, htc, hpend⟩ := stopTickCore_spec k (modCpu ⟨k.val + 1, by omega⟩ Cpu.settled s)
  rw [modCpu_cpu_self] at hcpu
  have hutally : u.tally = s.tally := (frame_stopTickCore _ _).tally rfl
  have hcpu' : t.cpu ⟨k.val + 1, by omega⟩ = u.cpu ⟨k.val + 1, by omega⟩ := by
    rw [ht]
    exact cpu_congr (((frame_setIrq _ _ _).core rfl).trans ((frame_logEv _ _ _ _ u).core rfl)) _
  have htick : t.tick = u.tick := by
    rw [ht]
    exact ((frame_setIrq _ _ _).tick rfl).trans ((frame_logEv _ _ _ _ u).tick rfl)
  rw [hcpu', htick, hcpu]
  refine ⟨rfl, htc, ?_, ?_, fun hlog => ?_, rfl, rfl⟩
  · rw [ht]
    exact bit_setIrq _ (by decide)
  · rw [ht]
    exact ((grows_setIrq _ _ _).step (grows_logEv _ _ _ _ u)).pend _ hpend
  · rw [ht, hasEntry_congr ((frame_setIrq _ _ _).tally rfl)]
    exact hasEntry_logEv ((canLog_congr hutally).trans hlog) (by decide) (by decide)

/-- The tick whose commands are taken is read in the tick generator. -/
theorem intakeTick_congr {s t : State} (h : t.tick = s.tick) : t.intakeTick = s.intakeTick := by
  rw [State.intakeTick, State.intakeTick, h]

/-- TB0 is read in the time bases. -/
theorem tb0_congr {s t : State} (h : t.time = s.time) : t.tb0 = s.tb0 := by
  rw [State.tb0, State.tb0, h]

/-- The pair is stopped, and absent. -/
theorem stopShepherd_core (r : Reload) (s : State) : (stopShepherd r s).core =
    { s.core with
      cpu := upd s.core.cpu 0 (fun c => { c with run := .stopped, flight := [] }), shepherdUp := false, reload := r,
      restartAt := some s.tb0, spoiled := false, absentTick := s.intakeTick } := by
  have hframe := frame_discardFresh 1 s
  unfold stopShepherd
  rw [(frame_loseWins _ _ _).core rfl]
  generalize discardFresh 1 s = u at hframe
  rw [← hframe.core rfl, ← intakeTick_congr (hframe.tick rfl), ← tb0_congr (hframe.time rfl)]
  rfl

/-- A restart that begins leaves the pair stopped and absent, also when it is the fifth. -/
theorem beginRestart_stopped (s : State) : (beginRestart s).core.shepherdUp = false ∧
    ((beginRestart s).cpu 0).run = .stopped ∧ ((beginRestart s).cpu 0).flight = [] := by
  have hcpu : (upd s.core.cpu 0 fun c => { c with run := .stopped, flight := [] })[(0 : Fin 5)] = _ := upd_self s.core.cpu 0 _
  have hcore : ∃ restarts restartAt halted, (beginRestart s).core = { (stopShepherd .restart s).core with
      restarts := restarts, restartAt := restartAt, halted := halted } := by
    unfold beginRestart
    generalize stopShepherd .restart s = v
    extract_lets u n
    split
    · exact ⟨_, _, _, (frame_logEv _ _ _ _ _).core rfl⟩
    · exact ⟨_, _, _, rfl⟩
  obtain ⟨restarts, restartAt, halted, hcore⟩ := hcore
  rw [stopShepherd_core] at hcore
  rw [State.cpu, hcore]
  refine ⟨rfl, ?_, ?_⟩ <;> rw [hcpu]

/-- A tick core's number. -/
theorem eq_of_tickOf {c : Fin 5} {k : Fin 4} (h : tickOf c = some k) : c = ⟨k.val + 1, by omega⟩ := by
  unfold tickOf at h
  split at h
  · exact nomatch h
  · cases h
    apply Fin.ext
    simp only
    omega

/-- A bundle that raises an exception has no effect of its own. -/
theorem runBundle_raises {c : Fin 5} {w : DWord} {e : Exc} {s : State}
    (h : bundleExc c w (s.enabled c w) ((s.enabled c w).map fun a => Move.mk a.dst (s.slotVal c w a)) s = some e) :
    runBundle c w s = raise c (s.cpu c).keeper e.cause (s.cpu c).pc e.info (s.cpu c).branch s := by
  simp only [runBundle, h]

/-! ### The line that is taken -/

/-- Line `n` is taken before line `m`: it has the higher priority, or the same and the lower number. -/
def State.before (s : State) (n m : Fin 128) : Prop :=
  (s.evt.prio[m]).toNat < (s.evt.prio[n]).toNat ∨ (s.evt.prio[m] = s.evt.prio[n] ∧ n ≤ m)

/-- The better of a line and the best so far. -/
def State.better (s : State) (b : Option (Fin 128)) (n : Fin 128) : Option (Fin 128) :=
  match b with
  | none => some n
  | some m => if (s.evt.prio[m]).toNat < (s.evt.prio[n]).toNat then some n else some m

/-- A search in ascending order of a line and later ones finds one of them that is taken before all others. -/
theorem foldl_better (s : State) (l : List (Fin 128)) (hl : l.Pairwise (· < ·)) (m : Fin 128) (hm : ∀ j ∈ l, m < j) :
    ∃ n, l.foldl s.better (some m) = some n ∧ (n = m ∨ n ∈ l) ∧ s.before n m ∧ ∀ j ∈ l, s.before n j := by
  induction l generalizing m with
  | nil => exact ⟨m, rfl, .inl rfl, .inr ⟨rfl, Nat.le_refl _⟩, nofun⟩
  | cons a l ih =>
    obtain ⟨ha, hl⟩ := List.pairwise_cons.mp hl
    have hma : m < a := hm a List.mem_cons_self
    rw [List.foldl_cons]
    by_cases hlt : (s.evt.prio[m]).toNat < (s.evt.prio[a]).toNat
    · obtain ⟨n, hn, hmem, hna, hrest⟩ := ih hl a ha
      have hbetter : s.better (some m) a = some a := if_pos hlt
      refine ⟨n, by rw [hbetter, hn], .inr ?_, ?_, fun j hj => ?_⟩
      · rcases hmem with rfl | hmem
        · exact List.mem_cons_self
        · exact List.mem_cons_of_mem a hmem
      · rcases hna with h | ⟨h, -⟩
        · exact .inl (by omega)
        · exact .inl (by rw [← h]; exact hlt)
      · rcases List.mem_cons.mp hj with rfl | hj
        · exact hna
        · exact hrest j hj
    · obtain ⟨n, hn, hmem, hnm, hrest⟩ := ih hl m fun j hj => Nat.lt_trans hma (ha j hj)
      have hbetter : s.better (some m) a = some m := if_neg hlt
      refine ⟨n, by rw [hbetter, hn], ?_, hnm, fun j hj => ?_⟩
      · exact hmem.imp_right (List.mem_cons_of_mem a)
      · rcases List.mem_cons.mp hj with rfl | hj
        · rcases hnm with h | ⟨h, hle⟩
          · exact .inl (by omega)
          · by_cases heq : s.evt.prio[j] = s.evt.prio[m]
            · exact .inr ⟨heq.trans h, Nat.le_of_lt (Nat.lt_of_le_of_lt hle hma)⟩
            · have hne : (s.evt.prio[j]).toNat ≠ (s.evt.prio[m]).toNat := fun e => heq (BitVec.eq_of_toNat_eq e)
              exact .inl (by rw [← h]; omega)
        · exact hrest j hj

/-- A line is pending and enabled. -/
theorem mem_lines {s : State} {n : Fin 128} :
    n ∈ s.lines ↔ s.evt.pend.getLsbD n.val = true ∧ s.evt.en.getLsbD n.val = true := by
  simp only [State.lines, List.mem_filter, List.mem_finRange, true_and, Bool.and_eq_true]

/-- The search runs over the lines in ascending order. -/
theorem lines_ascending (s : State) : s.lines.Pairwise (· < ·) :=
  (List.pairwise_lt_finRange 128).filter _

/-- The line that is taken is pending and enabled, and taken before every other; without one no line is. -/
theorem topLine_spec (s : State) :
    (∀ n, s.topLine = some n → n ∈ s.lines ∧ ∀ m ∈ s.lines, s.before n m) ∧ (s.topLine = none → s.lines = []) := by
  have htop : s.topLine = s.lines.foldl s.better none := rfl
  have hasc := lines_ascending s
  rw [htop]
  cases hl : s.lines with
  | nil => exact ⟨nofun, fun _ => rfl⟩
  | cons a l =>
    rw [hl] at hasc
    obtain ⟨ha, hl'⟩ := List.pairwise_cons.mp hasc
    obtain ⟨n, hn, hmem, hna, hrest⟩ := foldl_better s l hl' a ha
    have hfold : (a :: l).foldl s.better none = some n := hn
    rw [hfold]
    refine ⟨?_, nofun⟩
    rintro n' ⟨⟩
    refine ⟨?_, fun m hm => ?_⟩
    · rcases hmem with rfl | hmem
      · exact List.mem_cons_self
      · exact List.mem_cons_of_mem a hmem
    · rcases List.mem_cons.mp hm with rfl | hm
      · exact hna
      · exact hrest m hm

/-! ### Event entries -/

/-- An event entry with nothing in flight. -/
theorem doEventEntry_idle {n : Fin 128} {s : State} (htop : s.topLine = some n) (htake : s.takesEvent = true)
    (h : (s.cpu 0).flight = []) : doEventEntry s =
      enterKeeper 0 n.val 0 (s.cpu 0).pc none (16 + (s.evt.prio[n]).toNat) (modCpu 0 Cpu.settled s) := by
  have hdue : completeDue 0 ((s.cpu 0).cycle - 1) s = (none, s) := completeDue_none (by rw [h]; exact nofun)
  simp only [doEventEntry, htop, htake, Bool.not_true, Bool.false_eq_true, if_false, hdue, settle_idle h]
  rfl

end Sys2Proof.Machine

/-! ### The statement -/

namespace Sys2Proof.Proofs

open Sys2Proof.Machine

/-- Settles O31: an exception by the core and level it is raised in, an event entry by the level, the line by a search in
ascending order. -/
theorem exceptionsAndEvents : Obligations.ExceptionsAndEvents := by
  refine ⟨fun c w e s => ?exception, fun n s hp htop hidle => ⟨fun htake => ?entry, fun htake hwait => ?_, fun hwait hk => ?_⟩,
    fun s => ⟨fun n hn => ?_, fun hnone m hm => ?_⟩⟩
  case exception =>
    intro sl hexc hidle t
    have ht : t = raise c (s.cpu c).keeper e.cause (s.cpu c).pc e.info (s.cpu c).branch s := runBundle_raises hexc
    clear_value t
    refine ⟨fun k hk => ?_, ?_, ?_⟩
    · rw [ht, raise, hk]
      exact tickException_spec (eq_of_tickOf hk) e.cause _ hidle
    · rintro rfl hk
      have hraise : t = enterKeeper e.cause 0 e.info (s.cpu 0).pc (s.cpu 0).branch e.cause (modCpu 0 Cpu.settled s) := by
        rw [ht, ← settle_idle_state hidle, hk]
        rfl
      have hcpu := congrArg (fun t : State => t.cpu 0) hraise
      simp only [enterKeeper, modCpu_cpu_self] at hcpu
      rw [hcpu]
      exact ⟨rfl, rfl, rfl, rfl, rfl, rfl, rfl, rfl⟩
    · rintro rfl hk
      have hraise : t = keeperFault e.cause (s.cpu 0).pc (modCpu 0 Cpu.settled s) := by
        rw [ht, ← settle_idle_state hidle, hk]
        rfl
      obtain ⟨hup, hrun, -⟩ := beginRestart_stopped
        (logEv 0x0302 5 locShepherd (pack64 [(0, e.cause), (16, (s.cpu 0).pc)]) (modCpu 0 Cpu.settled s))
      rw [hraise]
      exact ⟨hup, hrun⟩
  case entry =>
    have hentry := doEventEntry_idle htop htake hidle
    have hcpu := congrArg (fun t : State => t.cpu 0) hentry
    simp only [enterKeeper, modCpu_cpu_self] at hcpu
    refine ⟨_, (next_whenOn hp), ?_⟩
    rw [hcpu]
    have hframe : Frame 1048576 s (doEventEntry s) := by
      rw [hentry]
      exact (frame_enterKeeper _ _ _ _ _ _ _).step rfl (frame_modCpu _ _ s)
    exact ⟨rfl, rfl, rfl, rfl, rfl, rfl, rfl, rfl, rfl, hframe.evt rfl, hframe.mem rfl⟩
  · refine (next_whenOn hp).trans ((congrArg _ ?_).trans (next_whenOn hp).symm)
    have hk : (s.cpu 0).keeper = false := by
      simp only [State.takesEvent, Bool.and_eq_true, Bool.not_eq_true'] at htake
      exact htake.1.1.1
    simp only [doShepherdWaitResume, hwait, htop, hk, ne_eq, not_true_eq_false, Option.isNone_some, Bool.false_eq_true, or_self,
      if_false]
  · refine (next_whenOn hp).trans (congrArg _ ?_)
    simp only [doShepherdWaitResume, hwait, htop, hk, ne_eq, not_true_eq_false, Option.isNone_some, Bool.false_eq_true, or_self,
      if_false, if_true]
  · obtain ⟨hmem, hbest⟩ := (topLine_spec s).1 n hn
    obtain ⟨hpend, hen⟩ := mem_lines.mp hmem
    exact ⟨hpend, hen, fun m hp he => hbest m (mem_lines.mpr ⟨hp, he⟩)⟩
  · exact nomatch (topLine_spec s).2 hnone ▸ mem_lines.mpr hm

end Sys2Proof.Proofs
end

section
/-! SUPPORT. The refutation of the statement of 09_processor.md about operations that complete and the restarts of the
shepherd pair. A window that loses the shepherd core ends its write burst first (R321), and a word of it that stands behind a
write of its cycle belongs to the next cycle: the restart is then noted one cycle after the mismatch. -/

namespace Sys2Proof.Machine

/-- The pair waits with nothing in flight, and holds window 0 with a write burst of one word to the dual-port bank DP0; the
word has been served in this cycle for a later place of the order than port B's. -/
def burstBehind : State := { State.reset with
  core := { State.reset.core with cpu := upd State.reset.core.cpu 0 fun c => { c with run := .waiting } }
  heads := upd State.reset.heads Block.mem.idx fun h => { h with cyc := { h.cyc with turn := [(0x400000, 2)] } }
  dwin := { State.reset.dwin with w := upd State.reset.dwin.w 0 fun w => { w with
    holder := .shepherd, state := .active, buf := [0], job := some ⟨0x400000, 0, true, 1⟩ } } }

/-- The mismatch is found at 0 ns. -/
theorem burstBehind_before : burstBehind.powered = true ∧ burstBehind.compared = some (0, false) ∧
    (burstBehind.cpu 0).flight = [] ∧ burstBehind.tb0 = 0 ∧ burstBehind.core.restarts = [] := by decide +kernel

/-- The restart is noted at 5 ns. -/
theorem burstBehind_after : (doLockstep burstBehind).core.restarts = [5] := by decide +kernel

end Sys2Proof.Machine

/-! ### The statement -/

namespace Sys2Proof.Proofs

open Sys2Proof.Machine

/-- Refutes O32: at a lockstep mismatch of a pair that holds a window with a write burst in progress the restart is not noted
at the instant of the mismatch, where a word of the burst passes to the next cycle. -/
theorem not_completionsAndRestarts : ¬ Obligations.CompletionsAndRestarts := by
  rintro ⟨-, hlock, -⟩
  obtain ⟨hpowered, hcompared, hidle, htb0, hnone⟩ := burstBehind_before
  obtain ⟨-, -, -, -, hmismatch⟩ := hlock burstBehind hpowered
  obtain ⟨t, ht, -, -, -, hrest⟩ := hmismatch _ hcompared
  obtain ⟨-, hnoted, -⟩ := hrest hidle
  have hstate : doLockstep burstBehind = t := Host.Outcome.next.inj ((next_whenOn hpowered).symm.trans ht)
  rw [← hstate, burstBehind_after, htb0, hnone] at hnoted
  exact absurd hnoted (by decide)

end Sys2Proof.Proofs
end

section
/-! SUPPORT. The refutation of the statement of 11_memory.md about bank owners and the keep bank. A handover stands behind the
words that the window bursts and the MRAM write engine have moved by its instant (R302, R316): they act in its step. -/

namespace Sys2Proof.Machine

/-- The MRAM write engine is busy with a job of two words; the time of the first, 200 ns, has passed. -/
def writeUnderWay : State := { State.reset with
  mem := { State.reset.mem with mw := .busy, mwJob := (0x10000000, 0x800000, 2), mwSince := 0 }
  time := { State.reset.time with tb := upd State.reset.time.tb 0 fun b => { b with value := 300 <<< 32 } } }

/-- No word is written before the step; a write of the owner register of a dual-port bank is a step in which one is. -/
theorem writeUnderWay_words : writeUnderWay.powered = true ∧ writeUnderWay.mem.mwWords = 0 ∧
    (bankOwnerWrite .keeper 16 0 writeUnderWay).mem.mwWords = 1 := by decide +kernel

end Sys2Proof.Machine

/-! ### The statement -/

namespace Sys2Proof.Proofs

open Sys2Proof.Machine

/-- Refutes O33: the reserved write of a dual-port bank's owner register is not all that its step does while the write engine
is busy. -/
theorem not_banksAndKeepBank : ¬ Obligations.BanksAndKeepBank := by
  rintro ⟨howner, -⟩
  obtain ⟨hpowered, hbefore, hafter⟩ := writeUnderWay_words
  have hnext := (howner .keeper 16 0 writeUnderWay hpowered).1 (by decide)
  have hstate : bankOwnerWrite .keeper 16 0 writeUnderWay =
      reservedWrite .keeper (bankAddr (16 : Fin 18).val 0) writeUnderWay :=
    Host.Outcome.next.inj ((next_whenOn hpowered).symm.trans hnext)
  rw [hstate, (frame_reservedWrite _ _ _).mem rfl, hbefore] at hafter
  exact absurd hafter (by decide)

end Sys2Proof.Proofs
end

section
/-! SUPPORT. Runs of bytes, words under ECC and the write engine's copy (R306 to R308, R315, R316), and the statement of
11_memory.md about the MRAM write engine. -/

namespace Sys2Proof.Machine

/-! ### A run of bytes -/

/-- A run of bytes reads as it was put. -/
theorem cellsGet_cellsPut (a : Nat) (bs : List Byte) (l : List Host.Cell) (h : Memory.wf l = true) :
    cellsGet (cellsPut a bs l) a bs.length = bs := by
  induction bs generalizing a l with
  | nil => rfl
  | cons b bs ih =>
    have hwf := Memory.wf_cellWrite a b l h
    have hfirst : cellRead (cellsPut (a + 1) bs (cellWrite a b l)) a = b := by
      rw [cellRead_cellsPut_other _ _ _ _ (.inl (Nat.lt_succ_self a))]
      exact cellRead_cellWrite_same a b l 0 h
    have hrest := ih (a + 1) (cellWrite a b l) hwf
    rw [cellsGet] at hrest ⊢
    rw [List.length_cons, List.range_succ_eq_map, List.map_cons, List.map_map, cellsPut]
    simp only [Nat.add_zero, hfirst]
    refine congrArg (b :: ·) (Eq.trans ?_ hrest)
    refine List.map_congr_left fun i _ => ?_
    rw [Function.comp_apply, Nat.succ_eq_add_one, Nat.add_right_comm, Nat.add_assoc a i 1, ← Nat.add_assoc]

/-- So does each of its bytes. -/
theorem cellRead_cellsPut_at {a j : Nat} {bs : List Byte} {l : List Host.Cell} (h : Memory.wf l = true)
    (hj : j < bs.length) : cellRead (cellsPut a bs l) (a + j) = bs.getD j 0 := by
  have hget := congrArg (fun l => l.getD j 0) (cellsGet_cellsPut a bs l h)
  simpa [cellsGet, hj] using hget

/-! ### What a read under ECC notes -/

/-- Nothing of the memories but check bits, marks and error counts. -/
def MemNoted (m n : MemBlk) : Prop :=
  ∃ flips marked ce ue bank,
    n = { m with flips := flips, marked := marked, cecount := ce, uecount := ue, bank := bank }

/-- Nothing happens. -/
theorem MemNoted.refl (m : MemBlk) : MemNoted m m := ⟨_, _, _, _, _, rfl⟩

/-- One after another. -/
theorem MemNoted.trans {m n o : MemBlk} (h : MemNoted m n) (k : MemNoted n o) : MemNoted m o := by
  obtain ⟨_, _, _, _, _, rfl⟩ := h
  obtain ⟨_, _, _, _, _, rfl⟩ := k
  exact ⟨_, _, _, _, _, rfl⟩

/-- The write engine stands. -/
theorem MemNoted.mw {m n : MemBlk} (h : MemNoted m n) : n.mw = m.mw := by
  obtain ⟨_, _, _, _, _, rfl⟩ := h
  rfl

/-- An uncorrectable word is counted. -/
theorem logUe_mem (req k : Nat) (s : State) : MemNoted s.mem (logUe req k s).mem := by
  unfold logUe
  extract_lets t u
  have ht : MemNoted s.mem t.mem := ⟨_, _, _, _, _, rfl⟩
  have hu : MemNoted t.mem u.mem := by
    subst u
    split
    · exact ⟨_, _, _, _, _, rfl⟩
    · exact MemNoted.refl _
  clear_value u t
  rw [(frame_setIrq _ _ _).mem rfl, (frame_logEv _ _ _ _ u).mem rfl]
  exact ht.trans hu

/-- A corrected word is counted. -/
theorem logCe_mem (k : Nat) (f : BitVec 39) (stuck : Bool) (s : State) : MemNoted s.mem (logCe k f stuck s).mem := by
  unfold logCe
  extract_lets t u row v
  have ht : MemNoted s.mem t.mem := ⟨_, _, _, _, _, rfl⟩
  have hu : MemNoted t.mem u.mem := by
    subst u
    split
    · exact ⟨_, _, _, _, _, rfl⟩
    · exact MemNoted.refl _
  have hv : MemNoted u.mem v.mem := by
    subst v
    split
    · exact ⟨_, _, _, _, _, rfl⟩
    · exact MemNoted.refl _
  clear_value v u t
  rw [(frame_setIrq _ _ _).mem rfl, (frame_logEv _ _ _ _ v).mem rfl]
  exact ht.trans (hu.trans hv)

/-- A read from before a write of the cycle. -/
theorem oldRead_mem (req : Nat) (x : PortWrite) (u : Upset) (s : State) : MemNoted s.mem (oldRead req x u s).2.mem := by
  unfold oldRead
  extract_lets f
  split
  · exact logUe_mem _ _ s
  · split
    · exact MemNoted.refl _
    · split
      · exact logCe_mem _ _ _ s
      · exact logUe_mem _ _ s

/-- Check bits. -/
theorem setFlips_mem (k : Nat) (f : BitVec 39) (s : State) : MemNoted s.mem (setFlips k f s).mem := ⟨_, _, _, _, _, rfl⟩

/-- A read under ECC. -/
theorem eccRead_mem (req k : Nat) (u : Upset) (s : State) : MemNoted s.mem (eccRead req k u s).2.mem := by
  unfold eccRead
  extract_lets f
  split
  · exact oldRead_mem _ _ _ s
  · split
    · exact logUe_mem _ _ s
    · split
      · exact MemNoted.refl _
      · split
        · exact (setFlips_mem k _ s).trans (logCe_mem _ _ _ _)
        · have hmark (v : State) : MemNoted v.mem (modMem (fun m => { m with marked := k :: m.marked }) v).mem :=
            ⟨_, _, _, _, _, rfl⟩
          exact ((setFlips_mem k _ s).trans (hmark _)).trans (logUe_mem _ _ _)

/-- A read of a span under ECC. -/
theorem eccSpan_mem (req k words : Nat) (s : State) : MemNoted s.mem (eccSpan req k words s).2.mem := by
  unfold eccSpan
  apply foldl_invariant (P := fun r : Bool × State => MemNoted s.mem r.2.mem)
  · exact fun r i _ h => h.trans (eccRead_mem _ _ _ r.2)
  · exact MemNoted.refl _

/-- No error is noted for any word. -/
def MemBlk.clean (m : MemBlk) : Prop := m.flips = [] ∧ m.marked = [] ∧ m.wrote = []

/-- A span without a noted error is read and leaves everything. -/
theorem eccSpan_clean {s : State} (h : s.mem.clean) (req k words : Nat) : eccSpan req k words s = (true, s) := by
  obtain ⟨hflips, hmarked, hwrote⟩ := h
  have hread (a : Nat) : eccRead req a ⟨0, false, false⟩ s = (true, s) := by
    have hnow : s.wroteNow (!onPortB req) = [] := by simp [State.wroteNow, hwrote]
    simp [eccRead, hnow, State.flipsAt, hflips, State.isMarked, hmarked]
  unfold eccSpan
  apply foldl_invariant (P := fun r : Bool × State => r = (true, s))
  · rintro r i _ rfl
    simp only [hread, Bool.and_self]
  · rfl

/-! ### The sources that the engine may read -/

/-- A bank's record by its number. -/
theorem bank_fin (s : State) (b : Fin 18) : s.bank b.val = s.mem.bank[b] := getNat_fin s.mem.bank b default

/-- No bank is being handed over. -/
def MemBlk.settled (m : MemBlk) : Prop := ∀ b : Fin 18, (m.bank[b]).handover = none

/-- Then a bank is its owner's for every requester. -/
theorem ownerFor_of_settled {s : State} (h : s.mem.settled) (id b : Nat) : s.ownerFor id b = (s.bank b).owner := by
  have hnone : (s.bank b).handover = none := by
    by_cases hb : b < 18
    · exact (congrArg BankState.handover (bank_fin s ⟨b, hb⟩)).trans (h ⟨b, hb⟩)
    · have hdefault : s.bank b = default := by
        rw [State.bank, getNat, List.getD_eq_default]
        simpa using hb
      rw [hdefault]
      rfl
  simp only [State.ownerFor, hnone]

/-- And the engine may read what it might before. -/
theorem mwKey_congr {s t : State} (h : s.mem.settled) (hbank : t.mem.bank = s.mem.bank) (a : Nat) : t.mwKey a = s.mwKey a := by
  have ht : t.mem.settled := fun b => by rw [hbank]; exact h b
  have howns : t.owns 0 a = s.owns 0 a := by
    rw [State.owns, State.owns, ownerFor_of_settled ht, ownerFor_of_settled h, State.bank, State.bank, hbank]
  rw [State.mwKey, State.mwKey, howns]

/-! ### The copy -/

/-- The key of the source of a word of the job. -/
def State.mwSource (s : State) (i : Nat) : Option Nat := s.mwKey (s.mem.mwJob.2.1 + 8 * i)

/-- The MRAM when the words of the job up to the `n`th are copied. -/
def State.MramCopied (s : State) (n : Nat) (m : List Host.Cell) : Prop :=
  Memory.wf m = true ∧
    (∀ i j k, s.mem.mwWords ≤ i → i < n → j < 8 → s.mwSource i = some k →
      cellRead m (s.mem.mwJob.1 + 8 * i + j) = (ramGet k 8 s).getD j 0) ∧
    ∀ x, (x < s.mem.mwJob.1 + 8 * s.mem.mwWords ∨ s.mem.mwJob.1 + 8 * n ≤ x) → cellRead m x = cellRead s.mem.mram x

/-- The engine runs, and has copied the words up to the `n`th. -/
def State.MwRuns (s : State) (n : Nat) (t : State) : Prop :=
  ∃ m, t.mem = { s.mem with mram := m, mwWords := n } ∧ s.MramCopied n m

/-- The engine has stopped at the `n`th word. -/
def State.MwStopped (s : State) (n : Nat) (t : State) : Prop :=
  (∃ m, t.mem = { s.mem with mram := m, mwWords := n, mw := .failed } ∧ s.MramCopied n m) ∧ bit (t.head .mem).irq 7 = true

/-- One more word is copied. -/
theorem MramCopied_succ {s : State} {n k : Nat} {m : List Host.Cell} (h : s.MramCopied n m) (hn : s.mem.mwWords ≤ n)
    (hk : s.mwSource n = some k) : s.MramCopied (n + 1) (cellsPut (s.mem.mwJob.1 + 8 * n) (ramGet k 8 s) m) := by
  obtain ⟨hwf, hcopy, hother⟩ := h
  have hlen : (ramGet k 8 s).length = 8 := by simp [ramGet, cellsGet]
  refine ⟨Memory.wf_cellsPut _ _ m hwf, fun i j k' h0 hi hj hk' => ?_, fun x hx => ?_⟩
  · by_cases hin : i = n
    · subst hin
      cases hk.symm.trans hk'
      exact cellRead_cellsPut_at hwf (by omega)
    · rw [cellRead_cellsPut_other _ _ _ _ (by omega)]
      exact hcopy i j k' h0 (by omega) hj hk'
  · rw [cellRead_cellsPut_other _ _ _ _ (by omega)]
    exact hother x (by omega)

section
variable {s : State} (hset : s.mem.settled) (hclean : s.mem.clean)
include hset

/-- What the running engine may read. -/
theorem mwSource_of_runs {n : Nat} {t : State} (h : s.MwRuns n t) (i : Nat) :
    t.mwKey (t.mem.mwJob.2.1 + 8 * i) = s.mwSource i := by
  obtain ⟨m, hmem, -⟩ := h
  rw [mwKey_congr hset (by rw [hmem]), hmem]
  rfl

include hclean

/-- A word that the engine may read is copied. -/
theorem mwWord_runs {n k : Nat} {t : State} (h : s.MwRuns n t) (hn : s.mem.mwWords ≤ n) (hk : s.mwSource n = some k) :
    s.MwRuns (n + 1) (mwWord t) := by
  obtain ⟨-, hmarked, -⟩ := id hclean
  have hsrc := (mwSource_of_runs hset h n).trans hk
  obtain ⟨m, hmem, hcopied⟩ := h
  have hwords : t.mem.mwWords = n := by rw [hmem]
  have ht : t.mem.clean := by rw [hmem]; exact hclean
  have hnone : t.mem.marked = [] := by rw [hmem]; exact hmarked
  have hram : ramGet k 8 t = ramGet k 8 s := by rw [ramGet, hmem]; rfl
  refine ⟨_, ?_, MramCopied_succ hcopied hn hk⟩
  simp only [mwWord, hwords, hsrc, eccSpan_clean ht, if_true, modMem, mramPut, hnone, List.filter_nil, hram]
  rw [hmem]
  simp only [hmarked]

end

/-- A word that it may not read stops it. -/
theorem mwWord_stops {s : State} (hset : s.mem.settled) {n : Nat} {t : State} (h : s.MwRuns n t) (hk : s.mwSource n = none) :
    s.MwStopped n (mwWord t) := by
  have hsrc := (mwSource_of_runs hset h n).trans hk
  obtain ⟨m, hmem, hcopied⟩ := h
  have hwords : t.mem.mwWords = n := by rw [hmem]
  unfold mwWord
  simp only [hwords, hsrc]
  refine ⟨⟨m, ?_, hcopied⟩, bit_setIrq _ (by decide)⟩
  rw [(frame_setIrq _ _ _).mem rfl, (frame_logEv _ _ _ _ _).mem rfl]
  simp only [modMem, hmem]

/-! ### What the memories, the engine and the bursts add -/

/-- A write that takes its turn only adds. -/
theorem grows_inTurn (b : Block) (what rank : Nat) (s : State) : Grows s (inTurn b what rank s) := by
  unfold inTurn
  extract_lets t
  exact (grows_modNote b _ t).step (Grows.ite ((frame_runCycles 1 s).grows rfl rfl rfl) (Grows.refl s))

/-- An uncorrectable word only adds. -/
theorem grows_logUe (req k : Nat) (s : State) : Grows s (logUe req k s) := by
  unfold logUe
  extract_lets t u
  have ht : Grows s t := (grows_bump _ _ _ _ _).step (grows_of_same rfl rfl rfl)
  have hu : Grows t u := Grows.ite ((grows_bump _ _ _ _ _).step (grows_of_same rfl rfl rfl)) (Grows.refl t)
  exact (grows_setIrq _ _ _).step ((grows_logEv _ _ _ _ u).step (hu.step ht))

/-- A corrected word only adds. -/
theorem grows_logCe (k : Nat) (f : BitVec 39) (stuck : Bool) (s : State) : Grows s (logCe k f stuck s) := by
  unfold logCe
  extract_lets t u row v
  have ht : Grows s t := (grows_bump _ _ _ _ _).step (grows_of_same rfl rfl rfl)
  have hu : Grows t u := Grows.ite ((grows_bump _ _ _ _ _).step (grows_of_same rfl rfl rfl)) (Grows.refl t)
  have hv : Grows u v := Grows.ite (grows_of_same rfl rfl rfl) (Grows.refl u)
  exact (grows_setIrq _ _ _).step ((grows_logEv _ _ _ _ v).step (hv.step (hu.step ht)))

/-- A read from before a write of the cycle only adds. -/
theorem grows_oldRead (req : Nat) (x : PortWrite) (u : Upset) (s : State) : Grows s (oldRead req x u s).2 := by
  unfold oldRead
  extract_lets f
  split
  · exact grows_logUe _ _ s
  · split
    · exact Grows.refl s
    · split
      · exact grows_logCe _ _ _ s
      · exact grows_logUe _ _ s

/-- A read under ECC only adds. -/
theorem grows_eccRead (req k : Nat) (u : Upset) (s : State) : Grows s (eccRead req k u s).2 := by
  unfold eccRead
  extract_lets f
  split
  · exact grows_oldRead _ _ _ s
  · split
    · exact grows_logUe _ _ s
    · split
      · exact Grows.refl s
      · split
        · exact (grows_logCe _ _ _ _).step (grows_of_same rfl rfl rfl)
        · exact (grows_logUe _ _ _).step (grows_of_same rfl rfl rfl)

/-- A store under ECC only adds. -/
theorem grows_eccStore (req k size : Nat) (bs : List Byte) (u : Upset) (s : State) :
    Grows s (eccStore req k size bs u s) := by
  unfold eccStore
  extract_lets w m t
  have ht : Grows s t := Grows.ite ((grows_logUe _ _ _).step (grows_of_same rfl rfl rfl)) (Grows.refl s)
  have hput (v : State) (ok : Bool) : Grows v (if ok then ramPut k bs v else v) :=
    Grows.ite (grows_of_same rfl rfl rfl) (Grows.refl v)
  have hflips (f : BitVec 39) (v : State) : Grows v (setFlips w f v) := (frame_setFlips w f v).grows rfl rfl rfl
  clear_value t
  refine Grows.ite (ht.of_same rfl rfl rfl) (Grows.ite ?_ ?_)
  · have hread := grows_eccRead req w u s
    generalize eccRead req w u s = r at hread
    exact (hput _ _).step hread
  · have hread := (grows_eccRead req w u _).step (hflips (s.flipsAt w ^^^ m) s)
    generalize eccRead req w u (setFlips w (s.flipsAt w ^^^ m) s) = r at hread
    exact (hflips _ _).step ((hput _ _).step hread)

/-- A read of a span only adds. -/
theorem grows_eccSpan (req k words : Nat) (s : State) : Grows s (eccSpan req k words s).2 := by
  unfold eccSpan
  apply foldl_invariant (P := fun r : Bool × State => Grows s r.2)
  · exact fun r i _ h => (grows_eccRead _ _ _ _).step h
  · exact Grows.refl s

/-- An access of a non-owner only adds. -/
theorem grows_nonOwner (req addr : Nat) (write : Bool) (s : State) : Grows s (nonOwner req addr write s) := by
  unfold nonOwner
  extract_lets b o t u
  have ht : Grows s t := (grows_bump _ _ _ _ _).step (grows_of_same rfl rfl rfl)
  have hu : Grows t u := (grows_setIrq _ _ _).step (grows_setErr _ _ t)
  exact (grows_limited (fun v => grows_logEv _ _ _ _ v) u).step (hu.step ht)

/-- A read of a bank only adds. -/
theorem grows_bankRead (req addr size : Nat) (u : Upset) (s : State) : Grows s (bankRead req addr size u s).2 := by
  unfold bankRead
  split
  · exact grows_eccRead _ _ _ s
  · exact grows_nonOwner _ _ _ s

/-- A write of a bank only adds. -/
theorem grows_bankWrite (req addr size : Nat) (bs : List Byte) (u : Upset) (s : State) :
    Grows s (bankWrite req addr size bs u s) := by
  refine Grows.ite (grows_nonOwner _ _ _ s) (Grows.ite ?_ ?_)
  · exact (grows_setIrq _ _ _).step ((grows_logEv _ _ _ _ _).step ((grows_bump _ _ _ _ _).step (grows_of_same rfl rfl rfl)))
  · refine (grows_eccStore _ _ _ _ _ _).step (Grows.ite ?_ (Grows.refl s))
    exact (grows_inTurn .mem (addr / 4 * 4) _ s).of_same rfl rfl rfl

/-- A word that the write engine copies only adds. -/
theorem grows_mwWord (s : State) : Grows s (mwWord s) := by
  unfold mwWord
  extract_lets i at_
  split
  · exact (grows_setIrq _ _ _).step ((grows_logEv _ _ _ _ _).step (grows_of_same rfl rfl rfl))
  · extract_lets r t
    have hr : Grows s r.2 := grows_eccSpan 0 _ 2 s
    clear_value r
    have ht : Grows s t := Grows.ite (hr.of_same rfl rfl rfl) hr
    clear_value t
    exact ht.of_same rfl rfl rfl

/-- The write engine only adds. -/
theorem grows_mwTo (n : Nat) (s : State) : Grows s (mwTo n s) :=
  Grows.foldl (fun t _ => Grows.ite (grows_mwWord t) (Grows.refl t)) _ s

/-- So do the words that it has written by an instant. -/
theorem grows_mwAt (n : Nat) (s : State) : Grows s (mwAt n s) := Grows.ite (grows_mwTo _ s) (Grows.refl s)

/-- The end of a burst only adds. -/
theorem grows_endBurst (n : Fin 4) (s : State) : Grows s (endBurst n s) := by
  unfold endBurst
  split
  · exact Grows.refl s
  · extract_lets k t u
    have ht : Grows s t := Grows.ite (grows_pertHit _ _ s) (Grows.refl s)
    clear_value t
    exact (grows_setIrq _ _ _).step (ht.of_same rfl rfl rfl)

/-- A word of a read burst only adds. -/
theorem grows_readWord (n : Fin 4) (a : Nat) (s : State) : Grows s (readWord n a s).2 := by
  have hnown : Grows s (winNown n a s) :=
    Grows.ite (Grows.refl s) ((grows_bump _ _ _ _ _).step (grows_of_same rfl rfl rfl))
  unfold readWord
  split
  · exact grows_logUe _ _ s
  · split
    · have hread := (grows_bankRead s.winId a 4 .clean (winNown n a s)).step hnown
      generalize bankRead s.winId a 4 .clean (winNown n a s) = r at hread
      obtain ⟨res, t⟩ := r
      cases res <;> exact hread
    · exact Grows.refl s

/-- A word of a write burst only adds. -/
theorem grows_writeWord (n : Fin 4) (a : Nat) (v : Word) (lost : Bool) (s : State) : Grows s (writeWord n a v lost s) := by
  unfold writeWord
  extract_lets t u
  have ht : Grows s t := Grows.ite (Grows.refl s) ((grows_bump _ _ _ _ _).step (grows_of_same rfl rfl rfl))
  have hlost : Grows t (winLost n a t) := by
    unfold winLost
    extract_lets w x
    have hx : Grows t x := (grows_setIrq _ _ _).step ((grows_bump _ _ _ _ _).step (grows_of_same rfl rfl rfl))
    exact Grows.ite hx ((grows_logEv _ _ _ _ _).step (hx.of_same rfl rfl rfl))
  have hu : Grows t u := Grows.ite hlost (Grows.refl t)
  exact (grows_bankWrite _ _ _ _ _ u).step (hu.step ht)

/-- A word of a burst only adds. -/
theorem grows_burstWord (n : Fin 4) (lost : Bool) (s : State) : Grows s (burstWord n lost s) := by
  unfold burstWord
  extract_lets w t
  have ht : Grows s t := (grows_bump _ _ _ _ _).step (grows_of_same rfl rfl rfl)
  clear_value t
  split
  · exact Grows.refl s
  · extract_lets a r
    refine Grows.ite ?_ (Grows.ite ?_ ?_)
    · exact (grows_endBurst n _).step ((grows_setIrq _ _ _).step ((grows_logEv _ _ _ _ _).step (grows_setErr _ _ s)))
    · exact (grows_writeWord _ _ _ _ _).step (ht.of_same rfl rfl rfl)
    · exact ((grows_readWord n a t).step ht).of_same rfl rfl rfl

/-- A burst that goes on only adds. -/
theorem grows_burstTo (n : Fin 4) (k : Nat) (lost : List Bool) (s : State) : Grows s (burstTo n k lost s) := by
  unfold burstTo
  extract_lets k0
  refine Grows.foldl (fun t i => ?_) _ s
  split
  · exact Grows.refl t
  · exact (grows_burstWord _ _ _).step (grows_mwAt _ t)

/-- A burst that is issued only adds. -/
theorem grows_issueBurst (n : Fin 4) (k : Nat) (s : State) : Grows s (issueBurst n k s) := by
  unfold issueBurst
  extract_lets t w u
  have ht : Grows s t := grows_inTurn _ _ _ s
  clear_value t
  exact Grows.ite (ht.of_same rfl rfl rfl) ((grows_bump _ _ _ _ _).step (ht.of_same rfl rfl rfl))

/-- So is one that starts by itself. -/
theorem grows_autoBurst (n : Fin 4) (s : State) : Grows s (autoBurst n s) :=
  Grows.ite (grows_issueBurst _ _ s) (Grows.refl s)

/-! ### The steps of the engine -/

/-- The words of the job before the `n`th may be read. -/
def State.MwOpen (s : State) (n : Nat) : Prop := ∀ i, s.mem.mwWords ≤ i → i < n → (s.mwSource i).isSome = true

/-- The engine that has stopped does nothing more. -/
theorem mwTo_of_stopped {n : Nat} {s : State} (h : s.mem.mw ≠ .busy) : mwTo n s = s := by
  unfold mwTo
  apply foldl_invariant (P := fun t => t = s)
  · rintro t _ _ rfl
    exact if_neg h
  · rfl

section
variable {s : State} (hset : s.mem.settled) (hclean : s.mem.clean) (hbusy : s.mem.mw = .busy)

/-- What has stopped is not busy. -/
theorem not_busy_of_stopped {n : Nat} {t : State} (h : s.MwStopped n t) : t.mem.mw ≠ .busy := by
  obtain ⟨⟨m, hmem, -⟩, -⟩ := h
  rw [hmem]
  exact nofun

include hset hclean hbusy

/-- The engine that may read the next words copies them. -/
theorem mwSteps_run {i : Nat} {t : State} (h : s.MwRuns i t) (hi : s.mem.mwWords ≤ i) (c : Nat) (hopen : s.MwOpen (i + c)) :
    s.MwRuns (i + c) ((List.range c).foldl (fun t _ => if t.mem.mw = .busy then mwWord t else t) t) := by
  induction c with
  | zero => exact h
  | succ c ih =>
    have hrun := ih fun j h0 hj => hopen j h0 (by omega)
    obtain ⟨k, hk⟩ := Option.isSome_iff_exists.mp (hopen (i + c) (by omega) (by omega))
    rw [List.range_succ, List.foldl_append]
    generalize (List.range c).foldl (fun t _ => if t.mem.mw = .busy then mwWord t else t) t = u at hrun
    have hu : u.mem.mw = .busy := by
      obtain ⟨m, hmem, -⟩ := hrun
      rw [hmem]
      exact hbusy
    simp only [List.foldl_cons, List.foldl_nil, if_pos hu]
    exact mwWord_runs (n := i + c) hset hclean hrun (Nat.le_add_right_of_le hi) hk

/-- The engine that meets a word that it may not read stops there. -/
theorem mwSteps_stop {i m : Nat} {t : State} (h : s.MwRuns i t) (hi : s.mem.mwWords ≤ i) (hm : i ≤ m) (hopen : s.MwOpen m)
    (hnone : s.mwSource m = none) (c : Nat) (hc : m < i + c) :
    s.MwStopped m ((List.range c).foldl (fun t _ => if t.mem.mw = .busy then mwWord t else t) t) := by
  induction c with
  | zero => omega
  | succ c ih =>
    rw [List.range_succ, List.foldl_append]
    by_cases hlt : m < i + c
    · have hstop := ih hlt
      generalize (List.range c).foldl (fun t _ => if t.mem.mw = .busy then mwWord t else t) t = u at hstop
      simp only [List.foldl_cons, List.foldl_nil, if_neg (not_busy_of_stopped hstop)]
      exact hstop
    · obtain rfl : m = i + c := by omega
      have hrun := mwSteps_run hset hclean hbusy h hi c hopen
      generalize (List.range c).foldl (fun t _ => if t.mem.mw = .busy then mwWord t else t) t = u at hrun
      have hu : u.mem.mw = .busy := by
        obtain ⟨m, hmem, -⟩ := hrun
        rw [hmem]
        exact hbusy
      simp only [List.foldl_cons, List.foldl_nil, if_pos hu]
      exact mwWord_stops hset hrun hnone

/-- The job goes on over words that may be read. -/
theorem mwTo_runs {i n : Nat} {t : State} (h : s.MwRuns i t) (hi : s.mem.mwWords ≤ i) (hopen : s.MwOpen (max i n)) :
    s.MwRuns (max i n) (mwTo n t) := by
  have hwords : t.mem.mwWords = i := by
    obtain ⟨m, hmem, -⟩ := h
    rw [hmem]
  have hmax : max i n = i + (n - i) := by omega
  rw [mwTo, hwords, hmax]
  exact mwSteps_run hset hclean hbusy h hi (n - i) (by rw [← hmax]; exact hopen)

/-- The engine is before a word that it may not read, or has stopped at it. -/
theorem mwTo_stops {i m n : Nat} {t : State} (h : s.MwRuns i t) (hi : s.mem.mwWords ≤ i) (hm : i ≤ m) (hopen : s.MwOpen m)
    (hnone : s.mwSource m = none) (hn : m < n) : s.MwStopped m (mwTo n t) := by
  have hwords : t.mem.mwWords = i := by
    obtain ⟨m, hmem, -⟩ := h
    rw [hmem]
  rw [mwTo, hwords]
  exact mwSteps_stop hset hclean hbusy h hi hm hopen hnone (n - i) (by omega)

end

/-! ### Without a burst -/

/-- No window moves words. -/
def State.unbursting (s : State) : Prop := ∀ w : Fin 4, (s.dwin.w[w]).job = none

/-- Then the engines are the write engine alone. -/
theorem enginesNow_of_unbursting {s : State} (h : s.unbursting) : enginesNow s = mwNow s := by
  have hb : burstsNow s = s := by
    unfold burstsNow
    apply foldl_invariant (P := fun t => t = s)
    · rintro t n _ rfl
      unfold burstNow
      simp only [h n]
    · rfl
  rw [enginesNow, hb]

/-- A word of the write engine leaves the bytes of the on-die memories. -/
theorem mwWord_ram (s : State) : (mwWord s).mem.ram = s.mem.ram := by
  unfold mwWord
  extract_lets i at_
  split
  · rw [(frame_setIrq _ _ _).mem rfl, (frame_logEv _ _ _ _ _).mem rfl]
    rfl
  case h_2 k _ =>
    extract_lets r u
    obtain ⟨_, _, _, _, _, hr⟩ : MemNoted s.mem r.2.mem := eccSpan_mem 0 k 2 s
    have hram : r.2.mem.ram = s.mem.ram := by rw [hr]
    clear_value r
    have hu : u.mem.ram = r.2.mem.ram := by
      subst u
      split <;> rfl
    exact hu.trans hram

/-- So do its words. -/
theorem mwTo_ram (n : Nat) (s : State) : (mwTo n s).mem.ram = s.mem.ram := by
  unfold mwTo
  apply foldl_invariant (P := fun t : State => t.mem.ram = s.mem.ram)
  · intro t _ _ h
    split
    · exact (mwWord_ram t).trans h
    · exact h
  · rfl

/-! ### The engine beside the bursts -/

/-- The engine is as it was, or has failed. -/
def MwCarried (s t : State) : Prop :=
  Grows s t ∧ (t.mem.mw = s.mem.mw ∨ (t.mem.mw = .failed ∧ bit (t.head .mem).irq 7 = true))

/-- Nothing happens. -/
theorem MwCarried.refl (s : State) : MwCarried s s := ⟨Grows.refl s, .inl rfl⟩

/-- One after another. -/
theorem MwCarried.step {s t u : State} (h : MwCarried t u) (k : MwCarried s t) : MwCarried s u := by
  obtain ⟨hgrow, hmw⟩ := h
  obtain ⟨kgrow, kmw⟩ := k
  refine ⟨hgrow.step kgrow, ?_⟩
  rcases hmw with hmw | hmw
  · rw [hmw]
    exact kmw.imp id fun hk => ⟨hk.1, hgrow.irq .mem 7 hk.2⟩
  · exact .inr hmw

/-- One of two. -/
theorem MwCarried.ite {c : Prop} [Decidable c] {s a b : State} (ha : MwCarried s a) (hb : MwCarried s b) :
    MwCarried s (if c then a else b) := by
  split
  · exact ha
  · exact hb

/-- A word that the running engine copies or stops at. -/
theorem mwCarried_mwWord (s : State) : MwCarried s (mwWord s) := by
  refine ⟨grows_mwWord s, ?_⟩
  unfold mwWord
  extract_lets i at_
  split
  · refine .inr ⟨?_, bit_setIrq _ (by decide)⟩
    rw [(frame_setIrq _ _ _).mem rfl, (frame_logEv _ _ _ _ _).mem rfl]
    rfl
  case h_2 k _ =>
    extract_lets r u
    have hmw : r.2.mem.mw = s.mem.mw := (eccSpan_mem 0 k 2 s).mw
    clear_value r
    have hu : u.mem.mw = r.2.mem.mw := by
      subst u
      split <;> rfl
    exact .inl (hu.trans hmw)

/-- The engine that goes on. -/
theorem mwCarried_mwTo (n : Nat) (s : State) : MwCarried s (mwTo n s) := by
  unfold mwTo
  apply foldl_invariant (P := MwCarried s)
  · exact fun t _ _ h => (MwCarried.ite (mwCarried_mwWord t) (.refl t)).step h
  · exact .refl s

/-- By an instant. -/
theorem mwCarried_mwAt (n : Nat) (s : State) : MwCarried s (mwAt n s) := MwCarried.ite (mwCarried_mwTo _ s) (.refl s)

/-- A store under ECC leaves the engine. -/
theorem eccStore_mw (req k size : Nat) (bs : List Byte) (u : Upset) (s : State) :
    (eccStore req k size bs u s).mem.mw = s.mem.mw := by
  have hput (ok : Bool) (v : State) : (if ok then ramPut k bs v else v).mem.mw = v.mem.mw := by
    split <;> rfl
  unfold eccStore
  extract_lets w m t
  have ht : t.mem.mw = s.mem.mw := by
    subst t
    split
    · exact (logUe_mem _ _ (unmark w s)).mw
    · rfl
  clear_value t
  split
  · exact ht
  · split
    · have hread := (eccRead_mem req w u s).mw
      generalize eccRead req w u s = r at hread
      exact (hput _ _).trans hread
    · have hread := (eccRead_mem req w u (setFlips w (s.flipsAt w ^^^ m) s)).mw
      generalize eccRead req w u (setFlips w (s.flipsAt w ^^^ m) s) = r at hread
      exact (hput _ _).trans hread

/-- An access of a non-owner leaves it. -/
theorem nonOwner_mw (req addr : Nat) (write : Bool) (s : State) : (nonOwner req addr write s).mem.mw = s.mem.mw := by
  unfold nonOwner
  extract_lets b o t u
  have hu : u.mem.mw = s.mem.mw := by
    change (setIrq _ _ (setErr _ _ t)).mem.mw = _
    rw [(frame_setIrq _ _ _).mem rfl, (frame_setErr _ _ _).mem rfl]
    rfl
  clear_value u
  have hlimited := frame_limited (M := 262420) (0x100000 + req * 32 + b) _ u rfl (Frame.refl _ u) fun x h =>
    (frame_logEv (if write then 0x0406 else 0x0405) 4 (locBank b) (pack64 [(0, addr), (32, req), (36, o)]) x).step rfl h
  exact (congrArg MemBlk.mw (hlimited.mem rfl)).trans hu

/-- A write of a bank leaves it. -/
theorem bankWrite_mw (req addr size : Nat) (bs : List Byte) (u : Upset) (s : State) :
    (bankWrite req addr size bs u s).mem.mw = s.mem.mw := by
  unfold bankWrite
  split
  · exact nonOwner_mw _ _ _ s
  · split
    · unfold dpLost
      extract_lets b t
      rw [(frame_setIrq _ _ _).mem rfl, (frame_logEv _ _ _ _ _).mem rfl]
      rfl
    · rw [eccStore_mw]
      split
      · unfold portTurn
        extract_lets k t
        have ht : t.mem = s.mem := (frame_inTurn .mem k _ s).mem rfl
        change t.mem.mw = s.mem.mw
        rw [ht]
      · rfl

/-- A read of a bank leaves it. -/
theorem bankRead_mw (req addr size : Nat) (u : Upset) (s : State) : (bankRead req addr size u s).2.mem.mw = s.mem.mw := by
  unfold bankRead
  split
  · exact (eccRead_mem req (addr / 4 * 4) u s).mw
  · exact nonOwner_mw _ _ _ s

/-- A word of a burst leaves it. -/
theorem burstWord_mw (n : Fin 4) (lost : Bool) (s : State) : (burstWord n lost s).mem.mw = s.mem.mw := by
  unfold burstWord
  extract_lets w t
  have ht : t.mem = s.mem := (frame_bump _ _ _ _ _).mem rfl
  clear_value t
  split
  · rfl
  · extract_lets a r
    split
    · rw [(frame_endBurst _ _).mem rfl, (frame_winRange _ _ _).mem rfl]
    · split
      · have hwrite (v : State) : (writeWord n a (w.buf.headD 0) lost v).mem.mw = v.mem.mw := by
          unfold writeWord
          extract_lets x y
          have hx : x.mem = v.mem := (frame_winNown _ _ v).mem rfl
          have hy : y.mem = x.mem := by
            subst y
            split
            · exact (frame_winLost _ _ x).mem rfl
            · rfl
          rw [bankWrite_mw, hy, hx]
        rw [hwrite]
        exact congrArg MemBlk.mw ht
      · have hread : r.2.mem.mw = t.mem.mw := by
          subst r
          unfold readWord
          split
          · exact (logUe_mem 7 a t).mw
          · split
            · have hr := (bankRead_mw t.winId a 4 .clean (winNown n a t)).trans
                (congrArg MemBlk.mw ((frame_winNown n a t).mem rfl))
              generalize bankRead t.winId a 4 .clean (winNown n a t) = q at hr
              obtain ⟨res, v⟩ := q
              cases res <;> exact hr
            · rfl
        exact hread.trans (congrArg MemBlk.mw ht)

/-- The bursts that go on carry the engine. -/
theorem mwCarried_enginesNow (s : State) : MwCarried s (enginesNow s) := by
  have hto (n : Fin 4) (k : Nat) (lost : List Bool) (t : State) : MwCarried t (burstTo n k lost t) := by
    unfold burstTo
    extract_lets k0
    apply foldl_invariant (P := MwCarried t)
    · intro u i _ h
      split
      · exact h
      · exact MwCarried.step ⟨grows_burstWord _ _ _, .inl (burstWord_mw _ _ _)⟩ ((mwCarried_mwAt _ u).step h)
    · exact .refl t
  have hbursts : MwCarried s (burstsNow s) := by
    unfold burstsNow
    apply foldl_invariant (P := MwCarried s)
    · refine fun t n _ h => MwCarried.step ?_ h
      unfold burstNow
      extract_lets w
      split
      · exact .refl t
      · split
        · extract_lets u
          have hu : MwCarried t u := hto _ _ _ t
          refine MwCarried.ite hu (MwCarried.step ⟨?_, .inl ?_⟩ hu)
          · exact grows_autoBurst n u
          · exact congrArg MemBlk.mw ((frame_autoBurst n u).mem rfl)
        · exact .refl t
    · exact .refl s
  exact (mwCarried_mwAt _ (burstsNow s)).step hbursts

/-! ### A write in progress -/

/-- The write in progress goes on to its `n`th word. -/
def mwUntil (n : Nat) (s : State) : State :=
  mwTo n (enginesNow (passTo 0 ((s.mem.mwSince + 200 * n) * 2 ^ 32) s))

/-- The end of a write in progress. -/
theorem doMwDone_of_busy {s : State} (h : s.mem.mw = .busy) : doMwDone s =
    if (mwUntil s.mem.mwJob.2.2 s).mem.mw = .busy then
      setIrq .mem 6 (modMem (fun m => { m with mw := .done }) (mwUntil s.mem.mwJob.2.2 s))
    else mwUntil s.mem.mwJob.2.2 s := by
  rw [doMwDone, if_pos h]
  rfl

/-- The end of a write whose read-back differs, or that meets a word which is not owned. -/
def mwEnds (readback : Bool) (s : State) : State :=
  if s.mem.mw ≠ .busy then s
  else if !(s.mwKey (s.mem.mwJob.2.1 + 8 * s.mem.mwWords)).isSome then mwWord s
  else if readback then
    let at_ := s.mem.mwJob.1 + 8 * s.mem.mwWords
    let t := tickFree (mramPut at_ (leBytes 8 s.freeVal.toNat) s)
    setIrq .mem 7 (logEv 0x0409 5 0x61000000 (pack64 [(0, at_), (24, 1)]) (modMem (fun m => { m with mw := .failed }) t))
  else s

/-- The failure of a write in progress. -/
theorem doMwFail_of_busy {words : Nat} {readback : Bool} {s : State} (h : s.mem.mw = .busy) : doMwFail words readback s =
    mwEnds readback (mwUntil (min words (s.mem.mwJob.2.2 - 1)) s) := by
  unfold doMwFail
  rw [if_pos h]
  extract_lets n u own at_ v
  change _ = mwEnds readback u
  clear_value u
  rfl

/-- A write in progress leaves the bytes of the on-die memories. -/
theorem mwUntil_ram (n : Nat) {s : State} (h : s.unbursting) : (mwUntil n s).mem.ram = s.mem.ram := by
  have hpass := frame_passTo 0 ((s.mem.mwSince + 200 * n) * 2 ^ 32) s
  rw [mwUntil, mwTo_ram]
  generalize passTo 0 ((s.mem.mwSince + 200 * n) * 2 ^ 32) s = t at hpass
  have ht : t.unbursting := by
    rw [State.unbursting, hpass.dwin rfl]
    exact h
  rw [enginesNow_of_unbursting ht, mwNow, mwAt, hpass.mem rfl |>.symm]
  split
  · exact mwTo_ram _ t
  · rfl

/-- At first the words before the engine's place are those copied. -/
theorem mwRuns_self {s : State} (hwf : Memory.wf s.mem.mram = true) : s.MwRuns s.mem.mwWords s :=
  ⟨s.mem.mram, rfl, hwf, fun _ _ _ h h' => absurd h' (Nat.not_lt.mpr h), fun _ _ => rfl⟩

/-- The engine stands where the job began, or where the words of its time and its end leave it. -/
theorem mwUntil_eq (n : Nat) {s : State} (hbusy : s.mem.mw = .busy) (hjob : s.unbursting) :
    ∃ (t : State) (q : Nat), t.mem = s.mem ∧ q ≤ s.mem.mwJob.2.2 - 1 ∧ mwUntil n s = mwTo n (mwTo q t) := by
  have hpass := frame_passTo 0 ((s.mem.mwSince + 200 * n) * 2 ^ 32) s
  rw [mwUntil]
  generalize passTo 0 ((s.mem.mwSince + 200 * n) * 2 ^ 32) s = t at hpass
  have ht : t.unbursting := by
    rw [State.unbursting, hpass.dwin rfl]
    exact hjob
  have hmem := hpass.mem rfl
  have hb : t.mem.mw = .busy := by rw [hmem]; exact hbusy
  refine ⟨t, min (t.mem.mwJob.2.2 - 1) ((t.tb0 - t.mem.mwSince) / 200), hmem, ?_, ?_⟩
  · rw [hmem]
    exact Nat.min_le_left _ _
  · rw [enginesNow_of_unbursting ht, mwNow, mwAt, if_pos hb]

/-- At first the words before the engine's place are those copied. -/
theorem mwRuns_first {s t : State} (hwf : Memory.wf s.mem.mram = true) (ht : t.mem = s.mem) : s.MwRuns s.mem.mwWords t :=
  ⟨s.mem.mram, ht, hwf, fun _ _ _ h h' => absurd h' (Nat.not_lt.mpr h), fun _ _ => rfl⟩

section
variable {s : State} (hset : s.mem.settled) (hclean : s.mem.clean) (hbusy : s.mem.mw = .busy) (hjob : s.unbursting)
  (hwf : Memory.wf s.mem.mram = true)
include hset hclean hbusy hjob hwf

/-- A write in progress over words that may be read copies them. -/
theorem mwUntil_runs {n : Nat} (hopen : s.MwOpen s.mem.mwJob.2.2) (hle : s.mem.mwWords ≤ s.mem.mwJob.2.2)
    (hn : n ≤ s.mem.mwJob.2.2) :
    ∃ i, s.mem.mwWords ≤ i ∧ n ≤ i ∧ i ≤ max (max s.mem.mwWords n) (s.mem.mwJob.2.2 - 1) ∧ s.MwRuns i (mwUntil n s) := by
  obtain ⟨t, q, hmem, hq, heq⟩ := mwUntil_eq n hbusy hjob
  have hfirst := mwTo_runs (n := q) hset hclean hbusy (mwRuns_first hwf hmem) (Nat.le_refl _)
    fun i h0 hi => hopen i h0 (by omega)
  have hthen := mwTo_runs (n := n) hset hclean hbusy hfirst (by omega) fun i h0 hi => hopen i h0 (by omega)
  rw [heq]
  exact ⟨_, by omega, by omega, by omega, hthen⟩

/-- A write in progress before a word that it may not read has stopped at it, or comes to it. -/
theorem mwUntil_stops {n m : Nat} (hm : s.mem.mwWords ≤ m) (hopen : s.MwOpen m) (hnone : s.mwSource m = none) (hn : m ≤ n) :
    s.MwStopped m (mwUntil n s) ∨ (n = m ∧ s.MwRuns m (mwUntil n s)) := by
  obtain ⟨t, q, hmem, -, heq⟩ := mwUntil_eq n hbusy hjob
  have hfirst := mwRuns_first hwf hmem
  rw [heq]
  by_cases hq : m < q
  · have hstop := mwTo_stops hset hclean hbusy hfirst (Nat.le_refl _) hm hopen hnone hq
    rw [mwTo_of_stopped (not_busy_of_stopped hstop)]
    exact .inl hstop
  · have hrun := mwTo_runs (n := q) hset hclean hbusy hfirst (Nat.le_refl _) fun i h0 hi => hopen i h0 (by omega)
    by_cases hlt : m < n
    · exact .inl (mwTo_stops hset hclean hbusy hrun (by omega) (by omega) hopen hnone hlt)
    · obtain rfl : n = m := by omega
      have hall := mwTo_runs (n := n) hset hclean hbusy hrun (by omega) fun i h0 hi => hopen i h0 (by omega)
      have hmax : max (max s.mem.mwWords q) n = n := by omega
      rw [hmax] at hall
      exact .inr ⟨rfl, hall⟩

end

end Sys2Proof.Machine

/-! ### The statement -/

namespace Sys2Proof.Proofs

open Sys2Proof.Machine

/-- The engine is started. -/
theorem write_is_started (rq : Requester) (s : State) (hp : s.powered = true)
    (hrq : rq = .keeper ∨ (rq = .service ∧ s.upd.recovery = true)) : exec (.mwGo rq) s = .next (mwStart rq s) := by
  have hno : ¬(rq ≠ .keeper ∧ (!s.upd.recovery) = true) := by
    rcases hrq with rfl | ⟨-, hr⟩
    · exact fun h => h.1 rfl
    · rw [hr]
      exact fun h => nomatch h.2
  have hstd : rq.std = true := by rcases hrq with rfl | ⟨rfl, -⟩ <;> rfl
  have hbit : bit (1 : Word) 0 = true := by decide
  have hrsv : ((1 : Word) &&& 0xFFFFFFFE#32 != 0) = false := by decide
  refine (next_whenOn hp).trans (congrArg _ ?_)
  simp only [doMwGo, mwCtrlWrite, hno, and_false, if_false, wr, wrIf, hrsv, hstd, hbit, Bool.not_true, Bool.false_eq_true,
    if_true]

/-- A permitted start. -/
theorem mwStart_spec (rq : Requester) (s : State) (hrq : rq = .keeper ∨ (rq = .service ∧ s.upd.recovery = true)) :
    mwStart rq s = if s.mem.mw = .busy then setErr .mem 1 s
      else if mwRange s.mem.mwDst s.mem.mwLen = false ∨ s.mwBarred s.mem.mwDst (s.mem.mwDst + 8 * s.mem.mwLen) = true then
        setErr .mem 3 s
      else { s with mem := { s.mem with
        mw := .busy, mwWords := 0, mwJob := (s.mem.mwDst, s.mem.mwSrc, s.mem.mwLen), mwSince := s.tb0 } } := by
  have hok : (rq == .keeper || (s.upd.recovery && rq == .service)) = true := by
    rcases hrq with rfl | ⟨rfl, hr⟩
    · rfl
    · rw [hr]
      rfl
  unfold mwStart
  simp only [hok, Bool.not_true, Bool.false_or, beq_iff_eq, Bool.or_eq_true, Bool.not_eq_true', modMem]

/-- A write that ends beside the bursts in progress. -/
theorem mwUntil_carried (n : Nat) {s : State} : MwCarried s (mwUntil n s) :=
  (mwCarried_mwTo n _).step ((mwCarried_enginesNow _).step
    ⟨(frame_passTo 0 _ s).grows rfl rfl rfl, .inl (congrArg MemBlk.mw ((frame_passTo 0 _ s).mem rfl))⟩)

/-- A write whose read-back differs ends. -/
theorem write_fails_on_readback (words : Nat) (s : State) (hp : s.powered = true) (hbusy : s.mem.mw = .busy) :
    ∃ t, exec (.mwFail words true) s = .next t ∧ t.mem.mw = .failed ∧ bit (t.head .mem).irq 7 = true ∧
      t.hsw = s.hsw ∧ t.sol = s.sol ∧ t.led = s.led ∧ t.cfg = s.cfg ∧
      (s.unbursting → t.mem.ram = s.mem.ram) := by
  have hframe := frame_doMwFail words true s
  obtain ⟨-, hcarried⟩ := mwUntil_carried (min words (s.mem.mwJob.2.2 - 1)) (s := s)
  have hram (h : s.unbursting) := mwUntil_ram (min words (s.mem.mwJob.2.2 - 1)) h
  have hfail : (doMwFail words true s).mem.mw = .failed ∧ bit ((doMwFail words true s).head .mem).irq 7 = true ∧
      (s.unbursting → (doMwFail words true s).mem.ram = s.mem.ram) := by
    rw [doMwFail_of_busy hbusy]
    generalize mwUntil (min words (s.mem.mwJob.2.2 - 1)) s = u at hcarried hram
    unfold mwEnds
    by_cases hu : u.mem.mw = .busy
    · rw [if_neg (not_not_intro hu)]
      cases hkey : u.mwKey (u.mem.mwJob.2.1 + 8 * u.mem.mwWords) with
      | none =>
        rw [if_pos rfl]
        obtain ⟨-, hw⟩ := mwCarried_mwWord u
        have hstop : (mwWord u).mem.mw = .failed := by
          unfold mwWord
          simp only [hkey]
          rw [(frame_setIrq _ _ _).mem rfl, (frame_logEv _ _ _ _ _).mem rfl]
          rfl
        refine ⟨hstop, ?_, fun h => (mwWord_ram u).trans (hram h)⟩
        rcases hw with hw | hw
        · rw [hstop, hu] at hw
          exact nomatch hw
        · exact hw.2
      | some k =>
        rw [if_neg (show ¬(!(some k).isSome) = true from nofun), if_pos rfl]
        extract_lets at_ v
        have hv : v.mem.ram = u.mem.ram := rfl
        clear_value v
        rw [(frame_setIrq _ _ _).mem rfl, (frame_logEv _ _ _ _ _).mem rfl]
        exact ⟨rfl, bit_setIrq _ (by decide), fun h => hv.trans (hram h)⟩
    · rw [if_pos hu]
      rcases hcarried with h | ⟨hmw, hirq⟩
      · exact absurd (h.trans hbusy) hu
      · exact ⟨hmw, hirq, hram⟩
  obtain ⟨hmw, hirq, hkept⟩ := hfail
  exact ⟨_, next_whenOn hp, hmw, hirq, hframe.hsw rfl, hframe.sol rfl, hframe.led rfl, hframe.cfg rfl, hkept⟩

section
variable {s : State} (hp : s.powered = true) (hbusy : s.mem.mw = .busy) (hwf : Memory.wf s.mem.mram = true)
  (hle : s.mem.mwWords ≤ s.mem.mwJob.2.2) (hjob : s.unbursting) (hset : s.mem.settled) (hclean : s.mem.clean)
include hp hbusy hwf hle hjob hset hclean

/-- A write of owned words ends. -/
theorem write_completes (hopen : s.MwOpen s.mem.mwJob.2.2) :
    ∃ t, exec .mwDone s = .next t ∧ t.mem.mw = .done ∧ t.mem.mwWords = s.mem.mwJob.2.2 ∧ t.mem.ram = s.mem.ram ∧
      (∀ i j k, s.mem.mwWords ≤ i → i < s.mem.mwJob.2.2 → j < 8 → s.mwSource i = some k →
        cellRead t.mem.mram (s.mem.mwJob.1 + 8 * i + j) = (ramGet k 8 s).getD j 0) ∧
      (∀ x, (x < s.mem.mwJob.1 + 8 * s.mem.mwWords ∨ s.mem.mwJob.1 + 8 * s.mem.mwJob.2.2 ≤ x) →
        cellRead t.mem.mram x = cellRead s.mem.mram x) ∧
      bit (t.head .mem).irq 6 = true := by
  obtain ⟨i, -, hn, hi, hrun⟩ := mwUntil_runs hset hclean hbusy hjob hwf hopen hle (Nat.le_refl _)
  obtain rfl : i = s.mem.mwJob.2.2 := by omega
  obtain ⟨m, hmem, -, hcopy, hother⟩ := hrun
  have hu : (mwUntil s.mem.mwJob.2.2 s).mem.mw = .busy := by rw [hmem]; exact hbusy
  refine ⟨_, next_whenOn hp, ?_⟩
  rw [doMwDone_of_busy hbusy, if_pos hu]
  generalize mwUntil s.mem.mwJob.2.2 s = u at hmem
  rw [(frame_setIrq _ _ _).mem rfl]
  simp only [modMem, hmem]
  exact ⟨trivial, trivial, trivial, hcopy, hother, bit_setIrq _ (by decide)⟩

/-- A write of owned words whose read-back agrees runs on. -/
theorem write_runs_on (hopen : s.MwOpen s.mem.mwJob.2.2) (words : Nat) (hlt : s.mem.mwWords < s.mem.mwJob.2.2) :
    ∃ t, exec (.mwFail words false) s = .next t ∧ t.mem.mw = .busy ∧ t.mem.ram = s.mem.ram := by
  obtain ⟨i, hfrom, hn, hi, hrun⟩ := mwUntil_runs (n := min words (s.mem.mwJob.2.2 - 1)) hset hclean hbusy hjob hwf hopen hle
    (by omega)
  have hsome := (congrArg Option.isSome (mwSource_of_runs hset hrun i)).trans (hopen i hfrom (by omega))
  obtain ⟨m, hmem, -⟩ := hrun
  refine ⟨_, next_whenOn hp, ?_⟩
  rw [doMwFail_of_busy hbusy]
  generalize mwUntil (min words (s.mem.mwJob.2.2 - 1)) s = u at hsome hmem
  have hu : u.mem.mw = .busy := by rw [hmem]; exact hbusy
  have hwords : u.mem.mwWords = i := by rw [hmem]
  have hram : u.mem.ram = s.mem.ram := by rw [hmem]
  rw [mwEnds, if_neg (not_not_intro hu), hwords, hsome, if_neg (by decide), if_neg (by decide)]
  exact ⟨hu, hram⟩

omit hp hle in
/-- A write that meets a word that is not owned ends at it. -/
theorem write_stops {m : Nat} (hm : s.mem.mwWords ≤ m) (hlt : m < s.mem.mwJob.2.2) (hopen : s.MwOpen m)
    (hnone : s.mwSource m = none) : s.MwStopped m (doMwDone s) ∧
      ∀ words, m ≤ words → s.MwStopped m (doMwFail words false s) := by
  refine ⟨?_, fun words hw => ?_⟩
  · rcases mwUntil_stops hset hclean hbusy hjob hwf hm hopen hnone (Nat.le_of_lt hlt) with hstop | ⟨heq, -⟩
    · rw [doMwDone_of_busy hbusy, if_neg (not_busy_of_stopped hstop)]
      exact hstop
    · omega
  · rw [doMwFail_of_busy hbusy]
    rcases mwUntil_stops (n := min words (s.mem.mwJob.2.2 - 1)) hset hclean hbusy hjob hwf hm hopen hnone (by omega) with
      hstop | ⟨-, hrun⟩
    · rw [mwEnds, if_pos (not_busy_of_stopped hstop)]
      exact hstop
    · have hkey := mwSource_of_runs hset hrun m
      have hstop := mwWord_stops hset hrun hnone
      obtain ⟨c, hmem, -⟩ := hrun
      generalize mwUntil (min words (s.mem.mwJob.2.2 - 1)) s = u at hkey hmem hstop
      have hu : u.mem.mw = .busy := by rw [hmem]; exact hbusy
      have hwords : u.mem.mwWords = m := by rw [hmem]
      rw [mwEnds, if_neg (not_not_intro hu), hwords, hkey, hnone, if_pos (show (!(none : Option Nat).isSome) = true from rfl)]
      exact hstop

end

/-- Settles O34: a start by what the engine and its parameters are; a write in progress by its steps, up to its last word or to
the first that may not be read. -/
theorem writeEngine : Obligations.WriteEngine := by
  intro s hp
  refine ⟨fun rq hrq => ⟨fun hidle hrange hbar => ?_, fun hbusy => ?_, fun hidle hbad => ?_⟩, fun rq hrq hrec => ?_,
    fun words hbusy => write_fails_on_readback words s hp hbusy,
    fun hbusy hwf hle hjob hset hflips hmarked hwrote => ⟨fun hopen => ⟨?_, fun words hlt => ?_⟩, fun m hm hlt hopen hnone => ?_⟩⟩
  · have hgood : ¬(mwRange s.mem.mwDst s.mem.mwLen = false ∨
        s.mwBarred s.mem.mwDst (s.mem.mwDst + 8 * s.mem.mwLen) = true) := by
      rw [hrange, hbar]
      exact fun h => h.elim nofun nofun
    rw [write_is_started rq s hp hrq, mwStart_spec rq s hrq, if_neg hidle, if_neg hgood]
  · rw [write_is_started rq s hp hrq, mwStart_spec rq s hrq, if_pos hbusy]
  · rw [write_is_started rq s hp hrq, mwStart_spec rq s hrq, if_neg hidle, if_pos hbad]
  · have hbit : bit (1 : Word) 0 = true := by decide
    refine (next_whenOn hp).trans (congrArg _ ?_)
    rw [doMwGo, mwCtrlWrite, if_pos ⟨hbit, hrq, by rw [hrec]; rfl⟩]
    rfl
  · exact write_completes hp hbusy hwf hle hjob hset ⟨hflips, hmarked, hwrote⟩ hopen
  · exact write_runs_on hp hbusy hwf hle hjob hset ⟨hflips, hmarked, hwrote⟩ hopen words hlt
  · obtain ⟨⟨⟨c, hmem, -, -, hother⟩, hirq⟩, hfail⟩ :=
      write_stops hbusy hwf hjob hset ⟨hflips, hmarked, hwrote⟩ hm hlt hopen hnone
    refine ⟨⟨_, next_whenOn hp, ?_⟩, fun words hw => ⟨_, next_whenOn hp, ?_⟩⟩
    · rw [hmem]
      exact ⟨rfl, rfl, rfl, hirq, hother⟩
    · obtain ⟨⟨c, hmem, -, -, hother⟩, hirq⟩ := hfail words hw
      rw [hmem]
      exact ⟨rfl, rfl, rfl, hirq, hother⟩

end Sys2Proof.Proofs
end

section
/-! SUPPORT. What a burst does to its window and to the others (R322 to R328), and the statements of 12_dataport_queues.md
about the holders, accesses and transactions of the windows. -/

namespace Sys2Proof.Machine

/-! ### The words of a burst -/

/-- Of the windows only one has changed, and of it only its buffer and its counters. -/
def WinMoved (n : Fin 4) (d e : DwinBlk) : Prop :=
  e = { d with w := e.w } ∧ (∀ m : Fin 4, m ≠ n → e.w[m] = d.w[m]) ∧
    ∃ buf words lost nown moved lostAt, e.w[n] = { d.w[n] with
      buf := buf, words := words, lost := lost, nown := nown, moved := moved, lostAt := lostAt }

/-- Nothing happens. -/
theorem WinMoved.refl (n : Fin 4) (d : DwinBlk) : WinMoved n d d := ⟨rfl, fun _ _ => rfl, _, _, _, _, _, _, rfl⟩

/-- One after another. -/
theorem WinMoved.trans {n : Fin 4} {d e f : DwinBlk} (h : WinMoved n d e) (k : WinMoved n e f) : WinMoved n d f := by
  obtain ⟨hd, hother, _, _, _, _, _, _, hn⟩ := h
  obtain ⟨kd, kother, b, w, l, o, v, a, kn⟩ := k
  refine ⟨?_, fun m hm => (kother m hm).trans (hother m hm), b, w, l, o, v, a, ?_⟩
  · rw [kd, hd]
  · rw [kn, hn]

/-- A change of the window's buffer and counters. -/
theorem winMoved_modW (n : Fin 4) {f : WinState4 → WinState4} (s : State)
    (h : ∀ w, ∃ b x l o v a, f w = { w with buf := b, words := x, lost := l, nown := o, moved := v, lostAt := a }) :
    WinMoved n s.dwin (modW n f s).dwin := by
  obtain ⟨b, x, l, o, v, a, hf⟩ := h s.dwin.w[n]
  refine ⟨rfl, fun m hm => upd_other s.dwin.w f hm, b, x, l, o, v, a, ?_⟩
  exact (upd_self s.dwin.w n f).trans hf

/-- A word that its bank refuses is counted. -/
theorem winNown_dwin (n : Fin 4) (a : Nat) (s : State) : WinMoved n s.dwin (winNown n a s).dwin := by
  unfold winNown
  split
  · exact WinMoved.refl n _
  · rw [(frame_bump _ _ _ _ _).dwin rfl]
    exact winMoved_modW n s fun w => ⟨_, _, _, _, _, _, rfl⟩

/-- A word that is lost is counted. -/
theorem winLost_dwin (n : Fin 4) (a : Nat) (s : State) : WinMoved n s.dwin (winLost n a s).dwin := by
  unfold winLost
  extract_lets w t
  have ht : WinMoved n s.dwin t.dwin := by
    change WinMoved n s.dwin (setIrq _ _ _).dwin
    rw [(frame_setIrq _ _ _).dwin rfl, (frame_bump _ _ _ _ _).dwin rfl]
    exact winMoved_modW n s fun w => ⟨_, _, _, _, _, _, rfl⟩
  clear_value t
  split
  · exact ht
  · rw [(frame_logEv _ _ _ _ _).dwin rfl]
    exact ht.trans (winMoved_modW n t fun w => ⟨_, _, _, _, _, _, rfl⟩)

/-- A word that is read. -/
theorem readWord_dwin (n : Fin 4) (a : Nat) (s : State) : WinMoved n s.dwin (readWord n a s).2.dwin := by
  unfold readWord
  split
  · rw [(frame_logUe 7 a s).dwin rfl]
    exact WinMoved.refl n _
  · split
    · have hread := (frame_bankRead s.winId a 4 .clean (winNown n a s)).dwin rfl
      generalize bankRead s.winId a 4 .clean (winNown n a s) = r at hread
      obtain ⟨res, t⟩ := r
      have ht : WinMoved n s.dwin t.dwin := by
        rw [hread]
        exact winNown_dwin n a s
      cases res <;> exact ht
    · exact WinMoved.refl n _

/-- A word that is written. -/
theorem writeWord_dwin (n : Fin 4) (a : Nat) (v : Word) (lost : Bool) (s : State) :
    WinMoved n s.dwin (writeWord n a v lost s).dwin := by
  unfold writeWord
  extract_lets t u
  have ht : WinMoved n s.dwin t.dwin := winNown_dwin n a s
  have hu : WinMoved n t.dwin u.dwin := by
    subst u
    split
    · exact winLost_dwin n a t
    · exact WinMoved.refl n _
  rw [(frame_bankWrite _ _ _ _ _ u).dwin rfl]
  exact ht.trans hu

/-! ### The end of a burst -/

/-- A burst of a window has ended. -/
structure BurstEnded (n : Fin 4) (j : Burst) (s t : State) : Prop where
  others : ∀ m : Fin 4, m ≠ n → t.dwin.w[m] = s.dwin.w[m]
  state : t.dwin.w[n].state = .idle
  ready : t.dwin.w[n].ready = !j.write
  job : t.dwin.w[n].job = none
  write : t.dwin.w[n].write = s.dwin.w[n].write
  holder : t.dwin.w[n].holder = s.dwin.w[n].holder
  inuse : t.dwin.inuse = s.dwin.inuse - 1
  irq : bit (t.head .dwin).irq 0 = true

/-- A burst ends. -/
theorem endBurst_spec {n : Fin 4} {j : Burst} {s t : State} (hj : s.dwin.w[n].job = some j)
    (h : WinMoved n s.dwin t.dwin) : BurstEnded n j s (endBurst n t) := by
  obtain ⟨hd, hother, _, _, _, _, _, _, hn⟩ := h
  have hjob : t.dwin.w[n].job = some j := by rw [hn]; exact hj
  have hinuse : t.dwin.inuse = s.dwin.inuse := by rw [hd]
  unfold endBurst
  split
  case h_1 hnone => exact nomatch hnone.symm.trans hjob
  case h_2 b hb =>
  obtain rfl : b = j := Option.some.inj (hb.symm.trans hjob)
  extract_lets k u
  have hu : u.dwin = t.dwin := by
    subst u
    split
    · exact (frame_pertHit _ _ t).dwin rfl
    · rfl
  clear_value u
  have hkeep := (frame_setIrq .dwin 0 (txnFree (modW n (fun w => { w with
      state := .idle, job := none, ready := !b.write
      addr := b.addr + BitVec.ofNat 32 k * incBytes b.inc
      buf := if b.write then w.buf.drop (b.n - k) else w.buf }) u))).dwin rfl
  have hself := upd_self u.dwin.w n fun w => { w with
      state := .idle, job := none, ready := !b.write
      addr := b.addr + BitVec.ofNat 32 k * incBytes b.inc
      buf := if b.write then w.buf.drop (b.n - k) else w.buf }
  refine ⟨fun m hm => ?_, ?_, ?_, ?_, ?_, ?_, ?_, bit_setIrq _ (by decide)⟩
  · rw [hkeep]
    refine (upd_other u.dwin.w _ hm).trans ?_
    rw [hu]
    exact hother m hm
  · rw [hkeep]
    exact congrArg WinState4.state hself
  · rw [hkeep]
    exact congrArg WinState4.ready hself
  · rw [hkeep]
    exact congrArg WinState4.job hself
  · rw [hkeep]
    refine (congrArg WinState4.write hself).trans ?_
    rw [hu, hn]
  · rw [hkeep]
    refine (congrArg WinState4.holder hself).trans ?_
    rw [hu, hn]
  · rw [hkeep]
    change u.dwin.inuse - 1 = _
    rw [hu, hinuse]

/-- A burst runs, or has ended. -/
def BurstRuns (n : Fin 4) (j : Burst) (s t : State) : Prop := WinMoved n s.dwin t.dwin ∨ BurstEnded n j s t

/-- A word of a burst is moved, or the burst ends at it. -/
theorem burstWord_runs {n : Fin 4} {j : Burst} {lost : Bool} {s t : State} (hj : s.dwin.w[n].job = some j)
    (h : WinMoved n s.dwin t.dwin) : BurstRuns n j s (burstWord n lost t) := by
  have hjob : t.dwin.w[n].job = some j := by
    obtain ⟨-, -, _, _, _, _, _, _, hn⟩ := h
    rw [hn]
    exact hj
  unfold burstWord
  simp only [hjob]
  generalize (j.addr + BitVec.ofNat 32 t.dwin.w[n].moved * incBytes j.inc).toNat = a
  generalize t.dwin.w[n].buf.headD 0 = v
  split
  · refine .inr (endBurst_spec hj ?_)
    rw [(frame_winRange n a t).dwin rfl]
    exact h
  · refine .inl (h.trans ?_)
    generalize hu : bump .dwin (0x1018 + n.val * 0x40) 0 1
      (modW n (fun w => { w with moved := w.moved + 1, words := satInc w.words }) t) = u
    have hmoved : WinMoved n t.dwin u.dwin := by
      rw [← hu, (frame_bump _ _ _ _ _).dwin rfl]
      exact winMoved_modW n t fun w => ⟨_, _, _, _, _, _, rfl⟩
    refine hmoved.trans ?_
    split
    · exact (winMoved_modW n u fun w => ⟨_, _, _, _, _, _, rfl⟩).trans (writeWord_dwin n a v lost _)
    · exact (readWord_dwin n a u).trans (winMoved_modW n _ fun w => ⟨_, _, _, _, _, _, rfl⟩)

/-- The next words of a burst. -/
theorem burstTo_runs {n : Fin 4} {j : Burst} {s : State} (hj : s.dwin.w[n].job = some j) (k : Nat) (lost : List Bool) :
    BurstRuns n j s (burstTo n k lost s) := by
  unfold burstTo
  extract_lets k0
  apply foldl_invariant (P := BurstRuns n j s)
  · rintro t i _ (h | h)
    · split
      · exact .inl h
      case h_2 b hb =>
        refine burstWord_runs hj ?_
        rw [(frame_mwAt _ t).dwin rfl]
        exact h
    · split
      · exact .inr h
      case h_2 b hb => exact nomatch hb.symm.trans h.job
  · exact .inl (WinMoved.refl n _)

/-- A burst that runs to its end. -/
theorem finishBurst_ends {n : Fin 4} {j : Burst} {s : State} (hj : s.dwin.w[n].job = some j) (lost : List Bool) :
    BurstEnded n j s (finishBurst n lost s) := by
  unfold finishBurst
  simp only [hj]
  have h := burstTo_runs hj j.n lost
  generalize burstTo n j.n lost s = t at h
  rcases h with h | h
  · have hjob : t.dwin.w[n].job.isSome = true := by
      obtain ⟨-, -, _, _, _, _, _, _, hn⟩ := h
      rw [hn]
      exact congrArg Option.isSome hj
    rw [if_pos hjob]
    exact endBurst_spec hj h
  · rw [h.job, if_neg (by decide)]
    exact h

/-- Without a burst in any window none goes on. -/
theorem burstsNow_of_unbursting {s : State} (h : s.unbursting) : burstsNow s = s := by
  unfold burstsNow
  apply foldl_invariant (P := fun t => t = s)
  · rintro t n _ rfl
    unfold burstNow
    simp only [h n]
  · rfl

/-- A read window starts no burst by itself. -/
theorem autoBurst_of_read {n : Fin 4} {s : State} (h : s.dwin.w[n].write = false) : autoBurst n s = s := by
  rw [autoBurst, h]
  exact if_neg fun hw => nomatch hw.1

/-! ### Windows and their holders -/

/-- The shepherd core and the service port may hold a window. -/
theorem holderOf_of_std {rq : Requester} (h : rq.std = true) : ∃ x, holderOf rq 0 = some x ∧ x ≠ .none ∧ rq ≠ .fabric :=
  match rq, h with
  | .keeper, _ => ⟨_, rfl, nofun, nofun⟩
  | .task, _ => ⟨_, rfl, nofun, nofun⟩
  | .service, _ => ⟨_, rfl, nofun, nofun⟩

/-- A tick core may not, nor the fabric without a peer. -/
theorem holderOf_of_not_std {rq : Requester} (h : rq.std = false) : holderOf rq 0 = none :=
  match rq, h with
  | .fabric, _ => rfl
  | .tick _, _ => rfl

/-- A window that its holder gives up. -/
theorem releaseWin_spec (n : Fin 4) (s : State) :
    ((releaseWin n s).dwin.w[n]).holder = .none ∧ ((releaseWin n s).dwin.w[n]).state = .idle ∧
      ((releaseWin n s).dwin.w[n]).buf = [] ∧ ∀ m : Fin 4, m ≠ n → (releaseWin n s).dwin.w[m] = s.dwin.w[m] := by
  unfold releaseWin
  extract_lets t x u
  have ht : ∀ m : Fin 4, m ≠ n → t.dwin.w[m] = s.dwin.w[m] := by
    subst t
    split
    · cases hj : s.dwin.w[n].job with
      | none =>
        intro m _
        unfold finishBurst
        simp only [hj]
      | some j => exact (finishBurst_ends hj []).others
    · exact fun _ _ => rfl
  clear_value t
  have hself := upd_self u.dwin.w n fun w => { w with
    holder := .none, state := .idle, ready := false, buf := [], job := none }
  exact ⟨congrArg WinState4.holder hself, congrArg WinState4.state hself, congrArg WinState4.buf hself,
    fun m hm => (upd_other u.dwin.w _ hm).trans (ht m hm)⟩

/-- A burst that is issued. -/
theorem issueBurst_spec (n : Fin 4) (k : Nat) (s : State) (hidle : s.dwin.w[n].state = .idle) :
    ((issueBurst n k s).dwin.w[n]).job = some ⟨s.dwin.w[n].addr, s.dwin.w[n].inc, s.dwin.w[n].write, k⟩ ∧
      (s.txnFits = true → ((issueBurst n k s).dwin.w[n]).state = .active ∧ (issueBurst n k s).dwin.inuse = s.dwin.inuse + 1) ∧
      (s.txnFits = false → ((issueBurst n k s).dwin.w[n]).state = .waiting ∧ (issueBurst n k s).dwin.inuse = s.dwin.inuse ∧
        (issueBurst n k s).dwin.waiters = s.dwin.waiters ++ [.win n] ∧
        (issueBurst n k s).dwin.waits = satInc s.dwin.waits) ∧
      ∀ m : Fin 4, m ≠ n → (issueBurst n k s).dwin.w[m] = s.dwin.w[m] := by
  have hturn := (frame_txnTurn n.val s).dwin rfl
  unfold issueBurst
  extract_lets t w u
  have ht : t.dwin = s.dwin := hturn
  have hw : w = s.dwin.w[n] := by
    subst w
    rw [ht]
  clear_value t w
  subst hw
  have hn : u.dwin.w[n] = { s.dwin.w[n] with
      job := some ⟨s.dwin.w[n].addr, s.dwin.w[n].inc, s.dwin.w[n].write, k⟩, moved := 0, ready := false } := by
    refine (upd_self t.dwin.w n _).trans ?_
    rw [ht]
  have hother (m : Fin 4) (hm : m ≠ n) : u.dwin.w[m] = s.dwin.w[m] := by
    refine (upd_other t.dwin.w _ hm).trans ?_
    rw [ht]
  have hrest : u.dwin = { s.dwin with w := u.dwin.w } := by
    change { t.dwin with w := u.dwin.w } = _
    rw [ht]
  clear_value u
  have hfits : u.txnFits = s.txnFits := by
    rw [State.txnFits, State.txnFits, hrest]
  rw [hfits]
  cases hs : s.txnFits with
  | true =>
    have hself := upd_self u.dwin.w n fun w => { w with state := .active, since := u.tb0 }
    refine ⟨?_, fun _ => ⟨congrArg WinState4.state hself, ?_⟩, nofun, fun m hm => ?_⟩
    · refine (congrArg WinState4.job hself).trans ?_
      rw [hn]
    · change u.dwin.inuse + 1 = _
      rw [hrest]
    · exact (upd_other u.dwin.w _ hm).trans (hother m hm)
  | false =>
    have hself := upd_self u.dwin.w n fun x => { x with
      state := if s.dwin.w[n].state = .idle then .waiting else x.state }
    refine ⟨?_, nofun, fun _ => ⟨?_, ?_, ?_, ?_⟩, fun m hm => ?_⟩
    · refine (congrArg WinState4.job hself).trans ?_
      rw [hn]
    · refine (congrArg WinState4.state hself).trans ?_
      rw [hidle, if_pos rfl]
    · change u.dwin.inuse = _
      rw [hrest]
    · change u.dwin.waiters ++ _ = _
      rw [hrest]
    · change satInc u.dwin.waits = _
      rw [hrest]
    · exact (upd_other u.dwin.w _ hm).trans (hother m hm)

end Sys2Proof.Machine

/-! ### The statements -/

namespace Sys2Proof.Proofs

open Sys2Proof.Machine

/-- Settles O35: OPEN, CLOSE and the accesses by the window's holder and the requester. -/
theorem windowHolders : Obligations.WindowHolders := by
  refine ⟨?_, ?_⟩
  · intro rq n s hp u
    have hopen : exec (.wOpen rq n) s = .next (winOpen rq 0 n u).2 := next_whenOn hp
    have hclose : exec (.wClose rq n) s = .next (winClose rq 0 n u).2 := next_whenOn hp
    clear_value u
    refine ⟨fun h hfree => ?_, fun h hheld => ?_, fun h => ?_, fun hholds => ?_, fun hholds => ?_⟩
    · obtain ⟨x, hx, hne, hfab⟩ := holderOf_of_std h
      have hact : winOpen rq 0 n u = (true, modW n (fun w => { w with holder := x }) u) := by
        simp only [winOpen, hx, hfree, ne_eq, not_true_eq_false, if_false, hfab, false_and]
      rw [hopen, hact]
      refine ⟨_, rfl, ?_, ?_, fun m hm => upd_other u.dwin.w _ hm, rfl⟩
      · simp only [State.holds, hx, hfree]
        exact beq_eq_false_iff_ne.mpr hne.symm
      · simp only [State.holds, hx]
        exact beq_iff_eq.mpr (congrArg WinState4.holder (upd_self u.dwin.w n _))
    · obtain ⟨x, hx, -, -⟩ := holderOf_of_std h
      rw [hopen, winOpen, hx]
      simp only [ne_eq, hheld, not_false_eq_true, if_true, refuse]
    · rw [hopen, winOpen, holderOf_of_not_std h]
      rfl
    · rw [hclose, winClose, if_pos hholds]
      exact ⟨_, rfl, releaseWin_spec n u⟩
    · rw [hclose, winClose, hholds]
      rfl
  · intro rq n v s hp u hholds
    have hgo : exec (.wGo rq n) s = .next (winGo rq 0 n u).2 := next_whenOn hp
    have hclr : exec (.wClrcnt rq n) s = .next (winClear rq 0 n u).2 := next_whenOn hp
    have hwrite : exec (.wDataWrite rq n v) s = .next (winDataWrite rq 0 n v u).2 := next_whenOn hp
    have hread : exec (.wDataRead rq n) s =
        .next (giveRead rq (winDataRead rq 0 n u).1 (winDataRead rq 0 n u).2.2) := next_whenOn hp
    clear_value u
    refine ⟨hgo.trans ?_, hclr.trans ?_, hwrite.trans ?_, hread.trans ?_⟩
    · simp only [winGo, hholds, Bool.not_false, if_true, refuse]
    · simp only [winClear, hholds, Bool.false_eq_true, if_false, refuse]
    · simp only [winDataWrite, hholds, Bool.not_false, if_true, refuse]
    · simp only [winDataRead, hholds, Bool.not_false, if_true, refuse]

/-- Settles O36: the holder's accesses, the start of a waiting transaction and the end of a read burst. -/
theorem windowTransactions : Obligations.WindowTransactions := by
  refine ⟨?_, ?_⟩
  · intro rq n v s hp u hholds
    have hgo : exec (.wGo rq n) s = .next (winGo rq 0 n u).2 := next_whenOn hp
    have hclr : exec (.wClrcnt rq n) s = .next (winClear rq 0 n u).2 := next_whenOn hp
    have hwrite : exec (.wDataWrite rq n v) s = .next (winDataWrite rq 0 n v u).2 := next_whenOn hp
    have hread : exec (.wDataRead rq n) s =
        .next (giveRead rq (winDataRead rq 0 n u).1 (winDataRead rq 0 n u).2.2) := next_whenOn hp
    clear_value u
    refine ⟨hclr.trans ?_, fun hw hshort hroom => hwrite.trans ?_, fun x l hw hbuf => hread.trans ?_,
      fun hw hidle hbuf => ?_⟩
    · simp only [winClear, hholds, if_true]
    · have hself := upd_self u.dwin.w n fun w => { w with buf := w.buf ++ [v] }
      have hlen : ¬(upd u.dwin.w n fun w => { w with buf := w.buf ++ [v] })[n].burstLen ≤
          (upd u.dwin.w n fun w => { w with buf := w.buf ++ [v] })[n].buf.length := by
        rw [hself, List.length_append]
        exact Nat.not_le.mpr hshort
      have hauto : autoBurst n (modW n (fun w => { w with buf := w.buf ++ [v] }) u) =
          modW n (fun w => { w with buf := w.buf ++ [v] }) u := if_neg fun h => hlen h.2.2.1
      simp only [winDataWrite, hholds, hw, Nat.not_le.mpr hroom, Bool.not_true, Bool.false_eq_true, if_false, hauto]
    · simp only [winDataRead, hholds, hw, hbuf, Bool.not_true, Bool.false_eq_true, if_false]
    · have hact : winGo rq 0 n u = (true, issueBurst n (u.dwin.w[n]).burstLen u) := by
        simp only [winGo, hholds, hw, hidle, hbuf, Bool.not_true, Bool.false_eq_true, if_false, ne_eq, not_true_eq_false]
      rw [hgo, hact]
      have hspec := issueBurst_spec n (u.dwin.w[n]).burstLen u hidle
      rw [hw] at hspec
      exact ⟨_, rfl, hspec⟩
  · intro n l lost s hp
    refine ⟨fun hwait hroom => ?_, fun hfull => (next_whenOn hp).trans (congrArg _ ?_),
        fun j hactive hj hread hjread hothers => ?_⟩
    · have hact : doTxnStart s = startBurst n { s with dwin := { s.dwin with waiters := l } } := by
        simp only [doTxnStart, hwait, Nat.not_le.mpr hroom, if_false]
      have hself := upd_self s.dwin.w n fun w => { w with state := .active, since := s.tb0 }
      have hstate := congrArg WinState4.state hself
      have hjob := congrArg WinState4.job hself
      exact ⟨_, (next_whenOn hp).trans (congrArg _ hact), rfl, rfl, hstate, hjob, rfl⟩
    · unfold doTxnStart
      split
      · rfl
      · exact if_pos hfull
    · have hpass := frame_passTo 0 (s.wordsAt n j j.n * 2 ^ 32) s
      have hact : doBurstDone n lost s =
          autoBurst n (burstsNow (finishBurst n lost (passTo 0 (s.wordsAt n j j.n * 2 ^ 32) s))) := by
        simp only [doBurstDone, hj, hactive, if_true]
      have hend := finishBurst_ends ((congrArg (fun d => d.w[n].job) (hpass.dwin rfl)).trans hj) lost
      refine ⟨_, (next_whenOn hp).trans (congrArg _ hact), ?_⟩
      generalize passTo 0 (s.wordsAt n j j.n * 2 ^ 32) s = p at hend hpass
      generalize finishBurst n lost p = t at hend
      obtain ⟨hother, hstate, hready, hjob, hwrite, hholder, hinuse, hirq⟩ := hend
      rw [hpass.dwin rfl] at hother hwrite hholder hinuse
      have hnone : t.unbursting := fun m => by
        by_cases hm : m = n
        · rw [hm]
          exact hjob
        · rw [hother m hm]
          exact hothers m hm
      rw [burstsNow_of_unbursting hnone, autoBurst_of_read (hwrite.trans hread)]
      rw [hjread] at hready
      exact ⟨hstate, hready, hjob, hinuse, hirq, hholder, hother⟩

end Sys2Proof.Proofs
end

section
/-! SUPPORT. A queue's entry in its ring (R329, R330), and the statement of 12_dataport_queues.md about the queues. -/

namespace Sys2Proof.Machine

/-! ### Words that no error touches -/

/-- No word is to be read with inverted bits, and none is to be stored so. -/
def State.unharmed (s : State) : Prop := s.mem.clean ∧ s.pert.injected = none

/-- Then a store of a word is its bytes alone. -/
theorem eccStore_unharmed {s : State} (h : s.unharmed) (req k : Nat) (bs : List Byte) (u : Upset) :
    eccStore req k 4 bs u s = ramPut k bs s := by
  obtain ⟨⟨hflips, hmarked, -⟩, hinjected⟩ := h
  have hunmarked : s.isMarked (k / 4 * 4) = false := by rw [State.isMarked, hmarked]; rfl
  have hnone : s.injectedNow (k / 4 * 4) = 0 := by rw [State.injectedNow, hinjected]
  have hflip : setFlips (k / 4 * 4) 0 s = s := by
    have hmem : { s.mem with flips := [] } = s.mem := by rw [← hflips]
    simp only [setFlips, modMem, hflips, List.filter_nil, if_true, hmem]
  rw [eccStore]
  simp only [if_true, hunmarked, Bool.false_eq_true, if_false, hnone, hflip]

/-- An entry whose first `n` words are stored. -/
def EntryStored (a : Nat) (data : List Byte) (n : Nat) (s t : State) : Prop :=
  ∃ ram, t = { s with mem := { s.mem with ram := ram } } ∧ Memory.wf ram = true ∧
    ∀ x, x < 4 * n → cellRead ram (a + x) = byteAt data x

/-- The words of an entry are stored. -/
theorem entry_is_stored {s : State} (h : s.unharmed) (hwf : Memory.wf s.mem.ram = true) (id a : Nat) (data : List Byte)
    (n : Nat) : EntryStored a data n s ((List.range n).foldl (fun s i =>
      eccStore id (a + 4 * i) 4 (slice data (4 * i) 4) .clean s) s) := by
  induction n with
  | zero => exact ⟨s.mem.ram, rfl, hwf, fun x hx => absurd hx (by omega)⟩
  | succ n ih =>
    rw [List.range_succ, List.foldl_append]
    obtain ⟨ram, ht, hram, hread⟩ := ih
    generalize (List.range n).foldl (fun s i => eccStore id (a + 4 * i) 4 (slice data (4 * i) 4) .clean s) s = t at ht
    have hlen : (slice data (4 * n) 4).length = 4 := by simp [slice]
    have hharm : t.unharmed := by
      rw [ht]
      exact h
    refine ⟨cellsPut (a + 4 * n) (slice data (4 * n) 4) ram, ?_, Memory.wf_cellsPut _ _ _ hram, fun x hx => ?_⟩
    · rw [List.foldl_cons, List.foldl_nil, eccStore_unharmed hharm, ht]
      rfl
    by_cases hlt : x < 4 * n
    · rw [cellRead_cellsPut_other _ _ _ _ (.inl (by omega))]
      exact hread x hlt
    · obtain ⟨j, rfl⟩ := Nat.exists_eq_add_of_le (Nat.not_lt.mp hlt)
      have hj : j < (slice data (4 * n) 4).length := by omega
      rw [← Nat.add_assoc, cellRead_cellsPut_at hram hj]
      have hj4 : j < 4 := by omega
      simp [slice, hj4]

/-- And read back whole. -/
theorem entry_reads_back {a n : Nat} {data : List Byte} {s t : State} (h : EntryStored a data n s t)
    (hlen : data.length = 4 * n) : ramGet a data.length t = data := by
  obtain ⟨ram, rfl, -, hread⟩ := h
  refine List.ext_getElem (by simp [ramGet, cellsGet]) fun x hx hx' => ?_
  have hbyte := hread x (by omega)
  simp only [ramGet, cellsGet, List.getElem_map, List.getElem_range]
  rw [hbyte, byteAt, List.getD_eq_getElem _ _ hx']

/-! ### The queue of a push -/

/-- A queue's record by its number. -/
theorem que_fin (s : State) (q : Fin 128) : s.q q.val = s.que.q[q] := getNat_fin s.que.q q default

/-- A queue after it is rewritten. -/
theorem modQ_self (q : Fin 128) (f : QueState → QueState) (s : State) : (modQ q.val f s).que.q[q] = f s.que.q[q] :=
  updNat_self s.que.q q f rfl

/-- The other queues. -/
theorem modQ_other {q j : Fin 128} (f : QueState → QueState) (s : State) (h : j ≠ q) :
    (modQ q.val f s).que.q[j] = s.que.q[j] :=
  updNat_other s.que.q j f fun e => h (Fin.ext e.symm)

/-- A push into an empty queue. -/
theorem qPush_spec {q : Fin 128} {c : QueueCfg} {data : List Byte} {s : State} (hbind : s.que.bind[q] = some c)
    (hslots : 0 < c.slots) (hlen : data.length = c.bytes) (hwords : c.bytes % 4 = 0) (hwf : Memory.wf s.mem.ram = true)
    (hclean : s.unharmed) (hpert : s.pertFull q.val = false) (hcount : (s.que.q[q]).count = 0) :
    ∃ t, qPush c.producer q.val data s = (.done, t) ∧
      t.que.q[q] = { s.que.q[q] with
        tail := ((s.que.q[q]).tail + 1) % c.slots, count := 1, hiwat := max (s.que.q[q]).hiwat 1
        pushes := satInc (s.que.q[q]).pushes } ∧
      t.que.bind = s.que.bind ∧ t.mem.clean ∧ ramGet (c.entryAt (s.que.q[q]).tail) c.bytes t = data := by
  have hturn := frame_qTurn q.val c.producer s
  unfold qPush
  extract_lets u x src
  have hframe : Frame _ s u := hturn
  have hx : x = u.q q.val := rfl
  have hsrc : src = s.que.q[q] := rfl
  clear_value u x src
  subst hsrc
  have hque := hframe.que rfl
  have hmem := hframe.mem rfl
  have hpert' := hframe.pert rfl
  have hq : u.q q.val = s.que.q[q] := by rw [que_fin, hque]
  have hbind' : u.qBind q.val = some c := by
    rw [State.qBind, getNat_fin u.que.bind q none, hque]
    exact hbind
  have hfull : u.pertFull q.val = false := by
    rw [State.pertFull, State.pertFullAt, State.pertOn, hq, hpert']
    rw [State.pertFull, State.pertFullAt, State.pertOn, que_fin] at hpert
    exact hpert
  have hclean' : u.unharmed := by
    rw [State.unharmed, hmem, hpert']
    exact hclean
  have hne : ¬(s.que.q[q]).count = c.slots := by omega
  have hstore := entry_is_stored hclean' (by rw [hmem]; exact hwf) c.producer (c.entryAt (s.que.q[q]).tail) data (c.bytes / 4)
  simp only [hbind', hx, hq, ne_eq, not_true_eq_false, hne, hfull, Bool.false_eq_true, if_false]
  generalize c.entryAt (s.que.q[q]).tail = a at hstore ⊢
  generalize (List.range (c.bytes / 4)).foldl (fun s i => eccStore c.producer (a + 4 * i) 4
    (slice data (4 * i) 4) .clean s) u = v at hstore ⊢
  have hread := entry_reads_back hstore (by omega)
  obtain ⟨ram, hv, -, -⟩ := hstore
  have hvq : v.que = s.que := by rw [hv]; exact hque
  have hvclean : v.mem.clean := by rw [hv]; exact hclean'.1
  refine ⟨_, rfl, ?_, ?_, ?_, ?_⟩
  · rw [(frame_bump _ _ _ _ _).que rfl, modQ_self, hvq, hcount]
  · rw [(frame_bump _ _ _ _ _).que rfl]
    have hbound := congrArg QueBlk.bind hvq
    exact hbound
  · rw [(frame_bump _ _ _ _ _).mem rfl]
    exact hvclean
  · rw [ramGet, (frame_bump _ _ _ _ _).mem rfl, ← hlen]
    exact hread

/-- A pop of a queue that holds entries. -/
theorem qPop_spec {q : Fin 128} {c : QueueCfg} {s : State} (hbind : s.que.bind[q] = some c) (hcount : 0 < (s.que.q[q]).count)
    (hclean : s.mem.clean) :
    ∃ t, qPop c.consumer q.val s = (.done, ramGet (c.entryAt (s.que.q[q]).head) c.bytes s, t) ∧
      t.que.q[q] = { s.que.q[q] with
        head := ((s.que.q[q]).head + 1) % c.slots, count := (s.que.q[q]).count - 1 } ∧
      t.que.bind = s.que.bind ∧ t.mem = s.mem ∧ t.mbus = s.mbus := by
  have hturn := frame_qTurn q.val c.consumer s
  unfold qPop
  extract_lets u x src
  have hframe : Frame _ s u := hturn
  have hx : x = u.q q.val := rfl
  have hsrc : src = s.que.q[q] := rfl
  clear_value u x src
  subst hsrc
  have hque := hframe.que rfl
  have hmem := hframe.mem rfl
  have hq : u.q q.val = s.que.q[q] := by rw [que_fin, hque]
  have hbind' : u.qBind q.val = some c := by
    rw [State.qBind, getNat_fin u.que.bind q none, hque]
    exact hbind
  have hclean' : u.mem.clean := by
    rw [hmem]
    exact hclean
  have hget (a n : Nat) : ramGet a n u = ramGet a n s := by rw [ramGet, ramGet, hmem]
  simp only [hbind', hx, hq, Nat.ne_of_gt hcount, ne_eq, not_true_eq_false, if_false, eccSpan_clean hclean', if_true, hget]
  refine ⟨_, rfl, ?_, ?_, hmem, hframe.mbus rfl⟩
  · rw [modQ_self, hque]
  · have hbound := congrArg QueBlk.bind hque
    exact hbound

end Sys2Proof.Machine

/-! ### The statement -/

namespace Sys2Proof.Proofs

open Sys2Proof.Machine

/-- Settles O37: FLUSH and CLRCNT by the requester; a push into an empty queue and the pop of its entry, one after the other. -/
theorem queues : Obligations.Queues := by
  refine ⟨fun rq q s hp => ⟨?_, fun hrq => ?_, fun hstd => ?_, fun hstd => ?_⟩, ?_⟩
  · have hact : doQFlush .keeper q s =
        modQ q.val (fun x => { x with head := x.tail, count := 0 }) (inTurn .que (0x10000 + q.val) 16 s) := rfl
    have hturn := (frame_inTurn .que (0x10000 + q.val) 16 s).que rfl
    refine ⟨_, (next_whenOn hp).trans (congrArg _ hact), ?_⟩
    generalize inTurn .que (0x10000 + q.val) 16 s = t at hturn ⊢
    rw [← hturn]
    exact ⟨modQ_self q _ t, fun j hj => modQ_other _ t hj, rfl⟩
  · refine (next_whenOn hp).trans (congrArg _ ?_)
    match rq, hrq with
    | .task, _ => rfl
    | .service, _ => rfl
    | .fabric, _ => rfl
    | .tick _, _ => rfl
  · have hact : doQClrcnt rq q s = qClear q.val s := by
      match rq, hstd with
      | .keeper, _ => rfl
      | .task, _ => rfl
      | .service, _ => rfl
    exact ⟨_, (next_whenOn hp).trans (congrArg _ hact), modQ_self q _ s, fun j hj => modQ_other _ s hj, rfl⟩
  · refine (next_whenOn hp).trans (congrArg _ ?_)
    match rq, hstd with
    | .fabric, _ => rfl
    | .tick _, _ => rfl
  · intro q c data s hbind hslots hlen hwords hwf hflips hmarked hwrote hinjected hpert hcount hhead r p
    obtain ⟨t, hpush, hq, hb, hclean, hdata⟩ := qPush_spec hbind hslots hlen hwords hwf
      ⟨⟨hflips, hmarked, hwrote⟩, hinjected⟩ hpert hcount
    have hone : (t.que.q[q]).count = 1 := congrArg QueState.count hq
    obtain ⟨u, hpop, hu, -⟩ := qPop_spec (q := q) (c := c) (by rw [hb]; exact hbind) (by omega) hclean
    have hr : r = (.done, t) := hpush
    have hp : p = (.done, ramGet (c.entryAt (t.que.q[q]).head) c.bytes t, u) := by
      rw [← hpop]
      exact congrArg (qPop c.consumer q.val) (congrArg Prod.snd hr)
    clear_value p r
    subst hr hp
    have hfirst : (t.que.q[q]).head = (s.que.q[q]).tail := (congrArg QueState.head hq).trans hhead
    rw [hfirst] at hu ⊢
    rw [hone] at hu
    exact ⟨rfl, hone, rfl, hdata, congrArg QueState.count hu, congrArg QueState.head hu⟩

end Sys2Proof.Proofs
end

section
/-! SUPPORT. Steps and service of a time base (R338 to R346), and the statement of 13_time.md about the time bases. -/

namespace Sys2Proof.Machine

/-! ### The bases beside a write of their block -/

/-- A base beside a write that takes its turn. -/
theorem inTurn_tb (b : Block) (what rank : Nat) (s : State) (m : Fin 4) :
    (inTurn b what rank s).time.tb[m] = if s.behind b what rank then (s.time.tb[m]).run 1 else s.time.tb[m] := by
  cases h : s.behind b what rank with
  | true =>
    rw [inTurn_time_of_behind h]
    exact runCycles_tb 1 s m
  | false =>
    rw [inTurn_time_of_not_behind h]
    rfl

/-- Its service, its rate and its permission stand. -/
theorem inTurn_tb_kept (b : Block) (what rank : Nat) (s : State) (m : Fin 4) :
    ((inTurn b what rank s).time.tb[m]).oos = (s.time.tb[m]).oos ∧
      ((inTurn b what rank s).time.tb[m]).rate = (s.time.tb[m]).rate ∧
      ((inTurn b what rank s).time.tb[m]).stepOk = (s.time.tb[m]).stepOk := by
  rw [inTurn_tb]
  split <;> exact ⟨rfl, rfl, rfl⟩

/-- What a write finds of its cycle. -/
theorem behind_congr {s t : State} (hh : t.heads = s.heads) (hc : t.cycle = s.cycle) (b : Block) (what rank : Nat) :
    t.behind b what rank = s.behind b what rank := by
  rw [State.behind, State.behind, State.cycNote, State.cycNote, State.head, State.head, hh, hc]

/-- Who controls a base. -/
theorem tbWriter_congr {s t : State} (hf : t.fab = s.fab) (hc : t.cfg = s.cfg) (rq : Requester) (n : Fin 4) :
    t.tbWriter rq n = s.tbWriter rq n := by
  have hb : t.bellwether = s.bellwether := by rw [State.bellwether, State.bellwether, hf]
  have hctl : t.tbCtl n = s.tbCtl n := by
    unfold State.tbCtl
    rw [hb, hc]
  rw [State.tbWriter, State.tbWriter, hctl]

/-- Its controller writes a base other than TB0. -/
theorem ne_zero_of_tbWriter {s : State} {rq : Requester} {n : Fin 4} (h : s.tbWriter rq n = true) : n ≠ 0 := by
  rintro rfl
  simp [State.tbWriter, State.tbCtl] at h

/-! ### The service mark -/

/-- Of the bases only one has changed, and of it neither its value nor its rate nor its permission. -/
structure TbServed (n : Fin 4) (s t : State) : Prop where
  others : ∀ m : Fin 4, m ≠ n → t.time.tb[m] = s.time.tb[m]
  value : (t.time.tb[n]).value = (s.time.tb[n]).value
  rate : (t.time.tb[n]).rate = (s.time.tb[n]).rate
  stepOk : (t.time.tb[n]).stepOk = (s.time.tb[n]).stepOk

/-- The service mark of a base is set or cleared. -/
theorem setOos_spec (n : Fin 4) (v : Bool) (cause : Nat) (s : State) :
    TbServed n s (setOos n v cause s) ∧ ((setOos n v cause s).time.tb[n]).oos = v ∧
      ((s.time.tb[n]).oos ≠ v → bit ((setOos n v cause s).head .time).irq 2 = true) ∧ Grows s (setOos n v cause s) := by
  unfold setOos
  split
  case isTrue h => exact ⟨⟨fun _ _ => rfl, rfl, rfl, rfl⟩, h, fun hne => absurd h hne, Grows.refl s⟩
  case isFalse h =>
    extract_lets t fab u mbus v'
    have ht : TbServed n s t ∧ (t.time.tb[n]).oos = v := by
      have hself := upd_self s.time.tb n fun b => { b.keepPast s.time.tb[0].value with oos := v }
      have hvalue := congrArg TimeBase.value hself
      have hrate := congrArg TimeBase.rate hself
      have hstep := congrArg TimeBase.stepOk hself
      have hoos := congrArg TimeBase.oos hself
      exact ⟨⟨fun m hm => upd_other s.time.tb _ hm, hvalue, hrate, hstep⟩, hoos⟩
    have hgt : Grows s t := grows_of_same rfl rfl rfl
    clear_value t
    have hu : u.time = t.time ∧ Grows t u := by
      subst u
      split
      · exact ⟨rfl, grows_of_same rfl rfl rfl⟩
      · exact ⟨rfl, Grows.refl t⟩
    clear_value u
    have hv : v'.time = u.time ∧ Grows u v' := by
      subst v'
      split
      · exact ⟨rfl, grows_of_same rfl rfl rfl⟩
      · exact ⟨rfl, Grows.refl u⟩
    clear_value v'
    have htime : (setIrq .time 2 (logEv 0x7003 3 locTime (pack64 [(0, n.val), (2, b01 v), (4, cause)]) v')).time = t.time := by
      rw [(frame_setIrq _ _ _).time rfl, (frame_logEv _ _ _ _ v').time rfl, hv.1, hu.1]
    obtain ⟨⟨hother, hvalue, hrate, hstep⟩, hoos⟩ := ht
    refine ⟨⟨?_, ?_, ?_, ?_⟩, ?_, fun _ => bit_setIrq _ (by decide), ?_⟩
    · rw [htime]; exact hother
    · rw [htime]; exact hvalue
    · rw [htime]; exact hrate
    · rw [htime]; exact hstep
    · rw [htime]; exact hoos
    · exact (grows_setIrq _ _ _).step ((grows_logEv _ _ _ _ v').step (hv.2.step (hu.2.step hgt)))

/-! ### A step -/

/-- The entry of the time map leaves the bases, and only adds. -/
theorem logTimeMap_spec (s : State) : (logTimeMap s).time = { s.time with mapTicks := 0 } ∧ Grows s (logTimeMap s) := by
  unfold logTimeMap
  generalize mkEntry s s.time.tb[1].ns (entryFlags 1 1 s.time.tb[1].oos false) 0x7005 (locTile 0 9) s.time.tb[0].ns = e
  exact ⟨(frame_tallyWrite e _).time rfl, (grows_tallyWrite e _).step (grows_of_same rfl rfl rfl)⟩

/-- The step of a base that has its permission, at the next cycle of the timer clock. -/
def steppedBase (n : Fin 4) (v : DWord) (fw : Bool) (s : State) : State :=
  let d : Int := (v.toNat : Int) - s.time.tb[n].ns.toNat
  let s := modTb n (fun b => { b.keepPast s.time.tb[0].value with value := v.setWidth 96 <<< 32, stepOk := false }) s
  let s := if n = s.drvIdx then { s with tick := { s.tick with stepped := true, stepSum := s.tick.stepSum + d } } else s
  let s := setIrq .time 0 (logEv 0x7001 3 locTime (stepPayload n fw d) s)
  let s := setOos n false 5 s
  if n = 1 then logTimeMap s else s

/-- The permission is used. -/
theorem stepBase_permitted {n : Fin 4} {v : DWord} {fw : Bool} {s : State} (h : (s.time.tb[n]).stepOk = true) :
    stepBase n v fw s = steppedBase n v fw (runCycles 1 (stepTurn n 2 s)) := by
  obtain ⟨-, -, hok⟩ := inTurn_tb_kept .time (0x20000 + n.val) 2 s n
  unfold stepBase
  generalize ht : stepTurn n 2 s = t
  have hperm : (t.time.tb[n]).stepOk = true := by
    rw [← ht]
    exact hok.trans h
  extract_lets t' ok u
  have hu : u = runCycles 1 t := if_pos hperm
  clear_value u
  subst hu
  exact if_pos hperm

/-- The base has the value, is in service, and has no permission left. -/
theorem steppedBase_spec (n : Fin 4) (v : DWord) (fw : Bool) (s : State) :
    (∀ m : Fin 4, m ≠ n → (steppedBase n v fw s).time.tb[m] = s.time.tb[m]) ∧
      ((steppedBase n v fw s).time.tb[n]).value = v.setWidth 96 <<< 32 ∧
      ((steppedBase n v fw s).time.tb[n]).stepOk = false ∧ ((steppedBase n v fw s).time.tb[n]).oos = false ∧
      ((steppedBase n v fw s).time.tb[n]).rate = (s.time.tb[n]).rate ∧
      bit ((steppedBase n v fw s).head .time).irq 0 = true := by
  unfold steppedBase
  generalize (v.toNat : Int) - s.time.tb[n].ns.toNat = d
  generalize ht : modTb n (fun b => { b.keepPast s.time.tb[0].value with value := v.setWidth 96 <<< 32, stepOk := false }) s = t
  have hself : t.time.tb[n] = { (s.time.tb[n]).keepPast (s.time.tb[0]).value with
      value := v.setWidth 96 <<< 32, stepOk := false } := by
    rw [← ht]
    exact upd_self s.time.tb n _
  have hother (m : Fin 4) (hm : m ≠ n) : t.time.tb[m] = s.time.tb[m] := by
    rw [← ht]
    exact upd_other s.time.tb _ hm
  have hvalue := congrArg TimeBase.value hself
  have hstep := congrArg TimeBase.stepOk hself
  have hrate := congrArg TimeBase.rate hself
  clear ht hself
  extract_lets _ t2 tick t3 t4 t5
  have ht3 : t3.time = t.time := by
    subst t3
    split <;> rfl
  clear_value t3
  have ht4 : t4.time = t.time := by
    change (setIrq _ _ _).time = _
    rw [(frame_setIrq _ _ _).time rfl, (frame_logEv _ _ _ _ t3).time rfl, ht3]
  have hirq4 : bit (t4.head .time).irq 0 = true := bit_setIrq _ (by decide)
  clear_value t4
  obtain ⟨⟨hother5, hvalue5, hrate5, hstep5⟩, hoos5, -, hgrow5⟩ :
      TbServed n t4 t5 ∧ (t5.time.tb[n]).oos = false ∧ _ ∧ Grows t4 t5 :=
    setOos_spec n false 5 t4
  clear_value t5
  rw [ht4] at hother5 hvalue5 hrate5 hstep5
  have hirq5 := hgrow5.irq .time 0 hirq4
  have hlast : (if n = 1 then logTimeMap t5 else t5).time.tb = t5.time.tb ∧ Grows t5 (if n = 1 then logTimeMap t5 else t5) := by
    split
    · obtain ⟨htime, hgrow⟩ := logTimeMap_spec t5
      exact ⟨by rw [htime], hgrow⟩
    · exact ⟨rfl, Grows.refl t5⟩
  generalize (if n = 1 then logTimeMap t5 else t5) = t6 at hlast ⊢
  rw [hlast.1]
  exact ⟨fun m hm => (hother5 m hm).trans (hother m hm), hvalue5.trans hvalue, hstep5.trans hstep, hoos5,
    hrate5.trans hrate, hlast.2.irq .time 0 hirq5⟩

/-- A step of a base that has none is reported. -/
theorem stepBase_refused {n : Fin 4} {v : DWord} {fw : Bool} {s : State} (h : (s.time.tb[n]).stepOk = false) :
    (stepBase n v fw s).time = (stepTurn n 2 s).time ∧ bit ((stepBase n v fw s).head .time).irq 1 = true := by
  obtain ⟨-, -, hok⟩ := inTurn_tb_kept .time (0x20000 + n.val) 2 s n
  unfold stepBase
  generalize ht : stepTurn n 2 s = t
  have hperm : ¬(t.time.tb[n]).stepOk = true := by
    rw [← ht]
    exact fun hc => Bool.false_ne_true ((hok.trans h).symm.trans hc)
  extract_lets t' ok u d
  have hu : u = t := if_neg hperm
  clear_value u
  subst hu
  rw [if_neg hperm, (frame_setIrq _ _ _).time rfl, (frame_logEv _ _ _ _ _).time rfl]
  exact ⟨rfl, bit_setIrq _ (by decide)⟩

end Sys2Proof.Machine

/-! ### The statement -/

namespace Sys2Proof.Proofs

open Sys2Proof.Machine

/-- A step by the base's controller with its low word. -/
theorem base_steps (rq : Requester) (n : Fin 4) (hi lo : Word) (s : State) (hp : s.powered = true)
    (hw : s.tbWriter rq n = true) (hheld : heldWord rq (tbAddr n.val 0x18) s = some lo) :
    let u := inTurn .time (0x20000 + n.val) 2 s
    ∃ t, exec (.tbStep rq n hi) s = .next t ∧ heldWord rq (tbAddr n.val 0x18) t = none ∧
      (∀ m : Fin 4, m ≠ n → t.time.tb[m] =
        if (s.time.tb[n]).stepOk then (u.time.tb[m]).run 1 else u.time.tb[m]) ∧
      ((s.time.tb[n]).stepOk = true →
        (t.time.tb[n]).value = (join64 lo hi).setWidth 96 <<< 32 ∧ (t.time.tb[n]).stepOk = false ∧
        (t.time.tb[n]).oos = false ∧ (t.time.tb[n]).rate = (s.time.tb[n]).rate ∧ bit (t.head .time).irq 0 = true) ∧
      ((s.time.tb[n]).stepOk = false →
        (t.time.tb[n]).value = (u.time.tb[n]).value ∧ (t.time.tb[n]).oos = (s.time.tb[n]).oos ∧
        bit (t.head .time).irq 1 = true) := by
  intro u
  have hn := ne_zero_of_tbWriter hw
  have hact : doTbStep rq n hi s =
      stepBase n (join64 lo hi) true (modTb n (fun b => { b with stepReg := join64 lo hi }) (dropHeld rq s)) := by
    simp only [doTbStep, hw, hheld, Bool.not_true, Bool.false_eq_true, if_false]
  have hself := upd_self s.time.tb n fun b => { b with stepReg := join64 lo hi }
  have hother (m : Fin 4) (hm : m ≠ n) := upd_other s.time.tb (fun b => { b with stepReg := join64 lo hi }) hm
  have hgone := held_dropHeld_self rq s
  refine ⟨_, (next_whenOn hp).trans (congrArg _ hact), ?_⟩
  generalize hr : modTb n (fun b => { b with stepReg := join64 lo hi }) (dropHeld rq s) = r
  have hrn : r.time.tb[n] = { s.time.tb[n] with stepReg := join64 lo hi } := by
    rw [← hr]
    exact hself
  have hrm (m : Fin 4) (hm : m ≠ n) : r.time.tb[m] = s.time.tb[m] := by
    rw [← hr]
    exact hother m hm
  have hbehind : r.behind .time (0x20000 + n.val) 2 = s.behind .time (0x20000 + n.val) 2 := by
    refine behind_congr (by rw [← hr]; rfl) ?_ _ _ _
    have hpwr : r.pwr = s.pwr ∧ r.core = s.core := by rw [← hr]; exact ⟨rfl, rfl⟩
    rw [State.cycle, State.cycle, hpwr.1, hpwr.2]
    exact congrArg (fun b : TimeBase => (b.value.toNat, _, _)) (hrm 0 hn.symm)
  have hheldr : r.held = (dropHeld rq s).held := by rw [← hr]; rfl
  have hstep := frame_stepBase n (join64 lo hi) true r
  have hturn (m : Fin 4) (hm : m ≠ n) : (stepTurn n 2 r).time.tb[m] = u.time.tb[m] := by
    rw [stepTurn, inTurn_tb, inTurn_tb, hbehind, hrm m hm]
  have hok : (r.time.tb[n]).stepOk = (s.time.tb[n]).stepOk := by rw [hrn]
  refine ⟨?_, ?_⟩
  · rw [heldWord, hstep.held rfl, hheldr, hgone]
  · cases hperm : (s.time.tb[n]).stepOk with
    | true =>
      rw [stepBase_permitted (hok.trans hperm)]
      obtain ⟨hothers, hvalue, hstepOk, hoos, hrate, hirq⟩ :=
        steppedBase_spec n (join64 lo hi) true (runCycles 1 (stepTurn n 2 r))
      refine ⟨fun m hm => ?_, fun _ => ⟨hvalue, hstepOk, hoos, hrate.trans ?_, hirq⟩, nofun⟩
      · rw [hothers m hm, runCycles_tb, hturn m hm]
        rfl
      · rw [runCycles_tb]
        refine (inTurn_tb_kept .time (0x20000 + n.val) 2 r n).2.1.trans ?_
        rw [hrn]
    | false =>
      obtain ⟨htime, hirq⟩ := stepBase_refused (v := join64 lo hi) (fw := true) (hok.trans hperm)
      rw [htime]
      refine ⟨fun m hm => ?_, nofun, fun _ => ⟨?_, ?_, hirq⟩⟩
      · rw [hturn m hm]
        rfl
      · rw [stepTurn, inTurn_tb, inTurn_tb, hbehind, hrn]
        split <;> rfl
      · refine (inTurn_tb_kept .time (0x20000 + n.val) 2 r n).1.trans ?_
        rw [hrn]

/-- A write of the service mark of a base, by what it writes and who. -/
theorem service_mark_is_written (rq : Requester) (n : Fin 4) (v : Bool) (s : State) (hp : s.powered = true) (hn : n ≠ 0)
    (hw : (v = true ∧ rq = .keeper) ∨ (v = false ∧ s.tbWriter rq n = true)) :
    let u := inTurn .time (0x20000 + n.val) 0 s
    ∃ t, exec (.tbOos rq n v) s = .next t ∧ (t.time.tb[n]).oos = v ∧ (t.time.tb[n]).value = (u.time.tb[n]).value ∧
      (t.time.tb[n]).rate = (s.time.tb[n]).rate ∧ (t.time.tb[n]).stepOk = (s.time.tb[n]).stepOk ∧
      ((s.time.tb[n]).oos ≠ v → bit (t.head .time).irq 2 = true) ∧
      ∀ m : Fin 4, m ≠ n → t.time.tb[m] = u.time.tb[m] := by
  intro u
  have hframe := frame_inTurn .time (0x20000 + n.val) 0 s
  have hctl : u.tbWriter rq n = s.tbWriter rq n := tbWriter_congr (hframe.fab rfl) (hframe.cfg rfl) rq n
  obtain ⟨hoos, hrate, hstep⟩ : (u.time.tb[n]).oos = _ ∧ (u.time.tb[n]).rate = _ ∧ (u.time.tb[n]).stepOk = _ :=
    inTurn_tb_kept .time (0x20000 + n.val) 0 s n
  have hact : doTbOos rq n v s = setOos n v 2 u := by
    unfold doTbOos
    change (if n = 0 then setErr .time 1 u else if v then (if rq = .keeper then setOos n true 2 u else setErr .time 1 u)
      else if u.tbWriter rq n then setOos n false 2 u else setErr .time 1 u) = _
    rw [if_neg hn]
    rcases hw with ⟨rfl, hk⟩ | ⟨rfl, hk⟩
    · rw [if_pos rfl, if_pos hk]
    · rw [if_neg (by decide), if_pos (hctl.trans hk)]
  obtain ⟨⟨hother, hvalue, hrate', hstep'⟩, hoos', hirq, -⟩ := setOos_spec n v 2 u
  refine ⟨_, (next_whenOn hp).trans (congrArg _ hact), hoos', hvalue, hrate'.trans hrate, hstep'.trans hstep,
    fun hne => hirq fun h => hne (hoos.symm.trans h), hother⟩

/-- The service mark and the permission of a base, by the base, what is written and who. -/
theorem service_of_a_base (rq : Requester) (n : Fin 4) (s : State) (hp : s.powered = true) :
    let u := inTurn .time (0x20000 + n.val) 0 s
    let w := inTurn .time (0x20000 + n.val) 1 s
    (n = 0 → exec (.tbOos rq n true) s = .next (setErr .time 1 u) ∧ exec (.tbOos rq n false) s = .next (setErr .time 1 u) ∧
      exec (.tbArm rq n) s = .next (setErr .time 1 w)) ∧
    (∀ v : Bool, n ≠ 0 → (v = true ∧ rq = .keeper) ∨ (v = false ∧ s.tbWriter rq n = true) →
      ∃ t, exec (.tbOos rq n v) s = .next t ∧ (t.time.tb[n]).oos = v ∧ (t.time.tb[n]).value = (u.time.tb[n]).value ∧
        (t.time.tb[n]).rate = (s.time.tb[n]).rate ∧ (t.time.tb[n]).stepOk = (s.time.tb[n]).stepOk ∧
        ((s.time.tb[n]).oos ≠ v → bit (t.head .time).irq 2 = true) ∧
        ∀ m : Fin 4, m ≠ n → t.time.tb[m] = u.time.tb[m]) ∧
    (∀ v : Bool, n ≠ 0 → (v = true ∧ rq ≠ .keeper) ∨ (v = false ∧ s.tbWriter rq n = false) →
      exec (.tbOos rq n v) s = .next (setErr .time 1 u)) ∧
    (n ≠ 0 → rq ≠ .keeper → exec (.tbArm rq n) s = .next (setErr .time 1 w)) ∧
    (n ≠ 0 → (s.time.tb[n]).oos = true →
      exec (.tbArm .keeper n) s = .next (logEv 0x7004 2 (locTile 0 9) (pack64 [(0, n.val)])
        (modTb n (fun b => { b with stepOk := true }) (inTurn .time (0x20000 + n.val) 1 s)))) ∧
    (n ≠ 0 → (s.time.tb[n]).oos = false →
      exec (.tbArm .keeper n) s = .next (setErr .time 2 (inTurn .time (0x20000 + n.val) 1 s))) := by
  intro u w
  have hframe := frame_inTurn .time (0x20000 + n.val) 0 s
  have hctl : u.tbWriter rq n = s.tbWriter rq n := tbWriter_congr (hframe.fab rfl) (hframe.cfg rfl) rq n
  have hoos (v : Bool) : doTbOos rq n v s = if n = 0 then setErr .time 1 u
      else if v then (if rq = .keeper then setOos n true 2 u else setErr .time 1 u)
      else if u.tbWriter rq n then setOos n false 2 u else setErr .time 1 u := rfl
  have harm (rq : Requester) : doTbArm rq n s = if n = 0 ∨ rq ≠ .keeper then setErr .time 1 w
      else if w.time.tb[n].oos then
        logEv 0x7004 2 locTime (pack64 [(0, n.val)]) (modTb n (fun b => { b with stepOk := true }) w)
      else setErr .time 2 w := rfl
  have hwoos : (w.time.tb[n]).oos = (s.time.tb[n]).oos := (inTurn_tb_kept .time (0x20000 + n.val) 1 s n).1
  refine ⟨fun hn => ⟨(next_whenOn hp).trans (congrArg _ ?_), (next_whenOn hp).trans (congrArg _ ?_),
      (next_whenOn hp).trans (congrArg _ ?_)⟩, fun v hn hw => service_mark_is_written rq n v s hp hn hw, fun v hn hw => ?_,
    fun hn hrq => ?_, fun hn hs => ?_, fun hn hs => ?_⟩
  · exact (hoos true).trans (if_pos hn)
  · exact (hoos false).trans (if_pos hn)
  · exact (harm rq).trans (if_pos (.inl hn))
  · refine (next_whenOn hp).trans (congrArg _ ((hoos v).trans ?_))
    rw [if_neg hn]
    rcases hw with ⟨rfl, hk⟩ | ⟨rfl, hk⟩
    · rw [if_pos rfl, if_neg hk]
    · rw [if_neg (by decide), hctl, hk]
      rfl
  · exact (next_whenOn hp).trans (congrArg _ ((harm rq).trans (if_pos (.inr hrq))))
  · refine (next_whenOn hp).trans (congrArg _ ((harm .keeper).trans ?_))
    rw [if_neg fun h => h.elim hn fun h => h rfl, if_pos (hwoos.trans hs)]
    rfl
  · refine (next_whenOn hp).trans (congrArg _ ((harm .keeper).trans ?_))
    rw [if_neg fun h => h.elim hn fun h => h rfl, hwoos, hs]
    rfl

/-- The entry of the time map. -/
theorem time_map_is_written (s : State) (hp : s.powered = true) (hticks : 65536 ≤ s.time.mapTicks)
    (hserv : (s.time.tb[1]).oos = false) :
    ∃ t, exec .timeMap s = .next t ∧ t.time = { s.time with mapTicks := 0 } ∧
      (s.tally.free = true → s.tally.dropped = 0 → (s.tally.sameN = 0 ∨ s.tally.sameAt ≠ s.cycle) →
        ∃ x, t.tally.at_ (s.tally.seq.toNat % 8192) = some x ∧ x.e.code = 0x7005 ∧
          x.e.time = (s.time.tb[1]).ns ∧ x.e.payload = (s.time.tb[0]).ns) := by
  have hact : doTimeMap s = logTimeMap s := if_pos ⟨hticks, by rw [hserv]; rfl⟩
  refine ⟨_, (next_whenOn hp).trans (congrArg _ hact), (logTimeMap_spec s).1, fun hfree hdrop hfresh => ?_⟩
  generalize he : mkEntry s s.time.tb[1].ns (entryFlags 1 1 s.time.tb[1].oos false) 0x7005 (locTile 0 9) s.time.tb[0].ns = e
  have hentry : e.code = 0x7005 ∧ e.time = (s.time.tb[1]).ns ∧ e.payload = (s.time.tb[0]).ns := by
    rw [← he]
    exact ⟨rfl, rfl, rfl⟩
  have hwrite : logTimeMap s = putOrDrop e { s with time := { s.time with mapTicks := 0 } } := by
    rw [logTimeMap, he]
    exact tallyWrite_of_no_drops hdrop
  have hjournal := (putOrDrop_tally_of_free (e := e) (s := { s with time := { s.time with mapTicks := 0 } }) hfree).1
  refine ⟨⟨{ e with seq := s.tally.seq }, false⟩, ?_, hentry⟩
  rw [hwrite, at_congr hjournal]
  exact at_put_self e hfresh

/-- Settles O38: steps, rates and service marks by base and writer; captures and the time map. -/
theorem timeBases : Obligations.TimeBases := by
  refine ⟨fun rq n hi lo s hp => ⟨fun hw => ?_, fun hw hheld => ?_, base_steps rq n hi lo s hp⟩,
    fun rq n v s hp => ⟨fun hw h1 h2 => ?_, fun hw hbad => ?_, fun hw h1 h2 => ?_, fun hw hbad => ?_, ?_⟩,
    fun rq s hp => ⟨fun hrq => ?_, fun hrq => ?_, time_map_is_written s hp, fun hticks => ?_⟩⟩
  · refine (next_whenOn hp).trans (congrArg _ ?_)
    rw [doTbStep, hw]
    rfl
  · refine (next_whenOn hp).trans (congrArg _ ?_)
    simp only [doTbStep, hw, hheld, Bool.not_true, Bool.false_eq_true, if_false]
  · have hgood : decide (v.toInt < -rateMax ∨ rateMax < v.toInt) = false :=
      decide_eq_false fun h => h.elim (fun h => absurd h (Int.not_lt.mpr h1)) fun h => absurd h (Int.not_lt.mpr h2)
    refine (next_whenOn hp).trans (congrArg _ ?_)
    rw [doTbRateWrite, hw, hgood, wrIf_refused]
    rfl
  · have hbad' : decide (v.toInt < -rateMax ∨ rateMax < v.toInt) = true := decide_eq_true hbad
    refine (next_whenOn hp).trans (congrArg _ ?_)
    rw [doTbRateWrite, hw, hbad', wrIf_refused_reserved]
    rfl
  · have hgood : decide (v.toInt < -rateMax ∨ rateMax < v.toInt) = false :=
      decide_eq_false fun h => h.elim (fun h => absurd h (Int.not_lt.mpr h1)) fun h => absurd h (Int.not_lt.mpr h2)
    refine (next_whenOn hp).trans (congrArg _ ?_)
    rw [doTbRateWrite, hw, hgood, wrIf_ok]
  · have hbad' : decide (v.toInt < -rateMax ∨ rateMax < v.toInt) = true := decide_eq_true hbad
    refine (next_whenOn hp).trans (congrArg _ ?_)
    rw [doTbRateWrite, hw, hbad', wrIf_reserved]
  · exact service_of_a_base rq n s hp
  · refine (next_whenOn hp).trans (congrArg _ ?_)
    rw [doTimeCapture, if_pos hrq]
  · refine (next_whenOn hp).trans (congrArg _ ?_)
    rw [doTimeCapture, hrq]
    rfl
  · exact (next_whenOn hp).trans (congrArg _ (if_neg fun h => Nat.not_le.mpr hticks h.1))

end Sys2Proof.Proofs
end

section
/-! SUPPORT. Entries of firmware, the archive slot and the entry window (R347 to R353), and the statement of 13_time.md about
the tally. -/

namespace Sys2Proof.Machine

/-! ### The archive slot -/

/-- Bytes that are put into the MRAM. -/
theorem mramPut_bytes (off : Nat) (bs : List Byte) (s : State) :
    (mramPut off bs s).mem.ram = s.mem.ram ∧ (mramPut off bs s).mem.mram = cellsPut off bs s.mem.mram := ⟨rfl, rfl⟩

/-- An entry of any kind leaves the archive slot. -/
theorem putOrDrop_archSlot (e : Entry) (s : State) : (putOrDrop e s).tally.archSlot = s.tally.archSlot := by
  unfold putOrDrop
  split
  · extract_lets t u
    have ht : t.tally.archSlot = s.tally.archSlot := rfl
    have hu : u.tally = t.tally := by
      subst u
      split
      · exact (frame_setIrq _ _ t).tally rfl
      · rfl
    clear_value u t
    split
    · exact (congrArg TallyBlk.archSlot hu).trans ht
    · exact (congrArg TallyBlk.archSlot hu).trans ht
  · rw [(frame_setIrq _ _ _).tally rfl, (frame_bump _ _ _ _ _).tally rfl]
    rfl

/-- So does one that may report a loss. -/
theorem tallyWrite_archSlot (e : Entry) (s : State) : (tallyWrite e s).tally.archSlot = s.tally.archSlot := by
  unfold tallyWrite
  split
  · extract_lets t
    have ht : t.tally.archSlot = s.tally.archSlot := putOrDrop_archSlot _ _
    clear_value t
    exact (putOrDrop_archSlot e _).trans ht
  · exact putOrDrop_archSlot e s

/-- The end of a run leaves everything of the archive but its mark. -/
theorem endRun_tally (s : State) : (endRun s).tally = { s.tally with archiving := (endRun s).tally.archiving } := by
  unfold endRun
  split
  · rw [(frame_setIrq _ _ _).tally rfl]
    rfl
  · rfl

/-- A number has as many bytes as it is laid out in. -/
theorem length_leBytes (n v : Nat) : (leBytes n v).length = n := by
  induction n generalizing v with
  | zero => rfl
  | succ n ih => rw [leBytes, List.length_cons, ih]

/-- An entry is archived in 32 bytes. -/
theorem length_bytes (e : Entry) : e.bytes.length = 32 := by
  simp only [Entry.bytes, List.length_append, length_leBytes, List.length_cons, List.length_nil]

/-- The flags of a firmware entry have FW. -/
theorem getLsbD_entryFlags_fw {base sev : Nat} (oos : Bool) (hb : base < 4) (hs : sev < 8) :
    (entryFlags base sev oos true).getLsbD 6 = true := by
  rw [entryFlags, BitVec.getLsbD_ofNat]
  have hsmall : base + 4 * sev + 32 * b01 oos < 2 ^ 6 := by
    have hoos : b01 oos ≤ 1 := by cases oos <;> decide
    omega
  have hsum : base + 4 * sev + 32 * b01 oos + 64 * b01 true = 2 ^ 6 * 1 + (base + 4 * sev + 32 * b01 oos) :=
    Nat.add_comm _ _
  rw [hsum, Nat.testBit_two_pow_mul_add _ hsmall]
  rfl

/-- The entry window shows eight words. -/
theorem length_entryWords (s : State) : s.entryWords.length = 8 := by
  unfold State.entryWords
  split
  · rw [List.length_map, List.length_range]
  · rfl

end Sys2Proof.Machine

/-! ### The statement -/

namespace Sys2Proof.Proofs

open Sys2Proof.Machine

/-- Firmware writes an entry. -/
theorem firmware_entry_is_written (rq : Requester) (s : State) (hp : s.powered = true) (hstd : rq.std = true)
    (hcode : s.tally.fwCode ≠ 0) (hloc : locValid s.tally.fwLoc = true) (hfree : s.tally.free = true)
    (hdrop : s.tally.dropped = 0) :
    let u := inTurn .tally 0x070 rq.rank s
    (s.tally.sameN = 0 ∨ s.tally.sameAt ≠ u.cycle) →
      ∃ t x, exec (.tallyFwGo rq) s = .next t ∧ t.tally.at_ (s.tally.seq.toNat % 8192) = some x ∧
        x.e.code = s.tally.fwCode ∧ x.e.loc = s.tally.fwLoc ∧ x.e.flags.getLsbD 6 = true ∧
        x.e.seq = s.tally.seq ∧ x.e.time = (getNat u.time.tb s.tally.fwBase.toNat default).ns ∧
        x.e.payload = join64 s.tally.fwPayLo s.tally.fwPayHi ∧ t.tally.seq = s.tally.seq + 1 := by
  intro u hfresh
  have htally : u.tally = s.tally := (frame_inTurn .tally 0x070 rq.rank s).tally rfl
  have hexec : exec (.tallyFwGo rq) s = .next (doTallyFwGo rq u) := next_whenOn hp
  clear_value u
  have hlt : u.tally.fwBase.toNat < 4 := by
    have := u.tally.fwBase.isLt
    omega
  rw [← htally] at hcode hloc hfree hdrop hfresh ⊢
  rw [hexec]
  generalize he : mkEntry u (u.time.tb[(⟨u.tally.fwBase.toNat, hlt⟩ : Fin 4)]).ns
    (entryFlags u.tally.fwBase.toNat u.tally.fwSev.toNat (u.time.tb[(⟨u.tally.fwBase.toNat, hlt⟩ : Fin 4)]).oos true)
    u.tally.fwCode.toNat u.tally.fwLoc (join64 u.tally.fwPayLo u.tally.fwPayHi) = e
  have hentry : e.code = u.tally.fwCode ∧ e.loc = u.tally.fwLoc ∧ e.flags.getLsbD 6 = true ∧
      e.time = (getNat u.time.tb u.tally.fwBase.toNat default).ns ∧
      e.payload = join64 u.tally.fwPayLo u.tally.fwPayHi := by
    rw [← he]
    refine ⟨(BitVec.ofNat_toNat 16 _).trans (BitVec.setWidth_eq _), rfl, getLsbD_entryFlags_fw _ hlt u.tally.fwSev.isLt, ?_,
        rfl⟩
    exact congrArg TimeBase.ns (getNat_fin u.time.tb ⟨_, hlt⟩ default).symm
  have hwrite : doTallyFwGo rq u = putOrDrop e u := by
    simp only [doTallyFwGo, hstd, hcode, hloc, Bool.not_true, Bool.false_eq_true, or_self, if_false]
    rw [← tallyWrite_of_no_drops hdrop, ← he]
  obtain ⟨hcode', hloc', hflags, htime, hpay⟩ := hentry
  obtain ⟨hjournal, hseq⟩ := putOrDrop_tally_of_free (e := e) hfree
  refine ⟨_, ⟨{ e with seq := u.tally.seq }, false⟩, congrArg _ hwrite, ?_, hcode', hloc', hflags, rfl, htime, hpay, hseq⟩
  rw [at_congr hjournal]
  exact at_put_self e hfresh

/-- The oldest entry that is not archived goes to the next slot. -/
theorem entry_is_archived (s : State) (hp : s.powered = true) (x : JEntry) (harch : s.tally.archiving = true)
    (hx : s.tally.oldest = some x) (hwf : Memory.wf s.mem.mram = true) :
    ∃ t, exec (.archiveCopy true) s = .next t ∧ t.tally.archSlot = s.tally.archSlot + 1 ∧
      t.tally.archSeq = some x.e.seq ∧
      (∀ i, i < 32 → cellRead t.mem.mram (0x900000 + s.tally.archSlot.toNat * 32 + i) = x.e.bytes.getD i 0) ∧
      (∀ a, (a < 0x900000 + s.tally.archSlot.toNat * 32 ∨ 0x900000 + s.tally.archSlot.toNat * 32 + 32 ≤ a) →
        cellRead t.mem.mram a = cellRead s.mem.mram a) ∧
      (∀ y ∈ t.tally.journal, y.e.seq = x.e.seq → y.archived = true) ∧ t.mem.ram = s.mem.ram := by
  have hlen := length_bytes x.e
  have hact : doArchiveCopy true s =
      endRun (modTally (fun t => { t.nextSlot with
        archSeq := some x.e.seq
        journal := t.journal.map fun y => if y.e.seq = x.e.seq then { y with archived := true } else y })
        (mramPut (0x900000 + s.tally.archSlot.toNat * 32) x.e.bytes s)) := by
    simp only [doArchiveCopy, harch, hx, Bool.not_true, Bool.false_eq_true, if_false, if_true]
  refine ⟨_, (next_whenOn hp).trans (congrArg _ hact), ?_⟩
  generalize hv : modTally (fun t => { t.nextSlot with
    archSeq := some x.e.seq
    journal := t.journal.map fun y => if y.e.seq = x.e.seq then { y with archived := true } else y })
    (mramPut (0x900000 + s.tally.archSlot.toNat * 32) x.e.bytes s) = v
  have hslot : v.tally.archSlot = s.tally.archSlot + 1 := by rw [← hv]; rfl
  have hseq : v.tally.archSeq = some x.e.seq := by rw [← hv]; rfl
  have hjournal : v.tally.journal =
      s.tally.journal.map fun y => if y.e.seq = x.e.seq then { y with archived := true } else y := by rw [← hv]; rfl
  obtain ⟨hram, hmram⟩ := mramPut_bytes (0x900000 + s.tally.archSlot.toNat * 32) x.e.bytes s
  have hmem : v.mem = (mramPut (0x900000 + s.tally.archSlot.toNat * 32) x.e.bytes s).mem := by
    rw [← hv, (frame_modTally _ _).mem rfl]
  rw [← hmem] at hram hmram
  clear hv
  rw [endRun_tally, (frame_endRun _).mem rfl]
  simp only [hslot, hseq, hjournal, hram, hmram]
  refine ⟨trivial, trivial, fun i hi => cellRead_cellsPut_at hwf (by omega),
    fun a ha => cellRead_cellsPut_other _ _ _ _ (by omega), fun y hy hseq => ?_, trivial⟩
  obtain ⟨z, -, rfl⟩ := List.mem_map.mp hy
  split at hseq
  case isTrue h => rw [if_pos h]
  case isFalse h => exact absurd hseq h

/-- Settles O39: firmware entries by the writer and the registers, archive copies by their outcome, the entry window. -/
theorem tallyAndArchive : Obligations.TallyAndArchive := by
  refine ⟨fun rq s hp => ?_, fun rq s hp => ⟨fun hrq => ?_, fun hne => ?_, fun x harch hx hwf => ?_, fun x harch hx => ?_⟩,
    fun rq s hp => ?_⟩
  · intro u
    have htally : u.tally = s.tally := (frame_inTurn .tally 0x070 rq.rank s).tally rfl
    have hexec : exec (.tallyFwGo rq) s = .next (doTallyFwGo rq u) := next_whenOn hp
    refine ⟨fun hstd => ?_, fun hstd hbad => ?_, fun hstd hcode hloc hfree hdrop =>
      firmware_entry_is_written rq s hp hstd hcode hloc hfree hdrop⟩
    · rw [hexec, doTallyFwGo, hstd]
      rfl
    · have hbad' : u.tally.fwCode = 0 ∨ (!locValid u.tally.fwLoc) = true := by
        rw [htally]
        exact hbad.imp id fun h => by rw [h]; rfl
      rw [hexec]
      clear_value u
      simp only [doTallyFwGo, hstd, hbad', Bool.not_true, Bool.false_eq_true, if_false, if_true]
  · exact (next_whenOn hp).trans (congrArg _ (if_neg hrq))
  · refine (next_whenOn hp).trans (congrArg _ ?_)
    rw [doTallyFlush, if_pos rfl, endRun, if_neg fun h => hne h.2]
    rfl
  · exact entry_is_archived s hp x harch hx hwf
  · have hact : doArchiveCopy false s = logEv 0x0602 5 (locTile 0 14) (pack64 [(0, s.tally.archSlot.toNat)])
        (modTally TallyBlk.nextSlot s) := by
      simp only [doArchiveCopy, harch, hx, Bool.not_true, Bool.false_eq_true, if_false]
    refine ⟨_, (next_whenOn hp).trans (congrArg _ hact), ?_, (frame_logEv _ _ _ _ _).mem rfl⟩
    exact (tallyWrite_archSlot _ _).trans rfl
  · have hlen := length_entryWords s
    refine ⟨_, next_whenOn hp, ?_, fun i live hi => ?_, rfl, rfl, rfl⟩
    · exact Vector.getElem_set_self rq.slot.isLt
    · refine (latchedWord_latchRead rq 0x20090040 i live s.entryWords s).trans ?_
      rw [List.getD_eq_getElem _ _ (by omega), List.getD_eq_getElem _ _ (by omega)]

end Sys2Proof.Proofs
end

section
/-! SUPPORT. Frames that the module takes and sends, and what a muster does to its run (R360 to R373), and the statements of
14_fabric.md about the muster. -/

namespace Sys2Proof.Machine

/-! ### A frame that the module takes -/

/-- The generation that the module's frames are under. -/
theorem ownGen_congr {s t : State} (hrun : t.fab.run = s.fab.run) (hgen : t.fab.gen = s.fab.gen) : t.ownGen = s.ownGen := by
  rw [State.ownGen, State.ownGen, hrun, hgen]

/-- The tag of a frame. -/
theorem frameTag_congr {s t : State} (hcfg : t.cfg = s.cfg) (hkey : t.key = s.key)
    (hsession : t.fab.session = s.fab.session) (f : List Byte) : t.frameTag f = s.frameTag f := by
  have hderive (g : Nat) : t.deriveSession g = s.deriveSession g := by
    rw [State.deriveSession, State.deriveSession, State.aesKey, State.aesKey, State.slot, State.slot, hcfg, hkey]
  have hsess (g : Nat) : t.sessionKey g = s.sessionKey g := by
    rw [State.sessionKey, State.sessionKey, hsession, hcfg, hderive]
  rw [State.frameTag, State.frameTag, hsess]

/-- Whether the module accepts a frame. -/
theorem accepts_congr {s t : State} (hcfg : t.cfg = s.cfg) (hkey : t.key = s.key) (htick : t.tick = s.tick)
    (hsession : t.fab.session = s.fab.session) (hgen : t.ownGen = s.ownGen) (f : List Byte) : t.accepts f = s.accepts f := by
  have hon : t.authOn = s.authOn := by rw [State.authOn, State.authOn, hcfg]
  have hauth : t.authKey = s.authKey := by rw [State.authKey, State.authKey, slotReason_congr hkey, hcfg, hkey]
  have htag : t.tagOk f = s.tagOk f := by
    rw [State.tagOk, State.tagOk, hon, hauth, frameTag_congr hcfg hkey hsession]
  rw [State.accepts, State.accepts, htag, hon, hgen, State.tickLo, State.tickLo, htick]

/-- A frame that is counted. -/
theorem countRx_fab (p : Fin 2) (s : State) :
    ∃ port, (countRx p s).fab = { s.fab with port := port } ∧
      ∀ q : Fin 2, port[q].up = (s.fab.port[q]).up ∧ port[q].closing = (s.fab.port[q]).closing := by
  refine ⟨upd s.fab.port p fun x => { x with rxframes := satInc x.rxframes }, (frame_bump _ _ _ _ _).fab rfl, fun q => ?_⟩
  by_cases h : q = p
  · subst h
    rw [upd_self]
    exact ⟨rfl, rfl⟩
  · rw [upd_other _ _ h]
    exact ⟨rfl, rfl⟩

/-- A frame that the module takes is counted and has its effect. -/
theorem consume_of_takes {p : Fin 2} {kind : Nat} {f : List Byte} {eff : State → State} {s : State}
    (h : s.takesFrame kind f = true) : consume p kind f eff s = eff (countRx p s) := by
  simp only [State.takesFrame, Bool.and_eq_true, beq_iff_eq] at h
  obtain ⟨⟨⟨⟨hheader, hsize⟩, hkind⟩, hconsumes⟩, haccepts⟩ := h
  have hlong : frLong f = false := by
    rw [frLong, ← hsize, frSize]
    exact decide_eq_false (Nat.lt_irrefl _)
  have hcount := frame_countRx p s
  obtain ⟨port, hfab, -⟩ := countRx_fab p s
  have hacc : (countRx p s).accepts f = true := by
    rw [accepts_congr (hcount.cfg rfl) (hcount.key rfl) (hcount.tick rfl) (by rw [hfab])
      (ownGen_congr (by rw [hfab]) (by rw [hfab]))]
    exact haccepts
  have hshort : ¬f.length < frSize f := by omega
  simp only [consume, hheader, hlong, hshort, hkind, hconsumes, hacc, Bool.not_true, Bool.false_eq_true, ne_eq,
    not_true_eq_false, or_self, if_false, if_true]

/-! ### A frame that the module sends -/

/-- Of the fabric only what frames on the way leave: a sequence number, what was seen, and the ports' wires. -/
def FabSent (b c : FabBlk) : Prop :=
  ∃ txSeq seen port, c = { b with txSeq := txSeq, seen := seen, port := port } ∧
    ∀ q : Fin 2, port[q].up = b.port[q].up ∧ port[q].closing = b.port[q].closing

/-- Nothing is sent. -/
theorem FabSent.refl (b : FabBlk) : FabSent b b := ⟨_, _, _, rfl, fun _ => ⟨rfl, rfl⟩⟩

/-- One frame after another. -/
theorem FabSent.trans {b c d : FabBlk} (h : FabSent b c) (k : FabSent c d) : FabSent b d := by
  obtain ⟨t, e, p, rfl, hp⟩ := h
  obtain ⟨t', e', p', rfl, hp'⟩ := k
  exact ⟨t', e', p', rfl, fun q => ⟨(hp' q).1.trans (hp q).1, (hp' q).2.trans (hp q).2⟩⟩

/-- The state of the module in the fabric stands. -/
theorem FabSent.kept {b c : FabBlk} (h : FabSent b c) : c.state = b.state ∧ c.run = b.run ∧ c.recallAt = b.recallAt := by
  obtain ⟨_, _, _, rfl, -⟩ := h
  exact ⟨rfl, rfl, rfl⟩

/-- A frame on a wire. -/
theorem wire_fab (p : Fin 2) (stomp : Bool) (f : List Byte) (s : State) :
    (wire p stomp f s).fab = { s.fab with port := upd s.fab.port p fun x => { x with
      tx := f ++ leBytes 4 (if stomp then ~~~crc32 f else crc32 f).toNat, stomp := stomp } } := by
  have hhit := (frame_pertHit 1 (decide (s.hopNs p ≠ 0)).toNat s).fab rfl
  unfold wire
  generalize pertHit 1 (decide (s.hopNs p ≠ 0)).toNat s = t at hhit ⊢
  rw [← hhit]
  rfl

/-- It is a frame on the way. -/
theorem wire_sent (p : Fin 2) (stomp : Bool) (f : List Byte) (s : State) : FabSent s.fab (wire p stomp f s).fab := by
  rw [wire_fab]
  refine ⟨_, _, _, rfl, fun q => ?_⟩
  by_cases h : q = p
  · subst h
    rw [upd_self]
    exact ⟨rfl, rfl⟩
  · rw [upd_other _ _ h]
    exact ⟨rfl, rfl⟩

/-- What stands before a frame of this module goes on the wires. -/
theorem noteFrame_sent (f : List Byte) (s : State) :
    FabSent s.fab (noteFrame f (modFab (fun b => { b with txSeq := b.txSeq + 1 }) s)).fab := by
  unfold noteFrame
  split
  · exact ⟨_, _, _, rfl, fun _ => ⟨rfl, rfl⟩⟩
  · exact ⟨_, _, _, rfl, fun _ => ⟨rfl, rfl⟩⟩

/-- A reserved frame of this module. -/
theorem sendOn_sent (ps : List (Fin 2)) (txn : Bool) (dst kind : Nat) (gen : Half) (payload : List Byte) (s : State) :
    FabSent s.fab (sendOn ps false txn dst kind gen payload s).fab := by
  unfold sendOn
  extract_lets f t
  split
  · have ht : FabSent s.fab t.fab := noteFrame_sent f s
    clear_value t
    apply foldl_invariant (P := fun u : State => FabSent s.fab u.fab)
    · exact fun u p _ h => h.trans (wire_sent p false f u)
    · exact ht
  · exact FabSent.refl _

/-- It leaves by the ports it is sent on. -/
theorem sendOn_tx {ps : List (Fin 2)} {txn : Bool} {dst kind : Nat} {gen : Half} {payload : List Byte} {s : State}
    (hmay : s.maySend = true) (hnodup : ps.Nodup) {p : Fin 2} (hp : p ∈ ps) :
    ((sendOn ps false txn dst kind gen payload s).fab.port[p]).tx =
      mkFrame s dst kind gen payload ++ leBytes 4 (crc32 (mkFrame s dst kind gen payload)).toNat := by
  unfold sendOn
  rw [if_pos hmay]
  generalize mkFrame s dst kind gen payload = f
  dsimp only
  generalize noteFrame f _ = t
  apply foldl_establishes (k := p) (l := ps)
    (P := fun u : State => (u.fab.port[p]).tx = f ++ leBytes 4 (crc32 f).toNat) (Q := fun _ => True) hp hnodup
  · intro u _
    change ((wire p false f u).fab.port[p]).tx = _
    rw [wire_fab]
    exact congrArg PortState.tx (upd_self _ _ _)
  · exact fun _ _ _ _ _ => trivial
  · intro u j _ hj h
    change ((wire j false f u).fab.port[p]).tx = _
    rw [wire_fab]
    exact (congrArg PortState.tx (upd_other _ _ hj.symm)).trans h
  · trivial

/-! ### A muster begins -/

/-- What the start of a muster ends. -/
theorem musterBegin_fab (s : State) : ∃ ra, (musterBegin s).fab = { s.fab with ra := ra } := by
  unfold musterBegin
  extract_lets t u
  have ht : ∃ ra, t.fab = { s.fab with ra := ra } := by
    subst t
    apply foldl_invariant (P := fun t : State => ∃ ra, t.fab = { s.fab with ra := ra })
    · rintro t c _ ⟨ra, hra⟩
      split
      · have hset := (frame_setIrq .fab 5 (txnFree (modRa c (fun x => { x with state := .done, result := 2 }) t))).fab rfl
        have hmod := congrArg (fun b : FabBlk =>
          { b with ra := upd t.fab.ra c fun x => { x with state := .done, result := 2 } }) hra
        exact ⟨_, hset.trans hmod⟩
      · exact ⟨ra, hra⟩
    · exact ⟨_, rfl⟩
  clear_value t
  obtain ⟨ra, hra⟩ := ht
  exact ⟨ra, ((frame_loseWins 2 WinState4.byPeer t).fab rfl).trans hra⟩

/-- The run of a muster that begins. -/
def MusterRun.first (gen : Half) (self : Bool) (executed : Nat) : MusterRun :=
  ⟨gen, self, executed, 0, false, [], 0, 0, false, none, false, false, false⟩

/-- A module that enters a muster. -/
theorem enterMuster_fab (gen : Half) (self : Bool) (cause : Nat) (s : State) :
    ∃ executed, (enterMuster gen self cause s).fab.state = .muster ∧
      (enterMuster gen self cause s).fab.run = some (MusterRun.first gen self executed) ∧
      (enterMuster gen self cause s).fab.recallAt = none := by
  unfold enterMuster
  extract_lets t
  rw [(frame_logEv _ _ _ _ _).fab rfl]
  exact ⟨t.tick.executed, rfl, rfl, rfl⟩

/-- A module that starts one. -/
theorem startMuster_fab (cause : Nat) (s : State) :
    ∃ executed, (startMuster cause s).fab.state = .muster ∧
      (startMuster cause s).fab.run = some (MusterRun.first
        ((if newerGen s.fab.newest s.ownGen then s.fab.newest else s.ownGen) + 1) true executed) ∧
      (startMuster cause s).fab.recallAt = none := by
  unfold startMuster
  extract_lets own gen t
  have hgen : gen = (if newerGen s.fab.newest s.ownGen then s.fab.newest else s.ownGen) + 1 := rfl
  have ht : t = enterMuster gen true cause s := rfl
  clear_value t gen
  obtain ⟨executed, hstate, hrun, hrecall⟩ := enterMuster_fab gen true cause s
  rw [← ht] at hstate hrun hrecall
  obtain ⟨hstate', hrun', hrecall'⟩ := (sendOn_sent t.upPorts false 0xFF 2 gen [] t).kept
  rw [← hgen]
  exact ⟨executed, hstate'.trans hstate, hrun'.trans hrun, hrecall'.trans hrecall⟩

/-! ### A muster ends -/

/-- The service mark of a base touches of the fabric only the count of measurements in range. -/
theorem setOos_fab (n : Fin 4) (v : Bool) (cause : Nat) (s : State) :
    ∃ inRange, (setOos n v cause s).fab = { s.fab with inRange := inRange } := by
  unfold setOos
  split
  · exact ⟨_, rfl⟩
  · extract_lets t fab u mbus w
    have hu : ∃ inRange, u.fab = { s.fab with inRange := inRange } := by
      subst u
      split
      · exact ⟨_, rfl⟩
      · exact ⟨_, rfl⟩
    have hw : w.fab = u.fab := by
      subst w
      split <;> rfl
    clear_value w
    rw [(frame_setIrq _ _ _).fab rfl, (frame_logEv _ _ _ _ w).fab rfl, hw]
    exact hu

/-- A module that stands alone. -/
theorem leaveFabric_fab (s : State) :
    (leaveFabric s).fab.state = .alone ∧ (leaveFabric s).fab.mustered = false ∧ (leaveFabric s).fab.run = none ∧
      (leaveFabric s).fab.gen = s.fab.gen := by
  unfold leaveFabric
  extract_lets was t u
  have hu : u.fab.state = .alone ∧ u.fab.mustered = false ∧ u.fab.run = none ∧ u.fab.gen = s.fab.gen :=
    ⟨rfl, rfl, rfl, rfl⟩
  clear_value u
  split
  · obtain ⟨_, hoos⟩ := setOos_fab 1 true 3 (setSlew 1 false u)
    rw [hoos, (frame_setSlew _ _ u).fab rfl]
    exact hu
  · exact hu

/-- A member of a muster at its position. -/
structure IsMember (r : MusterRun) (l : List DWord) (pos : Nat) (b : FabBlk) : Prop where
  state : b.state = .member
  mustered : b.mustered = true
  run : b.run = none
  pos : b.pos = pos
  n : b.n = l.length
  gen : b.gen = r.gen
  roll : b.roll = l

/-- The measurements of the time base do not matter to it. -/
theorem IsMember.measured {r : MusterRun} {l : List DWord} {pos : Nat} {b : FabBlk} (h : IsMember r l pos b) (freq : Int)
    (inRange : Nat) : IsMember r l pos { b with freq := freq, inRange := inRange } :=
  ⟨h.state, h.mustered, h.run, h.pos, h.n, h.gen, h.roll⟩

/-- A module that takes its position. -/
theorem takePosition_fab (r : MusterRun) (l : List DWord) (i : Nat) (s : State) :
    IsMember r l (if r.pos = 0 then i + 1 else r.pos) (takePosition r l i s).fab := by
  unfold takePosition
  extract_lets bw bwSerial changed pos up t pwr v w x y
  have ht : IsMember r l pos t.fab := by
    have hbump := (frame_bump .fab 0x020 16 1 (modFab (fun b => { b with
      state := .member, mustered := true, run := none, pos := pos, n := l.length, bw := bw, bwSerial := bwSerial
      ring := r.isRing, upPort := up, gen := r.gen, musters := satInc b.musters, rolls := r.rolls, roll := l
      overpos := false }) s)).fab rfl
    have hfab : t.fab = _ := hbump
    rw [hfab]
    exact ⟨rfl, rfl, rfl, rfl, rfl, rfl, rfl⟩
  have hv : v.fab = t.fab := rfl
  clear_value t v
  have hw : w.fab = v.fab := ((frame_setIrq _ _ _).fab rfl).trans ((frame_logEv _ _ _ _ v).fab rfl)
  clear_value w
  have hwm : IsMember r l pos w.fab := by
    rw [hw, hv]
    exact ht
  have hx : IsMember r l pos x.fab := by
    subst x
    split
    · rw [(frame_setIrq _ _ _).fab rfl, (frame_logEv _ _ _ _ _).fab rfl]
      obtain ⟨inRange, hoos⟩ := setOos_fab 1 true 3 (modFab (fun b => { b with freq := 0, inRange := 0 }) w)
      rw [hoos]
      exact hwm.measured 0 inRange
    · exact hwm
  clear_value x
  have hy : y.fab = x.fab := by
    subst y
    split
    · exact (frame_setSlew _ _ x).fab rfl
    · rfl
  clear_value y
  apply foldl_invariant (P := fun s : State => IsMember r l pos s.fab)
  · intro u k _ h
    rw [(frame_streamDup k u).fab rfl]
    exact h
  · rw [hy]
    exact hx

/-! ### A muster in progress -/

/-- The run of the muster changes. -/
theorem modRun_run {r : MusterRun} {s : State} (h : s.fab.run = some r) (f : MusterRun → MusterRun) :
    (modRun f s).fab.run = some (f r) := by
  change s.fab.run.map f = _
  rw [h]
  rfl

/-- A DONE that the module floods. -/
theorem floodDone_fab {r : MusterRun} {s : State} (h : s.fab.run = some r) :
    (floodDone s).fab.run = some { r with done := some (doneSerials s.fab.serial r) } := by
  unfold floodDone
  split
  case h_1 hnone => exact nomatch hnone.symm.trans h
  case h_2 r' hr =>
    obtain rfl : r' = r := Option.some.inj (hr.symm.trans h)
    extract_lets l t
    have ht : t.fab.run = some { r' with done := some l } := modRun_run h _
    clear_value t
    exact (sendOn_sent _ _ _ _ _ _ t).kept.2.1.trans ht

end Sys2Proof.Machine

/-! ### The statements -/

namespace Sys2Proof.Proofs

open Sys2Proof.Machine

/-- Settles O41: what begins a muster and what ends it. -/
theorem musterBeginsAndEnds : Obligations.MusterBeginsAndEnds := by
  refine ⟨fun s hp => ⟨?_, fun rq hrq => ?_, fun p f htakes hnew => ?_, fun at_ hat hle hup => ?_⟩, fun r s hp hrun =>
    ⟨fun l hdone hready hgood hmem => ?_, fun hfail => ?_⟩⟩
  · have hact : doRemuster .keeper s = startMuster 3 s := by
      have hok : (Requester.keeper == .keeper) = true := rfl
      have hval : decide (2 ≤ (1 : Word).toNat) = false := by decide
      have hbit : bit (1 : Word) 0 = true := by decide
      rw [doRemuster, fabCtrlWrite, hok, hval, wrIf_ok, if_pos hbit]
    obtain ⟨executed, hstate, hrun, -⟩ := startMuster_fab 3 s
    exact ⟨_, _, (next_whenOn hp).trans (congrArg _ hact), hstate, hrun, rfl, rfl, rfl, rfl⟩
  · refine (next_whenOn hp).trans (congrArg _ ?_)
    have hok : (rq == .keeper) = false := beq_eq_false_iff_ne.mpr hrq
    have hval : decide (2 ≤ (1 : Word).toNat) = false := by decide
    rw [doRemuster, fabCtrlWrite, hok, hval, wrIf_refused]
    rfl
  · obtain ⟨port, hfab, -⟩ := countRx_fab p s
    have hgen : (countRx p s).ownGen = s.ownGen := ownGen_congr (by rw [hfab]) (by rw [hfab])
    have hact : doCallRx p f s = enterMuster (frGen f) false 2 (countRx p s) := by
      rw [doCallRx, consume_of_takes htakes, hgen, if_pos hnew]
    obtain ⟨executed, hstate, hrun, -⟩ := enterMuster_fab (frGen f) false 2 (countRx p s)
    exact ⟨_, _, (next_whenOn hp).trans (congrArg _ hact), hstate, hrun, rfl, rfl⟩
  · have hact : doMusterRecall s = tickFree (startMuster (1 + s.freeVal.toNat % 4) s) := by
      simp only [doMusterRecall, hat]
      exact if_pos ⟨hle, hup⟩
    obtain ⟨executed, hstate, hrun, hrecall⟩ := startMuster_fab (1 + s.freeVal.toNat % 4) s
    have hfab := (frame_tickFree (startMuster (1 + s.freeVal.toNat % 4) s)).fab rfl
    rw [← hfab] at hstate hrun hrecall
    exact ⟨_, _, (next_whenOn hp).trans (congrArg _ hact), hstate, hrun, hrecall⟩
  · have hlt : l.findIdx (· == s.fab.serial) < l.length :=
      List.findIdx_lt_length_of_exists ⟨_, hmem, beq_self_eq_true _⟩
    have hact : doMusterDone s = takePosition r l (l.findIdx (· == s.fab.serial)) s := by
      have hno : ¬((!r.ready) = true ∨ r.badToken = true) := by
        rw [hready, hgood]
        exact fun h => h.elim nofun nofun
      simp only [doMusterDone, hrun, hdone, hno, hlt, if_false, if_true]
    have hpos := takePosition_fab r l (l.findIdx (· == s.fab.serial)) s
    refine ⟨_, (next_whenOn hp).trans (congrArg _ hact), hpos.state, hpos.mustered, hpos.run, hpos.pos, fun h0 => ?_, hpos.n,
      hpos.gen, hpos.roll⟩
    rw [hpos.pos, if_pos h0]
    omega
  · have hcond : r.badToken = true ∨ (4 ≤ r.marks ∧ r.done.isNone = true) :=
      hfail.imp id fun h => ⟨h.1, Option.isNone_iff_eq_none.mpr h.2⟩
    refine ⟨_, next_whenOn hp, ?_⟩
    unfold doMusterFail
    simp only [hrun, hcond, if_true]
    generalize hv : logEv 0x8003 4 locFab (BitVec.ofNat 64 (if r.badToken = true then 2 else 1)) s = v
    have htick : v.tick = s.tick := by
      rw [← hv]
      exact (frame_logEv _ _ _ _ s).tick rfl
    obtain ⟨hstate, hmust, hnone, hgen⟩ := leaveFabric_fab (modFab (fun b => { b with gen := r.gen }) v)
    have hleave := frame_leaveFabric (modFab (fun b => { b with gen := r.gen }) v)
    generalize leaveFabric (modFab (fun b => { b with gen := r.gen }) v) = w at hstate hmust hnone hgen hleave ⊢
    have hset := frame_setIrq .fab 0 w
    generalize setIrq .fab 0 w = x at hset ⊢
    have hxtick : x.tick = s.tick := by
      rw [hset.tick rfl, hleave.tick rfl]
      exact htick
    rw [← hset.fab rfl] at hstate hmust hnone hgen
    refine ⟨hstate, hmust, hnone, hgen, ?_⟩
    change some (x.tick.executed + 64) = _
    rw [hxtick]

/-- The module floods its ROLL. -/
theorem roll_is_flooded (r : MusterRun) (s : State) (hp : s.powered = true) (hrun : s.fab.run = some r)
    (hmarks : 1 ≤ r.marks) (hsent : r.rollSent = false) :
    ∃ t, exec .rollTx s = .next t ∧ t.fab.run = some { r with
      rollSent := true, rolls := s.ownRoll :: r.rolls.filter fun x => x.serial != s.ownRoll.serial } ∧
      let f := mkFrame s 0xFF 3 r.gen (rollPayload s.ownRoll)
      ∀ p : Fin 2, (s.fab.port[p]).up = true → s.maySend = true →
        (t.fab.port[p]).tx = f ++ leBytes 4 (crc32 f).toNat := by
  generalize hu : modRun (fun r => { r with
    rollSent := true, rolls := s.ownRoll :: r.rolls.filter fun x => x.serial != s.ownRoll.serial }) s = u
  have hact : doRollTx s = sendOn s.upPorts false false 0xFF 3 r.gen (rollPayload s.ownRoll) u := by
    have hyes : 1 ≤ r.marks ∧ (!r.rollSent) = true := ⟨hmarks, by rw [hsent]; rfl⟩
    have hports : u.upPorts = s.upPorts := by
      rw [← hu]
      rfl
    simp only [doRollTx, hrun, hyes, and_self, if_true, hu, hports]
  have hurun : u.fab.run = some { r with
      rollSent := true, rolls := s.ownRoll :: r.rolls.filter fun x => x.serial != s.ownRoll.serial } := by
    rw [← hu]
    exact modRun_run hrun _
  have hframe : Frame 524288 s u := by
    rw [← hu]
    exact frame_modRun _ s
  have hmk : mkFrame u 0xFF 3 r.gen (rollPayload s.ownRoll) = mkFrame s 0xFF 3 r.gen (rollPayload s.ownRoll) := by
    have hsession : u.fab.session = s.fab.session ∧ u.fab.pos = s.fab.pos ∧ u.fab.txSeq = s.fab.txSeq := by
      rw [← hu]
      exact ⟨rfl, rfl, rfl⟩
    obtain ⟨hsession, hpos, hseq⟩ := hsession
    have hon : u.authOn = s.authOn := by rw [State.authOn, State.authOn, hframe.cfg rfl]
    simp only [mkFrame, hpos, hseq, hon, State.tickLo, hframe.tick rfl,
      frameTag_congr (hframe.cfg rfl) (hframe.key rfl) hsession]
  have hmay : u.maySend = s.maySend := by
    rw [State.maySend, State.maySend, State.authOn, State.authOn, State.authKey, State.authKey,
      slotReason_congr (hframe.key rfl), hframe.cfg rfl, hframe.key rfl]
  refine ⟨_, (next_whenOn hp).trans (congrArg _ hact), (sendOn_sent _ _ _ _ _ _ u).kept.2.1.trans hurun, ?_⟩
  intro f p hup hsend
  have hmem : p ∈ s.upPorts := List.mem_filter.mpr ⟨List.mem_finRange p, hup⟩
  have hnodup : s.upPorts.Nodup := (List.nodup_finRange 2).filter _
  rw [sendOn_tx (hmay.trans hsend) hnodup hmem, hmk]

/-- The starter takes position 1. -/
theorem starter_takes_position (r : MusterRun) (s : State) (hp : s.powered = true) (hrun : s.fab.run = some r)
    (hmarks : (if s.tick.src then 2 else 3) ≤ r.marks) (hsent : r.tokenSent = false) (hroll : r.rollSent = true)
    (hstart : r.starter = some s.fab.serial.toNat) (hpos : r.pos = 0) :
    ∃ t, exec .tokenTx s = .next t ∧
      (1 < r.rolls.length → t.fab.run = some { r with tokenSent := true, pos := 1 } ∧
        (t.fab.port[(1 : Fin 2)]).closing = (r.isRing || (s.fab.port[(1 : Fin 2)]).closing)) ∧
      (r.rolls.length = 1 → t.fab.run = some { r with
        tokenSent := true, pos := 1, done := some (doneSerials s.fab.serial r) }) := by
  generalize hu : modRun (fun r => { r with tokenSent := true, pos := 1 }) s = u
  have hurun : u.fab.run = some { r with tokenSent := true, pos := 1 } := by
    rw [← hu]
    exact modRun_run hrun _
  have hport : u.fab.port = s.fab.port := by rw [← hu]; rfl
  have hserial : u.fab.serial = s.fab.serial := by rw [← hu]; rfl
  have hact : doTokenTx s = if r.rolls.length = 1 then floodDone u
      else sendToken (if r.isRing then 0 else u.upPorts.headD 0) 2 r.rolls.length r.gen
        (if r.isRing then modPort 1 (fun x => { x with closing := true }) u else u) := by
    have hyes : (if s.tick.src = true then 2 else 3) ≤ r.marks ∧ (!r.tokenSent) = true ∧ r.rollSent = true ∧
        r.starter = some s.fab.serial.toNat ∧ r.pos = 0 := ⟨hmarks, by rw [hsent]; rfl, hroll, hstart, hpos⟩
    unfold doTokenTx
    simp only [hrun]
    rw [if_pos hyes, hu]
  refine ⟨_, (next_whenOn hp).trans (congrArg _ hact), fun hmany => ?_, fun hone => ?_⟩
  · rw [if_neg (Nat.ne_of_gt hmany)]
    generalize hv : (if r.isRing then modPort 1 (fun x => { x with closing := true }) u else u) = v
    have hvrun : v.fab.run = u.fab.run := by
      rw [← hv]
      split <;> rfl
    have hclosing : (v.fab.port[(1 : Fin 2)]).closing = (r.isRing || (s.fab.port[(1 : Fin 2)]).closing) := by
      rw [← hv]
      cases hring : r.isRing with
      | true => exact congrArg PortState.closing (upd_self u.fab.port 1 _)
      | false => exact congrArg (fun p : Vector PortState 2 => (p[(1 : Fin 2)]).closing) hport
    obtain ⟨_, _, port, hsent', hkept⟩ := sendOn_sent
      [if r.isRing then 0 else u.upPorts.headD 0] false 0 4 r.gen
      [BitVec.ofNat 8 2, BitVec.ofNat 8 r.rolls.length] v
    rw [sendToken, hsent']
    exact ⟨hvrun.trans hurun, (hkept 1).2.trans hclosing⟩
  · rw [if_pos hone, floodDone_fab hurun, hserial]
    rfl

/-- A frame of the muster that changes the run. -/
theorem frame_changes_run {r : MusterRun} {p : Fin 2} {kind : Nat} {f : List Byte} {g : MusterRun → MusterRun} {s : State}
    (hrun : s.fab.run = some r) (htakes : s.takesFrame kind f = true) :
    (consume p kind f (modRun g) s).fab.run = some (g r) := by
  rw [consume_of_takes htakes]
  obtain ⟨port, hfab, -⟩ := countRx_fab p s
  exact modRun_run (by rw [hfab]; exact hrun) g

/-- The module that TOKEN reaches takes its position and passes it on, or floods DONE. -/
theorem token_gives_position (r : MusterRun) (p : Fin 2) (f : List Byte) (s : State) (hp : s.powered = true)
    (hrun : s.fab.run = some r) (htakes : s.takesFrame 4 f = true) (hpos : r.pos = 0)
    (hcount : leAt f 17 1 = r.rolls.length) :
    ∃ t, exec (.tokenRx p f) s = .next t ∧ t.fab.run = some { r with
      pos := leAt f 16 1 % 128, up := p, tokenSent := true
      done := if leAt f 16 1 % 128 = min 64 r.rolls.length then some (doneSerials s.fab.serial r) else r.done } := by
  refine ⟨_, next_whenOn hp, ?_⟩
  rw [doTokenRx, consume_of_takes htakes]
  obtain ⟨port, hfab, -⟩ := countRx_fab p s
  have hrun' : (countRx p s).fab.run = some r := by rw [hfab]; exact hrun
  have hserial : (countRx p s).fab.serial = s.fab.serial := by rw [hfab]
  generalize countRx p s = t at hrun' hserial
  simp only [hrun', hpos, hcount, ne_eq, not_true_eq_false, if_false]
  generalize hu : modRun (fun r => { r with pos := leAt f 16 1 % 128, up := p, tokenSent := true }) t = u
  have hurun : u.fab.run = some { r with pos := leAt f 16 1 % 128, up := p, tokenSent := true } := by
    rw [← hu]
    exact modRun_run hrun' _
  have huserial : u.fab.serial = s.fab.serial := by
    rw [← hserial, ← hu]
    rfl
  by_cases hlast : leAt f 16 1 % 128 = min 64 r.rolls.length
  · rw [if_pos hlast, if_pos hlast]
    generalize hv : (if 64 < r.rolls.length ∨ r.isRing = true then
      modPort (otherPort p) (fun x => { x with closing := true }) u else u) = v
    have hv' : v.fab.run = u.fab.run ∧ v.fab.serial = u.fab.serial := by
      rw [← hv]
      split <;> exact ⟨rfl, rfl⟩
    rw [floodDone_fab (hv'.1.trans hurun), hv'.2, huserial]
    rfl
  · rw [if_neg hlast, if_neg hlast]
    exact (sendOn_sent _ _ _ _ _ _ u).kept.2.1.trans hurun

/-- Settles O42: what the module sends in a muster, and what each frame of the muster does to its run. -/
theorem musterGivesPositions : Obligations.MusterGivesPositions := by
  refine ⟨fun s hnone => ?_, fun r s hp hrun => ⟨roll_is_flooded r s hp hrun, fun p f q htakes hnew => ?_,
    fun p f q htakes hold => ?_, starter_takes_position r s hp hrun, fun p f => token_gives_position r p f s hp hrun,
    fun p f htakes hpos hcount => ?_, fun p f htakes hpos => ?_, fun p f htakes => ?_⟩⟩
  · have hroll : doRollTx s = s := by simp only [doRollTx, hnone]
    have htoken : doTokenTx s = s := by simp only [doTokenTx, hnone]
    cases hp : s.powered with
    | true => exact ⟨(next_whenOn hp).trans (congrArg _ hroll), (next_whenOn hp).trans (congrArg _ htoken)⟩
    | false => exact ⟨congrArg _ (whenOn_of_not_powered hp doRollTx), congrArg _ (whenOn_of_not_powered hp doTokenTx)⟩
  · refine ⟨_, next_whenOn hp, (frame_changes_run hrun htakes).trans ?_⟩
    exact congrArg some (if_neg fun h => Bool.false_ne_true (hnew.symm.trans h))
  · refine ⟨_, next_whenOn hp, (frame_changes_run hrun htakes).trans ?_⟩
    exact congrArg some (if_pos hold)
  · refine ⟨_, next_whenOn hp, ?_⟩
    rw [doTokenRx, consume_of_takes htakes]
    obtain ⟨port, hfab, -⟩ := countRx_fab p s
    have hrun' : (countRx p s).fab.run = some r := by rw [hfab]; exact hrun
    simp only [hrun']
    rw [if_neg (not_not_intro hpos), if_pos hcount]
    exact modRun_run hrun' _
  · refine (next_whenOn hp).trans (congrArg _ ?_)
    obtain ⟨port, hfab, -⟩ := countRx_fab p s
    have hrun' : (countRx p s).fab.run = some r := by rw [hfab]; exact hrun
    rw [doTokenRx, consume_of_takes htakes]
    simp only [hrun', hpos, ne_eq, not_false_eq_true, if_true]
  · refine ⟨_, next_whenOn hp, (frame_changes_run hrun htakes).trans ?_⟩
    cases hdone : r.done with
    | none => rfl
    | some l => exact congrArg some ((if_pos rfl).trans (congrArg (fun d => { r with done := d }) hdone))

end Sys2Proof.Proofs
end

section
/-! SUPPORT. The refutation of the statement of 14_fabric.md about remote access. A WRITE request carries words of the
dual-port bank, so what the window bursts have moved by its instant acts in its step (R308, R390), and a burst that reaches an
address outside its window ends there and gives its transaction back (R326). -/

namespace Sys2Proof.Machine

/-- A member with a WRITE request on channel 0; window 0 has an outstanding read burst at an address that no window
reaches. -/
def requestBesideBurst : State := { State.reset with
  cfg := { State.reset.cfg with slotBody := [0] }
  fab := { State.reset.fab with pos := 1, n := 1, ra := upd State.reset.fab.ra 0 fun x => { x with op := 3 } }
  time := { State.reset.time with tb := upd State.reset.time.tb 0 fun b => { b with value := 1000 <<< 32 } }
  dwin := { State.reset.dwin with
    inuse := 1
    w := upd State.reset.dwin.w 0 fun w => { w with
      holder := .shepherd, state := .active, job := some ⟨0x20000000, 0, false, 2⟩ } } }

/-- The channel is idle, and its transaction fits. -/
theorem requestBesideBurst_before : requestBesideBurst.powered = true ∧ (requestBesideBurst.fab.ra[(0 : Fin 4)]).state = .idle ∧
    requestBesideBurst.authOn = true ∧ requestBesideBurst.fab.pos ≠ 0 ∧
    (requestBesideBurst.fab.ra[(0 : Fin 4)]).dst ≤ requestBesideBurst.fab.n ∧ requestBesideBurst.txnFits = true ∧
    requestBesideBurst.dwin.inuse = 1 := by decide +kernel

/-- The request takes a transaction, the burst gives one back. -/
theorem requestBesideBurst_after : (doRaGo .keeper 0 requestBesideBurst).dwin.inuse = 1 := by decide +kernel

end Sys2Proof.Machine

/-! ### The statement -/

namespace Sys2Proof.Proofs

open Sys2Proof.Machine

/-- Refutes O45: GO with a WRITE request takes a transaction, but the count of the outstanding ones need not rise, where a
burst of a window ends in the same step. -/
theorem not_remoteAccess : ¬ Obligations.RemoteAccess := by
  rintro ⟨hchannel, -⟩
  obtain ⟨hpowered, hidle, hauth, hpos, hdst, hfits, hbefore⟩ := requestBesideBurst_before
  obtain ⟨-, hgo, -⟩ := hchannel 0 requestBesideBurst hpowered
  obtain ⟨t, ht, hsent, -⟩ := hgo (.inl hidle) hauth hpos hdst
  obtain ⟨-, -, hinuse⟩ := hsent hfits
  have hstate : doRaGo .keeper 0 requestBesideBurst = t := Host.Outcome.next.inj ((next_whenOn hpowered).symm.trans ht)
  rw [← hstate, requestBesideBurst_after, hbefore] at hinuse
  exact absurd hinuse (by decide)

end Sys2Proof.Proofs
end

section
/-! SUPPORT. What frames, errors and requests do to a channel of the message buses (R395 to R412), and the statement of
15_can.md about the frames in queues. -/

namespace Sys2Proof.Machine

/-! ### One channel -/

/-- A channel after it is rewritten. -/
theorem modCh_self (k : Fin 6) (f : MbusChan → MbusChan) (s : State) : (modCh k f s).mbus.ch[k] = f s.mbus.ch[k] :=
  upd_self s.mbus.ch k f

/-- The other channels. -/
theorem modCh_other {k j : Fin 6} (f : MbusChan → MbusChan) (s : State) (h : j ≠ k) :
    (modCh k f s).mbus.ch[j] = s.mbus.ch[j] :=
  upd_other s.mbus.ch f h

/-- A channel whose register counts. -/
theorem bumpCh_ch (k : Fin 6) (off lo : Nat) (f : MbusChan → MbusChan) (s : State) :
    (bumpCh k off lo f s).mbus.ch = (modCh k f s).mbus.ch :=
  congrArg MbusBlk.ch ((frame_bump _ _ _ _ _).mbus rfl)

/-- The service mark of a base that comes into service touches no channel. -/
theorem setOos_false_mbus (n : Fin 4) (cause : Nat) (s : State) : (setOos n false cause s).mbus = s.mbus := by
  unfold setOos
  split
  · rfl
  · extract_lets t fab u mbus v
    have hu : u.mbus = s.mbus := by
      subst u
      split <;> rfl
    have hv : v.mbus = u.mbus := congrArg State.mbus (if_neg fun h : n = 2 ∧ false = true => Bool.false_ne_true h.2)
    clear_value v
    rw [(frame_setIrq _ _ _).mbus rfl, (frame_logEv _ _ _ _ v).mbus rfl, hv, hu]

/-- A step of a base touches none. -/
theorem stepBase_mbus (n : Fin 4) (v : DWord) (fw : Bool) (s : State) : (stepBase n v fw s).mbus = s.mbus := by
  have hturn := (frame_stepTurn n 2 s).mbus rfl
  cases h : (s.time.tb[n]).stepOk with
  | true =>
    rw [stepBase_permitted h, ← hturn]
    generalize stepTurn n 2 s = t
    unfold steppedBase
    generalize hu : modTb n (fun b => { b.keepPast (runCycles 1 t).time.tb[0].value with
      value := v.setWidth 96 <<< 32, stepOk := false }) (runCycles 1 t) = u
    have hut : u.mbus = t.mbus := by
      rw [← hu]
      rfl
    extract_lets d u' tick w x y
    have hw : w.mbus = u.mbus := by
      subst w
      split <;> rfl
    have hx : x.mbus = w.mbus := ((frame_setIrq _ _ _).mbus rfl).trans ((frame_logEv _ _ _ _ w).mbus rfl)
    have hy : y.mbus = x.mbus := setOos_false_mbus n 5 x
    clear_value w x y
    have hkept : y.mbus = t.mbus := hy.trans (hx.trans (hw.trans hut))
    split
    · exact ((frame_logTimeMap y).mbus rfl).trans hkept
    · exact hkept
  | false =>
    obtain ⟨-, -, hok⟩ := inTurn_tb_kept .time (0x20000 + n.val) 2 s n
    rw [← hturn]
    unfold stepBase
    generalize ht : stepTurn n 2 s = t
    have hperm : ¬(t.time.tb[n]).stepOk = true := by
      rw [← ht]
      exact fun hc => Bool.false_ne_true ((hok.trans h).symm.trans hc)
    extract_lets t' ok u d
    have hu : u = t := if_neg hperm
    clear_value u
    subst hu
    rw [if_neg hperm, (frame_setIrq _ _ _).mbus rfl, (frame_logEv _ _ _ _ _).mbus rfl]

/-! ### What a frame leaves of its channel -/

/-- The requests of a channel stand, and what they ask for; a channel in bus-off stays there. -/
structure ChHeld (c d : MbusChan) : Prop where
  initWait : d.initWait = c.initWait
  trxWait : d.trxWait = c.trxWait
  inInit : d.inInit = c.inInit
  trx : d.trx = c.trx
  busoff : c.busoff = true → d.busoff = true

/-- So do the counts of received and rejected frames. -/
structure ChKept (c d : MbusChan) : Prop extends ChHeld c d where
  rxframes : d.rxframes = c.rxframes
  reject : d.reject = c.reject

/-- Nothing happens. -/
theorem ChKept.refl (c : MbusChan) : ChKept c c := ⟨⟨rfl, rfl, rfl, rfl, id⟩, rfl, rfl⟩

/-- One after another. -/
theorem ChHeld.trans {c d e : MbusChan} (h : ChHeld c d) (k : ChHeld d e) : ChHeld c e :=
  ⟨k.initWait.trans h.initWait, k.trxWait.trans h.trxWait, k.inInit.trans h.inInit, k.trx.trans h.trx,
    fun hb => k.busoff (h.busoff hb)⟩

/-- One after another. -/
theorem ChKept.trans {c d e : MbusChan} (h : ChKept c d) (k : ChKept d e) : ChKept c e :=
  ⟨h.toChHeld.trans k.toChHeld, k.rxframes.trans h.rxframes, k.reject.trans h.reject⟩

/-- A step on one channel: the others stand, and of it what `P` says. -/
def OnChannel (P : MbusChan → MbusChan → Prop) (k : Fin 6) (s t : State) : Prop :=
  (∀ j : Fin 6, j ≠ k → t.mbus.ch[j] = s.mbus.ch[j]) ∧ P s.mbus.ch[k] t.mbus.ch[k]

section
variable {k : Fin 6} {s t u : State}

/-- One step after another. -/
theorem OnChannel.trans (h : OnChannel ChKept k s t) (g : OnChannel ChKept k t u) : OnChannel ChKept k s u :=
  ⟨fun j hj => (g.1 j hj).trans (h.1 j hj), h.2.trans g.2⟩

/-- One of two steps. -/
theorem OnChannel.ite {c : Prop} [Decidable c] (ht : OnChannel ChKept k s t) (hu : OnChannel ChKept k s u) :
    OnChannel ChKept k s (if c then t else u) := by
  split
  · exact ht
  · exact hu

/-- A step that touches no channel. -/
theorem onChannel_of_ch (h : t.mbus.ch = s.mbus.ch) : OnChannel ChKept k s t := by
  rw [OnChannel, h]
  exact ⟨fun _ _ => rfl, ChKept.refl _⟩

/-- A step that does not touch the buses. -/
theorem onChannel_of_mbus (h : t.mbus = s.mbus) : OnChannel ChKept k s t := onChannel_of_ch (congrArg MbusBlk.ch h)

end

/-- A change of the channel. -/
theorem onChannel_modCh {P : MbusChan → MbusChan → Prop} (k : Fin 6) {f : MbusChan → MbusChan} (s : State)
    (h : ∀ c, P c (f c)) : OnChannel P k s (modCh k f s) := by
  refine ⟨fun j hj => modCh_other f s hj, ?_⟩
  rw [modCh_self]
  exact h _

/-- A change that a register of the channel counts. -/
theorem onChannel_bumpCh {P : MbusChan → MbusChan → Prop} (k : Fin 6) (off lo : Nat) {f : MbusChan → MbusChan} (s : State)
    (h : ∀ c, P c (f c)) : OnChannel P k s (bumpCh k off lo f s) := by
  rw [OnChannel, bumpCh_ch]
  exact onChannel_modCh k s h

/-- What a crossing of the error limit notes. -/
theorem notePassive_kept (k : Fin 6) (was : Bool) (s : State) : OnChannel ChKept k s (notePassive k was s) :=
  onChannel_of_mbus ((frame_notePassive k was s).mbus rfl)

/-- A frame received without error. -/
theorem rxGood_kept (k : Fin 6) (listen : Bool) (s : State) : OnChannel ChKept k s (rxGood k listen s) := by
  unfold rxGood
  extract_lets c was v
  refine OnChannel.ite (onChannel_of_mbus rfl) (OnChannel.trans ?_ (notePassive_kept k was _))
  exact (onChannel_modCh k s fun c => ⟨⟨rfl, rfl, rfl, rfl, id⟩, rfl, rfl⟩).trans
    (onChannel_of_mbus ((frame_tickFree _).mbus rfl))

/-- An error on the bus. -/
theorem busError_kept (k : Fin 6) (tx special : Bool) (code : Nat) (s : State) :
    OnChannel ChKept k s (busError k tx special code s) := by
  unfold busError
  extract_lets was t
  have ht : OnChannel ChKept k s t := onChannel_modCh k s fun c => ⟨⟨rfl, rfl, rfl, rfl, id⟩, rfl, rfl⟩
  clear_value t
  refine (ht.trans (notePassive_kept k was t)).trans ?_
  generalize notePassive k was t = u
  unfold noteBusOff
  extract_lets c
  refine OnChannel.ite (OnChannel.trans (onChannel_modCh k u (f := fun c => { c with busoff := true, recov := 0 })
    fun c => ⟨⟨rfl, rfl, rfl, rfl, fun _ => rfl⟩, rfl, rfl⟩) ?_) (onChannel_of_mbus rfl)
  exact onChannel_of_mbus (((frame_setIrq _ _ _).mbus rfl).trans ((frame_logEv _ _ _ _ _).mbus rfl))

/-- A frame that the perturbation falsifies. -/
theorem falsified_kept (k : Fin 6) (tx counts : Bool) (s : State) : OnChannel ChKept k s (falsified k tx counts s) := by
  unfold falsified
  extract_lets t
  have ht : OnChannel ChKept k s t := onChannel_of_mbus ((frame_pertHit _ _ _).mbus rfl)
  clear_value t
  exact OnChannel.ite ((ht.trans (busError_kept k tx false _ t)).trans (onChannel_of_mbus ((frame_tickFree _).mbus rfl))) ht

/-- A pair of network time. -/
theorem refPair_kept (k : Fin 6) (own master : DWord) (s : State) : OnChannel ChKept k s (refPair k own master s) := by
  unfold refPair
  extract_lets theta p b t mbus u near
  have ht : OnChannel ChKept k s t := onChannel_bumpCh k _ _ s fun c => ⟨⟨rfl, rfl, rfl, rfl, id⟩, rfl, rfl⟩
  have hu : OnChannel ChKept k s u := ht.trans (onChannel_of_ch rfl)
  clear_value u t mbus
  have hmod (f : Int) (near : Nat) : OnChannel ChKept k s (modCh k (fun c => { c with freq := f, inRange := near }) u) :=
    hu.trans (onChannel_modCh k u fun c => ⟨⟨rfl, rfl, rfl, rfl, id⟩, rfl, rfl⟩)
  split
  · refine (hmod 0 0).trans (onChannel_of_mbus ?_)
    rw [stepBase_mbus]
    exact (frame_setSlew _ _ _).mbus rfl
  · generalize steer u.mbus.ch[k].freq theta p = r
    obtain ⟨f, rate⟩ := r
    have hw := (hmod f near).trans (onChannel_of_mbus ((frame_steerBase 2 rate _).mbus rfl))
    refine OnChannel.ite (hw.trans (onChannel_of_mbus ?_)) hw
    exact ((frame_tickFree _).mbus rfl).trans (setOos_false_mbus _ _ _)

/-- A frame of network time. -/
theorem refFrame_kept (k : Fin 6) (f : CanFrame) (age : Nat) (s : State) : OnChannel ChKept k s (refFrame k f age s) := by
  have hself : OnChannel ChKept k s s := onChannel_of_mbus rfl
  unfold refFrame
  extract_lets r base id
  refine OnChannel.ite (OnChannel.ite ?_ hself) (OnChannel.ite (OnChannel.ite ?_ (OnChannel.ite ?_ hself)) hself)
  · exact onChannel_of_mbus (((frame_setIrq _ _ _).mbus rfl).trans ((frame_logEv _ _ _ _ _).mbus rfl))
  · exact onChannel_modCh k s fun c => ⟨⟨rfl, rfl, rfl, rfl, fun h => h⟩, rfl, rfl⟩
  · split
    · exact OnChannel.ite (refPair_kept _ _ _ _) hself
    · exact hself

/-- The entries of a frame that is queued. -/
theorem queueFrame_kept (k : Fin 6) (r : List Byte) (idx : Nat) (stamp : DWord) (f : CanFrame) (s : State) :
    OnChannel ChKept k s (queueFrame k r idx stamp f s) := by
  unfold queueFrame
  extract_lets q es t u
  refine OnChannel.ite ?_ ?_
  · apply foldl_invariant (P := OnChannel ChKept k s)
    · exact fun v e _ h => h.trans (onChannel_of_mbus ((frame_qPush 9 q e v).mbus rfl))
    · exact onChannel_of_mbus rfl
  · have ht : OnChannel ChKept k s t := OnChannel.ite (onChannel_of_mbus ((frame_pertHit _ _ s).mbus rfl)) (onChannel_of_mbus rfl)
    have hu : OnChannel ChKept k t u :=
      (onChannel_bumpCh k _ _ t fun c => ⟨⟨rfl, rfl, rfl, rfl, id⟩, rfl, rfl⟩).trans
        (onChannel_of_mbus ((frame_setIrq _ _ _).mbus rfl))
    clear_value u t
    refine (ht.trans hu).trans (onChannel_of_mbus ?_)
    exact (frame_limited (M := 262420) _ _ u rfl (Frame.refl _ u) fun x h => (frame_logEv _ _ _ _ x).step rfl h).mbus rfl

/-- A frame that is mapped to an output. -/
theorem mapFrame_kept (k : Fin 6) (r : List Byte) (idx : Nat) (f : CanFrame) (s : State) :
    OnChannel ChKept k s (mapFrame k r idx f s) := by
  unfold mapFrame
  split
  · exact onChannel_bumpCh k _ _ s fun c => ⟨⟨rfl, rfl, rfl, rfl, id⟩, rfl, rfl⟩
  · extract_lets o mbus t u
    have hu : OnChannel ChKept k s u := onChannel_of_ch rfl
    clear_value u
    split
    · exact hu.trans (onChannel_of_mbus ((frame_deliverCmd _ _ _ u).mbus rfl))
    · exact hu.trans (onChannel_of_mbus ((frame_withdraw _ _ _ u).mbus rfl))

/-- A frame that no filter record matches is counted as rejected. -/
theorem filterFrame_unmatched {k : Fin 6} {f : CanFrame} {age : Nat} {s : State}
    (h : (s.cfg.filters.zipIdx.find? fun x => flMatch k.val f x.1) = none) :
    filterFrame k f age s = bumpCh k 0x1C 0 (fun c => { c with reject := satInc c.reject }) s := by
  simp only [filterFrame, h]

/-- The requests of a channel stand, and the count of its received frames. -/
def ChReceived (c d : MbusChan) : Prop := ChHeld c d ∧ d.rxframes = c.rxframes

/-- Without the count of the rejected ones. -/
theorem OnChannel.received {k : Fin 6} {s t : State} (h : OnChannel ChKept k s t) : OnChannel ChReceived k s t :=
  ⟨h.1, h.2.toChHeld, h.2.rxframes⟩

/-- What the filters do with a frame. -/
theorem filterFrame_received (k : Fin 6) (f : CanFrame) (age : Nat) (s : State) :
    OnChannel ChReceived k s (filterFrame k f age s) := by
  have hreject : OnChannel ChReceived k s
      (bumpCh k 0x1C 0 (fun c => { c with reject := satInc c.reject }) s) :=
    onChannel_bumpCh k _ _ s fun c => ⟨⟨rfl, rfl, rfl, rfl, id⟩, rfl⟩
  unfold filterFrame
  split
  · exact hreject
  · split
    · exact hreject
    · extract_lets pwr t u b v
      have ht : OnChannel ChKept k s t := OnChannel.ite (onChannel_of_mbus rfl) (onChannel_of_mbus rfl)
      clear_value b
      clear_value t
      have hu : OnChannel ChKept k t u := by
        subst u
        split
        · exact onChannel_of_mbus ((frame_logAgo _ _ _ _ _ t).mbus rfl)
        · exact onChannel_of_mbus rfl
      clear_value u
      have hv : OnChannel ChKept k u v := by
        subst v
        split
        · exact queueFrame_kept _ _ _ _ _ u
        · exact onChannel_of_mbus rfl
      clear_value v
      refine OnChannel.received (((ht.trans hu).trans hv).trans (OnChannel.ite ?_ (onChannel_of_mbus rfl)))
      exact mapFrame_kept k _ _ f v

/-! ### The end of the frame in progress -/

/-- A transceiver takes its state, and its channel's requests stand. -/
theorem setTrx_spec (k : Fin 6) (v : Fin 4) (at_ : Nat) (s : State) :
    ((setTrx k v at_ s).mbus.ch[k]).trx = v ∧ ((setTrx k v at_ s).mbus.ch[k]).inInit = (s.mbus.ch[k]).inInit ∧
      ((setTrx k v at_ s).mbus.ch[k]).busoff = (s.mbus.ch[k]).busoff ∧
      ((setTrx k v at_ s).mbus.ch[k]).initWait = (s.mbus.ch[k]).initWait ∧
      ((setTrx k v at_ s).mbus.ch[k]).trxWait = (s.mbus.ch[k]).trxWait := by
  unfold setTrx
  extract_lets c t
  split
  case isTrue h => exact ⟨h, rfl, rfl, rfl, rfl⟩
  case isFalse h =>
    have ht : t.mbus.ch[k] = { (s.mbus.ch[k]).mark at_ with trx := v, armed := false } := by
      have hself := modCh_self k (fun c => { c.mark at_ with trx := v, armed := false }) s
      rw [← hself]
      exact congrArg (fun m : MbusBlk => m.ch[k]) ((frame_logEv _ _ _ _ _).mbus rfl)
    clear_value t
    split
    · have hrejoin : (rejoin k t).mbus.ch[k] = { t.mbus.ch[k] with txerr := 0, rxerr := 0 } := by
        rw [rejoin, (frame_notePassive _ _ _).mbus rfl, modCh_self]
      rw [hrejoin, ht]
      exact ⟨rfl, rfl, rfl, rfl, rfl⟩
    · rw [ht]
      exact ⟨rfl, rfl, rfl, rfl, rfl⟩

/-- The requests that waited for the end of the frame in progress have taken effect. -/
theorem endFrame_spec (k : Fin 6) (s : State) :
    ((endFrame k s).mbus.ch[k]).waits = false ∧
      ((s.mbus.ch[k]).initWait = true → ((endFrame k s).mbus.ch[k]).busoff = false →
        ((endFrame k s).mbus.ch[k]).inInit = true) ∧
      ∀ v, (s.mbus.ch[k]).trxWait = some v → ((endFrame k s).mbus.ch[k]).trx = v := by
  unfold endFrame
  extract_lets c t u
  have ht : t.mbus.ch[k] = { c with initWait := false, trxWait := none } := modCh_self k _ s
  have hu : (u.mbus.ch[k]).initWait = false ∧ (u.mbus.ch[k]).trxWait = none ∧
      (c.initWait = true → (u.mbus.ch[k]).busoff = false → (u.mbus.ch[k]).inInit = true) := by
    subst u
    split
    · rw [modCh_self, ht]
      refine ⟨rfl, rfl, fun _ hb => ?_⟩
      have hb' : c.busoff = false := hb
      simp only [hb', Bool.not_false, Bool.true_or]
    case isFalse h =>
      rw [ht]
      exact ⟨rfl, rfl, fun hw => absurd hw h⟩
  clear_value t u
  obtain ⟨hinit, htrx, hin⟩ := hu
  split
  case h_1 v hv =>
    obtain ⟨hset, hinInit, hbus, hiw, htw⟩ := setTrx_spec k v c.reqAt u
    refine ⟨?_, fun hw hb => ?_, fun w hw => ?_⟩
    · rw [MbusChan.waits, hiw, htw, hinit, htrx]
      rfl
    · rw [hinInit]
      exact hin hw (hbus.symm.trans hb)
    · rw [hset]
      exact Option.some.inj (hv.symm.trans hw)
  case h_2 hnone =>
    refine ⟨?_, hin, fun w hw => nomatch hnone.symm.trans hw⟩
    rw [MbusChan.waits, hinit, htrx]
    rfl

/-- A frame or an error that leaves the requests of its channel ends the frame in progress that they wait for. -/
theorem withFrame_ends {k : Fin 6} {age : Nat} {f : State → State} (hf : ∀ s, ChHeld (s.mbus.ch[k]) ((f s).mbus.ch[k]))
    {s : State} (hw : (s.mbus.ch[k]).waits = true) :
    ((withFrame k age f s).mbus.ch[k]).waits = false ∧
      ((s.mbus.ch[k]).initWait = true → ((withFrame k age f s).mbus.ch[k]).busoff = false →
        ((withFrame k age f s).mbus.ch[k]).inInit = true) ∧
      ∀ v, (s.mbus.ch[k]).trxWait = some v → ((withFrame k age f s).mbus.ch[k]).trx = v := by
  have hwaits (t : State) : ((f t).mbus.ch[k]).waits = (t.mbus.ch[k]).waits := by
    rw [MbusChan.waits, MbusChan.waits, (hf t).initWait, (hf t).trxWait]
  by_cases hc : ((s.mbus.ch[k]).waits && decide ((s.mbus.ch[k]).reqAt ≤ s.tb0 - age)) = true
  · obtain ⟨hend, hin, htrx⟩ := endFrame_spec k s
    have hheld := hf (endFrame k s)
    have hdone : ¬((f (endFrame k s)).mbus.ch[k]).waits = true := by
      rw [hwaits, hend]
      exact Bool.false_ne_true
    have heq : withFrame k age f s = f (endFrame k s) := by
      simp only [withFrame, hc, if_true, hdone, Bool.false_eq_true, if_false]
    rw [heq]
    refine ⟨Bool.eq_false_iff.mpr hdone, fun hi hb => ?_, fun v hv => hheld.trx.trans (htrx v hv)⟩
    rw [hheld.inInit]
    refine hin hi (Bool.eq_false_iff.mpr fun hbus => ?_)
    rw [hheld.busoff hbus] at hb
    exact nomatch hb
  · have heq : withFrame k age f s = endFrame k (f s) := by
      simp only [withFrame, hc, Bool.false_eq_true, if_false, (hwaits s).trans hw, if_true]
    rw [heq]
    obtain ⟨hend, hin, htrx⟩ := endFrame_spec k (f s)
    exact ⟨hend, fun hi hb => hin ((hf s).initWait.trans hi) hb, fun v hv => htrx v ((hf s).trxWait.trans hv)⟩

/-- Without a request of the channel it is the frame alone. -/
theorem withFrame_of_not_waiting {k : Fin 6} {age : Nat} {f : State → State} {s : State} (hw : (s.mbus.ch[k]).waits = false)
    (hf : ChHeld (s.mbus.ch[k]) ((f s).mbus.ch[k])) : withFrame k age f s = f s := by
  have hwaits : ((f s).mbus.ch[k]).waits = false := by
    rw [← hw, MbusChan.waits, MbusChan.waits, hf.initWait, hf.trxWait]
  simp only [withFrame, hw, Bool.false_and, Bool.false_eq_true, if_false, hwaits]

/-! ### A frame received -/

/-- What a channel that took part in its bus does with a valid frame. -/
def takeRx (k : Fin 6) (f : CanFrame) (age : Nat) (s : State) : State :=
  let c := s.atStart k age
  if s.bitHit k ∧ bitInside false (field s.pert.par[4] 8 13) f then falsified k false c.sends s
  else
    let s := inTurn .mbus 0x20000 k.val s
    let s := if s.bitHit k then useBit s else s
    let s := rxGood k (c.trx != 0) (bumpCh k 0x10 0 (fun c => { c with rxframes := satInc c.rxframes }) s)
    filterFrame k f age (refFrame k f age s)

/-- A frame that becomes valid on a channel. -/
theorem doCanRxFrame_eq (k : Fin 6) (f : CanFrame) (age : Nat) : doCanRxFrame k f age = withFrame k age fun s =>
    if !(s.configured k.val && (s.atStart k age).up && s.carries k f) then s else takeRx k f age s := rfl

/-- A frame that is received is counted, before its filters. -/
theorem takeRx_counted {k : Fin 6} {f : CanFrame} {age : Nat} {s : State}
    (h : s.bitHit k = false ∨ bitInside false (field s.pert.par[4] 8 13) f = false) :
    ∃ t, takeRx k f age s = filterFrame k f age t ∧ (∀ j : Fin 6, j ≠ k → t.mbus.ch[j] = s.mbus.ch[j]) ∧
      ChHeld s.mbus.ch[k] t.mbus.ch[k] ∧ (t.mbus.ch[k]).rxframes = satInc (s.mbus.ch[k]).rxframes ∧
      (t.mbus.ch[k]).reject = (s.mbus.ch[k]).reject ∧ t.cfg = s.cfg ∧ t.que = s.que ∧ t.hurdle = s.hurdle ∧
      t.mem = s.mem := by
  have hno : ¬(s.bitHit k = true ∧ bitInside false (field s.pert.par[4] 8 13) f = true) := by
    rintro ⟨h1, h2⟩
    rcases h with h | h
    · exact Bool.false_ne_true (h.symm.trans h1)
    · exact Bool.false_ne_true (h.symm.trans h2)
  unfold takeRx
  extract_lets c t u v
  rw [if_neg hno]
  have ht := frame_inTurn .mbus 0x20000 k.val s
  have htt : t = inTurn .mbus 0x20000 k.val s := rfl
  rw [← htt] at ht
  clear_value t
  have hu : Frame 16908304 s u := by
    subst u
    split
    · exact (frame_useBit t).step rfl (ht.mono rfl)
    · exact ht.mono rfl
  clear_value u
  have hcount : OnChannel (fun c d => ChHeld c d ∧ d.rxframes = satInc c.rxframes ∧ d.reject = c.reject) k u
      (bumpCh k 0x10 0 (fun c => { c with rxframes := satInc c.rxframes }) u) :=
    onChannel_bumpCh k _ _ u fun c => ⟨⟨rfl, rfl, rfl, rfl, id⟩, rfl, rfl⟩
  have hframe := frame_bumpCh k 0x10 0 (fun c => { c with rxframes := satInc c.rxframes }) u
  have hv : v = rxGood k (c.trx != 0) (bumpCh k 0x10 0 (fun c => { c with rxframes := satInc c.rxframes }) u) := rfl
  clear_value v c
  generalize bumpCh k 0x10 0 (fun c => { c with rxframes := satInc c.rxframes }) u = w at hcount hframe hv
  have hkept := (rxGood_kept k (c.trx != 0) w).trans (refFrame_kept k f age (rxGood k (c.trx != 0) w))
  have hgood := frame_rxGood k (c.trx != 0) w
  rw [← hv] at hkept hgood
  have hall : Frame 84804370 s (refFrame k f age v) :=
    (frame_refFrame k f age v).step rfl (hgood.step rfl (hframe.step rfl (hu.mono rfl)))
  rw [OnChannel, hu.mbus rfl] at hcount
  obtain ⟨hother, hheld, hrx, hrej⟩ := hcount
  obtain ⟨kother, kkept⟩ := hkept
  exact ⟨_, rfl, fun j hj => (kother j hj).trans (hother j hj), hheld.trans kkept.toChHeld, kkept.rxframes.trans hrx,
    kkept.reject.trans hrej, hall.cfg rfl, hall.que rfl, hall.hurdle rfl, hall.mem rfl⟩

/-- What a channel does with a valid frame leaves its requests. -/
theorem takeRx_held (k : Fin 6) (f : CanFrame) (age : Nat) (s : State) :
    ChHeld s.mbus.ch[k] (takeRx k f age s).mbus.ch[k] := by
  by_cases h : s.bitHit k = true ∧ bitInside false (field s.pert.par[4] 8 13) f = true
  · rw [takeRx]
    simp only [if_pos h]
    exact (falsified_kept k false _ s).2.toChHeld
  · have hmiss : s.bitHit k = false ∨ bitInside false (field s.pert.par[4] 8 13) f = false :=
      (not_and_or.mp h).imp Bool.eq_false_iff.mpr Bool.eq_false_iff.mpr
    obtain ⟨t, heq, -, hheld, -⟩ := takeRx_counted (age := age) hmiss
    rw [heq]
    exact hheld.trans (filterFrame_received k f age t).2.1

/-- A frame that the perturbation falsifies uses one of the frames of BUSBIT. -/
theorem falsified_pert (k : Fin 6) (tx counts : Bool) (s : State) :
    (falsified k tx counts s).pert.frames = s.pert.frames - 1 ∧
      (falsified k tx counts s).pert.hits = satAdd s.pert.hits 1 := by
  have hhit : (pertHit 4 1 (useBit s)).pert.frames = s.pert.frames - 1 ∧
      (pertHit 4 1 (useBit s)).pert.hits = satAdd s.pert.hits 1 := by
    rw [pertHit, if_neg (by decide)]
    extract_lets first t
    have ht : t.pert.frames = s.pert.frames - 1 ∧ t.pert.hits = satAdd s.pert.hits 1 := by
      change (bump _ _ _ _ _).pert.frames = _ ∧ (bump _ _ _ _ _).pert.hits = _
      rw [(frame_bump _ _ _ _ _).pert rfl]
      exact ⟨rfl, rfl⟩
    clear_value t
    split
    · rw [(frame_logEv _ _ _ _ t).pert rfl]
      exact ht
    · exact ht
  unfold falsified
  extract_lets t
  have ht : t.pert.frames = s.pert.frames - 1 ∧ t.pert.hits = satAdd s.pert.hits 1 := hhit
  clear_value t
  split
  · rw [(frame_tickFree _).pert rfl, (frame_busError k tx false _ t).pert rfl]
    exact ht
  · exact ht

/-! ### A frame sent -/

/-- The channel of a frame that is sent without error. -/
theorem txGood_ch (k : Fin 6) (s : State) : (txGood k s).mbus.ch[k] = { s.mbus.ch[k] with
    txerr := (s.mbus.ch[k]).txerr - 1, txframes := satInc (s.mbus.ch[k]).txframes, txdto := false } := by
  rw [txGood, (frame_notePassive _ _ _).mbus rfl, bumpCh_ch, modCh_self]

/-- A channel whose transmit counter may have passed its limit. -/
theorem noteBusOff_ch (k : Fin 6) (s : State) : (noteBusOff k s).mbus.ch[k] =
    if 255 < (s.mbus.ch[k]).txerr then { s.mbus.ch[k] with busoff := true, recov := 0 } else s.mbus.ch[k] := by
  by_cases h : 255 < (s.mbus.ch[k]).txerr
  · have heq : noteBusOff k s = setIrq .mbus 0 (logEv 0x9001 4 (locCtl k.val)
        (pack64 [(0, (s.mbus.ch[k]).txerr), (16, (s.mbus.ch[k]).lec)])
        (modCh k (fun c => { c with busoff := true, recov := 0 }) s)) := if_pos h
    rw [heq, if_pos h, (frame_setIrq _ _ _).mbus rfl, (frame_logEv _ _ _ _ _).mbus rfl, modCh_self]
  · have heq : noteBusOff k s = s := if_neg h
    rw [heq, if_neg h]

/-- The channel of an error that a transmitter counts. -/
theorem busError_tx (k : Fin 6) (code : Nat) (s : State) :
    ((busError k true false code s).mbus.ch[k]).txerr = (s.mbus.ch[k]).txerr + 8 ∧
      ((busError k true false code s).mbus.ch[k]).pend = (s.mbus.ch[k]).pend ∧
      ((busError k true false code s).mbus.ch[k]).txframes = (s.mbus.ch[k]).txframes := by
  unfold busError
  extract_lets was t
  have ht : (t.mbus.ch[k]).txerr = (s.mbus.ch[k]).txerr + 8 ∧ (t.mbus.ch[k]).pend = (s.mbus.ch[k]).pend ∧
      (t.mbus.ch[k]).txframes = (s.mbus.ch[k]).txframes := by
    have hself : t.mbus.ch[k] = _ := modCh_self k _ s
    rw [hself]
    exact ⟨rfl, rfl, rfl⟩
  clear_value t
  rw [← (frame_notePassive k was t).mbus rfl] at ht
  generalize notePassive k was t = u at ht
  rw [noteBusOff_ch]
  split <;> exact ht

/-- What stood to be sent at a frame's start is what stands to be sent. -/
theorem atStart_tx (k : Fin 6) (age : Nat) (s : State) :
    (s.atStart k age).refTx = (s.mbus.ch[k]).refTx ∧ (s.atStart k age).pend = (s.mbus.ch[k]).pend := by
  unfold State.atStart MbusChan.before
  split
  · exact ⟨rfl, rfl⟩
  · exact ⟨rfl, rfl⟩

/-- A pending frame leaves its channel. -/
def sentPend (k : Fin 6) (age delay : Nat) (p : TxPend) (s : State) : State :=
  let s := txGood k (modCh k (fun c => { c with
    pend := none
    tdcv := if p.f.fd && decide (0 < leAt (s.chRec k.val) 0xC 1) then min delay 127 else c.tdcv }) s)
  if p.log then logAgo age 0x9005 1 (locCtl k.val) (framePayload p.f 0) s else s

/-- The channel of a pending frame that is sent. -/
theorem sentPend_ch (k : Fin 6) (age delay : Nat) (p : TxPend) (s : State) :
    (sentPend k age delay p s).mbus.ch[k] = { s.mbus.ch[k] with
      pend := none
      tdcv := if p.f.fd && decide (0 < leAt (s.chRec k.val) 0xC 1) then min delay 127 else (s.mbus.ch[k]).tdcv
      txerr := (s.mbus.ch[k]).txerr - 1, txframes := satInc (s.mbus.ch[k]).txframes, txdto := false } := by
  unfold sentPend
  extract_lets t
  have ht := txGood_ch k (modCh k (fun c => { c with
    pend := none
    tdcv := if p.f.fd && decide (0 < leAt (s.chRec k.val) 0xC 1) then min delay 127 else c.tdcv }) s)
  rw [modCh_self] at ht
  have hlog : (if p.log = true then logAgo age 0x9005 1 (locCtl k.val) (framePayload p.f 0) t else t).mbus = t.mbus := by
    split
    · exact (frame_logAgo _ _ _ _ _ t).mbus rfl
    · rfl
  exact (congrArg (fun m : MbusBlk => m.ch[k]) hlog).trans ht

/-- What a channel sends of the frame, the follow-up or the reference that its start `c` finds. -/
def sentTx (k : Fin 6) (age delay : Nat) (c : MbusChan) (s : State) : State :=
  match c.refTx, c.pend with
  | .follow _, _ => txGood k (modCh k (fun c => { c with
      refTx := if c.refDue then .ref else .none, refDue := false }) s)
  | _, some p => sentPend k age delay p s
  | .ref, none => txGood k (modCh k (fun c => { c with refTx := .follow (stampAgo 2 age s) }) s)
  | .none, none => s

/-- What a channel that could send at the frame's start does with it. -/
def takeTx (k : Fin 6) (age delay : Nat) (s : State) : State :=
  let c := s.atStart k age
  if s.bitHit k ∧ (s.nextTx k c).any (bitInside true (field s.pert.par[4] 8 13)) then falsified k true true s
  else sentTx k age delay c (if s.bitHit k ∧ (s.nextTx k c).isSome then useBit s else s)

/-- A frame that a channel sends. -/
theorem doTxFrame_eq (k : Fin 6) (age delay : Nat) : doTxFrame k age delay = withFrame k age fun s =>
    if !(s.configured k.val && (s.atStart k age).sends) then s else takeTx k age delay s := rfl

/-- A follow-up is sent. -/
theorem sentTx_follow {k : Fin 6} {age delay : Nat} {c : MbusChan} {s : State} {st : DWord} (h : c.refTx = .follow st) :
    (sentTx k age delay c s).mbus.ch[k] = { s.mbus.ch[k] with
      refTx := if (s.mbus.ch[k]).refDue then .ref else .none, refDue := false
      txerr := (s.mbus.ch[k]).txerr - 1, txframes := satInc (s.mbus.ch[k]).txframes, txdto := false } := by
  simp only [sentTx, h]
  rw [txGood_ch, modCh_self]

/-- A pending frame is sent where no follow-up stands before it. -/
theorem sentTx_pend {k : Fin 6} {age delay : Nat} {c : MbusChan} {s : State} {p : TxPend}
    (h : c.refTx = .none ∨ c.refTx = .ref) (hp : c.pend = some p) :
    (sentTx k age delay c s).mbus.ch[k] = { s.mbus.ch[k] with
      pend := none
      tdcv := if p.f.fd && decide (0 < leAt (s.chRec k.val) 0xC 1) then min delay 127 else (s.mbus.ch[k]).tdcv
      txerr := (s.mbus.ch[k]).txerr - 1, txframes := satInc (s.mbus.ch[k]).txframes, txdto := false } := by
  have heq : sentTx k age delay c s = sentPend k age delay p s := by
    rcases h with h | h
    · simp only [sentTx, h, hp]
    · simp only [sentTx, h, hp]
  rw [heq]
  exact sentPend_ch k age delay p s

/-- A reference is sent last; its follow-up with the stamp of its start of frame is due. -/
theorem sentTx_ref {k : Fin 6} {age delay : Nat} {c : MbusChan} {s : State} (h : c.refTx = .ref) (hp : c.pend = none) :
    (sentTx k age delay c s).mbus.ch[k] = { s.mbus.ch[k] with
      refTx := .follow (stampAgo 2 age s)
      txerr := (s.mbus.ch[k]).txerr - 1, txframes := satInc (s.mbus.ch[k]).txframes, txdto := false } := by
  simp only [sentTx, h, hp]
  rw [txGood_ch, modCh_self]

/-- Nothing stands there to send. -/
theorem sentTx_none {k : Fin 6} {age delay : Nat} {c : MbusChan} {s : State} (h : c.refTx = .none) (hp : c.pend = none) :
    sentTx k age delay c s = s := by
  simp only [sentTx, h, hp]

/-- What is sent leaves the requests of its channel. -/
theorem sentTx_held (k : Fin 6) (age delay : Nat) (c : MbusChan) (s : State) :
    ChHeld s.mbus.ch[k] (sentTx k age delay c s).mbus.ch[k] := by
  cases hp : c.pend with
  | none =>
    cases h : c.refTx with
    | none => rw [sentTx_none h hp]; exact ⟨rfl, rfl, rfl, rfl, id⟩
    | ref => rw [sentTx_ref h hp]; exact ⟨rfl, rfl, rfl, rfl, id⟩
    | follow st => rw [sentTx_follow h]; exact ⟨rfl, rfl, rfl, rfl, id⟩
  | some p =>
    cases h : c.refTx with
    | none => rw [sentTx_pend (.inl h) hp]; exact ⟨rfl, rfl, rfl, rfl, id⟩
    | ref => rw [sentTx_pend (.inr h) hp]; exact ⟨rfl, rfl, rfl, rfl, id⟩
    | follow st => rw [sentTx_follow h]; exact ⟨rfl, rfl, rfl, rfl, id⟩

/-- Whether the frame uses one of the frames of BUSBIT, no channel and no base changes. -/
theorem useBit_same (P : Prop) [Decidable P] (s : State) :
    (if P then useBit s else s).mbus = s.mbus ∧
      ∀ age, stampAgo 2 age (if P then useBit s else s) = stampAgo 2 age s := by
  split
  · exact ⟨rfl, fun _ => rfl⟩
  · exact ⟨rfl, fun _ => rfl⟩

/-- What a channel does with the frame that it sends leaves its requests. -/
theorem takeTx_held (k : Fin 6) (age delay : Nat) (s : State) : ChHeld s.mbus.ch[k] (takeTx k age delay s).mbus.ch[k] := by
  unfold takeTx
  extract_lets c
  split
  · exact (falsified_kept k true true s).2.toChHeld
  · obtain ⟨hmbus, -⟩ := useBit_same (s.bitHit k ∧ (s.nextTx k c).isSome) s
    have hsent := sentTx_held k age delay c (if s.bitHit k ∧ (s.nextTx k c).isSome then useBit s else s)
    rw [hmbus] at hsent
    exact hsent

section
variable {k : Fin 6} {age delay : Nat} {s : State}

/-- A frame of a channel that no request waits for. -/
theorem doTxFrame_of_open (hw : (s.mbus.ch[k]).waits = false)
    (ho : (s.configured k.val && (s.atStart k age).sends) = true) : doTxFrame k age delay s = takeTx k age delay s := by
  rw [doTxFrame_eq, withFrame_of_not_waiting hw]
  · simp only [ho, Bool.not_true, Bool.false_eq_true, if_false]
  · simp only [ho, Bool.not_true, Bool.false_eq_true, if_false]
    exact takeTx_held k age delay s

/-- A channel that could not send at the frame's start sends nothing. -/
theorem doTxFrame_of_closed (hw : (s.mbus.ch[k]).waits = false)
    (ho : (s.configured k.val && (s.atStart k age).sends) = false) : doTxFrame k age delay s = s := by
  rw [doTxFrame_eq, withFrame_of_not_waiting hw]
  · simp only [ho, Bool.not_false, if_true]
  · simp only [ho, Bool.not_false, if_true]
    exact ⟨rfl, rfl, rfl, rfl, id⟩

/-- A frame that BUSBIT falsifies. -/
theorem takeTx_hit (h : (s.bitHit k && (s.nextTx k (s.atStart k age)).any (bitInside true (field s.pert.par[4] 8 13))) = true) :
    takeTx k age delay s = falsified k true true s :=
  if_pos (Bool.and_eq_true_iff.mp h)

/-- A frame that it does not. -/
theorem takeTx_miss (h : (s.bitHit k && (s.nextTx k (s.atStart k age)).any (bitInside true (field s.pert.par[4] 8 13))) = false) :
    takeTx k age delay s = sentTx k age delay (s.atStart k age)
      (if s.bitHit k ∧ (s.nextTx k (s.atStart k age)).isSome then useBit s else s) :=
  if_neg fun hc => Bool.false_ne_true (h.symm.trans (Bool.and_eq_true_iff.mpr hc))

end

/-- A frame of the channel that the perturbation falsifies is an error of the transmitter, and stays to be sent. -/
theorem falsified_tx (k : Fin 6) (s : State) :
    ((falsified k true true s).mbus.ch[k]).pend = (s.mbus.ch[k]).pend ∧
      ((falsified k true true s).mbus.ch[k]).txframes = (s.mbus.ch[k]).txframes ∧
      ((falsified k true true s).mbus.ch[k]).txerr = (s.mbus.ch[k]).txerr + 8 := by
  have hmbus : (pertHit 4 1 (useBit s)).mbus = s.mbus := (frame_pertHit 4 1 (useBit s)).mbus rfl
  unfold falsified
  generalize pertHit 4 1 (useBit s) = t at hmbus
  rw [if_pos rfl, (frame_tickFree _).mbus rfl, ← hmbus]
  obtain ⟨herr, hpend, hframes⟩ := busError_tx k (1 + t.freeVal.toNat % 6) t
  exact ⟨hpend, hframes, herr⟩

/-! ### A frame taken from a transmit queue -/

/-- After pops of a queue: every entry was read, and the memory stands. -/
structure Popped (q : Fin 128) (n : Nat) (s : State) (r : Bool × State) : Prop where
  ok : r.1 = true
  count : (r.2.que.q[q]).count = (s.que.q[q]).count - n
  bind : r.2.que.bind = s.que.bind
  mem : r.2.mem = s.mem
  mbus : r.2.mbus = s.mbus

/-- The pop of one entry of a frame. -/
def popNext (q : Nat) (r : Bool × State) : Bool × State :=
  match qPop 9 q r.2 with
  | (.unread, _, s) => (false, s)
  | (_, _, s) => (r.1, s)

/-- One more entry popped. -/
theorem Popped.next {q : Fin 128} {n : Nat} {s : State} {r : Bool × State} {c : QueueCfg} (h : Popped q n s r)
    (hbind : s.que.bind[q] = some c) (hid : c.consumer = 9) (hclean : s.mem.clean) (hn : n < (s.que.q[q]).count) :
    Popped q (n + 1) s (popNext q.val r) := by
  have hcount : 0 < (r.2.que.q[q]).count := by
    rw [h.count]
    omega
  have hbind' : r.2.que.bind[q] = some c := by rw [h.bind, hbind]
  have hclean' : r.2.mem.clean := by
    rw [h.mem]
    exact hclean
  obtain ⟨t, hpop, hq, hb, hm, hbus⟩ := qPop_spec hbind' hcount hclean'
  rw [hid] at hpop
  have heq : popNext q.val r = (r.1, t) := by rw [popNext, hpop]
  rw [heq]
  refine ⟨h.ok, ?_, hb.trans h.bind, hm.trans h.mem, hbus.trans h.mbus⟩
  rw [hq]
  show (r.2.que.q[q]).count - 1 = _
  rw [h.count]
  omega

/-- Every entry of a frame that stands whole in its queue is popped. -/
theorem popped_all {q : Fin 128} {s : State} {c : QueueCfg} (hbind : s.que.bind[q] = some c) (hid : c.consumer = 9)
    (hclean : s.mem.clean) (n : Nat) (hn : n ≤ (s.que.q[q]).count) :
    Popped q n s ((List.range n).foldl (fun r _ => popNext q.val r) (true, s)) := by
  induction n with
  | zero => exact ⟨rfl, rfl, rfl, rfl, rfl⟩
  | succ n ih =>
    rw [List.range_succ, List.foldl_append]
    exact (ih (Nat.le_of_succ_le hn)).next hbind hid hclean hn

/-- A frame has an entry at least. -/
theorem entryCount_pos (n : Nat) : 0 < entryCount n := by
  unfold entryCount
  split
  · decide
  · split <;> decide

/-- A refused frame is counted and reported. -/
def refuseTx (k : Fin 6) (e : List Byte) (s : State) : State :=
  let s := setIrq .mbus 3 (bumpCh k 0x18 16 (fun c => { c with txref := satInc c.txref }) s)
  limited (0x600000 + k.val)
    (logEv 0x9007 3 (locCtl k.val) (pack64 [(0, leAt e 0 4 % 2 ^ 29), (32, leAt e 4 1)])) s

/-- Its channel counts it, and the queues stand. -/
theorem refuseTx_spec (k : Fin 6) (e : List Byte) (s : State) :
    (refuseTx k e s).mbus.ch[k] = { s.mbus.ch[k] with txref := satInc (s.mbus.ch[k]).txref } ∧
      (refuseTx k e s).que = s.que := by
  have hbump := bumpCh_ch k 0x18 16 (fun c => { c with txref := satInc c.txref }) s
  have hque := (frame_bumpCh k 0x18 16 (fun c => { c with txref := satInc c.txref }) s).que rfl
  have hself := modCh_self k (fun c => { c with txref := satInc c.txref }) s
  rw [← hbump] at hself
  unfold refuseTx
  generalize bumpCh k 0x18 16 (fun c => { c with txref := satInc c.txref }) s = t at hself hque
  have hirq := frame_setIrq .mbus 3 t
  generalize setIrq .mbus 3 t = u at hirq
  have hlim : Frame 262420 u (limited (0x600000 + k.val)
      (logEv 0x9007 3 (locCtl k.val) (pack64 [(0, leAt e 0 4 % 2 ^ 29), (32, leAt e 4 1)])) u) :=
    frame_limited (M := 262420) _ _ u rfl (Frame.refl _ u) fun x h => (frame_logEv _ _ _ _ x).step rfl h
  rw [hlim.mbus rfl, hlim.que rfl, hirq.mbus rfl, hirq.que rfl]
  exact ⟨hself, hque⟩

/-- What the engine does with the frame whose entries it popped. -/
def txTaken (k : Fin 6) (bad : Bool) (es : List (List Byte)) (e : List Byte) (r : Bool × State) : State :=
  if bad then refuseTx k e r.2
  else if r.1 then modCh k (fun c => { c with pend := some ⟨entryFrame es, (leAt e 4 1).testBit 7⟩ }) r.2
  else r.2

/-- A refused frame is only counted, a legal one is pending. -/
theorem txTaken_spec {k : Fin 6} {q : Fin 128} {n : Nat} {s : State} {r : Bool × State} (bad : Bool) (es : List (List Byte))
    (e : List Byte) (h : Popped q n s r) (hpend : (s.mbus.ch[k]).pend = none) :
    ((txTaken k bad es e r).que.q[q]).count = (s.que.q[q]).count - n ∧
      (bad = true → ((txTaken k bad es e r).mbus.ch[k]).pend = none ∧
        ((txTaken k bad es e r).mbus.ch[k]).txref = satInc (s.mbus.ch[k]).txref) ∧
      (bad = false → ((txTaken k bad es e r).mbus.ch[k]).pend = some ⟨entryFrame es, (leAt e 4 1).testBit 7⟩) := by
  obtain ⟨hok, hcount, -, -, hmbus⟩ := h
  obtain ⟨hch, hque⟩ := refuseTx_spec k e r.2
  rw [hmbus] at hch
  cases bad with
  | true =>
    refine ⟨?_, fun _ => ?_, fun h => nomatch h⟩
    · rw [← hcount]
      exact congrArg (fun m : QueBlk => (m.q[q]).count) hque
    · exact ⟨(congrArg MbusChan.pend hch).trans hpend, congrArg MbusChan.txref hch⟩
  | false =>
    have heq : txTaken k false es e r =
        modCh k (fun c => { c with pend := some ⟨entryFrame es, (leAt e 4 1).testBit 7⟩ }) r.2 := if_pos hok
    rw [heq]
    exact ⟨hcount, fun h => absurd h Bool.false_ne_true, fun _ => congrArg MbusChan.pend (modCh_self k _ r.2)⟩

/-- The entries of the frame that a first entry begins. -/
def frameEntries (e : List Byte) : Nat :=
  entryCount (dataLen ((leAt e 4 1).testBit 4) ((leAt e 0 4).testBit 30) (leAt e 4 1 % 16))

/-- What the engine does with the queue that it takes its frames from. -/
def takeQueued (k : Fin 6) (q : Nat) (c : QueueCfg) (s : State) : State :=
  let e := s.qPeek c q 0
  let n := frameEntries e
  if !(s.canSend k && decide (q < 128) && (s.mbus.ch[k]).pend.isNone && (s.mbus.ch[k]).refTx == .none &&
      decide (0 < (s.q q).count) && decide (n ≤ (s.q q).count)) then s
  else txTaken k (txBad s k e) ((List.range n).map fun j => s.qPeek c q j) e
    ((List.range n).foldl (fun r _ => popNext q r) (true, s))

/-- It takes them once a request of the channel that waited has had its turn. -/
theorem doCanTxTake_eq (k : Fin 6) (s : State) : doCanTxTake k s =
    match (frameLook k s).qBind (chTxq ((frameLook k s).chRec k.val)) with
    | none => frameLook k s
    | some c => takeQueued k (chTxq ((frameLook k s).chRec k.val)) c (frameLook k s) := rfl

/-- A frame whose entries stand whole at the head of its channel's transmit queue is taken. -/
theorem doCanTxTake_takes {k : Fin 6} {q : Fin 128} {c : QueueCfg} {s : State} (hw : (s.mbus.ch[k]).waits = false)
    (hq : chTxq (s.chRec k.val) = q.val) (hbind : s.que.bind[q] = some c) (hsend : s.canSend k = true)
    (hpend : (s.mbus.ch[k]).pend = none) (href : (s.mbus.ch[k]).refTx = .none)
    (hn : frameEntries (s.qPeek c q.val 0) ≤ (s.que.q[q]).count) :
    doCanTxTake k s = txTaken k (txBad s k (s.qPeek c q.val 0))
      ((List.range (frameEntries (s.qPeek c q.val 0))).map fun j => s.qPeek c q.val j) (s.qPeek c q.val 0)
      ((List.range (frameEntries (s.qPeek c q.val 0))).foldl (fun r _ => popNext q.val r) (true, s)) := by
  have hlook : frameLook k s = s := by simp only [frameLook, hw, Bool.false_eq_true, if_false]
  have hbind' : s.qBind q.val = some c := by
    rw [State.qBind, getNat_fin]
    exact hbind
  have hpos : 0 < (s.que.q[q]).count := (entryCount_pos _).trans_le hn
  have href' : ((s.mbus.ch[k]).refTx == .none) = true := by
    rw [href]
    rfl
  have hgo : ¬(!(s.canSend k && decide (q.val < 128) && (s.mbus.ch[k]).pend.isNone && (s.mbus.ch[k]).refTx == .none &&
      decide (0 < (s.q q.val).count) && decide (frameEntries (s.qPeek c q.val 0) ≤ (s.q q.val).count))) = true := by
    simp only [que_fin, hpend, href', hsend, Option.isNone_none, decide_eq_true hpos, decide_eq_true hn,
      decide_eq_true q.isLt, Bool.and_self, Bool.not_true, Bool.false_eq_true, not_false_eq_true]
  rw [doCanTxTake_eq, hlook, hq, hbind']
  exact if_neg hgo

end Sys2Proof.Machine

/-! ### The statement -/

namespace Sys2Proof.Proofs

open Sys2Proof.Machine

/-- Settles O46: a received frame counts its channel, and no other channel moves; what the filters do leaves its requests,
so they end with the frame; the pops of a frame's entries fold one pop; a sent frame leaves its channel by the form that its
start finds first. -/
theorem busFrames : Obligations.BusFrames := by
  unfold Obligations.BusFrames
  refine ⟨?_, ?_, ?_, ?_⟩
  · intro k f age s hp hw open_
    have hclosed (ho : open_ = false) : doCanRxFrame k f age s = s := by
      rw [doCanRxFrame_eq, withFrame_of_not_waiting hw]
      · exact if_pos (by rw [Bool.not_eq_true']; exact ho)
      · rw [if_pos (by rw [Bool.not_eq_true']; exact ho)]
        exact ⟨rfl, rfl, rfl, rfl, id⟩
    have hopen (ho : open_ = true) : doCanRxFrame k f age s = takeRx k f age s := by
      have hno : ¬(!(s.configured k.val && (s.atStart k age).up && s.carries k f)) = true := by
        rw [Bool.not_eq_true', Bool.not_eq_false]
        exact ho
      rw [doCanRxFrame_eq, withFrame_of_not_waiting hw]
      · exact if_neg hno
      · rw [if_neg hno]
        exact takeRx_held k f age s
    refine ⟨fun ho => ?_, fun ho hhit hin => ?_, fun ho hmiss => ?_⟩
    · exact (next_whenOn hp).trans (congrArg _ (hclosed ho))
    · have heq : takeRx k f age s = falsified k false (s.atStart k age).sends s := if_pos ⟨hhit, hin⟩
      have hframe := frame_falsified k false (s.atStart k age).sends s
      have hkept := falsified_kept k false (s.atStart k age).sends s
      obtain ⟨hframes, hhits⟩ := falsified_pert k false (s.atStart k age).sends s
      exact ⟨_, (next_whenOn hp).trans (congrArg _ ((hopen ho).trans heq)), hkept.2.rxframes, hframes, hhits, hframe.que rfl,
        hframe.hurdle rfl, hframe.mem rfl⟩
    · obtain ⟨t, heq, hother, -, hrx, hrej, hcfg, hque, hhurdle, hmem⟩ := takeRx_counted (age := age) hmiss
      obtain ⟨fother, -, frx⟩ := filterFrame_received k f age t
      refine ⟨_, (next_whenOn hp).trans (congrArg _ ((hopen ho).trans heq)), frx.trans hrx,
        fun j hj => (fother j hj).trans (hother j hj), fun hnone => ?_⟩
      rw [← hcfg] at hnone
      rw [filterFrame_unmatched hnone]
      have hframe := frame_bumpCh k 0x1C 0 (fun c => { c with reject := satInc c.reject }) t
      refine ⟨?_, (hframe.que rfl).trans hque, (hframe.hurdle rfl).trans hhurdle, (hframe.mem rfl).trans hmem⟩
      rw [bumpCh_ch, modCh_self, ← hrej]
  · intro k f age delay tx special code c s hp hc hw
    rcases hc with rfl | rfl | rfl
    · refine ⟨_, next_whenOn hp, ?_⟩
      rw [doCanRxFrame_eq]
      refine withFrame_ends (fun t => ?_) hw
      split
      · exact ⟨rfl, rfl, rfl, rfl, id⟩
      · exact takeRx_held k f age t
    · refine ⟨_, next_whenOn hp, ?_⟩
      rw [doTxFrame_eq]
      refine withFrame_ends (fun t => ?_) hw
      split
      · exact ⟨rfl, rfl, rfl, rfl, id⟩
      · exact takeTx_held k age delay t
    · refine ⟨_, next_whenOn hp, withFrame_ends (fun t => ?_) hw⟩
      split
      · exact (busError_kept k tx special code.val t).2.toChHeld
      · exact ⟨rfl, rfl, rfl, rfl, id⟩
  · intro k q c s hp hw hq hbind hid hsend hpend href hflips hmarked hwrote e n hn
    have hclean : s.mem.clean := ⟨hflips, hmarked, hwrote⟩
    have hall := popped_all hbind hid hclean n hn
    refine ⟨_, (next_whenOn hp).trans (congrArg _ (doCanTxTake_takes hw hq hbind hsend hpend href hn)), ?_⟩
    exact txTaken_spec (txBad s k e) _ e hall hpend
  · intro k age delay s hp hw open_ hit
    have hhit (ho : open_ = true) (h : hit = true) : doTxFrame k age delay s = falsified k true true s :=
      (doTxFrame_of_open hw ho).trans (takeTx_hit h)
    have hmiss (ho : open_ = true) (h : hit = false) : doTxFrame k age delay s = _ :=
      (doTxFrame_of_open hw ho).trans (takeTx_miss h)
    obtain ⟨href, hpend⟩ := atStart_tx k age s
    obtain ⟨hsame, hstamp⟩ := useBit_same (s.bitHit k ∧ (s.nextTx k (s.atStart k age)).isSome) s
    refine ⟨fun ho => ?_, fun ho h => ?_, fun st ho h hr => ?_, fun p ho h hr hpd => ?_, fun ho h hr hpd => ?_,
      fun hr hpd => ?_⟩
    · exact (next_whenOn hp).trans (congrArg _ (doTxFrame_of_closed hw ho))
    · obtain ⟨hframes, hhits⟩ := falsified_pert k true true s
      obtain ⟨hpd, htx, herr⟩ := falsified_tx k s
      exact ⟨_, (next_whenOn hp).trans (congrArg _ (hhit ho h)), hframes, hhits, hpd, htx, herr⟩
    · refine ⟨_, (next_whenOn hp).trans (congrArg _ (hmiss ho h)), ?_⟩
      rw [sentTx_follow (href.trans hr), hsame]
      exact ⟨rfl, rfl, rfl⟩
    · refine ⟨_, (next_whenOn hp).trans (congrArg _ (hmiss ho h)), ?_⟩
      rw [sentTx_pend (hr.imp href.trans href.trans) (hpend.trans hpd), hsame]
      exact ⟨rfl, rfl, rfl⟩
    · refine ⟨_, (next_whenOn hp).trans (congrArg _ (hmiss ho h)), ?_⟩
      rw [sentTx_ref (href.trans hr) (hpend.trans hpd), hsame, hstamp]
      exact ⟨rfl, rfl⟩
    · cases ho : open_ with
      | false => exact (next_whenOn hp).trans (congrArg _ (doTxFrame_of_closed hw ho))
      | true =>
        have hnone : s.nextTx k (s.atStart k age) = none := by
          simp only [State.nextTx, href.trans hr, hpend.trans hpd]
        have hno : hit = false := by
          simp only [hit, hnone, Option.any_none, Bool.and_false]
        have hsent : doTxFrame k age delay s = s := by
          rw [hmiss ho hno, sentTx_none (href.trans hr) (hpend.trans hpd), hnone]
          exact if_neg fun hc => Bool.false_ne_true hc.2
        exact (next_whenOn hp).trans (congrArg _ hsent)

end Sys2Proof.Proofs
end

section
/-! SUPPORT. The reference timer, the lost reference and the mapping timeout of the message buses (R410 to R412), bus-off and
its end (R395), and the statement of 15_can.md about timers and errors. -/

namespace Sys2Proof.Machine

/-! ### A reference is queued -/

/-- A reference of a channel is due at this commit. -/
def State.refIsDue (s : State) (k : Fin 6) : Bool :=
  chRole (s.chRec k.val) == 2 && decide (s.tick.count.toNat % s.refTicks k.val = 0) &&
    (s.tick.phase == .measure || s.tick.phase == .guard) && (s.mbus.ch[k]).refAt != some s.tick.executed

/-- It is queued. -/
def queueDue (k : Fin 6) (s : State) : State :=
  if s.refIsDue k then modCh k (fun c => { c.queueRef with refAt := some s.tick.executed }) s else s

/-- Every channel's turn comes once. -/
theorem doRefSend_eq (s : State) : doRefSend s = (List.finRange 6).foldl (fun s k => queueDue k s) s := rfl

/-- The other channels stand. -/
theorem queueDue_other {k j : Fin 6} (s : State) (h : j ≠ k) : (queueDue k s).mbus.ch[j] = s.mbus.ch[j] := by
  unfold queueDue
  split
  · exact modCh_other _ s h
  · rfl

/-- So does everything outside the bus block. -/
theorem queueDue_frame (k : Fin 6) (s : State) : (queueDue k s).cfg = s.cfg ∧ (queueDue k s).tick = s.tick := by
  unfold queueDue
  split <;> exact ⟨rfl, rfl⟩

/-- Whether a reference is due rests on the configuration, the tick and the channel. -/
theorem refIsDue_congr {s t : State} {k : Fin 6} (hcfg : t.cfg = s.cfg) (htick : t.tick = s.tick)
    (hch : t.mbus.ch[k] = s.mbus.ch[k]) : t.refIsDue k = s.refIsDue k := by
  rw [State.refIsDue, State.refIsDue, State.refTicks, State.refTicks, State.chRec, State.chRec, hcfg, htick, hch]

/-- A channel whose reference is due queues it once. -/
theorem doRefSend_due {k : Fin 6} {s : State} (h : s.refIsDue k = true) :
    (doRefSend s).mbus.ch[k] = { (s.mbus.ch[k]).queueRef with refAt := some s.tick.executed } := by
  rw [doRefSend_eq]
  refine foldl_establishes (P := fun t : State => t.mbus.ch[k] = { (s.mbus.ch[k]).queueRef with refAt := some s.tick.executed })
    (Q := fun t : State => t.cfg = s.cfg ∧ t.tick = s.tick ∧ t.mbus.ch[k] = s.mbus.ch[k]) (List.mem_finRange k)
    (List.nodup_finRange 6) ?_ ?_ ?_ ⟨rfl, rfl, rfl⟩
  · rintro t ⟨hcfg, htick, hch⟩
    have heq : queueDue k t = modCh k (fun c => { c.queueRef with refAt := some t.tick.executed }) t :=
      if_pos ((refIsDue_congr hcfg htick hch).trans h)
    rw [heq, modCh_self, hch, htick]
  · rintro t j - hj ⟨hcfg, htick, hch⟩
    obtain ⟨hcfg', htick'⟩ := queueDue_frame j t
    exact ⟨hcfg'.trans hcfg, htick'.trans htick, (queueDue_other t (Ne.symm hj)).trans hch⟩
  · intro t j _ hj ht
    exact (queueDue_other t (Ne.symm hj)).trans ht

/-- A channel that is no master queues none. -/
theorem doRefSend_other {k : Fin 6} {s : State} (h : chRole (s.chRec k.val) ≠ 2) :
    (doRefSend s).mbus.ch[k] = s.mbus.ch[k] := by
  rw [doRefSend_eq]
  refine (foldl_invariant (P := fun t : State => t.cfg = s.cfg ∧ t.mbus.ch[k] = s.mbus.ch[k]) ?_ ⟨rfl, rfl⟩).2
  rintro t j - ⟨hcfg, hch⟩
  refine ⟨(queueDue_frame j t).1.trans hcfg, ?_⟩
  by_cases hj : k = j
  · have hrole : chRole (t.chRec k.val) ≠ 2 := by
      rw [State.chRec, hcfg]
      exact h
    have hno : ¬t.refIsDue k = true := by
      simp only [State.refIsDue, beq_eq_false_iff_ne.mpr hrole, Bool.false_and, Bool.false_eq_true, not_false_eq_true]
    rw [← hj]
    have heq : queueDue k t = t := if_neg hno
    rw [heq, hch]
  · exact (queueDue_other t hj).trans hch

/-- A reference stands behind a follow-up that still waits. -/
theorem queueRef_spec (c : MbusChan) :
    (∀ st, c.refTx = .follow st → c.queueRef.refTx = .follow st ∧ c.queueRef.refDue = true) ∧
      ((∀ st, c.refTx ≠ .follow st) → c.queueRef.refTx = .ref) := by
  unfold MbusChan.queueRef
  split
  case h_1 st h => exact ⟨fun _ hs => ⟨hs, rfl⟩, fun hno => absurd h (hno st)⟩
  case h_2 h => exact ⟨fun st hs => absurd hs (h st), fun _ => rfl⟩

/-! ### A reference is lost -/

/-- A slave without a pair for four periods loses its lock. -/
def loseRef (k : Fin 6) (s : State) : State :=
  let s := setSlew 2 false (modCh k (fun c => { c with inRange := 0 })
    { s with mbus := { s.mbus with tb2lock := false } })
  setOos 2 true 4 (setIrq .mbus 5 (logEv 0x9009 4 (locCtl k.val) (pack64 [(0, k.val)]) s))

/-- What the reference timer does with one channel. -/
def loseOne (k : Fin 6) (s : State) : State :=
  match s.mbus.ch[k].pairAt with
  | some t =>
    if chRole (s.chRec k.val) = 1 ∧ s.mbus.tb2lock ∧ 4 * s.refTicks k.val < s.tick.executed - t then loseRef k s else s
  | none => s

/-- Every channel's turn comes once. -/
theorem doRefLost_eq (s : State) : doRefLost s = (List.finRange 6).foldl (fun s k => loseOne k s) s := rfl

/-- TB2 has lost its reference: it is out of service, and the other bases stand. -/
structure RefLost (s t : State) : Prop where
  unlocked : t.mbus.tb2lock = false
  oos : (t.time.tb[2]).oos = true
  others : ∀ n : Fin 4, n ≠ 2 → t.time.tb[n] = s.time.tb[n]
  irq : bit (t.head .mbus).irq 5 = true

/-- The service mark of a base leaves the lock of TB2. -/
theorem setOos_tb2lock (n : Fin 4) (v : Bool) (cause : Nat) (s : State) :
    (setOos n v cause s).mbus.tb2lock = s.mbus.tb2lock := by
  unfold setOos
  split
  · rfl
  · extract_lets t fab u mbus v'
    have hu : u.mbus = s.mbus := by
      subst u
      split <;> rfl
    have hv : v'.mbus.tb2lock = u.mbus.tb2lock := by
      subst v'
      split <;> rfl
    clear_value v'
    rw [(frame_setIrq _ _ _).mbus rfl, (frame_logEv _ _ _ _ v').mbus rfl, hv, hu]

/-- The slew mark of a base leaves the other bases. -/
theorem setSlew_other {n m : Fin 4} (lim : Bool) (s : State) (h : m ≠ n) :
    (setSlew n lim s).time.tb[m] = s.time.tb[m] := by
  unfold setSlew
  split
  · rfl
  · have hlog := (frame_logEv 0x7006 3 locTime (pack64 [(0, n.val), (2, b01 lim)])
      (modTb n (fun b => { b with slew := lim }) s)).time rfl
    exact (congrArg (fun t : TimeBlk => t.tb[m]) hlog).trans (upd_other s.time.tb _ h)

/-- A lost reference. -/
theorem loseRef_spec (k : Fin 6) (s : State) : RefLost s (loseRef k s) := by
  unfold loseRef
  extract_lets mbus t
  have ht : t.mbus.tb2lock = false ∧ ∀ n : Fin 4, n ≠ 2 → t.time.tb[n] = s.time.tb[n] := by
    refine ⟨congrArg MbusBlk.tb2lock ((frame_setSlew 2 false _).mbus rfl), fun n hn => ?_⟩
    exact setSlew_other false _ hn
  clear_value t
  have hlog := frame_logEv 0x9009 4 (locCtl k.val) (pack64 [(0, k.val)]) t
  generalize logEv 0x9009 4 (locCtl k.val) (pack64 [(0, k.val)]) t = u at hlog
  have hframe := (frame_setIrq .mbus 5 u).step (m := 262416) rfl hlog
  have hirq : bit ((setIrq .mbus 5 u).head .mbus).irq 5 = true := bit_setIrq u (by decide)
  generalize setIrq .mbus 5 u = v at hframe hirq
  obtain ⟨⟨hother, -, -, -⟩, hoos, -, hgrow⟩ := setOos_spec 2 true 4 v
  refine ⟨?_, hoos, fun n hn => ?_, hgrow.irq .mbus 5 hirq⟩
  · rw [setOos_tb2lock, hframe.mbus rfl]
    exact ht.1
  · rw [hother n hn, hframe.time rfl]
    exact ht.2 n hn

/-- Without a lock there is none to lose. -/
theorem loseOne_of_unlocked {k : Fin 6} {s : State} (h : s.mbus.tb2lock = false) : loseOne k s = s := by
  unfold loseOne
  split
  · exact if_neg fun hc => Bool.false_ne_true (h.symm.trans hc.2.1)
  · rfl

/-- A channel's turn leaves the state as it is, or the reference is lost. -/
theorem loseOne_cases (k : Fin 6) (s : State) : loseOne k s = s ∨ RefLost s (loseOne k s) := by
  unfold loseOne
  split
  · split
    · exact .inr (loseRef_spec k s)
    · exact .inl rfl
  · exact .inl rfl

/-- A slave whose last pair is more than four periods old loses the reference of TB2. -/
theorem doRefLost_lost {k : Fin 6} {at_ : Nat} {s : State} (hpair : (s.mbus.ch[k]).pairAt = some at_)
    (hrole : chRole (s.chRec k.val) = 1) (hlock : s.mbus.tb2lock = true)
    (hold : 4 * s.refTicks k.val < s.tick.executed - at_) : RefLost s (doRefLost s) := by
  have hkeeps (t : State) (j : Fin 6) (h : RefLost s t) : RefLost s (loseOne j t) := by
    rw [loseOne_of_unlocked h.unlocked]
    exact h
  rw [doRefLost_eq]
  refine foldl_establishes (P := RefLost s) (Q := fun t => t = s ∨ RefLost s t) (List.mem_finRange k)
    (List.nodup_finRange 6) ?_ ?_ (fun t j _ _ h => hkeeps t j h) (.inl rfl)
  · rintro t (rfl | ht)
    · have heq : loseOne k t = loseRef k t := by
        simp only [loseOne, hpair]
        exact if_pos ⟨hrole, hlock, hold⟩
      rw [heq]
      exact loseRef_spec k t
    · exact hkeeps t k ht
  · rintro t j - - (rfl | ht)
    · exact (loseOne_cases j t).imp_left id
    · exact .inr (hkeeps t j ht)

/-! ### A mapping runs out -/

/-- The record that mapped an output last rests on the configuration and the bus block. -/
theorem lastMap_congr {s t : State} (hcfg : t.cfg = s.cfg) (hmbus : t.mbus = s.mbus) (o : Nat) :
    t.lastMap o = s.lastMap o := by
  have hlead (i : Nat) : t.leadOut i = s.leadOut i := by rw [State.leadOut, State.leadOut, hcfg]
  have hmaps : t.mapsOf o = s.mapsOf o := by simp only [State.mapsOf, hcfg, hlead]
  rw [State.lastMap, State.lastMap, hmaps, hmbus, hcfg]

/-- A report that is limited, and that was not made before, is made. -/
theorem limited_fresh {key : Nat} {f : State → State} {s : State} (h : ∀ x ∈ s.reports, x.1 ≠ key) :
    ∃ t, limited key f s = f t ∧ Frame 4 s t := by
  have hfresh : ¬(s.reports.any fun x => x.1 == key &&
      (if s.tick.executed = 0 then x.2 == 0 else decide (x.2 ≠ 0 ∧ s.tick.executed - x.2 < 1000))) = true := by
    rw [List.any_eq_true]
    rintro ⟨x, hx, hkey⟩
    exact h x hx (beq_iff_eq.mp (Bool.and_eq_true_iff.mp hkey).1)
  exact ⟨_, if_neg hfresh, (frame_set_reports _ _).step rfl (Frame.refl _ s)⟩

/-- The report of an output whose mapped commands have run out. -/
def noteMapEnd (o : Fin 256) (s : State) : State :=
  setIrq .mbus 4 (logEv 0x9008 3 (locCtl (s.lastMap o.val).2) (pack64 [(0, o.val), (16, (s.lastMap o.val).1)]) s)

/-- It is an entry and an interrupt bit. -/
theorem frame_noteMapEnd (o : Fin 256) (s : State) : Frame 262416 s (noteMapEnd o s) :=
  (frame_setIrq _ _ _).step rfl ((frame_logEv _ _ _ _ s).mono rfl)

/-- An output whose mapped commands have all run out loses its source. -/
theorem doMapTimeout_ends {o : Fin 256} {s : State} (hlive : s.hurdle.mapLive[o] = true) (hexp : s.mapExpired o.val = true) :
    (doMapTimeout o s).hurdle.mapLive[o] = false ∧
      ((∀ x ∈ s.reports, x.1 ≠ 0x700000 + o.val) → bit ((doMapTimeout o s).head .mbus).irq 4 = true ∧
        (s.canLog = true → (doMapTimeout o s).hasEntry 0x9008 3 (locCtl (s.lastMap o.val).2)
          (pack64 [(0, o.val), (16, (s.lastMap o.val).1)]) = true)) ∧
      ∀ j : Fin 256, j ≠ o → (doMapTimeout o s).hurdle.mapLive[j] = s.hurdle.mapLive[j] := by
  have heq : doMapTimeout o s = limited (0x700000 + o.val) (noteMapEnd o) (setMapLive o.val false s) :=
    if_pos ⟨hlive, hexp⟩
  rw [heq]
  have hset := frame_setMapLive o.val false s
  have hself : (setMapLive o.val false s).hurdle.mapLive[o] = false := updNat_self s.hurdle.mapLive o _ rfl
  have hother (j : Fin 256) (hj : j ≠ o) : (setMapLive o.val false s).hurdle.mapLive[j] = s.hurdle.mapLive[j] :=
    updNat_other s.hurdle.mapLive j _ fun h => hj (Fin.ext h.symm)
  generalize setMapLive o.val false s = u at hset hself hother
  have hlim : Frame 262420 u (limited (0x700000 + o.val) (noteMapEnd o) u) :=
    frame_limited (M := 262420) _ _ u rfl (Frame.refl _ u) fun x h => (frame_noteMapEnd o x).step rfl h
  have hhurdle := hlim.hurdle rfl
  refine ⟨?_, fun hfree => ?_, fun j hj => ?_⟩
  · rw [hhurdle]
    exact hself
  · rw [← hset.reports rfl] at hfree
    obtain ⟨v, heq, hv⟩ := limited_fresh (f := noteMapEnd o) hfree
    have hcfg := (hv.cfg rfl).trans (hset.cfg rfl)
    have hmbus := (hv.mbus rfl).trans (hset.mbus rfl)
    have htally := (hv.tally rfl).trans (hset.tally rfl)
    rw [heq]
    rw [noteMapEnd, lastMap_congr hcfg hmbus]
    refine ⟨bit_setIrq _ (by decide), fun hlog => ?_⟩
    rw [hasEntry_congr ((frame_setIrq _ _ _).tally rfl)]
    exact hasEntry_logEv ((canLog_congr htally).trans hlog) (by decide) (by decide)
  · rw [hhurdle]
    exact hother j hj

/-! ### Errors and bus-off -/

/-- The counters of a channel after an error on its bus. -/
theorem busError_counts (k : Fin 6) (tx special : Bool) (code : Nat) (s : State) :
    ((busError k tx special code s).mbus.ch[k]).lec = code ∧
      ((busError k tx special code s).mbus.ch[k]).txerr =
        (if tx && !special then (s.mbus.ch[k]).txerr + 8 else (s.mbus.ch[k]).txerr) ∧
      ((busError k tx special code s).mbus.ch[k]).rxerr =
        (if tx then (s.mbus.ch[k]).rxerr else min 255 ((s.mbus.ch[k]).rxerr + if special then 8 else 1)) ∧
      (255 < ((busError k tx special code s).mbus.ch[k]).txerr → ((busError k tx special code s).mbus.ch[k]).busoff = true) := by
  unfold busError
  extract_lets was t
  have ht : t.mbus.ch[k] = { s.mbus.ch[k] with
      lec := code, txdto := false
      txerr := if tx && !special then (s.mbus.ch[k]).txerr + 8 else (s.mbus.ch[k]).txerr
      rxerr := if tx then (s.mbus.ch[k]).rxerr else min 255 ((s.mbus.ch[k]).rxerr + if special then 8 else 1) } :=
    modCh_self k _ s
  clear_value t
  rw [← (frame_notePassive k was t).mbus rfl] at ht
  generalize notePassive k was t = u at ht
  rw [noteBusOff_ch, ht]
  by_cases hoff : 255 < (if (tx && !special) = true then (s.mbus.ch[k]).txerr + 8 else (s.mbus.ch[k]).txerr)
  · rw [if_pos hoff]
    exact ⟨rfl, rfl, rfl, fun _ => rfl⟩
  · rw [if_neg hoff]
    exact ⟨rfl, rfl, rfl, fun h => absurd h hoff⟩

/-- A channel in bus-off sends nothing. -/
theorem canSend_of_busoff {k : Fin 6} {s : State} (h : (s.mbus.ch[k]).busoff = true) : s.canSend k = false := by
  simp only [State.canSend, MbusChan.sends, MbusChan.up, h, Bool.not_true, Bool.and_false, Bool.false_and]

/-- A channel that returns from bus-off. -/
theorem doBusOn_ch {k : Fin 6} {s : State} (h : (s.mbus.ch[k]).busoff = true) : (doBusOn k s).mbus.ch[k] =
    { s.mbus.ch[k] with
      busoff := false, txerr := 0, rxerr := 0, recov := 128, inInit := (s.mbus.ch[k]).initReq } := by
  have heq : doBusOn k s = logEv 0x9002 2 (locCtl k.val) 0
      (modCh k (fun c => { c with
        busoff := false, txerr := 0, rxerr := 0, recov := 128, inInit := (s.mbus.ch[k]).initReq }) s) := if_pos h
  rw [heq, (frame_logEv _ _ _ _ _).mbus rfl, modCh_self]

end Sys2Proof.Machine

/-! ### The statement -/

namespace Sys2Proof.Proofs

open Sys2Proof.Machine

/-- Settles O47: the reference timer and the lost reference fold over the channels, each in its own turn; an error counts in
the one channel, and bus-off follows its transmit counter. -/
theorem busTimersAndErrors : Obligations.BusTimersAndErrors := by
  unfold Obligations.BusTimersAndErrors
  refine ⟨fun s hp => ⟨⟨_, next_whenOn hp, ?_, ?_, (frame_doRefSend s).eq_patch⟩, ?_, ?_⟩, fun k s hp => ⟨?_, ?_, ?_, ?_⟩⟩
  · intro k hrole hcount hphase hnew
    have hdue : s.refIsDue k = true := by
      have hph : (s.tick.phase == .measure || s.tick.phase == .guard) = true := by
        rcases hphase with h | h
        · rw [h]; rfl
        · rw [h]; rfl
      simp only [State.refIsDue, hrole, hcount, hph, beq_self_eq_true, decide_true, Bool.and_self, Bool.true_and, bne_iff_ne,
        ne_eq, hnew, not_false_eq_true]
    rw [doRefSend_due hdue]
    exact ⟨rfl, queueRef_spec (s.mbus.ch[k])⟩
  · exact fun k hrole => doRefSend_other hrole
  · intro k at_ hpair hrole hlock hold
    obtain ⟨hunlocked, hoos, hothers, hirq⟩ := doRefLost_lost hpair hrole hlock hold
    exact ⟨_, next_whenOn hp, hunlocked, hoos, hothers, hirq⟩
  · exact fun o hlive hexp => ⟨_, next_whenOn hp, doMapTimeout_ends hlive hexp⟩
  · intro tx special code age hw
    refine ⟨fun ho hc => ?_, fun hno => ?_⟩
    · have hgo : (s.configured k.val && (s.atStart k age).sends && code != 0) = true := by
        rw [ho, Bool.true_and]
        exact bne_iff_ne.mpr hc
      have heq : doCanBusError k tx special code age s = busError k tx special code.val s := by
        refine (withFrame_of_not_waiting hw ?_).trans (if_pos hgo)
        rw [if_pos hgo]
        exact (busError_kept k tx special code.val s).2.toChHeld
      obtain ⟨hlec, htx, hrx, hoff⟩ := busError_counts k tx special code.val s
      exact ⟨_, (next_whenOn hp).trans (congrArg _ heq), hlec, htx, hrx,
        fun h => ⟨hoff h, canSend_of_busoff (hoff h)⟩, (busError_kept k tx special code.val s).1⟩
    · have hstop : ¬(s.configured k.val && (s.atStart k age).sends && code != 0) = true := by
        rw [Bool.not_eq_true, Bool.and_eq_false_iff]
        exact hno.imp id fun h => by rw [h]; rfl
      have heq : doCanBusError k tx special code age s = s := by
        refine (withFrame_of_not_waiting hw ?_).trans (if_neg hstop)
        rw [if_neg hstop]
        exact ⟨rfl, rfl, rfl, rfl, id⟩
      exact (next_whenOn hp).trans (congrArg _ heq)
  · intro hoff
    refine ⟨_, next_whenOn hp, ?_⟩
    rw [doBusOn_ch hoff]
    exact ⟨rfl, rfl, rfl, rfl⟩
  · exact fun h => (next_whenOn hp).trans (congrArg _ (if_pos h))
  · exact fun h => (next_whenOn hp).trans (congrArg _ (if_neg h))

end Sys2Proof.Proofs
end

section
/-! SUPPORT. The registers of a channel of the message buses (R396, R414), the wake-up pattern and the address decoder (R417
to R419), and the statement of 15_can.md about control and wake. -/

namespace Sys2Proof.Machine

/-! ### Requests of a channel -/

/-- One step after another, for a relation that composes. -/
theorem OnChannel.comp {P : MbusChan → MbusChan → Prop} (hP : ∀ c d e, P c d → P d e → P c e) {k : Fin 6} {s t u : State}
    (h : OnChannel P k s t) (g : OnChannel P k t u) : OnChannel P k s u :=
  ⟨fun j hj => (g.1 j hj).trans (h.1 j hj), hP _ _ _ h.2 g.2⟩

/-- A step that does not touch the buses, for a relation that holds of a channel and itself. -/
theorem OnChannel.same {P : MbusChan → MbusChan → Prop} (hP : ∀ c, P c c) {k : Fin 6} {s t : State} (h : t.mbus = s.mbus) :
    OnChannel P k s t := by
  rw [OnChannel, h]
  exact ⟨fun _ _ => rfl, hP _⟩

/-- What firmware asked of a channel stands, and whether it is in bus-off. -/
def ChAsked (c d : MbusChan) : Prop := d.req = c.req ∧ d.initReq = c.initReq ∧ d.busoff = c.busoff

/-- Nothing happens. -/
theorem ChAsked.refl (c : MbusChan) : ChAsked c c := ⟨rfl, rfl, rfl⟩

/-- One after another. -/
theorem ChAsked.trans (c d e : MbusChan) (h : ChAsked c d) (g : ChAsked d e) : ChAsked c e :=
  ⟨g.1.trans h.1, g.2.1.trans h.2.1, g.2.2.trans h.2.2⟩

/-- The channel of a controller that rejoins. -/
theorem rejoin_ch (k : Fin 6) (s : State) : (rejoin k s).mbus.ch[k] = { s.mbus.ch[k] with txerr := 0, rxerr := 0 } := by
  rw [rejoin, (frame_notePassive _ _ _).mbus rfl, modCh_self]

/-- A controller that rejoins. -/
theorem rejoin_asked (k : Fin 6) (s : State) : OnChannel ChAsked k s (rejoin k s) :=
  OnChannel.comp (t := modCh k (fun c => { c with txerr := 0, rxerr := 0 }) s) ChAsked.trans
    (onChannel_modCh k s fun _ => ⟨rfl, rfl, rfl⟩) (OnChannel.same ChAsked.refl ((frame_notePassive _ _ _).mbus rfl))

/-- A transceiver takes a state. -/
theorem setTrx_asked (k : Fin 6) (v : Fin 4) (at_ : Nat) (s : State) : OnChannel ChAsked k s (setTrx k v at_ s) := by
  have hset : OnChannel ChAsked k s (modCh k (fun c => { c.mark at_ with trx := v, armed := false }) s) :=
    onChannel_modCh k s fun _ => ⟨rfl, rfl, rfl⟩
  unfold setTrx
  extract_lets c t
  have ht : OnChannel ChAsked k s t :=
    hset.comp ChAsked.trans (OnChannel.same ChAsked.refl ((frame_logEv _ _ _ _ _).mbus rfl))
  clear_value t
  split
  · exact OnChannel.same ChAsked.refl rfl
  · split
    · exact ht.comp ChAsked.trans (rejoin_asked k t)
    · exact ht

/-- The requests that waited take effect. -/
theorem endFrame_asked (k : Fin 6) (s : State) : OnChannel ChAsked k s (endFrame k s) := by
  unfold endFrame
  extract_lets c t u
  have ht : OnChannel ChAsked k s t := onChannel_modCh k s fun _ => ⟨rfl, rfl, rfl⟩
  clear_value t
  have hu : OnChannel ChAsked k s u := by
    subst u
    split
    · exact ht.comp ChAsked.trans (onChannel_modCh k t fun _ => ⟨rfl, rfl, rfl⟩)
    · exact ht
  clear_value u
  split
  · exact hu.comp ChAsked.trans (setTrx_asked k _ _ u)
  · exact hu

/-- A channel whose request waits is looked at: the frame in progress has ended, or the request waits on. -/
theorem frameLook_cases {k : Fin 6} {s : State} (h : (s.mbus.ch[k]).waits = true) :
    frameLook k s = endFrame k (tickFree s) ∨ frameLook k s = tickFree s := by
  rw [frameLook, if_pos h]
  split
  · exact .inl rfl
  · exact .inr rfl

/-- A channel without a request that waits is not. -/
theorem frameLook_of_not_waiting {k : Fin 6} {s : State} (h : (s.mbus.ch[k]).waits = false) : frameLook k s = s := by
  simp only [frameLook, h, Bool.false_eq_true, if_false]

/-- What firmware asked stands in either case. -/
theorem frameLook_asked (k : Fin 6) (s : State) : OnChannel ChAsked k s (frameLook k s) := by
  cases hw : (s.mbus.ch[k]).waits with
  | false => exact OnChannel.same ChAsked.refl (congrArg State.mbus (frameLook_of_not_waiting hw))
  | true =>
    have hfree : OnChannel ChAsked k s (tickFree s) := OnChannel.same ChAsked.refl ((frame_tickFree s).mbus rfl)
    rcases frameLook_cases hw with heq | heq
    · rw [heq]
      exact hfree.comp ChAsked.trans (endFrame_asked k _)
    · rw [heq]
      exact hfree

/-- INIT written 1. -/
theorem chInit_set (k : Fin 6) (s : State) :
    ((chInit k true s).mbus.ch[k]).initReq = true ∧
      ((s.mbus.ch[k]).busoff = false → ((chInit k true s).mbus.ch[k]).inInit = true ∨
        ((chInit k true s).mbus.ch[k]).initWait = true) ∧
      ((s.mbus.ch[k]).busoff = false → (s.mbus.ch[k]).up = false → ((chInit k true s).mbus.ch[k]).inInit = true) ∧
      ∀ j : Fin 6, j ≠ k → (chInit k true s).mbus.ch[j] = s.mbus.ch[j] := by
  by_cases hup : ((s.mbus.ch[k]).up && s.configured k.val) = true
  · have heq : chInit k true s = frameLook k
        (modCh k (fun c => { c.request s.tb0 with initReq := true, initWait := true }) s) := if_pos hup
    rw [heq]
    have hself := modCh_self k (fun c => { c.request s.tb0 with initReq := true, initWait := true }) s
    have hother (j : Fin 6) (hj : j ≠ k) := modCh_other (fun c => { c.request s.tb0 with initReq := true, initWait := true }) s hj
    generalize modCh k (fun c => { c.request s.tb0 with initReq := true, initWait := true }) s = t at hself hother
    have hreq : (t.mbus.ch[k]).initReq = true := by rw [hself]
    have hwait : (t.mbus.ch[k]).initWait = true := by rw [hself]
    have hwaits : (t.mbus.ch[k]).waits = true := by rw [MbusChan.waits, hwait, Bool.true_or]
    obtain ⟨lother, -, linit, -⟩ := frameLook_asked k t
    refine ⟨linit.trans hreq, fun hoff => ?_, fun _ hdown => ?_, fun j hj => (lother j hj).trans (hother j hj)⟩
    · rcases frameLook_cases hwaits with hlook | hlook
      · rw [hlook]
        obtain ⟨-, hin, -⟩ := endFrame_spec k (tickFree t)
        obtain ⟨-, -, -, hbus⟩ := endFrame_asked k (tickFree t)
        refine .inl (hin hwait (hbus.trans ?_))
        have hbus' : (t.mbus.ch[k]).busoff = (s.mbus.ch[k]).busoff := by
          rw [hself]
          rfl
        exact hbus'.trans hoff
      · rw [hlook]
        exact .inr hwait
    · rw [hdown] at hup
      exact nomatch hup
  · have heq : chInit k true s =
        modCh k (fun c => { c.mark s.tb0 with initReq := true, inInit := !(s.mbus.ch[k]).busoff || (s.mbus.ch[k]).inInit }) s :=
      if_neg hup
    rw [heq]
    have hself := modCh_self k
      (fun c => { c.mark s.tb0 with initReq := true, inInit := !(s.mbus.ch[k]).busoff || (s.mbus.ch[k]).inInit }) s
    have hin (hoff : (s.mbus.ch[k]).busoff = false) : (!(s.mbus.ch[k]).busoff || (s.mbus.ch[k]).inInit) = true := by
      rw [hoff]
      rfl
    rw [hself]
    exact ⟨rfl, fun hoff => .inl (hin hoff), fun hoff _ => hin hoff, fun j hj => modCh_other _ s hj⟩

/-- INIT written 0 on a configured channel in initialisation that firmware put there. -/
theorem chInit_clear {k : Fin 6} {s : State} (hconf : s.configured k.val = true) (hin : (s.mbus.ch[k]).inInit = true)
    (hreq : (s.mbus.ch[k]).initReq = true) :
    (chInit k false s).mbus.ch[k] =
        { (s.mbus.ch[k]).mark s.tb0 with initReq := false, inInit := false, txerr := 0, rxerr := 0 } ∧
      ∀ j : Fin 6, j ≠ k → (chInit k false s).mbus.ch[j] = s.mbus.ch[j] := by
  have heq : chInit k false s =
      rejoin k (modCh k (fun c => { c.mark s.tb0 with initReq := false, inInit := false }) s) := by
    have hgo : s.configured k.val = true ∧ (s.mbus.ch[k]).inInit = true ∧
        ((s.mbus.ch[k]).initReq = true ∨ s.mbus.started = true) := ⟨hconf, hin, .inl hreq⟩
    exact if_pos hgo
  rw [heq, rejoin_ch, modCh_self]
  exact ⟨rfl, fun j hj => ((rejoin_asked k _).1 j hj).trans (modCh_other _ s hj)⟩

/-- REQ written. -/
theorem reqTrx_spec (k : Fin 6) (v : Fin 4) (s : State) :
    ((reqTrx k v s).mbus.ch[k]).req = (s.mbus.ch[k]).req ∧
      (((reqTrx k v s).mbus.ch[k]).trx = v ∨ ((reqTrx k v s).mbus.ch[k]).trxWait = some v) ∧
      ((s.mbus.ch[k]).up = false → ((reqTrx k v s).mbus.ch[k]).trx = v) ∧
      ∀ j : Fin 6, j ≠ k → (reqTrx k v s).mbus.ch[j] = s.mbus.ch[j] := by
  by_cases hup : ((s.mbus.ch[k]).up && s.configured k.val && (s.mbus.ch[k]).trx != v) = true
  · have heq : reqTrx k v s = frameLook k (modCh k (fun c => { c.request s.tb0 with trxWait := some v }) s) := if_pos hup
    rw [heq]
    have hself := modCh_self k (fun c => { c.request s.tb0 with trxWait := some v }) s
    have hother (j : Fin 6) (hj : j ≠ k) := modCh_other (fun c => { c.request s.tb0 with trxWait := some v }) s hj
    generalize modCh k (fun c => { c.request s.tb0 with trxWait := some v }) s = t at hself hother
    have hreq : (t.mbus.ch[k]).req = (s.mbus.ch[k]).req := by
      rw [hself]
      rfl
    have hwait : (t.mbus.ch[k]).trxWait = some v := by rw [hself]
    have hwaits : (t.mbus.ch[k]).waits = true := by rw [MbusChan.waits, hwait, Option.isSome_some, Bool.or_true]
    obtain ⟨lother, lreq, -⟩ := frameLook_asked k t
    refine ⟨lreq.trans hreq, ?_, fun hdown => ?_, fun j hj => (lother j hj).trans (hother j hj)⟩
    · rcases frameLook_cases hwaits with hlook | hlook
      · rw [hlook]
        obtain ⟨-, -, htrx⟩ := endFrame_spec k (tickFree t)
        exact .inl (htrx v hwait)
      · rw [hlook]
        exact .inr hwait
    · rw [hdown] at hup
      exact nomatch hup
  · have heq : reqTrx k v s = setTrx k v s.tb0 (modCh k (fun c => { c with trxWait := none }) s) := if_neg hup
    rw [heq]
    have hself := modCh_self k (fun c => { c with trxWait := none }) s
    have hother (j : Fin 6) (hj : j ≠ k) := modCh_other (fun c => { c with trxWait := none }) s hj
    generalize modCh k (fun c => { c with trxWait := none }) s = t at hself hother
    have hreq : (t.mbus.ch[k]).req = (s.mbus.ch[k]).req := by rw [hself]
    obtain ⟨htrx, -⟩ := setTrx_spec k v s.tb0 t
    obtain ⟨lother, lreq, -⟩ := setTrx_asked k v s.tb0 t
    exact ⟨lreq.trans hreq, .inl htrx, fun _ => htrx, fun j hj => (lother j hj).trans (hother j hj)⟩

/-- A legal request of a transceiver state by the shepherd core. -/
theorem trxReq_taken {k : Fin 6} {v : Fin 4} {rq : Requester} {s : State} (hrq : rq.isShepherd = true)
    (hlegal : s.configured k.val = true ∨ v = 2) :
    doTrxReq rq k v s = reqTrx k v (modCh k (fun c => { c with req := v }) s) := by
  have hbad : decide ((!s.configured k.val) = true ∧ v ≠ 2) = false := by
    rw [decide_eq_false_iff_not, Bool.not_eq_true']
    rintro ⟨h, hv⟩
    rcases hlegal with hc | hc
    · exact Bool.false_ne_true (h.symm.trans hc)
    · exact hv hc
  rw [doTrxReq, mbusWriter, hrq, hbad]
  exact wrIf_ok

/-! ### Wake-up -/

/-- A note of a register's change leaves the interrupt and error bits of every block. -/
theorem modNote_head_bits (b c : Block) (f : CycNote → CycNote) (s : State) :
    ((modNote b f s).head c).irq = (s.head c).irq ∧ ((modNote b f s).head c).err = (s.head c).err ∧
      ((modNote b f s).head c).en = (s.head c).en := by
  by_cases h : b = c
  · subst h
    rw [modNote_head]
    exact ⟨rfl, rfl, rfl⟩
  · rw [modNote_head_other _ _ _ _ h]
    exact ⟨rfl, rfl, rfl⟩

/-- What a wake-up pattern does at a channel whose transceiver waits for one. -/
def wakeLatch (k : Fin 6) (s : State) : State :=
  whenOn (fun s => setIrq .mbus 6 (logEv 0x900E 3 (locTrx k.val) (pack64 [(0, k.val), (4, 1)]) s))
    (hwBit .mbus (chOff k.val 0xC) 0x100 (modCh k (fun c => { c with wake := true }) s))

/-- It latches the wake. -/
theorem wakeLatch_wake (k : Fin 6) (s : State) : ((wakeLatch k s).mbus.ch[k]).wake = true := by
  have hself := modCh_self k (fun c => { c with wake := true }) s
  unfold wakeLatch
  generalize modCh k (fun c => { c with wake := true }) s = t at hself
  have hwake : (t.mbus.ch[k]).wake = true := by rw [hself]
  rw [← (frame_hwBit .mbus (chOff k.val 0xC) 0x100 t).mbus rfl] at hwake
  generalize hwBit .mbus (chOff k.val 0xC) 0x100 t = u at hwake
  have hon : (whenOn (fun s => setIrq .mbus 6 (logEv 0x900E 3 (locTrx k.val) (pack64 [(0, k.val), (4, 1)]) s)) u).mbus =
      u.mbus :=
    (frame_whenOn (m := 262416) _ u (Frame.refl _ u) fun x h =>
      (frame_setIrq _ _ _).step rfl ((frame_logEv _ _ _ _ x).step rfl h)).mbus rfl
  rw [← hon] at hwake
  exact hwake

/-- In REST that is all. -/
theorem wakeLatch_rest {k : Fin 6} {s : State} (h : s.pwr.mode = .rest) :
    wakeLatch k s = { s with mbus := (wakeLatch k s).mbus, heads := (wakeLatch k s).heads } ∧
      ∀ b : Block, ((wakeLatch k s).head b).irq = (s.head b).irq ∧ ((wakeLatch k s).head b).err = (s.head b).err ∧
        ((wakeLatch k s).head b).en = (s.head b).en := by
  have heq : wakeLatch k s = hwBit .mbus (chOff k.val 0xC) 0x100 (modCh k (fun c => { c with wake := true }) s) :=
    whenOn_rest _ _ h
  rw [heq]
  exact ⟨rfl, fun b => modNote_head_bits .mbus b _ _⟩

/-- A wake-up pattern at a channel whose transceiver sleeps. -/
theorem doWakePattern_eq {k : Fin 6} {s : State} (hmode : s.pwr.mode ≠ .off) (htrx : 2 ≤ (s.mbus.ch[k]).trx.val)
    (hrest : s.pwr.mode = .rest → 4 ≤ k.val) (hw : (s.mbus.ch[k]).waits = false) :
    doWakePattern k s = if chWakeMode (s.chRec k.val) = true ∧ 4 ≤ k.val then modCh k (fun c => { c with armed := true }) s
      else wakeLatch k s := by
  have hgo : ¬(s.pwr.mode = .off ∨ (s.pwr.mode = .rest ∧ k.val < 4)) := by
    rintro (h | ⟨h, hk⟩)
    · exact hmode h
    · exact absurd (hrest h) (Nat.not_le_of_lt hk)
  have hsleep : ¬(s.mbus.ch[k]).trx.val < 2 := Nat.not_lt_of_le htrx
  rw [doWakePattern, if_neg hgo, frameLook_of_not_waiting hw]
  exact if_neg hsleep

/-- One that does not wait for a pattern takes none. -/
theorem doWakePattern_awake {k : Fin 6} {s : State} (htrx : (s.mbus.ch[k]).trx.val < 2)
    (hw : (s.mbus.ch[k]).waits = false) : doWakePattern k s = s := by
  unfold doWakePattern
  split
  · rfl
  · rw [frameLook_of_not_waiting hw]
    exact if_pos htrx

/-- The decoder of a trunk that has matched an address, and its report. -/
def decodeWake (ct : Fin 2) (a : Byte) (m : Nat) (s : State) : State :=
  let s := modCh (trunk ct) (fun c => { c with decoded := true }) s
  let s := { s with mbus := { s.mbus with statCause := m, statCh := decide (ct.val = 1), statAddr := a } }
  whenOn (fun s => setIrq .mbus 6 (logEv 0x900E 3 (locTile 3 7)
    (pack64 [(0, (trunk ct).val), (4, if m = 1 then 2 else 3), (8, a.toNat)]) s)) s

/-- It latches the decode; the decoder stays as the train left it. -/
theorem decodeWake_spec (ct : Fin 2) (a : Byte) (m : Nat) (s : State) :
    ((decodeWake ct a m s).mbus.ch[trunk ct]).armed = (s.mbus.ch[trunk ct]).armed ∧
      ((decodeWake ct a m s).mbus.ch[trunk ct]).decoded = true ∧ (decodeWake ct a m s).mbus.statCause = m ∧
      (decodeWake ct a m s).mbus.statAddr = a := by
  unfold decodeWake
  extract_lets t mbus u
  have hself : u.mbus.ch[trunk ct] = { s.mbus.ch[trunk ct] with decoded := true } := modCh_self (trunk ct) _ s
  have hcause : u.mbus.statCause = m ∧ u.mbus.statAddr = a := ⟨rfl, rfl⟩
  clear_value u
  have hon : (whenOn (fun s => setIrq .mbus 6 (logEv 0x900E 3 (locTile 3 7)
      (pack64 [(0, (trunk ct).val), (4, if m = 1 then 2 else 3), (8, a.toNat)]) s)) u).mbus = u.mbus :=
    (frame_whenOn (m := 262416) _ u (Frame.refl _ u) fun x h =>
      (frame_setIrq _ _ _).step rfl ((frame_logEv _ _ _ _ x).step rfl h)).mbus rfl
  rw [hon, hself]
  exact ⟨rfl, rfl, hcause⟩

/-- A train at an armed decoder that is not discarded. -/
theorem doWakeAddress_spec {ct : Fin 2} {tr : Train} {a : Byte} {s : State} (hmode : s.pwr.mode ≠ .off)
    (harm : (s.mbus.ch[trunk ct]).armed = true) (haddr : trainAddr tr (s.freeVal.getLsbD 0) = some a) :
    ((doWakeAddress ct tr s).mbus.ch[trunk ct]).armed = false ∧
      (s.addrMatch a ≠ 0 → ((doWakeAddress ct tr s).mbus.ch[trunk ct]).decoded = true ∧
        (doWakeAddress ct tr s).mbus.statCause = s.addrMatch a ∧ (doWakeAddress ct tr s).mbus.statAddr = a) ∧
      (s.addrMatch a = 0 →
        ((doWakeAddress ct tr s).mbus.ch[trunk ct]).decoded = (s.mbus.ch[trunk ct]).decoded) := by
  have hgo : ¬((!(s.mbus.ch[trunk ct]).armed) = true ∨ s.pwr.mode = .off) := by
    rw [harm]
    rintro (h | h)
    · exact nomatch h
    · exact hmode h
  have heq : doWakeAddress ct tr s = if s.addrMatch a = 0 then tickFree (modCh (trunk ct) (fun c => { c with armed := false }) s)
      else decodeWake ct a (s.addrMatch a) (tickFree (modCh (trunk ct) (fun c => { c with armed := false }) s)) := by
    unfold doWakeAddress
    rw [if_neg hgo, haddr]
    rfl
  have hself := modCh_self (trunk ct) (fun c => { c with armed := false }) s
  rw [← (frame_tickFree (modCh (trunk ct) (fun c => { c with armed := false }) s)).mbus rfl] at hself
  generalize tickFree (modCh (trunk ct) (fun c => { c with armed := false }) s) = t at heq hself
  by_cases hm : s.addrMatch a = 0
  · rw [heq, if_pos hm, hself]
    exact ⟨rfl, fun h => absurd hm h, fun _ => rfl⟩
  · obtain ⟨harmed, hdec⟩ := decodeWake_spec ct a (s.addrMatch a) t
    rw [hself] at harmed
    rw [heq, if_neg hm]
    exact ⟨harmed, fun _ => hdec, fun h => absurd h hm⟩

end Sys2Proof.Machine

/-! ### The statement -/

namespace Sys2Proof.Proofs

open Sys2Proof.Machine

/-- Settles O48: a request takes effect at once or waits in its channel, and the frame that ends keeps what firmware asked;
a pattern at a sleeping transceiver latches its wake or arms its decoder, and in REST nothing is reported. -/
theorem busControlAndWake : Obligations.BusControlAndWake := by
  unfold Obligations.BusControlAndWake
  refine ⟨fun rq k v b s hp => ⟨fun hrq => ⟨?_, ?_, ?_⟩, fun hrq => ⟨?_, ?_, ?_, ?_, ?_⟩⟩, fun k s hmode => ⟨?_, ?_, ?_, ?_⟩⟩
  · exact (next_whenOn hp).trans (congrArg _ (if_neg fun h => Bool.false_ne_true (hrq.symm.trans h)))
  · exact (next_whenOn hp).trans (congrArg _ (if_neg fun h => Bool.false_ne_true (hrq.symm.trans h)))
  · refine (next_whenOn hp).trans (congrArg _ ?_)
    rw [doTrxReq, mbusWriter, hrq]
    by_cases hbad : (!s.configured k.val) = true ∧ v ≠ 2
    · rw [if_pos hbad, decide_eq_true hbad]
      exact wrIf_refused_reserved
    · rw [if_neg hbad, decide_eq_false hbad]
      exact wrIf_refused
  · exact ⟨_, (next_whenOn hp).trans (congrArg _ (if_pos hrq)), chInit_set k s⟩
  · exact fun hconf hin hreq => ⟨_, (next_whenOn hp).trans (congrArg _ (if_pos hrq)), chInit_clear hconf hin hreq⟩
  · exact (next_whenOn hp).trans (congrArg _ (if_pos hrq))
  · intro hlegal
    refine ⟨_, (next_whenOn hp).trans (congrArg _ (trxReq_taken hrq hlegal)), ?_⟩
    have hself := modCh_self k (fun c => { c with req := v }) s
    have hother (j : Fin 6) (hj : j ≠ k) := modCh_other (fun c => { c with req := v }) s hj
    generalize modCh k (fun c => { c with req := v }) s = t at hself hother
    obtain ⟨hreq, htrx, hdown, hrest⟩ := reqTrx_spec k v t
    have hup : (t.mbus.ch[k]).up = (s.mbus.ch[k]).up := by
      rw [hself]
      rfl
    refine ⟨hreq.trans ?_, htrx, fun h => hdown (hup.trans h), fun j hj => (hrest j hj).trans (hother j hj)⟩
    rw [hself]
  · intro hconf hv
    refine (next_whenOn hp).trans (congrArg _ ?_)
    have hbad : (!s.configured k.val) = true ∧ v ≠ 2 := ⟨by rw [hconf]; rfl, hv⟩
    rw [doTrxReq, mbusWriter, hrq, decide_eq_true hbad]
    exact wrIf_reserved
  · intro htrx hrest hw
    have heq := doWakePattern_eq hmode htrx hrest hw
    by_cases harm : chWakeMode (s.chRec k.val) = true ∧ 4 ≤ k.val
    · rw [if_pos harm] at heq
      refine ⟨_, congrArg Host.Outcome.next heq, fun _ => ?_, fun h => absurd harm h, fun _ => ⟨rfl, fun _ => ⟨rfl, rfl, rfl⟩⟩⟩
      rw [modCh_self]
      exact ⟨rfl, rfl⟩
    · rw [if_neg harm] at heq
      exact ⟨_, congrArg Host.Outcome.next heq, fun h => absurd h harm, fun _ => wakeLatch_wake k s, fun h => wakeLatch_rest h⟩
  · intro htrx hw
    exact congrArg Host.Outcome.next (doWakePattern_awake htrx hw)
  · exact fun ct tr a harm haddr => ⟨_, rfl, doWakeAddress_spec hmode harm haddr⟩
  · exact fun ct => congrArg Host.Outcome.next (if_neg hmode)

end Sys2Proof.Proofs
end

section
/-! SUPPORT. The refutation of the statement of 17_access.md about handles, polls, sessions and enrolment. TB0 counts 64 bits
of ns and then starts again from 0 (R335); a touch that is confirmed less than 250 ms before that asks for its next poll at an
instant that TB0 never shows. -/

namespace Sys2Proof.Machine

/-- TB0 stays below 2^64 ns. -/
theorem tb0_lt (s : State) : s.tb0 < 2 ^ 64 := BitVec.isLt _

/-- A touch of reader 0 confirmed in the last ns of TB0's range. -/
def touchBeforeWrap : State := { State.reset with
  time := { State.reset.time with tb := upd State.reset.time.tb 0 fun b => { b with value := (2 ^ 64 - 1) <<< 32 } }
  acc := { State.reset.acc with
    rd := upd State.reset.acc.rd 0 fun x => { x with touch := true, touchAt := 2 ^ 64 - 1, touchPolls := 1 } } }

/-- It is confirmed now, and has asked for one poll. -/
theorem touchBeforeWrap_before : touchBeforeWrap.powered = true ∧ touchBeforeWrap.tb0 = 2 ^ 64 - 1 ∧
    (touchBeforeWrap.acc.rd[(0 : Fin 2)]).touch = true ∧ (touchBeforeWrap.acc.rd[(0 : Fin 2)]).touchPolls = 1 ∧
    (touchBeforeWrap.acc.rd[(0 : Fin 2)]).touchAt = touchBeforeWrap.tb0 := by decide +kernel

end Sys2Proof.Machine

/-! ### The statement -/

namespace Sys2Proof.Proofs

open Sys2Proof.Machine

/-- Refutes O49: after the repeat of a touch TB0 need not have reached the instant of the touch plus 250 ms, where that lies
beyond the range of TB0. -/
theorem not_readersAndTimes : ¬ Obligations.ReadersAndTimes := by
  rintro ⟨hhandle, -⟩
  obtain ⟨hpowered, hnow, htouch, hpolls, hat⟩ := touchBeforeWrap_before
  obtain ⟨-, -, hrepeat, -⟩ := hhandle 0 0 0 touchBeforeWrap hpowered
  obtain ⟨t, -, -, -, -, hreached, -⟩ := hrepeat htouch (by rw [hpolls]; decide)
  rw [hat, hnow, hpolls] at hreached
  have hbound := tb0_lt t
  omega

end Sys2Proof.Proofs
end

section
/-! SUPPORT. What the access engine does with a record, a failed attempt and the end of a counter write (R440 to R448), and
the statement of 17_access.md about token records and rolling codes. -/

namespace Sys2Proof.Machine

/-! ### What leaves the token store -/

/-- The token slots and the counter write in progress stand, and what is pending, set or entered stays so. -/
structure StoreKept (s t : State) : Prop where
  tok : t.acc.tok = s.acc.tok
  write : t.acc.write = s.acc.write
  grows : Grows s t

/-- Nothing happens. -/
theorem StoreKept.refl (s : State) : StoreKept s s := ⟨rfl, rfl, Grows.refl s⟩

/-- One after another. -/
theorem StoreKept.trans {s t u : State} (h : StoreKept s t) (g : StoreKept t u) : StoreKept s u :=
  ⟨g.tok.trans h.tok, g.write.trans h.write, g.grows.step h.grows⟩

/-- A step outside the access engine. -/
theorem storeKept_of_acc {s t : State} (h : t.acc = s.acc) (hg : Grows s t) : StoreKept s t :=
  ⟨congrArg AccBlk.tok h, congrArg AccBlk.write h, hg⟩

/-- The end of learning. -/
theorem endLearn_kept (cause : Nat) (s : State) : StoreKept s (endLearn cause s) := by
  unfold endLearn
  split
  · exact StoreKept.refl s
  · rename_i l _
    have hlearn : StoreKept s (modAcc (fun a => { a with learn := none }) s) := ⟨rfl, rfl, grows_of_same rfl rfl rfl⟩
    generalize modAcc (fun a => { a with learn := none }) s = t at hlearn
    have hlog := frame_logEv 0xB00A 3 (locReader l.reader.val) (pack64 [(0, s.acc.enrolled), (5, cause)]) t
    exact hlearn.trans (storeKept_of_acc (((frame_setIrq _ _ _).acc rfl).trans (hlog.acc rfl))
      ((grows_setIrq _ _ _).step (grows_logEv _ _ _ _ t)))

/-- Polls stop. -/
theorem stopPolls_kept (s : State) : StoreKept s (stopPolls s) := ⟨rfl, rfl, grows_of_same rfl rfl rfl⟩

/-- A failed attempt leaves the token store as it is, and sets IRQ bit 1. -/
theorem failAttempt_spec (r : Fin 2) (slot rule id : Nat) (s : State) :
    StoreKept s (failAttempt r slot rule id s) ∧ bit ((failAttempt r slot rule id s).head .acc).irq 1 = true := by
  unfold failAttempt
  extract_lets now t l u v w x
  have ht : StoreKept s t ∧ bit (t.head .acc).irq 1 = true :=
    ⟨storeKept_of_acc (((frame_setIrq _ _ _).acc rfl).trans ((frame_logEv _ _ _ _ s).acc rfl))
      ((grows_setIrq _ _ _).step (grows_logEv _ _ _ _ s)), bit_setIrq _ (by decide)⟩
  clear_value l
  clear_value t
  have hbump (y : State) : StoreKept y (bump .acc 0x02C 0 1 y) :=
    storeKept_of_acc ((frame_bump _ _ _ _ y).acc rfl) (grows_bump _ _ _ _ y)
  have hcount := hbump (modAcc (fun a => { a with fails := satInc a.fails, failAt := l }) t)
  have hu : StoreKept t u := by
    refine StoreKept.trans ?_ hcount
    exact ⟨rfl, rfl, grows_of_same rfl rfl rfl⟩
  clear_value u
  obtain ⟨hst, hirq⟩ := ht
  split
  · exact ⟨hst.trans hu, hu.grows.irq _ _ hirq⟩
  · have hw : StoreKept u w := ⟨rfl, rfl, grows_of_same rfl rfl rfl⟩
    have hx : StoreKept w x := storeKept_of_acc (((frame_setIrq _ _ _).acc rfl).trans ((frame_logEv _ _ _ _ w).acc rfl))
      ((grows_setIrq _ _ _).step (grows_logEv _ _ _ _ w))
    clear_value x
    have hall := hu.trans (hw.trans (hx.trans ((stopPolls_kept x).trans (endLearn_kept 4 (stopPolls x)))))
    exact ⟨hst.trans hall, hall.grows.irq _ _ hirq⟩

/-! ### A record is judged -/

/-- A candidate is looked at: it lapses, or it stands. -/
theorem lapseDue_cases (k : Fin 16) (s : State) : lapseDue k s = s ∨ lapseDue k s = lapse k s := by
  unfold lapseDue
  split
  · split
    · exact .inr rfl
    · exact .inl rfl
  · exact .inl rfl

/-- A candidate whose deadline has passed lapses; nothing else of its slot changes. -/
theorem lapseDue_spec (k : Fin 16) (s : State) :
    (∀ j : Fin 16, j ≠ k → (lapseDue k s).acc.tok[j] = s.acc.tok[j]) ∧
      (∃ c, (lapseDue k s).acc.tok[k] = { s.acc.tok[k] with cand := c }) ∧ (lapseDue k s).acc.write = s.acc.write := by
  rcases lapseDue_cases k s with heq | heq
  · rw [heq]
    exact ⟨fun _ _ => rfl, ⟨_, rfl⟩, rfl⟩
  · have hlapse : (lapse k s).acc = (modTok k (fun x => { x with cand := none }) s).acc := (frame_logEv _ _ _ _ _).acc rfl
    rw [heq, hlapse]
    exact ⟨fun j hj => upd_other s.acc.tok _ hj, ⟨none, upd_self s.acc.tok k _⟩, rfl⟩

/-- Without a candidate nothing lapses. -/
theorem lapseDue_of_none {k : Fin 16} {s : State} (h : (s.acc.tok[k]).cand = none) : lapseDue k s = s := by
  simp only [lapseDue, h]

/-- Whether a MAC verifies rests on the configuration and the keys. -/
theorem macOk_congr {s t : State} (hcfg : t.cfg = s.cfg) (hkey : t.key = s.key) (b : List Byte) : t.macOk b = s.macOk b := by
  rw [State.macOk, State.macOk, State.aesKey, State.aesKey, State.slot, State.slot, hcfg, hkey]

/-- The judgement of a well-formed record after its slot's candidate has been looked at. -/
def judgeNow (r : Fin 2) (k : Fin 16) (b : List Byte) (s : State) : State :=
  let t := s.acc.tok[k]
  if !t.valid ∨ recId b ≠ t.id.toNat ∨ recCmd b ≠ 1 then failAttempt r k.val 3 (recId b) s
  else if !s.macOk b then failAttempt r k.val 4 (recId b) (useSlot s.cfg.tokKey s)
  else
    let s := useSlot s.cfg.tokKey s
    let rule := cntRule t.cnt (recCnt b) (t.cand.map (·.1))
    let c := rdClass (s.rdRec r)
    if rule = .failure then failAttempt r k.val 5 (recId b) (modTok k (fun x => { x with cand := none }) s)
    else if !t.mask.testBit (c - 1) then beginWrite r k (recCnt b) .refused s
    else if rule = .resync then beginWrite r k (recCnt b) .resync s
    else beginWrite r k (recCnt b) .success (modPoll (fun p => { p with success := true }) s)

/-- A record is judged after that look. -/
theorem judge_eq (r : Fin 2) (k : Fin 16) (b : List Byte) (s : State) : judge r k b s = judgeNow r k b (lapseDue k s) := rfl

/-- The stored counters of the token slots stand. -/
def CountersKept (s t : State) : Prop := ∀ j : Fin 16, (t.acc.tok[j]).cnt = (s.acc.tok[j]).cnt

/-- Where the slots stand. -/
theorem countersKept_of_tok {s t : State} (h : t.acc.tok = s.acc.tok) : CountersKept s t := by
  intro j
  rw [h]

/-- A slot whose candidate alone changes. -/
theorem countersKept_modTok (k : Fin 16) {f : TokenSlot → TokenSlot} (hf : ∀ x, (f x).cnt = x.cnt) (s : State) :
    CountersKept s (modTok k f s) := by
  intro j
  by_cases h : j = k
  · subst h
    exact (congrArg TokenSlot.cnt (upd_self s.acc.tok j f)).trans (hf _)
  · exact congrArg TokenSlot.cnt (upd_other s.acc.tok f h)

/-- One after another. -/
theorem CountersKept.trans {s t u : State} (h : CountersKept s t) (g : CountersKept t u) : CountersKept s u :=
  fun j => (g j).trans (h j)

/-- A look at a candidate. -/
theorem countersKept_lapseDue (k : Fin 16) (s : State) : CountersKept s (lapseDue k s) := by
  obtain ⟨hother, ⟨c, hself⟩, -⟩ := lapseDue_spec k s
  intro j
  by_cases h : j = k
  · subst h
    rw [hself]
  · rw [hother j h]

/-- The kind of the counter write that a code asks for. -/
def codeKind (allowed : Bool) (rule : CntRule) : CntKind :=
  if allowed then (if rule = .resync then .resync else .success) else .refused

section
variable {r : Fin 2} {k : Fin 16} {b : List Byte} {s : State}

/-- A record that names no enrolled token, another command or a wrong MAC is a failed attempt. -/
theorem judgeNow_fails (h : ¬((s.acc.tok[k]).valid = true ∧ recId b = (s.acc.tok[k]).id.toNat ∧ recCmd b = 1 ∧
    s.macOk b = true)) :
    StoreKept s (judgeNow r k b s) ∧ bit ((judgeNow r k b s).head .acc).irq 1 = true := by
  unfold judgeNow
  extract_lets t
  split
  · exact failAttempt_spec r k.val 3 (recId b) s
  case isFalse hnamed =>
    have hmac : (!s.macOk b) = true := by
      rw [Bool.not_eq_true', Bool.eq_false_iff]
      intro hmac
      refine h ⟨?_, ?_, ?_, hmac⟩
      · by_contra hv
        exact hnamed (.inl ((Bool.not_eq_true' _).mpr (Bool.eq_false_iff.mpr hv)))
      · exact Decidable.not_not.mp fun hi => hnamed (.inr (.inl hi))
      · exact Decidable.not_not.mp fun hc => hnamed (.inr (.inr hc))
    rw [if_pos hmac]
    have huse : StoreKept s (useSlot s.cfg.tokKey s) :=
      storeKept_of_acc ((frame_useSlot _ s).acc rfl) ((grows_bump _ _ _ _ _).step (grows_of_same rfl rfl rfl))
    obtain ⟨hkept, hirq⟩ := failAttempt_spec r k.val 4 (recId b) (useSlot s.cfg.tokKey s)
    exact ⟨huse.trans hkept, hirq⟩

/-- The code of an enrolled token whose MAC verifies. -/
theorem judgeNow_of_code (hvalid : (s.acc.tok[k]).valid = true) (hid : recId b = (s.acc.tok[k]).id.toNat)
    (hcmd : recCmd b = 1) (hmac : s.macOk b = true) :
    judgeNow r k b s =
      if cntRule (s.acc.tok[k]).cnt (recCnt b) ((s.acc.tok[k]).cand.map (·.1)) = .failure then
        failAttempt r k.val 5 (recId b) (modTok k (fun x => { x with cand := none }) (useSlot s.cfg.tokKey s))
      else if !(s.acc.tok[k]).mask.testBit (rdClass ((useSlot s.cfg.tokKey s).rdRec r) - 1) then
        beginWrite r k (recCnt b) .refused (useSlot s.cfg.tokKey s)
      else if cntRule (s.acc.tok[k]).cnt (recCnt b) ((s.acc.tok[k]).cand.map (·.1)) = .resync then
        beginWrite r k (recCnt b) .resync (useSlot s.cfg.tokKey s)
      else beginWrite r k (recCnt b) .success (modPoll (fun p => { p with success := true }) (useSlot s.cfg.tokKey s)) := by
  have hnamed : ¬((!(s.acc.tok[k]).valid) = true ∨ recId b ≠ (s.acc.tok[k]).id.toNat ∨ recCmd b ≠ 1) := by
    rw [hvalid]
    rintro (h | h | h)
    · exact nomatch h
    · exact h hid
    · exact h hcmd
  have hok : ¬(!s.macOk b) = true := by
    rw [hmac]
    exact Bool.false_ne_true
  exact (if_neg hnamed).trans (if_neg hok)

/-- A code that the counter rule fails is a failed attempt. -/
theorem judgeNow_of_failure (hvalid : (s.acc.tok[k]).valid = true) (hid : recId b = (s.acc.tok[k]).id.toNat)
    (hcmd : recCmd b = 1) (hmac : s.macOk b = true)
    (hrule : cntRule (s.acc.tok[k]).cnt (recCnt b) ((s.acc.tok[k]).cand.map (·.1)) = .failure) :
    (judgeNow r k b s).acc.write = s.acc.write ∧ CountersKept s (judgeNow r k b s) ∧
      bit ((judgeNow r k b s).head .acc).irq 1 = true := by
  rw [judgeNow_of_code hvalid hid hcmd hmac, if_pos hrule]
  have huse := (frame_useSlot s.cfg.tokKey s).acc rfl
  generalize useSlot s.cfg.tokKey s = u at huse
  have hcnt := countersKept_modTok k (f := fun x => { x with cand := none }) (fun _ => rfl) u
  have hwrite : (modTok k (fun x => { x with cand := none }) u).acc.write = u.acc.write := rfl
  generalize modTok k (fun x => { x with cand := none }) u = v at hcnt hwrite
  obtain ⟨hkept, hirq⟩ := failAttempt_spec r k.val 5 (recId b) v
  refine ⟨hkept.write.trans (hwrite.trans (congrArg AccBlk.write huse)), ?_, hirq⟩
  exact (countersKept_of_tok (congrArg AccBlk.tok huse)).trans (hcnt.trans (countersKept_of_tok hkept.tok))

/-- Any other begins the counter write of its slot. -/
theorem judgeNow_of_success (hvalid : (s.acc.tok[k]).valid = true) (hid : recId b = (s.acc.tok[k]).id.toNat)
    (hcmd : recCmd b = 1) (hmac : s.macOk b = true)
    (hrule : cntRule (s.acc.tok[k]).cnt (recCnt b) ((s.acc.tok[k]).cand.map (·.1)) ≠ .failure) :
    (judgeNow r k b s).acc.write = some ⟨r, k, recCnt b,
        codeKind ((s.acc.tok[k]).mask.testBit (rdClass (s.rdRec r) - 1))
          (cntRule (s.acc.tok[k]).cnt (recCnt b) ((s.acc.tok[k]).cand.map (·.1))), s.tb0⟩ ∧
      (judgeNow r k b s).acc.tok = s.acc.tok := by
  rw [judgeNow_of_code hvalid hid hcmd hmac, if_neg hrule]
  have hframe := frame_useSlot s.cfg.tokKey s
  generalize useSlot s.cfg.tokKey s = u at hframe
  have hrec : u.rdRec r = s.rdRec r := by rw [State.rdRec, State.rdRec, hframe.cfg rfl]
  have htb0 : u.tb0 = s.tb0 := by rw [State.tb0, State.tb0, hframe.time rfl]
  have htok : u.acc.tok = s.acc.tok := congrArg AccBlk.tok (hframe.acc rfl)
  rw [hrec, codeKind]
  cases hmask : (s.acc.tok[k]).mask.testBit (rdClass (s.rdRec r) - 1) with
  | false =>
    rw [if_pos (by rfl), if_neg Bool.false_ne_true, ← htb0]
    exact ⟨rfl, htok⟩
  | true =>
    rw [if_neg (by exact Bool.false_ne_true), if_pos rfl, ← htb0]
    split
    · exact ⟨rfl, htok⟩
    · exact ⟨rfl, htok⟩

end

/-- No record changes a stored counter. -/
theorem judgeNow_counters (r : Fin 2) (k : Fin 16) (b : List Byte) (s : State) : CountersKept s (judgeNow r k b s) := by
  by_cases h : (s.acc.tok[k]).valid = true ∧ recId b = (s.acc.tok[k]).id.toNat ∧ recCmd b = 1 ∧ s.macOk b = true
  · obtain ⟨hvalid, hid, hcmd, hmac⟩ := h
    by_cases hrule : cntRule (s.acc.tok[k]).cnt (recCnt b) ((s.acc.tok[k]).cand.map (·.1)) = .failure
    · exact (judgeNow_of_failure hvalid hid hcmd hmac hrule).2.1
    · exact countersKept_of_tok (judgeNow_of_success hvalid hid hcmd hmac hrule).2
  · exact countersKept_of_tok (judgeNow_fails h).1.tok

/-- A record is judged while no counter write is in progress. -/
theorem judged_spec {r : Fin 2} {k : Fin 16} {b : List Byte} {s : State} (hwrite : s.acc.write = none) :
    CountersKept s (judgeNow r k b (lapseDue k s)) ∧
      ((s.acc.tok[k]).valid = true → recId b = (s.acc.tok[k]).id.toNat → recCmd b = 1 → s.macOk b = true →
        (s.acc.tok[k]).cand = none →
        (cntRule (s.acc.tok[k]).cnt (recCnt b) none ≠ .failure → (judgeNow r k b (lapseDue k s)).acc.write =
          some ⟨r, k, recCnt b, codeKind ((s.acc.tok[k]).mask.testBit (rdClass (s.rdRec r) - 1))
            (cntRule (s.acc.tok[k]).cnt (recCnt b) none), s.tb0⟩) ∧
        (cntRule (s.acc.tok[k]).cnt (recCnt b) none = .failure → (judgeNow r k b (lapseDue k s)).acc.write = none ∧
          bit ((judgeNow r k b (lapseDue k s)).head .acc).irq 1 = true)) ∧
      (¬((s.acc.tok[k]).valid = true ∧ recId b = (s.acc.tok[k]).id.toNat ∧ recCmd b = 1 ∧ s.macOk b = true) →
        (judgeNow r k b (lapseDue k s)).acc.write = none ∧
          bit ((judgeNow r k b (lapseDue k s)).head .acc).irq 1 = true) := by
  refine ⟨(countersKept_lapseDue k s).trans (judgeNow_counters r k b _), fun hvalid hid hcmd hmac hcand => ?_, fun h => ?_⟩
  · rw [lapseDue_of_none hcand]
    have hmap : (s.acc.tok[k]).cand.map (·.1) = none := by rw [hcand]; rfl
    rw [← hmap]
    refine ⟨fun hrule => (judgeNow_of_success hvalid hid hcmd hmac hrule).1, fun hrule => ?_⟩
    obtain ⟨hw, -, hirq⟩ := judgeNow_of_failure (r := r) hvalid hid hcmd hmac hrule
    exact ⟨hw.trans hwrite, hirq⟩
  · obtain ⟨-, ⟨c, hself⟩, hw⟩ := lapseDue_spec k s
    have hmac : (lapseDue k s).macOk b = s.macOk b :=
      macOk_congr ((frame_lapseDue k s).cfg rfl) ((frame_lapseDue k s).key rfl) b
    have hfails : ¬(((lapseDue k s).acc.tok[k]).valid = true ∧ recId b = ((lapseDue k s).acc.tok[k]).id.toNat ∧
        recCmd b = 1 ∧ (lapseDue k s).macOk b = true) := by
      rw [hself, hmac]
      exact h
    obtain ⟨hkept, hirq⟩ := judgeNow_fails (r := r) hfails
    exact ⟨hkept.write.trans (hw.trans hwrite), hirq⟩

/-! ### A record arrives -/

/-- A check of usable keys, or without an ACCESS section, only notes that they are not bad. -/
theorem accCheck_good {s : State} (h : (s.accIn && !s.accKeys) = false) :
    accCheck s = modAcc (fun a => { a with keyBad := false }) s := by
  unfold accCheck
  rw [h]
  rfl

/-- The access engine after a stray record. -/
theorem strayRecord_acc (s : State) : (strayRecord s).acc = { s.acc with stray := satInc s.acc.stray } := by
  have hlim (key : Nat) (loc : Word) (t : State) : (limited key (logEv 0xB00C 1 loc (pack64 [(0, 1)])) t).acc = t.acc :=
    (frame_limited (M := 262420) _ _ t rfl (Frame.refl _ t) fun x h => (frame_logEv _ _ _ _ x).step rfl h).acc rfl
  unfold strayRecord
  split
  rw [hlim]
  exact (frame_bump _ _ _ _ _).acc rfl

/-- The instant that a record's reply slot is found by (R440). -/
def State.recordAt (s : State) (age : Nat) : Int := (s.tb0 : Int) - age - s.cfg.tkrLat * 10000

/-- No reply slot, with its poll or without. -/
theorem bind_slot_none {o : Option Poll} {at_ : Int} (h : o.bind (fun p => p.slotAt at_) = none) :
    o.bind (fun p => (p.slotAt at_).map (p, ·)) = none := by
  cases o with
  | none => rfl
  | some p =>
    have hslot : p.slotAt at_ = none := h
    show (p.slotAt at_).map (p, ·) = none
    rw [hslot]
    rfl

section
variable {b : List Byte} {age : Nat} {s : State}

/-- A record outside every reply slot is a stray one. -/
theorem doTokenRecord_stray (hgood : (s.accIn && !s.accKeys) = false)
    (hended : s.acc.ended.bind (fun p => p.slotAt (s.recordAt age)) = none)
    (hpoll : s.acc.poll.bind (fun p => p.slotAt (s.recordAt age)) = none) :
    doTokenRecord b age s = strayRecord (modAcc (fun a => { a with keyBad := false }) s) := by
  unfold doTokenRecord
  rw [accCheck_good hgood]
  extract_lets t at_
  have he : t.acc.ended.bind (fun p => (p.slotAt at_).map (p, ·)) = none := bind_slot_none hended
  have hp : t.acc.poll.bind (fun p => (p.slotAt at_).map (p, ·)) = none := bind_slot_none hpoll
  rw [he, hp]

/-- A record in a reply slot of the poll in progress, with no counter write in progress. -/
theorem doTokenRecord_polled {p : Poll} {k : Fin 16} (hgood : (s.accIn && !s.accKeys) = false)
    (hended : s.acc.ended.bind (fun p => p.slotAt (s.recordAt age)) = none) (hpoll : s.acc.poll = some p)
    (hslot : p.slotAt (s.recordAt age) = some k) (hwrite : s.acc.write = none) :
    doTokenRecord b age s = takeRecord p k b (modAcc (fun a => { a with keyBad := false }) s) := by
  unfold doTokenRecord
  rw [accCheck_good hgood]
  extract_lets t at_
  have he : t.acc.ended.bind (fun p => (p.slotAt at_).map (p, ·)) = none := bind_slot_none hended
  have hp : t.acc.poll.bind (fun p => (p.slotAt at_).map (p, ·)) = some (p, k) := by
    show s.acc.poll.bind (fun p => (p.slotAt at_).map (p, ·)) = some (p, k)
    rw [hpoll]
    show (p.slotAt at_).map (p, ·) = some (p, k)
    have hs : p.slotAt at_ = some k := hslot
    rw [hs]
    rfl
  have hfinish : finishWrite t = t := by
    have hw : t.acc.write = none := hwrite
    rw [finishWrite, hw]
  rw [he, hp, hfinish]

/-- The first record in a slot of a poll that is no learn poll. -/
theorem takeRecord_first {p : Poll} {k : Fin 16} (hlearn : p.learn = false) (hseen : p.seen.getLsbD k.val = false) :
    takeRecord p k b s =
      if recBad b = true ∨ recStatus b = 1 then
        (if p.coll.getLsbD k.val then modPoll (fun q => { q with seen := setBit q.seen k.val }) s
          else collide p.reader k (modPoll (fun q => { q with seen := setBit q.seen k.val }) s))
      else judge p.reader k b (modPoll (fun q => { q with seen := setBit q.seen k.val }) s) := by
  simp only [takeRecord, hlearn, hseen, Bool.false_eq_true, false_or]

end

/-- A collision of a slot is counted in its poll and its reader. -/
theorem collide_acc {r : Fin 2} {k : Fin 16} {q : Poll} {s : State} (hpoll : s.acc.poll = some q) :
    (collide r k s).acc.poll = some { q with coll := setBit q.coll k.val } ∧ (collide r k s).acc.tok = s.acc.tok ∧
      (collide r k s).acc.write = s.acc.write ∧
      ((collide r k s).acc.rd[r]).colls = satInc (s.acc.rd[r]).colls := by
  have hacc : (collide r k s).acc = (modRd r (fun x => { x with colls := satInc x.colls })
      (modPoll (fun p => { p with coll := setBit p.coll k.val }) s)).acc := (frame_bumpRd _ _ _).acc rfl
  have hrd := congrArg Reader.colls (upd_self s.acc.rd r fun x => { x with colls := satInc x.colls })
  rw [hacc]
  refine ⟨?_, rfl, rfl, hrd⟩
  show s.acc.poll.map _ = _
  rw [hpoll]
  rfl

/-! ### The end of a counter write -/

/-- An error of SYS is noted. -/
theorem grows_sysFlag (i : Nat) (s : State) : Grows s (sysFlag i s) :=
  (grows_setIrq _ _ _).step ((grows_modNote _ _ _).step (grows_of_same rfl rfl rfl))

/-- A refused command of an output only adds. -/
theorem grows_refuseCmd (code src o : Nat) (w : Word) (s : State) : Grows s (refuseCmd code src o w s) := by
  unfold refuseCmd
  extract_lets l hurdle t u e recent keep hurdle'
  have ht : Grows s t := (grows_sysFlag _ _).step ((grows_bump _ _ _ _ _).step (grows_of_same rfl rfl rfl))
  clear_value t
  have hu : Grows s u := (grows_setIrq _ _ t).step ht
  clear_value u
  exact Grows.ite hu ((grows_logEv _ _ _ _ _).step (hu.of_same rfl rfl rfl))

/-- So does a command that an engine of the access system delivers. -/
theorem grows_deliverCmd (src : Fin 16) (o : Nat) (w : Word) (s : State) : Grows s (deliverCmd src o w s) := by
  unfold deliverCmd
  refine Grows.ite ?_ ?_
  · unfold acceptCmd
    split
    · exact grows_refuseCmd _ _ _ _ s
    · refine Grows.ite (grows_refuseCmd _ _ _ _ s) ?_
      split
      · exact grows_of_same rfl rfl rfl
      · exact (frame_modOut _ _ s).grows rfl rfl rfl
  · unfold refusedWord
    exact Grows.ite (Grows.refl s) (Grows.ite ((grows_setErr _ _ _).step (grows_logEv _ _ _ _ s))
      ((grows_setErr _ _ _).step (grows_logEv _ _ _ _ s)))

/-- A session starts on its reader. -/
theorem startSession_spec (r : Fin 2) (slot : Nat) (s : State) :
    StoreKept s (startSession r slot s) ∧ ((startSession r slot s).acc.rd[r]).sess.isSome = true := by
  unfold startSession
  extract_lets t
  have ht : StoreKept s t ∧ (t.acc.rd[r]).sess.isSome = true := by
    have hsess := congrArg (fun x : Reader => x.sess.isSome) (upd_self s.acc.rd r fun x => { x with
      sess := some (ceilDiv (s.cfg.tmo * 1000000000) s.T), fresh := true, sessSlot := slot })
    exact ⟨⟨rfl, rfl, grows_of_same rfl rfl rfl⟩, hsess⟩
  clear_value t
  have hacc : ((t.released r).foldl (fun s o => deliverCmd 8 o 1 s) t).acc = t.acc :=
    foldl_keeps (fun u o _ => (frame_deliverCmd 8 o 1 u).acc rfl) t
  have hgrows := Grows.foldl (f := fun s o => deliverCmd 8 o 1 s) (fun u o => grows_deliverCmd 8 o 1 u) (t.released r) t
  refine ⟨ht.1.trans (storeKept_of_acc hacc hgrows), ?_⟩
  rw [hacc]
  exact ht.2

/-- What the end of the counter write of a success does. -/
def finishSuccess (w : CntWrite) (s : State) : State :=
  let s := bump .acc (0x100C + w.slot.val * 0x40) 0 1
    (writeToken w (fun x => { x with cnt := w.cnt, cand := none, uses := satInc x.uses }) s)
  let s := setIrq .acc 0 (logEv 0xB001 2 (locReader w.reader.val) (pack64 [(0, w.slot.val), (32, w.cnt.toNat)]) s)
  startSession w.reader w.slot.val s

/-- The write stores the new counter, starts the session and writes its entry. -/
theorem finishSuccess_spec (w : CntWrite) (s : State) :
    (∃ uses, (finishSuccess w s).acc.tok[w.slot] = { s.acc.tok[w.slot] with
        cnt := w.cnt, cand := none, uses := uses, seq := (s.acc.tok[w.slot]).seq + 1 }) ∧
      (∀ j : Fin 16, j ≠ w.slot → (finishSuccess w s).acc.tok[j] = s.acc.tok[j]) ∧
      (finishSuccess w s).acc.write = s.acc.write ∧
      ((finishSuccess w s).acc.rd[w.reader]).sess.isSome = true ∧
      bit ((finishSuccess w s).head .acc).irq 0 = true ∧
      (s.canLog = true → (finishSuccess w s).hasEntry 0xB001 2 (locReader w.reader.val)
        (pack64 [(0, w.slot.val), (32, w.cnt.toNat)]) = true) := by
  unfold finishSuccess
  extract_lets t u
  have ht : t.acc = (modTok w.slot (fun x => { x with
      cnt := w.cnt, cand := none, uses := satInc x.uses, seq := x.seq + 1 }) s).acc := (frame_bump _ _ _ _ _).acc rfl
  have htally : t.tally = s.tally := (frame_bump _ _ _ _ _).tally rfl
  clear_value t
  have hu : u.acc = t.acc := ((frame_setIrq _ _ _).acc rfl).trans ((frame_logEv _ _ _ _ t).acc rfl)
  have hirq : bit (u.head .acc).irq 0 = true := bit_setIrq _ (by decide)
  have hlogged : s.canLog = true → u.logged 0xB001 2 (locReader w.reader.val)
      (pack64 [(0, w.slot.val), (32, w.cnt.toNat)]) := fun hlog =>
    (grows_setIrq _ _ _).entries (logged_logEv ((canLog_congr htally).trans hlog) (by decide) (by decide))
  clear_value u
  obtain ⟨hkept, hsess⟩ := startSession_spec w.reader w.slot.val u
  have htok : (startSession w.reader w.slot.val u).acc.tok = (modTok w.slot (fun x => { x with
      cnt := w.cnt, cand := none, uses := satInc x.uses, seq := x.seq + 1 }) s).acc.tok :=
    hkept.tok.trans (congrArg AccBlk.tok (hu.trans ht))
  have hwrite := congrArg AccBlk.write ht
  rw [htok]
  refine ⟨⟨_, upd_self s.acc.tok w.slot _⟩, fun j hj => upd_other s.acc.tok _ hj,
    hkept.write.trans ((congrArg AccBlk.write hu).trans hwrite), hsess, hkept.grows.irq _ _ hirq, fun hlog => ?_⟩
  exact hasEntry_of_logged (hkept.grows.entries (hlogged hlog))

/-- The counter write of a success ends while no key command waits. -/
theorem finishWrite_of_success {w : CntWrite} {s : State} (hw : s.acc.write = some w) (hkind : w.kind = .success)
    (hwait : s.key.waiting = none) : finishWrite s = finishSuccess w (modAcc (fun a => { a with write := none }) s) := by
  have hkey : keyBegin (modAcc (fun a => { a with write := none }) s) = modAcc (fun a => { a with write := none }) s :=
    keyBegin_of_not_due (.inl hwait)
  simp only [finishWrite, hw, hkind, hkey]
  rfl

/-! ### The counter rule -/

/-- What each outcome of the counter rule says of the distance. -/
theorem cntRule_spec (last cnt : Word) (cand : Option Word) :
    (cand = none → 65536 < (cnt - last).toNat → cntRule last cnt cand = .failure) ∧
      (cntRule last cnt cand = .success →
        (∃ c, cand = some c ∧ cnt = c + 1) ∨ (1 ≤ (cnt - last).toNat ∧ (cnt - last).toNat ≤ 256)) ∧
      (cntRule last cnt cand = .resync → 256 < (cnt - last).toNat ∧ (cnt - last).toNat ≤ 65536) := by
  unfold cntRule
  extract_lets d
  have hd : d = (cnt - last).toNat := rfl
  clear_value d
  rw [← hd]
  by_cases hnext : cand.any (fun c => cnt == c + 1) = true
  · rw [if_pos hnext]
    cases cand with
    | none => exact absurd hnext Bool.false_ne_true
    | some c =>
      exact ⟨(fun h => nomatch h), fun _ => .inl ⟨c, rfl, beq_iff_eq.mp hnext⟩, fun h => absurd h (by decide)⟩
  · rw [if_neg hnext]
    by_cases hfar : d = 0 ∨ 65536 < d
    · rw [if_pos hfar]
      exact ⟨fun _ _ => rfl, fun h => absurd h (by decide), fun h => absurd h (by decide)⟩
    · rw [if_neg hfar]
      by_cases hnear : d ≤ 256
      · rw [if_pos hnear]
        exact ⟨fun _ h => absurd (.inr h) hfar, fun _ => .inr (by omega), fun h => absurd h (by decide)⟩
      · rw [if_neg hnear]
        exact ⟨fun _ h => absurd (.inr h) hfar, fun h => absurd h (by decide), fun _ => by omega⟩

/-- The stored counter itself is a failure. -/
theorem cntRule_same (last : Word) : cntRule last last none = .failure := by
  rw [cntRule, Option.any_none, if_neg Bool.false_ne_true, BitVec.sub_self]
  rfl

/-- The successor of a pending candidate is a success. -/
theorem cntRule_next (last c : Word) : cntRule last (c + 1) (some c) = .success := by
  rw [cntRule, Option.any_some, if_pos (beq_self_eq_true _)]

end Sys2Proof.Machine

/-! ### The statement -/

namespace Sys2Proof.Proofs

open Sys2Proof.Machine

/-- Settles O50: a record outside every slot only counts, a malformed one collides, and a well-formed one is judged by its
slot's token; a failed attempt leaves the token store, a success stores the counter at the end of its write. -/
theorem tokensAreJudged : Obligations.TokensAreJudged := by
  unfold Obligations.TokensAreJudged
  refine ⟨fun b age s hp hgood => ?_, fun last cnt cand => ?_⟩
  · intro at_
    refine ⟨fun hended hpoll => ?_, fun p k hended hpoll hslot hwrite hlearn hseen => ⟨fun hbad hcoll => ?_, fun hrec hst => ?_⟩,
      fun w hw hkind hwait => ?_⟩
    · refine ⟨_, (next_whenOn hp).trans (congrArg _ (doTokenRecord_stray hgood hended hpoll)), strayRecord_acc _, ?_⟩
      exact (frame_strayRecord _).time rfl
    · have heq := (doTokenRecord_polled (b := b) hgood hended hpoll hslot hwrite).trans (takeRecord_first hlearn hseen)
      rw [if_pos hbad, if_neg (by rw [hcoll]; exact Bool.false_ne_true)] at heq
      refine ⟨_, { p with seen := setBit p.seen k.val, coll := setBit p.coll k.val },
        (next_whenOn hp).trans (congrArg _ heq), ?_⟩
      have hseenPoll : (modPoll (fun q => { q with seen := setBit q.seen k.val })
          (modAcc (fun a => { a with keyBad := false }) s)).acc.poll = some { p with seen := setBit p.seen k.val } := by
        show s.acc.poll.map _ = _
        rw [hpoll]
        rfl
      obtain ⟨hq, htok, hwr, hcolls⟩ := collide_acc (r := p.reader) (k := k) hseenPoll
      exact ⟨hq, rfl, rfl, htok, hwr.trans hwrite, hcolls⟩
    · have heq := (doTokenRecord_polled (b := b) hgood hended hpoll hslot hwrite).trans (takeRecord_first hlearn hseen)
      have hwell : ¬(recBad b = true ∨ recStatus b = 1) := by
        rw [hrec]
        rintro (h | h)
        · exact nomatch h
        · exact hst h
      rw [if_neg hwell, judge_eq] at heq
      intro x rule kind
      refine ⟨_, (next_whenOn hp).trans (congrArg _ heq), ?_⟩
      obtain ⟨hcounters, hcode, hfails⟩ := judged_spec (r := p.reader) (k := k) (b := b)
        (s := modPoll (fun q => { q with seen := setBit q.seen k.val }) (modAcc (fun a => { a with keyBad := false }) s)) hwrite
      refine ⟨hcounters, fun hvalid hid hcmd hmac hcand hrule => ?_, fun hvalid hid hcmd hmac hcand hrule => ?_, hfails⟩
      · exact (hcode hvalid hid hcmd hmac hcand).1 hrule
      · exact (hcode hvalid hid hcmd hmac hcand).2 hrule
    · refine ⟨_, (next_whenOn hp).trans (congrArg _ (finishWrite_of_success hw hkind hwait)), ?_⟩
      obtain ⟨⟨uses, hself⟩, hother, hwr, hsess, hirq, hentry⟩ :=
        finishSuccess_spec w (modAcc (fun a => { a with write := none }) s)
      exact ⟨hwr, congrArg TokenSlot.cnt hself, congrArg TokenSlot.cand hself, congrArg TokenSlot.seq hself, hsess, hother,
        hirq, hentry⟩
  · obtain ⟨hfar, hsuccess, hresync⟩ := cntRule_spec last cnt cand
    refine ⟨cntRule_same last, hfar, hsuccess, hresync, fun c hc => ?_⟩
    rw [hc]
    exact cntRule_next last c

end Sys2Proof.Proofs
end

section
/-! SUPPORT. The mailbox of the key core: the word of a command, its turn and its start (R457 to R476), and the statement of
18_security.md about key commands. -/

namespace Sys2Proof.Machine

/-! ### The word of a command -/

/-- The operand with the row's OP in its lowest four bits. -/
theorem cmdWord_toNat {op : Nat} (hop : op < 16) (arg : Word) : (cmdWord op arg).toNat = 16 * (arg.toNat / 16) + op := by
  have hmask : arg &&& 0xFFFFFFF0#32 = (arg >>> 4) <<< 4 := by
    apply BitVec.eq_of_getLsbD_eq
    intro i hi
    interval_cases i <;> simp
  have hlt : arg.toNat / 16 * 16 < 2 ^ 32 := by omega
  have hshift : ((arg >>> 4) <<< 4).toNat = arg.toNat / 16 * 2 ^ 4 := by
    rw [BitVec.toNat_shiftLeft, BitVec.toNat_ushiftRight, Nat.shiftLeft_eq, Nat.shiftRight_eq_div_pow]
    exact Nat.mod_eq_of_lt hlt
  have hsmall : (BitVec.ofNat 32 op).toNat = op := by
    rw [BitVec.toNat_ofNat]
    exact Nat.mod_eq_of_lt (by omega)
  rw [cmdWord, BitVec.toNat_or, hmask, hshift, hsmall, ← Nat.shiftLeft_eq, ← Nat.shiftLeft_add_eq_or_of_lt hop, Nat.shiftLeft_eq]
  omega

/-- It reads back as the OP. -/
theorem field_cmdWord_op {op : Nat} (hop : op < 16) (arg : Word) : field (cmdWord op arg) 0 4 = op := by
  rw [field_eq_div_mod, cmdWord_toNat hop]
  omega

/-- The slot is the operand's. -/
theorem field_cmdWord_slot {op : Nat} (hop : op < 16) (arg : Word) : field (cmdWord op arg) 8 6 = field arg 8 6 := by
  rw [field_eq_div_mod, field_eq_div_mod, cmdWord_toNat hop]
  omega

/-! ### A command is judged -/

/-- The mailbox takes a command by its requester, its word, and what runs. -/
theorem keyCmdWrite_eq {op : Nat} (h1 : 1 ≤ op) (h11 : op ≤ 11) (rq : Requester) (arg : Word) (h : BitVec 5) (s : State) :
    keyCmdWrite rq (cmdWord op arg) h s =
      if s.keyBad op arg || !s.keyWriter rq then wrIf .key (s.keyWriter rq) (s.keyBad op arg) rq 0x200E0020 id s
      else if s.key.state = .busy then setErr .key 2 s
      else if s.key.lcs = 6 ∨ (s.key.provision ∧ !provisionOp op) then keyEnd 1 (setErr .key 5 s)
      else
        let t := if s.strct.shadow = .loading then tickFree s else s
        if s.keyServing then
          modKey (fun b => { b with state := .busy, code := 0, waiting := some (cmdWord op arg, h) }) t
        else keyRun (cmdWord op arg) h t := by
  have hop : field (cmdWord op arg) 0 4 = op := field_cmdWord_op (by omega) arg
  have hbad : decide (op = 0 ∨ 11 < op ∨ field (cmdWord op arg) 4 4 ≠ 0 ∨ field (cmdWord op arg) 14 2 ≠ 0 ∨
      field (cmdWord op arg) 21 11 ≠ 0 ∨ argBad op (field (cmdWord op arg) 8 6) s.key.arg = true) = s.keyBad op arg := by
    have h0 : ¬op = 0 := by omega
    have h12 : ¬11 < op := by omega
    rw [Bool.eq_iff_iff]
    simp only [State.keyBad, h0, h12, false_or, decide_eq_true_eq, Bool.or_eq_true, bne_iff_ne, ne_eq, or_assoc]
  unfold keyCmdWrite
  simp only [hop, hbad]

section
variable {rq : Requester} {op : Nat} {arg : Word} {h : BitVec 5} {s : State}

/-- What a requester that may not write the mailbox meets. -/
theorem keyCmdWrite_refused (h1 : 1 ≤ op) (h11 : op ≤ 11) (hrq : s.keyWriter rq = false) :
    keyCmdWrite rq (cmdWord op arg) h s =
      setErr .key 1 (if s.keyBad op arg then reservedWrite rq 0x200E0020 s else s) := by
  rw [keyCmdWrite_eq h1 h11, hrq, Bool.not_false, Bool.or_true, if_pos rfl]
  cases s.keyBad op arg with
  | true => exact wrIf_refused_reserved
  | false => exact wrIf_refused

/-- A reserved value from one that may. -/
theorem keyCmdWrite_reserved (h1 : 1 ≤ op) (h11 : op ≤ 11) (hrq : s.keyWriter rq = true) (hbad : s.keyBad op arg = true) :
    keyCmdWrite rq (cmdWord op arg) h s = reservedWrite rq 0x200E0020 s := by
  rw [keyCmdWrite_eq h1 h11, hrq, hbad, Bool.true_or, if_pos rfl]
  exact wrIf_reserved

/-- A command beside one that runs. -/
theorem keyCmdWrite_busy (h1 : 1 ≤ op) (h11 : op ≤ 11) (hrq : s.keyWriter rq = true) (hbad : s.keyBad op arg = false)
    (hbusy : s.key.state = .busy) : keyCmdWrite rq (cmdWord op arg) h s = setErr .key 2 s := by
  rw [keyCmdWrite_eq h1 h11, hrq, hbad, Bool.not_true, Bool.or_false, if_neg Bool.false_ne_true, if_pos hbusy]

/-- A command that the mailbox takes. -/
theorem keyCmdWrite_taken (h1 : 1 ≤ op) (h11 : op ≤ 11) (htakes : s.takesKeyCmd rq op arg = true) :
    keyCmdWrite rq (cmdWord op arg) h s =
      let t := if s.strct.shadow = .loading then tickFree s else s
      if s.keyServing then
        modKey (fun b => { b with state := .busy, code := 0, waiting := some (cmdWord op arg, h) }) t
      else keyRun (cmdWord op arg) h t := by
  simp only [State.takesKeyCmd, Bool.and_eq_true, bne_iff_ne, ne_eq, Bool.not_eq_true', Bool.or_eq_true] at htakes
  obtain ⟨⟨⟨⟨hrq, hidle⟩, hbad⟩, hlcs⟩, hprov⟩ := htakes
  have hcycle : ¬(s.key.lcs = 6 ∨ (s.key.provision = true ∧ (!provisionOp op) = true)) := by
    rintro (h6 | ⟨hp, hno⟩)
    · exact hlcs h6
    · rcases hprov with hp' | hop
      · exact Bool.false_ne_true (hp'.symm.trans hp)
      · rw [hop] at hno
        exact nomatch hno
  rw [keyCmdWrite_eq h1 h11, hrq, hbad, Bool.not_true, Bool.or_false, if_neg Bool.false_ne_true, if_neg hidle, if_neg hcycle]

end

/-! ### A turn of the mailbox -/

/-- What a write's turn leaves of what a command is judged by. -/
theorem keyJudged_congr {s t : State} (hkey : t.key = s.key) (rq : Requester) (op : Nat) (arg : Word) :
    t.keyWriter rq = s.keyWriter rq ∧ t.keyBad op arg = s.keyBad op arg ∧ t.takesKeyCmd rq op arg = s.takesKeyCmd rq op arg := by
  have hw : t.keyWriter rq = s.keyWriter rq := by rw [State.keyWriter, State.keyWriter, hkey]
  have hb : t.keyBad op arg = s.keyBad op arg := by rw [State.keyBad, State.keyBad, hkey]
  refine ⟨hw, hb, ?_⟩
  rw [State.takesKeyCmd, State.takesKeyCmd, hw, hb, hkey]

/-- Whether another block is served rests on the access engine, the shadow and the free values. -/
theorem keyServing_congr {s t : State} (hacc : t.acc = s.acc) (hstrct : t.strct = s.strct) (hfree : t.freeCount = s.freeCount) :
    t.keyServing = s.keyServing := by
  rw [State.keyServing, State.keyServing, State.freeVal, State.freeVal, hacc, hstrct, hfree]

/-- A turn is a cycle of the timer clock at most, and a free value. -/
theorem frame_keyTurn (s : State) (rq : Requester) : Frame 131090 s (s.keyTurn rq) := by
  have hturn : Frame 131090 s (inTurn .key 0x020 rq.rank s) := (frame_inTurn .key 0x020 rq.rank s).mono rfl
  exact Frame.ite ((frame_tickFree _).step rfl hturn) hturn

section
variable {rq : Requester} {op : Nat} {arg : Word} {h : BitVec 5} {s : State}

/-- A command that waits for another block. -/
theorem keyCmd_waits (h1 : 1 ≤ op) (h11 : op ≤ 11) (htakes : s.takesKeyCmd rq op arg = true) (hserve : s.keyServing = true) :
    keyCmdWrite rq (cmdWord op arg) h (inTurn .key 0x020 rq.rank s) = { s.keyTurn rq with key := { s.key with
      state := .busy, code := 0, waiting := some (cmdWord op arg, h) } } := by
  have hframe := frame_inTurn .key 0x020 rq.rank s
  have hkey := (frame_keyTurn s rq).key rfl
  obtain ⟨-, -, ht⟩ := keyJudged_congr (hframe.key rfl) rq op arg
  have hs := keyServing_congr (hframe.acc rfl) (hframe.strct rfl) (hframe.freeCount rfl)
  rw [keyCmdWrite_taken h1 h11 (ht.trans htakes)]
  dsimp only
  rw [if_pos (hs.trans hserve), ← hkey]
  rfl

/-- A command that begins. -/
theorem keyCmd_begins (h1 : 1 ≤ op) (h11 : op ≤ 11) (htakes : s.takesKeyCmd rq op arg = true) (hserve : s.keyServing = false) :
    keyCmdWrite rq (cmdWord op arg) h (inTurn .key 0x020 rq.rank s) = keyRun (cmdWord op arg) h (s.keyTurn rq) := by
  have hframe := frame_inTurn .key 0x020 rq.rank s
  obtain ⟨-, -, ht⟩ := keyJudged_congr (hframe.key rfl) rq op arg
  have hs := keyServing_congr (hframe.acc rfl) (hframe.strct rfl) (hframe.freeCount rfl)
  rw [keyCmdWrite_taken h1 h11 (ht.trans htakes)]
  exact if_neg (by rw [hs, hserve]; exact Bool.false_ne_true)

end

/-! ### The commands -/

/-- A signature verifies by the keys alone. -/
theorem signedBy_congr {s t : State} (h : t.key = s.key) (msg : List Byte) (not_ : Nat) :
    t.signedBy msg not_ = s.signedBy msg not_ := by
  have hslot (k : Nat) : t.slot k = s.slot k := by rw [State.slot, State.slot, h]
  have hpair (k : Nat) (d sig : List Byte) : t.pairVerifies k d sig = s.pairVerifies k d sig := by
    rw [State.pairVerifies, State.pairVerifies, State.imgPair, State.imgPair, slotReason_congr h, slotReason_congr h, hslot,
      hslot]
  have hsig : t.sigBytes = s.sigBytes := by rw [State.sigBytes, State.sigBytes, h]
  simp only [State.signedBy, hpair, hsig]

/-- So do the messages that are signed, but for the serial and the perturbation mask. -/
theorem messages_congr {s t : State} (hkey : t.key = s.key) (hfab : t.fab = s.fab) (hpert : t.pert = s.pert) :
    (∀ k flag body, t.endorseMsg k flag body = s.endorseMsg k flag body) ∧ ∀ pert, t.ticketMsg pert = s.ticketMsg pert := by
  have hserial : t.serialBytes = s.serialBytes := by rw [State.serialBytes, State.serialBytes, hfab]
  refine ⟨fun k flag body => ?_, fun pert => ?_⟩
  · rw [State.endorseMsg, State.endorseMsg, hserial]
  · rw [State.ticketMsg, State.ticketMsg, hserial, hkey, hpert]

/-- The bytes of fresh words. -/
theorem length_randomBytes (s : State) (n : Nat) : (s.randomBytes n).length = 4 * n := by
  rw [State.randomBytes, List.length_flatMap]
  simp only [length_leBytes, List.map_const', List.length_range, List.sum_replicate, smul_eq_mul]
  omega

/-- A command that ends with its result. -/
theorem keyEnd_spec (code : Nat) (s : State) :
    (keyEnd code s).key = { s.key with state := .done, code := code, job := none } ∧
      bit ((keyEnd code s).head .key).irq 0 = true :=
  ⟨(frame_setIrq _ _ _).key rfl, bit_setIrq _ (by decide)⟩

/-- A slot that serves its command. -/
theorem withSlot_serves {op k flag : Nat} {f : State → State} {s : State} (h : s.slotReason k flag = 0) :
    withSlot op k flag f s = f (useSlot k s) := by
  rw [withSlot, h]
  rfl

/-- One that does not. -/
theorem withSlot_refuses {op k flag : Nat} {f : State → State} {s : State} (h : s.slotReason k flag ≠ 0) :
    withSlot op k flag f s =
      keyEnd (if s.slotReason k flag = 2 then 2 else 1) (keyRefused k op (s.slotReason k flag) s) := by
  unfold withSlot
  split
  · contradiction
  · rename_i h2
    rw [h2]
    rfl
  · rename_i h2
    rw [if_neg h2]

/-- The refusal leaves the slots and KEY_BUF, and is entered. -/
theorem refusedSlot_spec (k op reason code : Nat) (s : State) :
    (keyEnd code (keyRefused k op reason s)).key = { s.key with state := .done, code := code, job := none } ∧
      bit ((keyEnd code (keyRefused k op reason s)).head .key).irq 0 = true ∧
      (s.canLog = true → (keyEnd code (keyRefused k op reason s)).hasEntry 0xC003 7 locKeyCore
        (pack64 [(0, k), (8, op), (16, reason)]) = true) := by
  obtain ⟨hkey, hirq⟩ := keyEnd_spec code (keyRefused k op reason s)
  refine ⟨?_, hirq, fun hlog => ?_⟩
  · rw [hkey, (frame_keyRefused _ _ _ _).key rfl]
  · rw [hasEntry_congr ((frame_keyEnd _ _).tally rfl)]
    exact hasEntry_logEv hlog (by decide) (by decide)

/-- The use of a slot counts in the slot alone. -/
theorem useSlot_key (k : Nat) (s : State) :
    (useSlot k s).key = { s.key with slot := updNat s.key.slot k fun x => { x with uses := satInc x.uses } } :=
  (frame_bump _ _ _ _ _).key rfl

/-- A command of the mailbox that uses a slot: `out` is what it will answer. -/
structure SlotCommand (op k flag : Nat) (s w t : State) : Prop where
  served : s.slotReason k flag = 0 → ∃ j, t.key.state = .busy ∧ t.key.job = some j ∧ j.op = op ∧ j.slot = k ∧
    t.key.slot = (useSlot k s).key.slot ∧ t.key.buf = s.key.buf ∧ t = { useSlot k w with key := t.key }
  refused : s.slotReason k flag ≠ 0 → t.key.state = .done ∧ t.key.job = none ∧ t.key.slot = s.key.slot ∧
    t.key.buf = s.key.buf ∧ t.key.code = (if s.slotReason k flag = 2 then 2 else 1) ∧ bit (t.head .key).irq 0 = true ∧
    (s.canLog = true → t.hasEntry 0xC003 7 locKeyCore (pack64 [(0, k), (8, op), (16, s.slotReason k flag)]) = true)

/-- Such a command from the state `w` after its turn. -/
theorem withSlot_command {op k flag : Nat} {out : State → List Byte} {s w : State} (hkey : w.key = s.key)
    (htally : w.tally = s.tally) :
    SlotCommand op k flag s w (withSlot op k flag (fun x => keyTake ⟨op, k, 0, x.key.arg, 0, out x⟩ x) w) := by
  have hreason := slotReason_congr hkey k flag
  refine ⟨fun h => ?_, fun h => ?_⟩
  · rw [withSlot_serves (hreason.trans h)]
    have hslot : (useSlot k w).key.slot = (useSlot k s).key.slot := by rw [useSlot_key, useSlot_key, hkey]
    have hbuf : (useSlot k w).key.buf = s.key.buf := by rw [useSlot_key, hkey]
    exact ⟨_, rfl, rfl, rfl, rfl, hslot, hbuf, rfl⟩
  · rw [withSlot_refuses (by rw [hreason]; exact h), hreason]
    obtain ⟨hend, hirq, hentry⟩ := refusedSlot_spec k op (s.slotReason k flag) (if s.slotReason k flag = 2 then 2 else 1) w
    rw [hkey] at hend
    rw [hend]
    exact ⟨rfl, rfl, rfl, rfl, rfl, hirq, fun hlog => hentry ((canLog_congr htally).trans hlog)⟩

section
variable {rq : Requester} {arg : Word} {s : State}

/-- The commands without a slot begin so. -/
theorem keyRun_plain (h : BitVec 5) (s : State) :
    keyRun (cmdWord 7 arg) h s = startSha s ∧ keyRun (cmdWord 8 arg) h s = startRandom s ∧
      keyRun (cmdWord 9 arg) h s = startAdvance s ∧ keyRun (cmdWord 10 arg) h s = startTicket s ∧
      keyRun (cmdWord 11 arg) h s = startTclear h s := by
  refine ⟨?_, ?_, ?_, ?_, ?_⟩
  all_goals
    unfold keyRun
    rw [field_cmdWord_op (by decide)]
    rfl

/-- So do those with one. -/
theorem keyRun_slot (h : BitVec 5) (s : State) :
    keyRun (cmdWord 3 arg) h s = startAttest (field arg 8 6) s ∧
      keyRun (cmdWord 4 arg) h s = startCipher 4 (field arg 8 6) s ∧
      keyRun (cmdWord 5 arg) h s = startCipher 5 (field arg 8 6) s ∧
      keyRun (cmdWord 6 arg) h s = startCipher 6 (field arg 8 6) s := by
  refine ⟨?_, ?_, ?_, ?_⟩
  all_goals
    unfold keyRun
    rw [field_cmdWord_op (by decide), field_cmdWord_slot (by decide)]
    rfl

end

/-- ADVANCE to a state that Table 18.3 does not name. -/
theorem startAdvance_refused {s : State} (h : s.key.arg.toNat % 16 ∉ nextStates s.key.lcs) :
    startAdvance s = keyEnd 1 (setErr .key 5 s) := by
  have hno : (!(nextStates s.key.lcs).contains (s.key.arg.toNat % 16)) = true := by
    rw [Bool.not_eq_true', List.contains_eq_mem, decide_eq_false_iff_not]
    exact h
  exact if_pos hno

/-- ADVANCE to one that it names, with the endorsement where one is needed. -/
theorem startAdvance_takes {s : State} (h : s.key.arg.toNat % 16 ∈ nextStates s.key.lcs)
    (hsigned : s.key.lcs ≠ 4 ∨ s.key.provision = true ∨
      s.signedBy (s.endorseMsg 0 0 [BitVec.ofNat 8 (s.key.arg.toNat % 16)]) 64 = true) :
    startAdvance s = keyTake ⟨9, 0, 0, s.key.arg, 0, []⟩ s := by
  have hyes : ¬(!(nextStates s.key.lcs).contains (s.key.arg.toNat % 16)) = true := by
    rw [Bool.not_eq_true', List.contains_eq_mem, decide_eq_false_iff_not, not_not]
    exact h
  have hend : ¬(s.key.lcs = 4 ∧ (!s.key.provision) = true ∧
      (!s.signedBy (s.endorseMsg 0 0 [BitVec.ofNat 8 (s.key.arg.toNat % 16)]) 64) = true) := by
    rintro ⟨h4, hp, hs⟩
    rcases hsigned with hl | hl | hl
    · exact hl h4
    · rw [hl] at hp
      exact nomatch hp
    · rw [hl] at hs
      exact nomatch hs
  exact (if_neg hyes).trans (if_neg hend)

/-- TICKET while the generator is sound and the mask is not one that the state in force refuses. -/
theorem startTicket_eq {s : State} (htrng : s.key.trngFailed = false)
    (hsafe : ¬(bit s.key.arg 0 = true ∧ s.key.lcs = 4 ∧ unsafeMask s.pert.mask = true)) :
    startTicket s = if s.signedBy (s.ticketMsg (bit s.key.arg 0)) 64 then
        keyTake ⟨10, 0, s.pert.mask.toNat, s.key.arg, 0, []⟩ s
      else keyEnd 1 (logEv 0xC00B 7 locKeyCore (pack64 [(0, b01 (bit s.key.arg 0)), (1, 1)]) s) := by
  have hsound : ¬s.key.trngFailed = true := by
    rw [htrng]
    exact Bool.false_ne_true
  exact (if_neg hsound).trans (if_neg hsafe)

/-- An error bit that is set and then left. -/
theorem bit_keyEnd_setErr {b : Nat} (hb : b < 32) (code : Nat) (s : State) :
    bit ((keyEnd code (setErr .key b s)).head .key).err b = true := by
  have hkept (t : State) : ((keyEnd code t).head .key).err = (t.head .key).err := setIrq_err .key 0 _
  rw [hkept, setErr_err, bit_setBit_self _ _ hb]

section
variable {s w : State} (hkey : w.key = s.key)
include hkey

/-- SHA256 begins. -/
theorem startSha_spec : ∃ j, (startSha w).key.state = .busy ∧ (startSha w).key.job = some j ∧
    j.out = sha256 (s.bufBytes (s.key.arg.toNat % 2048)) ∧ startSha w = { w with key := (startSha w).key } := by
  refine ⟨_, rfl, rfl, ?_, rfl⟩
  rw [← hkey]
  show sha256 (w.bufBytes _) = _
  rw [State.bufBytes, State.bufBytes, hkey]

/-- RANDOM begins, or is refused while the generator fails. -/
theorem startRandom_spec :
    (s.key.trngFailed = false → ∃ j, (startRandom w).key.state = .busy ∧ (startRandom w).key.job = some j ∧
      j.out.length = 4 * (s.key.arg.toNat % 512)) ∧
    (s.key.trngFailed = true → (startRandom w).key.state = .done ∧ (startRandom w).key.code = 3 ∧
      (startRandom w).key.buf = s.key.buf) := by
  rw [← hkey]
  refine ⟨fun h => ?_, fun h => ?_⟩
  · have heq : startRandom w = keyTake ⟨8, 0, 0, w.key.arg, 0, w.randomBytes (w.key.arg.toNat % 512)⟩
        { w with freeCount := w.freeCount + w.key.arg.toNat % 512 } := if_neg (by rw [h]; exact Bool.false_ne_true)
    rw [heq]
    exact ⟨_, rfl, rfl, length_randomBytes w _⟩
  · have heq : startRandom w = keyEnd 3 w := if_pos h
    rw [heq, (keyEnd_spec 3 w).1]
    exact ⟨rfl, rfl, rfl⟩

/-- ADVANCE begins, or is refused where Table 18.3 does not name the state. -/
theorem startAdvance_spec (hfab : w.fab = s.fab) (hpert : w.pert = s.pert) :
    (s.key.arg.toNat % 16 ∈ nextStates s.key.lcs →
      (s.key.lcs ≠ 4 ∨ s.key.provision = true ∨
        s.signedBy (s.endorseMsg 0 0 [BitVec.ofNat 8 (s.key.arg.toNat % 16)]) 64 = true) →
      ∃ j, (startAdvance w).key.state = .busy ∧ (startAdvance w).key.job = some j ∧ j.op = 9 ∧
        (startAdvance w).key.lcs = s.key.lcs ∧ startAdvance w = { w with key := (startAdvance w).key }) ∧
    (s.key.arg.toNat % 16 ∉ nextStates s.key.lcs →
      (startAdvance w).key.state = .done ∧ (startAdvance w).key.code = 1 ∧ (startAdvance w).key.fuse = s.key.fuse ∧
        bit ((startAdvance w).head .key).err 5 = true) := by
  obtain ⟨hendorse, -⟩ := messages_congr hkey hfab hpert
  rw [← hendorse, ← signedBy_congr hkey, ← hkey]
  refine ⟨fun hnext hsigned => ?_, fun hnext => ?_⟩
  · rw [startAdvance_takes hnext hsigned]
    exact ⟨_, rfl, rfl, rfl, rfl, rfl⟩
  · rw [startAdvance_refused hnext, (keyEnd_spec 1 (setErr .key 5 w)).1, (frame_setErr .key 5 w).key rfl]
    exact ⟨rfl, rfl, rfl, bit_keyEnd_setErr (by decide) 1 w⟩

/-- TICKET begins with its signature, and is refused without. -/
theorem startTicket_spec (hfab : w.fab = s.fab) (hpert : w.pert = s.pert) (htrng : s.key.trngFailed = false)
    (hsafe : ¬(bit s.key.arg 0 = true ∧ s.key.lcs = 4 ∧ unsafeMask s.pert.mask = true)) :
    (s.signedBy (s.ticketMsg (bit s.key.arg 0)) 64 = true →
      ∃ j, (startTicket w).key.state = .busy ∧ (startTicket w).key.job = some j ∧ j.op = 10 ∧
        (startTicket w).key.debug = s.key.debug ∧ startTicket w = { w with key := (startTicket w).key }) ∧
    (s.signedBy (s.ticketMsg (bit s.key.arg 0)) 64 = false →
      (startTicket w).key.state = .done ∧ (startTicket w).key.code = 1 ∧ (startTicket w).key.debug = s.key.debug ∧
        (startTicket w).pert = s.pert) := by
  obtain ⟨-, hticket⟩ := messages_congr hkey hfab hpert
  rw [← hkey] at htrng
  rw [← hkey, ← hpert] at hsafe
  rw [← hticket, ← signedBy_congr hkey, ← hkey, startTicket_eq htrng hsafe]
  refine ⟨fun hsigned => ?_, fun hsigned => ?_⟩
  · rw [if_pos hsigned]
    exact ⟨_, rfl, rfl, rfl, rfl, rfl⟩
  · rw [if_neg (by rw [hsigned]; exact Bool.false_ne_true)]
    generalize hl : logEv 0xC00B 7 locKeyCore (pack64 [(0, b01 (bit w.key.arg 0)), (1, 1)]) w = l
    have hframe : Frame 262416 w l := by
      rw [← hl]
      exact frame_logEv _ _ _ _ w
    rw [(keyEnd_spec 1 l).1, hframe.key rfl, (frame_keyEnd 1 l).pert rfl, hframe.pert rfl]
    exact ⟨rfl, rfl, rfl, hpert⟩

/-- TCLEAR begins, or is refused while a source holds. -/
theorem startTclear_spec :
    (∃ j, (startTclear 0 w).key.state = .busy ∧ (startTclear 0 w).key.job = some j ∧ j.op = 11 ∧
      (startTclear 0 w).key.tamper = s.key.tamper) ∧
    ∀ h : BitVec 5, h ≠ 0 → (startTclear h w).key.state = .done ∧ (startTclear h w).key.code = 2 ∧
      (startTclear h w).key.tamper = s.key.tamper := by
  rw [← hkey]
  refine ⟨⟨_, rfl, rfl, rfl, rfl⟩, fun h hh => ?_⟩
  have heq : startTclear h w = keyEnd 2 w := if_neg hh
  rw [heq, (keyEnd_spec 2 w).1]
  exact ⟨rfl, rfl, rfl⟩

end

end Sys2Proof.Machine

/-! ### The statement -/

namespace Sys2Proof.Proofs

open Sys2Proof.Machine

/-- Settles O51: the mailbox judges a command by its requester, its word and what runs, all of which its turn leaves as they
are; then it waits for another block or begins by its OP. -/
theorem keyCommands : Obligations.KeyCommands := by
  unfold Obligations.KeyCommands
  refine ⟨fun rq arg h op c s hp hc => ?_, fun rq arg s hp hserve => ?_, fun rq arg s hp hserve => ?_⟩
  · have hexec : 1 ≤ op ∧ op ≤ 11 ∧ exec c s = .next (keyCmdWrite rq (cmdWord op arg) (if op = 11 then h else 0)
        (inTurn .key 0x020 rq.rank s)) := by
      simp only [List.mem_cons, Prod.mk.injEq, List.not_mem_nil, or_false] at hc
      rcases hc with ⟨rfl, rfl⟩ | ⟨rfl, rfl⟩ | ⟨rfl, rfl⟩ | ⟨rfl, rfl⟩ | ⟨rfl, rfl⟩ | ⟨rfl, rfl⟩ | ⟨rfl, rfl⟩ |
        ⟨rfl, rfl⟩ | ⟨rfl, rfl⟩ | ⟨rfl, rfl⟩ | ⟨rfl, rfl⟩
      all_goals exact ⟨by decide, by decide, next_whenOn hp⟩
    obtain ⟨h1, h11, hexec⟩ := hexec
    have hkey := (frame_inTurn .key 0x020 rq.rank s).key rfl
    obtain ⟨hw, hb, -⟩ := keyJudged_congr hkey rq op arg
    intro u
    refine ⟨fun hrq => ?_, fun hrq hbad => ?_, fun hrq hbad hbusy => ?_, fun htakes hsv => ?_⟩
    · rw [← hb]
      exact hexec.trans (congrArg _ (keyCmdWrite_refused h1 h11 (hw.trans hrq)))
    · exact hexec.trans (congrArg _ (keyCmdWrite_reserved h1 h11 (hw.trans hrq) (hb.trans hbad)))
    · exact hexec.trans (congrArg _ (keyCmdWrite_busy h1 h11 (hw.trans hrq) (hb.trans hbad)
        ((congrArg KeyBlk.state hkey).trans hbusy)))
    · exact hexec.trans (congrArg _ (keyCmd_waits h1 h11 htakes hsv))
  · have hframe := frame_keyTurn s rq
    have hkey := hframe.key rfl
    have hbegin {op : Nat} (h : BitVec 5) (h1 : 1 ≤ op) (h11 : op ≤ 11) (htakes : s.takesKeyCmd rq op arg = true) :
        whenOn (written .key 0x020 rq (keyCmdWrite rq (cmdWord op arg) h)) s = keyRun (cmdWord op arg) h (s.keyTurn rq) := by
      have hon := Host.Outcome.next.inj (next_whenOn (f := written .key 0x020 rq (keyCmdWrite rq (cmdWord op arg) h)) hp)
      exact hon.trans (keyCmd_begins h1 h11 htakes hserve)
    obtain ⟨hsha, hrandom, hadvance, hticket, hclear⟩ := keyRun_plain (arg := arg) 0 (s.keyTurn rq)
    have hclearAt (h : BitVec 5) := (keyRun_plain (arg := arg) h (s.keyTurn rq)).2.2.2.2
    intro u
    refine ⟨fun ht => ?_, fun ht hok => ?_, fun ht hbad => ?_, fun ht hnext hsigned => ?_, fun ht hnext => ?_,
      fun ht hok hsafe => ?_, fun ht => ⟨?_, fun h hh => ?_⟩⟩
    · obtain ⟨j, hj⟩ := startSha_spec hkey
      exact ⟨_, j, congrArg Host.Outcome.next ((hbegin 0 (by decide) (by decide) ht).trans hsha), hj⟩
    · obtain ⟨j, hj⟩ := (startRandom_spec hkey).1 hok
      exact ⟨_, j, congrArg Host.Outcome.next ((hbegin 0 (by decide) (by decide) ht).trans hrandom), hj⟩
    · exact ⟨_, congrArg Host.Outcome.next ((hbegin 0 (by decide) (by decide) ht).trans hrandom),
        (startRandom_spec hkey).2 hbad⟩
    · obtain ⟨j, hj⟩ := (startAdvance_spec hkey (hframe.fab rfl) (hframe.pert rfl)).1 hnext hsigned
      exact ⟨_, j, congrArg Host.Outcome.next ((hbegin 0 (by decide) (by decide) ht).trans hadvance), hj⟩
    · exact ⟨_, congrArg Host.Outcome.next ((hbegin 0 (by decide) (by decide) ht).trans hadvance),
        (startAdvance_spec hkey (hframe.fab rfl) (hframe.pert rfl)).2 hnext⟩
    · obtain ⟨hsigned, hunsigned⟩ := startTicket_spec hkey (hframe.fab rfl) (hframe.pert rfl) hok hsafe
      have hstate := (hbegin 0 (by decide) (by decide) ht).trans hticket
      refine ⟨fun h => ?_, fun h => ⟨_, congrArg Host.Outcome.next hstate, hunsigned h⟩⟩
      obtain ⟨j, hj⟩ := hsigned h
      exact ⟨_, j, congrArg Host.Outcome.next hstate, hj⟩
    · obtain ⟨j, hj⟩ := (startTclear_spec hkey).1
      exact ⟨_, j, congrArg Host.Outcome.next ((hbegin 0 (by decide) (by decide) ht).trans hclear), hj⟩
    · exact ⟨_, congrArg Host.Outcome.next ((hbegin h (by decide) (by decide) ht).trans (hclearAt h)),
        (startTclear_spec hkey).2 h hh⟩
  · have hframe := frame_keyTurn s rq
    have hkey := hframe.key rfl
    have htally := hframe.tally rfl
    have hcommand {op flag : Nat} {c : Instr} {out : State → List Byte} (h1 : 1 ≤ op) (h11 : op ≤ 11)
        (hc : exec c s = .next (keyCmdWrite rq (cmdWord op arg) 0 (inTurn .key 0x020 rq.rank s)))
        (hrun : ∀ w, keyRun (cmdWord op arg) 0 w = withSlot op (field arg 8 6) flag
          (fun x => keyTake ⟨op, field arg 8 6, 0, x.key.arg, 0, out x⟩ x) w) (ht : s.takesKeyCmd rq op arg = true) :
        ∃ t, exec c s = .next t ∧ SlotCommand op (field arg 8 6) flag s (s.keyTurn rq) t :=
      ⟨_, hc.trans (congrArg _ ((keyCmd_begins h1 h11 ht hserve).trans (hrun _))), withSlot_command hkey htally⟩
    have hused {op flag : Nat} {c : Instr} (h : ∃ t, exec c s = .next t ∧ SlotCommand op (field arg 8 6) flag s (s.keyTurn rq) t) :
        (s.slotReason (field arg 8 6) flag = 0 → ∃ t j, exec c s = .next t ∧ t.key.state = .busy ∧ t.key.job = some j ∧
          j.op = op ∧ j.slot = field arg 8 6 ∧ t.key.slot = (useSlot (field arg 8 6) s).key.slot ∧ t.key.buf = s.key.buf ∧
          t = { useSlot (field arg 8 6) (s.keyTurn rq) with key := t.key }) ∧
        (s.slotReason (field arg 8 6) flag ≠ 0 → ∃ t, exec c s = .next t ∧ t.key.state = .done ∧ t.key.job = none ∧
          t.key.slot = s.key.slot ∧ t.key.buf = s.key.buf ∧
          t.key.code = (if s.slotReason (field arg 8 6) flag = 2 then 2 else 1) ∧ bit (t.head .key).irq 0 = true ∧
          (s.canLog = true → t.hasEntry 0xC003 7 locKeyCore
            (pack64 [(0, field arg 8 6), (8, op), (16, s.slotReason (field arg 8 6) flag)]) = true)) := by
      obtain ⟨t, hexec, hserved, hrefused⟩ := h
      refine ⟨fun hr => ?_, fun hr => ⟨t, hexec, hrefused hr⟩⟩
      obtain ⟨j, hj⟩ := hserved hr
      exact ⟨t, j, hexec, hj⟩
    intro k used
    exact ⟨fun ht => hused (hcommand (by decide) (by decide) (next_whenOn hp) (fun w => (keyRun_slot 0 w).1) ht),
      fun ht => hused (hcommand (by decide) (by decide) (next_whenOn hp) (fun w => (keyRun_slot 0 w).2.1) ht),
      fun ht => hused (hcommand (by decide) (by decide) (next_whenOn hp) (fun w => (keyRun_slot 0 w).2.2.1) ht),
      fun ht => hused (hcommand (by decide) (by decide) (next_whenOn hp) (fun w => (keyRun_slot 0 w).2.2.2) ht)⟩

end Sys2Proof.Proofs
end

section
/-! SUPPORT. Writes to the key store, the end of a command, and tamper (R457 to R477), and the statement of 18_security.md
about the key store. -/

namespace Sys2Proof.Machine

/-! ### WRITE and ERASE begin -/

/-- The flag field is the operand's. -/
theorem field_cmdWord_flag {op : Nat} (hop : op < 16) (arg : Word) : field (cmdWord op arg) 16 5 = field arg 16 5 := by
  rw [field_eq_div_mod, field_eq_div_mod, cmdWord_toNat hop]
  omega

/-- WRITE and ERASE begin so. -/
theorem keyRun_write (arg : Word) (h : BitVec 5) (s : State) :
    keyRun (cmdWord 1 arg) h s = startWrite 1 (field arg 8 6) (field arg 16 5) s ∧
      keyRun (cmdWord 2 arg) h s = startWrite 2 (field arg 8 6) (field arg 16 5) s := by
  refine ⟨?_, ?_⟩
  all_goals
    unfold keyRun
    rw [field_cmdWord_op (by decide), field_cmdWord_slot (by decide), field_cmdWord_flag (by decide)]
    rfl

/-- Whether an endorsement is needed rests on the keys. -/
theorem needsEndorse_congr {s t : State} (h : t.key = s.key) (k flag : Nat) : t.needsEndorse k flag = s.needsEndorse k flag := by
  rw [State.needsEndorse, State.needsEndorse, State.slot, State.slot, h]

/-- KEY_DATA is cleared when a WRITE is taken. -/
def clearData (s : State) : State := modKey (fun b => { b with data := Vector.replicate 8 0 }) s

/-- An ERASE takes no flag and no key. -/
theorem startErase_eq (k flag : Nat) (s : State) : startWrite 2 k flag s =
    if s.needsEndorse k 0 ∧ !s.signedBy (s.endorseMsg k 0 (leBytes 32 0)) k then
      keyEnd 1 (keyRefused k 2 3 (setErr .key 4 s))
    else keyTake ⟨2, k, 0, s.key.arg, s.keyBits, []⟩ s := rfl

section
variable {s w : State} (hkey : w.key = s.key)
include hkey

/-- A WRITE of one flag that needs no endorsement. -/
theorem startWrite_begins {k flag : Nat} (hflag : oneFlag flag = true) (hno : s.needsEndorse k flag = false) :
    ∃ j, (startWrite 1 k flag w).key.state = .busy ∧ (startWrite 1 k flag w).key.job = some j ∧ j.op = 1 ∧ j.slot = k ∧
      j.flag = flag ∧ j.data = s.keyBits ∧ (startWrite 1 k flag w).key.data = Vector.replicate 8 0 ∧
      (startWrite 1 k flag w).key.slot = s.key.slot ∧ startWrite 1 k flag w = { w with key := (startWrite 1 k flag w).key } := by
  have hbits : s.keyBits = w.keyBits := by rw [State.keyBits, State.keyBits, hkey]
  have hno' : (clearData w).needsEndorse k flag = false := (needsEndorse_congr hkey k flag).trans hno
  have heq : startWrite 1 k flag w = keyTake ⟨1, k, flag, w.key.arg, w.keyBits, []⟩ (clearData w) := by
    unfold startWrite
    rw [if_neg (by rw [hflag]; exact fun h => Bool.false_ne_true h.2)]
    exact if_neg fun h => Bool.false_ne_true (hno'.symm.trans h.1)
  rw [heq, hbits, ← hkey]
  exact ⟨_, rfl, rfl, rfl, rfl, rfl, rfl, rfl, rfl, rfl⟩

/-- A WRITE of no flag or several. -/
theorem startWrite_noFlag {k flag : Nat} (hflag : oneFlag flag = false) :
    (startWrite 1 k flag w).key.state = .done ∧ (startWrite 1 k flag w).key.code = 1 ∧
      (startWrite 1 k flag w).key.job = none ∧ (startWrite 1 k flag w).key.slot = s.key.slot ∧
      (startWrite 1 k flag w).key.data = Vector.replicate 8 0 ∧ bit ((startWrite 1 k flag w).head .key).err 3 = true := by
  have heq : startWrite 1 k flag w = keyEnd 1 (keyRefused k 1 1 (setErr .key 3 (clearData w))) := by
    unfold startWrite
    exact if_pos ⟨rfl, by rw [hflag]; rfl⟩
  obtain ⟨hend, -⟩ := keyEnd_spec 1 (keyRefused k 1 1 (setErr .key 3 (clearData w)))
  have hkey' : (keyRefused k 1 1 (setErr .key 3 (clearData w))).key = (clearData w).key :=
    ((frame_keyRefused _ _ _ _).key rfl).trans ((frame_setErr _ _ _).key rfl)
  rw [heq, hend, hkey', ← hkey]
  refine ⟨rfl, rfl, rfl, rfl, rfl, ?_⟩
  have hrefused : ((keyRefused k 1 1 (setErr .key 3 (clearData w))).head .key) = (setErr .key 3 (clearData w)).head .key :=
    logEv_head _ _ _ _ _ _ (by decide)
  have hkept (t : State) : ((keyEnd 1 t).head .key).err = (t.head .key).err := setIrq_err .key 0 _
  rw [hkept, hrefused, setErr_err, bit_setBit_self _ _ (by decide)]

/-- An ERASE that needs no endorsement. -/
theorem startErase_begins {k flag : Nat} (hno : s.needsEndorse k 0 = false) :
    ∃ j, (startWrite 2 k flag w).key.state = .busy ∧ (startWrite 2 k flag w).key.job = some j ∧ j.op = 2 ∧ j.slot = k ∧
      (startWrite 2 k flag w).key.slot = s.key.slot ∧ startWrite 2 k flag w = { w with key := (startWrite 2 k flag w).key } := by
  have hno' : w.needsEndorse k 0 = false := (needsEndorse_congr hkey k 0).trans hno
  have heq : startWrite 2 k flag w = keyTake ⟨2, k, 0, w.key.arg, w.keyBits, []⟩ w :=
    (startErase_eq k flag w).trans (if_neg fun h => Bool.false_ne_true (hno'.symm.trans h.1))
  rw [heq, ← hkey]
  exact ⟨_, rfl, rfl, rfl, rfl, rfl, rfl⟩

/-- One that lacks it. -/
theorem startErase_refused {k flag : Nat} (hfab : w.fab = s.fab) (hpert : w.pert = s.pert) (hneeds : s.needsEndorse k 0 = true)
    (hunsigned : s.signedBy (s.endorseMsg k 0 (leBytes 32 0)) k = false) :
    (startWrite 2 k flag w).key.state = .done ∧ (startWrite 2 k flag w).key.code = 1 ∧
      (startWrite 2 k flag w).key.slot = s.key.slot := by
  obtain ⟨hendorse, -⟩ := messages_congr hkey hfab hpert
  rw [← hendorse, ← signedBy_congr hkey] at hunsigned
  have hneeds' : w.needsEndorse k 0 = true := (needsEndorse_congr hkey k 0).trans hneeds
  have heq : startWrite 2 k flag w = keyEnd 1 (keyRefused k 2 3 (setErr .key 4 w)) :=
    (startErase_eq k flag w).trans (if_pos ⟨hneeds', (Bool.not_eq_true' _).mpr hunsigned⟩)
  obtain ⟨hend, -⟩ := keyEnd_spec 1 (keyRefused k 2 3 (setErr .key 4 w))
  have hkey' : (keyRefused k 2 3 (setErr .key 4 w)).key = w.key :=
    ((frame_keyRefused _ _ _ _).key rfl).trans ((frame_setErr _ _ _).key rfl)
  rw [heq, hend, hkey', hkey]
  exact ⟨rfl, rfl, rfl⟩

end

/-! ### A command runs to its end -/

/-- A slot after it is rewritten, and the others. -/
theorem slot_modSlot (k n : Nat) (f : KeySlot → KeySlot) (s : State) :
    (modSlot k f s).slot n = if k = n ∧ n < 64 then f (s.slot n) else s.slot n :=
  getNat_updNat s.key.slot k n f default

/-- Both copies of a slot hold the same. -/
theorem writeSlot_done (j : KeyJob) (lcs : Nat) (x : KeySlot) :
    writeSlot j lcs 630 x = { x with a := some (newCopy j lcs x), b := some (newCopy j lcs x) } := rfl

/-- That copy is then in force. -/
theorem inForce_of_same (x : KeySlot) (n : KeyCopy) : ({ x with a := some n, b := some n } : KeySlot).inForce = n := by
  rw [KeySlot.inForce]
  exact if_neg (Nat.lt_irrefl _)

/-- The effect of a WRITE or an ERASE. -/
theorem keyEffect_write {j : KeyJob} (hop : j.op = 1 ∨ j.op = 2) (s : State) :
    (keyEffect j s).key = (modSlot j.slot (writeSlot j s.key.lcs 630) s).key := by
  unfold keyEffect
  rcases hop with h | h
  · rw [h]
    exact (frame_logEv _ _ _ _ _).key rfl
  · rw [h]
    exact (frame_logEv _ _ _ _ _).key rfl

/-- What a command answers goes to KEY_BUF alone. -/
theorem putBuf_slot (bs : List Byte) (s : State) : (putBuf bs s).key.slot = s.key.slot := by
  simp only [putBuf, modKey]

/-- Any other command leaves the slots. -/
theorem keyEffect_slot {j : KeyJob} (hop : ¬(j.op = 1 ∨ j.op = 2)) (s : State) : (keyEffect j s).key.slot = s.key.slot := by
  have hlog (code sev : Nat) (loc : Word) (p : DWord) (t : State) (ht : t.key.slot = s.key.slot) :
      (logEv code sev loc p t).key.slot = s.key.slot := by
    rw [(frame_logEv _ _ _ _ t).key rfl, ht]
  unfold keyEffect
  split
  · rename_i h
    exact absurd (.inl h) hop
  · rename_i h
    exact absurd (.inr h) hop
  · exact hlog _ _ _ _ (putBuf j.out s) (putBuf_slot j.out s)
  · refine hlog _ _ _ _ (modKey (fun b => b.burn 3 (j.arg.toNat % 16)) s) ?_
    rfl
  · refine hlog _ _ _ _ _ ?_
    split <;> rfl
  · refine hlog _ _ _ _ (modKey (fun b => { b with
      tamper := 0, withheld := b.debug && (b.lcs == 3 || b.lcs == 4) }) s) ?_
    rfl
  · exact putBuf_slot j.out s

/-- TCLEAR clears the tamper latch. -/
theorem keyEffect_tclear {j : KeyJob} (hop : j.op = 11) (s : State) : (keyEffect j s).key.tamper = 0 := by
  unfold keyEffect
  rw [hop]
  exact congrArg KeyBlk.tamper ((frame_logEv _ _ _ _ _).key rfl)

/-- The slots at the end of a command are those of its effect. -/
theorem slot_keyEnd (code : Nat) (s : State) (k : Nat) : (keyEnd code s).slot k = s.slot k := by
  rw [State.slot, (keyEnd_spec code s).1]
  rfl

/-- The slot of a command that has run to its end. -/
theorem slot_keyCmdDone {j : KeyJob} (s : State) (k : Nat) : (keyEnd 0 (keyEffect j s)).slot k =
    if (j.op = 1 ∨ j.op = 2) ∧ j.slot = k ∧ k < 64 then writeSlot j s.key.lcs 630 (s.slot k) else s.slot k := by
  rw [slot_keyEnd]
  by_cases hop : j.op = 1 ∨ j.op = 2
  · have heq : (keyEffect j s).slot k = (modSlot j.slot (writeSlot j s.key.lcs 630) s).slot k := by
      rw [State.slot, State.slot, keyEffect_write hop]
    rw [heq, slot_modSlot]
    simp only [hop, true_and]
  · rw [if_neg fun h => hop h.1, State.slot, State.slot, keyEffect_slot hop]

/-- A slot that a WRITE has written. -/
theorem writeSlot_of_write {j : KeyJob} (hop : j.op = 1) (lcs : Nat) (x : KeySlot) :
    (writeSlot j lcs 630 x).valid = true ∧ (writeSlot j lcs 630 x).key = j.data ∧ (writeSlot j lcs 630 x).flag = j.flag ∧
      (writeSlot j lcs 630 x).root = lcs ∧ (writeSlot j lcs 630 x).seq = x.seq + 1 ∧
      (writeSlot j lcs 630 x).a = (writeSlot j lcs 630 x).b := by
  have hcopy : newCopy j lcs x = ⟨true, j.flag, j.data, lcs, x.seq + 1, 0⟩ := if_pos hop
  rw [writeSlot_done, KeySlot.valid, KeySlot.key, KeySlot.flag, KeySlot.root, KeySlot.seq, inForce_of_same, hcopy]
  exact ⟨rfl, rfl, rfl, rfl, rfl, rfl⟩

/-- A slot that an ERASE has emptied. -/
theorem writeSlot_of_erase {j : KeyJob} (hop : j.op = 2) (lcs : Nat) (x : KeySlot) :
    (writeSlot j lcs 630 x).valid = false ∧ (writeSlot j lcs 630 x).key = 0 ∧ (writeSlot j lcs 630 x).seq = x.seq + 1 := by
  have hcopy : newCopy j lcs x = ⟨false, 0, 0, x.root, x.seq + 1, 0⟩ := if_neg (by rw [hop]; decide)
  rw [writeSlot_done, KeySlot.valid, KeySlot.key, KeySlot.seq, inForce_of_same, hcopy]
  exact ⟨rfl, rfl, rfl⟩

/-! ### Tamper -/

/-- The tamper latch, the withheld set and the command in progress stand, and what is pending, set or entered stays so. -/
structure LatchKept (s t : State) : Prop where
  tamper : t.key.tamper = s.key.tamper
  withheld : t.key.withheld = s.key.withheld
  job : t.key.job = s.key.job
  grows : Grows s t

/-- Nothing happens. -/
theorem LatchKept.refl (s : State) : LatchKept s s := ⟨rfl, rfl, rfl, Grows.refl s⟩

/-- One after another. -/
theorem LatchKept.trans {s t u : State} (h : LatchKept s t) (g : LatchKept t u) : LatchKept s u :=
  ⟨g.tamper.trans h.tamper, g.withheld.trans h.withheld, g.job.trans h.job, g.grows.step h.grows⟩

/-- One of two. -/
theorem LatchKept.ite {c : Prop} [Decidable c] {s t u : State} (ht : LatchKept s t) (hu : LatchKept s u) :
    LatchKept s (if c then t else u) := by
  split
  · exact ht
  · exact hu

/-- A step outside the key core. -/
theorem latchKept_of_key {s t : State} (h : t.key = s.key) (hg : Grows s t) : LatchKept s t :=
  ⟨congrArg KeyBlk.tamper h, congrArg KeyBlk.withheld h, congrArg KeyBlk.job h, hg⟩

/-- An entry. -/
theorem latchKept_logEv (code sev : Nat) (loc : Word) (p : DWord) (s : State) : LatchKept s (logEv code sev loc p s) :=
  latchKept_of_key ((frame_logEv code sev loc p s).key rfl) (grows_logEv code sev loc p s)

/-- A slot that is marked. -/
theorem latchKept_markSlot (k : Nat) (s : State) : LatchKept s (markSlot k s) := by
  unfold markSlot
  extract_lets m mark t
  have ht : LatchKept s t := ⟨rfl, rfl, rfl, grows_of_same rfl rfl rfl⟩
  clear_value t
  exact LatchKept.ite (ht.trans (latchKept_logEv _ _ _ _ t)) ht

/-- A command that is broken off. -/
theorem latchKept_breakWrite (j : KeyJob) (elapsed : Nat) (s : State) : LatchKept s (breakWrite j elapsed s) := by
  unfold breakWrite
  exact LatchKept.ite ⟨rfl, rfl, rfl, grows_of_same rfl rfl rfl⟩
    (LatchKept.ite ⟨rfl, rfl, rfl, grows_of_same rfl rfl rfl⟩ (LatchKept.refl s))

/-- A tamper leaves no command in progress. -/
theorem abortKey_spec (elapsed : Nat) (s : State) :
    (abortKey elapsed s).key.tamper = s.key.tamper ∧ (abortKey elapsed s).key.withheld = s.key.withheld ∧
      (abortKey elapsed s).key.job = none ∧ Grows s (abortKey elapsed s) := by
  unfold abortKey
  split
  case h_1 hnone => exact ⟨rfl, rfl, hnone, Grows.refl s⟩
  case h_2 j hj =>
    extract_lets t u
    have ht : LatchKept s t := (latchKept_breakWrite j elapsed s).trans ⟨rfl, rfl, rfl, grows_of_same rfl rfl rfl⟩
    clear_value t
    have hu : LatchKept t u := LatchKept.ite (latchKept_markSlot j.slot t) (LatchKept.refl t)
    clear_value u
    have hlog := (ht.trans hu).trans (latchKept_logEv 0xC007 7 locKeyCore (pack64 [(0, j.slot), (8, j.op)]) u)
    generalize logEv 0xC007 7 locKeyCore (pack64 [(0, j.slot), (8, j.op)]) u = v at hlog
    have hgrows : Grows v (keyEnd 4 v) := (grows_setIrq _ _ _).step (grows_of_same rfl rfl rfl)
    rw [(keyEnd_spec 4 v).1]
    exact ⟨hlog.tamper, hlog.withheld, rfl, hgrows.step hlog.grows⟩

/-- A tamper latches its sources outside REST. -/
theorem keyTamper_spec (src : BitVec 5) (elapsed : Nat) (s : State) :
    (keyTamper src elapsed false s).key.tamper = s.key.tamper ||| src ∧ (keyTamper src elapsed false s).key.withheld = true ∧
      (keyTamper src elapsed false s).key.job = none ∧ bit ((keyTamper src elapsed false s).head .key).irq 1 = true ∧
      (s.canLog = true → (keyTamper src elapsed false s).logged 0xC005 7 (locTile 3 7)
        (pack64 [(0, (s.key.tamper ||| src).toNat)])) := by
  unfold keyTamper
  extract_lets now t
  rw [if_neg Bool.false_ne_true]
  have htamper : t.key.tamper = s.key.tamper ||| src := rfl
  have hwithheld : t.key.withheld = true := rfl
  have htally : t.tally = s.tally := rfl
  clear_value t
  rw [htamper]
  have hlatch : LatchKept t (setIrq .key 1
      (logEv 0xC005 7 (locTile 3 7) (pack64 [(0, (s.key.tamper ||| src).toNat)]) t)) :=
    (latchKept_logEv _ _ _ _ t).trans (latchKept_of_key ((frame_setIrq _ _ _).key rfl) (grows_setIrq _ _ _))
  have hirq : bit ((setIrq .key 1
      (logEv 0xC005 7 (locTile 3 7) (pack64 [(0, (s.key.tamper ||| src).toNat)]) t)).head .key).irq 1 = true :=
    bit_setIrq _ (by decide)
  have hlogged (h : s.canLog = true) : (setIrq .key 1
      (logEv 0xC005 7 (locTile 3 7) (pack64 [(0, (s.key.tamper ||| src).toNat)]) t)).logged 0xC005 7 (locTile 3 7)
        (pack64 [(0, (s.key.tamper ||| src).toNat)]) :=
    (grows_setIrq _ _ _).entries (logged_logEv ((canLog_congr htally).trans h) (by decide) (by decide))
  generalize setIrq .key 1
    (logEv 0xC005 7 (locTile 3 7) (pack64 [(0, (s.key.tamper ||| src).toNat)]) t) = u at hlatch hirq hlogged
  obtain ⟨atamper, awithheld, ajob, agrows⟩ := abortKey_spec elapsed u
  exact ⟨atamper.trans (hlatch.tamper.trans htamper), awithheld.trans (hlatch.withheld.trans hwithheld), ajob,
    agrows.irq _ _ hirq, fun h => agrows.entries (hlogged h)⟩

/-- In REST they are only latched, with their instant. -/
theorem keyTamper_rest (src : BitVec 5) (elapsed : Nat) (s : State) :
    (keyTamper src elapsed true s).key.tamper = s.key.tamper ||| src ∧ (keyTamper src elapsed true s).key.withheld = true ∧
      (keyTamper src elapsed true s).pwr.restTampers =
        s.pwr.restTampers ++ [(BitVec.ofNat 64 s.tb0Rest, s.key.tamper ||| src)] ∧
      (keyTamper src elapsed true s).tally = s.tally ∧ (keyTamper src elapsed true s).heads = s.heads ∧
      (keyTamper src elapsed true s).key.slot = s.key.slot ∧
      (keyTamper src elapsed true s).pwr.mode = s.pwr.mode :=
  ⟨rfl, rfl, rfl, rfl, rfl, rfl, rfl⟩

/-- A withdrawal only adds. -/
theorem grows_withdraw (src : Fin 16) (o : Nat) (w : Word) (s : State) : Grows s (withdraw src o w s) := by
  unfold withdraw
  split
  · exact grows_refuseCmd _ _ _ _ s
  · exact Grows.ite (grows_refuseCmd _ _ _ _ s) ((frame_modOut _ _ s).grows rfl rfl rfl)

/-- A session ends on its reader, and no other begins. -/
theorem endSession_spec (r : Fin 2) (cause : Nat) (s : State) :
    ((endSession r cause s).acc.rd[r]).sess = none ∧
      (∀ q : Fin 2, (s.acc.rd[q]).sess = none → ((endSession r cause s).acc.rd[q]).sess = none) ∧
      Grows s (endSession r cause s) := by
  unfold endSession
  split
  case isTrue h => exact ⟨Option.isNone_iff_eq_none.mp h, fun _ hq => hq, Grows.refl s⟩
  case isFalse h =>
    extract_lets t u other kept
    have ht : (t.acc.rd[r]).sess = none ∧ (∀ q : Fin 2, (s.acc.rd[q]).sess = none → (t.acc.rd[q]).sess = none) ∧
        Grows s t := by
      have hself := congrArg Reader.sess (upd_self s.acc.rd r fun x => { x with
        sess := none, fresh := false, sessCause := cause })
      refine ⟨hself, fun q hq => ?_, grows_of_same rfl rfl rfl⟩
      by_cases hqr : q = r
      · rw [hqr]
        exact hself
      · have hother := congrArg Reader.sess (upd_other s.acc.rd (fun x => { x with
          sess := none, fresh := false, sessCause := cause }) hqr)
        exact hother.trans hq
    clear_value t
    have hu : u.acc = t.acc ∧ Grows t u := ⟨((frame_setIrq _ _ _).acc rfl).trans ((frame_logEv _ _ _ _ t).acc rfl),
      (grows_setIrq _ _ _).step (grows_logEv _ _ _ _ t)⟩
    clear_value kept u
    have hfold (l : List Nat) : (l.foldl (fun s o => withdraw 8 o 0 s) u).acc = u.acc :=
      foldl_keeps (fun v o _ => (frame_withdraw 8 o 0 v).acc rfl) u
    have hgrows (l : List Nat) := Grows.foldl (f := fun s o => withdraw 8 o 0 s) (fun v o => grows_withdraw 8 o 0 v) l u
    rw [hfold, hu.1]
    exact ⟨ht.1, ht.2.1, (hgrows _).step (hu.2.step ht.2.2)⟩

/-- No poll runs, and no session. -/
def AccQuiet (s : State) : Prop := s.acc.poll = none ∧ ∀ r : Fin 2, (s.acc.rd[r]).sess = none

/-- Polls that stop leave the sessions. -/
theorem stopPolls_quiet {s : State} (h : ∀ r : Fin 2, (s.acc.rd[r]).sess = none) : AccQuiet (stopPolls s) := by
  refine ⟨rfl, fun r => ?_⟩
  have hmap := congrArg Reader.sess (map_getElem s.acc.rd (fun x => { x with want := false, armed := false }) r)
  exact hmap.trans (h r)

/-- The access engine's part of a tamper. -/
theorem accTamper_spec (s : State) : LatchKept s (accTamper s) ∧ AccQuiet (accTamper s) := by
  unfold accTamper
  extract_lets t
  have ht : LatchKept s t := by
    subst t
    split
    · exact (latchKept_markSlot _ s).trans (latchKept_logEv _ _ _ _ _)
    · exact LatchKept.refl s
  clear_value t
  obtain ⟨h0, -, hg0⟩ := endSession_spec 0 3 t
  obtain ⟨h1, hkept, hg1⟩ := endSession_spec 1 3 (endSession 0 3 t)
  have hends : LatchKept t (endSessions 3 t) :=
    latchKept_of_key (((frame_endSession 1 3 _).key rfl).trans ((frame_endSession 0 3 t).key rfl)) (hg1.step hg0)
  have hsess (r : Fin 2) : ((endSessions 3 t).acc.rd[r]).sess = none := by
    fin_cases r
    · exact hkept 0 h0
    · exact h1
  generalize endSessions 3 t = u at hends hsess
  exact ⟨(ht.trans hends).trans ⟨rfl, rfl, rfl, grows_of_same rfl rfl rfl⟩, stopPolls_quiet hsess⟩

/-- The check of the access keys keeps it quiet. -/
theorem accCheck_quiet {s : State} (h : AccQuiet s) : AccQuiet (accCheck s) := by
  unfold accCheck
  extract_lets bad was t
  have ht : AccQuiet t := h
  clear_value t
  split
  · exact ht
  · refine stopPolls_quiet fun r => ?_
    split
    · exact ht.2 r
    · have hacc : (refuseBlock t.cfg.tokKey 2 (logEv 0xB00D 6 locAccess (pack64 [(0, t.cfg.tokKey)]) t)).acc = t.acc :=
        ((frame_refuseBlock _ _ _).acc rfl).trans ((frame_logEv _ _ _ _ t).acc rfl)
      exact (congrArg (fun a : AccBlk => (a.rd[r]).sess) hacc).trans (ht.2 r)

/-- An image that is refused only adds. -/
theorem grows_rejectEntries (slot : Bool) (reason : Nat) (s : State) : Grows s (rejectEntries slot reason s) := by
  unfold rejectEntries
  extract_lets b t
  have ht : Grows s t := by
    refine Grows.ite ?_ (Grows.refl s)
    unfold refuseImage
    exact Grows.ite (Grows.refl s) (Grows.ite (grows_refuseBlock _ _ s) (Grows.ite (grows_refuseBlock _ _ s) (Grows.refl s)))
  clear_value t
  exact (grows_setIrq _ _ _).step ((grows_logEv _ _ _ _ t).step ht)

/-- A tamper during the check of an image. -/
theorem latchKept_tamperImage (s : State) : LatchKept s (tamperImage s) := by
  have hfree : LatchKept s (tickFree s) := latchKept_of_key rfl (grows_of_same rfl rfl rfl)
  unfold tamperImage
  split
  · exact LatchKept.refl s
  · split
    · extract_lets k t u v
      have hu : LatchKept s u := (hfree.trans (latchKept_markSlot k (tickFree s))).trans (latchKept_logEv _ _ _ _ t)
      clear_value u
      have hv : LatchKept s v := hu.trans (latchKept_of_key rfl (grows_of_same rfl rfl rfl))
      clear_value v
      have hmod : LatchKept v (modStruct (fun x => { x with shadow := .failed, reason := 9, shImage := none }) v) :=
        latchKept_of_key rfl (grows_of_same rfl rfl rfl)
      generalize modStruct (fun x => { x with shadow := .failed, reason := 9, shImage := none }) v = x at hmod ⊢
      exact (hv.trans hmod).trans
        (latchKept_of_key ((frame_rejectEntries _ _ x).key rfl) (grows_rejectEntries _ _ x))
    · exact hfree

/-- A tamper during the verification of the firmware. -/
theorem latchKept_tamperReload (s : State) : LatchKept s (tamperReload s) := by
  have hfree : LatchKept s (tickFree s) := latchKept_of_key rfl (grows_of_same rfl rfl rfl)
  unfold tamperReload
  split
  · exact LatchKept.refl s
  · split
    · extract_lets k
      exact ((hfree.trans (latchKept_markSlot k (tickFree s))).trans (latchKept_logEv _ _ _ _ _)).trans
        (latchKept_of_key rfl (grows_of_same rfl rfl rfl))
    · exact hfree

/-- The end of a REST request only adds. -/
theorem grows_cancelRest (causes : Half) (awake abort : Bool) (s : State) : Grows s (cancelRest causes awake abort s) := by
  unfold cancelRest
  extract_lets net late t u
  have ht : Grows s t := grows_of_same rfl rfl rfl
  clear_value t
  have hu : Grows t u := (grows_setIrq _ _ _).step ((grows_logEv _ _ _ _ _).step (grows_modNote _ _ t))
  clear_value u
  have hsend : Grows u (sendAbort u) := by
    unfold sendAbort
    refine Grows.ite (Grows.refl u) ?_
    extract_lets f
    refine (Grows.foldl (fun v p => ?_) _ _).step (grows_of_same rfl rfl rfl)
    exact grows_of_same rfl rfl rfl
  exact Grows.ite (hsend.step (hu.step ht)) (hu.step ht)

/-- A tamper cancels a REST entry. -/
theorem latchKept_tamperCancel (s : State) : LatchKept s (tamperCancel s) :=
  latchKept_of_key ((frame_tamperCancel s).key rfl)
    (Grows.ite (grows_cancelRest _ _ _ s) (Grows.refl s))

/-- A tamper in RUN. -/
theorem doTamperRow_run {src : BitVec 5} {el : Nat} {s : State} (hsrc : src ≠ 0) (hmode : s.pwr.mode = .run) :
    LatchKept (keyTamper src el false s) (doTamperRow src el s) ∧ AccQuiet (doTamperRow src el s) := by
  have hchecked : s.tamperChecked src = src := if_pos (.inl hmode)
  have hwindow : ¬s.entryWindow = true := by
    rw [State.entryWindow, hmode]
    exact Bool.false_ne_true
  have htamper : doTamper src el s = accCheck (accTamper (keyTamper src el false s)) := by
    simp only [doTamper, hchecked, hsrc, hwindow, hmode, if_false]
    rfl
  obtain ⟨hacc, hquiet⟩ := accTamper_spec (keyTamper src el false s)
  have hcheck := hacc.trans (latchKept_of_key ((frame_accCheck _).key rfl) (grows_accCheck _))
  have hquiet' := accCheck_quiet hquiet
  have heq : doTamperRow src el s = tamperCancel (if (doTamper src el s).pwr.mode = .rest ∨
      (doTamper src el s).pwr.mode = .off ∨ (doTamper src el s).entryWindow then doTamper src el s
      else tamperReload (tamperImage (doTamper src el s))) := if_neg hsrc
  rw [heq, htamper]
  generalize accCheck (accTamper (keyTamper src el false s)) = t at hcheck hquiet'
  have hrest : LatchKept t (tamperReload (tamperImage t)) :=
    (latchKept_tamperImage t).trans (latchKept_tamperReload (tamperImage t))
  have hrestAcc : (tamperReload (tamperImage t)).acc = t.acc :=
    ((frame_tamperReload _).acc rfl).trans ((frame_tamperImage t).acc rfl)
  have hu (c : Prop) [Decidable c] : LatchKept t (if c then t else tamperReload (tamperImage t)) ∧
      (if c then t else tamperReload (tamperImage t)).acc = t.acc := by
    split
    · exact ⟨LatchKept.refl t, rfl⟩
    · exact ⟨hrest, hrestAcc⟩
  obtain ⟨hkept, hsame⟩ := hu (t.pwr.mode = .rest ∨ t.pwr.mode = .off ∨ t.entryWindow = true)
  have hcancel := (frame_tamperCancel (if t.pwr.mode = .rest ∨ t.pwr.mode = .off ∨ t.entryWindow = true then t
    else tamperReload (tamperImage t))).acc rfl
  refine ⟨(hcheck.trans hkept).trans (latchKept_tamperCancel _), ?_⟩
  rw [AccQuiet, hcancel, hsame]
  exact hquiet'

/-- A tamper in REST. -/
theorem doTamperRow_rest {src : BitVec 5} {el : Nat} {s : State} (hmode : s.pwr.mode = .rest) :
    (src &&& 0x17 ≠ 0 → doTamperRow src el s = keyTamper (src &&& 0x17) el true s) ∧
      (src &&& 0x17 = 0 → doTamperRow src el s = s) := by
  have hchecked : s.tamperChecked src = src &&& 0x17 := if_neg (by rw [hmode]; decide)
  have hwindow : ¬s.entryWindow = true := by
    rw [State.entryWindow, hmode]
    exact Bool.false_ne_true
  have hquiet (t : State) (ht : t.pwr.mode = .rest) : tamperCancel (if t.pwr.mode = .rest ∨ t.pwr.mode = .off ∨
      t.entryWindow then t else tamperReload (tamperImage t)) = t := by
    rw [if_pos (.inl ht)]
    exact if_neg fun h => by rw [ht] at h; exact absurd h.2.1 (by decide)
  refine ⟨fun hsrc => ?_, fun hsrc => ?_⟩
  · have hne : ¬src = 0 := fun h => hsrc (by rw [h]; rfl)
    have htamper : doTamper src el s = keyTamper (src &&& 0x17) el true s := by
      simp only [doTamper, hchecked, hsrc, hwindow, hmode, if_false]
      rfl
    have heq := hquiet (doTamper src el s) (by rw [htamper]; exact hmode)
    rw [htamper] at heq
    unfold doTamperRow
    rw [if_neg hne, htamper]
    exact heq
  · have htamper : doTamper src el s = s := by
      simp only [doTamper, hchecked, hsrc, if_true]
    have heq := hquiet s hmode
    unfold doTamperRow
    rw [htamper]
    split
    · rfl
    · exact heq

end Sys2Proof.Machine

/-! ### The statement -/

namespace Sys2Proof.Proofs

open Sys2Proof.Machine

/-- Settles O52: WRITE and ERASE begin by their flag and endorsement; the end of a command rewrites its slot alone, in both
copies; a tamper latches first, and what follows it leaves the latch and the entries. -/
theorem keyStore : Obligations.KeyStore := by
  unfold Obligations.KeyStore
  refine ⟨fun rq arg s hp hserve => ?_, fun j s hp hjob hwait => ?_, fun s => ⟨fun src el hsrc hmode => ?_,
    fun src el hmode => ⟨fun hsrc => ?_, fun hsrc => ?_⟩, fun f hp hne => ?_, fun hp => ?_⟩⟩
  · have hframe := frame_keyTurn s rq
    have hkey := hframe.key rfl
    have hbegin {op : Nat} (h1 : 1 ≤ op) (h11 : op ≤ 11) (htakes : s.takesKeyCmd rq op arg = true) :
        whenOn (written .key 0x020 rq (keyCmdWrite rq (cmdWord op arg) 0)) s = keyRun (cmdWord op arg) 0 (s.keyTurn rq) := by
      have hon := Host.Outcome.next.inj (next_whenOn (f := written .key 0x020 rq (keyCmdWrite rq (cmdWord op arg) 0)) hp)
      exact hon.trans (keyCmd_begins h1 h11 htakes hserve)
    obtain ⟨hwrite, herase⟩ := keyRun_write arg 0 (s.keyTurn rq)
    intro k flag
    refine ⟨fun ht hflag hno => ?_, fun ht hflag => ?_, fun ht hno => ?_, fun ht hneeds hunsigned => ?_⟩
    · obtain ⟨j, hj⟩ := startWrite_begins hkey hflag hno
      exact ⟨_, j, congrArg Host.Outcome.next ((hbegin (by decide) (by decide) ht).trans hwrite), hj⟩
    · exact ⟨_, congrArg Host.Outcome.next ((hbegin (by decide) (by decide) ht).trans hwrite), startWrite_noFlag hkey hflag⟩
    · obtain ⟨j, hj⟩ := startErase_begins (flag := field arg 16 5) hkey hno
      exact ⟨_, j, congrArg Host.Outcome.next ((hbegin (by decide) (by decide) ht).trans herase), hj⟩
    · exact ⟨_, congrArg Host.Outcome.next ((hbegin (by decide) (by decide) ht).trans herase),
        startErase_refused hkey (hframe.fab rfl) (hframe.pert rfl) hneeds hunsigned⟩
  · have hdone : doKeyCmdDone s = keyEnd 0 (keyEffect j s) := by
      simp only [doKeyCmdDone, keyBegin_of_not_due (.inl hwait), hjob]
    have hframe : Frame _ s (keyEnd 0 (keyEffect j s)) :=
      (frame_keyEnd 0 _).step (m := 50594064 ||| 33554704) rfl ((frame_keyEffect j s).mono rfl)
    obtain ⟨hend, hirq⟩ := keyEnd_spec 0 (keyEffect j s)
    refine ⟨_, (next_whenOn hp).trans (congrArg _ hdone), congrArg KeyBlk.state hend, congrArg KeyBlk.code hend,
      congrArg KeyBlk.job hend, hirq, fun hop hslot => ?_, fun hop hslot => ?_, fun k hk => ?_, fun hop => ?_,
      hframe.hsw rfl, hframe.mem rfl⟩
    · rw [slot_keyCmdDone, if_pos ⟨.inl hop, rfl, hslot⟩]
      exact writeSlot_of_write hop s.key.lcs (s.slot j.slot)
    · rw [slot_keyCmdDone, if_pos ⟨.inr hop, rfl, hslot⟩]
      exact writeSlot_of_erase hop s.key.lcs (s.slot j.slot)
    · rw [slot_keyCmdDone, if_neg]
      rintro ⟨hop, hslot, -⟩
      exact hk hop hslot.symm
    · exact (congrArg KeyBlk.tamper hend).trans (keyEffect_tclear hop s)
  · obtain ⟨htamper, hwithheld, hjob, hirq, hlogged⟩ := keyTamper_spec src el s
    obtain ⟨hkept, hpoll, hsess⟩ := doTamperRow_run (el := el) hsrc hmode
    exact ⟨_, rfl, hkept.tamper.trans htamper, hkept.withheld.trans hwithheld, hkept.job.trans hjob, hpoll, hsess,
      hkept.grows.irq _ _ hirq, fun hlog => hasEntry_of_logged (hkept.grows.entries (hlogged hlog))⟩
  · obtain ⟨htamper, hwithheld, htampers, htally, hheads, hslot, -⟩ := keyTamper_rest (src &&& 0x17) el s
    exact ⟨_, congrArg Host.Outcome.next ((doTamperRow_rest hmode).1 hsrc), htamper, hwithheld, htampers, htally, hheads, hslot⟩
  · exact congrArg Host.Outcome.next ((doTamperRow_rest hmode).2 hsrc)
  · exact (next_whenOn hp).trans (congrArg _ (if_neg hne))
  · exact (next_whenOn hp).trans (congrArg _ (if_pos rfl))

end Sys2Proof.Proofs
end

section
/-! SUPPORT. Requests to the power unit and changes of the operating point (R486 to R488, R492), and the statement of
19_power.md about them. -/

namespace Sys2Proof.Machine

/-! ### A refusal -/

/-- A refused request is noted, reported and entered. -/
theorem refuseReq_spec (kind : Nat) (minop late : Bool) (s : State) :
    (refuseReq kind minop late s).pwr = { s.pwr with refused := s.pwr.refused || !minop } ∧
      bit ((refuseReq kind minop late s).head .pwr).irq 0 = true ∧
      ((refuseReq kind minop late s).head .pwr).err = (s.head .pwr).err ∧
      (s.canLog = true → (refuseReq kind minop late s).hasEntry 0xD003 3 locReg
        (pack64 [(0, kind), (2, b01 minop), (3, b01 late)]) = true) := by
  unfold refuseReq
  extract_lets t u
  have hu : u.pwr = t.pwr ∧ u.tally = t.tally ∧ (u.head .pwr).err = (t.head .pwr).err := by
    subst u
    split
    · exact ⟨rfl, rfl, rfl⟩
    · exact ⟨(frame_hwBit _ _ _ t).pwr rfl, (frame_hwBit _ _ _ t).tally rfl, (modNote_head_bits .pwr .pwr _ t).2.1⟩
  clear_value u
  have hlog := frame_logEv 0xD003 3 locReg (pack64 [(0, kind), (2, b01 minop), (3, b01 late)]) u
  refine ⟨?_, bit_setIrq _ (by decide), ?_, fun h => ?_⟩
  · rw [(frame_setIrq _ _ _).pwr rfl]
    exact (hlog.pwr rfl).trans hu.1
  · rw [setIrq_err, logPwr, logEv_head _ _ _ _ _ _ (by decide), hu.2.2]
    rfl
  · rw [hasEntry_congr ((frame_setIrq _ _ _).tally rfl)]
    exact hasEntry_logEv ((canLog_congr hu.2.1).trans h) (by decide) (by decide)

/-! ### REST and OFF requests -/

/-- A write of PWR_REQ that asks for a state, at once or at PWR_AT. -/
theorem reqWrite_eq {kind : Nat} (hkind : kind = 1 ∨ kind = 2) (rq : Requester) (sched : Bool) (s : State) :
    reqWrite rq (pack [(0, kind), (2, b01 sched)]) s =
      if rq = .keeper then powerReq kind (if sched then some s.pwr.at_ else none) false false s else setErr .pwr 1 s := by
  have hword : decide (8 ≤ (pack [(0, kind), (2, b01 sched)]).toNat ∨ field (pack [(0, kind), (2, b01 sched)]) 0 2 = 0 ∨
      field (pack [(0, kind), (2, b01 sched)]) 0 2 = 3) = false ∧ field (pack [(0, kind), (2, b01 sched)]) 0 2 = kind ∧
      bit (pack [(0, kind), (2, b01 sched)]) 2 = sched := by
    rcases hkind with rfl | rfl <;> cases sched <;> decide
  obtain ⟨hlegal, hfield, hbit⟩ := hword
  unfold reqWrite
  rw [hlegal]
  by_cases hrq : rq = .keeper
  · have hk : (rq == .keeper) = true := beq_iff_eq.mpr hrq
    rw [if_pos hrq, hk, wrIf_ok, hfield, hbit]
  · have hk : (rq == .keeper) = false := beq_eq_false_iff_ne.mpr hrq
    rw [if_neg hrq, hk]
    exact wrIf_refused

/-- A request while none is in progress, at once or at a tick whose envelope phase has not opened. -/
theorem powerReq_taken {kind : Nat} {sched : Bool} {s : State} (hreq : s.pwr.req = .none)
    (hnot : sched = true → s.envOpened s.pwr.at_.toNat = false) :
    powerReq kind (if sched then some s.pwr.at_ else none) false false s = modPwr (fun p => { p with
      req := if kind = 1 then .rest (if sched then some s.pwr.at_ else none) false false
        else .off (if sched then some s.pwr.at_ else none)
      entryTick := s.intakeTick }) s := by
  cases sched with
  | false =>
    unfold powerReq
    rw [if_neg (fun h => h hreq)]
    rfl
  | true =>
    have hopen : ¬s.envOpened s.pwr.at_.toNat = true := by
      rw [hnot rfl]
      exact Bool.false_ne_true
    unfold powerReq
    rw [if_neg (fun h => h hreq)]
    exact if_neg hopen

/-- Another is refused. -/
theorem powerReq_refused {kind : Nat} {sched : Bool} {s : State}
    (h : s.pwr.req ≠ .none ∨ (sched = true ∧ s.envOpened s.pwr.at_.toNat = true)) :
    powerReq kind (if sched then some s.pwr.at_ else none) false false s = refuseReq kind false (s.pwr.req == .none) s := by
  by_cases hreq : s.pwr.req = .none
  · obtain ⟨hsched, hopen⟩ := h.resolve_left fun hne => hne hreq
    have hnone : (s.pwr.req == .none) = true := beq_iff_eq.mpr hreq
    unfold powerReq
    rw [if_neg (fun hne => hne hreq), hnone, hsched]
    exact if_pos hopen
  · have hsome : (s.pwr.req == .none) = false := beq_eq_false_iff_ne.mpr hreq
    rw [hsome]
    exact if_pos hreq

/-! ### Operating points -/

/-- A write of PWR_OP that names an operating point. -/
theorem doOpReq_eq (rq : Requester) (v : Fin 4) (s : State) : doOpReq rq v s =
    if rq = .keeper then
      (if s.pwr.req ≠ .none then refuseReq 3 false false s
        else if v.val < s.cfg.minOp then refuseReq 3 true false (setErr .pwr 2 s)
        else modPwr (fun p => { p with opReq := v, req := .op v, opAt := s.tb0, opOld := p.opCur }) s)
    else setErr .pwr 1 s := by
  have hlegal : decide (BitVec.ofNat 32 v.val &&& 0xFFFFFCCC#32 ≠ 0) = false ∧
      (⟨(BitVec.ofNat 32 v.val).toNat % 4, by omega⟩ : Fin 4) = v := by
    fin_cases v <;> decide
  unfold doOpReq opWrite
  rw [hlegal.1]
  by_cases hrq : rq = .keeper
  · have hk : (rq == .keeper) = true := beq_iff_eq.mpr hrq
    rw [if_pos hrq, hk, wrIf_ok, hlegal.2]
  · have hk : (rq == .keeper) = false := beq_eq_false_iff_ne.mpr hrq
    rw [if_neg hrq, hk]
    exact wrIf_refused

/-- A change of the operating point whose target is in force ends. -/
theorem doOpChange_ends {s : State} (h : s.pwr.req = .op s.pwr.opCur) :
    (doOpChange s).pwr = { s.pwr with req := .none } ∧
      (s.canLog = true →
        (doOpChange s).hasEntry 0xD005 1 locReg (pack64 [(0, s.pwr.opOld.val), (2, s.pwr.opCur.val)]) = true) := by
  have hpass (c : Prop) [Decidable c] (raw : Nat) : (if c then passTo 0 raw s else s).pwr = s.pwr ∧
      (if c then passTo 0 raw s else s).tally = s.tally := by
    split <;> exact ⟨rfl, rfl⟩
  simp only [doOpChange, h, if_true]
  obtain ⟨hpwr, htally⟩ := hpass (s.pwr.opCur < s.pwr.opOld)
    ((s.pwr.opAt + (opVolts s.pwr.opOld - opVolts s.pwr.opCur) * 100) * 2 ^ 32)
  generalize (if s.pwr.opCur < s.pwr.opOld then
    passTo 0 ((s.pwr.opAt + (opVolts s.pwr.opOld - opVolts s.pwr.opCur) * 100) * 2 ^ 32) s else s) = t at hpwr htally
  rw [hpwr]
  refine ⟨?_, fun hlog => ?_⟩
  · rw [logPwr, (frame_logEv _ _ _ _ _).pwr rfl, ← hpwr]
    rfl
  · exact hasEntry_logEv (s := modPwr (fun p => { p with req := .none }) t) ((canLog_congr htally).trans hlog)
      (by decide) (by decide)

end Sys2Proof.Machine

/-! ### The statement -/

namespace Sys2Proof.Proofs

open Sys2Proof.Machine

/-- Settles O53: a request of keeper level is taken, or refused with its report, by what is in progress and by its target. -/
theorem powerRequests : Obligations.PowerRequests := by
  unfold Obligations.PowerRequests
  refine ⟨fun rq sched s hp => ⟨fun hrq => ?_, fun hreq hnot => ?_, fun hbusy => ?_⟩,
    fun rq v s hp => ⟨fun hrq => ?_, fun hreq hmin => ?_, fun hreq hmin => ?_, fun hreq => ?_, fun hreq => ?_, fun hreq hne => ?_⟩⟩
  · exact ⟨(next_whenOn hp).trans (congrArg _ ((reqWrite_eq (.inl rfl) rq sched s).trans (if_neg hrq))),
      (next_whenOn hp).trans (congrArg _ ((reqWrite_eq (.inr rfl) rq sched s).trans (if_neg hrq)))⟩
  · have hrest := ((reqWrite_eq (.inl rfl) .keeper sched s).trans (if_pos rfl)).trans (powerReq_taken hreq hnot)
    have hoff := ((reqWrite_eq (.inr rfl) .keeper sched s).trans (if_pos rfl)).trans (powerReq_taken hreq hnot)
    exact ⟨(next_whenOn hp).trans (congrArg _ hrest), (next_whenOn hp).trans (congrArg _ hoff)⟩
  · have hrest := ((reqWrite_eq (.inl rfl) .keeper sched s).trans (if_pos rfl)).trans (powerReq_refused hbusy)
    have hoff := ((reqWrite_eq (.inr rfl) .keeper sched s).trans (if_pos rfl)).trans (powerReq_refused hbusy)
    obtain ⟨tpwr, tirq, -, tlog⟩ := refuseReq_spec 1 false (s.pwr.req == .none) s
    obtain ⟨upwr, uirq, -, ulog⟩ := refuseReq_spec 2 false (s.pwr.req == .none) s
    rw [Bool.not_false, Bool.or_true] at tpwr upwr
    exact ⟨_, _, (next_whenOn hp).trans (congrArg _ hrest), (next_whenOn hp).trans (congrArg _ hoff), tpwr,
      upwr.trans tpwr.symm, tirq, uirq, fun hlog => ⟨tlog hlog, ulog hlog⟩⟩
  · exact (next_whenOn hp).trans (congrArg _ ((doOpReq_eq rq v s).trans (if_neg hrq)))
  · have heq := ((doOpReq_eq .keeper v s).trans (if_pos rfl)).trans (if_neg fun h => h hreq)
    exact (next_whenOn hp).trans (congrArg _ (heq.trans (if_neg (Nat.not_lt_of_le hmin))))
  · have heq := ((doOpReq_eq .keeper v s).trans (if_pos rfl)).trans (if_neg fun h => h hreq)
    obtain ⟨hpwr, hirq, herr, -⟩ := refuseReq_spec 3 true false (setErr .pwr 2 s)
    rw [Bool.not_true, Bool.or_false] at hpwr
    have hset := (frame_setErr .pwr 2 s).pwr rfl
    refine ⟨_, (next_whenOn hp).trans (congrArg _ (heq.trans (if_pos hmin))), hpwr.trans hset, ?_, hirq⟩
    rw [herr, setErr_err, bit_setBit_self _ _ (by decide)]
  · have heq := ((doOpReq_eq .keeper v s).trans (if_pos rfl)).trans (if_pos hreq)
    obtain ⟨hpwr, hirq, -, -⟩ := refuseReq_spec 3 false false s
    rw [Bool.not_false, Bool.or_true] at hpwr
    exact ⟨_, (next_whenOn hp).trans (congrArg _ heq), hpwr, hirq⟩
  · exact ⟨_, next_whenOn hp, doOpChange_ends hreq⟩
  · have heq : doOpChange s = s := by
      simp only [doOpChange, hreq]
      exact if_neg hne
    exact (next_whenOn hp).trans (congrArg _ heq)

end Sys2Proof.Proofs
end

section
/-! SUPPORT. The commands of UPD_CTRL, the activation of a pair, its trial and its fallback (R516 to R523), and the statement
of 20_images.md about activation and trial. -/

namespace Sys2Proof.Machine

/-! ### The commands of UPD_CTRL -/

/-- The word of a command's row: its bit alone, and RXEN and ALLOWRST as they stand. -/
theorem updWord_bits (i : Fin 7) (rxen allow : Bool) :
    pack [(i.val, 1), (8, b01 rxen), (9, b01 allow)] &&& 0xFFFFFC80#32 = 0 ∧
      ((List.range 7).filter fun j => bit (pack [(i.val, 1), (8, b01 rxen), (9, b01 allow)]) j) = [i.val] ∧
      bit (pack [(i.val, 1), (8, b01 rxen), (9, b01 allow)]) 8 = rxen ∧
      bit (pack [(i.val, 1), (8, b01 rxen), (9, b01 allow)]) 9 = allow := by
  revert i rxen allow
  decide

/-- Keeper level gives the one command. -/
theorem updRow_keeper (i : Fin 7) (s : State) : updRow i.val .keeper s = updCommand i.val s := by
  obtain ⟨hlegal, hcmds, hrxen, hallow⟩ := updWord_bits i s.upd.rxen s.upd.allowRst
  have hbad : decide (pack [(i.val, 1), (8, b01 s.upd.rxen), (9, b01 s.upd.allowRst)] &&& 0xFFFFFC80#32 ≠ 0 ∨
      2 ≤ [i.val].length) = false := by
    rw [hlegal]
    exact decide_eq_false (by simp)
  unfold updRow updCtrlWrite
  simp only [hcmds, hrxen, hallow]
  rw [hbad]
  rfl

/-! ### Activation is armed -/

/-- An activation that is armed. -/
structure Armed (v : DWord) (fromFrame : Bool) (s t : State) : Prop where
  state : t.upd.state = .scheduled
  armed : t.upd.armed = BitVec.ofNat 64 (s.swapTarget v)
  fromFrame : t.upd.fromFrame = fromFrame
  shadow : t.strct.shadow = .scheduled
  swapAt : t.strct.swapAt = v
  target : t.strct.target = t.upd.armed
  cfg : t.cfg = s.cfg
  boot : t.upd.boot = s.upd.boot

/-- A READY image, before the envelope phase of the tick before, and without a restart that is not allowed. -/
theorem armUpdate_arms {g : Image} {v : DWord} {fromFrame : Bool} {s : State} (hg : s.strct.shImage = some g)
    (hready : s.strct.shadow = .ready) (hre : needsRestart s.cfg g = false ∨ s.upd.allowRst = true)
    (hopen : s.envOpened (s.swapTarget v - 1) = false) :
    Armed v fromFrame s (armUpdate v fromFrame s) ∧ (armUpdate v fromFrame s).upd.restart = needsRestart s.cfg g := by
  have hin : ¬(s.strct.shadow ≠ .ready ∨ s.envOpened (s.swapTarget v - 1) = true) := by
    rintro (h | h)
    · exact h hready
    · exact Bool.false_ne_true (hopen.symm.trans h)
  have hallowed : ¬(needsRestart s.cfg g = true ∧ (!s.upd.allowRst) = true) := by
    rintro ⟨hneeds, hno⟩
    rcases hre with h | h
    · exact Bool.false_ne_true (h.symm.trans hneeds)
    · rw [h] at hno
      exact nomatch hno
  have heq : armUpdate v fromFrame s = logUpd 0xE005 3 [(0, s.swapTarget v % 2 ^ 32), (32, b01 (needsRestart s.cfg g)),
      (33, b01 fromFrame)] (schedule (s.swapTarget v) (modStruct (fun x => { x with swapAt := v }) (modUpd (fun u => { u with
        state := .scheduled, restart := needsRestart s.cfg g, armed := BitVec.ofNat 64 (s.swapTarget v)
        fromFrame := fromFrame, written := false, sending := false }) s))) := by
    unfold armUpdate
    rw [hg]
    exact (if_neg hin).trans (if_neg hallowed)
  rw [heq, logUpd]
  generalize ht : schedule (s.swapTarget v) (modStruct (fun x => { x with swapAt := v }) (modUpd (fun u => { u with
    state := .scheduled, restart := needsRestart s.cfg g, armed := BitVec.ofNat 64 (s.swapTarget v)
    fromFrame := fromFrame, written := false, sending := false }) s)) = t
  have harmed : Armed v fromFrame s t ∧ t.upd.restart = needsRestart s.cfg g := by
    rw [← ht]
    exact ⟨⟨rfl, rfl, rfl, rfl, rfl, rfl, rfl, rfl⟩, rfl⟩
  obtain ⟨⟨hstate, hat, hfrom, hshadow, hswap, htarget, hcfg, hboot⟩, hrestart⟩ := harmed
  have hlog := frame_logEv 0xE005 3 locUpd (pack64 [(0, s.swapTarget v % 2 ^ 32), (32, b01 (needsRestart s.cfg g)),
    (33, b01 fromFrame)]) t
  generalize logEv 0xE005 3 locUpd (pack64 [(0, s.swapTarget v % 2 ^ 32), (32, b01 (needsRestart s.cfg g)),
    (33, b01 fromFrame)]) t = u at hlog
  have hupd := hlog.upd rfl
  have hstrct := hlog.strct rfl
  rw [← hupd] at hstate hat hfrom hboot hrestart
  rw [← hstrct] at hshadow hswap
  refine ⟨⟨hstate, hat, hfrom, hshadow, hswap, ?_, (hlog.cfg rfl).trans hcfg, hboot⟩, hrestart⟩
  rw [hstrct, hupd]
  exact htarget

/-! ### The boot record -/

/-- A record that is written to both its copies becomes the boot record. -/
theorem writeBoot_spec (r : BootRec) (s : State) :
    (writeBoot r s).upd = { s.upd with boot := { r with seq := s.upd.boot.seq + 1 } } ∧
      (writeBoot r s).mem.ram = s.mem.ram ∧ (writeBoot r s).tick = s.tick := by
  unfold writeBoot
  extract_lets r'
  have hframe := frame_putCopies r' (modUpd (fun u => { u with boot := r' }) s)
  refine ⟨hframe.upd rfl, ?_, hframe.tick rfl⟩
  rw [putCopies, (mramPut_bytes _ _ _).1, (mramPut_bytes _ _ _).1]
  rfl

/-! ### The pair is brought in -/

/-- What bringing the active pair in leaves: the boot record, the report of a failed migration, and the halt. -/
structure TrialKept (s t : State) : Prop where
  boot : t.upd.boot = s.upd.boot
  migFail : t.upd.migFail = s.upd.migFail
  halted : t.core.halted = s.core.halted

theorem TrialKept.trans {s t u : State} (h : TrialKept s t) (h' : TrialKept t u) : TrialKept s u :=
  ⟨h'.boot.trans h.boot, h'.migFail.trans h.migFail, h'.halted.trans h.halted⟩

theorem TrialKept.of_same {s t : State} (hupd : t.upd = s.upd) (hcore : t.core = s.core) : TrialKept s t :=
  ⟨by rw [hupd], by rw [hupd], by rw [hcore]⟩

theorem trialKept_matchProgram (s : State) (k : Fin 4) : TrialKept s (matchProgram s k) := by
  unfold matchProgram
  split
  · exact ⟨rfl, rfl, rfl⟩
  · split
    · exact ⟨rfl, rfl, rfl⟩
    · exact ⟨rfl, rfl, rfl⟩

theorem trialKept_exchange (lag : Vector Bool 5) (new : Image) (s : State) : TrialKept s (exchange lag new s) := by
  unfold exchange
  extract_lets old was oldSlot t u v
  have ht : TrialKept s t := by
    subst t
    split
    · exact .of_same ((frame_swapImage _ _ _ s).upd rfl) ((frame_swapImage _ _ _ s).core rfl)
    · exact .of_same ((frame_startImage _ s).upd rfl) ((frame_startImage _ s).core rfl)
  have hu : TrialKept t u := .of_same rfl rfl
  clear_value u
  have hv : TrialKept u v := foldl_invariant (P := TrialKept u)
    (fun w k _ hw => hw.trans (trialKept_matchProgram w k)) ⟨rfl, rfl, rfl⟩
  clear_value v
  have hlog := frame_logEv 0xE103 3 locStruct (pack64 [(0, v.strct.gen.toNat), (32, new.serial.toNat)]) v
  have hirq := frame_setIrq .strct 2 (logEv 0xE103 3 locStruct (pack64 [(0, v.strct.gen.toNat), (32, new.serial.toNat)]) v)
  exact ht.trans (hu.trans (hv.trans (.of_same ((hirq.upd rfl).trans (hlog.upd rfl))
    ((hirq.core rfl).trans (hlog.core rfl)))))

theorem trialKept_bringPair (s : State) : TrialKept s (bringPair s) := by
  unfold bringPair
  split
  · rename_i g _
    split
    · exact (TrialKept.of_same ((frame_lateSwap s).upd rfl) ((frame_lateSwap s).core rfl)).trans
        ((trialKept_exchange s.missedFrame g (lateSwap s)).trans
          (.of_same ((frame_lagging _ _).upd rfl) ((frame_lagging _ _).core rfl)))
    · exact ⟨rfl, rfl, rfl⟩
  · exact ⟨rfl, rfl, rfl⟩

/-- The shepherd core stops and reloads, unless it is halted. -/
theorem reloadShepherd_spec (s : State) :
    (reloadShepherd s).upd = s.upd ∧ (s.core.halted = false → (reloadShepherd s).core.shepherdUp = false) := by
  refine ⟨(frame_reloadShepherd s).upd rfl, fun hgo => ?_⟩
  have heq : reloadShepherd s = stopShepherd .activation s := if_neg (by rw [hgo]; exact Bool.false_ne_true)
  rw [heq]
  unfold stopShepherd
  extract_lets t u v
  have hv : v.core.shepherdUp = false := rfl
  clear_value v
  rw [(frame_loseWins _ _ v).core rfl]
  exact hv

/-- The pair is brought in and the shepherd core reloads. -/
theorem bringReload_spec (s : State) :
    (reloadShepherd (bringPair s)).upd.boot = s.upd.boot ∧ (reloadShepherd (bringPair s)).upd.migFail = s.upd.migFail ∧
      (s.core.halted = false → (reloadShepherd (bringPair s)).core.shepherdUp = false) := by
  obtain ⟨hupd, hdown⟩ := reloadShepherd_spec (bringPair s)
  obtain ⟨hboot, hmig, hhalted⟩ := trialKept_bringPair s
  rw [hupd]
  exact ⟨hboot, hmig, fun h => hdown (hhalted.trans h)⟩

/-! ### An entry and its interrupt -/

/-- An entry and the interrupt bit of its event: nothing else of the block changes, and the bit is set. -/
theorem updNote_spec {b : Nat} (hb : b < 32) (code sev : Nat) (payload : List (Nat × Nat)) (s : State) :
    (updIrq b (logUpd code sev payload s)).upd = s.upd ∧ (updIrq b (logUpd code sev payload s)).core = s.core ∧
      (updIrq b (logUpd code sev payload s)).mem = s.mem ∧
      bit ((updIrq b (logUpd code sev payload s)).head .upd).irq b = true := by
  have hlog := frame_logEv code sev locUpd (pack64 payload) s
  have hirq := frame_setIrq .upd b (logEv code sev locUpd (pack64 payload) s)
  refine ⟨(hirq.upd rfl).trans (hlog.upd rfl), (hirq.core rfl).trans (hlog.core rfl), (hirq.mem rfl).trans (hlog.mem rfl), ?_⟩
  rw [updIrq, setIrq_irq]
  exact bit_setBit_self _ _ hb

/-! ### Activation is scheduled -/

/-- SCHEDULE arms the activation. -/
theorem updSchedule_arms {g : Image} {s : State} (hg : s.strct.shImage = some g) (hready : s.strct.shadow = .ready)
    (hver : s.upd.state = .verified) (hre : needsRestart s.cfg g = false ∨ s.upd.allowRst = true)
    (hopen : s.envOpened (s.swapTarget s.upd.actAt - 1) = false) :
    Armed s.upd.actAt false s (updSchedule s) ∧ (updSchedule s).upd.restart = needsRestart s.cfg g := by
  have heq : updSchedule s = armUpdate s.upd.actAt false s := if_pos hver
  rw [heq]
  exact armUpdate_arms hg hready hre hopen

/-- ACTSEND of the bellwether arms its own activation and sends it from this tick on. -/
theorem updActsend_arms {g : Image} {s : State} (hg : s.strct.shImage = some g) (hready : s.strct.shadow = .ready)
    (hver : s.upd.state = .verified) (hre : needsRestart s.cfg g = false ∨ s.upd.allowRst = true)
    (hopen : s.envOpened (s.swapTarget s.upd.actAt - 1) = false) (hbell : s.bellwether = true) :
    (updActsend s).upd.state = .scheduled ∧ (updActsend s).upd.armed = BitVec.ofNat 64 (s.swapTarget s.upd.actAt) ∧
      (updActsend s).upd.sending = true := by
  obtain ⟨harmed, -⟩ := armUpdate_arms (fromFrame := false) hg hready hre hopen
  have hgo : ¬(s.upd.state ≠ .verified ∨ (!s.bellwether) = true) := by
    rintro (h | h)
    · exact h hver
    · rw [hbell] at h
      exact nomatch h
  have heq : updActsend s =
      sendActivate (modUpd (fun u => { u with sending := true }) (armUpdate s.upd.actAt false s)) :=
    (if_neg hgo).trans (if_pos harmed.state)
  rw [heq, (frame_sendActivate _).upd rfl]
  exact ⟨harmed.state, harmed.armed, rfl⟩

/-- ACTIVATE of the bellwether arms the activation that it names. -/
theorem activateRx_arms {g : Image} {p : Fin 2} {f : List Byte} {s : State} (hg : s.strct.shImage = some g)
    (hready : s.strct.shadow = .ready) (hver : s.upd.state = .verified)
    (hre : needsRestart s.cfg g = false ∨ s.upd.allowRst = true) (htakes : s.takesFrame 0x0D f = true)
    (hok : activateOk (frPayload f) = true) (hbw : s.fab.bw ≠ 0) (hsrc : frSrc f = s.fab.bw) (hauth : s.authOn = true)
    (hserial : leAt (frPayload f) 8 4 = s.upd.serial.toNat)
    (hopen : s.envOpened (s.swapTarget (BitVec.ofNat 64 (leAt (frPayload f) 16 8)) - 1) = false) :
    (doActivateRx p f s).upd.state = .scheduled ∧ (doActivateRx p f s).upd.fromFrame = true ∧
      (doActivateRx p f s).strct.shadow = .scheduled ∧ (doActivateRx p f s).upd.armed =
        BitVec.ofNat 64 (s.swapTarget (BitVec.ofNat 64 (leAt (frPayload f) 16 8))) := by
  have heq : doActivateRx p f s = armUpdate (BitVec.ofNat 64 (leAt (frPayload f) 16 8)) true
      (modUpd (fun u => { u with actAt := BitVec.ofNat 64 (leAt (frPayload f) 16 8) }) (countRx p s)) := by
    rw [doActivateRx, consume_of_takes htakes]
    have hcount := frame_countRx p s
    obtain ⟨port, hfab, -⟩ := countRx_fab p s
    have hact : activateOk (frPayload f) = true ∧ (countRx p s).fab.bw ≠ 0 ∧ frSrc f = (countRx p s).fab.bw ∧
        (countRx p s).authOn = true ∧ (countRx p s).upd.state = .verified ∧
        leAt (frPayload f) 8 4 = (countRx p s).upd.serial.toNat := by
      refine ⟨hok, ?_, ?_, ?_, ?_, ?_⟩
      · rw [hfab]
        exact hbw
      · rw [hfab]
        exact hsrc
      · rw [← hauth, State.authOn, State.authOn, hcount.cfg rfl]
      · rw [hcount.upd rfl]
        exact hver
      · rw [hcount.upd rfl]
        exact hserial
    exact if_pos hact
  rw [heq]
  generalize hu : modUpd (fun u => { u with actAt := BitVec.ofNat 64 (leAt (frPayload f) 16 8) }) (countRx p s) = u
  have htick : u.tick = s.tick := by
    rw [← hu]
    exact (frame_countRx p s).tick rfl
  have hstrct : u.strct = s.strct := by
    rw [← hu]
    exact (frame_countRx p s).strct rfl
  have hcfg : u.cfg = s.cfg := by
    rw [← hu]
    exact (frame_countRx p s).cfg rfl
  have hallow : u.upd.allowRst = s.upd.allowRst := by
    rw [← hu, modUpd, (frame_countRx p s).upd rfl]
  obtain ⟨harmed, -⟩ := armUpdate_arms (g := g) (v := BitVec.ofNat 64 (leAt (frPayload f) 16 8)) (fromFrame := true)
    (s := u) (by rw [hstrct]; exact hg) (by rw [hstrct]; exact hready) (by rw [hcfg, hallow]; exact hre)
    (by rw [swapTarget_congr htick, envOpened_congr htick]; exact hopen)
  refine ⟨harmed.state, harmed.fromFrame, harmed.shadow, ?_⟩
  rw [harmed.armed, swapTarget_congr htick]

/-- An ACTIVATE of another module is counted and does nothing. -/
theorem activateRx_stranger {p : Fin 2} {f : List Byte} {s : State} (htakes : s.takesFrame 0x0D f = true)
    (hsrc : frSrc f ≠ s.fab.bw) : doActivateRx p f s = countRx p s := by
  rw [doActivateRx, consume_of_takes htakes]
  obtain ⟨port, hfab, -⟩ := countRx_fab p s
  refine if_neg ?_
  rintro ⟨-, -, h, -⟩
  rw [hfab] at h
  exact hsrc h

/-! ### CANCEL, CONFIRM and MIGFAIL -/

/-- CANCEL before the envelope phase of the tick before the activation. -/
theorem updCancel_spec {s : State} (hsched : s.upd.state = .scheduled)
    (hopen : s.envOpened (s.upd.armed.toNat - 1) = false) :
    (updCancel s).upd.state = .verified ∧ (updCancel s).upd.boot = s.upd.boot ∧ (updCancel s).mem = s.mem ∧
      (updCancel s).cfg = s.cfg ∧ (s.strct.shadow = .scheduled → (updCancel s).strct.shadow = .ready) := by
  have heq : updCancel s = actAbort 1 (if s.strct.shadow = .scheduled then
      modStruct (fun x => { x with shadow := .ready }) s else s) :=
    (if_neg (not_not.2 hsched)).trans (if_neg (by rw [hopen]; exact Bool.false_ne_true))
  rw [heq]
  generalize ht : (if s.strct.shadow = .scheduled then modStruct (fun x => { x with shadow := .ready }) s else s) = t
  have hkept : t.upd = s.upd ∧ t.mem = s.mem ∧ t.cfg = s.cfg ∧ (s.strct.shadow = .scheduled → t.strct.shadow = .ready) := by
    rw [← ht]
    split
    · exact ⟨rfl, rfl, rfl, fun _ => rfl⟩
    · rename_i h
      exact ⟨rfl, rfl, rfl, fun h' => absurd h' h⟩
  obtain ⟨hupd, hmem, hcfg, hshadow⟩ := hkept
  have habort : actAbort 1 t = logEv 0xE006 4 locUpd (pack64 [(0, 1)])
      { t with upd := { t.upd with state := .verified, restart := false, sending := false, written := false } } :=
    if_pos (by rw [hupd]; exact hsched)
  have hlog := frame_logEv 0xE006 4 locUpd (pack64 [(0, 1)])
    { t with upd := { t.upd with state := .verified, restart := false, sending := false, written := false } }
  rw [habort, hlog.upd rfl, hlog.mem rfl, hlog.cfg rfl, hlog.strct rfl]
  refine ⟨rfl, ?_, hmem, hcfg, hshadow⟩
  rw [← hupd]

/-- CONFIRM before the envelope phase of the tick before the fallback. -/
theorem updConfirm_spec {s : State} (htrial : s.upd.state = .trial) (hmig : s.upd.migFail = false)
    (hopen : s.envOpenedExec (s.upd.fAt - 1) = false) :
    (updConfirm s).upd.state = .confirmed ∧ (updConfirm s).upd.boot = { s.upd.boot with
        trial := false, prev := false, setgen := !s.upd.boot.setgen, seq := s.upd.boot.seq + 1 } ∧
      bit ((updConfirm s).head .upd).irq 4 = true ∧ (updConfirm s).mem.ram = s.mem.ram := by
  have hin : ¬(s.upd.state ≠ .trial ∨ s.upd.migFail = true) := by
    rintro (h | h)
    · exact h htrial
    · exact Bool.false_ne_true (hmig.symm.trans h)
  unfold updConfirm
  rw [if_neg hin, if_neg (by rw [hopen]; exact Bool.false_ne_true)]
  extract_lets r t
  obtain ⟨hupd, hram, -⟩ := writeBoot_spec
    { s.upd.boot with trial := false, prev := false, setgen := !s.upd.boot.setgen } s
  obtain ⟨hu, -, hm, hirq⟩ := updNote_spec (b := 4) (by decide) 0xE008 3 [(32, t.upd.boot.seq.toNat)]
    (modUpd (fun u => { u with state := .confirmed }) t)
  rw [hu, hm]
  exact ⟨rfl, congrArg UpdBlk.boot hupd, hirq, hram⟩

/-- MIGFAIL keeps the trial and lets the fallback come no later. -/
theorem updMigfail_spec {s : State} (htrial : s.upd.state = .trial) :
    (updMigfail s).upd.migFail = true ∧ (updMigfail s).upd.fAt ≤ s.upd.fAt ∧ (updMigfail s).upd.state = .trial ∧
      (updMigfail s).mem = s.mem := by
  unfold updMigfail
  rw [if_neg (not_not.2 htrial)]
  extract_lets e f gen
  generalize ht : modUpd (fun u => { u with migFail := true, fAt := min u.fAt f }) s = t
  have hupd : t.upd.migFail = true ∧ t.upd.fAt ≤ s.upd.fAt ∧ t.upd.state = .trial ∧ t.mem = s.mem := by
    rw [← ht]
    exact ⟨rfl, Nat.min_le_left _ _, htrial, rfl⟩
  rw [logUpd, (frame_logEv _ _ _ _ t).upd rfl, (frame_logEv _ _ _ _ t).mem rfl]
  exact hupd

/-! ### The boot record, the activation and the fallback -/

/-- BOOT_RECORD_WRITE in the guard band of the tick before an activation without a restart. -/
theorem bootRecordWrite_spec {s : State} (hdue : s.recordDue = true) (hsched : s.upd.state = .scheduled)
    (hre : s.upd.restart = false) (hguard : s.tick.phase = .guard) :
    (doBootRecordWrite s).upd = { s.upd with boot := { s.trialRecord with seq := s.upd.boot.seq + 1 }, written := true } ∧
      (doBootRecordWrite s).mem.ram = s.mem.ram := by
  have heq : doBootRecordWrite s = modUpd (fun u => { u with written := true }) (writeBoot s.trialRecord s) :=
    (if_neg (by rw [hdue]; exact Bool.false_ne_true)).trans ((if_pos hsched).trans
      ((if_neg (by rw [hre]; exact Bool.false_ne_true)).trans (if_pos hguard)))
  obtain ⟨hupd, hram, -⟩ := writeBoot_spec s.trialRecord s
  rw [heq]
  refine ⟨?_, hram⟩
  rw [modUpd, hupd]

/-- A record that is written is not due. -/
theorem recordDue_of_written {s : State} (h : s.upd.written = true) : s.recordDue = false := by
  rw [State.recordDue, h]
  rfl

/-- ACTIVATED begins the trial. -/
theorem activated_spec {s : State} (hdue : s.activationDue = true) (hsched : s.upd.state = .scheduled) :
    (doActivated s).upd.state = .trial ∧ (doActivated s).upd.boot = s.upd.boot ∧ (doActivated s).upd.migFail = false ∧
      bit ((doActivated s).head .upd).irq 3 = true ∧
      (s.core.halted = false → (doActivated s).core.shepherdUp = false) := by
  obtain ⟨hboot, -, hdown⟩ := bringReload_spec s
  unfold doActivated
  rw [if_pos ⟨hdue, hsched⟩]
  extract_lets t u k v
  obtain ⟨hu, hc, -, hirq⟩ :=
    updNote_spec (b := 3) (by decide) 0xE007 3 [(0, v.upd.armed.toNat % 2 ^ 32), (32, v.upd.boot.seq.toNat)] v
  rw [hu, hc]
  exact ⟨rfl, hboot, rfl, hirq, hdown⟩

/-- FALLBACK ends the trial with its cause. -/
theorem fallback_spec {s : State} (hdue : s.activationDue = true) (htrial : s.upd.state = .trial) :
    (doFallback s).upd.state = .fallback ∧ (doFallback s).upd.fbCause = (if s.upd.migFail then 3 else 1) ∧
      (doFallback s).upd.boot = s.upd.boot ∧ bit ((doFallback s).head .upd).irq 5 = true := by
  obtain ⟨hboot, hmig, -⟩ := bringReload_spec s
  unfold doFallback
  rw [if_pos ⟨hdue, htrial⟩]
  extract_lets t cause u k v
  obtain ⟨hu, -, -, hirq⟩ := updNote_spec (b := 5) (by decide) 0xE00A 5 [(0, cause)] v
  rw [hu]
  refine ⟨rfl, ?_, hboot, hirq⟩
  rw [← hmig]
  rfl

/-- Before the tick of an activation or a fallback neither comes. -/
theorem not_activationDue {s : State} (h : s.activationDue = false) : doActivated s = s ∧ doFallback s = s :=
  ⟨if_neg fun hx => Bool.false_ne_true (h.symm.trans hx.1), if_neg fun hx => Bool.false_ne_true (h.symm.trans hx.1)⟩

end Sys2Proof.Machine

/-! ### The statement -/

namespace Sys2Proof.Proofs

open Sys2Proof.Machine

/-- Settles O58: each command, frame and instant at which it acts by the lemma about it. -/
theorem activationAndTrial : Obligations.ActivationAndTrial := by
  unfold Obligations.ActivationAndTrial
  refine ⟨?_, ?_, ?_⟩
  · intro g s hp hg hready hver hre
    refine ⟨fun hopen => ⟨?_, fun hbell => ?_⟩, ?_, ?_⟩
    · obtain ⟨⟨hstate, harmed, -, hshadow, hswap, htarget, hcfg, hboot⟩, hrestart⟩ :=
        updSchedule_arms hg hready hver hre hopen
      exact ⟨_, (next_whenOn hp).trans (congrArg _ (updRow_keeper 2 s)), hstate, harmed, hrestart, hshadow, hswap, htarget,
        hcfg, hboot⟩
    · obtain ⟨hstate, harmed, hsending⟩ := updActsend_arms hg hready hver hre hopen hbell
      exact ⟨_, (next_whenOn hp).trans (congrArg _ (updRow_keeper 6 s)), hstate, harmed, hsending⟩
    · intro p f htakes hok hbw hsrc hauth hserial hopen
      exact ⟨_, next_whenOn hp, activateRx_arms hg hready hver hre htakes hok hbw hsrc hauth hserial hopen⟩
    · intro p f htakes hsrc
      exact (next_whenOn hp).trans (congrArg _ (activateRx_stranger htakes hsrc))
  · intro s hp
    refine ⟨fun hsched hopen => ?_, fun hsched hopen => ?_, fun htrial hmig hopen => ?_, fun htrial => ?_⟩
    · exact ⟨_, (next_whenOn hp).trans (congrArg _ (updRow_keeper 3 s)), updCancel_spec hsched hopen⟩
    · exact (next_whenOn hp).trans (congrArg _ ((updRow_keeper 3 s).trans
        ((if_neg (not_not.2 hsched)).trans (if_pos hopen))))
    · exact ⟨_, (next_whenOn hp).trans (congrArg _ (updRow_keeper 4 s)), updConfirm_spec htrial hmig hopen⟩
    · exact ⟨_, (next_whenOn hp).trans (congrArg _ (updRow_keeper 5 s)), updMigfail_spec htrial⟩
  · intro s hp
    refine ⟨fun hdue hsched hre hguard => ?_, fun hdue => ?_, fun hdue hsched => ?_, fun hdue htrial => ?_, fun hdue => ?_⟩
    · obtain ⟨hupd, hram⟩ := bootRecordWrite_spec hdue hsched hre hguard
      have hwritten : (doBootRecordWrite s).upd.written = true := by rw [hupd]
      refine ⟨_, next_whenOn hp, hwritten, ?_, ?_, ?_, ?_, ?_, recordDue_of_written hwritten, hram⟩ <;>
        rw [hupd] <;> rfl
    · exact (next_whenOn hp).trans (congrArg _ (if_pos (by rw [hdue]; rfl)))
    · exact ⟨_, next_whenOn hp, activated_spec hdue hsched⟩
    · exact ⟨_, next_whenOn hp, fallback_spec hdue htrial⟩
    · obtain ⟨hact, hfall⟩ := not_activationDue hdue
      exact ⟨(next_whenOn hp).trans (congrArg _ hact), (next_whenOn hp).trans (congrArg _ hfall)⟩

end Sys2Proof.Proofs
end

section
/-! SUPPORT. The refutation of the statement of 22_electrical.md and 23_register_map.md about module resets and the service
port. A write of a core that stands behind the service port's write of the same register in a cycle belongs to the next cycle
(R15): its step passes one cycle of the time bases, and is not a change of the head registers and event lines alone. -/

namespace Sys2Proof.Machine

/-- REGISTER_WRITE of a whole aligned word by a requester of this module is the write of that register. -/
theorem doRegisterWrite_word {rq : Requester} {addr : Nat} (hrq : rq ≠ .fabric) (ha : addr % 4 = 0) (v : Word) (s : State) :
    doRegisterWrite rq addr 4 v s = regWrite rq addr v s := by
  have hwhole : wholeWord addr 4 = true := by rw [wholeWord, ha]; rfl
  rw [doRegisterWrite, if_neg hrq, accessWrite, if_pos hwhole]

/-- So its step answers with that write. -/
theorem exec_registerWrite_word {rq : Requester} {addr : Nat} {s : State} (hrq : rq ≠ .fabric) (ha : addr % 4 = 0) (v : Word)
    (hp : s.powered = true) : exec (.registerWrite rq addr 4 v) s = .next (regWrite rq addr v s) :=
  (next_whenOn hp).trans (congrArg _ (doRegisterWrite_word hrq ha v s))

/-- The service port has written the interrupt enables of SYS in the cycle in progress. -/
def enablesWritten : State := regWrite .service (Block.sys.base + 0x10) 0 State.reset

/-- Keeper level's write of that register passes one cycle of TB0. -/
theorem enablesWritten_passes : enablesWritten.powered = true ∧ enablesWritten.tb0 = 0 ∧
    (regWrite .keeper (Block.sys.base + 0x10) 0 enablesWritten).tb0 ≠ 0 := by decide +kernel

end Sys2Proof.Machine

/-! ### The statement -/

namespace Sys2Proof.Proofs

open Sys2Proof.Machine

/-- Refutes O60: keeper level's write of IRQ_ENABLE behind the service port's of the same cycle waits for the next cycle, in
which TB0 has moved on. -/
theorem not_resetsAndServicePort : ¬ Obligations.ResetsAndServicePort := by
  rintro ⟨-, hport⟩
  obtain ⟨hpowered, hbefore, hafter⟩ := enablesWritten_passes
  obtain ⟨-, -, -, -, henable⟩ := hport enablesWritten hpowered
  obtain ⟨t, hnext, -, -, -, -, -, hframe⟩ := henable .keeper .sys 0 (by decide) (by decide) (by decide)
  have hstate : regWrite .keeper (Block.sys.base + 0x10) 0 enablesWritten = t :=
    Host.Outcome.next.inj ((exec_registerWrite_word (by decide) (by decide) 0 hpowered).symm.trans hnext)
  have htime : t.time = enablesWritten.time := by
    have h := congrArg State.time hframe
    exact h
  have htb0 : t.tb0 = enablesWritten.tb0 := tb0_congr htime
  rw [hstate, htb0, hbefore] at hafter
  exact hafter rfl

end Sys2Proof.Proofs
end
